-- ==== Sys2Proof/Word.lean ====
section
/-!
DEFINITION. The words the controller computes with: the 32-bit native word of R28, bytes, 64-byte lines, and the
numbered units of R8.
-/
namespace Sys2Proof

/-- The native word (R28). -/
abbrev Word := BitVec 32
/-- One byte. -/
abbrev Byte := BitVec 8
/-- The 64 bytes of a line, byte 0 in the least significant bits. -/
abbrev LineData := BitVec 512
/-- A byte address of the device physical address space (48-bit DPA, R28), as a number. -/
abbrev Dpa := BitVec 48
/-- DRAM channel 0 to 15 (R8). -/
abbrev ChId := Fin 16
/-- NAND channel 0 to 31 (R8). -/
abbrev NfId := Fin 32
/-- CXL port P0 to P7 (R8). -/
abbrev PortId := Fin 8
/-- CXL link within a port, 0 to 3 (R260). -/
abbrev LinkId := Fin 4
/-- Carriageway, tier engine or Ethernet port 0 to 3 (R8). -/
abbrev CwId := Fin 4
/-- Energy pack 0 to 3 (R440). -/
abbrev PackNo := Fin 4

end Sys2Proof
end

