-- ==== Sys2Proof/Machine/Types.lean ====
section
/-!
DEFINITION. The parts the state is made of, one section for each chapter of the spec that gives them, and the operand
types of the commands. All of it is plain data.
-/
namespace Sys2Proof.Machine

/-! ## Who writes a register -/

/-- Who writes or reads a register (R421, word 6 of CFG_REJECT): a host through BAR0, the BMC through the register
messages of R482, or the firmware of the control complex. -/
inductive Writer where | host | bmc | firmware
  deriving DecidableEq, Repr

/-! ## Lines, requesters and what the controller sends out -/

/-- A stored 64-byte line: its plaintext, its waybill (R179) and whether it is poisoned. Encryption and the line code are
inverses on the path to and from the medium, so the state holds the line they protect (log entry 4). -/
structure Line where
  data   : LineData
  wb     : Word
  poison : Bool
  deriving DecidableEq, Repr

/-- Who waits for a read or a write: a host over a CXL link, an RDMA queue pair, a long operation, the twin, or nobody. -/
inductive Requester where
  | host (port : Nat) (ld : Nat) (tag : Nat)
  | rdma (qp : Nat) (psn : Nat) (line : Nat)
  | op (slot : Nat) (line : Nat)
  | btt (stream : Nat) (msg : Nat) (line : Nat)
  | internal
  deriving DecidableEq, Repr

/-- What the controller sends out: completions, records, packets and responses, in the order it sends them (log entry 5).
Payloads are words or numbers laid out as the rule of the constructor's docstring says. -/
inductive Out where
  /-- data of a read: requester, line index, data, poison, DevLoad (R23, R66, R269) -/
  | readData (req : Requester) (line : Nat) (data : LineData) (poison : Bool) (load : Nat)
  /-- completion of a write, with DevLoad (R77, R78, R269) -/
  | writeDone (req : Requester) (load : Nat)
  /-- completion record written at a CQ entry (R321): ring, entry, words 0 to 3 -/
  | cqRecord (ring : Nat) (entry : Nat) (w0 w1 w2 w3 : Nat)
  /-- MSI-X vector of a ring (R315) or of the event interrupt policy (R284) -/
  | msix (ring : Nat) (vector : Nat)
  /-- answer of a mailbox, FM or DOE command: port, LD, opcode, return code, payload (R284, R267, R282) -/
  | mailbox (port : Nat) (ld : Nat) (opcode : Nat) (rc : Nat) (payload : List Nat)
  /-- dynamic capacity event to an LD: port, LD, 0 add, 1 release, 2 forced release, extent base and size (R275) -/
  | dcEvent (port : Nat) (ld : Nat) (kind : Nat) (base : Nat) (size : Nat)
  /-- global persistent flush phase completed on a link (R94) -/
  | gpfDone (port : Nat) (link : Nat) (phase : Nat)
  /-- BTT packet or message on the twin link: path, type, fields (chapter 09) -/
  | btt (path : Nat) (type : Nat) (fields : List Nat)
  /-- RDMA packet: queue pair, BTH opcode class, fields (chapter 11) -/
  | rdma (qp : Nat) (kind : Nat) (fields : List Nat)
  /-- answer to a register read of the host or of the BMC: offset and words -/
  | regData (bmc : Bool) (offset : Nat) (words : List Nat)
  /-- MCTP, PLDM or vendor message to the BMC: bus, message type, command (with its PLDM type × 256), completion code, payload (R479) -/
  | mgmt (bus : Nat) (type : Nat) (cmd : Nat) (cc : Nat) (payload : List Nat)
  /-- SPDM response: transport (1 DOE, 2 MCTP, 3 twin), request (1 GET_MEASUREMENTS, 2 KEY_EXCHANGE, 3 SET_HKEK), whether it was accepted,
  payload (chapter 14) -/
  | spdm (transport : Nat) (cmd : Nat) (ok : Bool) (payload : List Nat)
  /-- stack bus message: kind and fields (R468) -/
  | stack (kind : Nat) (fields : List Nat)
  /-- JTAG data shifted out: instruction and value (R459) -/
  | jtag (instr : Nat) (value : Nat)
  /-- answer to a program or erase request of the control complex (R389): status code of R322 -/
  | flash (status : Nat)
  /-- a level or a pulse driven on a pin: name code and level -/
  | pin (name : Nat) (level : Nat)
  deriving DecidableEq, Repr

/-! ## Command sources and completion (chapter 12) -/

/-- Status codes of R322. -/
inductive Status where
  | ok | busy | invalid | noSpace | cancelled | suspended | gateExpired | torn | dataError | partnerAbsent | unarmed
  | notPermitted | conflict | timeout | keyAbsent | bankConflict
  deriving DecidableEq, Repr

/-- The encoding of R322. -/
def Status.code : Status → Nat
  | .ok => 0x00 | .busy => 0x01 | .invalid => 0x02 | .noSpace => 0x03 | .cancelled => 0x04 | .suspended => 0x05
  | .gateExpired => 0x06 | .torn => 0x07 | .dataError => 0x08 | .partnerAbsent => 0x09 | .unarmed => 0x0A
  | .notPermitted => 0x0B | .conflict => 0x0C | .timeout => 0x0D | .keyAbsent => 0x0E | .bankConflict => 0x0F

/-- Who a command's completion goes to: a ring, with the descriptor's TAG, OPCODE and IRQ (R320, R321), the mailbox of
a logical device (R284), or nobody (an operation the controller starts by itself). -/
inductive CmdSrc where
  | ring (r : Nat) (tag : Word) (opcode : Nat) (irq : Bool)
  | mailbox (port : Nat) (ld : Nat) (opcode : Nat)
  | rdma (qp : Nat) (psn : Nat)
  | internal
  deriving DecidableEq, Repr

/-- A descriptor (R320): the ring it was taken from, and its fields; `ops` holds words 2 to 15. -/
structure Desc where
  ring    : Fin 256
  opcode  : BitVec 8
  ordered : Bool
  irq     : Bool
  tag     : Word
  ops     : List Word
  deriving DecidableEq, Repr

/-- The opcodes of R324. -/
def opcodes : List Nat :=
  [0x01, 0x02, 0x03, 0x04, 0x10, 0x11, 0x12, 0x13, 0x20, 0x21, 0x22, 0x23, 0x24, 0x30, 0x31, 0x32, 0x33, 0x40, 0x41, 0x42, 0x43,
   0x50, 0x51, 0x60, 0x70, 0x71, 0x72, 0x73]

/-! ## Modes (chapter 02) -/

/-- The twelve modes of R29. -/
inductive Mode where
  | off | standby | boot | restore | service | degraded | quiescent | drain | save | resync | recovery | maintenance
  deriving DecidableEq, Repr

/-- The mode code of R29. -/
def Mode.code : Mode → Nat
  | .off => 0x0 | .standby => 0x1 | .boot => 0x2 | .restore => 0x3 | .service => 0x4 | .degraded => 0x5
  | .quiescent => 0x6 | .drain => 0x7 | .save => 0x8 | .resync => 0x9 | .recovery => 0xA | .maintenance => 0xB

/-- What caused a mode change: the trigger codes of R42. -/
inductive Trigger where
  | cause | host | bmc | pwrFail | railTrip | mgmt | wake | workDone | quiesced | activity | reset | recovery | latched
  deriving DecidableEq, Repr

/-- The trigger code of R42. -/
def Trigger.code : Trigger → Nat
  | .cause => 0x0 | .host => 0x1 | .bmc => 0x2 | .pwrFail => 0x3 | .railTrip => 0x4 | .mgmt => 0x5 | .wake => 0x6
  | .workDone => 0x7 | .quiesced => 0x8 | .activity => 0x9 | .reset => 0xA | .recovery => 0xB | .latched => 0xC

/-- Who asks for a mode and where the answer goes (R482, R485, R539): GLB_MODE_REQ as written by the host or by the BMC, the vendor command
MODE_REQ or the PLDM mode effecter of a management bus, or the controller itself. -/
inductive ModeAsk where
  | host | bmcReg | vendor (bus : Fin 2) | effecter (bus : Fin 2) | itself
  deriving DecidableEq, Repr

/-- The request comes from the BMC. -/
def ModeAsk.bmc : ModeAsk → Bool
  | .bmcReg | .vendor _ | .effecter _ => true
  | .host | .itself => false

/-- The trigger of a request (R42). -/
def ModeAsk.trigger : ModeAsk → Trigger
  | .host => .host
  | .itself => .mgmt
  | .bmcReg | .vendor _ | .effecter _ => .bmc

/-- The mode controller (R29 to R44, R539). -/
structure ModeCtl where
  /-- GLB_MODE.MODE -/
  mode : Mode
  /-- GLB_MODE.PREV_MODE, a mode code -/
  prev : BitVec 4
  /-- GLB_MODE.DEG_CAUSE, bit 0 being bit 8 of the register (R30) -/
  causes : BitVec 5
  /-- GLB_MODE.MODE_SEQ -/
  seq : BitVec 16
  /-- GLB_MODE_REQ.RESULT, a status code of R322 -/
  result : BitVec 8
  /-- a maintenance request latched for the next BOOT (R539) -/
  latchedMaint : Bool
  /-- a maintenance request pending on the running drain (R539) -/
  drainMaint : Bool
  /-- the latched maintenance request was there before the running BOOT began (R31) -/
  bootMaint : Bool
  /-- mode requests that arrived during SAVE, in order: target code and asker (R33) -/
  saveReqs : List (Nat × ModeAsk)
  /-- the next MODE_CHANGE is the first since power-on: the mode before SAVE, for R100 -/
  beforeSave : Mode
  deriving DecidableEq, Repr

/-! ## Power, clocks and reset (chapter 22) -/

/-- A wake held as pending in STANDBY (R497): from the board or a strap, or a management request. -/
inductive PendingWake where | board | mgmt (ask : ModeAsk)
  deriving DecidableEq, Repr

/-- The levels of the strap pins where they are sampled (R495). -/
structure Straps where
  stackId   : BitVec 2
  autoWake  : Bool
  recoveryN : Bool
  deriving DecidableEq, Repr

/-- What acts as a wake source in STANDBY (R497). -/
inductive WakeSource where | boardRise | autoWake | mgmt
  deriving DecidableEq, Repr

/-- The power sequencer, supplies and reset inputs (R494 to R502, R507 to R511, R541). -/
structure Power where
  /-- VDD_AON in range (GLB_PWR_STAT.AON_OK) -/
  aonOk : Bool
  /-- VDD_IO in range (GLB_PWR_STAT.IO_OK) -/
  ioOk : Bool
  /-- level of BRD_PG -/
  brdPg : Bool
  /-- level of PWR_FAIL_N -/
  pwrFailN : Bool
  /-- PWR_FAIL_N and BRD_PG have both been high for 10 ms: main power counts as back (R502) -/
  mainBack : Bool
  /-- RAIL_EN[5:0] as driven -/
  railEn : BitVec 6
  /-- GLB_PWR_STAT.RAIL_OK -/
  railOk : BitVec 6
  /-- rails that have written RAIL_FAULT and are not back (R541) -/
  railFault : BitVec 6
  /-- the rail a running power-up sequence waits for (R497); `none`: no sequence runs -/
  seqRail : Option (Fin 6)
  /-- enables the running sequence raised (R498) -/
  seqRaised : BitVec 6
  /-- every main rail is in range and the internal resets are about to be released (R497) -/
  seqReady : Bool
  /-- GLB_PWR_STAT.FAIL_RAIL -/
  failRail : BitVec 3
  /-- a wake held as pending (R497) -/
  pendingWake : Option PendingWake
  /-- GLB_PWR_STAT.DDR_KEPT (R502) -/
  ddrKept : Bool
  /-- latched excursion of VDDQ_DDR since the start of SAVE (R502) -/
  vddqExcursion : Bool
  /-- GLB_STRAP.STACK_ID -/
  strapStackId : BitVec 2
  /-- GLB_STRAP.AUTO_WAKE -/
  strapAutoWake : Bool
  /-- GLB_STRAP.RECOVERY: RECOVERY_N was sampled low -/
  strapRecovery : Bool
  /-- SYS_RST_N is low -/
  rstLow : Bool
  /-- GLB_RST_CAUSE.HELD -/
  rstHeld : Bool
  /-- GLB_RST_CAUSE.BOOT_CAUSE -/
  bootCause : BitVec 3
  /-- GLB_RST_CAUSE.BOOTS -/
  boots : BitVec 16
  /-- last confirmed VDD_CORE voltage in mV (R496) -/
  avsMv : Nat
  /-- requested VDD_CORE voltage not yet confirmed -/
  avsReq : Option Nat
  /-- the unconfirmed change was retried once -/
  avsRetried : Bool
  /-- device time of the last entry to BOOT -/
  bootAt : Nat
  /-- a cold BOOT (R525): the lowest thermal reading at its entry, until training starts -/
  cold : Option Int
  deriving DecidableEq, Repr

/-- Reference clocks and the device timebase (R503 to R506). -/
structure Clocks where
  /-- GLB_CLK_STAT.CXL_REF -/
  cxlRef : BitVec 4
  /-- GLB_CLK_STAT.ETH_REF -/
  ethRef : BitVec 2
  /-- GLB_CLK_STAT.SYS25 -/
  sys25 : Bool
  /-- GLB_CLK_STAT.XTAL -/
  xtal : Bool
  /-- GLB_CLK_STAT.HOLDOVER -/
  holdover : Bool
  /-- GLB_CLK_STAT.TB_LOCK -/
  tbLock : Bool
  /-- the timebase has locked since VDD_AON power-on, so the device time is known (R411, R416, R446) -/
  timeKnown : Bool
  /-- GLB_CLK_STAT.PPS_IN -/
  ppsIn : Bool
  /-- GLB_TB_OFFSET.OFFSET_NS, two's complement -/
  tbOffset : BitVec 32
  /-- carriageway fast clocks running (R39) -/
  cwClock : BitVec 4
  /-- junction clock running (R39) -/
  jctClock : Bool
  /-- references whose loss was logged and that have not returned: bits as REFCLK_LOST word 4 (R505) -/
  refLost  : BitVec 7
  deriving DecidableEq, Repr

/-! ## The event log (chapter 17) -/

/-- Severity of an event record (R414). -/
inductive Sev where | info | notice | error | critical
  deriving DecidableEq, Repr

/-- The severity code of R414, which also orders the severities for R418. -/
def Sev.code : Sev → Nat | .info => 0 | .notice => 1 | .error => 2 | .critical => 3

/-- One event record (R414) and the slot that holds it. -/
structure LogRec where
  slot     : Nat
  seq      : BitVec 32
  time     : BitVec 64
  code     : BitVec 16
  sev      : Sev
  source   : BitVec 8
  acked    : Bool
  synced   : Bool
  summary  : Bool
  restored : Bool
  copied   : Bool
  w4       : Word
  w5       : Word
  w6       : Word
  w7       : Word
  deriving DecidableEq, Repr

/-- An open interval of an event defined as "at most one per interval" (R420): its code and key, the time of the first
occurrence, and the parameters gathered so far. -/
structure Limiter where
  code   : Nat
  key    : Nat
  sev    : Sev
  source : Nat
  start  : Nat
  w4     : Nat
  w5     : Nat
  w6     : Nat
  w7     : Nat
  deriving DecidableEq, Repr

/-- The open CFG_REJECT window of R421: rejections so far, and time and words 4 to 7 of the first folded one. -/
structure RejWindow where
  count  : Nat
  folded : Option (Nat × Nat × Nat × Nat × Nat)
  deriving DecidableEq, Repr

/-- The event log (R414 to R425). -/
structure EvtLog where
  /-- the records present, in the order they were written -/
  recs     : List LogRec
  /-- EVT_HEAD: the next sequence number -/
  nextSeq  : BitVec 32
  /-- open limiter intervals -/
  limiters : List Limiter
  /-- open CFG_REJECT window -/
  rejects  : Option RejWindow
  deriving DecidableEq, Repr

/-! ## Regions and address decode (chapter 03) -/

/-- The region classes of R50. -/
inductive RgnClass where | resident | cached | streamed | scratch
  deriving DecidableEq, Repr

/-- The CLASS code of R57. -/
def RgnClass.code : RgnClass → Nat | .resident => 0 | .cached => 1 | .streamed => 2 | .scratch => 3

/-- The mirror attribute of a region (R57); the code 0b11 is reserved. -/
inductive Mirror where | none | async | sync
  deriving DecidableEq, Repr

/-- The MIRROR code of R57. -/
def Mirror.code : Mirror → Nat | .none => 0 | .async => 1 | .sync => 2

/-- Words 0 to 4 of a region table entry (R57); words 5 and 6 are computed from the page directory and the stored
lines. -/
structure Region where
  valid     : Bool
  damaged   : Bool
  released  : Bool
  cls       : RgnClass
  persist   : Bool
  mirror    : Mirror
  shared    : Bool
  refilling : Bool
  gen       : BitVec 16
  /-- DPA[47:21] of the first byte -/
  base      : BitVec 27
  /-- length in 2 MiB units -/
  size      : BitVec 27
  key       : BitVec 12
  ownerSet  : BitVec 8
  /-- POOL_OR_PART -/
  place     : BitVec 4
  frameBase : BitVec 31
  deriving DecidableEq, Repr

/-- An entry that describes no region. -/
def Region.empty : Region :=
  ⟨false, false, false, .resident, false, .none, false, false, 0, 0, 0, 0, 0, 0, 0⟩

/-- An HDM decoder of a logical device (R47, R48). -/
structure Hdm where
  base      : BitVec 52
  size      : BitVec 52
  /-- interleave ways as a number -/
  ways      : Nat
  /-- log2 of the interleave granularity in bytes -/
  ig        : Nat
  /-- DPA skip in bytes -/
  skip      : BitVec 48
  committed : Bool
  /-- Error Not Committed -/
  error     : Bool
  locked    : Bool
  deriving DecidableEq, Repr

/-- A decoder as the configuration space holds it at reset. -/
def Hdm.empty : Hdm := ⟨0, 0, 1, 8, 0, false, false, false⟩

/-- One commit of the region, pool and owner-set tables (R63): region entries and owner sets written, and remap slots
set (pool, slot, VALID, MEMBER, TARGET_CH, TARGET_BASE_GIB). -/
structure Commit where
  entries : List (Nat × Region)
  sets    : List (Nat × BitVec 128)
  remaps  : List (Nat × Nat × Bool × Nat × Nat × Nat)
  deriving DecidableEq, Repr

/-- What a region command in progress does once its commit has been made (R59 to R62). -/
inductive RgnOpKind where
  | create | destroy | modify | bind | migrate | promote | demote
  deriving DecidableEq, Repr

/-- How far a region command has come: its commit is still to be made, it waits for the requests of the old epoch
(R62), or for its tables to be durable (R58). -/
inductive RgnOpStage where | waitCommit | waitDrain | waitDurable
  deriving DecidableEq, Repr

/-- A region command in progress (R58): the region it names, the DPA range it reserves, its commit, and the completion
it will write. -/
structure RgnOp where
  kind    : RgnOpKind
  idx     : Nat
  base    : Nat
  size    : Nat
  commit  : Commit
  stage   : RgnOpStage
  src     : CmdSrc
  param   : Nat
  /-- the entry before the command -/
  old     : Region
  deriving DecidableEq, Repr

/-- The region, owner-set and HDM tables and the commit machinery (R45 to R66). -/
structure Regions where
  /-- the committed region table, by region index; an unlisted index holds no region -/
  table    : List (Nat × Region)
  /-- the committed owner-set table; an unlisted index holds the empty set -/
  sets     : List (Nat × BitVec 128)
  /-- HDM decoders, by (16 × port + LD) × 4 + decoder -/
  hdm      : List (Nat × Hdm)
  /-- RGN_STATUS.EPOCH -/
  epoch    : BitVec 16
  /-- RGN_STATUS.DRAINING -/
  draining : Bool
  /-- commits that wait for the drain (COMMIT_PENDING) -/
  waiting  : List Commit
  /-- region commands in progress, in the order they were taken -/
  ops      : List RgnOp
  /-- commit edges made and not yet durable in the NAND metadata area (R63) -/
  undurable : Nat
  /-- the region and owner-set tables as they are durable in the NAND metadata area (R63) -/
  durTable : List (Nat × Region)
  durSets  : List (Nat × BitVec 128)
  /-- RGN_DPA_LIMIT.LIMIT_GIB -/
  limitGib : BitVec 18
  /-- GEN of a region when it was bound to an LD, by 128 × region + 16 × port + LD (R274) -/
  bindGens : List (Nat × Nat)
  deriving DecidableEq, Repr

/-! ## NAND media (chapter 08) -/

/-- Where a home codeword lies (R207): NAND channel, die, block, and codeword within the block (4 × page + slot). -/
structure HomeLoc where
  ch    : Nat
  die   : Nat
  block : Nat
  word  : Nat
  deriving DecidableEq, Repr

/-- States of a NAND channel (R202). -/
inductive NfState where | absent | serving | evacuating | retired | failed
  deriving DecidableEq, Repr

/-- NF_STATE.STATE. -/
def NfState.code : NfState → Nat | .absent => 0 | .serving => 1 | .evacuating => 2 | .retired => 3 | .failed => 4

/-- What a block holds: erased, open for programs, closed, or erasing. -/
inductive BlockUse where | erased | opened | closed | erasing
  deriving DecidableEq, Repr

/-- A block (R211, R213, R218, R221): erase counter, status as NF_EC_DATA reports it, use, codewords programmed, the starting
step of the ladder, times of its deep reads, and refresh moves since its last erase. -/
structure NandBlock where
  ec     : Nat
  status : Nat
  state  : BlockUse
  used   : Nat
  step   : Nat
  deep   : List Nat
  moves  : Nat
  deriving DecidableEq, Repr

/-- A good erased block that has never been erased. -/
def NandBlock.fresh : NandBlock := ⟨0, 0, .erased, 0, 1, [], 0⟩

/-- A running erase (R216, R217): when it was suspended, its suspended time so far, whether its guard has fired and whether it
has counted as starved. -/
structure NandErase where
  ch        : Nat
  die       : Nat
  block     : Nat
  suspended : Option Nat
  total     : Nat
  guarded   : Bool
  starved   : Bool
  deriving DecidableEq, Repr

/-- A NAND channel (R200 to R202): its state, I/O mode, rate code, failed dies and I/O trainings failed in succession. -/
structure NandCh where
  st      : NfState
  io      : Nat
  rate    : Nat
  failed  : List Nat
  ioFails : Nat
  dies    : Nat
  deriving DecidableEq, Repr

/-- A channel without a module. -/
def NandCh.absent : NandCh := ⟨.absent, 0, 0, [], 0, 0⟩

/-- What the parameter pages of the accepted dies give (R200, R201): cell type (1 TLC, 2 QLC), planes, pages per block,
blocks per die, die capacity in GiB, codewords of an SLC block, and rated cycles. -/
structure NandGeom where
  cell      : Nat
  planes    : Nat
  pages     : Nat
  blocks    : Nat
  dieGib    : Nat
  slcWords  : Nat
  peRated   : Nat
  deriving DecidableEq, Repr

/-- What the parameter page of a die gives (R200): readable and passing its check; ONFI version times ten; I/O (1 NV-DDR3 single-ended,
2 NV-DDR3 complementary, 3 NV-LPDDR4) and its highest rate in MT/s; cell type (1 TLC, 2 QLC, 0 another); density in Gbit; data and spare
bytes of a page; planes; pages per block; blocks per die; the required features; codewords of an SLC-mode block; rated cycles. -/
structure DieParam where
  readable : Bool
  onfi     : Nat
  io       : Nat
  mts      : Nat
  cell     : Nat
  gbit     : Nat
  page     : Nat
  spare    : Nat
  planes   : Nat
  pages    : Nat
  blocks   : Nat
  features : Bool
  slcWords : Nat
  peRated  : Nat
  deriving DecidableEq, Repr

/-- A NAND module as the controller finds it: LUNs per target (0 one, 1 two, 2 four, so that a channel has 8, 16 or 32 dies), the
parameter page of its dies, the dies that differ (by 32 × channel of the module + die), and what is known of its blocks: their
numbers as 16384 × (32 × channel of the module + die) + block, with erase counter and status from the controller's metadata, or
with the factory defect marks when it holds none (R221). -/
structure NandModule where
  luns   : Fin 3
  common : DieParam
  odd    : List (Nat × DieParam)
  known  : Bool
  blocks : List (Nat × Nat × Nat)
  deriving DecidableEq, Repr

/-- The NAND media and their controller (R200 to R226). -/
structure Nand where
  /-- modules present -/
  modules   : BitVec 4
  chans     : List (Nat × NandCh)
  geom      : Option NandGeom
  /-- modules whose dies have been initialised (R221) -/
  inited    : BitVec 4
  /-- blocks, by (32 × channel + die) × 16384 + block -/
  blocks    : List (Nat × NandBlock)
  erases    : List NandErase
  /-- dies whose free-pool alarm is raised: 32 × channel + die -/
  alarms    : List Nat
  /-- the home map: a page that it does not list is TRIMMED -/
  map       : List (Nat × HomeLoc)
  /-- content of the home codewords by line index; an unlisted line holds zeros -/
  home      : List (Nat × Line)
  /-- rails below their brown-out level: bit 0 VCCQ_NAND, bit 1 the module supply; operations blocked -/
  brownout  : BitVec 2
  /-- home codewords programmed since the last map checkpoint -/
  sinceCkpt : Nat
  /-- programs of the last day: time, home codewords, all codewords (R219) -/
  programs  : List (Nat × Nat × Nat)
  /-- the token bucket of R219 in codewords, when it was last filled, and when ENDURANCE_OVER was last logged -/
  tokens    : Int
  tokenAt   : Nat
  overAt    : Option Nat
  /-- erases of the two image block sets -/
  imageErases : Nat × Nat
  /-- map codewords (of 512 entries) changed since the last map checkpoint (R209, R210) -/
  mapDirty  : List Nat
  /-- pages whose home went with a module and is not programmed again yet (R473) -/
  lost      : List Nat
  deriving DecidableEq, Repr

/-- The media before any module is accepted. -/
def Nand.reset : Nand :=
  { modules := 0, chans := [], geom := none, inited := 0, blocks := [], erases := [], alarms := [], map := [], home := [],
    brownout := 0, sinceCkpt := 0, programs := [], tokens := 0, tokenAt := 0, overAt := none, imageErases := (0, 0), mapDirty := [], lost := [] }

/-! ## Persistence (chapter 04) -/

/-- Guard states (R89). -/
inductive Guard where | unarmed | thin | armed
  deriving DecidableEq, Repr

/-- PER_GUARD.STATE. -/
def Guard.code : Guard → Nat | .unarmed => 0 | .thin => 1 | .armed => 2

/-- What a save image is: free, being written by a save, or sealed and pending (R95, R104). `erasing`: it became free
and its blocks are still to be erased (R222). -/
inductive ImageState where | free | erasing | writing | unsealed | pending
  deriving DecidableEq, Repr

/-- One save image (R95 to R102): its intent record, the pages and line records it holds, its metadata and its seal. -/
structure Image where
  st       : ImageState
  seq      : BitVec 32
  time     : Nat
  /-- intent record: guard state, count, and regions with counted pages (R96, step 3) -/
  guard    : Guard
  count    : Nat
  map      : List Nat
  intentOk : Bool
  trigger  : Nat
  epoch    : BitVec 16
  predSeq  : BitVec 32
  /-- pages held, and their lines by line index -/
  pages    : List Nat
  lines    : List (Nat × Line)
  /-- line records: line index and line (R96, step 2) -/
  recs     : List (Nat × Line)
  summaries : Nat
  twinUnsent : Nat
  /-- metadata (R96, step 5) -/
  table    : List (Nat × Region)
  sets     : List (Nat × BitVec 128)
  bitmap   : List Nat
  log      : List LogRec
  /-- the seal record is programmed -/
  sealedOk : Bool
  /-- WARM of the seal record: DRAM stayed powered until the seal (R98) -/
  sealWarm : Bool
  /-- regions with lines the save could not read (R151) -/
  damaged  : List Nat
  /-- a warm return is under way: channels of the image still wake (R152) -/
  warm     : Bool
  deriving DecidableEq, Repr

/-- An image that holds nothing. -/
def Image.empty : Image :=
  ⟨.free, 0, 0, .unarmed, 0, [], false, 0, 0, 0, [], [], [], 0, 0, [], [], [], [], false, false, [], false⟩

/-- A write waiting in an admission queue (R82): carriageway, line, data, byte enables, who waits, when it entered, and
the stall limit that applied when it entered. -/
structure AdmWrite where
  cw    : Nat
  line  : Nat
  data  : LineData
  be    : BitVec 64
  poison : Bool
  req   : Requester
  start : Nat
  limit : Nat
  epoch : BitVec 16
  deriving DecidableEq, Repr

/-- A write-through of a page (R79): lines coalesced so far, who waits for it, and whether its program has started. -/
structure WriteThrough where
  page    : Nat
  lines   : List Nat
  waiters : List Requester
  started : Bool
  /-- writes to a page of a blocked set, which are programmed without a frame (R117): line, data, byte enables, poison -/
  direct  : List (Nat × LineData × BitVec 64 × Bool)
  /-- when its first line came, whether a first program failure has been seen, and where it is programmed -/
  since   : Nat
  failed  : Bool
  loc     : Option HomeLoc
  /-- a mirrored write of it was completed by twin placement (R92) -/
  twinDone : Bool
  deriving DecidableEq, Repr

/-- The kinds of fence: FENCE_PERSIST, FENCE_TIER, FENCE_MIRROR, and a global persistent flush. -/
inductive FenceKind where | persist | tier | mirror | gpf | visible
  deriving DecidableEq, Repr

/-- A fence or a global persistent flush that waits (R92 to R94, R247): its number, the region it covers (`none`: all), what it
still waits for, and its completion. `writes`: requesters whose writes have not left the admission path or whose local programs
run. A mirror fence lists the copies not yet placed in `lines` and the 2 MiB ranges in `pages`; a
persist fence and a flush list in `lines` the pages whose local programs of writes completed by twin placement still run. -/
structure Fence where
  id      : Nat
  kind    : FenceKind
  region  : Option Nat
  pages   : List Nat
  writes  : List Requester
  lines   : List Nat
  src     : CmdSrc
  deriving DecidableEq, Repr

/-- How far the running save has come (R96). -/
inductive SaveStep where | none | landed | streaming | streamed | metadata | done
  deriving DecidableEq, Repr

/-- A planned reduction of the ceiling (R88): the derate, cap and power that the ceiling in force still uses, the packs it still
counts in full, the image capacity in pages it still uses, the new ceiling, and whether a test has found the count at or below
it. -/
structure Planned where
  target : Nat
  derate : Nat
  cap    : Nat
  watts  : Nat
  packs  : List Nat
  image  : Nat
  mbps   : Option Nat
  met    : Bool
  deriving DecidableEq, Repr

/-- The persistence unit and the at-risk accountant (R75 to R107). -/
structure Persist where
  guard      : Guard
  /-- PER_GUARD.STALL_RISK -/
  stallRisk  : Bool
  /-- PER_GUARD.UNARMED_CAUSE -/
  cause      : BitVec 5
  guardSeq   : BitVec 16
  /-- ceiling in force, in pages -/
  ceiling    : Nat
  /-- computed values above the ceiling in force in the running streak of R87: how many, and their lowest -/
  raiseCnt   : Nat
  raiseMin   : Nat
  /-- DERATE_PCT, CAP_GIB and SAVE_POWER_W as the ceiling in force uses them (R107) -/
  decl       : Nat × Nat × Nat
  /-- a planned reduction (R88) -/
  planned    : Option Planned
  /-- frames since the last valid energy measurement; at least 10,000 also before the first one (R89) -/
  noEnergyFrames : Nat
  /-- writes that left an admission queue by STALL_LIMIT: frames since the last one (R85) -/
  stallFrames : Nat
  /-- usable energy in 0.1 J, validity and packs counted (PER_ENERGY) -/
  usableDj   : Nat
  energyOk   : Bool
  packs      : BitVec 4
  /-- the last four rehearsal measurements in MB/s, newest first (R86), and channels in the last one -/
  rehearsals : List Nat
  rehChannels : Nat
  rehRunning : Bool
  adm        : List AdmWrite
  wts        : List WriteThrough
  fences     : List Fence
  gpf        : List (Nat × Nat × Fence)
  imageA     : Image
  imageB     : Image
  /-- the image the running or last save writes: false A, true B -/
  saveImage  : Bool
  saveStep   : SaveStep
  saveSeq    : BitVec 32
  saveStart  : Nat
  saveTrigger : Nat
  /-- the twin flush of the save has been cut off (R96, step 3) -/
  flushCut   : Bool
  lastResult : BitVec 3
  /-- highest SAVE_SEQ of an image already moved home (R101) -/
  homeSeq    : BitVec 32
  dirtyShutdowns : Nat
  /-- the clean-shutdown record and the event log stored with it (R31, R424) -/
  clean      : Option (List LogRec)
  deriving DecidableEq, Repr

/-! ## Tiers, plans (chapter 05) -/

/-- Page states (R115, R120). -/
inductive PageState where | invalid | filling | clean | dirty | writingBack | evicting
  deriving DecidableEq, Repr

/-- The STATE code of R115. -/
def PageState.code : PageState → Nat
  | .invalid => 0 | .filling => 1 | .clean => 2 | .dirty => 3 | .writingBack => 4 | .evicting => 5

/-- The tier directory's entry for a page (R115), for frames of RESIDENT and SCRATCH regions too (R52, R53). -/
structure Page where
  st          : PageState
  covered     : Bool
  evictIntent : Bool
  promo       : Bool
  inImage     : Bool
  age         : Nat
  pins        : Nat
  /-- the pin of stream 255 (R139) -/
  pin255      : Bool
  /-- way of the set the page holds (CACHED and STREAMED) -/
  way         : Nat
  /-- lines written while FILLING -/
  mask        : BitVec 64
  /-- the page counts in the at-risk accountant (R80) -/
  counted     : Bool
  /-- when it began to count, for the order of R99 -/
  since       : Nat
  deriving DecidableEq, Repr

/-- A page not in DRAM. -/
def Page.empty : Page := ⟨.invalid, false, false, false, false, 0, 0, false, 0, 0, false, 0⟩

/-- A read waiting for a fill, a tile or a wake (R53, R117, R123, R134): who reads, the line, when it passed the region
lookup, whether it is served by a bypass fill, and whether it waits for a window tile. -/
structure PendingRead where
  req    : Requester
  line   : Nat
  start  : Nat
  bypass : Bool
  window : Bool
  epoch  : BitVec 16
  deriving DecidableEq, Repr

/-- A fill in progress (R121, R211, R212): the page, the pending image it comes from (`none`: its home), its start, the ladder
step that runs and the steps tried before it, and whether no further hard step starts. `twin`: the page has been asked for
from the twin (R122), and the lines it has returned. -/
structure Fill where
  page  : Nat
  image : Option Bool
  start : Nat
  step  : Nat
  tried : List Nat
  cut   : Bool
  twin  : Bool
  got   : List (Nat × Line)
  deriving DecidableEq, Repr

/-- A write-back whose program runs (R120): the lines as they were read, whether a first program failure has been seen
(R214), and where it is programmed. -/
structure WriteBack where
  page   : Nat
  lines  : List Line
  failed : Bool
  loc    : HomeLoc
  deriving DecidableEq, Repr

/-- An entry record of a plan (R129), fields as laid out there. -/
structure PlanEntry where
  kind   : Nat
  elem   : Nat
  layout : Nat
  src    : Nat
  pitch  : Nat
  rowsM1 : Nat
  colsM1 : Nat
  dst    : Nat
  deriving DecidableEq, Repr

/-- A layer record of a plan (R128). -/
structure PlanLayer where
  first   : Nat
  entries : Nat
  advance : Nat
  deriving DecidableEq, Repr

/-- A stream record of a plan (R127). -/
structure PlanStream where
  depth   : Nat
  loop    : Bool
  msIndex : Nat
  first   : Nat
  layers  : Nat
  slot    : Nat
  deriving DecidableEq, Repr

/-- A plan image (R126 to R129) as held in the plan store. -/
structure PlanImage where
  length   : Nat
  window   : Nat
  msPage   : Nat
  slot64k  : Nat
  slotBase : Nat
  streams  : List PlanStream
  layers   : List PlanLayer
  entries  : List PlanEntry
  deriving DecidableEq, Repr

/-- A loaded plan (R135, R136). `stopBy`: the PLAN_STOP in progress, with its UNLOAD flag. -/
structure Plan where
  slot        : Nat
  image       : PlanImage
  firstStream : Nat
  started     : Bool
  stopBy      : Option (CmdSrc × Bool)
  startOp     : Option Nat
  deriving DecidableEq, Repr

/-- Stream states (R133). -/
inductive StreamState where | idle | staging | held | late | done | stopped
  deriving DecidableEq, Repr

/-- TIER_STREAM_STAT.STATE, in the order of R133. -/
def StreamState.code : StreamState → Nat
  | .idle => 0 | .staging => 1 | .held => 2 | .late => 3 | .done => 4 | .stopped => 5

/-- A stream of a loaded plan (R130 to R134). Layers are counted over every pass of a looping stream. -/
structure Stream where
  number   : Nat
  plan     : Nat
  idx      : Nat
  st       : StreamState
  ready    : BitVec 32
  release  : BitVec 32
  msBase   : BitVec 32
  /-- layers completed in order, so READY is the milestone of layer `done - 1` -/
  done     : Nat
  /-- layers released in order -/
  released : Nat
  /-- (layer, entry) placed and not yet part of an in-order completed layer -/
  placed   : List (Nat × Nat)
  /-- (layer, entry) in flight, in plan order (at most 16) -/
  inflight : List (Nat × Nat)
  /-- pages pinned: (layer after which the pin drops, page) -/
  pins     : List (Nat × Nat)
  late     : Option (Nat × Nat)
  lateCnt  : Nat
  deriving DecidableEq, Repr

/-- The tier engines (R108 to R140). -/
structure Tier where
  /-- the tier directory by DPA page number; an unlisted page is INVALID -/
  pages    : List (Nat × Page)
  /-- content of tier 1 by line index; an unlisted line holds zeros with their waybill -/
  dram     : List (Nat × Line)
  reads    : List PendingRead
  fills    : List Fill
  wbs      : List WriteBack
  /-- pages that wait for a way: page and when the wait began (R117) -/
  wayWaits : List (Nat × Nat)
  /-- the last missed page of each CACHED region (R119) -/
  lastMiss : List (Nat × Nat)
  /-- pages whose program has failed twice on a channel (R214) -/
  retryOff : List (Nat × Nat)
  /-- accepted writes that wait for a way of their page (R117) -/
  wayWrites : List AdmWrite
  plans    : List Plan
  streams  : List Stream
  /-- lay-by slots lent, by DRAM channel (R110) -/
  lent     : List (Nat × Nat)
  /-- OBJECT_HINT_IGNORED has been logged in this boot (R139) -/
  hintLogged : Bool
  /-- restart times of each tier engine in the last 60 s (R431) -/
  restarts : List (Nat × Nat)
  deriving DecidableEq, Repr

/-! ## DRAM channels (chapter 06) -/

/-- Channel states (R35, R149). -/
inductive ChState where | active | nap1 | nap2 | pasr | retraining | evacuating | closed | offline
  deriving DecidableEq, Repr

/-- CH_STATE.STATE. -/
def ChState.code : ChState → Nat
  | .active => 0 | .nap1 => 1 | .nap2 => 2 | .pasr => 3 | .retraining => 4 | .evacuating => 5 | .closed => 6 | .offline => 7

/-- An accepted DIMM as CH_POP reports it. -/
structure Dimm where
  present : Bool
  ranksM1 : Nat
  /-- 0: 1; 1: 2; 2: 4 -/
  height  : Nat
  density : Nat
  gib     : Nat
  deriving DecidableEq, Repr

/-- A write queued in a channel (R153): its number, line, subchannel, bank (rank, group and bank in one key), row, slot
owner and arrival; `part`: a partial write whose merge is outstanding. -/
structure QWrite where
  id    : Nat
  line  : Nat
  sub   : Nat
  bank  : Nat
  row   : Nat
  owner : Nat
  start : Nat
  part  : Bool
  /-- a repair write (R192) -/
  repair : Bool
  /-- a read of the line has arrived since (R156) -/
  seen  : Bool
  deriving DecidableEq, Repr

/-- A partial write in a channel's merge buffer (R153, R157). -/
structure Merge where
  line : Nat
  data : LineData
  be   : BitVec 64
  req  : Requester
  /-- the merge waits for line recovery from the twin (R157, R185) -/
  recovering : Bool
  deriving DecidableEq, Repr

/-- A pool share of a channel that is rebuilt, evacuated or copied back (R170 to R176): pool, member, target channel and
band start (`none`: no target), chunks done, and chunks in all. -/
structure Share where
  pool   : Nat
  member : Nat
  target : Option (Nat × Nat)
  /-- every chunk below the cursor is done, and so are the chunks listed -/
  cursor : Nat
  done   : List Nat
  total  : Nat
  /-- the share had no target once: its lines count as lost (R173) -/
  lost   : Bool
  deriving DecidableEq, Repr

/-- What a channel's shares are being moved for. -/
inductive ShareWork where | none | rebuild | evacuate | copyBack
  deriving DecidableEq, Repr

/-- What the channel learns of a DIMM from its SPD (R141 to R144): `ok`: the SPD can be read and passes its checksum; type
1 DDR5, 2 DDR4, 0 another; density, height and rates in the encodings of CH_POP and CH_STATE.RATE, or another value; the
widths of its bank group, bank, column (in lines) and row addresses; the words of the SPD. -/
structure DimmSpd where
  ok      : Bool
  typ     : Nat
  rdimm   : Bool
  x4      : Bool
  busOk   : Bool
  density : Nat
  ranks   : Nat
  height  : Nat
  gib     : Nat
  rates   : List Nat
  bgW     : Nat
  baW     : Nat
  colW    : Nat
  rowW    : Nat
  serial  : Nat
  words   : List Word
  deriving DecidableEq, Repr

/-- A command a subchannel's scheduler can issue (R154): a refresh of a rank, an RFM of a bank, the column command of a
queued write, ACT or PRE of a bank. -/
inductive DramCmd where
  | refresh (rank : Nat)
  | rfm (bank : Nat)
  | write (id : Nat)
  | act (bank row : Nat)
  | pre (bank : Nat)
  deriving DecidableEq, Repr

/-- What triggers a full retraining (R166). -/
inductive RetrainWhy where | request | escalation | uncorrectable | ceLimit | drift | pllLost | temperature
  deriving DecidableEq, Repr

/-- The CH_ERR code of a trigger (R177), 0 for none. -/
def RetrainWhy.code : RetrainWhy → Nat
  | .request => 0 | .escalation => 2 | .uncorrectable => 3 | .ceLimit => 4 | .drift => 5 | .pllLost => 6 | .temperature => 0

/-- An alert series of a subchannel (R163, R164): ALERT_n is asserted, failed replays so far, start of the series. -/
structure AlertSeries where
  sub      : Nat
  asserted : Bool
  fails    : Nat
  start    : Nat
  deriving DecidableEq, Repr

/-- One DRAM channel (R141 to R178). -/
structure Channel where
  st       : ChState
  /-- 0 none, 1 DDR5, 2 DDR4 -/
  typ      : Nat
  /-- CH_STATE.RATE -/
  rate     : Nat
  capGib   : Nat
  rsvGib   : Nat
  dimm0    : Dimm
  dimm1    : Dimm
  /-- CH_SPD: the words of both slots -/
  spd0     : List Word
  spd1     : List Word
  /-- the timing words as trained and as live (R158); the register file holds the shadows -/
  trained  : List Word
  live     : List Word
  wq       : List QWrite
  merges   : List Merge
  /-- reads held by a sleep, a retraining, a merge or a rebuild (R37, R167, R169, R157, R170) -/
  held     : List PendingRead
  /-- reads sent to the twin by this channel (R167) -/
  twinReads : List PendingRead
  /-- open rows by bank key and subchannel -/
  rows     : List (Nat × Nat)
  /-- banks in in-order mode and the write each waits for (R155) -/
  inOrder  : List (Nat × Nat)
  draining : Bool
  /-- refreshes due and not issued, by logical rank (R159); below 0: pulled in -/
  refDue   : List (Nat × Int)
  slotCtr  : Nat
  /-- rolling accumulated ACT counts by bank key, with RFM_EN (R158) -/
  raa      : List (Nat × Nat)
  temp0    : Nat
  temp1    : Nat
  factor   : Nat
  throttle : Bool
  released : BitVec 16
  alerts   : List AlertSeries
  /-- accumulated drift since the last full retraining, ps -/
  drift    : Int
  retrainCause : Nat
  retrainStart : Nat
  /-- the state a retraining returns to -/
  resumeTo : ChState
  /-- the channel is waking (R37), and wakes early under R40 -/
  waking   : Bool
  early    : Bool
  /-- duplicated lines on released ranks are invalid until rewritten (R162) -/
  dupInvalid : Bool
  work     : ShareWork
  shares   : List Share
  noSpace  : Bool
  /-- pages rebuilt from the twin, lines poisoned, regions marked DAMAGED by the rebuild (R178) -/
  rebTwin  : Nat
  rebPoison : Nat
  rebDamaged : List Nat
  /-- the 100 ms wait of the rebuild for an absent twin have passed (R172) -/
  twinGone : Bool
  partner  : Nat
  /-- device marks by 2 × logical rank + subchannel (R191), also held in the NAND metadata area -/
  marks    : List (Nat × Nat)
  /-- trial locations: 2 × logical rank + subchannel, device position, time (R191) -/
  hits     : List (Nat × Nat × Nat)
  /-- SPD serial numbers of the DIMMs the marks were made with (R191) -/
  serial0  : Nat
  serial1  : Nat
  /-- CHnn_PWR_EN as driven -/
  pwrEn    : Bool
  /-- OFFLINE after it was CLOSED (R286) -/
  afterClosure : Bool
  /-- who wrote CH_TIM_COMMIT.COMMIT last: a refusal names the writer (R158, R421) -/
  timBy    : Writer
  deriving DecidableEq, Repr

/-- An empty DIMM slot. -/
def Dimm.empty : Dimm := ⟨false, 0, 0, 0, 0⟩

/-- Channel n at reset: OFFLINE, nothing trained; CHnn_PWR_EN is high from the release of power-on reset (R494). -/
def Channel.reset (n : Nat) : Channel :=
  { st := .offline, typ := 0, rate := 0, capGib := 0, rsvGib := 0, dimm0 := Dimm.empty, dimm1 := Dimm.empty, spd0 := [], spd1 := [],
    trained := [], live := [], wq := [], merges := [], held := [], twinReads := [], rows := [], inOrder := [],
    draining := false, refDue := [], slotCtr := 0, raa := [], temp0 := 0, temp1 := 0, factor := 0, throttle := false, released := 0,
    alerts := [], drift := 0, retrainCause := 0, retrainStart := 0, resumeTo := .active, waking := false, early := false, dupInvalid := false, work := .none, shares := [],
    noSpace := false, rebTwin := 0, rebPoison := 0, rebDamaged := [], twinGone := false, partner := (n + 4) % 16,
    marks := [], hits := [], serial0 := 0, serial1 := 0, pwrEn := true, afterClosure := false, timBy := .host }

/-! ## The twin link (chapter 09) -/

/-- Link states (R233). -/
inductive TwinState where | disabled | absent | up | stopped | refused
  deriving DecidableEq, Repr

/-- BTT_LINK_STAT.STATE. -/
def TwinState.code : TwinState → Nat | .disabled => 0 | .absent => 1 | .up => 2 | .stopped => 3 | .refused => 4

/-- A received BTT packet of TYPE DATA (R235, R236): whether its tag passes and its header is well formed, and its fields.
`be`: the byte-enable mask of a PARTIAL packet; `poison`: the mask of a POISON packet. -/
structure BttPkt where
  path   : Fin 4
  tagOk  : Bool
  hdrOk  : Bool
  epoch  : BitVec 32
  stream : Fin 16
  seq    : BitVec 64
  offset : BitVec 10
  total  : BitVec 11
  line   : BitVec 42
  flush  : Bool
  zero   : Bool
  be     : Option (BitVec 64)
  poison : BitVec 64
  data   : List LineData
  deriving DecidableEq, Repr

/-- A copy of a write handed to the twin-transport engine (R26 stage 5): its number, line, content, byte enables of a
partial line, class SYNC, the writer that waits for its placement, and when it was handed over. -/
structure TwinCopy where
  id     : Nat
  line   : Nat
  data   : Line
  be     : Option (BitVec 64)
  sync   : Bool
  req    : Requester
  start  : Nat
  deriving DecidableEq, Repr

/-- What a message carries (R236). -/
inductive MsgKind where | data | readReq | readResp | ctrl
  deriving DecidableEq, Repr

/-- A message of the sending direction (R238 to R245): its stream and number, first line, line count, content, the copies
it carries, FLUSH, its times of sending, the holes an ACK reported, whether an ACK has covered it, the dirty range whose
last convoy it is, and the words of a CTRL message. -/
structure OutMsg where
  stream : Nat
  seq    : Nat
  kind   : MsgKind
  line   : Nat
  total  : Nat
  lines  : List Line
  be     : Option (BitVec 64)
  copies : List TwinCopy
  flush  : Bool
  first  : Nat
  last   : Nat
  holes  : Option Nat
  acked  : Bool
  range  : Option Nat
  ctrl   : List Nat
  deriving DecidableEq, Repr

/-- A message of the receiving direction that is not complete (R239): the lines received so far. -/
structure InMsg where
  stream : Nat
  seq    : Nat
  total  : Nat
  mask   : List Nat
  flush  : Bool
  deriving DecidableEq, Repr

/-- Why a line is read from the twin (R251): a read of a channel in retraining or still uncorrectable, line recovery of a
merge, a fill that failed, or line recovery at another point of R184. -/
inductive TwinReadFor where
  | channel (ch : Nat) (rd : PendingRead)
  | merge (ch : Nat)
  | fill (page : Nat)
  | recover (rd : Option PendingRead)
  | home (page : Nat)
  deriving DecidableEq, Repr

/-- A read sent to the twin (R251): the line and the requester. -/
structure TwinRead where
  id    : Nat
  line  : Nat
  why   : TwinReadFor
  deriving DecidableEq, Repr

/-- What a region is under the twin: a copy region of the partner, its index on the primary, whether it has been promoted,
and its promotion generation (BTT_COPY). -/
structure CopyInfo where
  copy     : Bool
  primary  : Nat
  promoted : Bool
  gen      : BitVec 32
  deriving DecidableEq, Repr

/-- A region that has never been a copy. -/
def CopyInfo.empty : CopyInfo := ⟨false, 0, false, 0⟩

/-- An entry of a HELLO message (R540). -/
structure HelloEntry where
  base  : BitVec 27
  size  : BitVec 27
  key   : BitVec 12
  index : BitVec 12
  gen   : BitVec 32
  deriving DecidableEq, Repr

/-- A RESYNC in progress (R254): the range being sent, convoys of it sent, and when it began. -/
structure Resync where
  range   : Option Nat
  convoys : Nat
  sent    : Nat
  start   : Nat
  /-- the bitmap is empty and the final FLUSH messages are on their way -/
  final   : Bool
  deriving DecidableEq, Repr

/-- The header of a received BTT packet other than DATA (R236): its path, whether its tag passes, whether its header is well formed,
its epoch, stream and message number. For a message of several packets, the one that completes it. -/
structure BttHdr where
  path   : Fin 4
  tagOk  : Bool
  hdrOk  : Bool
  epoch  : BitVec 32
  stream : Fin 16
  seq    : BitVec 64
  deriving DecidableEq, Repr

/-- A HELLO message (R540): the sender's level, the bases of its 16 streams, its region entries, and whether more messages of the series
follow. -/
structure HelloMsg where
  level   : BitVec 4
  bases   : List (BitVec 64)
  entries : List HelloEntry
  more    : Bool
  deriving DecidableEq, Repr

/-- A planned promotion that waits for the primary (R256). -/
structure Promote where
  region : Nat
  set    : Nat
  src    : CmdSrc
  deriving DecidableEq, Repr

/-- The twin-transport engine (R227 to R259, R540) and its SPDM session (R362). -/
structure Twin where
  link      : TwinState
  /-- paths that are UP -/
  pathsUp   : BitVec 4
  peerLevel : BitVec 4
  /-- SPDM session and link keys are established (R362) -/
  session   : Bool
  epoch     : BitVec 32
  pktCtr    : Nat
  rekeying  : Bool
  /-- epoch of received packets, and whether the previous one is still accepted (R362) -/
  rxEpoch   : BitVec 32
  rxPrevOk  : Bool
  /-- time of the last valid packet of each path, and of the last DATA packet -/
  lastRx    : List (Nat × Nat)
  lastData  : Nat
  /-- the path the next packet goes to, when several are UP -/
  nextPath  : Nat
  /-- next MSG_SEQ of each stream to send, and its last durable mark (R237) -/
  txSeq     : List (Nat × Nat)
  txDurable : List (Nat × Nat)
  /-- cumulative units sent, and the partner's limits, by 4 × path + class (R241) -/
  txUsed    : List (Nat × Nat)
  txLimit   : List (Nat × Nat)
  /-- cumulative units received and returned, by 4 × path + class -/
  rxLanded  : List (Nat × Nat)
  rxDirty   : Bool
  /-- copies that wait: SYNC staging and the ASYNC backlog, oldest first -/
  syncq     : List TwinCopy
  backlog   : List TwinCopy
  /-- messages formed and not yet sent, and messages sent and not yet placed -/
  queued    : List OutMsg
  msgs      : List OutMsg
  /-- messages abandoned: stream and number (R250) -/
  abandoned : List (Nat × Nat)
  /-- ranges whose RESYNC waits for the acknowledgement of a WINDOW_ADVANCE: message number and ranges (R249) -/
  advances  : List (Nat × List Nat)
  copyCtr   : Nat
  /-- window base, completed messages beyond it, incomplete messages, and lines not yet landed of each message (R242) -/
  rxBase    : List (Nat × Nat)
  rxDone    : List (Nat × Nat)
  inMsgs    : List InMsg
  rxPend    : List (Nat × Nat × Nat)
  /-- messages with FLUSH that wait for placement: stream and number -/
  rxFlush   : List (Nat × Nat)
  /-- the twin dirty bitmap: the 2 MiB ranges set, ascending (R253) -/
  bitmap    : List Nat
  /-- ranges at the head of RESYNC, and the writes that wait for a range: range, when the wait began, writer (R230) -/
  head      : List Nat
  rangeWaits : List (Nat × Nat × Requester)
  resync    : Option Resync
  reads     : List TwinRead
  /-- reads answered by DRAM before the twin answered (R167) -/
  lateReads : List TwinRead
  /-- BTT_COPY, by region index -/
  copies    : List (Nat × CopyInfo)
  /-- regions whose copy was refused or is missing, and the ones to ask for again at link-up (R228) -/
  refused   : List Nat
  promotes  : List Promote
  /-- mirror fences of planned promotions on the primary: fence and region (R256) -/
  demotes   : List (Nat × Nat)
  /-- regions whose next change of mirror is the swap of a planned promotion, which moves no data (R256) -/
  swaps     : List Nat
  /-- region entries of a HELLO series that is not complete (R540) -/
  helloRx   : List HelloEntry
  /-- when the last path went down (R233) -/
  downAt    : Nat
  deriving DecidableEq, Repr

/-- The engine at reset. -/
def Twin.reset : Twin :=
  { link := .disabled, pathsUp := 0, peerLevel := 0, session := false, epoch := 0, pktCtr := 0, rekeying := false,
    rxEpoch := 0, rxPrevOk := false, lastRx := [], lastData := 0, nextPath := 0, txSeq := [], txDurable := [],
    txUsed := [], txLimit := [], rxLanded := [], rxDirty := false, syncq := [], backlog := [], queued := [], msgs := [],
    abandoned := [], advances := [], copyCtr := 0, rxBase := [], rxDone := [], inMsgs := [], rxPend := [], rxFlush := [],
    bitmap := [], head := [], rangeWaits := [], resync := none, reads := [], lateReads := [], copies := [], refused := [],
    promotes := [], demotes := [], swaps := [], helloRx := [], downAt := 0 }

/-! ## CXL ports (chapter 10) -/

/-- An IDE stream of a link (R280): that of CXL.mem, that of CXL.io, or a selective stream, numbered over the device. -/
inductive IdeStream where
  | mem
  | io
  | selective (k : Fin 128)
  deriving DecidableEq, Repr

/-- Low-power states of a CXL link (R39). -/
inductive LinkPm where | l0 | l0p | l11 | l12 | l2
  deriving DecidableEq, Repr

/-- One link of a port (R260 to R264, R278, R281). -/
structure CxlLink where
  up      : Bool
  width   : Nat
  /-- PRT_LINK_STAT.RATE and VER -/
  rate    : Nat
  ver     : Nat
  flit256 : Bool
  viral   : Bool
  /-- CXL.mem IDE: 0 off, 1 secure, 2 insecure -/
  ide     : Nat
  /-- times of the last MAC failures of the CXL.mem stream (R281) -/
  macFails : List Nat
  /-- the IDE stream stopped transmitting at its invocation limit (R363) -/
  ideStopped : Bool
  pm      : LinkPm
  /-- the LDs the link presents (R266) -/
  lds     : BitVec 16
  deriving DecidableEq, Repr

/-- A link that is down. -/
def CxlLink.down : CxlLink := ⟨false, 0, 0, 0, false, false, 0, [], false, .l0, 0⟩

/-- A record of a CXL event log (R287): log 0 Informational, 1 Warning, 2 Failure, 3 Fatal, 4 dynamic capacity; kind 0
vendor record, 1 General Media, 2 DRAM, 3 Memory Module, 4 capacity event; its handle, the record, and the DPA or the
extent it names. -/
structure CxlEvent where
  log    : Nat
  kind   : Nat
  handle : Nat
  rcd    : Option LogRec
  base   : Nat
  size   : Nat
  deriving DecidableEq, Repr

/-- The mailbox and the capacity state of a logical device (R273 to R277, R282 to R287); LDs 16 to 19 stand for the
FM-owned LD of links 0 to 3. -/
structure Ld where
  events   : List CxlEvent
  nextHandle : Nat
  /-- overflow indications of the logs -/
  overflow : BitVec 5
  /-- event interrupt policy of each log -/
  policy   : List Nat
  /-- alert configuration words -/
  alerts   : List Nat
  cdatSeq  : BitVec 32
  /-- Add Capacity events not yet answered: region and the time of the event (R275) -/
  adds     : List (Nat × Nat)
  /-- extents whose Add Capacity was accepted: region (R275) -/
  accepted : List Nat
  /-- background operation: opcode and handle slot (R284) -/
  background : Option (Nat × Nat)
  /-- media scan: lines found uncorrectable by the last scan (R284) -/
  scanned  : List Nat
  deriving DecidableEq, Repr

/-- An LD at reset. -/
def Ld.reset : Ld := ⟨[], 1, 0, [0, 0, 0, 0, 0], [], 0, [], [], none, []⟩

/-- The ports (R260 to R289). -/
structure Ports where
  /-- links, by 4 × port + link -/
  links   : List (Nat × CxlLink)
  /-- PRT_BIFUR.CURRENT of each port, the value the always-on island holds in NEXT, and the value in the board sector -/
  bifur   : List (Nat × Nat)
  next    : List (Nat × Nat)
  sector  : List (Nat × Nat)
  /-- PRT_TT_STAT.PEAK by port -/
  peak    : List (Nat × Nat)
  /-- LDs, by 32 × port + LD -/
  lds     : List (Nat × Ld)
  /-- the poison list: line index and source 1 to 3 (R277) -/
  poison  : List (Nat × Nat)
  /-- selective IDE streams that are insecure, by (4 × port + link) × 256 + stream -/
  insecure : List Nat
  /-- lines injected with poison and not yet cleared -/
  injected : List Nat
  /-- Set Timestamp: the device time it set, as an offset from the timebase -/
  timestamp : Nat
  /-- the stored shutdown state is dirty (R287) -/
  shutdownDirty : Bool
  /-- PERST_N of each port is low -/
  perst   : BitVec 8
  /-- what reads have cleared out of CH_CE_CNT and NF_RETRY_CNT since boot (R286) -/
  ceSeen  : Nat
  retrySeen : Nat
  deriving DecidableEq, Repr

/-- The ports at reset. -/
def Ports.reset : Ports :=
  { links := [], bifur := [], next := [], sector := [], peak := [], lds := [], poison := [], insecure := [], injected := [],
    timestamp := 0, shutdownDirty := false, perst := 0, ceSeen := 0, retrySeen := 0 }

/-! ## The RDMA engine (chapter 11) -/

/-- States of a queue pair (R292). -/
inductive QpState where | reset | rts | error | resetting
  deriving DecidableEq, Repr

/-- STATE of a queue-pair context. -/
def QpState.code : QpState → Nat | .reset => 0 | .rts => 1 | .error => 2 | .resetting => 3

/-- Kinds of work items (R300). -/
inductive ItemKind where | write | read | flush | gate
  deriving DecidableEq, Repr

/-- A work item of a requester queue (R300, R303): its long operation, local DPA and length, remote address and key,
placement type; for a gate the watched queue, its target, and when it reached the head. `started`: packets of it have been
sent; `lastPsn`: the PSN of its last packet; `left`: lines of a READ not yet received, 1 for a WRITE or FLUSH not yet acknowledged;
`src`: the source of a gate. -/
structure QpItem where
  kind    : ItemKind
  slot    : Nat
  dpa     : Nat
  len     : Nat
  va      : Nat
  rkey    : Nat
  persist : Bool
  watch   : Nat
  target  : BitVec 32
  headAt  : Option Nat
  started : Bool
  lastPsn : Nat
  left    : Nat
  src     : CmdSrc
  deriving DecidableEq, Repr

/-- A request packet of the responder that is not yet complete: its PSN, lines left, whether it is the last of its message, and for an
atomic the original value (R294). -/
structure QpPend where
  psn  : Nat
  left : Nat
  last : Bool
  orig : Option (BitVec 64)
  deriving DecidableEq, Repr

/-- A WRITE message whose last packet has not arrived: where its next byte goes, and the bytes left (R290). -/
structure QpWrite where
  dpa  : Nat
  left : Nat
  deriving DecidableEq, Repr

/-- A queue pair (R291 to R307): the words of its context, its counter and its queue; the result cache of atomics by PSN, newest
last; the WRITE message being received; request packets not yet complete, in PSN order; FLUSH requests that wait (PSN and fences
left) and READ requests (PSN and lines left); retries used, and the rate limiter in Mb/s. -/
structure Qp where
  st      : QpState
  ctx     : List Word
  compCnt : BitVec 32
  items   : List QpItem
  atomics : List (Nat × BitVec 64)
  open_   : Option QpWrite
  pend    : List QpPend
  flushes : List (Nat × Nat)
  reads   : List (Nat × Nat)
  retries : Nat
  paced   : Bool
  alpha   : Rat
  current : Rat
  target  : Rat
  steps   : Nat
  lastCnp : Option Nat
  deriving DecidableEq, Repr

/-- A queue pair at reset: MTU 4,096, RETRY 7, ACK_TO 14; α starts at 1 (log entry 10). -/
def Qp.reset : Qp :=
  { st := .reset, ctx := [0x07000040#32, 0x0E000000#32, 0, 0, 0, 0, 0, 0], compCnt := 0, items := [], atomics := [], open_ := none,
    pend := [], flushes := [], reads := [], retries := 0, paced := false, alpha := 1, current := 0, target := 0, steps := 0,
    lastCnp := none }

/-- The RDMA engine. -/
structure Rdma where
  qps    : List (Nat × Qp)
  /-- memory-key entries: eight words each (R310) -/
  keys   : List (Nat × List Word)
  /-- Ethernet ports whose link is up (R39) -/
  ethUp  : BitVec 4
  /-- ports a received PFC pause holds (R308) -/
  paused : BitVec 4
  deriving DecidableEq, Repr

/-- A memory-key entry at reset. -/
def keyReset : List Word := [0, 0, 0, 0, 0, 0, 0, 0]

/-- The headers of an RDMA packet that the engine acts on (R290, R291, R306): destination QPN, PSN, and whether ECN is marked CE. -/
structure RdmaHdr where
  qpn : BitVec 24
  psn : BitVec 24
  ce  : Bool
  deriving DecidableEq, Repr

/-- The RETH of a request: remote key, virtual address and length (R293). -/
structure RdmaReth where
  rkey : Word
  va   : BitVec 64
  len  : Word
  deriving DecidableEq, Repr

/-- What a requester queue receives (R300): an acknowledgement, READ response data of 64-byte lines, or a FLUSH response. -/
inductive RdmaResponse where
  | ack
  | data (lines : List LineData)
  | flush
  deriving DecidableEq, Repr

/-- NAKs a requester receives (R302): out of sequence, remote access error, remote operational error. -/
inductive RdmaNak where | sequence | access | operational
  deriving DecidableEq, Repr

/-! ## Command rings, long operations and spill queues (chapter 12) -/

/-- A completion record waiting in a ring's completion queue (R314, R321). -/
structure CqRec where
  tag    : Word
  status : Status
  long   : Bool
  final  : Bool
  opcode : Nat
  param  : Nat
  head   : Nat
  irq    : Bool
  deriving DecidableEq, Repr

/-- A descriptor in a ring's command queue (R313, R318), and whether it was pushed. -/
structure QueuedDesc where
  desc   : Desc
  pushed : Bool
  deriving DecidableEq, Repr

/-- One command ring (R311 to R319, R337). The bases and sizes are in the register file. -/
structure Ring where
  /-- SQ tail, HEAD, CQ head, CQ tail -/
  sqTail   : Nat
  head     : Nat
  cqHead   : Nat
  cqTail   : Nat
  /-- RING_CQ_STAT.PHASE -/
  phase    : Bool
  halted   : Bool
  /-- descriptors fetched or pushed and not yet taken, in ring order -/
  queue    : List QueuedDesc
  /-- entries of the SQ from HEAD that have been fetched -/
  fetched  : Nat
  /-- the open pushed item: its words so far (R318) -/
  openItem : Option (List Word)
  /-- the TORN flag of R334 -/
  torn     : Bool
  /-- completion records not yet written to the CQ -/
  recs     : List CqRec
  /-- records written since the last interrupt (R315) -/
  sinceIrq : Nat
  /-- committed pushed items not taken (R335) -/
  pushedCnt : Nat
  deriving DecidableEq, Repr

/-- A ring at reset. -/
def Ring.empty : Ring := ⟨0, 0, 0, 0, true, false, [], 0, none, false, [], 0, 0⟩

/-- States of a long operation (R326). -/
inductive OpState where | running | suspended | cancelling | done
  deriving DecidableEq, Repr

/-- The STATE code of R326. -/
def OpState.code : OpState → Nat | .running => 1 | .suspended => 2 | .cancelling => 3 | .done => 4

/-- What a long operation does (R324, R328), with its operands. -/
inductive OpKind where
  | fenceMirror (id : Nat)
  | fenceTier (id : Nat)
  | copyLocal (src dst lines : Nat)
  | copyRemote (qp : Nat) (item : Nat)
  | fill (dst lines : Nat) (pattern : Word)
  | migrate (region : Nat) (cls : RgnClass) (place frameBase : Nat)
  | evacChannel (ch : Nat)
  | evacModule (module : Nat)
  | planStart (slot : Nat)
  | planStop (slot : Nat) (unload : Bool)
  | objectPlace (page : Nat) (pages : Nat) (action : Nat)
  | persistSet (region : Nat)
  | keyRotate (region : Nat) (newSlot : Nat)
  | sanitize (secureErase : Bool)
  | scrub (region : Nat) (all : Bool) (repair : Bool)
  | scan (line lines : Nat) (port ld : Nat)
  | packRelease (pack : Nat)
  deriving DecidableEq, Repr

/-- A long operation and its handle (R325): slot and generation, progress in units done of a total (`none`: no fixed
total), the result parameter so far, and the OP_SUSPEND and OP_CANCEL commands that wait for its next boundary. -/
structure LongOp where
  slot    : Nat
  gen     : Nat
  st      : OpState
  kind    : OpKind
  src     : CmdSrc
  done    : Nat
  total   : Option Nat
  param   : Nat
  suspendBy : List CmdSrc
  cancelBy  : List CmdSrc
  /-- the source line whose read is outstanding, and its data once they have come -/
  wait      : Option (Nat × Option Line)
  deriving DecidableEq, Repr

/-- The rings, the long operations and the spill pool. -/
structure Rings where
  /-- rings, by number; an unlisted ring is as at reset -/
  ring     : List (Nat × Ring)
  /-- long operations in progress -/
  ops      : List LongOp
  /-- the generation of each handle slot, by slot (R325) -/
  opGens   : List (Nat × Nat)
  /-- SPILL_POOL.PEAK: the most chunks of the spill pool in use since it was last read (R331, R337) -/
  poolPeak : Nat
  /-- the TORN flags of the spill queues that are flushed by recovery only, by queue ID (R334) -/
  sqTorn   : List Nat
  deriving DecidableEq, Repr

/-! ## Arbitration (chapter 13) -/

/-- How a request for a NAND channel's bus fares (R346, R348): it wins arbitration, it loses it, or a higher order takes the bus
from it; the last two park it in the tailback queue. -/
inductive BusUse where | won | lost | preempted
  deriving DecidableEq, Repr

/-- A request parked in the tailback queue of a NAND channel (R348): its channel, its order, and the page it works for. -/
structure Parked where
  ch    : Nat
  order : Nat
  page  : Nat
  deriving DecidableEq, Repr

/-- The slot tables of the carriageways: while a commit swaps, the words of the table that channels whose SWAPPED bit is clear
still use (R344, R345); and the tailback queues (R348). -/
structure Arb where
  oldTable : List (Nat × List Word)
  parked   : List Parked
  deriving DecidableEq, Repr

/-! ## Keys, entropy and attestation (chapter 14) -/

/-- States of a key slot (SEC_KEY_STAT). -/
inductive KeyState where | empty | sealed | loaded
  deriving DecidableEq, Repr

/-- SEC_KEY_STAT.STATE. -/
def KeyState.code : KeyState → Nat | .empty => 0 | .sealed => 1 | .loaded => 2

/-- A key slot (R352 to R358): its state and generation, its working key pair, and its stored copy in the NAND metadata
area. -/
structure KeySlot where
  st     : KeyState
  gen    : BitVec 16
  key1   : BitVec 256
  key2   : BitVec 256
  stored : Option (BitVec 256 × BitVec 256)
  deriving DecidableEq, Repr

/-- A slot that has never held a key. -/
def KeySlot.empty : KeySlot := ⟨.empty, 0, 0, 0, none⟩

/-- States of the key store (R359). -/
inductive StoreState where | unprovisioned | locked | unlocked | hold
  deriving DecidableEq, Repr

/-- SEC_STATUS.STORE. -/
def StoreState.code : StoreState → Nat | .unprovisioned => 0 | .locked => 1 | .unlocked => 2 | .hold => 3

/-- A KEY_ROTATE (R356, R357): region, slots, steps completed, lines of the current step re-encrypted, lines re-encrypted in
all, its handle slot, and whether its last step has ended and it waits for the images. -/
structure Rotation where
  region  : Nat
  old     : Nat
  new     : Nat
  cursor  : Nat
  mask    : List Nat
  lines   : Nat
  slot    : Nat
  waiting : Bool
  deriving DecidableEq, Repr

/-- A wrapped key as KEY_LOAD reads it (R353): the fields of its clear header, and what unwrapping gives: `none` when the GCM
tag fails, else whether the inner header equals the clear one, and the key pair. -/
structure WrappedKey where
  magic  : Word
  format : Byte
  kind   : Byte
  pad    : BitVec 16
  gen    : Word
  slot   : Word
  opened : Option (Bool × BitVec 256 × BitVec 256)
  deriving DecidableEq, Repr

/-- Where an SPDM session runs (R369). -/
inductive SpdmTransport where | doe | mctp | twin
  deriving DecidableEq, Repr

/-- The security block (R352 to R371). -/
structure Security where
  slots     : List (Nat × KeySlot)
  store     : StoreState
  /-- the stored check value of the HKEK (R358); durable -/
  check     : Option (BitVec 64)
  /-- the store wrapping key, while the store is UNLOCKED -/
  swk       : Option (BitVec 256)
  /-- times of the mismatches of SET_HKEK in the last hour, and until when requests are refused (R360) -/
  mismatches : List Nat
  refusedUntil : Nat
  latched   : BitVec 4
  active    : BitVec 4
  alarms    : BitVec 16
  entropyOk : Bool
  maskDegraded : Bool
  reseeds   : Nat
  rotations : List Rotation
  /-- SPDM sessions over DOE, over MCTP and for the twin link -/
  doeSessions  : Nat
  mctpSessions : Nat
  twinSessions : Nat
  /-- a session whose requester has passed mutual authentication (R360) -/
  keyManager : Bool
  deriving DecidableEq, Repr

/-- The block at reset. -/
def Security.reset : Security :=
  { slots := [], store := .unprovisioned, check := none, swk := none, mismatches := [], refusedUntil := 0, latched := 0,
    active := 0, alarms := 0, entropyOk := false, maskDegraded := false, reseeds := 0, rotations := [], doeSessions := 0,
    mctpSessions := 0, twinSessions := 0, keyManager := false }

/-! ## The control complex (chapter 15) -/

/-- Roles of a core (R372). -/
inductive CoreRole where | pair | active | standby | faulted
  deriving DecidableEq, Repr

/-- The role code of R372. -/
def CoreRole.code : CoreRole → Nat | .pair => 0 | .active => 1 | .standby => 2 | .faulted => 3

/-- Why the complex releases no outputs now: nothing, a switch-over (R376), the short self-test of a pair without a standby,
nothing left but the watchdog (R380), a restart after an expiry, warm or cold (R383), or the halt of R384. -/
inductive CcGap where | none | switchover | shortTest | dead | warm | cold | halted
  deriving DecidableEq, Repr

/-- The control complex and the watchdog (R372 to R386). -/
structure Cc where
  roleA     : CoreRole
  roleB     : CoreRole
  roleS     : CoreRole
  gap       : CcGap
  /-- the CC_MISMATCH record the gap releases: words 4 and 5 -/
  mismatch  : Option (Nat × Nat)
  /-- cores whose 12 ms self-test runs (R378) -/
  testing   : List Nat
  switches  : Nat
  rounds    : Nat
  fails     : Nat
  /-- failed rounds in a row (R379) -/
  failRun   : Nat
  /-- time of the last checkpoint -/
  ckptAt    : Nat
  /-- FORCE_SWITCH reads 1 -/
  force     : Bool
  /-- time of the last valid kick, and whether the key 0x5A5A has been written -/
  lastKick  : Nat
  kickHalf  : Bool
  /-- times of the expiries of the last 600 s (R384), and their count since the last read -/
  expiries  : List Nat
  expires   : Nat
  /-- a deferred expiry (R382): when it came, its cause, and whether a copy of the checkpoint passes -/
  deferred  : Option (Nat × Nat × Bool)
  deriving DecidableEq, Repr

/-- The complex before its first BOOT. -/
def Cc.reset : Cc :=
  { roleA := .pair, roleB := .pair, roleS := .standby, gap := .none, mismatch := none, testing := [], switches := 0, rounds := 0,
    fails := 0, failRun := 0, ckptAt := 0, force := false, lastKick := 0, kickHalf := false, expiries := [], expires := 0,
    deferred := none }

/-! ## Code flash and firmware updates (chapter 16) -/

/-- A programmed code word of the flash (R389): 32 bytes, byte 0 least significant; a torn word reads with DATA_ERROR. -/
structure FlashWord where
  torn : Bool
  data : BitVec 256
  deriving DecidableEq, Repr

/-- A program or an erase of the flash (R389, R391): its bank, byte offset, code words to program or sectors to erase, when it
was suspended, its suspended time so far, and whether it has counted as starved. -/
structure FlashOp where
  bank      : Nat
  erase     : Bool
  off       : Nat
  words     : List (BitVec 256)
  sectors   : Nat
  suspended : Option Nat
  total     : Nat
  starved   : Bool
  deriving DecidableEq, Repr

/-- A staged parameter change in the journal (R394): a program or an erase that the boot ROM applies. -/
structure Staged where
  erase   : Bool
  off     : Nat
  words   : List (BitVec 256)
  sectors : Nat
  deriving DecidableEq, Repr

/-- A record that waits for the record port (R395): an event copy or a session record. -/
inductive PortItem where
  | evt (r : LogRec)
  | sess (w : BitVec 256)
  deriving DecidableEq, Repr

/-- Session states (R401). -/
inductive SessState where
  | idle | erasing | opened | verifying | verified | scheduled | activating | trial | reverting
  deriving DecidableEq, Repr

/-- FLS_SESS.STATE. -/
def SessState.code : SessState → Nat
  | .idle => 0 | .erasing => 1 | .opened => 2 | .verifying => 3 | .verified => 4 | .scheduled => 5 | .activating => 6
  | .trial => 7 | .reverting => 8

/-- How a flash pulse ends (R389, R391): its verify passes, it does not and the pulse is repeated, or a read of the bank suspends the
operation. -/
inductive PulseEnd where | pass | again | suspended
  deriving DecidableEq, Repr

/-- What a group member answers or reports (R403, R405): an outcome of a trial. -/
inductive TrialOutcome where | healthy | confirmed | reverted
  deriving DecidableEq, Repr

/-- The update session (R400 to R411): its state, source (1 host, 2 BMC, 3 twin), target slot, LENGTH, confirmed offset, ID, the
time of its last block, the activation time and when it was reached; the members of the group other than this controller
(1 twin, 2 to 5 stack position + 2), those that have voted YES, and those that have reported health; whether this controller
proposed, components swapped, when the trial image last started, TRIAL_HEALTHY sent, an offline activation requested, and
whether the twin takes the bundle (0 not offered, 1 BUSY, 2 taken) and how far it has it. -/
structure Session where
  st       : SessState
  source   : Nat
  target   : Nat
  len      : Nat
  off      : Nat
  id       : BitVec 32
  blockAt  : Nat
  actTime  : Nat
  actAt    : Nat
  members  : List Nat
  yes      : List Nat
  healthy  : List Nat
  proposer : Bool
  swapped  : Nat
  trialAt  : Nat
  sentHealthy : Bool
  offline  : Bool
  twinTakes : Nat
  twinOff  : Nat
  /-- SEQ of the next session record -/
  recSeq   : BitVec 32
  /-- SCHEDULED, and the device time is unknown since VDD_AON was lost (R411) -/
  waitTime : Bool
  deriving DecidableEq, Repr

/-- A slot (FLS_SLOT_STAT): state code, trial starts ended unconfirmed, and what its manifest gave. -/
structure FlashSlot where
  st     : Nat
  starts : Nat
  svn    : Nat
  level  : Nat
  ver    : Nat
  deriving DecidableEq, Repr

/-- The flash and the update unit (R387 to R413). -/
structure Flash where
  /-- programmed code words, by offset / 32 -/
  words    : List (Nat × FlashWord)
  ops      : List FlashOp
  /-- requests that wait under R392, in order -/
  waiting  : List FlashOp
  /-- sectors marked for an erase that has not passed its final verify: first offset and count (R393) -/
  marked   : List (Nat × Nat)
  /-- execution bank of the control complex: 0, 1, or 2 the boot ROM -/
  execBank : Nat
  brownout : Bool
  staged   : List Staged
  slotA    : FlashSlot
  slotB    : FlashSlot
  /-- the slot the boot record prefers: the confirmed running slot -/
  running  : Nat
  sess     : Session
  /-- the fused security version (R368), the signing-key slot of the running image, and the protocol level of the BTT engine in force -/
  fusedSvn : Nat
  keySlot  : Nat
  bttLevel : Nat
  deriving DecidableEq, Repr

/-- The actions of Transfer FW. -/
inductive FwAction where | whole | initiate | continue | finish | abort
  deriving DecidableEq, Repr

/-! ## The junction (R10, R429) -/

/-- A junction link (R429): the times of the detections of the last 10 µs, when it last began a retraining, whether one runs
and how often it has been restarted, and the spare wires in use on each of its two paths. -/
structure JctLink where
  errs     : List Nat
  trainAt  : Option Nat
  training : Bool
  restarts : Nat
  spares0  : Nat
  spares1  : Nat
  deriving DecidableEq, Repr

/-- A link at reset. -/
def JctLink.reset : JctLink := ⟨[], none, false, 0, 0, 0⟩

/-- An error register (R426): CH_ERR of a DRAM channel, NF_ERR of a NAND channel, EVT_CW_ERR of a carriageway. -/
inductive ErrReg where
  | ch (n : Fin 16)
  | nf (n : Fin 32)
  | cw (c : Fin 4)
  deriving DecidableEq, Repr

/-! ## Sensors and energy packs (chapter 18) -/

/-- A sensor (R436 to R442): its published value in the units of SNS_VAL, STALE, UNCAL, OUT_RANGE; the correction in force, scaled
by 720: OFFSET and GAIN, and the reference temperature in 1/16 °C it was computed for; whether it is being recomputed; frames
STALE in succession; thresholds it has crossed upwards (TEMP_HI, 105 °C), and frames above 110 °C in succession. -/
structure Sensor where
  value   : Int
  stale   : Bool
  uncal   : Bool
  out     : Bool
  off     : Int
  gain    : Int
  ref     : Option Int
  redo    : Bool
  staleFor : Nat
  hi      : Bool
  above   : Bool
  drain   : Nat
  deriving DecidableEq, Repr

/-- A sensor before its first frame: the identity correction. -/
def Sensor.reset : Sensor := ⟨0, false, false, false, 0, 720 * 0x4000, none, false, 0, false, false, 0⟩

/-- Pack states (R444). -/
inductive PackState where | absent | identifying | untested | healthy | testing | released | endOfLife | fault
  deriving DecidableEq, Repr

/-- SNS_PACK_STAT.STATE. -/
def PackState.code : PackState → Nat
  | .absent => 0 | .identifying => 1 | .untested => 2 | .healthy => 3 | .testing => 4 | .released => 5 | .endOfLife => 6
  | .fault => 7

/-- What a pack's identity EEPROM holds (R443), and whether its CRC passes. -/
structure PackId where
  serial  : BitVec 64
  year    : Nat
  month   : Nat
  ratedJ  : Nat
  cycles  : Nat
  cUf     : Nat
  /-- ESR in units of 10 µΩ -/
  esr     : Nat
  testDay : Nat
  crcOk   : Bool
  deriving DecidableEq, Repr

/-- How far a pack test has come (R446): it waits for the reduced ceiling, or its load is on. -/
inductive PackTest where | none | waiting | loaded
  deriving DecidableEq, Repr

/-- An energy pack (R443 to R447): usable and full energy in 0.1 J, when its last test ended, when a deferred test is retried,
SNS_PACK_CTL.TEST reads 1, and the PACK_RELEASE that waits. -/
structure Pack where
  st      : PackState
  id      : PackId
  usable  : Nat
  full    : Nat
  test    : PackTest
  testedAt : Nat
  retryAt : Option Nat
  req     : Bool
  release : Option Nat
  deriving DecidableEq, Repr

/-- A pack bay without a pack. -/
def Pack.absent : Pack := ⟨.absent, ⟨0, 0, 0, 0, 0, 0, 0, 0, false⟩, 0, 0, .none, 0, none, false, none⟩

/-- A trim word that changes nothing: OFFSET 0, GAIN 1.0 (R438). -/
def trimIdentity : Word := 0x40000000#32

/-- The sensor hub (R436 to R449): the sensors, the trims in force and their shadow by 128 × set + sensor, sets that were loaded as
identity, the next frame is the first after BOOT, COMMIT reads 1, and a thermal sensor has passed 105 °C and not every one is
below 100 °C again. -/
structure Hub where
  sensors : List (Nat × Sensor)
  trims   : List (Nat × Word)
  shadow  : List (Nat × Word)
  badSets : List Nat
  first   : Bool
  commit  : Bool
  hot     : Bool
  packs   : List (Nat × Pack)
  deriving DecidableEq, Repr

/-! ## In-service and production test (chapter 19) -/

/-- The result of an eye scan of a lane (R458): height in mV, width in mUI, and when it ended. -/
structure Eye where
  height : Nat
  width  : Nat
  time   : Nat
  deriving DecidableEq, Repr

/-- The patrol of a DRAM channel (R452 to R454): its cursor as a line address of the channel, when its pass began, passes
completed, corrections in the pass, and hours behind schedule. -/
structure Patrol where
  cursor : Nat
  start  : Nat
  passes : Nat
  fixed  : Nat
  behind : Nat
  deriving DecidableEq, Repr

/-- The patrol at reset. -/
def Patrol.reset : Patrol := ⟨0, 0, 0, 0, 0⟩

/-- The tests: patrols and lay-by march cursors by channel, retired lay-by slots as 1024 × channel + slot, blocks whose second read
the disturb patrol owes, eye results and running scans by lane, memory BIST running, and the instruction of the test access
port. -/
structure Tests where
  patrols : List (Nat × Patrol)
  march   : List (Nat × Nat)
  retired : List Nat
  suspect : List Nat
  eyes    : List (Nat × Eye)
  scans   : List Nat
  bist    : Bool
  tap     : Nat
  deriving DecidableEq, Repr

/-! ## Stacks (chapter 20) -/

/-- A region of another member, as the master's range table holds it (R470). -/
structure StackRegion where
  member  : Nat
  base    : Nat
  size    : Nat
  cls     : RgnClass
  persist : Bool
  mirror  : Mirror
  key     : Nat
  deriving DecidableEq, Repr

/-- What a member's answer to a heartbeat tells (R486): its position, and the codes of its mode and its guard state. -/
structure MemberReport where
  member : Fin 4
  mode   : Mode
  guard  : Guard
  deriving DecidableEq, Repr

/-- The stack (R464 to R471). -/
structure Stack where
  /-- GLB_STACK_STAT.MASTER, LIVE and CONFLICT; whether a master has been set since BOOT -/
  master   : Nat
  live     : BitVec 4
  conflict : Bool
  seated   : Bool
  /-- unanswered heartbeats of each position -/
  missed   : List (Nat × Nat)
  lastHb   : Nat
  /-- mode and guard state codes of the other positions, from their heartbeat answers (R486) -/
  reports  : List (Nat × (Nat × Nat))
  /-- regions of the other members -/
  ranges   : List StackRegion
  /-- region commands that wait for a master, and since when the first of them (R469) -/
  waiting  : List Desc
  waitFrom : Nat
  deriving DecidableEq, Repr

/-! ## Management endpoints (chapter 21) -/

/-- A PlatformEventMessage that waits for the BMC (R487): a sensor and its new value, or an event-log record. -/
inductive PlatformEvent where
  | sensor (id : Nat) (value : Nat)
  | record (r : LogRec)
  deriving DecidableEq, Repr

/-- The management endpoints (R478 to R491): the EIDs, the buses in I3C mode, whether the BMC has enabled event generation,
the messages that wait for its acknowledgement, and the buses that carry them and an update. -/
structure Mgmt where
  eid      : BitVec 8
  stackEid : BitVec 8
  i3c      : BitVec 2
  receiver : Bool
  events   : List PlatformEvent
  evtBus   : Nat
  fwBus    : Nat
  deriving DecidableEq, Repr

/-- Where a request that firmware answers came from, while it waits in an endpoint's buffer (R377, R480): a management bus with message
type and command, the mailbox of a logical device, or an SPDM transport. -/
inductive ReqFrom where
  | mgmt (bus : Nat) (type : Nat) (cmd : Nat)
  | mailbox (port : Nat) (ld : Nat) (opcode : Nat)
  | spdm (transport : Nat)
  deriving DecidableEq, Repr

/-- The request counts among the eight of the management endpoint (R480). -/
def ReqFrom.managed : ReqFrom → Bool
  | .mgmt _ _ _ => true
  | .spdm t => t == 2
  | .mailbox _ _ _ => false

/-! ## Register access (chapter 24) -/

/-- What the surroundings answer to the actions a register write can start: the straps for a reset (R495), the DIMMs of a channel that
is re-admitted, whether their training passes and with which timing (R176), TAG and OPCODE of the entries of a flushed ring that
stand in host memory (R319), and the alarm conditions that have been absent for 100 ms (R366). -/
structure RegEnv where
  straps : Straps
  dimmA  : Option DimmSpd
  dimmB  : Option DimmSpd
  pass   : Bool
  timing : List Word
  unread : List (Word × BitVec 8)
  absent : BitVec 4
  deriving DecidableEq, Repr

/-- What the register unit holds beside the register file: the selector values of the BMC (R532), by register offset, and the
time of the first entry to service since the last BOOT, for the automatic set-up lock (R534). -/
structure RegUnit where
  bmcSel   : List (Nat × Word)
  serviceAt : Option Nat
  deriving DecidableEq, Repr

end Sys2Proof.Machine
end

