-- ==== Sys2Proof/Syntax.lean ====
section
/-!
DEFINITION. The commands the block takes and the events that happen to it: one constructor for each row of spec/opcode_table.json,
with the operands the row needs. An event row carries as operands the facts of its environment that the spec leaves to it.
-/
namespace Sys2Proof

open Machine

/-- A command or event; the docstring of each constructor is its row's summary. -/
inductive Instr where
  /-- R539: The host or BMC requests mode 0x7 and DRAIN is entered from a serving mode. -/
  | modeReqDrain (ask : ModeAsk)
  /-- R539: The host or BMC requests mode 0x4, which cancels a drain or clears a latched maintenance request. -/
  | modeReqDrainCancel (ask : ModeAsk)
  /-- R539: The host or BMC requests mode 0xB: drain to MAINTENANCE, enter it from RECOVERY, or latch it for the next BOOT.
  -/
  | modeReqMaintenance (ask : ModeAsk)
  /-- R539: The BMC requests BOOT from STANDBY and a wake starts under R497. -/
  | modeReqWake (ask : ModeAsk)
  /-- R539: A request names a reserved code or a target that no row permits, and it is refused with INVALID or NOT_PERMITTED.
  -/
  | modeReqOther (target : Fin 16) (ask : ModeAsk)
  /-- R287: Mailbox 0100h returns event records of a CXL log. -/
  | getEventRecords (port : PortId) (ld : Fin 20) (log : Fin 5)
  /-- R287: Mailbox 0101h clears event records. -/
  | clearEventRecords (port : PortId) (ld : Fin 20) (log : Fin 5) (all : Bool) (handles : List Nat)
  /-- R284: Mailbox 0102h returns the event interrupt policy. -/
  | getEventInterruptPolicy (port : PortId) (ld : Fin 20)
  /-- R284: Mailbox 0103h sets the event interrupt policy, MSI-X only. -/
  | setEventInterruptPolicy (port : PortId) (ld : Fin 20) (policy : Vector (BitVec 8) 5)
  /-- R284: Mailbox 0200h reports slots A and B. -/
  | getFwInfo (port : PortId) (ld : Fin 20)
  /-- R402: Mailbox Transfer FW opens a host session or writes a bundle block at its offset. -/
  | transferFw (port : PortId) (ld : Fin 20) (action : FwAction) (slot : Fin 2) (off : BitVec 24) (bytes : List Byte)
  /-- R404: Mailbox Activate FW requests online activation at a time, or offline activation at the next BOOT. -/
  | activateFw (port : PortId) (ld : Fin 20) (online : Bool) (slot : Fin 2)
  /-- R284: Mailbox 0300h returns the device time. -/
  | getTimestamp (port : PortId) (ld : Fin 20)
  /-- R284: Mailbox 0301h sets the time, and is ignored while the timebase is locked. -/
  | setTimestamp (port : PortId) (ld : Fin 20) (t : BitVec 64)
  /-- R284: Mailbox 0400h lists the supported logs. -/
  | getSupportedLogs (port : PortId) (ld : Fin 20)
  /-- R284: Mailbox 0401h returns the Command Effects Log or the vendor event log. -/
  | getLog (port : PortId) (ld : Fin 20) (vendor : Bool) (off : BitVec 32) (len : BitVec 32)
  /-- R285: Mailbox 4000h reports capacities and limits. -/
  | identifyMemoryDevice (port : PortId) (ld : Fin 20)
  /-- R284: Mailbox 4100h reports partition information. -/
  | getPartitionInfo (port : PortId) (ld : Fin 20)
  /-- R265: Mailbox 4101h returns Unsupported. -/
  | setPartitionInfo (port : PortId) (ld : Fin 20)
  /-- R286: Mailbox health info reports maintenance, degradation, life, temperature and error counts. -/
  | getHealthInfo (port : PortId) (ld : Fin 20)
  /-- R284: The mailbox returns the alert configuration. -/
  | getAlertConfiguration (port : PortId) (ld : Fin 20)
  /-- R284: The mailbox sets the alert configuration. -/
  | setAlertConfiguration (port : PortId) (ld : Fin 20) (words : List Nat)
  /-- R287: The mailbox returns the stored shutdown state. -/
  | getShutdownState (port : PortId) (ld : Fin 20)
  /-- R287: Set Shutdown State is stored durably in the NAND metadata area. -/
  | setShutdownState (port : PortId) (ld : Fin 20) (dirty : Bool)
  /-- R277: Mailbox 4300h returns the poisoned lines in a range, with overflow. -/
  | getPoisonList (port : PortId) (ld : Fin 20) (dpa : BitVec 48) (lines : Nat)
  /-- R277: Mailbox Inject Poison poisons a line in a serving mode. -/
  | injectPoison (port : PortId) (ld : Fin 20) (dpa : BitVec 48)
  /-- R277: Mailbox Clear Poison writes supplied data as a full-line write. -/
  | clearPoison (port : PortId) (ld : Fin 20) (dpa : BitVec 48) (data : LineData)
  /-- R284: Mailbox 4303h reports scan-media capabilities. -/
  | getScanMediaCapabilities (port : PortId) (ld : Fin 20) (dpa : BitVec 48) (lines : Nat)
  /-- R284: Mailbox Scan Media runs SCRUB_REGION over a range as a background operation. -/
  | scanMedia (port : PortId) (ld : Fin 20) (dpa : BitVec 48) (lines : Nat)
  /-- R284: Mailbox 4305h lists uncorrectable lines found. -/
  | getScanMediaResults (port : PortId) (ld : Fin 20)
  /-- R284: Mailbox Sanitize runs SANITIZE, in MAINTENANCE only. -/
  | mboxSanitize (port : PortId) (ld : Fin 20)
  /-- R284: Mailbox Secure Erase runs SANITIZE with KIND secure erase, in MAINTENANCE only. -/
  | secureErase (port : PortId) (ld : Fin 20)
  /-- R273: Mailbox 4800h reports DC region 0 over the DPA space. -/
  | getDynamicCapacityConfig (port : PortId) (ld : Fin 20)
  /-- R274: Mailbox 4801h returns one extent per bound region. -/
  | getDynamicCapacityExtentList (port : PortId) (ld : Fin 20)
  /-- R275: The host's response to Add Capacity is recorded; access does not wait for it. -/
  | addDynamicCapacityResponse (port : PortId) (ld : Fin 20) (accepted : List (Fin 4096))
  /-- R265: Host-initiated release returns Invalid Input. -/
  | releaseDynamicCapacity (port : PortId) (ld : Fin 20)
  /-- R284: Mailbox 0005h ends a background command as OP_CANCEL does. -/
  | requestAbortBackgroundOp (port : PortId) (ld : Fin 20)
  /-- R265: Get LSA returns Unsupported. -/
  | getLsa (port : PortId) (ld : Fin 20)
  /-- R265: Set LSA returns Unsupported. -/
  | setLsa (port : PortId) (ld : Fin 20)
  /-- R267: The FM-owned LD reports the LD count and memory size. -/
  | getLdInfo (port : PortId) (link : LinkId)
  /-- R267: The FM-owned LD reports each LD's bound region sizes. -/
  | getLdAllocations (port : PortId) (link : LinkId)
  /-- R267: The FM-owned LD returns Unsupported. -/
  | setLdAllocations (port : PortId) (link : LinkId)
  /-- R267: The FM-owned LD reports mean DevLoad over 1 ms. -/
  | getQosStatus (port : PortId) (link : LinkId)
  /-- R267: The FM-owned LD reports the head count. -/
  | getMultiHeadedInfo (port : PortId) (link : LinkId)
  /-- R282: A DOE Table Access request returns the LD's CDAT. -/
  | cdatTableAccess (port : PortId) (ld : Fin 16)
  /-- R360: The SET_HKEK SPDM request sets or matches the HKEK, loading every stored key. -/
  | setHkek (t : SpdmTransport) (hkek : BitVec 256) (auth : Bool)
  /-- R360: A SET_HKEK with REPLACE re-wraps every stored copy under the new key. -/
  | setHkekReplace (t : SpdmTransport) (hkek : BitVec 256) (auth : Bool)
  /-- R369: An SPDM request returns the signed measurements. -/
  | spdmGetMeasurements (t : SpdmTransport) (index : Fin 9) (auth : Bool)
  /-- R369: An SPDM session is established, with mutual authentication where required. -/
  | spdmKeyExchange (t : SpdmTransport) (auth : Bool) (keyManager : Bool)
  /-- R482: The vendor REG_READ command returns 1 to 14 register words. -/
  | regRead (bus : Fin 2) (off : BitVec 26) (count : Fin 16)
  /-- R483: The vendor REG_WRITE command writes the masked bits under access codes and classes, or returns NOT_PERMITTED.
  -/
  | regWrite (bus : Fin 2) (off : BitVec 26) (v : Word) (mask : Word) (env : RegEnv)
  /-- R487: The PLDM SetEventReceiver command enables platform event messages to the BMC. -/
  | setEventReceiver (bus : Fin 2) (enable : Bool)
  /-- R486: The PLDM command returns records of the PDR repository. -/
  | getPdr (bus : Fin 2) (stack : Bool) (handle : BitVec 32)
  /-- R486: The PLDM command returns a numeric sensor reading. -/
  | getSensorReading (bus : Fin 2) (id : BitVec 16)
  /-- R486: The PLDM command returns state sensor values. -/
  | getStateSensorReadings (bus : Fin 2) (stack : Bool) (id : BitVec 16)
  /-- R486: The PLDM command sets a bifurcation effecter, or a mode effecter handled as a mode request. -/
  | setStateEffecterStates (bus : Fin 2) (id : BitVec 16) (v : Fin 16)
  /-- R488: PLDM RequestUpdate opens a firmware session with source BMC. -/
  | requestUpdate (bus : Fin 2) (len : BitVec 24)
  /-- R488: The BMC's data answers a RequestFirmwareData, and the block is written under R402. -/
  | requestFirmwareData (off : BitVec 24) (bytes : List Byte)
  /-- R488: PLDM ActivateFirmware requests online or offline activation. -/
  | activateFirmware (bus : Fin 2) (selfContained : Bool) (time : BitVec 64)
  /-- R488: PLDM CancelUpdate aborts the session. -/
  | cancelUpdate (bus : Fin 2)
  /-- R488: PLDM GetStatus returns the session state and offset. -/
  | getStatus (bus : Fin 2)
  /-- R488: PLDM GetFirmwareParameters reports the running and previous slots. -/
  | getFirmwareParameters (bus : Fin 2)
  /-- R497: VDD_AON has stayed in range for 1 ms, so power-on reset is released and the controller enters STANDBY from OFF.
  -/
  | vddAonPowerOn (straps : Straps)
  /-- R31: VDD_AON is lost and the controller goes to OFF from any mode. -/
  | vddAonLost
  /-- R497: In STANDBY a wake source fires (BRD_PG rising, BRD_PG high with AUTO_WAKE, or a management wake); the power-up sequence starts, or the wake is held as pending.
  -/
  | wakeSource (w : WakeSource)
  /-- R497: A pending management wake has waited 1 s without BRD_PG and PWR_FAIL_N both high and is refused with NOT_PERMITTED.
  -/
  | pendingWakeTimeout
  /-- R497: A main rail comes into range during power-up, and the sequence raises the next RAIL_EN 0.5 ms later, skipping enables already high.
  -/
  | railInRange
  /-- R497: 0.1 ms after every main rail is in range, the internal resets are released and the controller enters BOOT.
  -/
  | resetRelease (straps : Straps)
  /-- R498: A rail is not in range 10 ms after its enable rose; the raised enables are lowered and the controller stays in STANDBY.
  -/
  | pwrSeqFail (us : Nat)
  /-- R498: BRD_PG falls; a running power-up sequence is abandoned and a pending board wake is dropped. -/
  | brdPgFall
  /-- R500: PWR_FAIL_N stays low for 100 ns or more; in a mode that permits it SAVE starts, otherwise BOOT, RECOVERY or MAINTENANCE power down to STANDBY.
  -/
  | powerFail (straps : Straps)
  /-- R500: VDD_CORE, VDD_SRAM, VDDQ_DDR or VCCQ_NAND stays below its save-trip level for 1 µs and acts as a power failure.
  -/
  | railMonitorTrip (rail : Fin 6) (out : Bool) (straps : Straps)
  /-- R500: VDD_FLASH or a SerDes rail leaves its range without a trip; RAIL_FAULT is logged, flash requests wait and the SerDes links go down.
  -/
  | railFault (rail : Fin 6)
  /-- R541: A main rail is back inside its range by the hysteresis; RAIL_OK is set, RAIL_FAULT with w5 0 is logged, and flash and links resume.
  -/
  | railReturn (rail : Fin 6)
  /-- R502: PWR_FAIL_N and BRD_PG have both been high for 10 ms, so main power counts as back. -/
  | mainPowerBack
  /-- R496: A requested VDD_CORE change is not confirmed on the sense pair within 1 ms; it is retried once, then the last confirmed voltage is held.
  -/
  | avsConfirmTimeout (mv : Nat) (sensed : Nat)
  /-- R505: A reference clock stops or leaves tolerance; SYSCLK_25M PLLs go into crystal holdover, or the ports fed by a CXL or Ethernet reference go down.
  -/
  | refclkLost (ref : Fin 7)
  /-- R505: A reference has been within tolerance for 100 ms; holdover ends or the affected links retrain. -/
  | refclkReturn (ref : Fin 7)
  /-- R506: The timebase offset stays below 1 µs for 16 synchronisation intervals and the timebase becomes locked.
  -/
  | timebaseLock (off : Int) (time : Nat)
  /-- R506: The timebase offset exceeds 10 µs or no synchronisation arrives for 5 s, and the timebase becomes unlocked.
  -/
  | timebaseUnlock (off : Int)
  /-- R508: SYS_RST_N is asserted; it is honoured in STANDBY, BOOT, RECOVERY and MAINTENANCE and held in every other mode.
  -/
  | sysRstN (straps : Straps)
  /-- R508: A held SYS_RST_N takes effect once the controller reaches a mode in which it is honoured. -/
  | heldResetApply (straps : Straps)
  /-- R508: GLB_RST_CTL.SOFT is written; the controller resets into BOOT in RECOVERY or MAINTENANCE, and the write is refused elsewhere.
  -/
  | soft (who : Writer) (straps : Straps)
  /-- R507: TRST_N resets the test access port only. -/
  | trstN
  /-- R31: The BOOT start-up checks and image selection finish, and the controller enters RESTORE, SERVICE, DEGRADED, RESYNC, RECOVERY or MAINTENANCE.
  -/
  | bootChecksDone (failA : Option (Fin 7)) (failB : Option (Fin 7)) (badA : Fin 3) (badB : Fin 3) (sramOk : Bool) (coreA : Bool) (coreB : Bool) (coreS : Bool) (clash : Fin 3)
  /-- R525: In a cold BOOT, DRAM and NAND training starts once every thermal sensor reads 0 °C or above, or after 120 s.
  -/
  | coldBootTrainStart
  /-- R166: Initial training of a DRAM channel ends; the channel becomes ACTIVE or stays OFFLINE. -/
  | initialTrainingDone (ch : ChId) (a : Option DimmSpd) (b : Option DimmSpd) (pass : Bool) (timing : List Word)
  /-- R210: After a BOOT without a clean shutdown, replay of the codewords programmed since the last map checkpoint finishes.
  -/
  | mapReplay (us : Nat)
  /-- R102: Every sealed image has been applied, so the controller leaves RESTORE for SERVICE, DEGRADED or RESYNC with regions REFILLING.
  -/
  | restoreApplied
  /-- R41: The quiescence conditions have held for QUIESCE_IDLE, and the controller enters QUIESCENT from SERVICE.
  -/
  | quiesceEnter
  /-- R41: Activity breaks a quiescence condition, and the controller returns to SERVICE and starts the wakes. -/
  | quiesceExit
  /-- R31: DRAIN's write-back is complete, the clean-shutdown record is written and DRAM is in self-refresh, so the controller goes to STANDBY or MAINTENANCE.
  -/
  | drainDone (straps : Straps)
  /-- R31: An exit request in MAINTENANCE resets the controller into BOOT. -/
  | maintenanceExit (straps : Straps)
  /-- R31: The recovery image resets the controller into BOOT after a repair or an image update. -/
  | recoveryReset (straps : Straps)
  /-- R96: The save's intent record is programmed, and streaming of counted pages and line records begins. -/
  | saveIntentProgrammed
  /-- R96: 200 µs after the ports stop, the twin flush stops and unconfirmed copy ranges are set in the twin dirty bitmap.
  -/
  | twinFlushCutoff
  /-- R96: Every counted page and line record is in the image, and the metadata is programmed next. -/
  | saveStreamDone (bad : List Nat)
  /-- R96: The save metadata is programmed, and the seal record is programmed next. -/
  | saveMetadataDone
  /-- R96: The seal record is programmed; DRAM enters self-refresh, and the controller makes a warm return, goes through BOOT, or goes to STANDBY.
  -/
  | saveSealed (straps : Straps)
  /-- R35: A channel's queues have been empty for NAP1_IDLE, so the channel enters NAP1. -/
  | nap1Enter (ch : ChId)
  /-- R35: A channel has been in NAP1 for NAP2_IDLE, so it enters NAP2 in self-refresh. -/
  | nap2Enter (ch : ChId)
  /-- R161: The tier engine releases a rank that qualifies, and the channel enters PASR after marking its frames INVALID.
  -/
  | pasrEnter (ch : ChId) (rank : Fin 16)
  /-- R37: A request or SAVE wakes a napping channel, which revokes any loan of its lay-by. -/
  | channelWake (ch : ChId)
  /-- R37: The NAP1 or NAP2 wake time has passed, and the channel is ACTIVE and serves its waiting requests. -/
  | channelWakeDone (ch : ChId) (ok : Bool)
  /-- R40: A CXL port begins to leave L1.x, so the wake logic starts the junction and carriageway clocks and moves napping channels to NAP1.
  -/
  | earlyWake (port : PortId) (link : LinkId)
  /-- R39: Every unit of a carriageway is asleep, and its fast clock stops. -/
  | cwClockStop (cw : CwId)
  /-- R39: All carriageway clocks are stopped and the engines are idle, and the junction clock stops. -/
  | junctionClockStop
  /-- R162: The duplicated lines on released ranks of a woken channel have been rewritten in the background. -/
  | pasrDupRewriteDone (ch : ChId)
  /-- R110: A napping channel with no lay-by operations lends the slots above WB_RESERVE to its carriageway's tier engine.
  -/
  | laybyLend (ch : ChId)
  /-- R111: A lay-by loan revocation finishes; operations in revoked slots are abandoned and restart elsewhere with their original start times.
  -/
  | laybyRevokeDone (ch : ChId) (pages : List Nat) (others : Nat)
  /-- R59: The REGION_CREATE command creates a region at the lowest free FRAME_BASE after its checks. -/
  | regionCreate (d : Desc)
  /-- R62: The REGION_DESTROY command removes a region at commit, waits for its requests, then discards dirty pages and frees frames and extents.
  -/
  | regionDestroy (d : Desc)
  /-- R61: The REGION_MODIFY command changes MIRROR, setting the bitmap for a change from NONE. -/
  | regionModifyMirror (d : Desc)
  /-- R61: The REGION_MODIFY command changes PERSIST; 0 to 1 runs as a long operation that writes back and commits under the ceiling.
  -/
  | regionModifyPersist (d : Desc)
  /-- R61: The REGION_MODIFY command grows or shrinks a region at commit. -/
  | regionModifySize (d : Desc)
  /-- R61: The REGION_MODIFY command marks every frame of a SCRATCH region INVALID at commit. -/
  | regionModifyRelease (d : Desc)
  /-- R61: The REGION_MODIFY command clears DAMAGED on a region. -/
  | regionModifyClearDamaged (d : Desc)
  /-- R60: The REGION_BIND command replaces a region's owner set and adds or releases dynamic capacity extents.
  -/
  | regionBind (d : Desc)
  /-- R63: At a commit edge every lookup unit switches to the committed region, pool and owner-set tables, and EPOCH advances.
  -/
  | rgnCommit
  /-- R64: The last request of the older epoch finishes; DRAINING clears and a pending commit may proceed. -/
  | epochDrainDone
  /-- R58: The committed tables reach the NAND metadata area, and the waiting region command completes. -/
  | metadataDurable
  /-- R69: A write sets or keeps VALID in RGN_POOL_CFG, and the pool's band and member list are checked or the write is refused.
  -/
  | poolValidSet (p : Fin 16) (w : Word) (who : Writer)
  /-- R113: A write sets VALID in TIER_PART_CFG, and the partition's ranges are checked or the write is refused.
  -/
  | partitionValidSet (q : Fin 16) (w : Word) (who : Writer)
  /-- R47: A host commits an HDM decoder; it becomes committed or reports Error Not Committed. -/
  | hdmDecoderCommit (port : PortId) (ld : Fin 16) (d : Fin 4) (base : BitVec 52) (size : BitVec 52) (ways : Nat) (ig : Nat) (skip : BitVec 48) (lock : Bool)
  /-- R23: A CXL.mem read request flit arrives and is decoded, checked and served from DRAM, or by a detour. -/
  | cxlMemRead (port : PortId) (ld : Fin 16) (hpa : BitVec 52) (tag : Nat) (errs : List (Fin 40)) (wbBad : Bool) (macOk : Bool)
  /-- R26: A CXL.mem write arrives and passes entry check, waybill, region resolve, admission, mirror hand-off, XTS, encoding and write queue.
  -/
  | cxlMemWrite (port : PortId) (ld : Fin 16) (hpa : BitVec 52) (tag : Nat) (data : LineData) (be : BitVec 64) (poison : Bool) (macOk : Bool)
  /-- R157: The old line of a partial write has been read and corrected; it is decrypted, merged, re-encrypted and written.
  -/
  | readMergeWrite (ch : ChId) (line : Nat) (errs : List (Fin 40)) (wbBad : Bool)
  /-- R82: A page freed from the count releases the oldest write at the head of the admission queues. -/
  | admissionRelease
  /-- R83: A write has waited STALL_LIMIT in the admission queue, so it leaves and is written through. -/
  | stallLimitExpiry (cw : CwId)
  /-- R79: A write-through program finishes, and the coalesced writes complete. -/
  | writeThroughDone (page : Nat)
  /-- R81: A tier engine starts writing back a DIRTY page, which becomes WRITING_BACK. -/
  | writebackStart (page : Nat) (bad : List Nat) (bus : BusUse)
  /-- R120: A write-back program finishes; the map entry changes, the page becomes CLEAN or EVICTING, and the count decrements.
  -/
  | writebackProgramDone (page : Nat)
  /-- R214: A NAND program fails; it is rewritten once in another block, then retried on another channel, and the block is retired.
  -/
  | nandProgramFail (page : Nat)
  /-- R121: A fill's codeword is corrected and written to the frame; waiting reads are served and the page becomes CLEAN or DIRTY.
  -/
  | fillDone (page : Nat) (bad : List Nat)
  /-- R123: A detoured read is not served within 1 ms, so it returns poisoned data while the fill continues. -/
  | detourTimeout (line : Nat)
  /-- R103: A RESIDENT frame of a REFILLING region refills in the background, and REFILLING clears after the last frame.
  -/
  | backgroundRefill (page : Nat) (bad : List Nat)
  /-- R104: A tier engine moves a page of a pending save image to its NAND home. -/
  | imageMoveHome (image : Bool) (page : Nat)
  /-- R437: A 1 ms sample frame publishes all sensor results, recomputes the ceiling and decides the guard state.
  -/
  | sampleFrame (raw : List (Nat × Int))
  /-- R92: The FENCE_PERSIST command waits until covered writes are persistent locally. -/
  | fencePersist (d : Desc)
  /-- R92: The covered writes of a FENCE_PERSIST are persistent locally, and the fence completes. -/
  | fencePersistDone (id : Nat)
  /-- R247: The FENCE_MIRROR command sends the covered backlog and FLUSH messages and waits for twin placement. -/
  | fenceMirror (d : Desc)
  /-- R247: The covered writes are placed on the twin, or the link is lost, and FENCE_MIRROR completes. -/
  | fenceMirrorDone (id : Nat)
  /-- R93: The FENCE_TIER command waits until counted pages are programmed home. -/
  | fenceTier (d : Desc)
  /-- R93: Every covered page has been programmed home, and FENCE_TIER completes. -/
  | fenceTierDone (id : Nat)
  /-- R94: A global persistent flush phase 1 request is taken and does nothing. -/
  | gpfPhase1 (port : PortId) (link : LinkId)
  /-- R94: A global persistent flush phase 2 request waits for accepted writes to land, or for local persistence in UNARMED.
  -/
  | gpfPhase2 (port : PortId) (link : LinkId)
  /-- R94: The phase 2 condition holds, and the flush completes on the link. -/
  | gpfPhase2Done (port : PortId) (link : LinkId)
  /-- R125: Every line of a staged tile is placed in its window slot. -/
  | tilePlaced (stream : Nat) (layer : Nat) (entry : Nat) (bad : List Nat)
  /-- R132: A host write to a RELEASE line moves RELEASE within READY, freeing slots and dropping pins. -/
  | releaseLineWrite (plan : Fin 64) (ms : Fin 32) (v : BitVec 32)
  /-- R135: The PLAN_LOAD command copies and checks a plan image, giving a plan slot and global stream numbers. -/
  | planLoad (d : Desc)
  /-- R137: The PLAN_START command sets READY and RELEASE to MS_BASE and starts staging. -/
  | planStart (d : Desc)
  /-- R138: The PLAN_STOP command stops staging, finishes entries in flight, drops pins, and optionally unloads.
  -/
  | planStop (d : Desc)
  /-- R138: The in-flight entries of a stopping plan have finished, and PLAN_STOP completes. -/
  | planStopped (slot : Fin 64)
  /-- R139: The OBJECT_PLACE command with PROMOTE fills the object's pages unpinned. -/
  | objectPlacePromote (d : Desc)
  /-- R139: The OBJECT_PLACE command with PROMOTE_PIN fills and pins the pages for stream 255. -/
  | objectPlacePromotePin (d : Desc)
  /-- R139: The OBJECT_PLACE command with UNPIN drops the pins of stream 255 on the pages. -/
  | objectPlaceUnpin (d : Desc)
  /-- R139: The OBJECT_PLACE command with DEMOTE drops the pins and writes back dirty pages. -/
  | objectPlaceDemote (d : Desc)
  /-- R166: Every OSC_MS the channel measures strobe drift and shifts its delays. -/
  | driftTrack (ch : ChId) (ps : Int)
  /-- R166: A full-retraining trigger puts the channel in RETRAINING; reads go to the twin or are held. -/
  | fullRetrainStart (ch : ChId) (why : RetrainWhy)
  /-- R166: A write of CH_CTL.RETRAIN requests a full retraining. -/
  | chRetrainRequest (ch : ChId)
  /-- R158: A write of CH_TIM_COMMIT schedules the timing shadows for the next full retraining, where they are checked and applied or refused.
  -/
  | chTimCommit (ch : ChId) (who : Writer)
  /-- R166: A full retraining finds a working setting, and the channel returns to ACTIVE. -/
  | retrainDone (ch : ChId) (bad : List Nat)
  /-- R168: A retraining fails, meets a second error or passes 80 µs, so the channel closes. -/
  | retrainBoundExpiry (ch : ChId) (sub : Bool) (code : Nat) (lanes : BitVec 20)
  /-- R171: A chunk of a closed channel's pool share is rebuilt from its queue, partner copy, NAND home or twin.
  -/
  | rebuildChunk (ch : ChId) (twin : List (Nat × LineData))
  /-- R172: Lines waiting for an absent twin for 100 ms are handled as mirror NONE and poisoned. -/
  | rebuildTwinWaitExpiry (ch : ChId)
  /-- R163: ALERT_n asserts; the subchannel stops issuing and marks unconfirmed commands. -/
  | caAlert (ch : ChId) (sub : Bool)
  /-- R163: ALERT_n deasserts; the subchannel precharges and replays the unconfirmed commands. -/
  | caAlertEnd (ch : ChId) (sub : Bool) (replayed : Nat)
  /-- R164: 4 µs have passed since the first alert of a series, so the replay escalates to full retraining. -/
  | replayTimeout (ch : ChId) (sub : Bool)
  /-- R159: A rank's refresh interval elapses and a refresh is queued, postponed or issued. -/
  | refreshDue (ch : ChId) (rank : Fin 16)
  /-- R160: Every 32 ms the DIMM thermal sensors are read and the refresh factor is set. -/
  | dimmThermPoll (ch : ChId) (t0 : Fin 256) (t1 : Fin 256) (mr : Fin 3)
  /-- R175: The EVACUATE_CHANNEL command copies a channel's pool shares to targets chunk by chunk. -/
  | evacuateChannel (d : Desc)
  /-- R175: Every chunk is copied, the remaps commit, and the channel becomes OFFLINE. -/
  | evacDone (ch : ChId)
  /-- R145: A write to CH_CTL.PWR drives CHnn_PWR_EN; writing 0 moves a CLOSED channel to OFFLINE. -/
  | chPwrWrite (ch : ChId) (v : Bool) (who : Writer)
  /-- R176: A write of CH_CTL.READMIT on an OFFLINE channel reads the SPD, trains, and starts copy-back. -/
  | readmit (ch : ChId) (a : Option DimmSpd) (b : Option DimmSpd) (pass : Bool) (timing : List Word) (who : Writer)
  /-- R176: Copy-back ends, and the remap slots clear at one commit edge. -/
  | readmitted (ch : ChId)
  /-- R426: A write of CLR in CH_ERR, NF_ERR or EVT_CW_ERR clears FIRST, MULTI and COUNT. -/
  | errClear (reg : ErrReg)
  /-- R199: A write of CLR_A or CLR_B in CH_MARK removes a rank's device mark. -/
  | markClear (ch : ChId) (rank : Fin 16) (sub : Bool)
  /-- R452: The patrol scrub reads and decodes the next line at its cursor. -/
  | patrolRead (ch : ChId) (errs : List (Fin 40))
  /-- R454: A channel napping for one hour is woken for patrol. -/
  | patrolWake (ch : ChId)
  /-- R202: A NAND module is sensed present; its parameter pages are read and checked and its channels trained. -/
  | moduleInsert (m : Fin 4) (x : NandModule)
  /-- R202: I/O training of a NAND channel ends; the channel becomes SERVING, or FAILED after a second failure. -/
  | nandIoTrainingDone (nf : NfId) (pass : Bool) (io : Fin 4) (rate : Fin 9)
  /-- R473: A module's presence pin goes high, and its channels become ABSENT. -/
  | moduleRemove (m : Fin 4) (image : List Nat)
  /-- R204: The EVACUATE_MODULE command moves a module's homes and save blocks, shrinking the save region. -/
  | evacuateModule (d : Desc)
  /-- R202: Every home codeword and save block of the module has moved, and its channels become RETIRED. -/
  | moduleEvacDone (m : Fin 4)
  /-- R211: A read-retry ladder step ends; the decode passes, or the next step starts. -/
  | readStepDone (page : Nat) (pass : Bool) (best : Fin 11) (bus : BusUse)
  /-- R212: At 760 µs no further hard step starts; at 960 µs step 12 is cut off and the codeword is uncorrectable.
  -/
  | readLadderCutoff (page : Nat)
  /-- R213: A block that needed deep retry twice within an hour has its codewords moved and is erased. -/
  | refreshMove (nf : NfId) (die : Fin 32) (block : Fin 16384)
  /-- R215: Garbage collection moves the valid codewords of sparse blocks and erases them. -/
  | garbageCollect (nf : NfId) (die : Fin 32)
  /-- R214: A NAND erase ends; the block enters the free pool, or is retired on failure. -/
  | nandEraseDone (nf : NfId) (die : Fin 32) (block : Fin 16384) (pass : Bool)
  /-- R216: No read is queued for a die, so its suspended erase resumes. -/
  | eraseResume (nf : NfId) (die : Fin 32)
  /-- R216: An erase's suspended time passes 1 s, so it counts as starved. -/
  | eraseStarved (nf : NfId) (die : Fin 32) (block : Fin 16384)
  /-- R217: An erase's suspended time reaches ERASE_GUARD_MS, so it resumes and is not suspended again. -/
  | eraseGuardExpiry (nf : NfId) (die : Fin 32) (block : Fin 16384)
  /-- R218: The counter spread exceeds WL_DELTA, so the lowest-counter block's codewords are moved. -/
  | wearLevelMove (nf : NfId)
  /-- R210: 256 MiB of home codewords have been programmed, so the dirty map codewords and a checkpoint record are written.
  -/
  | mapCheckpoint
  /-- R86: A rehearsal programs 64 MiB per channel into the free save image to measure save bandwidth. -/
  | saveRehearsal
  /-- R222: A rehearsal finishes; PER_SAVE_BW updates and the image is erased again. -/
  | saveRehearsalDone (mbps : BitVec 24)
  /-- R222: An image that became free has its blocks erased. -/
  | saveImageErase (image : Bool)
  /-- R224: VCCQ_NAND or the module supply falls below its brown-out level, and new programs and erases stop. -/
  | nandBrownout (rail : Fin 2) (blocked : Nat)
  /-- R224: The NAND rails rise above their brown-out levels, so programs and erases resume. -/
  | nandBrownoutEnd (rail : Fin 2)
  /-- R219: While the endurance token bucket is in debt, ENDURANCE_OVER is logged once per hour. -/
  | enduranceOver
  /-- R239: A BTT DATA packet passes its tag and its lines are placed in DRAM at once, or it is discarded as a duplicate or beyond the window.
  -/
  | bttData (p : BttPkt)
  /-- R243: An ACK arrives and releases covered convoys, completes SYNC writes and fences, and clears RESYNC ranges on PLACED.
  -/
  | bttAck (h : BttHdr) (placed : BitVec 64) (sack : BitVec 32) (holes : BitVec 16)
  /-- R244: A NAK arrives and brings forward retransmission of the packet it names. -/
  | bttNak (h : BttHdr)
  /-- R241: A CREDIT packet updates the cumulative credit limits per class on its path. -/
  | bttCredit (h : BttHdr) (l0 : BitVec 16) (l1 : BitVec 16) (l2 : BitVec 16) (l3 : BitVec 16)
  /-- R234: A KEEPALIVE packet arrives and keeps its path UP. -/
  | bttKeepalive (h : BttHdr)
  /-- R251: A READ_REQ arrives, and the twin answers with a READ_RESP convoy from its copy region. -/
  | bttReadReq (h : BttHdr) (line : BitVec 42) (total : BitVec 11)
  /-- R251: A READ_RESP convoy arrives and serves a repair read with a waybill made at receive. -/
  | bttReadResp (p : BttPkt)
  /-- R540: A HELLO message sets the window bases, reconciles copy regions and compares levels; the link goes UP or REFUSED.
  -/
  | hello (h : BttHdr) (m : HelloMsg)
  /-- R228: A COPY_CREATE CTRL message creates a copy region on the twin with a trimmed home. -/
  | copyCreate (h : BttHdr) (base : BitVec 27) (size : BitVec 27) (key : BitVec 12) (index : BitVec 12)
  /-- R228: A COPY_MODIFY CTRL message resizes or re-keys a copy region. -/
  | copyModify (h : BttHdr) (base : BitVec 27) (size : BitVec 27) (key : BitVec 12) (index : BitVec 12)
  /-- R228: A COPY_DESTROY CTRL message destroys a copy region. -/
  | copyDestroy (h : BttHdr) (index : BitVec 12)
  /-- R228: The twin refuses a copy command, so every range of the region is set in the bitmap and the command is retried at link-up.
  -/
  | copyRefused (h : BttHdr) (region : BitVec 12) (status : BitVec 8)
  /-- R228: The twin reports DATA for a DPA outside its copy regions, and the primary handles it as a refused COPY_CREATE.
  -/
  | copyMissing (h : BttHdr) (dpa : BitVec 48)
  /-- R249: A WINDOW_ADVANCE message makes the twin discard incomplete messages below the new base and acknowledge.
  -/
  | windowAdvance (h : BttHdr) (st : Fin 16) (base : BitVec 64)
  /-- R256: A PROMOTE_REQ asks the primary to swap roles for a planned promotion, checking owners and a mirror fence.
  -/
  | promoteReq (h : BttHdr) (region : BitVec 12) (copy : BitVec 12)
  /-- R256: A PROMOTE_ACK lets the twin commit the planned role swap. -/
  | promoteAck (h : BttHdr) (region : BitVec 12) (ok : Bool) (mirror : Fin 3)
  /-- R238: The twin-transport engine forms a convoy from copies and sends its packets over the UP paths. -/
  | convoySend (st : Fin 16) (bad : List Nat) (ctrBad : Bool)
  /-- R244: A message is not covered by an ACK RETX_US after sending, so its packets or holes are resent. -/
  | retxTimer (st : Fin 16) (seq : BitVec 64)
  /-- R244: RETX_BUDGET passes, so the message is abandoned: its ranges are set and its SYNC writes complete locally.
  -/
  | retxAbandon (st : Fin 16) (seq : BitVec 64)
  /-- R234: A path idle for KA_US sends a KEEPALIVE, and changed credit limits are sent. -/
  | keepaliveTimer (path : Fin 4)
  /-- R234: Nothing valid has arrived on a path for PATH_DEAD, so the path becomes DOWN. -/
  | pathDead (path : Fin 4) (mtu : Bool)
  /-- R233: Every path has been DOWN for ABSENT_MS, so the link becomes ABSENT. -/
  | linkAbsentTimeout
  /-- R233: In ABSENT or REFUSED, HELLO is sent on every valid path every 1 ms. -/
  | helloTimer
  /-- R249: The ASYNC lag reaches LAG_US or LAG_MIB; class 1 is cancelled, the backlog emptied and ranges set. -/
  | lagExceeded
  /-- R248: A SYNC write is not placed within SYNC_LIMIT, so it completes locally and its range is set. -/
  | syncTimeout
  /-- R254: RESYNC takes the next set range, enters it in the filter, reads it and sends it as class 2 convoys. -/
  | resyncRangeStart
  /-- R256: The PROMOTE_TWIN command promotes a copy region to an ordinary region, unplanned or by planned role swap.
  -/
  | promoteTwin (d : Desc)
  /-- R233: A write of BTT_LINK_CFG.EN enables or disables the twin link. -/
  | linkEnable (en : Bool)
  /-- R362: An SPDM KEY_UPDATE completes and the link sends under EPOCH + 1. -/
  | linkRekey
  /-- R403: A twin UPD_BLOCK delivers bundle data into the receiving controller's session. -/
  | updBlock (member : Fin 6) (off : BitVec 32) (bytes : List Byte)
  /-- R403: An UPD_STATUS reports the twin's session state and confirmed offset. -/
  | updStatus (st : Nat) (off : Nat) (busy : Bool)
  /-- R405: An ACT_PROPOSE asks a group member to vote on an activation. -/
  | actPropose (member : Fin 6) (t : Nat) (ver : Word) (level : Fin 16) (floor : Word)
  /-- R405: An ACT_VOTE arrives, and with all YES votes every member enters SCHEDULED. -/
  | actVote (member : Fin 6) (yes : Bool) (reason : Nat)
  /-- R409: An ACT_OUTCOME reports TRIAL_HEALTHY, CONFIRMED or REVERTED from a group member. -/
  | actOutcome (member : Fin 6) (what : TrialOutcome)
  /-- R403: Every 10 s the bundle is offered again to a BUSY twin. -/
  | twinOfferRetry
  /-- R262: A CXL link finishes training and negotiates its version, rate and width. -/
  | cxlLinkUp (port : PortId) (link : LinkId) (width : Fin 17) (rate : Fin 7) (ver : Fin 5) (flit256 : Bool)
  /-- R271: A CXL link goes down; accepted writes land and accepted reads are dropped. -/
  | cxlLinkDown (port : PortId) (link : LinkId)
  /-- R271: A hot reset resets the link's decoders and configuration space without changing regions. -/
  | cxlHotReset (port : PortId) (link : LinkId)
  /-- R271: A CXL Reset resets an LD's decoders and configuration space. -/
  | cxlReset (port : PortId) (ld : Fin 16)
  /-- R509: PEp_PERST_N low applies a conventional reset to the port's links and LDs. -/
  | perstAssert (port : PortId)
  /-- R278: Viral is received from the host, and later writes on the link are discarded. -/
  | viralReceived (port : PortId) (link : LinkId)
  /-- R278: An uncorrectable error in a link's transaction path makes the controller signal viral on that link. -/
  | viralSent (port : PortId) (link : LinkId) (unit : Word)
  /-- R281: An IDE_KM K_SET_GO activates keys for a stream and makes it secure again. -/
  | ideKmKSetGo (port : PortId) (link : LinkId) (stream : IdeStream)
  /-- R363: A stream's invocation counter comes within 2^32 of its limit. -/
  | ideRekeyDue (port : PortId) (link : LinkId) (stream : IdeStream)
  /-- R363: A stream's invocation counter reaches its limit, and the stream stops and is insecure. -/
  | ideCounterLimit (port : PortId) (link : LinkId) (stream : IdeStream)
  /-- R275: No Add Capacity response arrives within 10 s, and access stays permitted. -/
  | dcAddTimeout (port : PortId) (ld : Fin 16) (region : Fin 4096)
  /-- R294: An RDMA WRITE packet is checked against its memory key and its lines are written, acknowledged once complete.
  -/
  | rdmaWrite (h : RdmaHdr) (reth : Option RdmaReth) (last : Bool) (bytes : List Byte)
  /-- R294: An RDMA READ request streams the data back; a duplicate is executed again. -/
  | rdmaRead (h : RdmaHdr) (r : RdmaReth) (errs : List (Nat × List (Fin 40))) (wbBad : List Nat)
  /-- R295: A COMPARE SWAP runs as a read-merge-write and responds with the original value. -/
  | compareSwap (h : RdmaHdr) (rkey : Word) (va : BitVec 64) (cmp : BitVec 64) (swap : BitVec 64)
  /-- R295: A FETCH ADD runs as a read-merge-write and responds with the original value. -/
  | fetchAdd (h : RdmaHdr) (rkey : Word) (va : BitVec 64) (add : BitVec 64)
  /-- R294: An ATOMIC WRITE writes 8 bytes atomically. -/
  | atomicWrite (h : RdmaHdr) (rkey : Word) (va : BitVec 64) (data : BitVec 64)
  /-- R294: An RDMA FLUSH waits for visibility or persistence, and optionally twin placement, of earlier writes.
  -/
  | rdmaFlush (h : RdmaHdr) (r : RdmaReth) (persist : Bool)
  /-- R300: A requester queue receives an acknowledgement or read response; items complete, COMP_CNT advances and gates are satisfied.
  -/
  | rdmaResponse (h : RdmaHdr) (resp : RdmaResponse)
  /-- R302: A remote NAK fails the item and moves the queue pair to ERROR. -/
  | rdmaNakReceived (h : RdmaHdr) (nak : RdmaNak)
  /-- R302: A requester request is unacknowledged for ACK_TO, so it is resent, or fails after RETRY. -/
  | ackTimeout (qp : Fin 8192)
  /-- R307: A received CNP lowers the queue pair's sending rate. -/
  | cnpReceived (h : RdmaHdr)
  /-- R307: RATE_TIMER passes without a CNP, so the sending rate recovers. -/
  | rateTimer (qp : Fin 8192)
  /-- R308: A PFC pause frame for PFC_PRIO is honoured when PFC_EN is set. -/
  | pfcPauseReceived (eth : CwId) (prio : Fin 8) (on : Bool)
  /-- R303: The GATE_SET command appends a gate item that waits on COMP_CNT of a watched queue. -/
  | gateSet (d : Desc)
  /-- R304: A gate waits GATE_MS at the head of its queue; it expires and the items behind it are cancelled. -/
  | gateExpired (qp : Fin 8192)
  /-- R292: STATE written to RTS moves a RESET queue pair to RTS if its context is valid. -/
  | qpStateRts (qp : Fin 8192) (who : Writer)
  /-- R292: STATE written to ERROR moves the queue pair to ERROR. -/
  | qpStateError (qp : Fin 8192) (who : Writer)
  /-- R292: STATE written to RESET puts the queue pair in RESETTING. -/
  | qpStateReset (qp : Fin 8192) (who : Writer)
  /-- R292: Every accepted request of a RESETTING queue pair has finished, so it becomes RESET. -/
  | qpResetDone (qp : Fin 8192)
  /-- R293: A write of VALID in a memory-key entry captures the region GEN or retires the entry. -/
  | mkeyValidSet (key : Fin 16384) (on : Bool)
  /-- R324: The COPY command in local form copies between DPA ranges as writes of the destination region. -/
  | copyLocal (d : Desc)
  /-- R300: The COPY command posts a remote WRITE item on a requester queue. -/
  | copyRemoteWrite (d : Desc)
  /-- R300: The COPY command posts a remote READ item on a requester queue. -/
  | copyRemoteRead (d : Desc)
  /-- R300: The COPY command posts a remote FLUSH item on a requester queue. -/
  | copyRemoteFlush (d : Desc)
  /-- R324: The FILL command writes a repeated pattern over a range. -/
  | fill (d : Desc)
  /-- R324: The MIGRATE command moves a region to a new class or placement and commits at one edge. -/
  | migrate (d : Desc)
  /-- R312: A write of RING_SQ_DB moves the SQ tail if the value is in range, and is otherwise refused. -/
  | ringSqDb (r : Fin 256) (v : BitVec 16)
  /-- R314: A write of RING_CQ_DB moves the CQ head if the value is in range. -/
  | ringCqDb (r : Fin 256) (v : BitVec 16)
  /-- R318: A write of push word 0 opens a pushed descriptor item, tearing an open one. -/
  | ringPush (r : Fin 256) (w : Word)
  /-- R318: A write of push words 1 to 14 adds to the open item, or is discarded when none is open. -/
  | ringPushContinue (r : Fin 256) (w : Word)
  /-- R318: A write of push word 15 commits the item to the ring's command queue, or it completes BUSY. -/
  | ringPushCommit (r : Fin 256) (w : Word)
  /-- R319: A write of RING_CTL.FLUSH cancels untaken descriptors and tears an open item. -/
  | ringFlush (r : Fin 256) (unread : List (Word × BitVec 8))
  /-- R337: A write of ENABLE = 1 checks the bases and sizes and resets the ring indices and phase. -/
  | ringEnable (r : Fin 256) (who : Writer)
  /-- R337: A write of ENABLE = 0 stops taking descriptors while records are still written. -/
  | ringDisable (r : Fin 256)
  /-- R313: The ring hardware reads descriptors from the SQ, up to 32 ahead of HEAD. -/
  | descriptorFetch (r : Fin 256) (descs : List (List Word)) (err : Bool)
  /-- R314: A completion record is written at the CQ tail when there is room, and the interrupt follows. -/
  | cqRecordWrite (r : Fin 256) (err : Bool)
  /-- R315: COAL_US passes since the first uninterrupted record, so the ring's MSI-X vector is sent. -/
  | coalTimer (r : Fin 256)
  /-- R324: The NOP command completes with OK. -/
  | nop (d : Desc)
  /-- R327: The OP_SUSPEND command suspends a long operation at its next step boundary. -/
  | opSuspend (d : Desc)
  /-- R327: The OP_RESUME command resumes a suspended long operation. -/
  | opResume (d : Desc)
  /-- R327: The OP_CANCEL command cancels a long operation at its next step boundary. -/
  | opCancel (d : Desc)
  /-- R327: The OP_QUERY command returns the state and percentage of a long operation, or a stream's pins on a page.
  -/
  | opQuery (d : Desc)
  /-- R326: A long operation reaches a step boundary, where pending suspend or cancel take effect or it finishes.
  -/
  | longOpStep (slot : Fin 1024) (errs : List (Nat × List (Fin 40))) (bad : List Nat)
  /-- R335: The duplicated pointers of a spill queue differ, so the queue is rebuilt or reset by its class. -/
  | sqPointerMismatch (kind : Fin 16) (inst : Fin 8192)
  /-- R344: A write of ARB_CTL.COMMIT checks the shadow slot table and copies it to the active table, or refuses it.
  -/
  | arbCommit (cw : CwId) (who : Writer)
  /-- R344: At its frame boundary a channel applies the new active table and sets its SWAPPED bit. -/
  | slotTableSwap (ch : ChId)
  /-- R353: The KEY_LOAD command of length 124 unwraps a key into a slot and stores it durably. -/
  | keyLoad (d : Desc) (key : WrappedKey)
  /-- R353: The KEY_LOAD command of length 0 destroys a slot's key and stored copy. -/
  | keyLoadErase (d : Desc)
  /-- R356: The KEY_ROTATE command re-encrypts a region under a new slot in 2 MiB steps. -/
  | keyRotate (d : Desc)
  /-- R357: The last rotation step ends, and KEY_INDEX changes at one commit edge. -/
  | rotateDone (region : Fin 4096)
  /-- R365: An alarm sensor trips, so all working keys are zeroised within 1 µs and the store enters HOLD. -/
  | alarmZeroise (source : Fin 4) (writes : List Nat) (reads : Nat)
  /-- R366: A write of 1 to a SEC_ALARM bit clears it if its condition has been absent 100 ms; all clear makes the store LOCKED.
  -/
  | alarmClear (bits : BitVec 4) (absent : BitVec 4)
  /-- R364: An entropy health test fails; new sessions and key generation are refused. -/
  | entropyFail (test : Fin 3)
  /-- R364: 2^16 blocks after an entropy failure, masks come from the LFSR. -/
  | maskDegraded (paths : Nat)
  /-- R364: 1,024 passing samples and a reseed clear the entropy failure. -/
  | entropyRecover
  /-- R364: The DRBG reseeds after 2^20 requests. -/
  | drbgReseed
  /-- R376: A lockstep mismatch or an uncorrectable core error freezes outputs and starts a switch-over or short self-test.
  -/
  | ccMismatch (ecc : Bool) (clocks : Nat)
  /-- R376: The standby core has restored the checkpoint and replayed, so it becomes ACTIVE and releases new outputs.
  -/
  | ccSwitchover (gap : Nat) (replay : Nat) (suppressed : Nat)
  /-- R380: The 40 µs short self-test ends with no standby; a passing core restores and becomes ACTIVE. -/
  | ccShortSelftestDone (passA : Bool) (passB : Bool) (passS : Bool)
  /-- R378: The 12 ms self-test of faulted cores ends and sets the new configuration. -/
  | ccSelftest (passA : Bool) (passB : Bool) (passS : Bool) (pause : Nat)
  /-- R379: A 10 ms standby self-test round ends; three failures make the core FAULTED. -/
  | standbySelftestRound (pass : Bool)
  /-- R374: A checkpoint is taken at a firmware request or 2,048 clocks after the last. -/
  | checkpoint
  /-- R386: A write of GLB_CC_CTL.FORCE_SWITCH forces a switch-over at the next checkpoint. -/
  | forceSwitch (who : Writer)
  /-- R381: The key sequence written to GLB_WDT_KICK restarts the watchdog, or is an early kick. -/
  | wdtKick (key : BitVec 16) (ckptOk : Bool)
  /-- R381: The watchdog expires; the control complex restarts, or halts on the third expiry in 600 s. -/
  | wdtExpire (ckptOk : Bool)
  /-- R383: A warm or cold restart of the control complex finishes, after completing any interrupted erase. -/
  | ccRestartDone (coreA : Bool) (coreB : Bool) (coreS : Bool) (badA : Option (Fin 7)) (badB : Option (Fin 7))
  /-- R389: A program request for code words is accepted or refused by the flash controller. -/
  | flashProgram (off : Nat) (words : List (BitVec 256))
  /-- R389: An erase request for flash sectors is accepted, marked and started, or refused. -/
  | flashErase (off : Nat) (sectors : Nat)
  /-- R389: A flash program or erase pulse ends and is verified. -/
  | flashPulseDone (bank : Fin 2) (how : PulseEnd)
  /-- R391: No read of the bank has arrived for 2 µs, so the suspended flash operation resumes. -/
  | flashOpResume (bank : Fin 2)
  /-- R391: A flash erase has spent more than 10 s suspended. -/
  | flsEraseStarved (bank : Fin 2)
  /-- R392: VDD_FLASH falls below brown-out, so no new pulses start. -/
  | flsBrownout
  /-- R395: A 32-byte session record or event copy is written into the next erased word of a record home. -/
  | recordPortWrite
  /-- R401: The target slot's erase finishes, and the session becomes OPEN. -/
  | sessionEraseDone
  /-- R399: Verification of the bundle in the slot ends; the session becomes VERIFIED or returns to OPEN. -/
  | verifyDone (ecdsa : Bool) (mldsa : Bool) (badDigest : Option Nat)
  /-- R401: A write of FLS_UPD_CTL.ABORT ends an OPEN or VERIFIED session. -/
  | abort (who : Writer)
  /-- R401: No block arrives for IDLE_S while OPEN, so the session ends. -/
  | sessionIdleTimeout
  /-- R405: At T − 50 ms a missing vote refuses the activation on every member. -/
  | actVoteDeadline
  /-- R406: The activation time is reached; ACTIVATED is written and the component swaps begin. -/
  | activationTime
  /-- R406: A component reaches its idle boundary and is swapped to the new image. -/
  | updComponentSwap (stop : Nat) (ok : Bool)
  /-- R408: A write of FLS_UPD_CTL.CONFIRM confirms the trial image. -/
  | confirm (who : Writer)
  /-- R408: The trial has run TRIAL_S healthy with group health, so it is confirmed automatically. -/
  | trialSElapsed
  /-- R409: A write of FLS_UPD_CTL.REVERT reverts the trial to the running slot. -/
  | revert (who : Writer)
  /-- R409: CONFIRM_S passes from activation without confirmation, so the trial reverts. -/
  | confirmSExpiry
  /-- R401: The previous bundle runs again, and the session returns to IDLE. -/
  | revertDone
  /-- R419: A write of EVT_ACK acknowledges CRITICAL records at or before the sequence given. -/
  | evtAck (seq : BitVec 32)
  /-- R420: A rate-limited event's interval ends, and one SUMMARY record is written. -/
  | eventLimitIntervalEnd (code : BitVec 16) (key : Nat)
  /-- R421: A CFG_REJECT window closes after one second, and folded rejections are summarised. -/
  | cfgRejectWindowEnd
  /-- R425: A word of an event slot fails its check in service, so the slot is emptied. -/
  | evtSlotCheckFail (slot : Fin 8192)
  /-- R429: A junction path detects an error and requests a replay from the sender's buffer. -/
  | junctionError (link : Fin 8)
  /-- R429: A junction retraining completes, and held traffic crosses again. -/
  | jctRetrainDone (link : Fin 8) (errored : Bool) (spares0 : Fin 3) (spares1 : Fin 3)
  /-- R430: A tag-cache set fails its check and is invalidated, with lookups taking the miss path. -/
  | tagqInvalidate (quarter : CwId)
  /-- R431: A tier engine detects a fault in its own state and restarts its operations within 50 µs. -/
  | tierEngineFault (cw : CwId)
  /-- R440: A write of SNS_TRIM_CTL.COMMIT applies all shadow trims at the next frame boundary. -/
  | trimCommit
  /-- R449: A write of SNS_TRIM_CTL.RELOAD reloads the shadow trims from the factory sectors. -/
  | trimReload
  /-- R444: PKp_PRES_N goes low, and the pack enters IDENTIFYING. -/
  | packInsert (p : PackNo)
  /-- R443: The pack identity EEPROM is read; the pack becomes HEALTHY, UNTESTED or FAULT. -/
  | packIdentifyDone (p : PackNo) (id : Option PackId)
  /-- R444: PKp_PRES_N goes high, so the pack becomes ABSENT and its energy leaves the ceiling. -/
  | packRemove (p : PackNo)
  /-- R446: A write of SNS_PACK_CTL.TEST requests a pack test, starting with a planned reduction. -/
  | packTestRequest (p : PackNo)
  /-- R450: The in-service scheduler starts a pack test every PACK_DAYS. -/
  | packTestScheduled (p : PackNo)
  /-- R446: A deferred pack test is retried after 1 h. -/
  | packTestRetry (p : PackNo)
  /-- R446: The pack voltage falls by TEST_DV, the load is released and C, ESR and end of life are computed. -/
  | packTestDone (p : PackNo) (v0 : Nat) (v1 : Nat) (v2 : Nat) (us : Nat)
  /-- R474: The PACK_RELEASE command lowers the ceiling by the planned path and releases the pack. -/
  | packRelease (d : Desc)
  /-- R324: The SANITIZE command sanitizes or securely erases media in MAINTENANCE. -/
  | sanitize (d : Desc)
  /-- R324: The SCRUB_REGION command scrubs a region's lines and reports uncorrectable lines. -/
  | scrubRegion (d : Desc)
  /-- R455: A lay-by slot completes its March C− test in 20 µs. -/
  | laybyMarchSlot (ch : ChId) (pass : Bool)
  /-- R457: The disturb patrol reads one codeword of a written block with the retry ladder. -/
  | disturbPatrolRead (nf : NfId) (die : Nat) (block : Nat) (step : Fin 13) (best : Fin 11)
  /-- R458: An idle lane starts a 50 ms eye scan with its offset sampler. -/
  | eyeScanStart (lane : Fin 160)
  /-- R458: An eye scan ends and stores height and width. -/
  | eyeScanDone (lane : Fin 160) (height : Nat) (width : Nat) (kept : Bool)
  /-- R459: The IDCODE instruction selects the identification register. -/
  | idcode
  /-- R459: The SAMPLE/PRELOAD instruction samples pins without driving them. -/
  | samplePreload (pins : Nat)
  /-- R459: The EXTEST instruction drives and captures boundary cells in MAINTENANCE. -/
  | extest (pins : Nat)
  /-- R459: The EXTEST_PULSE instruction tests AC-coupled lanes. -/
  | extestPulse (pins : Nat)
  /-- R459: The EXTEST_TRAIN instruction tests AC-coupled lanes. -/
  | extestTrain (pins : Nat)
  /-- R459: The CLAMP instruction holds outputs with BYPASS in the path. -/
  | clamp
  /-- R459: The HIGHZ instruction puts all outputs in high impedance. -/
  | highz
  /-- R460: The MBIST instruction runs memory BIST. -/
  | mbist
  /-- R461: The SCAN instruction zeroises the key store and runs full scan. -/
  | scan
  /-- R459: The BYPASS instruction selects the bypass register. -/
  | bypass
  /-- R460: A write of GLB_BIST_CTL.START runs memory BIST in MAINTENANCE. -/
  | bistStart (who : Writer)
  /-- R460: Memory BIST ends and sets GLB_BIST_STAT, retiring failing slots. -/
  | bistDone (slots : List (ChId × Fin 1024)) (tagq : BitVec 4) (staging : Bool) (queues : Bool) (ckpt : Bool)
  /-- R468: Every HB_MS the master sends a heartbeat and drops members that missed three. -/
  | heartbeatSend (reports : List MemberReport)
  /-- R468: A member receives a heartbeat and answers it. -/
  | heartbeatReceive (member : Fin 4) (live : BitVec 4) (handback : Bool)
  /-- R468: A member hears no heartbeat for ELECT_MS plus its position wait, and takes mastership. -/
  | stackElection (ranges : List StackRegion)
  /-- R468: A write of GLB_STACK_CTL.HANDBACK passes mastership to the lowest live position. -/
  | handback (who : Writer) (received : Bool)
  /-- R470: The master checks a member's region range against the other members and accepts or refuses it. -/
  | stackRangeCheck (x : StackRegion) (index : Fin 4096)
  /-- R469: No master is elected within 1 s, so waiting region commands complete BUSY. -/
  | electionCommandTimeout
  /-- R479: The MCTP Set Endpoint ID command assigns the controller's EID. -/
  | setEndpointId (bus : Fin 2) (eid : BitVec 8)
  /-- R481: The MCTP Get Endpoint ID command returns the EID. -/
  | getEndpointId (bus : Fin 2)
  /-- R481: The MCTP Get MCTP Version command returns the version. -/
  | getMctpVersion (bus : Fin 2)
  /-- R481: The MCTP command returns the message types answered at that moment. -/
  | getMessageTypeSupport (bus : Fin 2)
  /-- R478: ENTDAA or SETDASA assigns a dynamic address, and the bus switches to I3C. -/
  | i3cAddressAssign (bus : Fin 2) (setdasa : Option (BitVec 7))
  /-- R478: RSTDAA or a bus reset returns the bus to SMBus. -/
  | i3cRstdaa (bus : Fin 2)
  /-- R478: 1 s of I3C inactivity after a bus error returns the bus to SMBus. -/
  | i3cBusErrorTimeout (bus : Fin 2)
  /-- R484: The vendor EVT_READ command returns whole event records. -/
  | evtRead (bus : Fin 2) (first : Fin 8192) (count : Fin 8)
  /-- R487: The BMC acknowledges a PlatformEventMessage, freeing its place in the queue of 64. -/
  | platformEventAck
  /-- R534: A write of GLB_LOCK.LOCK sets the set-up lock. -/
  | glbLockSet (bmc : Bool)
  /-- R534: AUTO_LOCK_MIN minutes after the first entry to service, the set-up lock is set automatically. -/
  | autoLock
  /-- R527: A read of a register with RC fields returns and clears them, unless BMC_PEEK applies. -/
  | counterReadClear (bmc : Bool) (off : BitVec 26) (bytes : Fin 9)
  /-- R526: A read or write of an unlisted offset returns 0 or is ignored, and GLB_ACC_ERR.UNMAPPED counts. -/
  | unlistedAccess (bmc : Bool) (write : Bool) (off : BitVec 26) (wide : Bool)
  /-- R4: A write to a register with no row of its own is applied under its fields' access codes and change classes, or refused.
  -/
  | registerWrite (who : Writer) (off : BitVec 26) (bytes : Fin 9) (v : BitVec 64) (env : RegEnv)
  /-- R154: At each command slot, each subchannel's scheduler issues the first permitted candidate (refresh, aged request, slot owner, open-row column, drain write, ACT or PRE). This covers write-drain start and stop and the retiring of writes that ends in-order mode.
  -/
  | commandSlot (ch : ChId) (sub : Bool) (deny : List DramCmd)
  /-- R39: Under the host's ASPM policy, a CXL link enters L1.1 or L1.2. -/
  | linkL1Entry (port : PortId) (link : LinkId) (l12 : Bool)
  /-- R39: An Ethernet port's link comes up with its partner, and its lanes are powered. -/
  | ethLinkUp (eth : CwId)
  /-- R39: An Ethernet port's link goes down, and its lanes are powered off. -/
  | ethLinkDown (eth : CwId)
  /-- R496: VDD_IO leaves its range; IO_OK clears, and the island ignores the management, pack and stack buses. -/
  | vddIoLost
  /-- R496: VDD_IO comes back into range; IO_OK sets, and the island serves the buses again. -/
  | vddIoReturn
  /-- R497: PWR_FAIL_N goes high in STANDBY, and a pending wake whose BRD_PG is already high starts the power-up sequence.
  -/
  | pwrFailNRise
  /-- R508: SYS_RST_N goes high again, and a held reset pulse that has not yet taken effect is dropped, clearing GLB_RST_CAUSE.HELD.
  -/
  | sysRstNRelease
  /-- R509: PEp_PERST_N goes high, and the port's links may train again. -/
  | perstRelease (port : PortId)
  /-- R497: The 32.768 kHz crystal has started, and the island moves from its RC oscillator to the crystal; GLB_CLK_STAT.XTAL sets.
  -/
  | crystalStart
  /-- R185: A line-recovery or repair read sent to the twin gets no complete READ_RESP within the fill bound, and the twin's copy is treated as failed, so the line is stored or returned poisoned.
  -/
  | twinReadTimeout (line : Nat)
  /-- R79: The 20 µs coalescing window of a page's write-through ends, and the program of the coalesced lines starts.
  -/
  | writeThroughStart (page : Nat)
  /-- R362: 10 ms after the first packet of a new BTT EPOCH, the receiver stops accepting packets of the previous EPOCH.
  -/
  | previousEpochExpiry
  deriving DecidableEq, Repr

end Sys2Proof
end

