-- ==== Sys2Proof/Decode.lean ====
section
/-!
DEFINITION. The decoder of the table's words. No row of spec/opcode_table.json gives bits: the controller takes commands as register
writes, messages and pin events, and a descriptor of a ring is laid out by R320 (Machine/Rings.lean). So no word spells a command.
-/
namespace Sys2Proof

/-- The command that a word of the table's bits spells: none, as the table gives no row any bits. -/
def decodeTableWord (_nbits _w : Nat) : Option Instr := none

end Sys2Proof
end

