-- ==== Sys2Proof/Config.lean ====
section
/-!
DEFINITION. What the spec leaves open or gives by reference: the free values, and AES.
-/
namespace Sys2Proof.Config

/-- The free values: what the spec leaves open, one for each value of the counter `State.freeCtr` (log entry 6). -/
opaque freeValue : Nat → Nat

/-- Words of an item of the spill queues whose items the spec does not lay out: 3 RDMA requester, 4 ASYNC backlog (R331). -/
opaque itemWords : Nat → Nat

/-- DRAM core time of a read in ns at a rate in MT/s other than 8800, which R262 does not give. -/
opaque dramCoreNs : Nat → Nat

/-- AES-256 encryption of one block under a key (FIPS 197), which the spec uses by reference (R188, R355). -/
opaque aesEncrypt : BitVec 256 → BitVec 128 → BitVec 128

/-- SHA-384 of a string of bytes (FIPS 180-4), which the spec uses by reference (R396 to R398). -/
opaque sha384 : List Nat → BitVec 384

/-- The device unique secret in fuses (R358). -/
opaque dus : BitVec 256

end Sys2Proof.Config
end

