-- ==== Sys2Proof/Machine/RegTable.lean ====
section
/-!
DEFINITION. The register map of the controller: every register of R535 and R538, with the fields of its table in the
spec (bits, access code, reset value, change class, permitted values). The names are the spec's own. Written from the
field tables of the chapters; `RegName.base` and `RegName.dims` follow the block map of R526 and the index of R538.
-/
namespace Sys2Proof.Machine

/-- The registers, one name for each register of R535 and R538; a repeated register has one name and its indices. -/
inductive RegName where
  | GLB_MODE | GLB_MODE_REQ | GLB_SLEEP_CTL | RGN_CAP | RGN_STATUS | RGN_DPA_LIMIT | RGN_UNMAPPED_CNT
  | RGN_DENY_CNT | RGN_POOL_CFG | RGN_POOL_BAND | RGN_POOL_REMAP | CH_AMAP | PER_CAP | PER_GUARD | PER_POLICY
  | PER_SAVE_DECL | PER_ENERGY | PER_SAVE_BW | PER_FIXED | PER_CEILING | PER_AT_RISK | PER_STALL_CTL
  | PER_STALL_CNT | PER_WT_CNT | PER_SAVE_STATUS | PER_RESTORE | TIER_CAP | TIER_LAYBY_CTL | TIER_LAYBY_STAT
  | TIER_DETOUR_CNT | TIER_DETOUR_TO_CNT | TIER_EVICT_REF_CNT | TIER_PIN_OVF_CNT | TIER_BYPASS_CNT
  | TIER_LOAN_ABANDON_CNT | TIER_PART_CFG | TIER_PART_DATA | TIER_PART_TAG | TIER_PART_STAT | TIER_PLAN_STAT
  | TIER_STREAM_STAT | CH_TIM0 | CH_TIM1 | CH_TIM2 | CH_TIM3 | CH_TIM4 | CH_TIM5 | CH_TIM6 | CH_TIM7 | CH_TIM8
  | CH_TIM9 | CH_TIM10 | CH_TIM11 | CH_TIM12 | CH_TIM13 | CH_TIM_COMMIT | CH_STATE | CH_CTL | CH_POP | CH_ERR
  | CH_SCHED | CH_QSTAT | CH_REF | CH_THERM | CH_PASR | CH_CAPAR | CH_TRAIN_CTL | CH_TRAIN_STAT | CH_REBUILD
  | CH_LC_CTL | CH_CE_CNT | CH_UE_CNT | CH_LOC_CNT | CH_WB_CNT | CH_MARK | NF_STATE | NF_GEOM | NF_RETRY_CNT
  | NF_SOFT_CNT | NF_UE_CNT | NF_PREEMPT_CNT | NF_ERASE_CTL | NF_ERASE_STAT | NF_FREE | NF_EC_SEL | NF_EC_DATA
  | NF_EC_SUM | NF_POP | NF_ENDUR_CTL | NF_ENDUR_STAT | NF_PE | NF_WL_CTL | NF_SAVE_RGN | NF_MAP | BTT_CAP
  | BTT_LINK_CFG | BTT_TIMING | BTT_TIMING2 | BTT_TIMING3 | BTT_RX_SHARE | BTT_LINK_STAT | BTT_EPOCH | BTT_LAG
  | BTT_BITMAP | BTT_RETX_CNT | BTT_DUP_CNT | BTT_WINDOW_DROP_CNT | BTT_TAG_FAIL_CNT | BTT_LATE_ACK_CNT
  | BTT_FILTER_HOLD_CNT | BTT_ABANDON_CNT | BTT_BAD_HDR_CNT | BTT_PATH_CFG | BTT_PATH_STAT | BTT_COPY | PRT_CAP
  | PRT_BIFUR | PRT_LINK_STAT | PRT_LD_EN | PRT_TT_STAT | PRT_DEVLOAD | PRT_NOT_READY_CNT | PRT_POISON_IN_CNT
  | PRT_IDE_FAIL_CNT | PRT_VIRAL_CNT | PRT_POISON_LIST | RDMA_CAP | RDMA_CTL | RDMA_CC | RDMA_GATE_CTL
  | RDMA_DROP_CNT | RDMA_DUP_CNT | RDMA_NAK_SENT_CNT | RDMA_CNP_SENT_CNT | RDMA_CNP_RCV_CNT | RDMA_QP_CTX
  | RDMA_KEY_ENT | RDMA_QP_STAT | RING_SQ_DB | RING_CQ_DB | RING_PUSH_STAT | RING_CTL | RING_CFG | RING_GROUPS
  | RING_COAL | RING_STAT | RING_CQ_STAT | RING_CAP | OP_STAT | SQ_SEL | SQ_STAT | SQ_RESET_CNT | SQ_REBUILD_CNT
  | SPILL_POOL | ARB_SHADOW | ARB_ACTIVE | ARB_CTL | ARB_STAT | ARB_TB_STAT | SEC_CAP | SEC_STATUS | SEC_ALARM
  | SEC_CTL | SEC_KEY_SEL | SEC_KEY_STAT | SEC_ROT_STAT | SEC_ROT_CURSOR | SEC_KEY_ABSENT_CNT | SEC_FW
  | GLB_CC_STAT | GLB_CC_TEST | GLB_CC_CTL | GLB_WDT_CFG | GLB_WDT_KICK | GLB_WDT_STAT | FLS_CAP | FLS_STAT
  | FLS_SLOT_STAT | FLS_SESS | FLS_SESS_OFF | FLS_SESS_LEN | FLS_ACT_TIME_LO | FLS_ACT_TIME_HI | FLS_ACT_STAT
  | FLS_UPD_CTL | FLS_UPD_TIMING | FLS_REC_STAT | FLS_CONFLICT_CNT | FLS_REPROG_CNT | FLS_SUSPEND_CNT | EVT_CAP
  | EVT_HEAD | EVT_OLDEST | EVT_COUNT | EVT_ACK | EVT_DROP0 | EVT_DROP1 | EVT_OVW0 | EVT_OVW1 | EVT_LATE_CNT
  | EVT_ERR_SUM0 | EVT_ERR_SUM1 | EVT_CW_ERR | SNS_CTL | SNS_PACK_CFG | SNS_PACK_CFG2 | SNS_VAL | SNS_PACK_STAT
  | SNS_PACK_CAP | SNS_PACK_ENERGY | SNS_PACK_CTL | SNS_TRIM | SNS_TRIM_CTL | GLB_IST_CTL | GLB_IST_PERIOD
  | GLB_IST_PERIOD2 | GLB_EYE_SEL | GLB_EYE_DATA | GLB_EYE_MIN | GLB_BIST_CTL | GLB_BIST_STAT | CH_PATROL
  | CH_LAYBY | GLB_STACK_CFG | GLB_STACK_STAT | GLB_STACK_CTL | MGT_CAP | MGT_CTL | MGT_STAT | GLB_STRAP
  | GLB_PWR_CTL | GLB_PWR_STAT | GLB_RST_CTL | GLB_RST_CAUSE | GLB_CLK_STAT | GLB_TB_OFFSET | GLB_ID | GLB_REV
  | GLB_LOCK | GLB_ACC_CTL | GLB_ACC_ERR | GLB_SERIAL | RGN_OWNER_SET | RGN_TABLE | RING_PUSH | RING_SQ_BASE
  | RING_CQ_BASE | RING_DB_BAD_CNT | BTT_PATH_LOCAL_IP | BTT_PATH_REMOTE_IP | RDMA_GID | RDMA_QP_SEL | RDMA_KEY_SEL
  | SEC_ROT_SEL | EVT_SLOT | FLS_SESS_ID | NF_ERR | CH_SPD
  deriving DecidableEq, Repr

/-- Access codes of R3. -/
inductive Access where | ro | rw | wo | w1c | w1s | rc
  deriving DecidableEq, Repr

/-- Change classes of R4; `none` for a field that software cannot write. -/
inductive ChgClass where | none | live | quiesce | shadow | fixed
  deriving DecidableEq, Repr

/-- One field of a register: the word of the register it lies in, its bits, access code, change class,
    reset value and,
for a field with a stated range, the permitted closed intervals (empty: every value). -/
structure Field where
  reg   : RegName
  word  : Nat
  lo    : Nat
  width : Nat
  acc   : Access
  cls   : ChgClass
  reset : Nat
  ok    : List (Nat × Nat)
  deriving DecidableEq, Repr

def GLB_MODE_MODE : Field := ⟨.GLB_MODE, 0, 0, 4, .ro, .none, 0x1, []⟩
def GLB_MODE_PREV_MODE : Field := ⟨.GLB_MODE, 0, 4, 4, .ro, .none, 0x0, []⟩
def GLB_MODE_DEG_CAUSE : Field := ⟨.GLB_MODE, 0, 8, 5, .ro, .none, 0x0, []⟩
def GLB_MODE_MODE_SEQ : Field := ⟨.GLB_MODE, 0, 16, 16, .ro, .none, 0x0, []⟩
def GLB_MODE_REQ_TARGET : Field := ⟨.GLB_MODE_REQ, 0, 0, 4, .rw, .live, 0x0, [(0, 15)]⟩
def GLB_MODE_REQ_GO : Field := ⟨.GLB_MODE_REQ, 0, 4, 1, .w1s, .live, 0x0, []⟩
def GLB_MODE_REQ_RESULT : Field := ⟨.GLB_MODE_REQ, 0, 8, 8, .ro, .none, 0x0, []⟩
def GLB_SLEEP_CTL_NAP_EN : Field := ⟨.GLB_SLEEP_CTL, 0, 0, 1, .rw, .live, 0x1, []⟩
def GLB_SLEEP_CTL_PASR_EN : Field := ⟨.GLB_SLEEP_CTL, 0, 1, 1, .rw, .quiesce, 0x0, []⟩
def GLB_SLEEP_CTL_QUIESCENT_EN : Field := ⟨.GLB_SLEEP_CTL, 0, 2, 1, .rw, .live, 0x1, []⟩
def GLB_SLEEP_CTL_NAP1_IDLE : Field := ⟨.GLB_SLEEP_CTL, 0, 4, 8, .rw, .live, 0xa, []⟩
def GLB_SLEEP_CTL_NAP2_IDLE : Field := ⟨.GLB_SLEEP_CTL, 0, 12, 8, .rw, .live, 0x32, []⟩
def GLB_SLEEP_CTL_QUIESCE_IDLE : Field := ⟨.GLB_SLEEP_CTL, 0, 20, 8, .rw, .live, 0x64, []⟩
def RGN_CAP_MAX_REGIONS : Field := ⟨.RGN_CAP, 0, 0, 16, .ro, .none, 0x1000, []⟩
def RGN_CAP_MAX_POOL : Field := ⟨.RGN_CAP, 0, 16, 4, .ro, .none, 0xf, []⟩
def RGN_CAP_MAX_OWNER_SET : Field := ⟨.RGN_CAP, 0, 20, 8, .ro, .none, 0xff, []⟩
def RGN_STATUS_EPOCH : Field := ⟨.RGN_STATUS, 0, 0, 16, .ro, .none, 0x0, []⟩
def RGN_STATUS_DRAINING : Field := ⟨.RGN_STATUS, 0, 16, 1, .ro, .none, 0x0, []⟩
def RGN_STATUS_COMMIT_PENDING : Field := ⟨.RGN_STATUS, 0, 17, 1, .ro, .none, 0x0, []⟩
def RGN_STATUS_ACTIVE : Field := ⟨.RGN_STATUS, 0, 18, 13, .ro, .none, 0x0, []⟩
def RGN_DPA_LIMIT_LIMIT_GIB : Field := ⟨.RGN_DPA_LIMIT, 0, 0, 18, .ro, .none, 0x0, []⟩
def RGN_UNMAPPED_CNT_COUNT : Field := ⟨.RGN_UNMAPPED_CNT, 0, 0, 32, .rc, .none, 0x0, []⟩
def RGN_DENY_CNT_COUNT : Field := ⟨.RGN_DENY_CNT, 0, 0, 32, .rc, .none, 0x0, []⟩
def RGN_POOL_CFG_VALID : Field := ⟨.RGN_POOL_CFG, 0, 0, 1, .rw, .quiesce, 0x0, []⟩
def RGN_POOL_CFG_SET : Field := ⟨.RGN_POOL_CFG, 0, 1, 2, .rw, .quiesce, 0x0, [(0, 2)]⟩
def RGN_POOL_CFG_CW_A : Field := ⟨.RGN_POOL_CFG, 0, 3, 2, .rw, .quiesce, 0x0, []⟩
def RGN_POOL_CFG_CW_B : Field := ⟨.RGN_POOL_CFG, 0, 5, 2, .rw, .quiesce, 0x0, []⟩
def RGN_POOL_CFG_GRAIN : Field := ⟨.RGN_POOL_CFG, 0, 7, 3, .rw, .quiesce, 0x3, [(0, 4)]⟩
def RGN_POOL_CFG_REFS : Field := ⟨.RGN_POOL_CFG, 0, 16, 13, .ro, .none, 0x0, []⟩
def RGN_POOL_BAND_BASE_GIB : Field := ⟨.RGN_POOL_BAND, 0, 0, 10, .rw, .quiesce, 0x0, [(0, 511)]⟩
def RGN_POOL_BAND_SIZE_GIB : Field := ⟨.RGN_POOL_BAND, 0, 16, 10, .rw, .quiesce, 0x0, [(1, 512)]⟩
def RGN_POOL_REMAP_VALID : Field := ⟨.RGN_POOL_REMAP, 0, 0, 1, .ro, .none, 0x0, []⟩
def RGN_POOL_REMAP_MEMBER : Field := ⟨.RGN_POOL_REMAP, 0, 1, 4, .ro, .none, 0x0, []⟩
def RGN_POOL_REMAP_TARGET_CH : Field := ⟨.RGN_POOL_REMAP, 0, 8, 4, .ro, .none, 0x0, []⟩
def RGN_POOL_REMAP_TARGET_BASE_GIB : Field := ⟨.RGN_POOL_REMAP, 0, 16, 10, .ro, .none, 0x0, []⟩
def CH_AMAP_CL_W : Field := ⟨.CH_AMAP, 0, 0, 2, .rw, .quiesce, 0x2, [(0, 3)]⟩
def CH_AMAP_SC_W : Field := ⟨.CH_AMAP, 0, 2, 1, .ro, .none, 0x1, []⟩
def CH_AMAP_BG_W : Field := ⟨.CH_AMAP, 0, 3, 2, .ro, .none, 0x3, []⟩
def CH_AMAP_BA_W : Field := ⟨.CH_AMAP, 0, 5, 2, .ro, .none, 0x2, []⟩
def CH_AMAP_COL_W : Field := ⟨.CH_AMAP, 0, 7, 4, .ro, .none, 0x7, []⟩
def CH_AMAP_RK_W : Field := ⟨.CH_AMAP, 0, 11, 3, .ro, .none, 0x1, []⟩
def CH_AMAP_ROW_W : Field := ⟨.CH_AMAP, 0, 14, 5, .ro, .none, 0x12, []⟩
def CH_AMAP_HASH_EN : Field := ⟨.CH_AMAP, 0, 19, 1, .rw, .quiesce, 0x1, []⟩
def PER_CAP_ARCH_MAX_GIB : Field := ⟨.PER_CAP, 0, 0, 10, .ro, .none, 0x200, []⟩
def PER_CAP_ADM_QUEUE : Field := ⟨.PER_CAP, 0, 16, 12, .ro, .none, 0xc00, []⟩
def PER_GUARD_STATE : Field := ⟨.PER_GUARD, 0, 0, 2, .ro, .none, 0x0, []⟩
def PER_GUARD_STALL_RISK : Field := ⟨.PER_GUARD, 0, 2, 1, .ro, .none, 0x0, []⟩
def PER_GUARD_UNARMED_CAUSE : Field := ⟨.PER_GUARD, 0, 4, 5, .ro, .none, 0x1, []⟩
def PER_GUARD_IMAGE_FREE : Field := ⟨.PER_GUARD, 0, 9, 2, .ro, .none, 0x0, []⟩
def PER_GUARD_GUARD_SEQ : Field := ⟨.PER_GUARD, 0, 16, 16, .ro, .none, 0x0, []⟩
def PER_POLICY_WB_PCT : Field := ⟨.PER_POLICY, 0, 0, 7, .rw, .live, 0x4b, [(50, 95)]⟩
def PER_POLICY_FORCE_UNARMED : Field := ⟨.PER_POLICY, 0, 7, 1, .rw, .live, 0x0, []⟩
def PER_POLICY_FLOOR_GIB : Field := ⟨.PER_POLICY, 0, 8, 10, .rw, .live, 0x10, [(1, 512)]⟩
def PER_POLICY_DERATE_PCT : Field := ⟨.PER_POLICY, 0, 18, 7, .rw, .live, 0x50, [(25, 100)]⟩
def PER_SAVE_DECL_SAVE_POWER_W : Field := ⟨.PER_SAVE_DECL, 0, 0, 16, .rw, .live, 0x0, []⟩
def PER_SAVE_DECL_CAP_GIB : Field := ⟨.PER_SAVE_DECL, 0, 16, 10, .rw, .live, 0x200, [(1, 512)]⟩
def PER_ENERGY_USABLE_DJ : Field := ⟨.PER_ENERGY, 0, 0, 24, .ro, .none, 0x0, []⟩
def PER_ENERGY_VALID : Field := ⟨.PER_ENERGY, 0, 24, 1, .ro, .none, 0x0, []⟩
def PER_ENERGY_PACKS : Field := ⟨.PER_ENERGY, 0, 25, 4, .ro, .none, 0x0, []⟩
def PER_SAVE_BW_MBPS : Field := ⟨.PER_SAVE_BW, 0, 0, 20, .ro, .none, 0x0, []⟩
def PER_SAVE_BW_CHANNELS : Field := ⟨.PER_SAVE_BW, 0, 20, 6, .ro, .none, 0x0, []⟩
def PER_FIXED_T_FIXED_US : Field := ⟨.PER_FIXED, 0, 0, 16, .ro, .none, 0x5dc, []⟩
def PER_CEILING_PAGES : Field := ⟨.PER_CEILING, 0, 0, 28, .ro, .none, 0x0, []⟩
def PER_AT_RISK_PAGES : Field := ⟨.PER_AT_RISK, 0, 0, 28, .ro, .none, 0x0, []⟩
def PER_STALL_CTL_STALL_LIMIT_US : Field := ⟨.PER_STALL_CTL, 0, 0, 10, .rw, .live, 0x3e8, [(100, 1000)]⟩
def PER_STALL_CNT_COUNT : Field := ⟨.PER_STALL_CNT, 0, 0, 32, .rc, .none, 0x0, []⟩
def PER_WT_CNT_COUNT : Field := ⟨.PER_WT_CNT, 0, 0, 32, .rc, .none, 0x0, []⟩
def PER_SAVE_STATUS_LAST_SEQ : Field := ⟨.PER_SAVE_STATUS, 0, 0, 16, .ro, .none, 0x0, []⟩
def PER_SAVE_STATUS_LAST_RESULT : Field := ⟨.PER_SAVE_STATUS, 0, 16, 3, .ro, .none, 0x0, []⟩
def PER_SAVE_STATUS_PENDING : Field := ⟨.PER_SAVE_STATUS, 0, 19, 2, .ro, .none, 0x0, []⟩
def PER_RESTORE_PENDING_PAGES : Field := ⟨.PER_RESTORE, 0, 0, 28, .ro, .none, 0x0, []⟩
def PER_RESTORE_REFILL_ACTIVE : Field := ⟨.PER_RESTORE, 0, 28, 1, .ro, .none, 0x0, []⟩
def TIER_CAP_MAX_PLANS : Field := ⟨.TIER_CAP, 0, 0, 7, .ro, .none, 0x40, []⟩
def TIER_CAP_MAX_STREAMS : Field := ⟨.TIER_CAP, 0, 7, 9, .ro, .none, 0x100, []⟩
def TIER_CAP_MAX_PART : Field := ⟨.TIER_CAP, 0, 16, 5, .ro, .none, 0x10, []⟩
def TIER_LAYBY_CTL_LEND_EN : Field := ⟨.TIER_LAYBY_CTL, 0, 0, 1, .rw, .live, 0x1, []⟩
def TIER_LAYBY_CTL_WB_RESERVE : Field := ⟨.TIER_LAYBY_CTL, 0, 8, 8, .rw, .quiesce, 0x40, [(16, 255)]⟩
def TIER_LAYBY_STAT_LENT : Field := ⟨.TIER_LAYBY_STAT, 0, 0, 16, .ro, .none, 0x0, []⟩
def TIER_LAYBY_STAT_BORROWING : Field := ⟨.TIER_LAYBY_STAT, 0, 16, 16, .ro, .none, 0x0, []⟩
def TIER_DETOUR_CNT_COUNT : Field := ⟨.TIER_DETOUR_CNT, 0, 0, 32, .rc, .none, 0x0, []⟩
def TIER_DETOUR_TO_CNT_COUNT : Field := ⟨.TIER_DETOUR_TO_CNT, 0, 0, 32, .rc, .none, 0x0, []⟩
def TIER_EVICT_REF_CNT_COUNT : Field := ⟨.TIER_EVICT_REF_CNT, 0, 0, 32, .rc, .none, 0x0, []⟩
def TIER_PIN_OVF_CNT_COUNT : Field := ⟨.TIER_PIN_OVF_CNT, 0, 0, 32, .rc, .none, 0x0, []⟩
def TIER_BYPASS_CNT_COUNT : Field := ⟨.TIER_BYPASS_CNT, 0, 0, 32, .rc, .none, 0x0, []⟩
def TIER_LOAN_ABANDON_CNT_COUNT : Field := ⟨.TIER_LOAN_ABANDON_CNT, 0, 0, 32, .rc, .none, 0x0, []⟩
def TIER_PART_CFG_VALID : Field := ⟨.TIER_PART_CFG, 0, 0, 1, .rw, .quiesce, 0x0, []⟩
def TIER_PART_CFG_POOL : Field := ⟨.TIER_PART_CFG, 0, 1, 4, .rw, .quiesce, 0x0, []⟩
def TIER_PART_CFG_SETS_LOG2 : Field := ⟨.TIER_PART_CFG, 0, 5, 5, .rw, .quiesce, 0x8, [(8, 27)]⟩
def TIER_PART_CFG_PIN_WAYS : Field := ⟨.TIER_PART_CFG, 0, 10, 4, .rw, .live, 0xc, []⟩
def TIER_PART_CFG_PREFETCH : Field := ⟨.TIER_PART_CFG, 0, 14, 4, .rw, .live, 0x0, []⟩
def TIER_PART_DATA_FRAME : Field := ⟨.TIER_PART_DATA, 0, 0, 31, .rw, .quiesce, 0x0, []⟩
def TIER_PART_TAG_FRAME : Field := ⟨.TIER_PART_TAG, 0, 0, 31, .rw, .quiesce, 0x0, []⟩
def TIER_PART_STAT_PAGES : Field := ⟨.TIER_PART_STAT, 0, 0, 28, .ro, .none, 0x0, []⟩
def TIER_PLAN_STAT_STATE : Field := ⟨.TIER_PLAN_STAT, 0, 0, 2, .ro, .none, 0x0, []⟩
def TIER_PLAN_STAT_STREAMS_M1 : Field := ⟨.TIER_PLAN_STAT, 0, 2, 5, .ro, .none, 0x0, []⟩
def TIER_PLAN_STAT_FIRST_STREAM : Field := ⟨.TIER_PLAN_STAT, 0, 7, 8, .ro, .none, 0x0, []⟩
def TIER_STREAM_STAT_READY : Field := ⟨.TIER_STREAM_STAT, 0, 0, 32, .ro, .none, 0x0, []⟩
def TIER_STREAM_STAT_LAYER : Field := ⟨.TIER_STREAM_STAT, 1, 0, 16, .ro, .none, 0x0, []⟩
def TIER_STREAM_STAT_STATE : Field := ⟨.TIER_STREAM_STAT, 1, 16, 3, .ro, .none, 0x0, []⟩
def TIER_STREAM_STAT_PLAN : Field := ⟨.TIER_STREAM_STAT, 1, 19, 6, .ro, .none, 0x0, []⟩
def CH_TIM0_CL : Field := ⟨.CH_TIM0, 0, 0, 8, .rw, .shadow, 0x48, [(22, 120)]⟩
def CH_TIM0_CWL : Field := ⟨.CH_TIM0, 0, 8, 8, .rw, .shadow, 0x46, [(20, 118)]⟩
def CH_TIM0_TRCD : Field := ⟨.CH_TIM0, 0, 16, 8, .rw, .shadow, 0x48, [(8, 200)]⟩
def CH_TIM0_TRP : Field := ⟨.CH_TIM0, 0, 24, 8, .rw, .shadow, 0x48, [(8, 200)]⟩
def CH_TIM1_TRAS : Field := ⟨.CH_TIM1, 0, 0, 10, .rw, .shadow, 0x8d, [(16, 1023)]⟩
def CH_TIM1_TRC : Field := ⟨.CH_TIM1, 0, 16, 10, .rw, .shadow, 0xd5, [(24, 1023)]⟩
def CH_TIM2_TRRD_S : Field := ⟨.CH_TIM2, 0, 0, 8, .rw, .shadow, 0x8, [(4, 255)]⟩
def CH_TIM2_TRRD_L : Field := ⟨.CH_TIM2, 0, 8, 8, .rw, .shadow, 0x16, [(4, 255)]⟩
def CH_TIM2_TFAW : Field := ⟨.CH_TIM2, 0, 16, 8, .rw, .shadow, 0x2c, [(16, 255)]⟩
def CH_TIM2_TCCD_S : Field := ⟨.CH_TIM2, 0, 24, 8, .rw, .shadow, 0x8, [(4, 255)]⟩
def CH_TIM3_TCCD_L : Field := ⟨.CH_TIM3, 0, 0, 8, .rw, .shadow, 0x16, [(4, 255)]⟩
def CH_TIM3_TCCD_L_WR : Field := ⟨.CH_TIM3, 0, 8, 8, .rw, .shadow, 0x58, [(16, 255)]⟩
def CH_TIM3_TWTR_S : Field := ⟨.CH_TIM3, 0, 16, 8, .rw, .shadow, 0xb, [(2, 255)]⟩
def CH_TIM3_TWTR_L : Field := ⟨.CH_TIM3, 0, 24, 8, .rw, .shadow, 0x2c, [(4, 255)]⟩
def CH_TIM4_TWR : Field := ⟨.CH_TIM4, 0, 0, 10, .rw, .shadow, 0x84, [(10, 1023)]⟩
def CH_TIM4_TRTP : Field := ⟨.CH_TIM4, 0, 16, 8, .rw, .shadow, 0x21, [(4, 255)]⟩
def CH_TIM4_TPPD : Field := ⟨.CH_TIM4, 0, 24, 4, .rw, .shadow, 0x2, [(1, 15)]⟩
def CH_TIM4_TRTRS : Field := ⟨.CH_TIM4, 0, 28, 4, .rw, .shadow, 0x2, [(0, 15)]⟩
def CH_TIM5_RDWR_ADD : Field := ⟨.CH_TIM5, 0, 0, 4, .rw, .shadow, 0x2, [(0, 15)]⟩
def CH_TIM5_WRRD_ADD : Field := ⟨.CH_TIM5, 0, 4, 4, .rw, .shadow, 0x2, [(0, 15)]⟩
def CH_TIM5_TRPRE : Field := ⟨.CH_TIM5, 0, 8, 2, .rw, .shadow, 0x2, []⟩
def CH_TIM5_TWPRE : Field := ⟨.CH_TIM5, 0, 10, 2, .rw, .shadow, 0x2, [(0, 2)]⟩
def CH_TIM5_TRPST : Field := ⟨.CH_TIM5, 0, 12, 1, .rw, .shadow, 0x1, []⟩
def CH_TIM5_TWPST : Field := ⟨.CH_TIM5, 0, 13, 1, .rw, .shadow, 0x1, []⟩
def CH_TIM5_TMRR : Field := ⟨.CH_TIM5, 0, 16, 8, .rw, .shadow, 0x10, [(8, 255)]⟩
def CH_TIM5_TMRW : Field := ⟨.CH_TIM5, 0, 24, 8, .rw, .shadow, 0x16, [(8, 255)]⟩
def CH_TIM6_TREFI : Field := ⟨.CH_TIM6, 0, 0, 16, .rw, .shadow, 0x4308, [(1024, 65535)]⟩
def CH_TIM6_TRFC1 : Field := ⟨.CH_TIM6, 0, 16, 12, .rw, .shadow, 0x70c, [(64, 4095)]⟩
def CH_TIM7_TRFC2 : Field := ⟨.CH_TIM7, 0, 0, 12, .rw, .shadow, 0x3c8, [(64, 4095)]⟩
def CH_TIM7_TRFCSB : Field := ⟨.CH_TIM7, 0, 16, 12, .rw, .shadow, 0x23c, [(64, 4095)]⟩
def CH_TIM8_TREFSBRD : Field := ⟨.CH_TIM8, 0, 0, 10, .rw, .shadow, 0x84, [(8, 1023)]⟩
def CH_TIM8_TXS : Field := ⟨.CH_TIM8, 0, 16, 12, .rw, .shadow, 0x738, [(64, 4095)]⟩
def CH_TIM9_TDLLK : Field := ⟨.CH_TIM9, 0, 0, 12, .rw, .shadow, 0x800, [(256, 4095)]⟩
def CH_TIM9_TXP : Field := ⟨.CH_TIM9, 0, 16, 8, .rw, .shadow, 0x21, [(4, 255)]⟩
def CH_TIM9_TCPDED : Field := ⟨.CH_TIM9, 0, 24, 8, .rw, .shadow, 0x16, [(4, 255)]⟩
def CH_TIM10_TCSL : Field := ⟨.CH_TIM10, 0, 0, 8, .rw, .shadow, 0x2c, [(8, 255)]⟩
def CH_TIM10_TMRD : Field := ⟨.CH_TIM10, 0, 8, 8, .rw, .shadow, 0x3e, [(8, 255)]⟩
def CH_TIM10_TZQLAT : Field := ⟨.CH_TIM10, 0, 16, 10, .rw, .shadow, 0x84, [(8, 1023)]⟩
def CH_TIM11_TZQCAL : Field := ⟨.CH_TIM11, 0, 0, 14, .rw, .shadow, 0x1130, [(512, 16383)]⟩
def CH_TIM11_TOSCO : Field := ⟨.CH_TIM11, 0, 16, 10, .rw, .shadow, 0xb0, [(8, 1023)]⟩
def CH_TIM12_RAAIMT : Field := ⟨.CH_TIM12, 0, 0, 8, .rw, .shadow, 0x20, [(8, 255)]⟩
def CH_TIM12_RAAMMT : Field := ⟨.CH_TIM12, 0, 8, 12, .rw, .shadow, 0xc0, [(16, 4095)]⟩
def CH_TIM12_RAADEC : Field := ⟨.CH_TIM12, 0, 20, 3, .rw, .shadow, 0x0, [(0, 1)]⟩
def CH_TIM12_RFM_EN : Field := ⟨.CH_TIM12, 0, 23, 1, .rw, .shadow, 0x0, []⟩
def CH_TIM13_PAR_LAT : Field := ⟨.CH_TIM13, 0, 0, 8, .rw, .shadow, 0x30, [(8, 64)]⟩
def CH_TIM13_ALERT_PW : Field := ⟨.CH_TIM13, 0, 8, 8, .rw, .shadow, 0x90, [(16, 255)]⟩
def CH_TIM_COMMIT_COMMIT : Field := ⟨.CH_TIM_COMMIT, 0, 0, 1, .w1s, .live, 0x0, []⟩
def CH_TIM_COMMIT_REFUSED : Field := ⟨.CH_TIM_COMMIT, 0, 1, 1, .ro, .none, 0x0, []⟩
def CH_STATE_STATE : Field := ⟨.CH_STATE, 0, 0, 3, .ro, .none, 0x7, []⟩
def CH_STATE_TYPE : Field := ⟨.CH_STATE, 0, 3, 2, .ro, .none, 0x0, []⟩
def CH_STATE_RATE : Field := ⟨.CH_STATE, 0, 8, 4, .ro, .none, 0x0, []⟩
def CH_STATE_CAP_GIB : Field := ⟨.CH_STATE, 0, 16, 10, .ro, .none, 0x0, []⟩
def CH_STATE_RSV_GIB : Field := ⟨.CH_STATE, 0, 26, 4, .ro, .none, 0x0, []⟩
def CH_CTL_RETRAIN : Field := ⟨.CH_CTL, 0, 0, 1, .w1s, .live, 0x0, []⟩
def CH_CTL_PWR : Field := ⟨.CH_CTL, 0, 1, 1, .rw, .quiesce, 0x1, []⟩
def CH_CTL_READMIT : Field := ⟨.CH_CTL, 0, 2, 1, .w1s, .live, 0x0, []⟩
def CH_CTL_RATE_CAP : Field := ⟨.CH_CTL, 0, 4, 4, .rw, .fixed, 0x0, []⟩
def CH_POP_PRESENT : Field := ⟨.CH_POP, 0, 0, 1, .ro, .none, 0x0, []⟩
def CH_POP_RANKS_M1 : Field := ⟨.CH_POP, 0, 1, 1, .ro, .none, 0x0, []⟩
def CH_POP_HEIGHT : Field := ⟨.CH_POP, 0, 2, 2, .ro, .none, 0x0, []⟩
def CH_POP_DENSITY : Field := ⟨.CH_POP, 0, 4, 3, .ro, .none, 0x0, []⟩
def CH_POP_GIB : Field := ⟨.CH_POP, 0, 7, 9, .ro, .none, 0x0, []⟩
def CH_ERR_FIRST : Field := ⟨.CH_ERR, 0, 0, 8, .ro, .none, 0x0, []⟩
def CH_ERR_MULTI : Field := ⟨.CH_ERR, 0, 8, 1, .ro, .none, 0x0, []⟩
def CH_ERR_CLR : Field := ⟨.CH_ERR, 0, 15, 1, .w1s, .live, 0x0, []⟩
def CH_ERR_COUNT : Field := ⟨.CH_ERR, 0, 16, 16, .ro, .none, 0x0, []⟩
def CH_SCHED_RD_AGE : Field := ⟨.CH_SCHED, 0, 0, 8, .rw, .live, 0x1e, [(1, 255)]⟩
def CH_SCHED_WR_AGE : Field := ⟨.CH_SCHED, 0, 8, 8, .rw, .live, 0xa, [(1, 255)]⟩
def CH_SCHED_WR_HI : Field := ⟨.CH_SCHED, 0, 16, 7, .rw, .live, 0x60, [(16, 127)]⟩
def CH_SCHED_WR_LO : Field := ⟨.CH_SCHED, 0, 24, 7, .rw, .live, 0x20, []⟩
def CH_QSTAT_RD_OCC : Field := ⟨.CH_QSTAT, 0, 0, 8, .ro, .none, 0x0, []⟩
def CH_QSTAT_WR_OCC : Field := ⟨.CH_QSTAT, 0, 8, 8, .ro, .none, 0x0, []⟩
def CH_QSTAT_IN_ORDER : Field := ⟨.CH_QSTAT, 0, 16, 8, .ro, .none, 0x0, []⟩
def CH_REF_MODE : Field := ⟨.CH_REF, 0, 0, 1, .rw, .quiesce, 0x0, []⟩
def CH_REF_FGR : Field := ⟨.CH_REF, 0, 1, 1, .rw, .quiesce, 0x0, []⟩
def CH_REF_POSTPONE_MAX : Field := ⟨.CH_REF, 0, 2, 3, .rw, .live, 0x4, [(0, 4)]⟩
def CH_THERM_TEMP0 : Field := ⟨.CH_THERM, 0, 0, 8, .ro, .none, 0x0, []⟩
def CH_THERM_TEMP1 : Field := ⟨.CH_THERM, 0, 8, 8, .ro, .none, 0x0, []⟩
def CH_THERM_FACTOR : Field := ⟨.CH_THERM, 0, 16, 2, .ro, .none, 0x0, []⟩
def CH_THERM_THROTTLE : Field := ⟨.CH_THERM, 0, 18, 1, .ro, .none, 0x0, []⟩
def CH_PASR_RELEASED : Field := ⟨.CH_PASR, 0, 0, 16, .ro, .none, 0x0, []⟩
def CH_CAPAR_ALERTS : Field := ⟨.CH_CAPAR, 0, 0, 16, .rc, .none, 0x0, []⟩
def CH_CAPAR_ESCALATIONS : Field := ⟨.CH_CAPAR, 0, 16, 16, .rc, .none, 0x0, []⟩
def CH_TRAIN_CTL_OSC_MS : Field := ⟨.CH_TRAIN_CTL, 0, 0, 8, .rw, .live, 0x10, [(1, 255)]⟩
def CH_TRAIN_CTL_FULL_PS : Field := ⟨.CH_TRAIN_CTL, 0, 8, 8, .rw, .live, 0x28, [(10, 255)]⟩
def CH_TRAIN_CTL_TEMP_DELTA : Field := ⟨.CH_TRAIN_CTL, 0, 16, 6, .rw, .live, 0x14, [(5, 63)]⟩
def CH_TRAIN_CTL_CE_LIMIT : Field := ⟨.CH_TRAIN_CTL, 0, 24, 8, .rw, .live, 0x40, []⟩
def CH_TRAIN_STAT_LAST_TRIGGER : Field := ⟨.CH_TRAIN_STAT, 0, 0, 8, .ro, .none, 0x0, []⟩
def CH_TRAIN_STAT_FULL_COUNT : Field := ⟨.CH_TRAIN_STAT, 0, 8, 8, .ro, .none, 0x0, []⟩
def CH_TRAIN_STAT_LAST_NS : Field := ⟨.CH_TRAIN_STAT, 0, 16, 16, .ro, .none, 0x0, []⟩
def CH_REBUILD_ACTIVE : Field := ⟨.CH_REBUILD, 0, 0, 1, .ro, .none, 0x0, []⟩
def CH_REBUILD_NO_SPACE : Field := ⟨.CH_REBUILD, 0, 1, 1, .ro, .none, 0x0, []⟩
def CH_REBUILD_PCT : Field := ⟨.CH_REBUILD, 0, 8, 8, .ro, .none, 0x0, []⟩
def CH_REBUILD_PARTNER : Field := ⟨.CH_REBUILD, 0, 16, 4, .ro, .none, 0x0, []⟩
def CH_LC_CTL_MARK_AUTO : Field := ⟨.CH_LC_CTL, 0, 0, 1, .rw, .live, 0x1, []⟩
def CH_LC_CTL_MARK_HITS : Field := ⟨.CH_LC_CTL, 0, 1, 3, .rw, .live, 0x2, []⟩
def CH_LC_CTL_MARK_WIN_S : Field := ⟨.CH_LC_CTL, 0, 8, 8, .rw, .live, 0x3c, []⟩
def CH_LC_CTL_SCRUB_WR : Field := ⟨.CH_LC_CTL, 0, 16, 1, .rw, .live, 0x1, []⟩
def CH_CE_CNT_COUNT : Field := ⟨.CH_CE_CNT, 0, 0, 32, .rc, .none, 0x0, []⟩
def CH_UE_CNT_COUNT : Field := ⟨.CH_UE_CNT, 0, 0, 32, .rc, .none, 0x0, []⟩
def CH_LOC_CNT_COUNT : Field := ⟨.CH_LOC_CNT, 0, 0, 32, .rc, .none, 0x0, []⟩
def CH_WB_CNT_COUNT : Field := ⟨.CH_WB_CNT, 0, 0, 32, .rc, .none, 0x0, []⟩
def CH_MARK_POS_A : Field := ⟨.CH_MARK, 0, 0, 5, .ro, .none, 0x0, []⟩
def CH_MARK_VALID_A : Field := ⟨.CH_MARK, 0, 5, 1, .ro, .none, 0x0, []⟩
def CH_MARK_POS_B : Field := ⟨.CH_MARK, 0, 8, 5, .ro, .none, 0x0, []⟩
def CH_MARK_VALID_B : Field := ⟨.CH_MARK, 0, 13, 1, .ro, .none, 0x0, []⟩
def CH_MARK_CLR_A : Field := ⟨.CH_MARK, 0, 16, 1, .w1s, .live, 0x0, []⟩
def CH_MARK_CLR_B : Field := ⟨.CH_MARK, 0, 17, 1, .w1s, .live, 0x0, []⟩
def NF_STATE_STATE : Field := ⟨.NF_STATE, 0, 0, 3, .ro, .none, 0x0, []⟩
def NF_STATE_IO : Field := ⟨.NF_STATE, 0, 4, 2, .ro, .none, 0x0, []⟩
def NF_STATE_DIES : Field := ⟨.NF_STATE, 0, 6, 6, .ro, .none, 0x0, []⟩
def NF_STATE_RATE : Field := ⟨.NF_STATE, 0, 12, 4, .ro, .none, 0x0, []⟩
def NF_STATE_CELL : Field := ⟨.NF_STATE, 0, 16, 2, .ro, .none, 0x0, []⟩
def NF_GEOM_PLANES_LOG2 : Field := ⟨.NF_GEOM, 0, 0, 2, .ro, .none, 0x0, []⟩
def NF_GEOM_PAGES : Field := ⟨.NF_GEOM, 0, 2, 13, .ro, .none, 0x0, []⟩
def NF_GEOM_BLOCKS : Field := ⟨.NF_GEOM, 0, 15, 15, .ro, .none, 0x0, []⟩
def NF_RETRY_CNT_COUNT : Field := ⟨.NF_RETRY_CNT, 0, 0, 32, .rc, .none, 0x0, []⟩
def NF_SOFT_CNT_COUNT : Field := ⟨.NF_SOFT_CNT, 0, 0, 32, .rc, .none, 0x0, []⟩
def NF_UE_CNT_COUNT : Field := ⟨.NF_UE_CNT, 0, 0, 32, .rc, .none, 0x0, []⟩
def NF_PREEMPT_CNT_COUNT : Field := ⟨.NF_PREEMPT_CNT, 0, 0, 32, .rc, .none, 0x0, []⟩
def NF_ERASE_CTL_ERASE_GUARD_MS : Field := ⟨.NF_ERASE_CTL, 0, 0, 10, .rw, .live, 0x0, [(0, 0), (10, 1000)]⟩
def NF_ERASE_STAT_STARVED : Field := ⟨.NF_ERASE_STAT, 0, 0, 16, .rc, .none, 0x0, []⟩
def NF_ERASE_STAT_LONGEST_MS : Field := ⟨.NF_ERASE_STAT, 0, 16, 16, .ro, .none, 0x0, []⟩
def NF_FREE_MIN_FREE : Field := ⟨.NF_FREE, 0, 0, 16, .ro, .none, 0x0, []⟩
def NF_FREE_ALARM : Field := ⟨.NF_FREE, 0, 16, 1, .ro, .none, 0x0, []⟩
def NF_EC_SEL_DIE : Field := ⟨.NF_EC_SEL, 0, 0, 5, .rw, .live, 0x0, []⟩
def NF_EC_SEL_BLOCK : Field := ⟨.NF_EC_SEL, 0, 8, 15, .rw, .live, 0x0, []⟩
def NF_EC_DATA_ERASES : Field := ⟨.NF_EC_DATA, 0, 0, 24, .ro, .none, 0x0, []⟩
def NF_EC_DATA_STATUS : Field := ⟨.NF_EC_DATA, 0, 24, 2, .ro, .none, 0x0, []⟩
def NF_EC_DATA_USE : Field := ⟨.NF_EC_DATA, 0, 26, 2, .ro, .none, 0x0, []⟩
def NF_EC_SUM_MIN : Field := ⟨.NF_EC_SUM, 0, 0, 16, .ro, .none, 0x0, []⟩
def NF_EC_SUM_MAX : Field := ⟨.NF_EC_SUM, 0, 16, 16, .ro, .none, 0x0, []⟩
def NF_POP_MODULES : Field := ⟨.NF_POP, 0, 0, 4, .ro, .none, 0x0, []⟩
def NF_POP_SERVING : Field := ⟨.NF_POP, 0, 4, 6, .ro, .none, 0x0, []⟩
def NF_POP_BROWNOUT : Field := ⟨.NF_POP, 0, 10, 1, .ro, .none, 0x0, []⟩
def NF_ENDUR_CTL_DWB_TARGET_GIB : Field := ⟨.NF_ENDUR_CTL, 0, 0, 20, .rw, .live, 0x0, []⟩
def NF_ENDUR_STAT_DAY_GIB : Field := ⟨.NF_ENDUR_STAT, 0, 0, 20, .ro, .none, 0x0, []⟩
def NF_ENDUR_STAT_OVER : Field := ⟨.NF_ENDUR_STAT, 0, 20, 1, .ro, .none, 0x0, []⟩
def NF_ENDUR_STAT_WA_PCT : Field := ⟨.NF_ENDUR_STAT, 0, 21, 11, .ro, .none, 0x0, []⟩
def NF_PE_PE_RATED : Field := ⟨.NF_PE, 0, 0, 16, .rw, .fixed, 0x0, [(100, 65535)]⟩
def NF_PE_PE_MEAN : Field := ⟨.NF_PE, 0, 16, 16, .ro, .none, 0x0, []⟩
def NF_WL_CTL_WL_DELTA : Field := ⟨.NF_WL_CTL, 0, 0, 12, .rw, .live, 0xc8, [(50, 4095)]⟩
def NF_WL_CTL_FREE_LOW : Field := ⟨.NF_WL_CTL, 0, 12, 12, .rw, .live, 0x40, [(16, 1024)]⟩
def NF_SAVE_RGN_GOOD_A_GIB : Field := ⟨.NF_SAVE_RGN, 0, 0, 12, .ro, .none, 0x0, []⟩
def NF_SAVE_RGN_GOOD_B_GIB : Field := ⟨.NF_SAVE_RGN, 0, 12, 12, .ro, .none, 0x0, []⟩
def NF_MAP_CACHE_GIB : Field := ⟨.NF_MAP, 0, 0, 8, .ro, .none, 0x0, []⟩
def NF_MAP_HIT_PCT : Field := ⟨.NF_MAP, 0, 8, 7, .ro, .none, 0x0, []⟩
def BTT_CAP_LEVEL : Field := ⟨.BTT_CAP, 0, 0, 4, .ro, .none, 0x1, []⟩
def BTT_CAP_MAX_PATHS : Field := ⟨.BTT_CAP, 0, 4, 3, .ro, .none, 0x4, []⟩
def BTT_CAP_STREAMS : Field := ⟨.BTT_CAP, 0, 7, 5, .ro, .none, 0x10, []⟩
def BTT_CAP_FILTER : Field := ⟨.BTT_CAP, 0, 12, 15, .ro, .none, 0x4000, []⟩
def BTT_LINK_CFG_EN : Field := ⟨.BTT_LINK_CFG, 0, 0, 1, .rw, .live, 0x0, []⟩
def BTT_LINK_CFG_IPV6 : Field := ⟨.BTT_LINK_CFG, 0, 1, 1, .rw, .quiesce, 0x0, []⟩
def BTT_LINK_CFG_COPY_PART : Field := ⟨.BTT_LINK_CFG, 0, 2, 4, .rw, .quiesce, 0x0, []⟩
def BTT_LINK_CFG_UDP_PORT : Field := ⟨.BTT_LINK_CFG, 0, 16, 16, .rw, .quiesce, 0x4254, []⟩
def BTT_TIMING_LAG_US : Field := ⟨.BTT_TIMING, 0, 0, 8, .rw, .live, 0x32, [(10, 255)]⟩
def BTT_TIMING_LAG_MIB : Field := ⟨.BTT_TIMING, 0, 8, 10, .rw, .live, 0x100, [(16, 1023)]⟩
def BTT_TIMING_RETX_US : Field := ⟨.BTT_TIMING, 0, 18, 6, .rw, .live, 0x4, [(1, 63)]⟩
def BTT_TIMING_RETX_BUDGET : Field := ⟨.BTT_TIMING, 0, 24, 8, .rw, .live, 0xc, [(2, 255)]⟩
def BTT_TIMING2_SYNC_LIMIT : Field := ⟨.BTT_TIMING2, 0, 0, 13, .rw, .live, 0x3e8, [(100, 5000)]⟩
def BTT_TIMING2_KA_US : Field := ⟨.BTT_TIMING2, 0, 16, 8, .rw, .live, 0x14, [(5, 255)]⟩
def BTT_TIMING2_PATH_DEAD : Field := ⟨.BTT_TIMING2, 0, 24, 8, .rw, .live, 0xa, [(2, 255)]⟩
def BTT_TIMING3_ABSENT_MS : Field := ⟨.BTT_TIMING3, 0, 0, 10, .rw, .live, 0x2, [(1, 1000)]⟩
def BTT_TIMING3_RESYNC_PCT : Field := ⟨.BTT_TIMING3, 0, 16, 7, .rw, .live, 0x32, [(10, 100)]⟩
def BTT_TIMING3_SYNC_COAL_NS : Field := ⟨.BTT_TIMING3, 0, 24, 8, .rw, .live, 0x14, []⟩
def BTT_RX_SHARE_CLASS0 : Field := ⟨.BTT_RX_SHARE, 0, 0, 8, .rw, .quiesce, 0x1e, []⟩
def BTT_RX_SHARE_CLASS1 : Field := ⟨.BTT_RX_SHARE, 0, 8, 8, .rw, .quiesce, 0x1e, []⟩
def BTT_RX_SHARE_CLASS2 : Field := ⟨.BTT_RX_SHARE, 0, 16, 8, .rw, .quiesce, 0x1e, []⟩
def BTT_RX_SHARE_CLASS3 : Field := ⟨.BTT_RX_SHARE, 0, 24, 8, .rw, .quiesce, 0xa, []⟩
def BTT_LINK_STAT_STATE : Field := ⟨.BTT_LINK_STAT, 0, 0, 3, .ro, .none, 0x0, []⟩
def BTT_LINK_STAT_PATHS_UP : Field := ⟨.BTT_LINK_STAT, 0, 4, 4, .ro, .none, 0x0, []⟩
def BTT_LINK_STAT_PEER_LEVEL : Field := ⟨.BTT_LINK_STAT, 0, 8, 4, .ro, .none, 0x0, []⟩
def BTT_LINK_STAT_RESYNC : Field := ⟨.BTT_LINK_STAT, 0, 12, 1, .ro, .none, 0x0, []⟩
def BTT_EPOCH_EPOCH : Field := ⟨.BTT_EPOCH, 0, 0, 32, .ro, .none, 0x0, []⟩
def BTT_LAG_AGE_US : Field := ⟨.BTT_LAG, 0, 0, 16, .ro, .none, 0x0, []⟩
def BTT_LAG_MIB : Field := ⟨.BTT_LAG, 0, 16, 16, .ro, .none, 0x0, []⟩
def BTT_BITMAP_RANGES : Field := ⟨.BTT_BITMAP, 0, 0, 27, .ro, .none, 0x0, []⟩
def BTT_RETX_CNT_COUNT : Field := ⟨.BTT_RETX_CNT, 0, 0, 32, .rc, .none, 0x0, []⟩
def BTT_DUP_CNT_COUNT : Field := ⟨.BTT_DUP_CNT, 0, 0, 32, .rc, .none, 0x0, []⟩
def BTT_WINDOW_DROP_CNT_COUNT : Field := ⟨.BTT_WINDOW_DROP_CNT, 0, 0, 32, .rc, .none, 0x0, []⟩
def BTT_TAG_FAIL_CNT_COUNT : Field := ⟨.BTT_TAG_FAIL_CNT, 0, 0, 32, .rc, .none, 0x0, []⟩
def BTT_LATE_ACK_CNT_COUNT : Field := ⟨.BTT_LATE_ACK_CNT, 0, 0, 32, .rc, .none, 0x0, []⟩
def BTT_FILTER_HOLD_CNT_COUNT : Field := ⟨.BTT_FILTER_HOLD_CNT, 0, 0, 32, .rc, .none, 0x0, []⟩
def BTT_ABANDON_CNT_COUNT : Field := ⟨.BTT_ABANDON_CNT, 0, 0, 32, .rc, .none, 0x0, []⟩
def BTT_BAD_HDR_CNT_COUNT : Field := ⟨.BTT_BAD_HDR_CNT, 0, 0, 32, .rc, .none, 0x0, []⟩
def BTT_PATH_CFG_VALID : Field := ⟨.BTT_PATH_CFG, 0, 0, 1, .rw, .live, 0x0, []⟩
def BTT_PATH_CFG_ETH_PORT : Field := ⟨.BTT_PATH_CFG, 0, 1, 2, .rw, .quiesce, 0x0, []⟩
def BTT_PATH_CFG_PKT_MAX : Field := ⟨.BTT_PATH_CFG, 0, 3, 2, .rw, .quiesce, 0x2, [(0, 2)]⟩
def BTT_PATH_CFG_DSCP : Field := ⟨.BTT_PATH_CFG, 0, 5, 6, .rw, .quiesce, 0x0, []⟩
def BTT_PATH_CFG_SRC_UDP : Field := ⟨.BTT_PATH_CFG, 0, 16, 16, .rw, .quiesce, 0xc000, []⟩
def BTT_PATH_STAT_UP : Field := ⟨.BTT_PATH_STAT, 0, 0, 1, .ro, .none, 0x0, []⟩
def BTT_PATH_STAT_SILENT_US : Field := ⟨.BTT_PATH_STAT, 0, 16, 16, .ro, .none, 0x0, []⟩
def BTT_COPY_COPY : Field := ⟨.BTT_COPY, 0, 0, 1, .ro, .none, 0x0, []⟩
def BTT_COPY_PROMOTED : Field := ⟨.BTT_COPY, 0, 1, 1, .ro, .none, 0x0, []⟩
def BTT_COPY_PRIMARY : Field := ⟨.BTT_COPY, 0, 2, 12, .ro, .none, 0x0, []⟩
def BTT_COPY_PROMO_GEN : Field := ⟨.BTT_COPY, 1, 0, 32, .ro, .none, 0x0, []⟩
def PRT_CAP_ENTRIES : Field := ⟨.PRT_CAP, 0, 0, 11, .ro, .none, 0x600, []⟩
def PRT_CAP_VER_MAX : Field := ⟨.PRT_CAP, 0, 11, 4, .ro, .none, 0x4, []⟩
def PRT_CAP_SEL_IDE : Field := ⟨.PRT_CAP, 0, 15, 8, .ro, .none, 0x80, []⟩
def PRT_BIFUR_CURRENT : Field := ⟨.PRT_BIFUR, 0, 0, 2, .ro, .none, 0x0, []⟩
def PRT_BIFUR_NEXT : Field := ⟨.PRT_BIFUR, 0, 4, 2, .rw, .live, 0x0, [(0, 2)]⟩
def PRT_LINK_STAT_UP : Field := ⟨.PRT_LINK_STAT, 0, 0, 1, .ro, .none, 0x0, []⟩
def PRT_LINK_STAT_WIDTH : Field := ⟨.PRT_LINK_STAT, 0, 1, 5, .ro, .none, 0x0, []⟩
def PRT_LINK_STAT_RATE : Field := ⟨.PRT_LINK_STAT, 0, 6, 3, .ro, .none, 0x0, []⟩
def PRT_LINK_STAT_FLIT256 : Field := ⟨.PRT_LINK_STAT, 0, 9, 1, .ro, .none, 0x0, []⟩
def PRT_LINK_STAT_VER : Field := ⟨.PRT_LINK_STAT, 0, 10, 3, .ro, .none, 0x0, []⟩
def PRT_LINK_STAT_VIRAL : Field := ⟨.PRT_LINK_STAT, 0, 13, 1, .ro, .none, 0x0, []⟩
def PRT_LINK_STAT_IDE : Field := ⟨.PRT_LINK_STAT, 0, 14, 2, .ro, .none, 0x0, []⟩
def PRT_LINK_STAT_RWD_HELD : Field := ⟨.PRT_LINK_STAT, 0, 16, 1, .ro, .none, 0x0, []⟩
def PRT_LD_EN_MASK : Field := ⟨.PRT_LD_EN, 0, 0, 16, .rw, .live, 0x0, []⟩
def PRT_TT_STAT_IN_USE : Field := ⟨.PRT_TT_STAT, 0, 0, 11, .ro, .none, 0x0, []⟩
def PRT_TT_STAT_PEAK : Field := ⟨.PRT_TT_STAT, 0, 11, 11, .rc, .none, 0x0, []⟩
def PRT_DEVLOAD_OPT_PCT : Field := ⟨.PRT_DEVLOAD, 0, 0, 7, .rw, .live, 0x32, [(10, 98)]⟩
def PRT_DEVLOAD_MOD_PCT : Field := ⟨.PRT_DEVLOAD, 0, 8, 7, .rw, .live, 0x4b, []⟩
def PRT_DEVLOAD_SEV_PCT : Field := ⟨.PRT_DEVLOAD, 0, 16, 7, .rw, .live, 0x5a, []⟩
def PRT_NOT_READY_CNT_COUNT : Field := ⟨.PRT_NOT_READY_CNT, 0, 0, 32, .rc, .none, 0x0, []⟩
def PRT_POISON_IN_CNT_COUNT : Field := ⟨.PRT_POISON_IN_CNT, 0, 0, 32, .rc, .none, 0x0, []⟩
def PRT_IDE_FAIL_CNT_COUNT : Field := ⟨.PRT_IDE_FAIL_CNT, 0, 0, 32, .rc, .none, 0x0, []⟩
def PRT_VIRAL_CNT_COUNT : Field := ⟨.PRT_VIRAL_CNT, 0, 0, 32, .rc, .none, 0x0, []⟩
def PRT_POISON_LIST_ENTRIES : Field := ⟨.PRT_POISON_LIST, 0, 0, 17, .ro, .none, 0x0, []⟩
def PRT_POISON_LIST_OVERFLOW : Field := ⟨.PRT_POISON_LIST, 0, 17, 1, .w1c, .live, 0x0, []⟩
def RDMA_CAP_QPS : Field := ⟨.RDMA_CAP, 0, 0, 14, .ro, .none, 0x2000, []⟩
def RDMA_CAP_KEYS : Field := ⟨.RDMA_CAP, 0, 14, 15, .ro, .none, 0x4000, []⟩
def RDMA_CTL_PORT_EN : Field := ⟨.RDMA_CTL, 0, 0, 4, .rw, .live, 0x0, []⟩
def RDMA_CTL_PFC_EN : Field := ⟨.RDMA_CTL, 0, 4, 4, .rw, .quiesce, 0x0, []⟩
def RDMA_CTL_PFC_PRIO : Field := ⟨.RDMA_CTL, 0, 8, 3, .rw, .quiesce, 0x3, []⟩
def RDMA_CC_CNP_US : Field := ⟨.RDMA_CC, 0, 0, 8, .rw, .live, 0x32, [(1, 255)]⟩
def RDMA_CC_RATE_TIMER : Field := ⟨.RDMA_CC, 0, 8, 8, .rw, .live, 0x37, [(5, 255)]⟩
def RDMA_CC_RATE_AI : Field := ⟨.RDMA_CC, 0, 16, 12, .rw, .live, 0x5, [(1, 4095)]⟩
def RDMA_GATE_CTL_GATE_MS : Field := ⟨.RDMA_GATE_CTL, 0, 0, 14, .rw, .live, 0x64, [(1, 10000)]⟩
def RDMA_DROP_CNT_COUNT : Field := ⟨.RDMA_DROP_CNT, 0, 0, 32, .rc, .none, 0x0, []⟩
def RDMA_DUP_CNT_COUNT : Field := ⟨.RDMA_DUP_CNT, 0, 0, 32, .rc, .none, 0x0, []⟩
def RDMA_NAK_SENT_CNT_COUNT : Field := ⟨.RDMA_NAK_SENT_CNT, 0, 0, 32, .rc, .none, 0x0, []⟩
def RDMA_CNP_SENT_CNT_COUNT : Field := ⟨.RDMA_CNP_SENT_CNT, 0, 0, 32, .rc, .none, 0x0, []⟩
def RDMA_CNP_RCV_CNT_COUNT : Field := ⟨.RDMA_CNP_RCV_CNT, 0, 0, 32, .rc, .none, 0x0, []⟩
def RDMA_QP_CTX_STATE : Field := ⟨.RDMA_QP_CTX, 0, 0, 2, .rw, .live, 0x0, []⟩
def RDMA_QP_CTX_REQ : Field := ⟨.RDMA_QP_CTX, 0, 2, 1, .rw, .quiesce, 0x0, []⟩
def RDMA_QP_CTX_ETH_PORT : Field := ⟨.RDMA_QP_CTX, 0, 3, 2, .rw, .quiesce, 0x0, []⟩
def RDMA_QP_CTX_MTU : Field := ⟨.RDMA_QP_CTX, 0, 5, 2, .rw, .quiesce, 0x2, []⟩
def RDMA_QP_CTX_FLUSH_MIRROR : Field := ⟨.RDMA_QP_CTX, 0, 7, 1, .rw, .quiesce, 0x0, []⟩
def RDMA_QP_CTX_GID : Field := ⟨.RDMA_QP_CTX, 0, 8, 2, .rw, .quiesce, 0x0, []⟩
def RDMA_QP_CTX_DSCP : Field := ⟨.RDMA_QP_CTX, 0, 10, 6, .rw, .quiesce, 0x0, []⟩
def RDMA_QP_CTX_PD : Field := ⟨.RDMA_QP_CTX, 0, 16, 8, .rw, .quiesce, 0x0, []⟩
def RDMA_QP_CTX_RETRY : Field := ⟨.RDMA_QP_CTX, 0, 24, 3, .rw, .quiesce, 0x7, []⟩
def RDMA_QP_CTX_DEST_QPN : Field := ⟨.RDMA_QP_CTX, 1, 0, 24, .rw, .quiesce, 0x0, []⟩
def RDMA_QP_CTX_ACK_TO : Field := ⟨.RDMA_QP_CTX, 1, 24, 5, .rw, .quiesce, 0xe, []⟩
def RDMA_QP_CTX_SQ_PSN : Field := ⟨.RDMA_QP_CTX, 2, 0, 24, .rw, .quiesce, 0x0, []⟩
def RDMA_QP_CTX_RQ_PSN : Field := ⟨.RDMA_QP_CTX, 3, 0, 24, .rw, .quiesce, 0x0, []⟩
def RDMA_QP_CTX_REMOTE_IP0 : Field := ⟨.RDMA_QP_CTX, 4, 0, 32, .rw, .quiesce, 0x0, []⟩
def RDMA_QP_CTX_REMOTE_IP1 : Field := ⟨.RDMA_QP_CTX, 5, 0, 32, .rw, .quiesce, 0x0, []⟩
def RDMA_QP_CTX_REMOTE_IP2 : Field := ⟨.RDMA_QP_CTX, 6, 0, 32, .rw, .quiesce, 0x0, []⟩
def RDMA_QP_CTX_REMOTE_IP3 : Field := ⟨.RDMA_QP_CTX, 7, 0, 32, .rw, .quiesce, 0x0, []⟩
def RDMA_KEY_ENT_VALID : Field := ⟨.RDMA_KEY_ENT, 0, 0, 1, .rw, .live, 0x0, []⟩
def RDMA_KEY_ENT_RIGHTS : Field := ⟨.RDMA_KEY_ENT, 0, 1, 4, .rw, .quiesce, 0x0, []⟩
def RDMA_KEY_ENT_PD : Field := ⟨.RDMA_KEY_ENT, 0, 8, 8, .rw, .quiesce, 0x0, []⟩
def RDMA_KEY_ENT_REGION : Field := ⟨.RDMA_KEY_ENT, 0, 16, 12, .rw, .quiesce, 0x0, []⟩
def RDMA_KEY_ENT_KEY_TAG : Field := ⟨.RDMA_KEY_ENT, 1, 0, 18, .rw, .quiesce, 0x0, []⟩
def RDMA_KEY_ENT_VA_BASE0 : Field := ⟨.RDMA_KEY_ENT, 2, 0, 32, .rw, .quiesce, 0x0, []⟩
def RDMA_KEY_ENT_VA_BASE1 : Field := ⟨.RDMA_KEY_ENT, 3, 0, 32, .rw, .quiesce, 0x0, []⟩
def RDMA_KEY_ENT_OFF_PAGE_LO : Field := ⟨.RDMA_KEY_ENT, 4, 0, 32, .rw, .quiesce, 0x0, []⟩
def RDMA_KEY_ENT_OFF_PAGE_HI : Field := ⟨.RDMA_KEY_ENT, 5, 0, 4, .rw, .quiesce, 0x0, []⟩
def RDMA_KEY_ENT_LEN_PAGES_LO : Field := ⟨.RDMA_KEY_ENT, 6, 0, 32, .rw, .quiesce, 0x0, []⟩
def RDMA_KEY_ENT_LEN_PAGES_HI : Field := ⟨.RDMA_KEY_ENT, 7, 0, 4, .rw, .quiesce, 0x0, []⟩
def RDMA_KEY_ENT_GEN : Field := ⟨.RDMA_KEY_ENT, 7, 16, 16, .ro, .none, 0x0, []⟩
def RDMA_QP_STAT_COMP_CNT : Field := ⟨.RDMA_QP_STAT, 0, 0, 32, .ro, .none, 0x0, []⟩
def RDMA_QP_STAT_GATE : Field := ⟨.RDMA_QP_STAT, 1, 0, 2, .ro, .none, 0x0, []⟩
def RDMA_QP_STAT_QUEUED : Field := ⟨.RDMA_QP_STAT, 1, 16, 16, .ro, .none, 0x0, []⟩
def RING_SQ_DB_INDEX : Field := ⟨.RING_SQ_DB, 0, 0, 16, .rw, .live, 0x0, []⟩
def RING_CQ_DB_INDEX : Field := ⟨.RING_CQ_DB, 0, 0, 16, .rw, .live, 0x0, []⟩
def RING_PUSH_STAT_TORN : Field := ⟨.RING_PUSH_STAT, 0, 0, 1, .ro, .none, 0x0, []⟩
def RING_PUSH_STAT_OPEN : Field := ⟨.RING_PUSH_STAT, 0, 1, 1, .ro, .none, 0x0, []⟩
def RING_PUSH_STAT_WORDS : Field := ⟨.RING_PUSH_STAT, 0, 2, 5, .ro, .none, 0x0, []⟩
def RING_CTL_ENABLE : Field := ⟨.RING_CTL, 0, 0, 1, .rw, .live, 0x0, []⟩
def RING_CTL_FLUSH : Field := ⟨.RING_CTL, 0, 1, 1, .w1s, .live, 0x0, []⟩
def RING_CTL_PUSH_EN : Field := ⟨.RING_CTL, 0, 2, 1, .rw, .quiesce, 0x0, []⟩
def RING_CFG_SQ_LOG2 : Field := ⟨.RING_CFG, 0, 0, 5, .rw, .quiesce, 0x6, [(6, 16)]⟩
def RING_CFG_CQ_LOG2 : Field := ⟨.RING_CFG, 0, 5, 5, .rw, .quiesce, 0x6, [(6, 16)]⟩
def RING_CFG_PORT : Field := ⟨.RING_CFG, 0, 10, 3, .rw, .quiesce, 0x0, [(0, 7)]⟩
def RING_CFG_LINK : Field := ⟨.RING_CFG, 0, 13, 2, .rw, .quiesce, 0x0, []⟩
def RING_CFG_VECTOR : Field := ⟨.RING_CFG, 0, 15, 11, .rw, .quiesce, 0x0, []⟩
def RING_GROUPS_GROUPS : Field := ⟨.RING_GROUPS, 0, 0, 6, .rw, .fixed, 0x3f, []⟩
def RING_COAL_COAL_US : Field := ⟨.RING_COAL, 0, 0, 8, .rw, .live, 0xa, [(1, 255)]⟩
def RING_COAL_COAL_CNT : Field := ⟨.RING_COAL, 0, 8, 8, .rw, .live, 0x0, []⟩
def RING_STAT_HEAD : Field := ⟨.RING_STAT, 0, 0, 16, .ro, .none, 0x0, []⟩
def RING_STAT_HALTED : Field := ⟨.RING_STAT, 0, 16, 1, .ro, .none, 0x0, []⟩
def RING_STAT_CQ_FULL : Field := ⟨.RING_STAT, 0, 17, 1, .ro, .none, 0x0, []⟩
def RING_CQ_STAT_TAIL : Field := ⟨.RING_CQ_STAT, 0, 0, 16, .ro, .none, 0x0, []⟩
def RING_CQ_STAT_PHASE : Field := ⟨.RING_CQ_STAT, 0, 31, 1, .ro, .none, 0x1, []⟩
def RING_CAP_RINGS : Field := ⟨.RING_CAP, 0, 0, 9, .ro, .none, 0x100, []⟩
def RING_CAP_OPS : Field := ⟨.RING_CAP, 0, 9, 11, .ro, .none, 0x400, []⟩
def OP_STAT_IN_USE : Field := ⟨.OP_STAT, 0, 0, 11, .ro, .none, 0x0, []⟩
def OP_STAT_SUSPENDED : Field := ⟨.OP_STAT, 0, 11, 11, .ro, .none, 0x0, []⟩
def SQ_SEL_INSTANCE : Field := ⟨.SQ_SEL, 0, 0, 13, .rw, .live, 0x0, []⟩
def SQ_SEL_KIND : Field := ⟨.SQ_SEL, 0, 16, 4, .rw, .live, 0x1, []⟩
def SQ_STAT_ITEMS : Field := ⟨.SQ_STAT, 0, 0, 16, .ro, .none, 0x0, []⟩
def SQ_STAT_CHUNKS : Field := ⟨.SQ_STAT, 0, 16, 12, .ro, .none, 0x0, []⟩
def SQ_STAT_TORN : Field := ⟨.SQ_STAT, 0, 28, 1, .ro, .none, 0x0, []⟩
def SQ_RESET_CNT_COUNT : Field := ⟨.SQ_RESET_CNT, 0, 0, 32, .rc, .none, 0x0, []⟩
def SQ_REBUILD_CNT_COUNT : Field := ⟨.SQ_REBUILD_CNT, 0, 0, 32, .rc, .none, 0x0, []⟩
def SPILL_POOL_USED : Field := ⟨.SPILL_POOL, 0, 0, 16, .ro, .none, 0x0, []⟩
def SPILL_POOL_PEAK : Field := ⟨.SPILL_POOL, 0, 16, 16, .rc, .none, 0x0, []⟩
def ARB_SHADOW_OWNER0 : Field := ⟨.ARB_SHADOW, 0, 0, 4, .rw, .shadow, 0xb, []⟩
def ARB_SHADOW_OWNER1 : Field := ⟨.ARB_SHADOW, 0, 4, 4, .rw, .shadow, 0x0, []⟩
def ARB_SHADOW_OWNER2 : Field := ⟨.ARB_SHADOW, 0, 8, 4, .rw, .shadow, 0x0, []⟩
def ARB_SHADOW_OWNER3 : Field := ⟨.ARB_SHADOW, 0, 12, 4, .rw, .shadow, 0x0, []⟩
def ARB_SHADOW_OWNER4 : Field := ⟨.ARB_SHADOW, 0, 16, 4, .rw, .shadow, 0x0, []⟩
def ARB_SHADOW_OWNER5 : Field := ⟨.ARB_SHADOW, 0, 20, 4, .rw, .shadow, 0x0, []⟩
def ARB_SHADOW_OWNER6 : Field := ⟨.ARB_SHADOW, 0, 24, 4, .rw, .shadow, 0x0, []⟩
def ARB_SHADOW_OWNER7 : Field := ⟨.ARB_SHADOW, 0, 28, 4, .rw, .shadow, 0x0, []⟩
def ARB_ACTIVE_OWNER0 : Field := ⟨.ARB_ACTIVE, 0, 0, 4, .ro, .none, 0xb, []⟩
def ARB_ACTIVE_OWNER1 : Field := ⟨.ARB_ACTIVE, 0, 4, 4, .ro, .none, 0x0, []⟩
def ARB_ACTIVE_OWNER2 : Field := ⟨.ARB_ACTIVE, 0, 8, 4, .ro, .none, 0x0, []⟩
def ARB_ACTIVE_OWNER3 : Field := ⟨.ARB_ACTIVE, 0, 12, 4, .ro, .none, 0x0, []⟩
def ARB_ACTIVE_OWNER4 : Field := ⟨.ARB_ACTIVE, 0, 16, 4, .ro, .none, 0x0, []⟩
def ARB_ACTIVE_OWNER5 : Field := ⟨.ARB_ACTIVE, 0, 20, 4, .ro, .none, 0x0, []⟩
def ARB_ACTIVE_OWNER6 : Field := ⟨.ARB_ACTIVE, 0, 24, 4, .ro, .none, 0x0, []⟩
def ARB_ACTIVE_OWNER7 : Field := ⟨.ARB_ACTIVE, 0, 28, 4, .ro, .none, 0x0, []⟩
def ARB_CTL_COMMIT : Field := ⟨.ARB_CTL, 0, 0, 1, .w1s, .live, 0x0, []⟩
def ARB_CTL_REFUSED : Field := ⟨.ARB_CTL, 0, 1, 1, .ro, .none, 0x0, []⟩
def ARB_STAT_SWAPPED : Field := ⟨.ARB_STAT, 0, 0, 4, .ro, .none, 0xf, []⟩
def ARB_STAT_SEQ : Field := ⟨.ARB_STAT, 0, 16, 16, .ro, .none, 0x0, []⟩
def ARB_TB_STAT_DEPTH : Field := ⟨.ARB_TB_STAT, 0, 0, 7, .ro, .none, 0x0, []⟩
def ARB_TB_STAT_PEAK : Field := ⟨.ARB_TB_STAT, 0, 8, 7, .rc, .none, 0x0, []⟩
def ARB_TB_STAT_FULL_CNT : Field := ⟨.ARB_TB_STAT, 0, 16, 16, .rc, .none, 0x0, []⟩
def SEC_CAP_SLOTS : Field := ⟨.SEC_CAP, 0, 0, 13, .ro, .none, 0x1000, []⟩
def SEC_CAP_SESSIONS : Field := ⟨.SEC_CAP, 0, 13, 4, .ro, .none, 0x8, []⟩
def SEC_CAP_ROTATIONS : Field := ⟨.SEC_CAP, 0, 17, 5, .ro, .none, 0x10, []⟩
def SEC_STATUS_STORE : Field := ⟨.SEC_STATUS, 0, 0, 2, .ro, .none, 0x0, []⟩
def SEC_STATUS_ENTROPY_OK : Field := ⟨.SEC_STATUS, 0, 2, 1, .ro, .none, 0x0, []⟩
def SEC_STATUS_MASK_DEGRADED : Field := ⟨.SEC_STATUS, 0, 3, 1, .ro, .none, 0x0, []⟩
def SEC_STATUS_ROTATING : Field := ⟨.SEC_STATUS, 0, 4, 1, .ro, .none, 0x0, []⟩
def SEC_STATUS_LOADED : Field := ⟨.SEC_STATUS, 0, 5, 13, .ro, .none, 0x0, []⟩
def SEC_ALARM_LATCHED : Field := ⟨.SEC_ALARM, 0, 0, 4, .w1c, .live, 0x0, []⟩
def SEC_ALARM_ACTIVE : Field := ⟨.SEC_ALARM, 0, 8, 4, .ro, .none, 0x0, []⟩
def SEC_ALARM_COUNT : Field := ⟨.SEC_ALARM, 0, 16, 16, .ro, .none, 0x0, []⟩
def SEC_CTL_LOCK_ON_BOOT : Field := ⟨.SEC_CTL, 0, 0, 1, .rw, .fixed, 0x0, []⟩
def SEC_CTL_MESH_EN : Field := ⟨.SEC_CTL, 0, 1, 1, .rw, .fixed, 0x1, []⟩
def SEC_KEY_SEL_SLOT : Field := ⟨.SEC_KEY_SEL, 0, 0, 12, .rw, .live, 0x0, []⟩
def SEC_KEY_STAT_STATE : Field := ⟨.SEC_KEY_STAT, 0, 0, 2, .ro, .none, 0x0, []⟩
def SEC_KEY_STAT_GEN : Field := ⟨.SEC_KEY_STAT, 0, 2, 16, .ro, .none, 0x0, []⟩
def SEC_KEY_STAT_REFS : Field := ⟨.SEC_KEY_STAT, 0, 18, 13, .ro, .none, 0x0, []⟩
def SEC_ROT_STAT_ACTIVE : Field := ⟨.SEC_ROT_STAT, 0, 0, 1, .ro, .none, 0x0, []⟩
def SEC_ROT_STAT_OLD_SLOT : Field := ⟨.SEC_ROT_STAT, 0, 1, 12, .ro, .none, 0x0, []⟩
def SEC_ROT_STAT_NEW_SLOT : Field := ⟨.SEC_ROT_STAT, 0, 13, 12, .ro, .none, 0x0, []⟩
def SEC_ROT_CURSOR_CURSOR : Field := ⟨.SEC_ROT_CURSOR, 0, 0, 27, .ro, .none, 0x0, []⟩
def SEC_KEY_ABSENT_CNT_COUNT : Field := ⟨.SEC_KEY_ABSENT_CNT, 0, 0, 32, .rc, .none, 0x0, []⟩
def SEC_FW_SVN : Field := ⟨.SEC_FW, 0, 0, 8, .ro, .none, 0x0, []⟩
def SEC_FW_KEYSLOT : Field := ⟨.SEC_FW, 0, 8, 2, .ro, .none, 0x0, []⟩
def SEC_FW_REVOKED : Field := ⟨.SEC_FW, 0, 10, 4, .ro, .none, 0x0, []⟩
def GLB_CC_STAT_ROLE_A : Field := ⟨.GLB_CC_STAT, 0, 0, 2, .ro, .none, 0x0, []⟩
def GLB_CC_STAT_ROLE_B : Field := ⟨.GLB_CC_STAT, 0, 2, 2, .ro, .none, 0x0, []⟩
def GLB_CC_STAT_ROLE_S : Field := ⟨.GLB_CC_STAT, 0, 4, 2, .ro, .none, 0x2, []⟩
def GLB_CC_STAT_SWITCH_CNT : Field := ⟨.GLB_CC_STAT, 0, 8, 8, .ro, .none, 0x0, []⟩
def GLB_CC_STAT_CKPT_AGE : Field := ⟨.GLB_CC_STAT, 0, 16, 12, .ro, .none, 0x0, []⟩
def GLB_CC_TEST_ROUNDS : Field := ⟨.GLB_CC_TEST, 0, 0, 16, .ro, .none, 0x0, []⟩
def GLB_CC_TEST_FAILS : Field := ⟨.GLB_CC_TEST, 0, 16, 8, .ro, .none, 0x0, []⟩
def GLB_CC_TEST_TESTING : Field := ⟨.GLB_CC_TEST, 0, 24, 1, .ro, .none, 0x0, []⟩
def GLB_CC_CTL_FORCE_SWITCH : Field := ⟨.GLB_CC_CTL, 0, 0, 1, .w1s, .live, 0x0, []⟩
def GLB_WDT_CFG_PERIOD_MS : Field := ⟨.GLB_WDT_CFG, 0, 0, 10, .rw, .fixed, 0x32, [(10, 1000)]⟩
def GLB_WDT_CFG_WIN_PCT : Field := ⟨.GLB_WDT_CFG, 0, 16, 7, .rw, .fixed, 0x19, [(0, 75)]⟩
def GLB_WDT_KICK_KEY : Field := ⟨.GLB_WDT_KICK, 0, 0, 16, .wo, .live, 0x0, []⟩
def GLB_WDT_STAT_REMAIN_MS : Field := ⟨.GLB_WDT_STAT, 0, 0, 10, .ro, .none, 0x0, []⟩
def GLB_WDT_STAT_DEFERRED : Field := ⟨.GLB_WDT_STAT, 0, 10, 1, .ro, .none, 0x0, []⟩
def GLB_WDT_STAT_OPEN : Field := ⟨.GLB_WDT_STAT, 0, 11, 1, .ro, .none, 0x0, []⟩
def GLB_WDT_STAT_EXPIRES : Field := ⟨.GLB_WDT_STAT, 0, 16, 8, .rc, .none, 0x0, []⟩
def GLB_WDT_STAT_RESTARTS : Field := ⟨.GLB_WDT_STAT, 0, 24, 2, .ro, .none, 0x0, []⟩
def FLS_CAP_BANKS : Field := ⟨.FLS_CAP, 0, 0, 2, .ro, .none, 0x2, []⟩
def FLS_CAP_SLOT_256K : Field := ⟨.FLS_CAP, 0, 2, 8, .ro, .none, 0x2f, []⟩
def FLS_CAP_PARAM : Field := ⟨.FLS_CAP, 0, 10, 5, .ro, .none, 0x10, []⟩
def FLS_STAT_BUSY : Field := ⟨.FLS_STAT, 0, 0, 2, .ro, .none, 0x0, []⟩
def FLS_STAT_EXEC_BANK : Field := ⟨.FLS_STAT, 0, 2, 2, .ro, .none, 0x2, []⟩
def FLS_STAT_SUSPENDED : Field := ⟨.FLS_STAT, 0, 4, 1, .ro, .none, 0x0, []⟩
def FLS_STAT_BROWNOUT : Field := ⟨.FLS_STAT, 0, 5, 1, .ro, .none, 0x0, []⟩
def FLS_STAT_ERASE_MARKED : Field := ⟨.FLS_STAT, 0, 6, 1, .ro, .none, 0x0, []⟩
def FLS_SLOT_STAT_STATE : Field := ⟨.FLS_SLOT_STAT, 0, 0, 3, .ro, .none, 0x0, []⟩
def FLS_SLOT_STAT_STARTS : Field := ⟨.FLS_SLOT_STAT, 0, 3, 2, .ro, .none, 0x0, []⟩
def FLS_SLOT_STAT_SVN : Field := ⟨.FLS_SLOT_STAT, 0, 8, 8, .ro, .none, 0x0, []⟩
def FLS_SLOT_STAT_BTT_LEVEL : Field := ⟨.FLS_SLOT_STAT, 0, 16, 4, .ro, .none, 0x0, []⟩
def FLS_SLOT_STAT_BUNDLE_VER : Field := ⟨.FLS_SLOT_STAT, 1, 0, 32, .ro, .none, 0x0, []⟩
def FLS_SESS_STATE : Field := ⟨.FLS_SESS, 0, 0, 4, .ro, .none, 0x0, []⟩
def FLS_SESS_SOURCE : Field := ⟨.FLS_SESS, 0, 4, 2, .ro, .none, 0x0, []⟩
def FLS_SESS_TARGET : Field := ⟨.FLS_SESS, 0, 6, 1, .ro, .none, 0x0, []⟩
def FLS_SESS_OFF_BYTES : Field := ⟨.FLS_SESS_OFF, 0, 0, 24, .ro, .none, 0x0, []⟩
def FLS_SESS_LEN_BYTES : Field := ⟨.FLS_SESS_LEN, 0, 0, 24, .ro, .none, 0x0, []⟩
def FLS_ACT_TIME_LO_TIME : Field := ⟨.FLS_ACT_TIME_LO, 0, 0, 32, .rw, .live, 0x0, []⟩
def FLS_ACT_TIME_HI_TIME : Field := ⟨.FLS_ACT_TIME_HI, 0, 0, 32, .rw, .live, 0x0, []⟩
def FLS_ACT_STAT_SWAPPED : Field := ⟨.FLS_ACT_STAT, 0, 0, 6, .ro, .none, 0x0, []⟩
def FLS_ACT_STAT_GROUP : Field := ⟨.FLS_ACT_STAT, 0, 8, 4, .ro, .none, 0x0, []⟩
def FLS_ACT_STAT_VOTES : Field := ⟨.FLS_ACT_STAT, 0, 12, 4, .ro, .none, 0x0, []⟩
def FLS_UPD_CTL_CONFIRM : Field := ⟨.FLS_UPD_CTL, 0, 0, 1, .w1s, .live, 0x0, []⟩
def FLS_UPD_CTL_ABORT : Field := ⟨.FLS_UPD_CTL, 0, 1, 1, .w1s, .live, 0x0, []⟩
def FLS_UPD_CTL_REVERT : Field := ⟨.FLS_UPD_CTL, 0, 2, 1, .w1s, .live, 0x0, []⟩
def FLS_UPD_CTL_AUTO_CONFIRM : Field := ⟨.FLS_UPD_CTL, 0, 3, 1, .rw, .live, 0x1, []⟩
def FLS_UPD_CTL_PUSH_TWIN : Field := ⟨.FLS_UPD_CTL, 0, 4, 1, .rw, .live, 0x0, []⟩
def FLS_UPD_CTL_TRIAL_S : Field := ⟨.FLS_UPD_CTL, 0, 8, 8, .rw, .live, 0x3c, [(10, 255)]⟩
def FLS_UPD_CTL_CONFIRM_S : Field := ⟨.FLS_UPD_CTL, 0, 16, 12, .rw, .live, 0x258, [(60, 4095)]⟩
def FLS_UPD_TIMING_LEAD_MS : Field := ⟨.FLS_UPD_TIMING, 0, 0, 12, .rw, .live, 0x3e8, [(100, 4095)]⟩
def FLS_UPD_TIMING_IDLE_S : Field := ⟨.FLS_UPD_TIMING, 0, 12, 12, .rw, .live, 0x258, [(60, 4095)]⟩
def FLS_REC_STAT_FREE_PS : Field := ⟨.FLS_REC_STAT, 0, 0, 11, .ro, .none, 0x0, []⟩
def FLS_REC_STAT_FREE_JR : Field := ⟨.FLS_REC_STAT, 0, 12, 12, .ro, .none, 0x0, []⟩
def FLS_CONFLICT_CNT_COUNT : Field := ⟨.FLS_CONFLICT_CNT, 0, 0, 32, .rc, .none, 0x0, []⟩
def FLS_REPROG_CNT_COUNT : Field := ⟨.FLS_REPROG_CNT, 0, 0, 32, .rc, .none, 0x0, []⟩
def FLS_SUSPEND_CNT_COUNT : Field := ⟨.FLS_SUSPEND_CNT, 0, 0, 32, .rc, .none, 0x0, []⟩
def EVT_CAP_SLOTS : Field := ⟨.EVT_CAP, 0, 0, 14, .ro, .none, 0x2000, []⟩
def EVT_CAP_WORDS : Field := ⟨.EVT_CAP, 0, 14, 4, .ro, .none, 0x8, []⟩
def EVT_HEAD_SEQ : Field := ⟨.EVT_HEAD, 0, 0, 32, .ro, .none, 0x0, []⟩
def EVT_OLDEST_SEQ : Field := ⟨.EVT_OLDEST, 0, 0, 32, .ro, .none, 0x0, []⟩
def EVT_COUNT_PRESENT : Field := ⟨.EVT_COUNT, 0, 0, 14, .ro, .none, 0x0, []⟩
def EVT_COUNT_UNACKED : Field := ⟨.EVT_COUNT, 0, 14, 14, .ro, .none, 0x0, []⟩
def EVT_COUNT_SLOT_ERR : Field := ⟨.EVT_COUNT, 0, 28, 4, .rc, .none, 0x0, []⟩
def EVT_ACK_SEQ : Field := ⟨.EVT_ACK, 0, 0, 32, .wo, .live, 0x0, []⟩
def EVT_DROP0_LOW : Field := ⟨.EVT_DROP0, 0, 0, 16, .rc, .none, 0x0, []⟩
def EVT_DROP0_HIGH : Field := ⟨.EVT_DROP0, 0, 16, 16, .rc, .none, 0x0, []⟩
def EVT_DROP1_LOW : Field := ⟨.EVT_DROP1, 0, 0, 16, .rc, .none, 0x0, []⟩
def EVT_DROP1_HIGH : Field := ⟨.EVT_DROP1, 0, 16, 16, .rc, .none, 0x0, []⟩
def EVT_OVW0_LOW : Field := ⟨.EVT_OVW0, 0, 0, 16, .rc, .none, 0x0, []⟩
def EVT_OVW0_HIGH : Field := ⟨.EVT_OVW0, 0, 16, 16, .rc, .none, 0x0, []⟩
def EVT_OVW1_LOW : Field := ⟨.EVT_OVW1, 0, 0, 16, .rc, .none, 0x0, []⟩
def EVT_OVW1_HIGH : Field := ⟨.EVT_OVW1, 0, 16, 16, .rc, .none, 0x0, []⟩
def EVT_LATE_CNT_COUNT : Field := ⟨.EVT_LATE_CNT, 0, 0, 32, .rc, .none, 0x0, []⟩
def EVT_ERR_SUM0_DRAM : Field := ⟨.EVT_ERR_SUM0, 0, 0, 16, .ro, .none, 0x0, []⟩
def EVT_ERR_SUM0_CW : Field := ⟨.EVT_ERR_SUM0, 0, 16, 4, .ro, .none, 0x0, []⟩
def EVT_ERR_SUM1_NAND : Field := ⟨.EVT_ERR_SUM1, 0, 0, 32, .ro, .none, 0x0, []⟩
def EVT_CW_ERR_FIRST : Field := ⟨.EVT_CW_ERR, 0, 0, 8, .ro, .none, 0x0, []⟩
def EVT_CW_ERR_MULTI : Field := ⟨.EVT_CW_ERR, 0, 8, 1, .ro, .none, 0x0, []⟩
def EVT_CW_ERR_CLR : Field := ⟨.EVT_CW_ERR, 0, 15, 1, .w1s, .live, 0x0, []⟩
def EVT_CW_ERR_COUNT : Field := ⟨.EVT_CW_ERR, 0, 16, 16, .ro, .none, 0x0, []⟩
def SNS_CTL_TEMP_HI : Field := ⟨.SNS_CTL, 0, 0, 8, .rw, .live, 0x5f, [(60, 105)]⟩
def SNS_PACK_CFG_CONV_VMIN : Field := ⟨.SNS_PACK_CFG, 0, 0, 10, .rw, .fixed, 0x78, [(50, 600)]⟩
def SNS_PACK_CFG_V_FULL : Field := ⟨.SNS_PACK_CFG, 0, 10, 10, .rw, .fixed, 0x21c, []⟩
def SNS_PACK_CFG_I_PEAK : Field := ⟨.SNS_PACK_CFG, 0, 20, 8, .rw, .fixed, 0x28, [(1, 255)]⟩
def SNS_PACK_CFG_I_TEST : Field := ⟨.SNS_PACK_CFG, 0, 28, 4, .rw, .fixed, 0x4, [(1, 15)]⟩
def SNS_PACK_CFG2_TEST_DV : Field := ⟨.SNS_PACK_CFG2, 0, 0, 6, .rw, .fixed, 0x28, [(10, 63)]⟩
def SNS_PACK_CFG2_TEST_MAX_DAYS : Field := ⟨.SNS_PACK_CFG2, 0, 6, 8, .rw, .fixed, 0x2d, [(7, 255)]⟩
def SNS_PACK_CFG2_ESR_MAX : Field := ⟨.SNS_PACK_CFG2, 0, 14, 10, .rw, .fixed, 0xc8, [(10, 1023)]⟩
def SNS_VAL_VALUE : Field := ⟨.SNS_VAL, 0, 0, 16, .ro, .none, 0x0, []⟩
def SNS_VAL_STALE : Field := ⟨.SNS_VAL, 0, 16, 1, .ro, .none, 0x0, []⟩
def SNS_VAL_UNCAL : Field := ⟨.SNS_VAL, 0, 17, 1, .ro, .none, 0x0, []⟩
def SNS_VAL_OUT_RANGE : Field := ⟨.SNS_VAL, 0, 18, 1, .ro, .none, 0x0, []⟩
def SNS_PACK_STAT_STATE : Field := ⟨.SNS_PACK_STAT, 0, 0, 3, .ro, .none, 0x0, []⟩
def SNS_PACK_STAT_CYCLES : Field := ⟨.SNS_PACK_STAT, 0, 16, 16, .ro, .none, 0x0, []⟩
def SNS_PACK_CAP_C_MF : Field := ⟨.SNS_PACK_CAP, 0, 0, 20, .ro, .none, 0x0, []⟩
def SNS_PACK_CAP_ESR_MOHM : Field := ⟨.SNS_PACK_CAP, 0, 20, 12, .ro, .none, 0x0, []⟩
def SNS_PACK_ENERGY_USABLE_DJ : Field := ⟨.SNS_PACK_ENERGY, 0, 0, 16, .ro, .none, 0x0, []⟩
def SNS_PACK_ENERGY_FULL_DJ : Field := ⟨.SNS_PACK_ENERGY, 0, 16, 16, .ro, .none, 0x0, []⟩
def SNS_PACK_CTL_TEST : Field := ⟨.SNS_PACK_CTL, 0, 0, 1, .w1s, .live, 0x0, []⟩
def SNS_TRIM_OFFSET : Field := ⟨.SNS_TRIM, 0, 0, 16, .rw, .shadow, 0x0, []⟩
def SNS_TRIM_GAIN : Field := ⟨.SNS_TRIM, 0, 16, 16, .rw, .shadow, 0x4000, []⟩
def SNS_TRIM_CTL_COMMIT : Field := ⟨.SNS_TRIM_CTL, 0, 0, 1, .w1s, .live, 0x0, []⟩
def SNS_TRIM_CTL_RELOAD : Field := ⟨.SNS_TRIM_CTL, 0, 1, 1, .w1s, .live, 0x0, []⟩
def GLB_IST_CTL_PATROL_EN : Field := ⟨.GLB_IST_CTL, 0, 0, 1, .rw, .live, 0x1, []⟩
def GLB_IST_CTL_MARCH_EN : Field := ⟨.GLB_IST_CTL, 0, 1, 1, .rw, .live, 0x1, []⟩
def GLB_IST_CTL_DISTURB_EN : Field := ⟨.GLB_IST_CTL, 0, 2, 1, .rw, .live, 0x1, []⟩
def GLB_IST_CTL_EYE_EN : Field := ⟨.GLB_IST_CTL, 0, 3, 1, .rw, .live, 0x1, []⟩
def GLB_IST_CTL_PACK_EN : Field := ⟨.GLB_IST_CTL, 0, 4, 1, .rw, .live, 0x1, []⟩
def GLB_IST_PERIOD_PATROL_H : Field := ⟨.GLB_IST_PERIOD, 0, 0, 8, .rw, .live, 0x18, [(1, 255)]⟩
def GLB_IST_PERIOD_LAYBY_H : Field := ⟨.GLB_IST_PERIOD, 0, 8, 4, .rw, .live, 0x1, [(1, 15)]⟩
def GLB_IST_PERIOD_DISTURB_H : Field := ⟨.GLB_IST_PERIOD, 0, 12, 8, .rw, .live, 0xa8, [(24, 255)]⟩
def GLB_IST_PERIOD_EYE_H : Field := ⟨.GLB_IST_PERIOD, 0, 20, 8, .rw, .live, 0x18, [(1, 255)]⟩
def GLB_IST_PERIOD2_PACK_DAYS : Field := ⟨.GLB_IST_PERIOD2, 0, 0, 8, .rw, .live, 0x1e, [(7, 255)]⟩
def GLB_EYE_SEL_LANE : Field := ⟨.GLB_EYE_SEL, 0, 0, 8, .rw, .live, 0x0, [(0, 159)]⟩
def GLB_EYE_DATA_HEIGHT_MV : Field := ⟨.GLB_EYE_DATA, 0, 0, 10, .ro, .none, 0x0, []⟩
def GLB_EYE_DATA_WIDTH_MUI : Field := ⟨.GLB_EYE_DATA, 0, 10, 10, .ro, .none, 0x0, []⟩
def GLB_EYE_DATA_AGE_H : Field := ⟨.GLB_EYE_DATA, 0, 20, 12, .ro, .none, 0xfff, []⟩
def GLB_EYE_MIN_HEIGHT_MV : Field := ⟨.GLB_EYE_MIN, 0, 0, 10, .rw, .live, 0x1e, []⟩
def GLB_EYE_MIN_WIDTH_MUI : Field := ⟨.GLB_EYE_MIN, 0, 10, 10, .rw, .live, 0xc8, []⟩
def GLB_BIST_CTL_START : Field := ⟨.GLB_BIST_CTL, 0, 0, 1, .w1s, .live, 0x0, []⟩
def GLB_BIST_STAT_LAYBY : Field := ⟨.GLB_BIST_STAT, 0, 0, 16, .ro, .none, 0x0, []⟩
def GLB_BIST_STAT_TAGQ : Field := ⟨.GLB_BIST_STAT, 0, 16, 4, .ro, .none, 0x0, []⟩
def GLB_BIST_STAT_STAGING : Field := ⟨.GLB_BIST_STAT, 0, 20, 1, .ro, .none, 0x0, []⟩
def GLB_BIST_STAT_QUEUES : Field := ⟨.GLB_BIST_STAT, 0, 21, 1, .ro, .none, 0x0, []⟩
def GLB_BIST_STAT_CKPT : Field := ⟨.GLB_BIST_STAT, 0, 22, 1, .ro, .none, 0x0, []⟩
def CH_PATROL_PCT : Field := ⟨.CH_PATROL, 0, 0, 8, .ro, .none, 0x0, []⟩
def CH_PATROL_BEHIND_H : Field := ⟨.CH_PATROL, 0, 8, 8, .ro, .none, 0x0, []⟩
def CH_PATROL_PASSES : Field := ⟨.CH_PATROL, 0, 16, 16, .ro, .none, 0x0, []⟩
def CH_LAYBY_RETIRED : Field := ⟨.CH_LAYBY, 0, 0, 11, .ro, .none, 0x0, []⟩
def CH_LAYBY_NO_LEND : Field := ⟨.CH_LAYBY, 0, 11, 1, .ro, .none, 0x0, []⟩
def GLB_STACK_CFG_SIZE_M1 : Field := ⟨.GLB_STACK_CFG, 0, 0, 2, .rw, .fixed, 0x0, []⟩
def GLB_STACK_CFG_HB_MS : Field := ⟨.GLB_STACK_CFG, 0, 4, 8, .rw, .live, 0xa, [(1, 255)]⟩
def GLB_STACK_CFG_ELECT_MS : Field := ⟨.GLB_STACK_CFG, 0, 12, 12, .rw, .live, 0x64, [(20, 4095)]⟩
def GLB_STACK_STAT_POSITION : Field := ⟨.GLB_STACK_STAT, 0, 0, 2, .ro, .none, 0x0, []⟩
def GLB_STACK_STAT_MASTER : Field := ⟨.GLB_STACK_STAT, 0, 2, 2, .ro, .none, 0x0, []⟩
def GLB_STACK_STAT_LIVE : Field := ⟨.GLB_STACK_STAT, 0, 4, 4, .ro, .none, 0x0, []⟩
def GLB_STACK_STAT_IS_MASTER : Field := ⟨.GLB_STACK_STAT, 0, 8, 1, .ro, .none, 0x0, []⟩
def GLB_STACK_STAT_ELECTING : Field := ⟨.GLB_STACK_STAT, 0, 9, 1, .ro, .none, 0x0, []⟩
def GLB_STACK_STAT_CONFLICT : Field := ⟨.GLB_STACK_STAT, 0, 10, 1, .ro, .none, 0x0, []⟩
def GLB_STACK_CTL_HANDBACK : Field := ⟨.GLB_STACK_CTL, 0, 0, 1, .w1s, .live, 0x0, []⟩
def MGT_CAP_ENTERPRISE : Field := ⟨.MGT_CAP, 0, 0, 32, .ro, .none, 0x0, []⟩
def MGT_CTL_BMC_WRITE_EN : Field := ⟨.MGT_CTL, 0, 0, 1, .rw, .fixed, 0x1, []⟩
def MGT_CTL_SMB_ADDR : Field := ⟨.MGT_CTL, 0, 8, 7, .rw, .fixed, 0x48, []⟩
def MGT_STAT_EID : Field := ⟨.MGT_STAT, 0, 0, 8, .ro, .none, 0x0, []⟩
def MGT_STAT_BUS0_I3C : Field := ⟨.MGT_STAT, 0, 8, 1, .ro, .none, 0x0, []⟩
def MGT_STAT_BUS1_I3C : Field := ⟨.MGT_STAT, 0, 9, 1, .ro, .none, 0x0, []⟩
def MGT_STAT_STACK_EID : Field := ⟨.MGT_STAT, 0, 10, 8, .ro, .none, 0x0, []⟩
def MGT_STAT_ISLAND_ONLY : Field := ⟨.MGT_STAT, 0, 18, 1, .ro, .none, 0x0, []⟩
def GLB_STRAP_STACK_ID : Field := ⟨.GLB_STRAP, 0, 0, 2, .ro, .none, 0x0, []⟩
def GLB_STRAP_AUTO_WAKE : Field := ⟨.GLB_STRAP, 0, 2, 1, .ro, .none, 0x0, []⟩
def GLB_STRAP_RECOVERY : Field := ⟨.GLB_STRAP, 0, 3, 1, .ro, .none, 0x0, []⟩
def GLB_PWR_CTL_DDR_RETAIN : Field := ⟨.GLB_PWR_CTL, 0, 0, 1, .rw, .live, 0x1, []⟩
def GLB_PWR_STAT_RAIL_OK : Field := ⟨.GLB_PWR_STAT, 0, 0, 6, .ro, .none, 0x0, []⟩
def GLB_PWR_STAT_AON_OK : Field := ⟨.GLB_PWR_STAT, 0, 6, 1, .ro, .none, 0x1, []⟩
def GLB_PWR_STAT_IO_OK : Field := ⟨.GLB_PWR_STAT, 0, 7, 1, .ro, .none, 0x0, []⟩
def GLB_PWR_STAT_BRD_PG : Field := ⟨.GLB_PWR_STAT, 0, 8, 1, .ro, .none, 0x0, []⟩
def GLB_PWR_STAT_PWR_FAIL : Field := ⟨.GLB_PWR_STAT, 0, 9, 1, .ro, .none, 0x0, []⟩
def GLB_PWR_STAT_HU_KEEP : Field := ⟨.GLB_PWR_STAT, 0, 10, 1, .ro, .none, 0x0, []⟩
def GLB_PWR_STAT_DDR_KEPT : Field := ⟨.GLB_PWR_STAT, 0, 11, 1, .ro, .none, 0x0, []⟩
def GLB_PWR_STAT_FAIL_RAIL : Field := ⟨.GLB_PWR_STAT, 0, 16, 3, .ro, .none, 0x7, []⟩
def GLB_RST_CTL_SOFT : Field := ⟨.GLB_RST_CTL, 0, 0, 1, .w1s, .live, 0x0, []⟩
def GLB_RST_CAUSE_BOOT_CAUSE : Field := ⟨.GLB_RST_CAUSE, 0, 0, 3, .ro, .none, 0x1, []⟩
def GLB_RST_CAUSE_HELD : Field := ⟨.GLB_RST_CAUSE, 0, 3, 1, .ro, .none, 0x0, []⟩
def GLB_RST_CAUSE_BOOTS : Field := ⟨.GLB_RST_CAUSE, 0, 16, 16, .ro, .none, 0x0, []⟩
def GLB_CLK_STAT_CXL_REF : Field := ⟨.GLB_CLK_STAT, 0, 0, 4, .ro, .none, 0x0, []⟩
def GLB_CLK_STAT_ETH_REF : Field := ⟨.GLB_CLK_STAT, 0, 4, 2, .ro, .none, 0x0, []⟩
def GLB_CLK_STAT_SYS25 : Field := ⟨.GLB_CLK_STAT, 0, 6, 1, .ro, .none, 0x0, []⟩
def GLB_CLK_STAT_XTAL : Field := ⟨.GLB_CLK_STAT, 0, 7, 1, .ro, .none, 0x0, []⟩
def GLB_CLK_STAT_HOLDOVER : Field := ⟨.GLB_CLK_STAT, 0, 8, 1, .ro, .none, 0x0, []⟩
def GLB_CLK_STAT_TB_LOCK : Field := ⟨.GLB_CLK_STAT, 0, 9, 1, .ro, .none, 0x0, []⟩
def GLB_CLK_STAT_PPS_IN : Field := ⟨.GLB_CLK_STAT, 0, 10, 1, .ro, .none, 0x0, []⟩
def GLB_TB_OFFSET_OFFSET_NS : Field := ⟨.GLB_TB_OFFSET, 0, 0, 32, .ro, .none, 0x0, []⟩
def GLB_ID_ONE : Field := ⟨.GLB_ID, 0, 0, 1, .ro, .none, 0x1, []⟩
def GLB_ID_MFR : Field := ⟨.GLB_ID, 0, 1, 11, .ro, .none, 0x4b3, []⟩
def GLB_ID_PART : Field := ⟨.GLB_ID, 0, 12, 16, .ro, .none, 0x6416, []⟩
def GLB_ID_VERSION : Field := ⟨.GLB_ID, 0, 28, 4, .ro, .none, 0x1, []⟩
def GLB_REV_GRADE : Field := ⟨.GLB_REV, 0, 0, 4, .ro, .none, 0x1, []⟩
def GLB_REV_STEP_MAJOR : Field := ⟨.GLB_REV, 0, 4, 4, .ro, .none, 0x1, []⟩
def GLB_REV_STEP_MINOR : Field := ⟨.GLB_REV, 0, 8, 4, .ro, .none, 0x0, []⟩
def GLB_REV_ROM_REV : Field := ⟨.GLB_REV, 0, 16, 16, .ro, .none, 0x0, []⟩
def GLB_LOCK_LOCK : Field := ⟨.GLB_LOCK, 0, 0, 1, .w1s, .live, 0x0, []⟩
def GLB_LOCK_AUTO_LOCK_MIN : Field := ⟨.GLB_LOCK, 0, 8, 8, .rw, .fixed, 0xa, []⟩
def GLB_LOCK_SETTER : Field := ⟨.GLB_LOCK, 0, 16, 2, .ro, .none, 0x0, []⟩
def GLB_ACC_CTL_BMC_PEEK : Field := ⟨.GLB_ACC_CTL, 0, 0, 1, .rw, .live, 0x1, []⟩
def GLB_ACC_ERR_UNMAPPED : Field := ⟨.GLB_ACC_ERR, 0, 0, 16, .rc, .none, 0x0, []⟩
def GLB_ACC_ERR_PARTIAL : Field := ⟨.GLB_ACC_ERR, 0, 16, 16, .rc, .none, 0x0, []⟩
def GLB_SERIAL_SERIAL : Field := ⟨.GLB_SERIAL, 0, 0, 32, .ro, .none, 0x0, []⟩
def RGN_OWNER_SET_W : Field := ⟨.RGN_OWNER_SET, 0, 0, 32, .ro, .none, 0x0, []⟩
def RGN_TABLE_W : Field := ⟨.RGN_TABLE, 0, 0, 32, .ro, .none, 0x0, []⟩
def RING_PUSH_W : Field := ⟨.RING_PUSH, 0, 0, 32, .wo, .none, 0x0, []⟩
def RING_SQ_BASE_W : Field := ⟨.RING_SQ_BASE, 0, 0, 32, .rw, .quiesce, 0x0, []⟩
def RING_CQ_BASE_W : Field := ⟨.RING_CQ_BASE, 0, 0, 32, .rw, .quiesce, 0x0, []⟩
def RING_DB_BAD_CNT_COUNT : Field := ⟨.RING_DB_BAD_CNT, 0, 0, 32, .rc, .none, 0x0, []⟩
def BTT_PATH_LOCAL_IP_W : Field := ⟨.BTT_PATH_LOCAL_IP, 0, 0, 32, .rw, .quiesce, 0x0, []⟩
def BTT_PATH_REMOTE_IP_W : Field := ⟨.BTT_PATH_REMOTE_IP, 0, 0, 32, .rw, .quiesce, 0x0, []⟩
def RDMA_GID_W : Field := ⟨.RDMA_GID, 0, 0, 32, .rw, .quiesce, 0x0, []⟩
def RDMA_QP_SEL_QP : Field := ⟨.RDMA_QP_SEL, 0, 0, 13, .rw, .live, 0x0, []⟩
def RDMA_KEY_SEL_KEY : Field := ⟨.RDMA_KEY_SEL, 0, 0, 14, .rw, .live, 0x0, []⟩
def SEC_ROT_SEL_REGION : Field := ⟨.SEC_ROT_SEL, 0, 0, 12, .rw, .live, 0x0, []⟩
def EVT_SLOT_W : Field := ⟨.EVT_SLOT, 0, 0, 32, .ro, .none, 0x0, []⟩
def FLS_SESS_ID_ID : Field := ⟨.FLS_SESS_ID, 0, 0, 32, .ro, .none, 0x0, []⟩
def NF_ERR_FIRST : Field := ⟨.NF_ERR, 0, 0, 8, .ro, .none, 0x0, []⟩
def NF_ERR_MULTI : Field := ⟨.NF_ERR, 0, 8, 1, .ro, .none, 0x0, []⟩
def NF_ERR_CLR : Field := ⟨.NF_ERR, 0, 15, 1, .w1s, .live, 0x0, []⟩
def NF_ERR_COUNT : Field := ⟨.NF_ERR, 0, 16, 16, .ro, .none, 0x0, []⟩
def CH_SPD_W : Field := ⟨.CH_SPD, 0, 0, 32, .ro, .none, 0x0, []⟩

/-- Offset in BAR0 of the first instance of a register (R526, R538). -/
def RegName.base : RegName → Nat
  | .GLB_MODE => 0x100
  | .GLB_MODE_REQ => 0x104
  | .GLB_SLEEP_CTL => 0x108
  | .RGN_CAP => 0x200000
  | .RGN_STATUS => 0x200004
  | .RGN_DPA_LIMIT => 0x200008
  | .RGN_UNMAPPED_CNT => 0x20000c
  | .RGN_DENY_CNT => 0x200010
  | .RGN_POOL_CFG => 0x200100
  | .RGN_POOL_BAND => 0x200104
  | .RGN_POOL_REMAP => 0x200108
  | .CH_AMAP => 0x1000200
  | .PER_CAP => 0x100000
  | .PER_GUARD => 0x100004
  | .PER_POLICY => 0x100008
  | .PER_SAVE_DECL => 0x10000c
  | .PER_ENERGY => 0x100010
  | .PER_SAVE_BW => 0x100014
  | .PER_FIXED => 0x100018
  | .PER_CEILING => 0x10001c
  | .PER_AT_RISK => 0x100020
  | .PER_STALL_CTL => 0x100024
  | .PER_STALL_CNT => 0x100028
  | .PER_WT_CNT => 0x10002c
  | .PER_SAVE_STATUS => 0x100030
  | .PER_RESTORE => 0x100034
  | .TIER_CAP => 0x400000
  | .TIER_LAYBY_CTL => 0x400004
  | .TIER_LAYBY_STAT => 0x400008
  | .TIER_DETOUR_CNT => 0x400010
  | .TIER_DETOUR_TO_CNT => 0x400014
  | .TIER_EVICT_REF_CNT => 0x400018
  | .TIER_PIN_OVF_CNT => 0x40001c
  | .TIER_BYPASS_CNT => 0x400020
  | .TIER_LOAN_ABANDON_CNT => 0x400024
  | .TIER_PART_CFG => 0x400100
  | .TIER_PART_DATA => 0x400104
  | .TIER_PART_TAG => 0x400108
  | .TIER_PART_STAT => 0x40010c
  | .TIER_PLAN_STAT => 0x401000
  | .TIER_STREAM_STAT => 0x402000
  | .CH_TIM0 => 0x1000100
  | .CH_TIM1 => 0x1000104
  | .CH_TIM2 => 0x1000108
  | .CH_TIM3 => 0x100010c
  | .CH_TIM4 => 0x1000110
  | .CH_TIM5 => 0x1000114
  | .CH_TIM6 => 0x1000118
  | .CH_TIM7 => 0x100011c
  | .CH_TIM8 => 0x1000120
  | .CH_TIM9 => 0x1000124
  | .CH_TIM10 => 0x1000128
  | .CH_TIM11 => 0x100012c
  | .CH_TIM12 => 0x1000130
  | .CH_TIM13 => 0x1000134
  | .CH_TIM_COMMIT => 0x1000140
  | .CH_STATE => 0x1000000
  | .CH_CTL => 0x1000004
  | .CH_POP => 0x1000008
  | .CH_ERR => 0x100000c
  | .CH_SCHED => 0x1000010
  | .CH_QSTAT => 0x1000014
  | .CH_REF => 0x1000018
  | .CH_THERM => 0x100001c
  | .CH_PASR => 0x1000020
  | .CH_CAPAR => 0x1000024
  | .CH_TRAIN_CTL => 0x1000028
  | .CH_TRAIN_STAT => 0x100002c
  | .CH_REBUILD => 0x1000030
  | .CH_LC_CTL => 0x1000300
  | .CH_CE_CNT => 0x1000308
  | .CH_UE_CNT => 0x100030c
  | .CH_LOC_CNT => 0x1000310
  | .CH_WB_CNT => 0x1000314
  | .CH_MARK => 0x1000320
  | .NF_STATE => 0x2000000
  | .NF_GEOM => 0x2000004
  | .NF_RETRY_CNT => 0x2000010
  | .NF_SOFT_CNT => 0x2000014
  | .NF_UE_CNT => 0x2000018
  | .NF_PREEMPT_CNT => 0x200001c
  | .NF_ERASE_CTL => 0x2000020
  | .NF_ERASE_STAT => 0x2000024
  | .NF_FREE => 0x2000028
  | .NF_EC_SEL => 0x2000030
  | .NF_EC_DATA => 0x2000034
  | .NF_EC_SUM => 0x2000038
  | .NF_POP => 0x2008000
  | .NF_ENDUR_CTL => 0x2008004
  | .NF_ENDUR_STAT => 0x2008008
  | .NF_PE => 0x200800c
  | .NF_WL_CTL => 0x2008010
  | .NF_SAVE_RGN => 0x2008014
  | .NF_MAP => 0x2008018
  | .BTT_CAP => 0x500000
  | .BTT_LINK_CFG => 0x500004
  | .BTT_TIMING => 0x500008
  | .BTT_TIMING2 => 0x50000c
  | .BTT_TIMING3 => 0x500010
  | .BTT_RX_SHARE => 0x500014
  | .BTT_LINK_STAT => 0x500020
  | .BTT_EPOCH => 0x500024
  | .BTT_LAG => 0x500028
  | .BTT_BITMAP => 0x50002c
  | .BTT_RETX_CNT => 0x500040
  | .BTT_DUP_CNT => 0x500044
  | .BTT_WINDOW_DROP_CNT => 0x500048
  | .BTT_TAG_FAIL_CNT => 0x50004c
  | .BTT_LATE_ACK_CNT => 0x500050
  | .BTT_FILTER_HOLD_CNT => 0x500054
  | .BTT_ABANDON_CNT => 0x500058
  | .BTT_BAD_HDR_CNT => 0x50005c
  | .BTT_PATH_CFG => 0x500100
  | .BTT_PATH_STAT => 0x500130
  | .BTT_COPY => 0x501000
  | .PRT_CAP => 0x3000000
  | .PRT_BIFUR => 0x3000004
  | .PRT_LINK_STAT => 0x3000010
  | .PRT_LD_EN => 0x3000020
  | .PRT_TT_STAT => 0x3000030
  | .PRT_DEVLOAD => 0x3000034
  | .PRT_NOT_READY_CNT => 0x3000040
  | .PRT_POISON_IN_CNT => 0x3000044
  | .PRT_IDE_FAIL_CNT => 0x3000048
  | .PRT_VIRAL_CNT => 0x300004c
  | .PRT_POISON_LIST => 0x3008000
  | .RDMA_CAP => 0x600000
  | .RDMA_CTL => 0x600004
  | .RDMA_CC => 0x600008
  | .RDMA_GATE_CTL => 0x60000c
  | .RDMA_DROP_CNT => 0x600010
  | .RDMA_DUP_CNT => 0x600014
  | .RDMA_NAK_SENT_CNT => 0x600018
  | .RDMA_CNP_SENT_CNT => 0x60001c
  | .RDMA_CNP_RCV_CNT => 0x600020
  | .RDMA_QP_CTX => 0x601000
  | .RDMA_KEY_ENT => 0x601100
  | .RDMA_QP_STAT => 0x604000
  | .RING_SQ_DB => 0x300000
  | .RING_CQ_DB => 0x300004
  | .RING_PUSH_STAT => 0x300080
  | .RING_CTL => 0x300100
  | .RING_CFG => 0x300104
  | .RING_GROUPS => 0x300108
  | .RING_COAL => 0x30010c
  | .RING_STAT => 0x300120
  | .RING_CQ_STAT => 0x300124
  | .RING_CAP => 0x300800
  | .OP_STAT => 0x300804
  | .SQ_SEL => 0x300810
  | .SQ_STAT => 0x300814
  | .SQ_RESET_CNT => 0x300818
  | .SQ_REBUILD_CNT => 0x30081c
  | .SPILL_POOL => 0x300820
  | .ARB_SHADOW => 0xb00000
  | .ARB_ACTIVE => 0xb00020
  | .ARB_CTL => 0xb00040
  | .ARB_STAT => 0xb00044
  | .ARB_TB_STAT => 0xb00800
  | .SEC_CAP => 0x700000
  | .SEC_STATUS => 0x700004
  | .SEC_ALARM => 0x700008
  | .SEC_CTL => 0x70000c
  | .SEC_KEY_SEL => 0x700010
  | .SEC_KEY_STAT => 0x700014
  | .SEC_ROT_STAT => 0x700024
  | .SEC_ROT_CURSOR => 0x700028
  | .SEC_KEY_ABSENT_CNT => 0x700030
  | .SEC_FW => 0x700040
  | .GLB_CC_STAT => 0x300
  | .GLB_CC_TEST => 0x304
  | .GLB_CC_CTL => 0x308
  | .GLB_WDT_CFG => 0x310
  | .GLB_WDT_KICK => 0x314
  | .GLB_WDT_STAT => 0x318
  | .FLS_CAP => 0xa00000
  | .FLS_STAT => 0xa00004
  | .FLS_SLOT_STAT => 0xa00010
  | .FLS_SESS => 0xa00020
  | .FLS_SESS_OFF => 0xa00024
  | .FLS_SESS_LEN => 0xa00028
  | .FLS_ACT_TIME_LO => 0xa00030
  | .FLS_ACT_TIME_HI => 0xa00034
  | .FLS_ACT_STAT => 0xa00038
  | .FLS_UPD_CTL => 0xa00040
  | .FLS_UPD_TIMING => 0xa00044
  | .FLS_REC_STAT => 0xa00048
  | .FLS_CONFLICT_CNT => 0xa00050
  | .FLS_REPROG_CNT => 0xa00054
  | .FLS_SUSPEND_CNT => 0xa00058
  | .EVT_CAP => 0x800000
  | .EVT_HEAD => 0x800004
  | .EVT_OLDEST => 0x800008
  | .EVT_COUNT => 0x80000c
  | .EVT_ACK => 0x800010
  | .EVT_DROP0 => 0x800020
  | .EVT_DROP1 => 0x800024
  | .EVT_OVW0 => 0x800028
  | .EVT_OVW1 => 0x80002c
  | .EVT_LATE_CNT => 0x800030
  | .EVT_ERR_SUM0 => 0x800040
  | .EVT_ERR_SUM1 => 0x800044
  | .EVT_CW_ERR => 0x800050
  | .SNS_CTL => 0x900000
  | .SNS_PACK_CFG => 0x900004
  | .SNS_PACK_CFG2 => 0x900008
  | .SNS_VAL => 0x900100
  | .SNS_PACK_STAT => 0x900400
  | .SNS_PACK_CAP => 0x900404
  | .SNS_PACK_ENERGY => 0x900408
  | .SNS_PACK_CTL => 0x90040c
  | .SNS_TRIM => 0x901000
  | .SNS_TRIM_CTL => 0x901800
  | .GLB_IST_CTL => 0x400
  | .GLB_IST_PERIOD => 0x404
  | .GLB_IST_PERIOD2 => 0x408
  | .GLB_EYE_SEL => 0x410
  | .GLB_EYE_DATA => 0x414
  | .GLB_EYE_MIN => 0x418
  | .GLB_BIST_CTL => 0x420
  | .GLB_BIST_STAT => 0x424
  | .CH_PATROL => 0x1000380
  | .CH_LAYBY => 0x1000384
  | .GLB_STACK_CFG => 0x500
  | .GLB_STACK_STAT => 0x504
  | .GLB_STACK_CTL => 0x508
  | .MGT_CAP => 0x600
  | .MGT_CTL => 0x604
  | .MGT_STAT => 0x608
  | .GLB_STRAP => 0x700
  | .GLB_PWR_CTL => 0x704
  | .GLB_PWR_STAT => 0x708
  | .GLB_RST_CTL => 0x70c
  | .GLB_RST_CAUSE => 0x710
  | .GLB_CLK_STAT => 0x714
  | .GLB_TB_OFFSET => 0x718
  | .GLB_ID => 0x0
  | .GLB_REV => 0x4
  | .GLB_LOCK => 0x10
  | .GLB_ACC_CTL => 0x14
  | .GLB_ACC_ERR => 0x18
  | .GLB_SERIAL => 0x8
  | .RGN_OWNER_SET => 0x201000
  | .RGN_TABLE => 0x208000
  | .RING_PUSH => 0x300040
  | .RING_SQ_BASE => 0x300110
  | .RING_CQ_BASE => 0x300118
  | .RING_DB_BAD_CNT => 0x300128
  | .BTT_PATH_LOCAL_IP => 0x500110
  | .BTT_PATH_REMOTE_IP => 0x500120
  | .RDMA_GID => 0x600100
  | .RDMA_QP_SEL => 0x600800
  | .RDMA_KEY_SEL => 0x600804
  | .SEC_ROT_SEL => 0x700020
  | .EVT_SLOT => 0x810000
  | .FLS_SESS_ID => 0xa0002c
  | .NF_ERR => 0x2000008
  | .CH_SPD => 0x1001000

/-- Instances of a register: the count and the stride of its first and of its second index. -/
def RegName.dims : RegName → (Nat × Nat) × (Nat × Nat)
  | .RGN_POOL_CFG => ((16, 0x10), (1, 0x0))
  | .RGN_POOL_BAND => ((16, 0x10), (1, 0x0))
  | .RGN_POOL_REMAP => ((16, 0x10), (2, 0x4))
  | .CH_AMAP => ((16, 0x100000), (1, 0x0))
  | .TIER_PART_CFG => ((16, 0x10), (1, 0x0))
  | .TIER_PART_DATA => ((16, 0x10), (1, 0x0))
  | .TIER_PART_TAG => ((16, 0x10), (1, 0x0))
  | .TIER_PART_STAT => ((16, 0x10), (1, 0x0))
  | .TIER_PLAN_STAT => ((64, 0x4), (1, 0x0))
  | .TIER_STREAM_STAT => ((256, 0x8), (1, 0x0))
  | .CH_TIM0 => ((16, 0x100000), (1, 0x0))
  | .CH_TIM1 => ((16, 0x100000), (1, 0x0))
  | .CH_TIM2 => ((16, 0x100000), (1, 0x0))
  | .CH_TIM3 => ((16, 0x100000), (1, 0x0))
  | .CH_TIM4 => ((16, 0x100000), (1, 0x0))
  | .CH_TIM5 => ((16, 0x100000), (1, 0x0))
  | .CH_TIM6 => ((16, 0x100000), (1, 0x0))
  | .CH_TIM7 => ((16, 0x100000), (1, 0x0))
  | .CH_TIM8 => ((16, 0x100000), (1, 0x0))
  | .CH_TIM9 => ((16, 0x100000), (1, 0x0))
  | .CH_TIM10 => ((16, 0x100000), (1, 0x0))
  | .CH_TIM11 => ((16, 0x100000), (1, 0x0))
  | .CH_TIM12 => ((16, 0x100000), (1, 0x0))
  | .CH_TIM13 => ((16, 0x100000), (1, 0x0))
  | .CH_TIM_COMMIT => ((16, 0x100000), (1, 0x0))
  | .CH_STATE => ((16, 0x100000), (1, 0x0))
  | .CH_CTL => ((16, 0x100000), (1, 0x0))
  | .CH_POP => ((16, 0x100000), (1, 0x0))
  | .CH_ERR => ((16, 0x100000), (1, 0x0))
  | .CH_SCHED => ((16, 0x100000), (1, 0x0))
  | .CH_QSTAT => ((16, 0x100000), (1, 0x0))
  | .CH_REF => ((16, 0x100000), (1, 0x0))
  | .CH_THERM => ((16, 0x100000), (1, 0x0))
  | .CH_PASR => ((16, 0x100000), (1, 0x0))
  | .CH_CAPAR => ((16, 0x100000), (1, 0x0))
  | .CH_TRAIN_CTL => ((16, 0x100000), (1, 0x0))
  | .CH_TRAIN_STAT => ((16, 0x100000), (1, 0x0))
  | .CH_REBUILD => ((16, 0x100000), (1, 0x0))
  | .CH_LC_CTL => ((16, 0x100000), (1, 0x0))
  | .CH_CE_CNT => ((16, 0x100000), (1, 0x0))
  | .CH_UE_CNT => ((16, 0x100000), (1, 0x0))
  | .CH_LOC_CNT => ((16, 0x100000), (1, 0x0))
  | .CH_WB_CNT => ((16, 0x100000), (1, 0x0))
  | .CH_MARK => ((16, 0x100000), (16, 0x4))
  | .NF_STATE => ((32, 0x10000), (1, 0x0))
  | .NF_GEOM => ((32, 0x10000), (1, 0x0))
  | .NF_RETRY_CNT => ((32, 0x10000), (1, 0x0))
  | .NF_SOFT_CNT => ((32, 0x10000), (1, 0x0))
  | .NF_UE_CNT => ((32, 0x10000), (1, 0x0))
  | .NF_PREEMPT_CNT => ((32, 0x10000), (1, 0x0))
  | .NF_ERASE_CTL => ((32, 0x10000), (1, 0x0))
  | .NF_ERASE_STAT => ((32, 0x10000), (1, 0x0))
  | .NF_FREE => ((32, 0x10000), (1, 0x0))
  | .NF_EC_SEL => ((32, 0x10000), (1, 0x0))
  | .NF_EC_DATA => ((32, 0x10000), (1, 0x0))
  | .NF_EC_SUM => ((32, 0x10000), (1, 0x0))
  | .BTT_PATH_CFG => ((4, 0x40), (1, 0x0))
  | .BTT_PATH_STAT => ((4, 0x40), (1, 0x0))
  | .BTT_COPY => ((4096, 0x8), (1, 0x0))
  | .PRT_CAP => ((8, 0x1000), (1, 0x0))
  | .PRT_BIFUR => ((8, 0x1000), (1, 0x0))
  | .PRT_LINK_STAT => ((8, 0x1000), (4, 0x4))
  | .PRT_LD_EN => ((8, 0x1000), (4, 0x4))
  | .PRT_TT_STAT => ((8, 0x1000), (1, 0x0))
  | .PRT_DEVLOAD => ((8, 0x1000), (1, 0x0))
  | .PRT_NOT_READY_CNT => ((8, 0x1000), (1, 0x0))
  | .PRT_POISON_IN_CNT => ((8, 0x1000), (1, 0x0))
  | .PRT_IDE_FAIL_CNT => ((8, 0x1000), (1, 0x0))
  | .PRT_VIRAL_CNT => ((8, 0x1000), (1, 0x0))
  | .RDMA_QP_STAT => ((8192, 0x8), (1, 0x0))
  | .RING_SQ_DB => ((256, 0x1000), (1, 0x0))
  | .RING_CQ_DB => ((256, 0x1000), (1, 0x0))
  | .RING_PUSH_STAT => ((256, 0x1000), (1, 0x0))
  | .RING_CTL => ((256, 0x1000), (1, 0x0))
  | .RING_CFG => ((256, 0x1000), (1, 0x0))
  | .RING_GROUPS => ((256, 0x1000), (1, 0x0))
  | .RING_COAL => ((256, 0x1000), (1, 0x0))
  | .RING_STAT => ((256, 0x1000), (1, 0x0))
  | .RING_CQ_STAT => ((256, 0x1000), (1, 0x0))
  | .ARB_SHADOW => ((4, 0x100), (8, 0x4))
  | .ARB_ACTIVE => ((4, 0x100), (8, 0x4))
  | .ARB_CTL => ((4, 0x100), (1, 0x0))
  | .ARB_STAT => ((4, 0x100), (1, 0x0))
  | .ARB_TB_STAT => ((32, 0x4), (1, 0x0))
  | .FLS_SLOT_STAT => ((2, 0x8), (1, 0x0))
  | .EVT_CW_ERR => ((4, 0x4), (1, 0x0))
  | .SNS_VAL => ((72, 0x4), (1, 0x0))
  | .SNS_PACK_STAT => ((4, 0x10), (1, 0x0))
  | .SNS_PACK_CAP => ((4, 0x10), (1, 0x0))
  | .SNS_PACK_ENERGY => ((4, 0x10), (1, 0x0))
  | .SNS_PACK_CTL => ((4, 0x10), (1, 0x0))
  | .SNS_TRIM => ((3, 0x200), (72, 0x4))
  | .CH_PATROL => ((16, 0x100000), (1, 0x0))
  | .CH_LAYBY => ((16, 0x100000), (1, 0x0))
  | .GLB_SERIAL => ((2, 0x4), (1, 0x0))
  | .RGN_OWNER_SET => ((256, 0x10), (4, 0x4))
  | .RGN_TABLE => ((4096, 0x20), (8, 0x4))
  | .RING_PUSH => ((256, 0x1000), (16, 0x4))
  | .RING_SQ_BASE => ((256, 0x1000), (2, 0x4))
  | .RING_CQ_BASE => ((256, 0x1000), (2, 0x4))
  | .RING_DB_BAD_CNT => ((256, 0x1000), (1, 0x0))
  | .BTT_PATH_LOCAL_IP => ((4, 0x40), (4, 0x4))
  | .BTT_PATH_REMOTE_IP => ((4, 0x40), (4, 0x4))
  | .RDMA_GID => ((4, 0x40), (16, 0x4))
  | .EVT_SLOT => ((8192, 0x20), (8, 0x4))
  | .NF_ERR => ((32, 0x10000), (1, 0x0))
  | .CH_SPD => ((16, 0x100000), (512, 0x4))
  | _ => ((1, 0), (1, 0))

/-- Words of one instance of a register. -/
def RegName.words : RegName → Nat
  | .TIER_STREAM_STAT => 2
  | .BTT_COPY => 2
  | .RDMA_QP_CTX => 8
  | .RDMA_KEY_ENT => 8
  | .RDMA_QP_STAT => 2
  | .FLS_SLOT_STAT => 2
  | _ => 1

/-- The fields of a register, in ascending order of their bits. -/
def RegName.fields : RegName → List Field
  | .GLB_MODE => [GLB_MODE_MODE, GLB_MODE_PREV_MODE, GLB_MODE_DEG_CAUSE, GLB_MODE_MODE_SEQ]
  | .GLB_MODE_REQ => [GLB_MODE_REQ_TARGET, GLB_MODE_REQ_GO, GLB_MODE_REQ_RESULT]
  | .GLB_SLEEP_CTL => [GLB_SLEEP_CTL_NAP_EN, GLB_SLEEP_CTL_PASR_EN, GLB_SLEEP_CTL_QUIESCENT_EN,
    GLB_SLEEP_CTL_NAP1_IDLE, GLB_SLEEP_CTL_NAP2_IDLE, GLB_SLEEP_CTL_QUIESCE_IDLE]
  | .RGN_CAP => [RGN_CAP_MAX_REGIONS, RGN_CAP_MAX_POOL, RGN_CAP_MAX_OWNER_SET]
  | .RGN_STATUS => [RGN_STATUS_EPOCH, RGN_STATUS_DRAINING, RGN_STATUS_COMMIT_PENDING, RGN_STATUS_ACTIVE]
  | .RGN_DPA_LIMIT => [RGN_DPA_LIMIT_LIMIT_GIB]
  | .RGN_UNMAPPED_CNT => [RGN_UNMAPPED_CNT_COUNT]
  | .RGN_DENY_CNT => [RGN_DENY_CNT_COUNT]
  | .RGN_POOL_CFG => [RGN_POOL_CFG_VALID, RGN_POOL_CFG_SET, RGN_POOL_CFG_CW_A, RGN_POOL_CFG_CW_B,
    RGN_POOL_CFG_GRAIN, RGN_POOL_CFG_REFS]
  | .RGN_POOL_BAND => [RGN_POOL_BAND_BASE_GIB, RGN_POOL_BAND_SIZE_GIB]
  | .RGN_POOL_REMAP => [RGN_POOL_REMAP_VALID, RGN_POOL_REMAP_MEMBER, RGN_POOL_REMAP_TARGET_CH,
    RGN_POOL_REMAP_TARGET_BASE_GIB]
  | .CH_AMAP => [CH_AMAP_CL_W, CH_AMAP_SC_W, CH_AMAP_BG_W, CH_AMAP_BA_W, CH_AMAP_COL_W, CH_AMAP_RK_W, CH_AMAP_ROW_W,
    CH_AMAP_HASH_EN]
  | .PER_CAP => [PER_CAP_ARCH_MAX_GIB, PER_CAP_ADM_QUEUE]
  | .PER_GUARD => [PER_GUARD_STATE, PER_GUARD_STALL_RISK, PER_GUARD_UNARMED_CAUSE, PER_GUARD_IMAGE_FREE,
    PER_GUARD_GUARD_SEQ]
  | .PER_POLICY => [PER_POLICY_WB_PCT, PER_POLICY_FORCE_UNARMED, PER_POLICY_FLOOR_GIB, PER_POLICY_DERATE_PCT]
  | .PER_SAVE_DECL => [PER_SAVE_DECL_SAVE_POWER_W, PER_SAVE_DECL_CAP_GIB]
  | .PER_ENERGY => [PER_ENERGY_USABLE_DJ, PER_ENERGY_VALID, PER_ENERGY_PACKS]
  | .PER_SAVE_BW => [PER_SAVE_BW_MBPS, PER_SAVE_BW_CHANNELS]
  | .PER_FIXED => [PER_FIXED_T_FIXED_US]
  | .PER_CEILING => [PER_CEILING_PAGES]
  | .PER_AT_RISK => [PER_AT_RISK_PAGES]
  | .PER_STALL_CTL => [PER_STALL_CTL_STALL_LIMIT_US]
  | .PER_STALL_CNT => [PER_STALL_CNT_COUNT]
  | .PER_WT_CNT => [PER_WT_CNT_COUNT]
  | .PER_SAVE_STATUS => [PER_SAVE_STATUS_LAST_SEQ, PER_SAVE_STATUS_LAST_RESULT, PER_SAVE_STATUS_PENDING]
  | .PER_RESTORE => [PER_RESTORE_PENDING_PAGES, PER_RESTORE_REFILL_ACTIVE]
  | .TIER_CAP => [TIER_CAP_MAX_PLANS, TIER_CAP_MAX_STREAMS, TIER_CAP_MAX_PART]
  | .TIER_LAYBY_CTL => [TIER_LAYBY_CTL_LEND_EN, TIER_LAYBY_CTL_WB_RESERVE]
  | .TIER_LAYBY_STAT => [TIER_LAYBY_STAT_LENT, TIER_LAYBY_STAT_BORROWING]
  | .TIER_DETOUR_CNT => [TIER_DETOUR_CNT_COUNT]
  | .TIER_DETOUR_TO_CNT => [TIER_DETOUR_TO_CNT_COUNT]
  | .TIER_EVICT_REF_CNT => [TIER_EVICT_REF_CNT_COUNT]
  | .TIER_PIN_OVF_CNT => [TIER_PIN_OVF_CNT_COUNT]
  | .TIER_BYPASS_CNT => [TIER_BYPASS_CNT_COUNT]
  | .TIER_LOAN_ABANDON_CNT => [TIER_LOAN_ABANDON_CNT_COUNT]
  | .TIER_PART_CFG => [TIER_PART_CFG_VALID, TIER_PART_CFG_POOL, TIER_PART_CFG_SETS_LOG2, TIER_PART_CFG_PIN_WAYS,
    TIER_PART_CFG_PREFETCH]
  | .TIER_PART_DATA => [TIER_PART_DATA_FRAME]
  | .TIER_PART_TAG => [TIER_PART_TAG_FRAME]
  | .TIER_PART_STAT => [TIER_PART_STAT_PAGES]
  | .TIER_PLAN_STAT => [TIER_PLAN_STAT_STATE, TIER_PLAN_STAT_STREAMS_M1, TIER_PLAN_STAT_FIRST_STREAM]
  | .TIER_STREAM_STAT => [TIER_STREAM_STAT_READY, TIER_STREAM_STAT_LAYER, TIER_STREAM_STAT_STATE,
    TIER_STREAM_STAT_PLAN]
  | .CH_TIM0 => [CH_TIM0_CL, CH_TIM0_CWL, CH_TIM0_TRCD, CH_TIM0_TRP]
  | .CH_TIM1 => [CH_TIM1_TRAS, CH_TIM1_TRC]
  | .CH_TIM2 => [CH_TIM2_TRRD_S, CH_TIM2_TRRD_L, CH_TIM2_TFAW, CH_TIM2_TCCD_S]
  | .CH_TIM3 => [CH_TIM3_TCCD_L, CH_TIM3_TCCD_L_WR, CH_TIM3_TWTR_S, CH_TIM3_TWTR_L]
  | .CH_TIM4 => [CH_TIM4_TWR, CH_TIM4_TRTP, CH_TIM4_TPPD, CH_TIM4_TRTRS]
  | .CH_TIM5 => [CH_TIM5_RDWR_ADD, CH_TIM5_WRRD_ADD, CH_TIM5_TRPRE, CH_TIM5_TWPRE, CH_TIM5_TRPST, CH_TIM5_TWPST,
    CH_TIM5_TMRR, CH_TIM5_TMRW]
  | .CH_TIM6 => [CH_TIM6_TREFI, CH_TIM6_TRFC1]
  | .CH_TIM7 => [CH_TIM7_TRFC2, CH_TIM7_TRFCSB]
  | .CH_TIM8 => [CH_TIM8_TREFSBRD, CH_TIM8_TXS]
  | .CH_TIM9 => [CH_TIM9_TDLLK, CH_TIM9_TXP, CH_TIM9_TCPDED]
  | .CH_TIM10 => [CH_TIM10_TCSL, CH_TIM10_TMRD, CH_TIM10_TZQLAT]
  | .CH_TIM11 => [CH_TIM11_TZQCAL, CH_TIM11_TOSCO]
  | .CH_TIM12 => [CH_TIM12_RAAIMT, CH_TIM12_RAAMMT, CH_TIM12_RAADEC, CH_TIM12_RFM_EN]
  | .CH_TIM13 => [CH_TIM13_PAR_LAT, CH_TIM13_ALERT_PW]
  | .CH_TIM_COMMIT => [CH_TIM_COMMIT_COMMIT, CH_TIM_COMMIT_REFUSED]
  | .CH_STATE => [CH_STATE_STATE, CH_STATE_TYPE, CH_STATE_RATE, CH_STATE_CAP_GIB, CH_STATE_RSV_GIB]
  | .CH_CTL => [CH_CTL_RETRAIN, CH_CTL_PWR, CH_CTL_READMIT, CH_CTL_RATE_CAP]
  | .CH_POP => [CH_POP_PRESENT, CH_POP_RANKS_M1, CH_POP_HEIGHT, CH_POP_DENSITY, CH_POP_GIB]
  | .CH_ERR => [CH_ERR_FIRST, CH_ERR_MULTI, CH_ERR_CLR, CH_ERR_COUNT]
  | .CH_SCHED => [CH_SCHED_RD_AGE, CH_SCHED_WR_AGE, CH_SCHED_WR_HI, CH_SCHED_WR_LO]
  | .CH_QSTAT => [CH_QSTAT_RD_OCC, CH_QSTAT_WR_OCC, CH_QSTAT_IN_ORDER]
  | .CH_REF => [CH_REF_MODE, CH_REF_FGR, CH_REF_POSTPONE_MAX]
  | .CH_THERM => [CH_THERM_TEMP0, CH_THERM_TEMP1, CH_THERM_FACTOR, CH_THERM_THROTTLE]
  | .CH_PASR => [CH_PASR_RELEASED]
  | .CH_CAPAR => [CH_CAPAR_ALERTS, CH_CAPAR_ESCALATIONS]
  | .CH_TRAIN_CTL => [CH_TRAIN_CTL_OSC_MS, CH_TRAIN_CTL_FULL_PS, CH_TRAIN_CTL_TEMP_DELTA, CH_TRAIN_CTL_CE_LIMIT]
  | .CH_TRAIN_STAT => [CH_TRAIN_STAT_LAST_TRIGGER, CH_TRAIN_STAT_FULL_COUNT, CH_TRAIN_STAT_LAST_NS]
  | .CH_REBUILD => [CH_REBUILD_ACTIVE, CH_REBUILD_NO_SPACE, CH_REBUILD_PCT, CH_REBUILD_PARTNER]
  | .CH_LC_CTL => [CH_LC_CTL_MARK_AUTO, CH_LC_CTL_MARK_HITS, CH_LC_CTL_MARK_WIN_S, CH_LC_CTL_SCRUB_WR]
  | .CH_CE_CNT => [CH_CE_CNT_COUNT]
  | .CH_UE_CNT => [CH_UE_CNT_COUNT]
  | .CH_LOC_CNT => [CH_LOC_CNT_COUNT]
  | .CH_WB_CNT => [CH_WB_CNT_COUNT]
  | .CH_MARK => [CH_MARK_POS_A, CH_MARK_VALID_A, CH_MARK_POS_B, CH_MARK_VALID_B, CH_MARK_CLR_A, CH_MARK_CLR_B]
  | .NF_STATE => [NF_STATE_STATE, NF_STATE_IO, NF_STATE_DIES, NF_STATE_RATE, NF_STATE_CELL]
  | .NF_GEOM => [NF_GEOM_PLANES_LOG2, NF_GEOM_PAGES, NF_GEOM_BLOCKS]
  | .NF_RETRY_CNT => [NF_RETRY_CNT_COUNT]
  | .NF_SOFT_CNT => [NF_SOFT_CNT_COUNT]
  | .NF_UE_CNT => [NF_UE_CNT_COUNT]
  | .NF_PREEMPT_CNT => [NF_PREEMPT_CNT_COUNT]
  | .NF_ERASE_CTL => [NF_ERASE_CTL_ERASE_GUARD_MS]
  | .NF_ERASE_STAT => [NF_ERASE_STAT_STARVED, NF_ERASE_STAT_LONGEST_MS]
  | .NF_FREE => [NF_FREE_MIN_FREE, NF_FREE_ALARM]
  | .NF_EC_SEL => [NF_EC_SEL_DIE, NF_EC_SEL_BLOCK]
  | .NF_EC_DATA => [NF_EC_DATA_ERASES, NF_EC_DATA_STATUS, NF_EC_DATA_USE]
  | .NF_EC_SUM => [NF_EC_SUM_MIN, NF_EC_SUM_MAX]
  | .NF_POP => [NF_POP_MODULES, NF_POP_SERVING, NF_POP_BROWNOUT]
  | .NF_ENDUR_CTL => [NF_ENDUR_CTL_DWB_TARGET_GIB]
  | .NF_ENDUR_STAT => [NF_ENDUR_STAT_DAY_GIB, NF_ENDUR_STAT_OVER, NF_ENDUR_STAT_WA_PCT]
  | .NF_PE => [NF_PE_PE_RATED, NF_PE_PE_MEAN]
  | .NF_WL_CTL => [NF_WL_CTL_WL_DELTA, NF_WL_CTL_FREE_LOW]
  | .NF_SAVE_RGN => [NF_SAVE_RGN_GOOD_A_GIB, NF_SAVE_RGN_GOOD_B_GIB]
  | .NF_MAP => [NF_MAP_CACHE_GIB, NF_MAP_HIT_PCT]
  | .BTT_CAP => [BTT_CAP_LEVEL, BTT_CAP_MAX_PATHS, BTT_CAP_STREAMS, BTT_CAP_FILTER]
  | .BTT_LINK_CFG => [BTT_LINK_CFG_EN, BTT_LINK_CFG_IPV6, BTT_LINK_CFG_COPY_PART, BTT_LINK_CFG_UDP_PORT]
  | .BTT_TIMING => [BTT_TIMING_LAG_US, BTT_TIMING_LAG_MIB, BTT_TIMING_RETX_US, BTT_TIMING_RETX_BUDGET]
  | .BTT_TIMING2 => [BTT_TIMING2_SYNC_LIMIT, BTT_TIMING2_KA_US, BTT_TIMING2_PATH_DEAD]
  | .BTT_TIMING3 => [BTT_TIMING3_ABSENT_MS, BTT_TIMING3_RESYNC_PCT, BTT_TIMING3_SYNC_COAL_NS]
  | .BTT_RX_SHARE => [BTT_RX_SHARE_CLASS0, BTT_RX_SHARE_CLASS1, BTT_RX_SHARE_CLASS2, BTT_RX_SHARE_CLASS3]
  | .BTT_LINK_STAT => [BTT_LINK_STAT_STATE, BTT_LINK_STAT_PATHS_UP, BTT_LINK_STAT_PEER_LEVEL, BTT_LINK_STAT_RESYNC]
  | .BTT_EPOCH => [BTT_EPOCH_EPOCH]
  | .BTT_LAG => [BTT_LAG_AGE_US, BTT_LAG_MIB]
  | .BTT_BITMAP => [BTT_BITMAP_RANGES]
  | .BTT_RETX_CNT => [BTT_RETX_CNT_COUNT]
  | .BTT_DUP_CNT => [BTT_DUP_CNT_COUNT]
  | .BTT_WINDOW_DROP_CNT => [BTT_WINDOW_DROP_CNT_COUNT]
  | .BTT_TAG_FAIL_CNT => [BTT_TAG_FAIL_CNT_COUNT]
  | .BTT_LATE_ACK_CNT => [BTT_LATE_ACK_CNT_COUNT]
  | .BTT_FILTER_HOLD_CNT => [BTT_FILTER_HOLD_CNT_COUNT]
  | .BTT_ABANDON_CNT => [BTT_ABANDON_CNT_COUNT]
  | .BTT_BAD_HDR_CNT => [BTT_BAD_HDR_CNT_COUNT]
  | .BTT_PATH_CFG => [BTT_PATH_CFG_VALID, BTT_PATH_CFG_ETH_PORT, BTT_PATH_CFG_PKT_MAX, BTT_PATH_CFG_DSCP,
    BTT_PATH_CFG_SRC_UDP]
  | .BTT_PATH_STAT => [BTT_PATH_STAT_UP, BTT_PATH_STAT_SILENT_US]
  | .BTT_COPY => [BTT_COPY_COPY, BTT_COPY_PROMOTED, BTT_COPY_PRIMARY, BTT_COPY_PROMO_GEN]
  | .PRT_CAP => [PRT_CAP_ENTRIES, PRT_CAP_VER_MAX, PRT_CAP_SEL_IDE]
  | .PRT_BIFUR => [PRT_BIFUR_CURRENT, PRT_BIFUR_NEXT]
  | .PRT_LINK_STAT => [PRT_LINK_STAT_UP, PRT_LINK_STAT_WIDTH, PRT_LINK_STAT_RATE, PRT_LINK_STAT_FLIT256,
    PRT_LINK_STAT_VER, PRT_LINK_STAT_VIRAL, PRT_LINK_STAT_IDE, PRT_LINK_STAT_RWD_HELD]
  | .PRT_LD_EN => [PRT_LD_EN_MASK]
  | .PRT_TT_STAT => [PRT_TT_STAT_IN_USE, PRT_TT_STAT_PEAK]
  | .PRT_DEVLOAD => [PRT_DEVLOAD_OPT_PCT, PRT_DEVLOAD_MOD_PCT, PRT_DEVLOAD_SEV_PCT]
  | .PRT_NOT_READY_CNT => [PRT_NOT_READY_CNT_COUNT]
  | .PRT_POISON_IN_CNT => [PRT_POISON_IN_CNT_COUNT]
  | .PRT_IDE_FAIL_CNT => [PRT_IDE_FAIL_CNT_COUNT]
  | .PRT_VIRAL_CNT => [PRT_VIRAL_CNT_COUNT]
  | .PRT_POISON_LIST => [PRT_POISON_LIST_ENTRIES, PRT_POISON_LIST_OVERFLOW]
  | .RDMA_CAP => [RDMA_CAP_QPS, RDMA_CAP_KEYS]
  | .RDMA_CTL => [RDMA_CTL_PORT_EN, RDMA_CTL_PFC_EN, RDMA_CTL_PFC_PRIO]
  | .RDMA_CC => [RDMA_CC_CNP_US, RDMA_CC_RATE_TIMER, RDMA_CC_RATE_AI]
  | .RDMA_GATE_CTL => [RDMA_GATE_CTL_GATE_MS]
  | .RDMA_DROP_CNT => [RDMA_DROP_CNT_COUNT]
  | .RDMA_DUP_CNT => [RDMA_DUP_CNT_COUNT]
  | .RDMA_NAK_SENT_CNT => [RDMA_NAK_SENT_CNT_COUNT]
  | .RDMA_CNP_SENT_CNT => [RDMA_CNP_SENT_CNT_COUNT]
  | .RDMA_CNP_RCV_CNT => [RDMA_CNP_RCV_CNT_COUNT]
  | .RDMA_QP_CTX => [RDMA_QP_CTX_STATE, RDMA_QP_CTX_REQ, RDMA_QP_CTX_ETH_PORT, RDMA_QP_CTX_MTU,
    RDMA_QP_CTX_FLUSH_MIRROR, RDMA_QP_CTX_GID, RDMA_QP_CTX_DSCP, RDMA_QP_CTX_PD, RDMA_QP_CTX_RETRY,
    RDMA_QP_CTX_DEST_QPN, RDMA_QP_CTX_ACK_TO, RDMA_QP_CTX_SQ_PSN, RDMA_QP_CTX_RQ_PSN, RDMA_QP_CTX_REMOTE_IP0,
    RDMA_QP_CTX_REMOTE_IP1, RDMA_QP_CTX_REMOTE_IP2, RDMA_QP_CTX_REMOTE_IP3]
  | .RDMA_KEY_ENT => [RDMA_KEY_ENT_VALID, RDMA_KEY_ENT_RIGHTS, RDMA_KEY_ENT_PD, RDMA_KEY_ENT_REGION,
    RDMA_KEY_ENT_KEY_TAG, RDMA_KEY_ENT_VA_BASE0, RDMA_KEY_ENT_VA_BASE1, RDMA_KEY_ENT_OFF_PAGE_LO,
    RDMA_KEY_ENT_OFF_PAGE_HI, RDMA_KEY_ENT_LEN_PAGES_LO, RDMA_KEY_ENT_LEN_PAGES_HI, RDMA_KEY_ENT_GEN]
  | .RDMA_QP_STAT => [RDMA_QP_STAT_COMP_CNT, RDMA_QP_STAT_GATE, RDMA_QP_STAT_QUEUED]
  | .RING_SQ_DB => [RING_SQ_DB_INDEX]
  | .RING_CQ_DB => [RING_CQ_DB_INDEX]
  | .RING_PUSH_STAT => [RING_PUSH_STAT_TORN, RING_PUSH_STAT_OPEN, RING_PUSH_STAT_WORDS]
  | .RING_CTL => [RING_CTL_ENABLE, RING_CTL_FLUSH, RING_CTL_PUSH_EN]
  | .RING_CFG => [RING_CFG_SQ_LOG2, RING_CFG_CQ_LOG2, RING_CFG_PORT, RING_CFG_LINK, RING_CFG_VECTOR]
  | .RING_GROUPS => [RING_GROUPS_GROUPS]
  | .RING_COAL => [RING_COAL_COAL_US, RING_COAL_COAL_CNT]
  | .RING_STAT => [RING_STAT_HEAD, RING_STAT_HALTED, RING_STAT_CQ_FULL]
  | .RING_CQ_STAT => [RING_CQ_STAT_TAIL, RING_CQ_STAT_PHASE]
  | .RING_CAP => [RING_CAP_RINGS, RING_CAP_OPS]
  | .OP_STAT => [OP_STAT_IN_USE, OP_STAT_SUSPENDED]
  | .SQ_SEL => [SQ_SEL_INSTANCE, SQ_SEL_KIND]
  | .SQ_STAT => [SQ_STAT_ITEMS, SQ_STAT_CHUNKS, SQ_STAT_TORN]
  | .SQ_RESET_CNT => [SQ_RESET_CNT_COUNT]
  | .SQ_REBUILD_CNT => [SQ_REBUILD_CNT_COUNT]
  | .SPILL_POOL => [SPILL_POOL_USED, SPILL_POOL_PEAK]
  | .ARB_SHADOW => [ARB_SHADOW_OWNER0, ARB_SHADOW_OWNER1, ARB_SHADOW_OWNER2, ARB_SHADOW_OWNER3, ARB_SHADOW_OWNER4,
    ARB_SHADOW_OWNER5, ARB_SHADOW_OWNER6, ARB_SHADOW_OWNER7]
  | .ARB_ACTIVE => [ARB_ACTIVE_OWNER0, ARB_ACTIVE_OWNER1, ARB_ACTIVE_OWNER2, ARB_ACTIVE_OWNER3, ARB_ACTIVE_OWNER4,
    ARB_ACTIVE_OWNER5, ARB_ACTIVE_OWNER6, ARB_ACTIVE_OWNER7]
  | .ARB_CTL => [ARB_CTL_COMMIT, ARB_CTL_REFUSED]
  | .ARB_STAT => [ARB_STAT_SWAPPED, ARB_STAT_SEQ]
  | .ARB_TB_STAT => [ARB_TB_STAT_DEPTH, ARB_TB_STAT_PEAK, ARB_TB_STAT_FULL_CNT]
  | .SEC_CAP => [SEC_CAP_SLOTS, SEC_CAP_SESSIONS, SEC_CAP_ROTATIONS]
  | .SEC_STATUS => [SEC_STATUS_STORE, SEC_STATUS_ENTROPY_OK, SEC_STATUS_MASK_DEGRADED, SEC_STATUS_ROTATING,
    SEC_STATUS_LOADED]
  | .SEC_ALARM => [SEC_ALARM_LATCHED, SEC_ALARM_ACTIVE, SEC_ALARM_COUNT]
  | .SEC_CTL => [SEC_CTL_LOCK_ON_BOOT, SEC_CTL_MESH_EN]
  | .SEC_KEY_SEL => [SEC_KEY_SEL_SLOT]
  | .SEC_KEY_STAT => [SEC_KEY_STAT_STATE, SEC_KEY_STAT_GEN, SEC_KEY_STAT_REFS]
  | .SEC_ROT_STAT => [SEC_ROT_STAT_ACTIVE, SEC_ROT_STAT_OLD_SLOT, SEC_ROT_STAT_NEW_SLOT]
  | .SEC_ROT_CURSOR => [SEC_ROT_CURSOR_CURSOR]
  | .SEC_KEY_ABSENT_CNT => [SEC_KEY_ABSENT_CNT_COUNT]
  | .SEC_FW => [SEC_FW_SVN, SEC_FW_KEYSLOT, SEC_FW_REVOKED]
  | .GLB_CC_STAT => [GLB_CC_STAT_ROLE_A, GLB_CC_STAT_ROLE_B, GLB_CC_STAT_ROLE_S, GLB_CC_STAT_SWITCH_CNT,
    GLB_CC_STAT_CKPT_AGE]
  | .GLB_CC_TEST => [GLB_CC_TEST_ROUNDS, GLB_CC_TEST_FAILS, GLB_CC_TEST_TESTING]
  | .GLB_CC_CTL => [GLB_CC_CTL_FORCE_SWITCH]
  | .GLB_WDT_CFG => [GLB_WDT_CFG_PERIOD_MS, GLB_WDT_CFG_WIN_PCT]
  | .GLB_WDT_KICK => [GLB_WDT_KICK_KEY]
  | .GLB_WDT_STAT => [GLB_WDT_STAT_REMAIN_MS, GLB_WDT_STAT_DEFERRED, GLB_WDT_STAT_OPEN, GLB_WDT_STAT_EXPIRES,
    GLB_WDT_STAT_RESTARTS]
  | .FLS_CAP => [FLS_CAP_BANKS, FLS_CAP_SLOT_256K, FLS_CAP_PARAM]
  | .FLS_STAT => [FLS_STAT_BUSY, FLS_STAT_EXEC_BANK, FLS_STAT_SUSPENDED, FLS_STAT_BROWNOUT, FLS_STAT_ERASE_MARKED]
  | .FLS_SLOT_STAT => [FLS_SLOT_STAT_STATE, FLS_SLOT_STAT_STARTS, FLS_SLOT_STAT_SVN, FLS_SLOT_STAT_BTT_LEVEL,
    FLS_SLOT_STAT_BUNDLE_VER]
  | .FLS_SESS => [FLS_SESS_STATE, FLS_SESS_SOURCE, FLS_SESS_TARGET]
  | .FLS_SESS_OFF => [FLS_SESS_OFF_BYTES]
  | .FLS_SESS_LEN => [FLS_SESS_LEN_BYTES]
  | .FLS_ACT_TIME_LO => [FLS_ACT_TIME_LO_TIME]
  | .FLS_ACT_TIME_HI => [FLS_ACT_TIME_HI_TIME]
  | .FLS_ACT_STAT => [FLS_ACT_STAT_SWAPPED, FLS_ACT_STAT_GROUP, FLS_ACT_STAT_VOTES]
  | .FLS_UPD_CTL => [FLS_UPD_CTL_CONFIRM, FLS_UPD_CTL_ABORT, FLS_UPD_CTL_REVERT, FLS_UPD_CTL_AUTO_CONFIRM,
    FLS_UPD_CTL_PUSH_TWIN, FLS_UPD_CTL_TRIAL_S, FLS_UPD_CTL_CONFIRM_S]
  | .FLS_UPD_TIMING => [FLS_UPD_TIMING_LEAD_MS, FLS_UPD_TIMING_IDLE_S]
  | .FLS_REC_STAT => [FLS_REC_STAT_FREE_PS, FLS_REC_STAT_FREE_JR]
  | .FLS_CONFLICT_CNT => [FLS_CONFLICT_CNT_COUNT]
  | .FLS_REPROG_CNT => [FLS_REPROG_CNT_COUNT]
  | .FLS_SUSPEND_CNT => [FLS_SUSPEND_CNT_COUNT]
  | .EVT_CAP => [EVT_CAP_SLOTS, EVT_CAP_WORDS]
  | .EVT_HEAD => [EVT_HEAD_SEQ]
  | .EVT_OLDEST => [EVT_OLDEST_SEQ]
  | .EVT_COUNT => [EVT_COUNT_PRESENT, EVT_COUNT_UNACKED, EVT_COUNT_SLOT_ERR]
  | .EVT_ACK => [EVT_ACK_SEQ]
  | .EVT_DROP0 => [EVT_DROP0_LOW, EVT_DROP0_HIGH]
  | .EVT_DROP1 => [EVT_DROP1_LOW, EVT_DROP1_HIGH]
  | .EVT_OVW0 => [EVT_OVW0_LOW, EVT_OVW0_HIGH]
  | .EVT_OVW1 => [EVT_OVW1_LOW, EVT_OVW1_HIGH]
  | .EVT_LATE_CNT => [EVT_LATE_CNT_COUNT]
  | .EVT_ERR_SUM0 => [EVT_ERR_SUM0_DRAM, EVT_ERR_SUM0_CW]
  | .EVT_ERR_SUM1 => [EVT_ERR_SUM1_NAND]
  | .EVT_CW_ERR => [EVT_CW_ERR_FIRST, EVT_CW_ERR_MULTI, EVT_CW_ERR_CLR, EVT_CW_ERR_COUNT]
  | .SNS_CTL => [SNS_CTL_TEMP_HI]
  | .SNS_PACK_CFG => [SNS_PACK_CFG_CONV_VMIN, SNS_PACK_CFG_V_FULL, SNS_PACK_CFG_I_PEAK, SNS_PACK_CFG_I_TEST]
  | .SNS_PACK_CFG2 => [SNS_PACK_CFG2_TEST_DV, SNS_PACK_CFG2_TEST_MAX_DAYS, SNS_PACK_CFG2_ESR_MAX]
  | .SNS_VAL => [SNS_VAL_VALUE, SNS_VAL_STALE, SNS_VAL_UNCAL, SNS_VAL_OUT_RANGE]
  | .SNS_PACK_STAT => [SNS_PACK_STAT_STATE, SNS_PACK_STAT_CYCLES]
  | .SNS_PACK_CAP => [SNS_PACK_CAP_C_MF, SNS_PACK_CAP_ESR_MOHM]
  | .SNS_PACK_ENERGY => [SNS_PACK_ENERGY_USABLE_DJ, SNS_PACK_ENERGY_FULL_DJ]
  | .SNS_PACK_CTL => [SNS_PACK_CTL_TEST]
  | .SNS_TRIM => [SNS_TRIM_OFFSET, SNS_TRIM_GAIN]
  | .SNS_TRIM_CTL => [SNS_TRIM_CTL_COMMIT, SNS_TRIM_CTL_RELOAD]
  | .GLB_IST_CTL => [GLB_IST_CTL_PATROL_EN, GLB_IST_CTL_MARCH_EN, GLB_IST_CTL_DISTURB_EN, GLB_IST_CTL_EYE_EN,
    GLB_IST_CTL_PACK_EN]
  | .GLB_IST_PERIOD => [GLB_IST_PERIOD_PATROL_H, GLB_IST_PERIOD_LAYBY_H, GLB_IST_PERIOD_DISTURB_H,
    GLB_IST_PERIOD_EYE_H]
  | .GLB_IST_PERIOD2 => [GLB_IST_PERIOD2_PACK_DAYS]
  | .GLB_EYE_SEL => [GLB_EYE_SEL_LANE]
  | .GLB_EYE_DATA => [GLB_EYE_DATA_HEIGHT_MV, GLB_EYE_DATA_WIDTH_MUI, GLB_EYE_DATA_AGE_H]
  | .GLB_EYE_MIN => [GLB_EYE_MIN_HEIGHT_MV, GLB_EYE_MIN_WIDTH_MUI]
  | .GLB_BIST_CTL => [GLB_BIST_CTL_START]
  | .GLB_BIST_STAT => [GLB_BIST_STAT_LAYBY, GLB_BIST_STAT_TAGQ, GLB_BIST_STAT_STAGING, GLB_BIST_STAT_QUEUES,
    GLB_BIST_STAT_CKPT]
  | .CH_PATROL => [CH_PATROL_PCT, CH_PATROL_BEHIND_H, CH_PATROL_PASSES]
  | .CH_LAYBY => [CH_LAYBY_RETIRED, CH_LAYBY_NO_LEND]
  | .GLB_STACK_CFG => [GLB_STACK_CFG_SIZE_M1, GLB_STACK_CFG_HB_MS, GLB_STACK_CFG_ELECT_MS]
  | .GLB_STACK_STAT => [GLB_STACK_STAT_POSITION, GLB_STACK_STAT_MASTER, GLB_STACK_STAT_LIVE,
    GLB_STACK_STAT_IS_MASTER, GLB_STACK_STAT_ELECTING, GLB_STACK_STAT_CONFLICT]
  | .GLB_STACK_CTL => [GLB_STACK_CTL_HANDBACK]
  | .MGT_CAP => [MGT_CAP_ENTERPRISE]
  | .MGT_CTL => [MGT_CTL_BMC_WRITE_EN, MGT_CTL_SMB_ADDR]
  | .MGT_STAT => [MGT_STAT_EID, MGT_STAT_BUS0_I3C, MGT_STAT_BUS1_I3C, MGT_STAT_STACK_EID, MGT_STAT_ISLAND_ONLY]
  | .GLB_STRAP => [GLB_STRAP_STACK_ID, GLB_STRAP_AUTO_WAKE, GLB_STRAP_RECOVERY]
  | .GLB_PWR_CTL => [GLB_PWR_CTL_DDR_RETAIN]
  | .GLB_PWR_STAT => [GLB_PWR_STAT_RAIL_OK, GLB_PWR_STAT_AON_OK, GLB_PWR_STAT_IO_OK, GLB_PWR_STAT_BRD_PG,
    GLB_PWR_STAT_PWR_FAIL, GLB_PWR_STAT_HU_KEEP, GLB_PWR_STAT_DDR_KEPT, GLB_PWR_STAT_FAIL_RAIL]
  | .GLB_RST_CTL => [GLB_RST_CTL_SOFT]
  | .GLB_RST_CAUSE => [GLB_RST_CAUSE_BOOT_CAUSE, GLB_RST_CAUSE_HELD, GLB_RST_CAUSE_BOOTS]
  | .GLB_CLK_STAT => [GLB_CLK_STAT_CXL_REF, GLB_CLK_STAT_ETH_REF, GLB_CLK_STAT_SYS25, GLB_CLK_STAT_XTAL,
    GLB_CLK_STAT_HOLDOVER, GLB_CLK_STAT_TB_LOCK, GLB_CLK_STAT_PPS_IN]
  | .GLB_TB_OFFSET => [GLB_TB_OFFSET_OFFSET_NS]
  | .GLB_ID => [GLB_ID_ONE, GLB_ID_MFR, GLB_ID_PART, GLB_ID_VERSION]
  | .GLB_REV => [GLB_REV_GRADE, GLB_REV_STEP_MAJOR, GLB_REV_STEP_MINOR, GLB_REV_ROM_REV]
  | .GLB_LOCK => [GLB_LOCK_LOCK, GLB_LOCK_AUTO_LOCK_MIN, GLB_LOCK_SETTER]
  | .GLB_ACC_CTL => [GLB_ACC_CTL_BMC_PEEK]
  | .GLB_ACC_ERR => [GLB_ACC_ERR_UNMAPPED, GLB_ACC_ERR_PARTIAL]
  | .GLB_SERIAL => [GLB_SERIAL_SERIAL]
  | .RGN_OWNER_SET => [RGN_OWNER_SET_W]
  | .RGN_TABLE => [RGN_TABLE_W]
  | .RING_PUSH => [RING_PUSH_W]
  | .RING_SQ_BASE => [RING_SQ_BASE_W]
  | .RING_CQ_BASE => [RING_CQ_BASE_W]
  | .RING_DB_BAD_CNT => [RING_DB_BAD_CNT_COUNT]
  | .BTT_PATH_LOCAL_IP => [BTT_PATH_LOCAL_IP_W]
  | .BTT_PATH_REMOTE_IP => [BTT_PATH_REMOTE_IP_W]
  | .RDMA_GID => [RDMA_GID_W]
  | .RDMA_QP_SEL => [RDMA_QP_SEL_QP]
  | .RDMA_KEY_SEL => [RDMA_KEY_SEL_KEY]
  | .SEC_ROT_SEL => [SEC_ROT_SEL_REGION]
  | .EVT_SLOT => [EVT_SLOT_W]
  | .FLS_SESS_ID => [FLS_SESS_ID_ID]
  | .NF_ERR => [NF_ERR_FIRST, NF_ERR_MULTI, NF_ERR_CLR, NF_ERR_COUNT]
  | .CH_SPD => [CH_SPD_W]

/-- Every register name: the first half of the index. -/
def regNames0 : List RegName :=
  [.GLB_MODE, .GLB_MODE_REQ, .GLB_SLEEP_CTL, .RGN_CAP, .RGN_STATUS, .RGN_DPA_LIMIT, .RGN_UNMAPPED_CNT,
    .RGN_DENY_CNT, .RGN_POOL_CFG, .RGN_POOL_BAND, .RGN_POOL_REMAP, .CH_AMAP, .PER_CAP, .PER_GUARD, .PER_POLICY,
    .PER_SAVE_DECL, .PER_ENERGY, .PER_SAVE_BW, .PER_FIXED, .PER_CEILING, .PER_AT_RISK, .PER_STALL_CTL,
    .PER_STALL_CNT, .PER_WT_CNT, .PER_SAVE_STATUS, .PER_RESTORE, .TIER_CAP, .TIER_LAYBY_CTL, .TIER_LAYBY_STAT,
    .TIER_DETOUR_CNT, .TIER_DETOUR_TO_CNT, .TIER_EVICT_REF_CNT, .TIER_PIN_OVF_CNT, .TIER_BYPASS_CNT,
    .TIER_LOAN_ABANDON_CNT, .TIER_PART_CFG, .TIER_PART_DATA, .TIER_PART_TAG, .TIER_PART_STAT, .TIER_PLAN_STAT,
    .TIER_STREAM_STAT, .CH_TIM0, .CH_TIM1, .CH_TIM2, .CH_TIM3, .CH_TIM4, .CH_TIM5, .CH_TIM6, .CH_TIM7, .CH_TIM8,
    .CH_TIM9, .CH_TIM10, .CH_TIM11, .CH_TIM12, .CH_TIM13, .CH_TIM_COMMIT, .CH_STATE, .CH_CTL, .CH_POP, .CH_ERR,
    .CH_SCHED, .CH_QSTAT, .CH_REF, .CH_THERM]
def regNames1 : List RegName :=
  [.CH_PASR, .CH_CAPAR, .CH_TRAIN_CTL, .CH_TRAIN_STAT, .CH_REBUILD, .CH_LC_CTL, .CH_CE_CNT, .CH_UE_CNT, .CH_LOC_CNT,
    .CH_WB_CNT, .CH_MARK, .NF_STATE, .NF_GEOM, .NF_RETRY_CNT, .NF_SOFT_CNT, .NF_UE_CNT, .NF_PREEMPT_CNT,
    .NF_ERASE_CTL, .NF_ERASE_STAT, .NF_FREE, .NF_EC_SEL, .NF_EC_DATA, .NF_EC_SUM, .NF_POP, .NF_ENDUR_CTL,
    .NF_ENDUR_STAT, .NF_PE, .NF_WL_CTL, .NF_SAVE_RGN, .NF_MAP, .BTT_CAP, .BTT_LINK_CFG, .BTT_TIMING, .BTT_TIMING2,
    .BTT_TIMING3, .BTT_RX_SHARE, .BTT_LINK_STAT, .BTT_EPOCH, .BTT_LAG, .BTT_BITMAP, .BTT_RETX_CNT, .BTT_DUP_CNT,
    .BTT_WINDOW_DROP_CNT, .BTT_TAG_FAIL_CNT, .BTT_LATE_ACK_CNT, .BTT_FILTER_HOLD_CNT, .BTT_ABANDON_CNT,
    .BTT_BAD_HDR_CNT, .BTT_PATH_CFG, .BTT_PATH_STAT, .BTT_COPY, .PRT_CAP, .PRT_BIFUR, .PRT_LINK_STAT, .PRT_LD_EN,
    .PRT_TT_STAT, .PRT_DEVLOAD, .PRT_NOT_READY_CNT, .PRT_POISON_IN_CNT, .PRT_IDE_FAIL_CNT, .PRT_VIRAL_CNT,
    .PRT_POISON_LIST, .RDMA_CAP, .RDMA_CTL]
def regNames2 : List RegName :=
  [.RDMA_CC, .RDMA_GATE_CTL, .RDMA_DROP_CNT, .RDMA_DUP_CNT, .RDMA_NAK_SENT_CNT, .RDMA_CNP_SENT_CNT,
    .RDMA_CNP_RCV_CNT, .RDMA_QP_CTX, .RDMA_KEY_ENT, .RDMA_QP_STAT, .RING_SQ_DB, .RING_CQ_DB, .RING_PUSH_STAT,
    .RING_CTL, .RING_CFG, .RING_GROUPS, .RING_COAL, .RING_STAT, .RING_CQ_STAT, .RING_CAP, .OP_STAT, .SQ_SEL,
    .SQ_STAT, .SQ_RESET_CNT, .SQ_REBUILD_CNT, .SPILL_POOL, .ARB_SHADOW, .ARB_ACTIVE, .ARB_CTL, .ARB_STAT,
    .ARB_TB_STAT, .SEC_CAP, .SEC_STATUS, .SEC_ALARM, .SEC_CTL, .SEC_KEY_SEL, .SEC_KEY_STAT, .SEC_ROT_STAT,
    .SEC_ROT_CURSOR, .SEC_KEY_ABSENT_CNT, .SEC_FW, .GLB_CC_STAT, .GLB_CC_TEST, .GLB_CC_CTL, .GLB_WDT_CFG,
    .GLB_WDT_KICK, .GLB_WDT_STAT, .FLS_CAP, .FLS_STAT, .FLS_SLOT_STAT, .FLS_SESS, .FLS_SESS_OFF, .FLS_SESS_LEN,
    .FLS_ACT_TIME_LO, .FLS_ACT_TIME_HI, .FLS_ACT_STAT, .FLS_UPD_CTL, .FLS_UPD_TIMING, .FLS_REC_STAT,
    .FLS_CONFLICT_CNT, .FLS_REPROG_CNT, .FLS_SUSPEND_CNT, .EVT_CAP, .EVT_HEAD]
def regNames3 : List RegName :=
  [.EVT_OLDEST, .EVT_COUNT, .EVT_ACK, .EVT_DROP0, .EVT_DROP1, .EVT_OVW0, .EVT_OVW1, .EVT_LATE_CNT, .EVT_ERR_SUM0,
    .EVT_ERR_SUM1, .EVT_CW_ERR, .SNS_CTL, .SNS_PACK_CFG, .SNS_PACK_CFG2, .SNS_VAL, .SNS_PACK_STAT, .SNS_PACK_CAP,
    .SNS_PACK_ENERGY, .SNS_PACK_CTL, .SNS_TRIM, .SNS_TRIM_CTL, .GLB_IST_CTL, .GLB_IST_PERIOD, .GLB_IST_PERIOD2,
    .GLB_EYE_SEL, .GLB_EYE_DATA, .GLB_EYE_MIN, .GLB_BIST_CTL, .GLB_BIST_STAT, .CH_PATROL, .CH_LAYBY, .GLB_STACK_CFG,
    .GLB_STACK_STAT, .GLB_STACK_CTL, .MGT_CAP, .MGT_CTL, .MGT_STAT, .GLB_STRAP, .GLB_PWR_CTL, .GLB_PWR_STAT,
    .GLB_RST_CTL, .GLB_RST_CAUSE, .GLB_CLK_STAT, .GLB_TB_OFFSET, .GLB_ID, .GLB_REV, .GLB_LOCK, .GLB_ACC_CTL,
    .GLB_ACC_ERR, .GLB_SERIAL, .RGN_OWNER_SET, .RGN_TABLE, .RING_PUSH, .RING_SQ_BASE, .RING_CQ_BASE,
    .RING_DB_BAD_CNT, .BTT_PATH_LOCAL_IP, .BTT_PATH_REMOTE_IP, .RDMA_GID, .RDMA_QP_SEL, .RDMA_KEY_SEL, .SEC_ROT_SEL,
    .EVT_SLOT, .FLS_SESS_ID, .NF_ERR, .CH_SPD]
/-- Every register of R535 and R538. -/
def regNames : List RegName := regNames0 ++ regNames1 ++ regNames2 ++ regNames3

end Sys2Proof.Machine
end

