-- ==== Sys2Proof/Machine/Sparse.lean ====
section
/-!
DEFINITION. Sparse maps: lists of (key, value) pairs in one canonical form, keys strictly rising and no entry equal to
what an unlisted key reads as. Tables and memories of the state are sparse maps; `d k` is what an unlisted key k reads
as.
-/
namespace Sys2Proof.Machine.Sparse

/-- The value at a key. -/
def get {α : Type} (d : Nat → α) : List (Nat × α) → Nat → α
  | [], k => d k
  | (k', v) :: t, k => if k' = k then v else get d t k

/-- Writes a key; writing what an unlisted key reads as removes the entry. -/
def set {α : Type} [DecidableEq α] (d : Nat → α) : List (Nat × α) → Nat → α → List (Nat × α)
  | [], k, v => if v = d k then [] else [(k, v)]
  | (k', v') :: t, k, v =>
    if k < k' then (if v = d k then (k', v') :: t else (k, v) :: (k', v') :: t)
    else if k = k' then (if v = d k then t else (k, v) :: t)
    else (k', v') :: set d t k v

/-- Changes the value at a key. -/
def modify {α : Type} [DecidableEq α] (d : Nat → α) (m : List (Nat × α)) (k : Nat) (f : α → α) : List (Nat × α) :=
  set d m k (f (get d m k))

/-- Resets every key that satisfies a test to what an unlisted key reads as. -/
def clear {α : Type} (m : List (Nat × α)) (p : Nat → Bool) : List (Nat × α) :=
  m.filter fun e => ! p e.1

/-- Every key of the list is above a bound, and keys rise strictly; no entry holds the unlisted value. -/
def wfFrom {α : Type} [DecidableEq α] (d : Nat → α) : Option Nat → List (Nat × α) → Bool
  | _, [] => true
  | b, (k, v) :: t =>
    (match b with | none => true | some b => decide (b < k)) && decide (v ≠ d k) && wfFrom d (some k) t

/-- The canonical form of a sparse map. -/
def wf {α : Type} [DecidableEq α] (d : Nat → α) (m : List (Nat × α)) : Bool := wfFrom d none m

end Sys2Proof.Machine.Sparse
end

