-- ==== Sys2Proof/Machine/State.lean ====
section
/-!
DEFINITION. The state of the controller, the reasons a step can stop, and the state right after reset.
-/
namespace Sys2Proof.Machine

/-- The controller: what the spec gives it, and two fields of the model's own (the queue of waiting commands is the block's
interface; `freeCtr` counts the free values taken, log entry 6). -/
structure State where
  /-- the commands that wait, first in, first out -/
  pending : List Instr
  /-- time since VDD_AON power-on in nanoseconds: the timebase of R506 before its offset -/
  timeNs : Nat
  /-- the model's own: free values taken so far -/
  freeCtr : Nat
  /-- what the controller has sent out, oldest first -/
  outs : List Out
  /-- the register file: words of the registers of R535 and R538 that differ from their reset values, by offset -/
  regs : List (Nat × Word)
  /-- the event log (chapter 17) -/
  evt : EvtLog
  /-- records that wait for the flash record port (R395) -/
  portQueue : List PortItem
  /-- the mode controller (chapter 02) -/
  mc : ModeCtl
  /-- supplies and resets (chapter 22) -/
  pw : Power
  /-- clocks (chapter 22) -/
  clk : Clocks
  /-- regions (chapter 03) -/
  rgn : Regions
  /-- persistence (chapter 04) -/
  per : Persist
  /-- tiers and plans (chapter 05) -/
  tier : Tier
  /-- rings and long operations (chapter 12) -/
  rings : Rings
  /-- NAND media (chapter 08) -/
  nand : Nand
  /-- DRAM channels (chapters 06 and 07) -/
  chans : List (Nat × Channel)
  /-- the twin-transport engine (chapter 09) -/
  twin : Twin
  /-- CXL ports (chapter 10) -/
  ports : Ports
  /-- the RDMA engine (chapter 11) -/
  rdma : Rdma
  /-- management endpoints (chapter 21) -/
  mgmt : Mgmt
  /-- requests that wait in the endpoints' buffers while the control complex is in a gap (R377, R480), oldest first -/
  buffered : List (ReqFrom × Instr)
  /-- security (chapter 14) -/
  sec : Security
  /-- stacks (chapter 20) -/
  stk : Stack
  /-- the control complex (chapter 15) -/
  cc : Cc
  /-- slot tables and tailback queues (chapter 13) -/
  arb : Arb
  /-- code flash and updates (chapter 16) -/
  flash : Flash
  /-- junction links (R429): 0 to 3 carriageways, 4 twin engine, 5 RDMA engine, 6 control complex, 7 security block -/
  jct : List (Nat × JctLink)
  /-- sensors and packs (chapter 18) -/
  hub : Hub
  /-- tests (chapter 19) -/
  tests : Tests
  /-- register access (chapter 24) -/
  regu : RegUnit
  deriving DecidableEq, Repr

/-- Why a step faults. Every behaviour the spec describes for a bad command is an effect on the state (a poisoned answer, a status
code, an event record), so no command of this block faults. -/
inductive Fault
  deriving DecidableEq, Repr

/-- Why a step is refused. -/
inductive Refusal where
  /-- Raised by an arm of `exec` whose command has no meaning yet; safe: the machine stops where the controller goes on. -/
  | notModelled (mnemonic : String)
  deriving DecidableEq, Repr

/-- No region command, no epoch passed, tables empty; LIMIT_GIB is in the register file. -/
def Regions.reset : Regions :=
  { table := [], sets := [], hdm := [], epoch := 0, draining := false, waiting := [], ops := [], undurable := 0, durTable := [],
    durSets := [], limitGib := 0, bindGens := [] }

/-- The persistence unit right after reset: UNARMED without an energy measurement, both images free. -/
def Persist.reset : Persist :=
  { guard := .unarmed, stallRisk := false, cause := 1, guardSeq := 0, ceiling := 0, raiseCnt := 0, raiseMin := 0,
    decl := (80, 512, 0), planned := none, noEnergyFrames := 10000, stallFrames := 1000, usableDj := 0, energyOk := false,
    packs := 0, rehearsals := [], rehChannels := 0, rehRunning := false, adm := [], wts := [], fences := [], gpf := [],
    imageA := Image.empty, imageB := Image.empty, saveImage := false, saveStep := .none, saveSeq := 0, saveStart := 0,
    saveTrigger := 0, flushCut := false, lastResult := 0, homeSeq := 0, dirtyShutdowns := 0, clean := none }

/-- The tier engines right after reset. -/
def Tier.reset : Tier :=
  { pages := [], dram := [], reads := [], fills := [], wbs := [], wayWaits := [], lastMiss := [], retryOff := [], wayWrites := [],
    plans := [], streams := [], lent := [], hintLogged := false, restarts := [] }

/-- The supplies right after the release of power-on reset: the main rails are off, RAIL_EN low, the straps at their internal
pulls (R495). -/
def Power.reset : Power :=
  { aonOk := true, ioOk := false, brdPg := false, pwrFailN := true, mainBack := false, railEn := 0, railOk := 0, railFault := 0,
    seqRail := none, seqRaised := 0, seqReady := false, failRail := 7, pendingWake := none, ddrKept := false,
    vddqExcursion := false, strapStackId := 0,
    strapAutoWake := true, strapRecovery := false, rstLow := false, rstHeld := false, bootCause := 1, boots := 0,
    avsMv := 750, avsReq := none, avsRetried := false,
    bootAt := 0, cold := none }

/-- The clocks in STANDBY: only the RC oscillator runs (R497). -/
def Clocks.reset : Clocks :=
  { cxlRef := 0, ethRef := 0, sys25 := false, xtal := false, holdover := false, tbLock := false, timeKnown := false, ppsIn := false, tbOffset := 0,
    cwClock := 0, jctClock := false, refLost := 0 }

/-- The mode controller right after VDD_AON power-on (R44, R497). -/
def ModeCtl.reset : ModeCtl :=
  { mode := .standby, prev := 0, causes := 0, seq := 0, result := 0, latchedMaint := false, drainMaint := false,
    bootMaint := false, saveReqs := [], beforeSave := .standby }

/-- An idle session with no blocks. -/
def Session.idle : Session :=
  { st := .idle, source := 0, target := 0, len := 0, off := 0, id := 0, blockAt := 0, actTime := 0, actAt := 0, members := [],
    yes := [], healthy := [], proposer := false, swapped := 0, trialAt := 0, sentHealthy := false, offline := false,
    twinTakes := 0, twinOff := 0, recSeq := 0, waitTime := false }

/-- The flash as the model starts it: nothing programmed that the spec gives content for, the boot record preferring slot A (log
entry 17). -/
def Flash.reset : Flash :=
  { words := [], ops := [], waiting := [], marked := [], execBank := 2, brownout := false, staged := [],
    slotA := ⟨0, 0, 0, 0, 0⟩, slotB := ⟨0, 0, 0, 0, 0⟩, running := 0, sess := Session.idle, fusedSvn := 0,
    keySlot := 0, bttLevel := 1 }

/-- The sensor hub right after reset. -/
def Hub.reset : Hub :=
  { sensors := [], trims := [], shadow := [], badSets := [], first := false, commit := false, hot := false, packs := [] }

/-- The test units right after reset. -/
def Tests.reset : Tests :=
  { patrols := [], march := [], retired := [], suspect := [], eyes := [], scans := [], bist := false, tap := 1 }

/-- The state right after reset: VDD_AON power-on has been released and the controller is in STANDBY (R44, R497, R507). -/
def State.reset : State :=
  { pending := [], timeNs := 0, freeCtr := 0, outs := [], regs := [],
    evt := { recs := [], nextSeq := 0, limiters := [], rejects := none }, portQueue := [],
    mc := ModeCtl.reset, pw := Power.reset, clk := Clocks.reset, rgn := Regions.reset, per := Persist.reset, tier := Tier.reset,
    rings := { ring := [], ops := [], opGens := [], poolPeak := 0, sqTorn := [] }, nand := Nand.reset, chans := [],
    twin := Twin.reset, ports := Ports.reset, rdma := { qps := [], keys := [], ethUp := 0, paused := 0 },
    mgmt := { eid := 0, stackEid := 0, i3c := 0, receiver := false, events := [], evtBus := 0, fwBus := 0 }, buffered := [], sec := Security.reset,
    stk := { master := 0, live := 0, conflict := false, seated := false, missed := [], lastHb := 0, reports := [], ranges := [],
             waiting := [], waitFrom := 0 },
    cc := Cc.reset, arb := { oldTable := [], parked := [] }, flash := Flash.reset, jct := [], hub := Hub.reset,
    tests := Tests.reset, regu := { bmcSel := [], serviceAt := none } }

end Sys2Proof.Machine
end

