-- ==== Sys2Proof/Machine/Units.lean ====
section
/-!
DEFINITION. The units of the controller by number, and where event records and state changes are mirrored: the CXL event
logs (R287) and the platform events for the BMC (R487).
-/
namespace Sys2Proof.Machine

/-! ## Units by number -/

/-- DRAM channel n. -/
def State.ch (s : State) (n : Nat) : Channel := Sparse.get Channel.reset s.chans n

/-- Replaces DRAM channel n. -/
def State.setCh (s : State) (n : Nat) (c : Channel) : State := { s with chans := Sparse.set Channel.reset s.chans n c }

/-- Usable GiB of a channel (R146). -/
def State.chGib (s : State) (n : Nat) : Nat := (s.ch n).capGib

/-- A link of a port. -/
def State.linkAt (s : State) (p l : Nat) : CxlLink := Sparse.get (fun _ => CxlLink.down) s.ports.links (4 * p + l)

/-- Replaces a link of a port. -/
def State.setLink (s : State) (p l : Nat) (x : CxlLink) : State :=
  { s with ports := { s.ports with links := Sparse.set (fun _ => CxlLink.down) s.ports.links (4 * p + l) x } }

/-- The configuration of a port: 0 x16, 1 2 × x8, 2 4 × x4 (R260). -/
def State.bifur (s : State) (p : Nat) : Nat := Sparse.get (fun _ => 0) s.ports.bifur p

/-- Links of a configuration. -/
def bifurLinks (b : Nat) : Nat := if b = 0 then 1 else if b = 1 then 2 else 4

/-- The link of a port that carries an LD (R55). -/
def State.ldLink (s : State) (p ld : Nat) : Nat := if ld < 16 then ld / (16 / bifurLinks (s.bifur p)) else ld - 16

/-- Port, link and LD as word 4 of an event holds them (R288, log entry 15). -/
def State.portWord (s : State) (p ld : Nat) : Nat := p + 16 * s.ldLink p ld + 256 * ld

/-- A logical device of a port. -/
def State.ldAt (s : State) (p ld : Nat) : Ld := Sparse.get (fun _ => Ld.reset) s.ports.lds (32 * p + ld)

/-- Replaces a logical device. -/
def State.setLd (s : State) (p ld : Nat) (x : Ld) : State :=
  { s with ports := { s.ports with lds := Sparse.set (fun _ => Ld.reset) s.ports.lds (32 * p + ld) x } }

/-- Whether the link of an LD is at CXL 3.0 or later (R264). -/
def State.linkCxl3 (s : State) (p ld : Nat) : Bool := decide (3 ≤ (s.linkAt p (s.ldLink p ld)).ver)

/-- The LD is presented by a link that is up (R266). -/
def State.ldEnabled (s : State) (p ld : Nat) : Bool :=
  let l := s.linkAt p (s.ldLink p ld)
  l.up && l.lds.getLsbD ld

/-- Queue pair q. -/
def State.qp (s : State) (q : Nat) : Qp := Sparse.get (fun _ => Qp.reset) s.rdma.qps q

/-- Replaces queue pair q. -/
def State.setQp (s : State) (q : Nat) (x : Qp) : State :=
  { s with rdma := { s.rdma with qps := Sparse.set (fun _ => Qp.reset) s.rdma.qps q x } }

/-! ## Outputs -/

/-- Sends something out of the controller. -/
def State.emit (s : State) (o : Out) : State := { s with outs := s.outs ++ [o] }

/-- Sends several things out, in order. -/
def State.emitAll (s : State) (os : List Out) : State := { s with outs := s.outs ++ os }

/-! ## The CXL event logs (R287) -/

/-- Adds an event to a log of an LD: a log of 256 events that is full sets its overflow indication instead. An enabled
interrupt of the log is sent (R284, R287). -/
def State.pushCxl (s : State) (p ld log kind : Nat) (rcd : Option LogRec) (base size : Nat) : State :=
  let x := s.ldAt p ld
  let s :=
    if 256 ≤ x.events.countP (fun e => e.log == log) then s.setLd p ld { x with overflow := x.overflow ||| BitVec.ofNat 5 (2 ^ log) }
    else s.setLd p ld { x with events := x.events ++ [⟨log, kind, x.nextHandle, rcd, base, size⟩],
                               nextHandle := x.nextHandle % 65535 + 1 }
  let pol := x.policy.getD log 0
  if pol % 4 = 1 then s.emit (.msix (0x1000 + 32 * p + ld) (pol / 16 % 16)) else s

/-- The (port, LD) pairs a mirrored event goes to: the owners of the region it names, or every enabled LD and the FM-owned LD
of every link that presents several LDs (R266, R287). -/
def State.eventLds (s : State) (region : Option Nat) : List (Nat × Nat) :=
  match region with
  | some i =>
    let r := Sparse.get (fun _ => Region.empty) s.rgn.table i
    let o := if r.ownerSet = 0 then 0#128 else Sparse.get (fun _ => 0#128) s.rgn.sets r.ownerSet.toNat
    (List.range 128).filterMap fun k => if o.getLsbD k then some (k / 16, k % 16) else none
  | none => (List.range 8).flatMap fun p =>
    ((List.range 16).filterMap fun ld => if s.ldEnabled p ld then some (p, ld) else none) ++
      (List.range 4).filterMap fun l =>
        let x := s.linkAt p l
        if x.up && decide (2 ≤ (List.range 16).countP fun k => x.lds.getLsbD k) then some (p, 16 + l) else none

/-- The region an event record names, if its event names one (R198 and the event tables). -/
def LogRec.region (r : LogRec) : Option Nat :=
  let c := r.code.toNat
  if c = 0x6001 ∨ c = 0x1014 ∨ c = 0x3030 ∨ c = 0x4030 ∨ c = 0x6020 then some (r.w7.toNat % 4096)
  else if c = 0x4008 then some (r.w5.toNat % 4096)
  else if c = 0x6002 ∨ c = 0x3008 ∨ c = 0x3009 ∨ c = 0x3012 ∨ c = 0x3013 ∨ c = 0x7004 ∨ c = 0x8063 then some (r.w4.toNat % 4096)
  else none

/-- The DPA an event record gives in words 5 and 6 (R198, chapter 05). -/
def LogRec.dpa (r : LogRec) : Nat := r.w5.toNat + r.w6.toNat * 2 ^ 32

/-- The further CXL event an event gives (R287): 1 General Media with the DPA, 2 DRAM, 3 Memory Module. -/
def LogRec.extra (r : LogRec) : Option Nat :=
  let c := r.code.toNat
  if c = 0x1011 ∨ c = 0x1014 ∨ c = 0x3030 ∨ c = 0x4030 ∨ c = 0x6020 ∨ c = 0x6002 then some 1
  else if c = 0x1012 then some 2
  else if c = 0x5001 ∨ c = 0x5012 ∨ c = 0x1009 then some 3
  else none

/-- The codes whose CXL copy is written by the unit that knows their DPA: LC_UNCORRECTABLE (R287). -/
def State.mirrorCxl (s : State) (r : LogRec) : State :=
  let lds := s.eventLds r.region
  let s := lds.foldl (fun s x => s.pushCxl x.1 x.2 r.sev.code 0 (some r) 0 0) s
  match r.extra with
  | some k => if r.code = 0x1011 then s
    else lds.foldl (fun s x => s.pushCxl x.1 x.2 r.sev.code k (some r) (if k = 1 then r.dpa else 0) 0) s
  | none => s

/-- The General Media Event of LC_UNCORRECTABLE, with the DPA of the line (R287). -/
def State.mediaEvent (s : State) (dpa region : Nat) : State :=
  (s.eventLds (some region)).foldl (fun s x => s.pushCxl x.1 x.2 2 1 none dpa 64) s

/-! ## Platform events (R487) -/

/-- FLAGS of a record (R414). -/
def LogRec.flags (r : LogRec) : Nat :=
  r.acked.toNat + 2 * r.synced.toNat + 4 * r.summary.toNat + 8 * r.restored.toNat + 16 * r.copied.toNat

/-- Word 3 of a record. -/
def LogRec.word3 (r : LogRec) : Nat := r.flags + 2 ^ 6 * r.source.toNat + 2 ^ 14 * r.sev.code + 2 ^ 16 * r.code.toNat

/-- The eight words of a record (R414). -/
def LogRec.words (r : LogRec) : List Word :=
  [r.seq, r.time.extractLsb' 0 32, r.time.extractLsb' 32 32, BitVec.ofNat 32 r.word3, r.w4, r.w5, r.w6, r.w7]

/-- The data of a PlatformEventMessage: the event class, then the sensor and its value, or the 32 bytes of the record. -/
def PlatformEvent.data : PlatformEvent → List Nat
  | .sensor id v => [0x00, id, v]
  | .record r => 0xF0 :: r.words.map BitVec.toNat

/-- Sends a PlatformEventMessage once event generation is enabled, and keeps it for the acknowledgement; a queue of 64 drops its
oldest record message first, then its oldest sensor message. -/
def State.platformEvent (s : State) (e : PlatformEvent) : State :=
  if ! s.mgmt.receiver then s
  else
    let q := s.mgmt.events
    let isRec (x : PlatformEvent) : Bool := match x with | .record _ => true | _ => false
    let q := if q.length < 64 then q
      else match q.findIdx? isRec with
        | some k => q.eraseIdx k
        | none => q.drop 1
    ({ s with mgmt := { s.mgmt with events := q ++ [e] } }).emit (.mgmt s.mgmt.evtBus 0x01 0x20A 0 e.data)

/-- A state sensor changes (R486, R487): its identifier and the register encoding it reports, plus one. -/
def State.sensorChange (s : State) (id value : Nat) : State := s.platformEvent (.sensor id (value + 1))

/-- The same for a sensor of the stack endpoint ID (R486): the controller that holds it reports its own position. -/
def State.stackSensor (s : State) (base value : Nat) : State :=
  if s.mgmt.stackEid = 0 then s else s.sensorChange (base + s.pw.strapStackId.toNat) value

/-- Where a record goes beside the log: the CXL event logs, and the BMC for ERROR and CRITICAL. -/
def State.mirrorEvent (s : State) (r : LogRec) : State :=
  let s := s.mirrorCxl r
  if 2 ≤ r.sev.code then s.platformEvent (.record r) else s

end Sys2Proof.Machine
end

