-- ==== Sys2Proof/Machine/Ops.lean ====
section
/-!
DEFINITION. Operations the meanings share: free values, outputs, the register file, the event log with its limiters and
its placement rule (R414 to R421), refused register writes (R421), completions (R314, R321) and mode changes (R42).
-/
namespace Sys2Proof.Machine

/-- What a meaning answers. -/
abbrev Res := Host.Outcome State Fault Refusal

/-! ## Sources of event records (R415) -/

def srcCh (n : Nat) : Nat := n
def srcNand (n : Nat) : Nat := 0x10 + n
def srcPort (p : Nat) : Nat := 0x30 + p
def srcEth (e : Nat) : Nat := 0x38 + e
def srcTier (c : Nat) : Nat := 0x40 + c
def srcJct (c : Nat) : Nat := 0x44 + c
def srcTwin : Nat := 0x50
def srcRdma : Nat := 0x51
def srcPersist : Nat := 0x58
def srcPacks : Nat := 0x59
def srcSensors : Nat := 0x5A
def srcSec : Nat := 0x60
def srcCc : Nat := 0x68
def srcWdt : Nat := 0x69
def srcFlash : Nat := 0x6A
def srcMode : Nat := 0x6B
def srcRgn : Nat := 0x6C
def srcPower : Nat := 0x6D
def srcStack : Nat := 0x6E
def srcMgmt : Nat := 0x6F
def srcRings : Nat := 0x70
def srcSpill : Nat := 0x71
def srcLog : Nat := 0x78
def srcReg : Nat := 0x79

/-! ## Free values -/

/-- The next free value, and the state with the counter of free values advanced (log entry 6). -/
def State.fresh (s : State) : Nat × State := (Config.freeValue s.freeCtr, { s with freeCtr := s.freeCtr + 1 })

/-! ## The register file -/

/-- The offset in BAR0 of word `w` of instance (i, j) of a register (R526, R538). -/
def RegName.offset (r : RegName) (i j w : Nat) : Nat :=
  r.base + i * r.dims.1.2 + j * r.dims.2.2 + 4 * w

/-- The reset value of one word of a register: the resets of its fields, for CH_REBUILD.PARTNER the value (n + 4) mod 16 that its
table gives, and for PRT_LD_EN of link 0 the lowest LD of the link. -/
def RegName.resetWord (r : RegName) (i j w : Nat) : Word :=
  let base := (r.fields.filter fun f => f.word = w).foldl (fun a f => a ||| (BitVec.ofNat 32 f.reset <<< f.lo)) 0#32
  match r with
  | .CH_REBUILD => base ||| (BitVec.ofNat 32 ((i + 4) % 16) <<< 16)
  | .PRT_LD_EN => if j = 0 then 1 else 0
  | _ => base

/-- The instance and word of a register that an offset lies at, if it lies at one. -/
def RegName.locate (r : RegName) (off : Nat) : Option (Nat × Nat × Nat) :=
  if off < r.base then none
  else
    let d := off - r.base
    let n1 := r.dims.1.1
    let s1 := r.dims.1.2
    let n2 := r.dims.2.1
    let s2 := r.dims.2.2
    let i := if s1 = 0 then 0 else d / s1
    let d2 := if s1 = 0 then d else d % s1
    let j := if s2 = 0 then 0 else d2 / s2
    let d3 := if s2 = 0 then d2 else d2 % s2
    let w := d3 / 4
    if i < n1 ∧ j < n2 ∧ w < r.words ∧ d3 % 4 = 0 then some (i, j, w) else none

/-- Finds the register at an offset in a list of names. -/
def locateIn (off : Nat) : List RegName → Option (RegName × Nat × Nat × Nat)
  | [] => none
  | r :: t => match r.locate off with
    | some (i, j, w) => some (r, i, j, w)
    | none => locateIn off t

/-- The register, instance and word at an offset; `none`: an unlisted offset (R526). -/
def locateReg (off : Nat) : Option (RegName × Nat × Nat × Nat) := locateIn off regNames

/-- What the register file reads as at an offset nothing has written. -/
def regDefault (off : Nat) : Word :=
  match locateReg off with
  | some (r, i, j, w) => r.resetWord i j w
  | none => 0

/-- One word of the register file. -/
def State.regAt (s : State) (r : RegName) (i j w : Nat) : Word :=
  Sparse.get (fun _ => r.resetWord i j w) s.regs (r.offset i j w)

/-- Writes one word of the register file. -/
def State.setRegAt (s : State) (r : RegName) (i j w : Nat) (v : Word) : State :=
  { s with regs := Sparse.set (fun _ => r.resetWord i j w) s.regs (r.offset i j w) v }

/-- The bits of a field. -/
def Field.mask (f : Field) : Word := BitVec.ofNat 32 ((2 ^ f.width - 1) <<< f.lo)

/-- The value of a field in a word. -/
def Field.get (f : Field) (w : Word) : Nat := (w.toNat >>> f.lo) % 2 ^ f.width

/-- A word with a field set to a value (modulo the field's width). -/
def Field.put (f : Field) (w : Word) (v : Nat) : Word :=
  (w &&& ~~~f.mask) ||| (BitVec.ofNat 32 (v % 2 ^ f.width) <<< f.lo)

/-- The value of a field of instance (i, j). -/
def State.fld (s : State) (f : Field) (i : Nat := 0) (j : Nat := 0) : Nat := f.get (s.regAt f.reg i j f.word)

/-- Sets a field of instance (i, j). -/
def State.setFld (s : State) (f : Field) (v : Nat) (i : Nat := 0) (j : Nat := 0) : State :=
  s.setRegAt f.reg i j f.word (f.put (s.regAt f.reg i j f.word) v)

/-- A field read as a flag. -/
def State.flag (s : State) (f : Field) (i : Nat := 0) (j : Nat := 0) : Bool := s.fld f i j != 0

/-- Adds to a counter field, which saturates. -/
def State.addFld (s : State) (f : Field) (n : Nat) (i : Nat := 0) (j : Nat := 0) : State :=
  s.setFld f (min (2 ^ f.width - 1) (s.fld f i j + n)) i j

/-- Counts one in a counter field, which saturates. -/
def State.bump (s : State) (f : Field) (i : Nat := 0) (j : Nat := 0) : State := s.addFld f 1 i j

/-! ## The event log -/

/-- The slots of the log that hold no record (R414). -/
def EvtLog.emptySlots (l : EvtLog) : List Nat :=
  (List.range 8192).filter fun i => ! l.recs.any fun r => r.slot == i

/-- Serial comparison of sequence numbers: a is at or after b (R414). -/
def serialGe (a b : BitVec 32) : Bool := (a - b).toNat < 2 ^ 31

/-- Whether a present record may be overwritten by a new record of a severity (R418). -/
def LogRec.overwritable (r : LogRec) (sev : Sev) : Bool :=
  match r.sev with
  | .critical => r.acked && sev == .critical
  | x => x.code ≤ sev.code

/-- The oldest record, by SEQ, that a new record of a severity may overwrite. -/
def EvtLog.victim (l : EvtLog) (sev : Sev) : Option LogRec :=
  (l.recs.filter fun r => r.overwritable sev).foldl
    (fun o r => match o with
      | none => some r
      | some b => if serialGe r.seq b.seq then some b else some r) none

/-- The overwrite counter of a severity (R418). -/
def ovwField : Sev → Field
  | .info => EVT_OVW0_LOW | .notice => EVT_OVW0_HIGH | .error => EVT_OVW1_LOW | .critical => EVT_OVW1_HIGH

/-- The drop counter of a severity (R418). -/
def dropField : Sev → Field
  | .info => EVT_DROP0_LOW | .notice => EVT_DROP0_HIGH | .error => EVT_DROP1_LOW | .critical => EVT_DROP1_HIGH

/-- Counts a drop and gathers it for LOG_DROPPED (R418, R434). -/
def State.noteDrop (s : State) (sev : Sev) : State :=
  let s := s.bump (dropField sev)
  let add (l : Limiter) : Limiter :=
    { l with w4 := l.w4 + (if sev = .info then 1 else 0), w5 := l.w5 + (if sev = .notice then 1 else 0),
             w6 := l.w6 + (if sev = .error then 1 else 0), w7 := l.w7 + (if sev = .critical then 1 else 0) }
  let lims := s.evt.limiters
  let lims' := if lims.any fun l => l.code == 0x8041
    then lims.map fun l => if l.code == 0x8041 then add l else l
    else lims ++ [add ⟨0x8041, 0, .error, srcLog, s.timeNs, 0, 0, 0, 0⟩]
  { s with evt := { s.evt with limiters := lims' } }

/-- Queues the flash copy that every CRITICAL record gets (R423). -/
def State.copyCritical (s : State) (r : LogRec) : State :=
  if r.sev = .critical then { s with portQueue := s.portQueue ++ [.evt r] } else s

/-- Places a record (R417, R418): in an empty slot when one exists, the choice among the empty slots being a free value;
otherwise over the oldest record it may overwrite; otherwise it is dropped and takes no number. -/
def State.place (s : State) (r : LogRec) : State :=
  if s.evt.recs.length < 8192 then
    let (n, s) := s.fresh
    let free := s.evt.emptySlots
    let r := { r with seq := s.evt.nextSeq, slot := free.getD (n % free.length) 0 }
    (({ s with evt := { s.evt with recs := s.evt.recs ++ [r], nextSeq := s.evt.nextSeq + 1 } }).copyCritical r).mirrorEvent r
  else match s.evt.victim r.sev with
    | some v =>
      let r := { r with seq := s.evt.nextSeq, slot := v.slot }
      let s := s.bump (ovwField v.sev)
      (({ s with evt := { s.evt with recs := (s.evt.recs.filter fun (x : LogRec) => x.slot != v.slot) ++ [r],
                                     nextSeq := s.evt.nextSeq + 1 } }).copyCritical r).mirrorEvent r
    | none => s.noteDrop r.sev

/-- A record with its parameters, timestamp and SYNCED flag (R414, R416). -/
def State.mkRec (s : State) (code : Nat) (sev : Sev) (source : Nat) (time : Nat) (summary : Bool)
    (w4 w5 w6 w7 : Nat) : LogRec :=
  { slot := 0, seq := 0, time := BitVec.ofNat 64 time, code := BitVec.ofNat 16 code, sev := sev,
    source := BitVec.ofNat 8 source, acked := false, synced := s.clk.tbLock, summary := summary, restored := false,
    copied := false, w4 := BitVec.ofNat 32 w4, w5 := BitVec.ofNat 32 w5, w6 := BitVec.ofNat 32 w6,
    w7 := BitVec.ofNat 32 w7 }

/-- Writes an event record. -/
def State.log (s : State) (code : Nat) (sev : Sev) (source : Nat) (w4 : Nat := 0) (w5 : Nat := 0) (w6 : Nat := 0)
    (w7 : Nat := 0) : State :=
  s.place (s.mkRec code sev source s.timeNs false w4 w5 w6 w7)

/-- Counts an event that is written at most once per interval (R420): the first occurrence opens the interval with the
parameters given; a later one in the same interval changes them by `merge`. -/
def State.logLim (s : State) (code key : Nat) (sev : Sev) (source : Nat) (first : Nat × Nat × Nat × Nat)
    (merge : Limiter → Limiter := fun l => { l with w5 := l.w5 + 1 }) : State :=
  let same (l : Limiter) : Bool := l.code == code && l.key == key
  let lims := s.evt.limiters
  let lims' := if lims.any same then lims.map fun l => if same l then merge l else l
    else lims ++ [⟨code, key, sev, source, s.timeNs, first.1, first.2.1, first.2.2.1, first.2.2.2⟩]
  { s with evt := { s.evt with limiters := lims' } }

/-! ## Refused register writes (R421) -/

/-- Who writes a register: word 6 [5:4] of CFG_REJECT. -/
def Writer.code : Writer → Nat | .host => 1 | .bmc => 2 | .firmware => 3

/-- Logs a refused register write under the window rule of R421: offset, value written, reason, writer and detail. -/
def State.reject (s : State) (off val reason : Nat) (who : Writer) (detail : Nat := 0) : State :=
  let w6 := reason + 16 * who.code
  match s.evt.rejects with
  | none =>
    let s := s.log 0x8043 .notice srcReg off val w6 detail
    { s with evt := { s.evt with rejects := some ⟨1, none⟩ } }
  | some w =>
    if w.count < 100 then
      let s := s.log 0x8043 .notice srcReg off val w6 detail
      { s with evt := { s.evt with rejects := some ⟨w.count + 1, none⟩ } }
    else
      let f := match w.folded with
        | some x => some x
        | none => some (s.timeNs, off, val, w6, detail % 2 ^ 16)
      { s with evt := { s.evt with rejects := some ⟨w.count + 1, f⟩ } }

/-! ## Error registers (R426) -/

/-- Notes an error in a register of the CH_ERR format: FIRST, MULTI and COUNT. -/
def State.noteErr (s : State) (first multi count : Field) (i code : Nat) : State :=
  let s := if s.fld first i = 0 then s.setFld first code i else s.setFld multi 1 i
  s.bump count i

/-! ## Completions (R314, R321) -/

/-- The ring with a number. -/
def State.ringAt (s : State) (r : Nat) : Ring := Sparse.get (fun _ => Ring.empty) s.rings.ring r

/-- Replaces a ring. -/
def State.setRing (s : State) (r : Nat) (x : Ring) : State :=
  { s with rings := { s.rings with ring := Sparse.set (fun _ => Ring.empty) s.rings.ring r x } }

/-- The CXL mailbox return code of a status (R284; the codes are those of the CXL specification). -/
def Status.mbox : Status → Nat
  | .ok => 0x00
  | .invalid => 0x02
  | .busy => 0x06
  | .notPermitted => 0x07
  | .cancelled => 0x12
  | _ => 0x04

/-- Queues a completion record for the source of a command. The background command of a mailbox ends: its LD's
mailbox is free again, and reports its return code (R284). A fence of an RDMA FLUSH lets its response go, or is answered with NAK remote
operational error (R294). -/
def State.record (s : State) (src : CmdSrc) (st : Status) (param : Nat) (long final : Bool) : State :=
  match src with
  | .ring r tag op irq =>
    let x := s.ringAt r
    s.setRing r { x with recs := x.recs ++ [⟨tag, st, long, final, op, param, x.head, irq && final⟩] }
  | .mailbox p ld op =>
    if final then (s.setLd p ld { s.ldAt p ld with background := none }).emit (.mailbox p ld op st.mbox [param]) else s
  | .rdma q psn =>
    let x := s.qp q
    match x.flushes.find? fun e => e.1 == psn with
    | none => s
    | some e =>
      let done := { x with flushes := x.flushes.filter fun f => f.1 != psn }
      if st ≠ .ok then ((s.setQp q done).bump RDMA_NAK_SENT_CNT_COUNT).emit (.rdma q 3 [psn, 3])
      else if e.2 ≤ 1 then (s.setQp q done).emit (.rdma q 4 [psn])
      else s.setQp q { x with flushes := x.flushes.map fun f => if f.1 = psn then (psn, f.2 - 1) else f }
  | .internal => s

/-- The record of a short operation (R321). -/
def State.complete (s : State) (src : CmdSrc) (st : Status) (param : Nat := 0) : State :=
  s.record src st param false true

/-- The final record of a long operation (R321). -/
def State.completeLong (s : State) (src : CmdSrc) (st : Status) (param : Nat := 0) : State :=
  s.record src st param true true

/-! ## Mode changes (R42, R43) -/

/-- Changes the mode and writes MODE_CHANGE: ERROR into DEGRADED or SAVE, otherwise NOTICE. -/
def State.setMode (s : State) (m : Mode) (t : Trigger) : State :=
  let old := s.mc.mode
  let seq := s.mc.seq + 1
  let sev : Sev := if m = .degraded ∨ m = .save then .error else .notice
  let first := s.regu.serviceAt.isNone && (m == .service || m == .degraded || m == .resync)
  let s := { s with
    mc := { s.mc with mode := m, prev := BitVec.ofNat 4 old.code, seq := seq }
    regu := { s.regu with serviceAt := if first then some s.timeNs else s.regu.serviceAt } }
  ((s.sensorChange 0x100 m.code).stackSensor 0x1000 m.code).log 0x8010 sev srcMode (old.code * 16 + m.code) (t.code + 256 * s.mc.causes.toNat) seq.toNat

/-- Refuses a mode request and writes MODE_REQ_REFUSED (R42). -/
def State.refuseMode (s : State) (target : Nat) (t : Trigger) (st : Status) : State :=
  s.log 0x8011 .notice srcMode (target * 16 + s.mc.mode.code) t.code st.code

/-- The modes that serve CXL.mem (R34). -/
def Mode.serving : Mode → Bool
  | .service | .degraded | .quiescent | .drain | .resync => true
  | _ => false

end Sys2Proof.Machine
end

