-- ==== Sys2Proof/Machine/Operands.lean ====
section
/-!
DEFINITION. Operand forms: how a host address becomes a DPA (R48), a region and an offset (R57), a pool offset, a channel
and a DRAM address (R67, R68, R72 to R74), the set and frame of a cached page (R114), and the element layouts of a tile
(R124).
-/
namespace Sys2Proof.Machine

/-! ## HDM decode (R47, R48) -/

/-- Whether a way count is a power of two. -/
def waysPow2 (ways : Nat) : Bool := ways == 1 || ways == 2 || ways == 4 || ways == 8 || ways == 16

/-- The DPA offset of an HPA offset (R48), for a way count and granularity 2^ig. -/
def hdmOffset (off ways ig : Nat) : Nat :=
  let low := off % 2 ^ ig
  if waysPow2 ways then ((off >>> (ig + ways.log2)) <<< ig) ||| low
  else (((off >>> (ig + (ways / 3).log2)) / 3) <<< ig) ||| low

/-- The DPA base of decoder d of a list of decoders in ascending order: skips and sizes per way of the decoders below d,
and its own skip (R48). -/
def hdmBase : List Hdm → Nat → Nat
  | [], _ => 0
  | h :: _, 0 => h.skip.toNat
  | h :: t, d + 1 => h.skip.toNat + h.size.toNat / h.ways + hdmBase t d

/-- Decoder d of a logical device. -/
def State.hdmAt (s : State) (port ld d : Nat) : Hdm :=
  Sparse.get (fun _ => Hdm.empty) s.rgn.hdm ((16 * port + ld) * 4 + d)

/-- The four decoders of a logical device. -/
def State.hdms (s : State) (port ld : Nat) : List Hdm := (List.range 4).map (s.hdmAt port ld)

/-- Whether a committed decoder decodes at a link version: with 3, 6 or 12 ways only at CXL 3.0 or later (R47). -/
def Hdm.active (h : Hdm) (cxl3 : Bool) : Bool := h.committed && (waysPow2 h.ways || cxl3)

/-- Whether a decoder covers an HPA. -/
def Hdm.hits (h : Hdm) (hpa : Nat) : Bool := h.base.toNat ≤ hpa && hpa < h.base.toNat + h.size.toNat

/-- The DPA of an HPA under the decoders of a logical device; `none`: no committed decoder is hit (R48, R49). -/
def hdmDecode (hs : List Hdm) (cxl3 : Bool) (hpa : Nat) : Option Nat :=
  match hs.findIdx? fun h => h.active cxl3 && h.hits hpa with
  | none => none
  | some d =>
    let h := hs.getD d Hdm.empty
    some ((hdmBase hs d + hdmOffset (hpa - h.base.toNat) h.ways h.ig) % 2 ^ 48)

/-! ## Regions (R57, R66) -/

/-- The region table entry of an index. -/
def State.region (s : State) (i : Nat) : Region := Sparse.get (fun _ => Region.empty) s.rgn.table i

/-- First byte and length in bytes of a region. -/
def Region.start (r : Region) : Nat := r.base.toNat * 2 ^ 21
def Region.bytes (r : Region) : Nat := r.size.toNat * 2 ^ 21

/-- First page and page count of a region. -/
def Region.page0 (r : Region) : Nat := r.base.toNat * 512
def Region.pageCount (r : Region) : Nat := r.size.toNat * 512

/-- Whether a region covers a DPA. -/
def Region.covers (r : Region) (dpa : Nat) : Bool := r.valid && r.start ≤ dpa && dpa < r.start + r.bytes

/-- The valid region that covers a DPA, and its index. -/
def findRegionIn (dpa : Nat) : List (Nat × Region) → Option (Nat × Region)
  | [] => none
  | (i, r) :: t => if r.covers dpa then some (i, r) else findRegionIn dpa t

/-- The committed region of a DPA. -/
def State.regionOf (s : State) (dpa : Nat) : Option (Nat × Region) := findRegionIn dpa s.rgn.table

/-- The owner set with an index; index 0 is the empty set (R60). -/
def State.ownerSet (s : State) (i : Nat) : BitVec 128 := if i = 0 then 0 else Sparse.get (fun _ => 0) s.rgn.sets i

/-- Whether a (port, LD) pair is in a region's owner set (R55). -/
def State.owns (s : State) (r : Region) (port ld : Nat) : Bool := (s.ownerSet r.ownerSet.toNat).getLsbD (16 * port + ld)

/-! ## Pools (R67, R68, R71) -/

/-- Bytes of a pool's grain. -/
def grainBytes (g : Nat) : Nat :=
  match g with | 0 => 256 | 1 => 512 | 2 => 1024 | 3 => 4096 | _ => 65536

/-- The member channels of a pool in ascending order (R67). -/
def poolMembers (set cwA cwB : Nat) : List Nat :=
  match set with
  | 0 => (List.range 4).map (4 * cwA + ·)
  | 1 => (List.range 4).map (4 * min cwA cwB + ·) ++ (List.range 4).map (4 * max cwA cwB + ·)
  | _ => List.range 16

/-- The members of pool p. -/
def State.members (s : State) (p : Nat) : List Nat :=
  poolMembers (s.fld RGN_POOL_CFG_SET p) (s.fld RGN_POOL_CFG_CW_A p) (s.fld RGN_POOL_CFG_CW_B p)

/-- 4 KiB frames of pool p (R67). -/
def State.poolFrames (s : State) (p : Nat) : Nat :=
  s.fld RGN_POOL_BAND_SIZE_GIB p * (s.members p).length * 2 ^ 18

/-- A place in DRAM: channel, channel-local address. -/
structure ChAddr where
  ch : Nat
  addr : Nat
  deriving DecidableEq, Repr

/-- The channel and channel-local address of an offset in a pool given by its members, band base and grain, before any
remap (R68); the member position is the first component. -/
def poolMap (members : List Nat) (bandBase grain o : Nat) : Nat × ChAddr :=
  let chunk := o / grain
  let n := max 1 members.length
  let m := chunk % n
  (m, ⟨members.getD m 0, bandBase + (chunk / n) * grain + o % grain⟩)

/-- The remap slot of pool p that is in use for a member (R71). -/
def State.remapOf (s : State) (p m : Nat) : Option Nat :=
  (List.range 2).find? fun k => s.flag RGN_POOL_REMAP_VALID p k && s.fld RGN_POOL_REMAP_MEMBER p k == m

/-- The channel and channel-local address of an offset in pool p (R68, R71). -/
def State.poolAddr (s : State) (p o : Nat) : ChAddr :=
  let band := s.fld RGN_POOL_BAND_BASE_GIB p * 2 ^ 30
  let (m, a) := poolMap (s.members p) band (grainBytes (s.fld RGN_POOL_CFG_GRAIN p)) o
  match s.remapOf p m with
  | some k => ⟨s.fld RGN_POOL_REMAP_TARGET_CH p k,
      s.fld RGN_POOL_REMAP_TARGET_BASE_GIB p k * 2 ^ 30 + (a.addr - band)⟩
  | none => a

/-! ## The page cache (R113, R114) -/

/-- The set of a page number in a partition of 2^k sets. -/
def cacheSet (p k : Nat) : Nat := (p ^^^ (p >>> k)) % 2 ^ k

/-- The frame of a page in a way of a partition. -/
def State.cacheFrame (s : State) (part page way : Nat) : Nat :=
  s.fld TIER_PART_DATA_FRAME part + cacheSet page (s.fld TIER_PART_CFG_SETS_LOG2 part) * 16 + way

/-- The pool of a region's frames (R57, R113). -/
def State.poolOf (s : State) (r : Region) : Nat :=
  match r.cls with
  | .resident | .scratch => r.place.toNat
  | .cached | .streamed => s.fld TIER_PART_CFG_POOL r.place.toNat

/-- The pool offset of a DPA of a region (R68, R114); for a cached page its way is given. -/
def State.poolOffset (s : State) (r : Region) (dpa way : Nat) : Nat :=
  match r.cls with
  | .resident | .scratch => r.frameBase.toNat * 4096 + (dpa - r.start)
  | .cached | .streamed => s.cacheFrame r.place.toNat (dpa / 4096) way * 4096 + dpa % 4096

/-- Where a DPA of a region lies in DRAM. -/
def State.dramAddr (s : State) (r : Region) (dpa way : Nat) : ChAddr :=
  s.poolAddr (s.poolOf r) (s.poolOffset r dpa way)

/-! ## The frame-to-DRAM map (R72 to R74) -/

/-- Field widths of CH_AMAP. -/
structure Amap where
  clW : Nat
  scW : Nat
  bgW : Nat
  baW : Nat
  colW : Nat
  rkW : Nat
  rowW : Nat
  hash : Bool
  deriving DecidableEq, Repr

/-- CH_AMAP of a channel. -/
def State.amap (s : State) (ch : Nat) : Amap :=
  ⟨s.fld CH_AMAP_CL_W ch, s.fld CH_AMAP_SC_W ch, s.fld CH_AMAP_BG_W ch, s.fld CH_AMAP_BA_W ch, s.fld CH_AMAP_COL_W ch,
   s.fld CH_AMAP_RK_W ch, s.fld CH_AMAP_ROW_W ch, s.flag CH_AMAP_HASH_EN ch⟩

/-- A DRAM address: subchannel, bank group, bank, column address, rank, row. -/
structure DramAddr where
  sub : Nat
  bg : Nat
  bank : Nat
  col : Nat
  rank : Nat
  row : Nat
  deriving DecidableEq, Repr

/-- The DRAM address of a channel-local address (R72 to R74): the line address split from bit 0 upwards, the burst factor
of DDR5 or DDR4 applied to the column, and the bank hash. -/
def Amap.split (a : Amap) (chLocal : Nat) : DramAddr :=
  let l0 := chLocal >>> 6
  let colLo := l0 % 2 ^ a.clW
  let l1 := l0 >>> a.clW
  let sub := l1 % 2 ^ a.scW
  let l2 := l1 >>> a.scW
  let bgF := l2 % 2 ^ a.bgW
  let l3 := l2 >>> a.bgW
  let baF := l3 % 2 ^ a.baW
  let l4 := l3 >>> a.baW
  let colHi := l4 % 2 ^ (a.colW - a.clW)
  let l5 := l4 >>> (a.colW - a.clW)
  let rank := l5 % 2 ^ a.rkW
  let row := (l5 >>> a.rkW) % 2 ^ a.rowW
  let col := ((colHi <<< a.clW) ||| colLo) * (if a.scW = 1 then 16 else 8)
  if a.hash then ⟨sub, bgF ^^^ (row % 2 ^ a.bgW), baF ^^^ ((row >>> a.bgW) % 2 ^ a.baW), col, rank, row⟩
  else ⟨sub, bgF, baF, col, rank, row⟩

/-! ## Tiles (R124) -/

/-- Destination byte offset of element (r, c) of a tile, from the tile's DST_OFFSET. -/
def tileOffset (layout rows cols elem r c : Nat) : Nat :=
  match layout with
  | 0 => (r * cols + c) * elem
  | 1 => (c * rows + r) * elem
  | 2 => let w := 32 / elem; ((c / w) * rows + r) * 32 + (c % w) * elem
  | _ => let w := 64 / elem; ((c / w) * rows + r) * 64 + (c % w) * elem

/-- Source DPA of element (r, c) of a tile. -/
def tileSource (src pitch elem r c : Nat) : Nat := src + r * pitch + c * elem

/-! ## Descriptors (R320, R324) -/

/-- Word k of a descriptor, 2 to 15; an absent word reads 0. -/
def Desc.word (d : Desc) (k : Nat) : Word := d.ops.getD (k - 2) 0

/-- Bits [hi:lo] of word k of a descriptor. -/
def Desc.bits (d : Desc) (k hi lo : Nat) : Nat := ((d.word k).toNat >>> lo) % 2 ^ (hi + 1 - lo)

/-- A DPA split over words k and k + 1: [31:0] in the lower, [47:32] in [15:0] of the upper (R324). -/
def Desc.dpa (d : Desc) (k : Nat) : Nat := (d.word k).toNat + (d.bits (k + 1) 15 0) * 2 ^ 32

/-- The region selector in word 2: `none` when ALL is set (R324). -/
def Desc.selector (d : Desc) (k : Nat := 2) : Option Nat := if d.bits k 31 31 = 1 then none else some (d.bits k 11 0)

/-- The source of a descriptor's completion. -/
def Desc.src (d : Desc) : CmdSrc := .ring d.ring.val d.tag d.opcode.toNat d.irq

end Sys2Proof.Machine
end

