-- ==== Sys2Proof/Machine/LineCode.lean ====
section
/-!
DEFINITION. The waybill and its combination (R179, R183), the Reed-Solomon line codes (R186, R193), the placement of a
codeword's symbols on devices (R187), the waybill mask (R188), and what a decode finds (R189, R190).
-/
namespace Sys2Proof.Machine

/-! ## The waybill (R179, R183) -/

/-- One bit into the reflected CRC-32C register (R179). -/
def crcBit (reg : Word) (b : Bool) : Word :=
  let x := reg ^^^ (if b then 1#32 else 0#32)
  if x.getLsbD 0 then (x >>> 1) ^^^ 0x82F63B78#32 else x >>> 1

/-- One byte into the register, bit 0 first. -/
def crcByte (reg : Word) (b : Nat) : Word := (List.range 8).foldl (fun r i => crcBit r (Nat.testBit b i)) reg

/-- Bytes into the register, byte 0 first. -/
def feed (reg : Word) (bytes : List Nat) : Word := bytes.foldl crcByte reg

/-- n bytes of 0x00 into the register. -/
def zeros (reg : Word) (n : Nat) : Word := n.repeat (fun r => crcByte r 0) reg

/-- Byte k of a line. -/
def lineByte (d : LineData) (k : Nat) : Nat := (d.toNat >>> (8 * k)) % 256

/-- The 64 bytes of a line, byte 0 first. -/
def lineBytes (d : LineData) : List Nat := (List.range 64).map (lineByte d)

/-- The line of up to 64 bytes, byte 0 first. -/
def lineOfBytes (bs : List Nat) : LineData := BitVec.ofNat 512 (bs.foldr (fun b a => b % 256 + 256 * a) 0)

/-- The seed of a line index: DPA[37:6]. -/
def seed (l : Nat) : Word := BitVec.ofNat 32 l

/-- The waybill of a line at line index l (R179). -/
def waybill (l : Nat) (d : LineData) : Word := feed (seed l) (lineBytes d) ^^^ 0xFFFFFFFF#32

/-- Contribution of the bytes `seg` placed at byte offset k of a line (R183). -/
def part (seg : List Nat) (k : Nat) : Word := zeros (feed 0 seg) (64 - k - seg.length)

/-- The waybill of the zero line at line index l (R183). -/
def wbBase (l : Nat) : Word := zeros (seed l) 64 ^^^ 0xFFFFFFFF#32

/-- The waybill of a line assembled from segments at their offsets (R183). -/
def assemble (l : Nat) (segs : List (List Nat × Nat)) : Word := segs.foldl (fun w s => w ^^^ part s.1 s.2) (wbBase l)

/-- The waybill of the same 64 bytes moved from line index lOld to lNew (R183). -/
def reseed (w : Word) (lOld lNew : Nat) : Word := w ^^^ zeros (seed lOld ^^^ seed lNew) 64

/-- The waybill after the bytes `old` at offset k are replaced by `new` (R183). -/
def replaceWb (w : Word) (old new : List Nat) (k : Nat) : Word := w ^^^ part old k ^^^ part new k

/-- The zero line at a line index. -/
def zeroLine (l : Nat) : Line := ⟨0, wbBase l, false⟩

/-- A poisoned line: zero data, no valid waybill (R180). -/
def poisonLine : Line := ⟨0, 0, true⟩

/-- A full line as it enters the controller: its waybill is made over the plaintext (R181). -/
def mkLine (l : Nat) (d : LineData) : Line := ⟨d, waybill l d, false⟩

/-- Whether a line passes its waybill check at a line index; a poisoned line is not checked (R180, R184). -/
def Line.checks (x : Line) (l : Nat) : Bool := x.poison || waybill l x.data == x.wb

/-- Bytes of a line where the byte enables are set, from `new`; elsewhere from `old`. -/
def mergeBytes (old new : LineData) (be : BitVec 64) : LineData :=
  lineOfBytes ((List.range 64).map fun k => if be.getLsbD k then lineByte new k else lineByte old k)

/-- A read-merge-write of a line (R157, R183): the merged line's waybill is formed by replace, byte by byte enabled; a
poisoned line stays poisoned. -/
def mergeLine (x : Line) (new : LineData) (be : BitVec 64) : Line :=
  if x.poison then x
  else
    ⟨mergeBytes x.data new be,
     (List.range 64).foldl (fun w k => if be.getLsbD k then replaceWb w [lineByte x.data k] [lineByte new k] k else w) x.wb,
     false⟩

/-! ## GF(2^16) and the line codes (R186, R193) -/

/-- Multiplication by α in GF(2^16) with x^16 + x^12 + x^3 + x + 1. -/
def gfX (a : BitVec 16) : BitVec 16 := if a.getLsbD 15 then (a <<< 1) ^^^ 0x100B#16 else a <<< 1

/-- Multiplication in GF(2^16). -/
def gfMul (a b : BitVec 16) : BitVec 16 :=
  ((List.range 16).foldl (fun (acc, x) i => (if b.getLsbD i then acc ^^^ x else acc, gfX x)) (0#16, a)).1

/-- α to a power. -/
def gfAlpha (n : Nat) : BitVec 16 := n.repeat gfX 1#16

/-- The product of a polynomial, coefficients from x^0 upwards, with (x − r). -/
def polyMulRoot (p : List (BitVec 16)) (r : BitVec 16) : List (BitVec 16) :=
  List.zipWith (· ^^^ ·) (0#16 :: p) (p.map (gfMul r) ++ [0#16])

/-- The generator polynomial (x − α^0) … (x − α^(n−1)), coefficients from x^0 upwards. -/
def rsGenerator (n : Nat) : List (BitVec 16) := (List.range n).foldl (fun p i => polyMulRoot p (gfAlpha i)) [1#16]

/-- One step of the division by the generator: the remainder register, lowest coefficient first, and a message symbol. -/
def rsStep (g : List (BitVec 16)) (rem : List (BitVec 16)) (m : BitVec 16) : List (BitVec 16) :=
  let fb := m ^^^ rem.getLastD 0
  List.zipWith (fun x gi => x ^^^ gfMul fb gi) (0#16 :: rem.dropLast) g

/-- The n check symbols c_0 to c_(n−1) of the message symbols c_n upwards: the remainder of m(x) · x^n (R186, R193). -/
def rsCheck (n : Nat) (msg : List (BitVec 16)) : List (BitVec 16) :=
  msg.reverse.foldl (rsStep ((rsGenerator n).take n)) (List.replicate n 0#16)

/-- The codeword: check symbols, then message symbols. -/
def rsEncode (n : Nat) (msg : List (BitVec 16)) : List (BitVec 16) := rsCheck n msg ++ msg

/-- The n syndromes of a word: its values at α^0 to α^(n−1). -/
def rsSyndromes (n : Nat) (w : List (BitVec 16)) : List (BitVec 16) :=
  (List.range n).map fun i => w.foldr (fun c acc => c ^^^ gfMul (gfAlpha i) acc) 0#16

/-- The message symbols of a DDR5 subchannel line: the stored waybill and the ciphertext (R187). -/
def ddr5Message (storedWb : Word) (cipher : LineData) : List (BitVec 16) :=
  storedWb.extractLsb' 0 16 :: storedWb.extractLsb' 16 16 ::
    (List.range 32).map fun t => cipher.extractLsb' (16 * t) 16

/-- The DDR5 codeword of a line (R186, R187). -/
def ddr5Codeword (storedWb : Word) (cipher : LineData) : List (BitVec 16) := rsEncode 6 (ddr5Message storedWb cipher)

/-- The DDR4 codeword of a line (R193). -/
def ddr4Codeword (cipher : LineData) : List (BitVec 16) := rsEncode 4 ((List.range 32).map fun t => cipher.extractLsb' (16 * t) 16)

/-- The stored waybill symbols of a poisoned DDR5 line, unmasked (R195). -/
def poisonWaybill : Word := 0x504F4953#32

/-- The DDR5 pattern of a poisoned line (R195). -/
def ddr5Poison : List (BitVec 16) := ddr5Codeword poisonWaybill 0

/-- The DDR4 pattern of a poisoned line: the check symbols of the zero codeword XORed with 0xA55A (R195). -/
def ddr4Poison : List (BitVec 16) := List.replicate 4 0xA55A#16 ++ List.replicate 32 0#16

/-- The device position that holds symbol s (R187, R193). -/
def symbolDevice (ddr4 : Bool) (s : Nat) : Nat := if ddr4 then s / 2 else s / 4

/-- The lane and beat of bit i of symbol s: bit 4b + l of symbol (per device j) is lane l in beat 4j + b (R187). -/
def symbolLane (ddr4 : Bool) (s i : Nat) : Nat × Nat :=
  let k := if ddr4 then 2 else 4
  (4 * (s / k) + i % 4, 4 * (s % k) + i / 4)

/-! ## The waybill mask (R188) -/

/-- Multiplication by α in GF(2^128) in the byte order of IEEE 1619. -/
def gf128X (a : BitVec 128) : BitVec 128 := if a.getLsbD 127 then (a <<< 1) ^^^ 0x87#128 else a <<< 1

/-- Multiplication in GF(2^128). -/
def gf128Mul (a b : BitVec 128) : BitVec 128 :=
  ((List.range 128).foldl (fun (acc, x) i => (if b.getLsbD i then acc ^^^ x else acc, gf128X x)) (0#128, a)).1

/-- The tweak block of a line index: the index, low byte first. -/
def tweakBlock (l : Nat) : BitVec 128 := BitVec.ofNat 128 l

/-- The waybill mask of a line from its ciphertext blocks and the tweak key (R188). -/
def waybillMask (key2 : BitVec 256) (l : Nat) (c0 c1 c2 c3 : BitVec 128) : Word :=
  let h := (4).repeat gf128X (Config.aesEncrypt key2 (tweakBlock l))
  let h2 := gf128Mul h h
  let h3 := gf128Mul h2 h
  let h4 := gf128Mul h3 h
  (gf128Mul c0 h ^^^ gf128Mul c1 h2 ^^^ gf128Mul c2 h3 ^^^ gf128Mul c3 h4).extractLsb' 0 32

/-- The waybill as stored: masked by the XTS pipe (R188). -/
def storedWaybill (key2 : BitVec 256) (l : Nat) (wb : Word) (c0 c1 c2 c3 : BitVec 128) : Word :=
  wb ^^^ waybillMask key2 l c0 c1 c2 c3

/-! ## What a decode finds (R189, R190) -/

/-- The outcomes of R189: no error, the marked device erased and no further error, corrected symbols (the device of the
last), located by trial at one device, or uncorrectable. -/
inductive Decode where
  | clean | erased | corrected (device : Nat) | located (device : Nat) | uncorrectable
  deriving DecidableEq, Repr

/-- Classifies the symbols in error of a codeword under the mark of its rank (R189, R190, R193): without a mark up to two
symbols are corrected, and more are located when all of them lie on one device; with a mark, none or one symbol outside
the marked device. -/
def classify (ddr4 : Bool) (mark : Option Nat) (errs : List Nat) : Decode :=
  match mark with
  | none =>
    match errs with
    | [] => .clean
    | e :: t =>
      let dev := symbolDevice ddr4 ((e :: t).getLastD e)
      if errs.length ≤ 2 then .corrected dev
      else if errs.all fun x => symbolDevice ddr4 x == dev then .located dev else .uncorrectable
  | some m =>
    match errs.filter fun x => symbolDevice ddr4 x != m with
    | [] => .erased
    | [e] => .corrected (symbolDevice ddr4 e)
    | _ => .uncorrectable

end Sys2Proof.Machine
end

