-- ==== Sys2Proof/Machine/Queries.lean ====
section
/-!
DEFINITION. Accessors of the units' state, the predicates the chapters share, and the completion of a write or a read
toward whoever waits for it (R76, R294).
-/
namespace Sys2Proof.Machine

/-! ## The twin link -/

/-- The link is UP (R233). -/
def State.twinUp (s : State) : Bool := s.twin.link == .up

/-- The 2 MiB range of a line (R253). -/
def lineRange (l : Nat) : Nat := l / 2 ^ 15

/-- A 2 MiB range holds unplaced writes (R252). -/
def State.rangeUnplaced (s : State) (k : Nat) : Bool :=
  s.twin.bitmap.contains k || s.twin.syncq.any (fun c => lineRange c.line == k) ||
    s.twin.backlog.any (fun c => lineRange c.line == k) ||
    s.twin.queued.any (fun m => m.kind == .data && m.total != 0 && lineRange m.line == k) ||
    s.twin.msgs.any fun m => m.kind == .data && m.total != 0 && lineRange m.line == k

/-- SYNC writes wait for the twin (R64, R248). -/
def State.twinWaits (s : State) : Bool :=
  s.twin.rangeWaits != [] || s.twin.syncq.any (fun c => c.req != .internal) ||
    s.twin.msgs.any fun m => m.copies.any fun c => c.sync && c.req != .internal

/-- What BTT_COPY shows of a region. -/
def State.copyInfo (s : State) (i : Nat) : CopyInfo := Sparse.get (fun _ => CopyInfo.empty) s.twin.copies i

/-- Replaces what BTT_COPY shows of a region. -/
def State.setCopyInfo (s : State) (i : Nat) (x : CopyInfo) : State :=
  { s with twin := { s.twin with copies := Sparse.set (fun _ => CopyInfo.empty) s.twin.copies i x } }

/-- A region is a copy region of the partner (R227). -/
def State.isCopy (s : State) (i : Nat) : Bool := (s.copyInfo i).copy

/-! ## Pages and lines -/

/-- The page directory's entry of a page. -/
def State.page (s : State) (k : Nat) : Page := Sparse.get (fun _ => Page.empty) s.tier.pages k

/-- Replaces the entry of a page. -/
def State.setPage (s : State) (k : Nat) (p : Page) : State :=
  { s with tier := { s.tier with pages := Sparse.set (fun _ => Page.empty) s.tier.pages k p } }

/-- The content of tier 1 at a line index. -/
def State.line (s : State) (l : Nat) : Line := Sparse.get zeroLine s.tier.dram l

/-- The home of a line (R203, R207). -/
def State.homeLine (s : State) (l : Nat) : Line :=
  if s.nand.lost.contains (l / 64) then poisonLine else Sparse.get zeroLine s.nand.home l

/-- The poison list after a line becomes poisoned (R277): source 1 host write, 2 media or rebuild, 3 injected. A full list
takes no entry and sets OVERFLOW. -/
def State.listPoison (s : State) (l src : Nat) : State :=
  let src := if s.ports.injected.contains l then 3 else src
  if s.ports.poison.any fun e => e.1 == l then s
  else if s.ports.poison.length < 65536 then
    { s with ports := { s.ports with poison := Sparse.set (fun _ => 0) s.ports.poison l src } }
  else s.setFld PRT_POISON_LIST_OVERFLOW 1

/-- Stores a line in tier 1 and keeps the poison list (R277). -/
def State.setLine (s : State) (l : Nat) (x : Line) (src : Nat := 2) : State :=
  let s := { s with tier := { s.tier with dram := Sparse.set zeroLine s.tier.dram l x } }
  if x.poison then s.listPoison l src
  else { s with ports := { s.ports with poison := s.ports.poison.filter fun e => e.1 != l,
                                        injected := s.ports.injected.filter fun k => k != l } }

/-- Programs a line home. -/
def State.setHome (s : State) (l : Nat) (x : Line) : State :=
  { s with nand := { s.nand with home := Sparse.set zeroLine s.nand.home l x } }

/-- The home page holds no data: it is TRIMMED (R207). -/
def State.trimmed (s : State) (k : Nat) : Bool :=
  ! (s.nand.map.any fun e => e.1 == k) && ! s.nand.lost.contains k

/-- The lines of a page. -/
def pageLines (k : Nat) : List Nat := (List.range 64).map fun i => 64 * k + i

/-- A pending image holds a page, or line records of it (R102). -/
def Image.holds (x : Image) (k : Nat) : Bool := x.st == .pending && (x.pages.contains k || x.recs.any fun r => r.1 / 64 == k)

/-- The image that holds a page, pending (R102): false image A, true image B; the newer one when both hold it. -/
def State.imageOf (s : State) (k : Nat) : Option Bool :=
  let inA := s.per.imageA.holds k
  let inB := s.per.imageB.holds k
  if inA && inB then some (serialGe s.per.imageB.seq s.per.imageA.seq)
  else if inA then some false else if inB then some true else none

/-- A save image. -/
def State.image (s : State) (b : Bool) : Image := if b then s.per.imageB else s.per.imageA

/-- Replaces a save image. -/
def State.setImage (s : State) (b : Bool) (x : Image) : State :=
  if b then { s with per := { s.per with imageB := x } } else { s with per := { s.per with imageA := x } }

/-- A line as a pending image holds it: its line record, else the line of its page (R102). -/
def Image.lineAt (x : Image) (l : Nat) : Option Line :=
  if x.st ≠ .pending then none
  else match x.recs.find? fun r => r.1 == l with
    | some r => some r.2
    | none => if x.pages.contains (l / 64) then some (Sparse.get zeroLine x.lines l) else none

/-- The stored content of a page outside DRAM: in a pending image, the newer first, else in its home. -/
def State.storedLine (s : State) (l : Nat) : Line :=
  let (x, y) := if serialGe s.per.imageB.seq s.per.imageA.seq then (s.per.imageB, s.per.imageA) else (s.per.imageA, s.per.imageB)
  (((x.lineAt l).orElse fun _ => y.lineAt l)).getD (s.homeLine l)

/-- The latest content of a line of a region, wherever it lies. -/
def State.latest (s : State) (l : Nat) : Line :=
  let pg := s.page (l / 64)
  match pg.st with
  | .invalid => s.storedLine l
  | .filling => if pg.mask.getLsbD (l % 64) then s.line l else s.storedLine l
  | _ => s.line l

/-- Pages of a region that count in the accountant (R57, R80). -/
def State.dirtyPagesOf (s : State) (r : Region) : Nat :=
  s.tier.pages.countP fun e => decide (r.page0 ≤ e.1) && decide (e.1 < r.page0 + r.pageCount) &&
    (e.2.st == .dirty || e.2.st == .writingBack)

/-- The at-risk count (R80). -/
def State.atRisk (s : State) : Nat := s.tier.pages.countP fun e => e.2.counted

/-- Persistent writes are written through: the guard is UNARMED, or the mode is DRAIN (R77, R34). -/
def State.writesThrough (s : State) : Bool := s.per.guard == .unarmed || s.mc.mode == .drain

/-- The control complex releases outputs: the mode powers it, and no gap of R377 runs. -/
def State.ccRuns (s : State) : Bool := s.mc.mode != .off && s.mc.mode != .standby && s.cc.gap == .none

/-- The endpoint has no room for a further request of the BMC (R480): the code for "not ready", or BUSY of a vendor command. -/
def State.notReady (s : State) : ReqFrom → State
  | .mgmt bus type cmd => s.emit (.mgmt bus type cmd (if type = 0x7F then Status.busy.code else 0x04) [])
  | _ => s

/-- A request that firmware answers: `k` is its effect. In a gap it waits in its endpoint's buffer, and later ones wait behind it (R377); the
buffer of the management endpoint holds eight (R480). A halted complex and a mode that does not power it give no answer (R384, R481). -/
def State.request (s : State) (from_ : ReqFrom) (c : Instr) (k : State → State) : State :=
  if s.ccRuns ∧ s.buffered.isEmpty then k s
  else if s.mc.mode = .off ∨ s.mc.mode = .standby ∨ s.cc.gap = .halted ∨ s.cc.gap = .dead then s
  else if from_.managed ∧ 8 ≤ s.buffered.countP (fun h => h.1.managed) then s.notReady from_
  else { s with buffered := s.buffered ++ [(from_, c)] }

/-- Packets of a remote COPY item have been sent (R328). -/
def State.opStarted (s : State) (o : LongOp) : Bool :=
  match o.kind with
  | .copyRemote q _ => (s.qp q).items.any fun it => it.slot == o.slot && it.kind != .gate && it.started
  | _ => false

/-- The pins a stream holds on a page (OP_QUERY). -/
def State.streamPins (s : State) (stream k : Nat) : Nat :=
  if stream = 255 then (if (s.page k).pin255 then 1 else 0)
  else match s.tier.streams.find? fun x => x.number == stream with
    | some x => x.pins.countP fun p => p.2 == k
    | none => 0

/-! ## Completion of reads and writes -/

/-- Everyone who waits for a read or a write, once per request. -/
def State.waiters (s : State) : List Requester :=
  (s.tier.reads.map PendingRead.req ++ s.tier.wayWrites.map AdmWrite.req ++ s.per.adm.map AdmWrite.req ++
    s.per.wts.flatMap WriteThrough.waiters ++ (s.chans.flatMap fun c => (c.2.held ++ c.2.twinReads).map PendingRead.req) ++
    s.twin.rangeWaits.map (fun w => w.2.2) ++ s.twin.syncq.map TwinCopy.req ++ s.twin.backlog.map TwinCopy.req ++
    (s.twin.queued ++ s.twin.msgs).flatMap fun m => m.copies.map TwinCopy.req).eraseDups

/-- Transaction entries in use on a link (R268). -/
def State.entriesUsed (s : State) (p l : Nat) : Nat :=
  s.waiters.countP fun r => match r with
    | .host p' ld _ => p' == p && s.ldLink p ld == l
    | _ => false

/-- Transaction entries of a link (R260). -/
def State.entriesMax (s : State) (p : Nat) : Nat := 1536 / bifurLinks (s.bifur p)

/-- The admission queue of a carriageway is full (R82). -/
def State.admFull (s : State) (cw : Nat) : Bool := decide (768 ≤ s.per.adm.countP fun a => a.cw == cw)

/-- DevLoad of a link (R269). -/
def State.devLoad (s : State) (p l : Nat) : Nat :=
  let pct := s.entriesUsed p l * 100
  let n := s.entriesMax p
  if s.admFull (p / 2) || decide (n * s.fld PRT_DEVLOAD_SEV_PCT p ≤ pct) then 3
  else if n * s.fld PRT_DEVLOAD_MOD_PCT p ≤ pct then 2
  else if n * s.fld PRT_DEVLOAD_OPT_PCT p ≤ pct then 1 else 0

/-- The data of a read goes to its host; a link that has gone down since gets none (R196, R271). -/
def State.answerRead (s : State) (req : Requester) (l : Nat) (x : Line) : State :=
  match req with
  | .host p ld _ =>
    let k := s.ldLink p ld
    if (s.linkAt p k).up then s.emit (.readData req l (if x.poison then 0 else x.data) x.poison (s.devLoad p k)) else s
  | _ => s

/-- Renames the requesters of accepted writes, wherever they wait. -/
def State.renameWriters (s : State) (off : Requester → Requester) : State :=
  let adm (w : AdmWrite) : AdmWrite := { w with req := off w.req }
  let copy (c : TwinCopy) : TwinCopy := { c with req := off c.req }
  let msg (m : OutMsg) : OutMsg := { m with copies := m.copies.map copy }
  let fence (f : Fence) : Fence := { f with writes := f.writes.map off }
  let chan (c : Channel) : Channel := { c with merges := c.merges.map fun (m : Merge) => { m with req := off m.req } }
  { s with
    tier := { s.tier with wayWrites := s.tier.wayWrites.map adm }
    per := { s.per with
      adm := s.per.adm.map adm, wts := s.per.wts.map fun (w : WriteThrough) => { w with waiters := w.waiters.map off }
      fences := s.per.fences.map fence, gpf := s.per.gpf.map fun (g : Nat × Nat × Fence) => (g.1, g.2.1, fence g.2.2) }
    chans := s.chans.map fun (c : Nat × Channel) => (c.1, chan c.2)
    twin := { s.twin with
      syncq := s.twin.syncq.map copy, backlog := s.twin.backlog.map copy, queued := s.twin.queued.map msg, msgs := s.twin.msgs.map msg
      rangeWaits := s.twin.rangeWaits.map (fun (w : Nat × Nat × Requester) => (w.1, w.2.1, off w.2.2)) } }

/-- The writes of a long operation that ends while some of them wait go on without it: its handle slot may be used again (R325). -/
def State.detachOp (s : State) (k : Nat) : State :=
  s.renameWriters fun r => match r with
    | .op k' l => if k' = k then .op (k + 1024) l else r
    | _ => r

/-! ## The spill pool (R331) -/

/-- Chunks of 64 KiB that a queue holds: of its items beyond those on chip, 15 words to a line and 1,024 lines to a chunk. -/
def spillOf (items onChip words : Nat) : Nat := (((items - onChip) * words + 14) / 15 + 1023) / 1024

/-- Chunks a queue holds, by its kind and instance as in SQ_SEL. -/
def State.spillChunksOf (s : State) (kind inst : Nat) : Nat :=
  match kind with
  | 1 => spillOf (Sparse.get (fun _ => Ring.empty) s.rings.ring inst).queue.length 64 16
  | 3 => spillOf (s.qp inst).items.length 8 (Config.itemWords 3)
  | 4 => spillOf s.twin.backlog.length 2048 (Config.itemWords 4)
  | _ => 0

/-- SPILL_POOL.USED. -/
def State.spillUsed (s : State) : Nat :=
  (s.rings.ring.map fun e => s.spillChunksOf 1 e.1).sum + (s.rdma.qps.map fun e => s.spillChunksOf 3 e.1).sum + s.spillChunksOf 4 0

/-- Chunks of 64 KiB of the spill pool, 2 GiB in all (R331). -/
def spillChunks : Nat := 32768

/-- After a push of a spill queue: PEAK follows USED, and TORN of the queue falls (R331, R334). -/
def State.spillPushed (s : State) (id : Nat) : State :=
  { s with rings := { s.rings with poolPeak := max s.rings.poolPeak s.spillUsed, sqTorn := s.rings.sqTorn.filter fun q => q != id } }

/-- A refused push: SPILL_POOL_FULL, at most once per second (R331, R336). -/
def State.spillRefused (s : State) (q : Nat) : State := s.logLim 0xA006 0 .notice srcSpill (q, s.spillUsed, 0, 0) id

/-- A work item ends with a status: the final record of its long operation, or of the gate (R300, R303, R304). -/
def State.endItem (s : State) (it : QpItem) (st : Status) : State :=
  if it.kind = .gate then s.complete it.src st
  else match s.rings.ops.find? fun o => o.slot == it.slot with
    | some o =>
      let s := ({ s with rings := { s.rings with ops := s.rings.ops.filter fun y => y.slot != o.slot } }).detachOp o.slot
      let s := s.completeLong o.src st o.done
      (o.cancelBy ++ o.suspendBy).foldl (fun s c => s.complete c .conflict) s
    | none => s

/-- A queue pair stops: it drops its requests, and every queued item completes with CANCELLED, but for one with a status of its own,
given by its place in the queue (R292, R302). -/
def State.stopQp (s : State) (q : Nat) (st : QpState) (bad : Option (Nat × Status)) : State :=
  let x := s.qp q
  let s := s.setQp q { x with st := st, items := [], open_ := none, pend := [], flushes := [], reads := [] }
  x.items.zipIdx.foldl (fun s e => s.endItem e.1 (match bad with
    | some (i, st) => if i = e.2 then st else .cancelled
    | none => .cancelled)) s

/-- A queue pair enters ERROR: the record, and its items end (R292, R302). -/
def State.qpError (s : State) (q cause psn : Nat) (bad : Option (Nat × Status)) : State :=
  (s.log 0x4040 .error srcRdma (0x400 + q) cause psn).stopQp q .error bad

/-- Sends an RDMA packet: kinds 0 ACK, 1 READ response, 2 atomic response, 3 NAK, 4 FLUSH response, 5 WRITE, 6 READ request,
7 FLUSH request, 8 CNP. -/
def State.rdmaSend (s : State) (q kind : Nat) (fields : List Nat) : State := s.emit (.rdma q kind fields)

/-- A NAK, counted; syndromes 1 invalid request, 2 remote access error, 3 remote operational error (R293, R298). -/
def State.rdmaNak (s : State) (q psn syndrome : Nat) : State :=
  (s.bump RDMA_NAK_SENT_CNT_COUNT).rdmaSend q 3 [psn, syndrome]

/-- Data of a read reaches whoever waits for it; the PSN of an RDMA requester is that of the packet that carries the line. A poisoned line of an RDMA read is a NAK, and the queue pair enters ERROR
with cause 5 (R196, R298). -/
def State.deliver (s : State) (req : Requester) (l : Nat) (x : Line) : State :=
  match req with
  | .rdma q psn _ =>
    let y := s.qp q
    if y.st != .rts then s
    else if x.poison then (s.rdmaNak q psn 3).qpError q 5 psn none
    else
      let age (e : Nat × Nat) : Nat := (psn + 2 ^ 24 - e.1) % 2 ^ 24
      let near := (y.reads.map age).foldl min (2 ^ 24)
      let dec (e : Nat × Nat) : Nat × Nat := if age e = near then (e.1, e.2 - 1) else e
      (s.setQp q { y with reads := (y.reads.map dec).filter fun e => e.2 != 0 }).rdmaSend q 1 [psn, l, x.data.toNat]
  | .host _ _ _ => s.answerRead req l x
  | .op k _ =>
    let got (o : LongOp) : LongOp := if o.slot = k ∧ o.wait = some (l, none) then { o with wait := some (l, some x) } else o
    { s with rings := { s.rings with ops := s.rings.ops.map got } }
  | _ => s

/-- Message numbers of a stream that are complete beyond its base let the base advance (R242). -/
def advanceBase (done : List (Nat × Nat)) (st : Nat) : Nat → Nat → Nat
  | 0, b => b
  | n + 1, b => if done.contains (st, b) then advanceBase done st n (b + 1) else b

/-- The window base of a stream (R242). -/
def State.rxBase (s : State) (st : Nat) : Nat := Sparse.get (fun _ => 1) s.twin.rxBase st

/-- PLACED_SEQ of a stream: the highest message up to which every message is placed (R243). -/
def State.placedSeq (s : State) (st : Nat) : Nat :=
  ((s.twin.rxPend.filter fun e => e.1 == st && e.2.2 != 0).map fun e => e.2.1).foldl (fun m q => min m (q - 1)) (s.rxBase st - 1)

/-- SACK of a stream: bit k for message CUM_SEQ + 2 + k (R236). -/
def State.sack (s : State) (st : Nat) : Nat :=
  (List.range 32).foldl (fun a k => if s.twin.rxDone.contains (st, s.rxBase st + 1 + k) then a + 2 ^ k else a) 0

/-- HOLES of a stream: the groups of 64 lines of the message at the base that lack a line (R236). -/
def State.holes (s : State) (st : Nat) : Nat :=
  match s.twin.inMsgs.find? fun m => m.stream == st && m.seq == s.rxBase st with
  | none => 0
  | some m => (List.range 16).foldl (fun a k =>
      if (List.range 64).any fun j => decide (64 * k + j < m.total) && ! m.mask.contains (64 * k + j) then a + 2 ^ k else a) 0

/-- Sends an ACK for a stream (R243): path, then CUM_SEQ, PLACED_SEQ, SACK and HOLES. -/
def State.bttAck (s : State) (path st : Nat) : State :=
  { (s.emit (.btt path 2 [st, s.rxBase st - 1, s.placedSeq st, s.sack st, s.holes st])) with
    twin := { s.twin with pktCtr := s.twin.pktCtr + 1 } }

/-- Sends the ACK a satisfied FLUSH asks for (R246). -/
def State.bttFlushed (s : State) (st : Nat) : State :=
  let p := s.placedSeq st
  if s.twin.rxFlush.any fun f => f.1 == st && decide (f.2 ≤ p) then
    ({ s with twin := { s.twin with rxFlush := s.twin.rxFlush.filter fun f => ! (f.1 == st && decide (f.2 ≤ p)) } }).bttAck
      ((List.range 4).find? (fun k => s.twin.pathsUp.getLsbD k) |>.getD 0) st
  else s

/-- Removes a writer from every place where it waits for its completion. -/
def State.unwait (s : State) (req : Requester) : State :=
  let strip (c : TwinCopy) : TwinCopy := if c.req = req then { c with req := .internal } else c
  { s with
    per := { s.per with wts := s.per.wts.map fun w => { w with waiters := w.waiters.filter fun r => r != req } }
    twin := { s.twin with
      syncq := s.twin.syncq.map strip
      rangeWaits := s.twin.rangeWaits.filter fun w => w.2.2 != req
      queued := s.twin.queued.map fun m => { m with copies := m.copies.map strip }
      msgs := s.twin.msgs.map fun m => { m with copies := m.copies.map strip } } }

/-- Packets at the front whose lines are all complete leave: the last of a WRITE message is acknowledged, an atomic responds with the
original value (R294). Acknowledgements go out in PSN order. -/
def State.answerPend (s : State) (q : Nat) : State :=
  let x := s.qp q
  let done := x.pend.takeWhile fun e => e.left == 0
  let s := s.setQp q { x with pend := x.pend.drop done.length }
  done.foldl (fun s e => match e.orig with
    | some v => s.rdmaSend q 2 [e.psn, v.toNat]
    | none => if e.last then s.rdmaSend q 0 [e.psn] else s) s

/-- A write completes toward whoever sent it (R76 to R78, R294): a host gets its completion, an RDMA message its
acknowledgement once every line of it is complete, a long operation counts a line, a received message of the twin is placed
once every line of it is. -/
def State.finishWrite (s : State) (req : Requester) : State :=
  let s := s.unwait req
  match req with
  | .internal => s
  | .host p ld _ => if (s.linkAt p (s.ldLink p ld)).up then s.emit (.writeDone req (s.devLoad p (s.ldLink p ld))) else s
  | .op k _ =>
    { s with rings := { s.rings with ops := s.rings.ops.map fun o => if o.slot = k then { o with done := o.done + 1 } else o } }
  | .btt st m _ =>
    let dec (e : Nat × Nat × Nat) : Nat × Nat × Nat := if e.1 = st ∧ e.2.1 = m then (e.1, e.2.1, e.2.2 - 1) else e
    ({ s with twin := { s.twin with
      rxPend := (s.twin.rxPend.map dec).filter (fun e => e.2.2 != 0), rxDirty := true } }).bttFlushed st
  | .rdma q psn _ =>
    let x := s.qp q
    let dec (e : QpPend) : QpPend := if e.psn = psn then { e with left := e.left - 1 } else e
    (s.setQp q { x with pend := x.pend.map dec }).answerPend q

/-- A mirrored write completes locally (R230, R248): at once in ARMED and THIN; a write that is written through completes
with its program. -/
def State.finishLocal (s : State) (req : Requester) : State :=
  if s.per.wts.any fun w => w.waiters.contains req then s else s.finishWrite req

end Sys2Proof.Machine
end

