-- ==== Sys2Proof/Machine/Flags.lean ====
section
/-!
DEFINITION. The flags the controller computes: the degradation causes and the mode they ask for (R30, R31), the guard causes
and STALL_RISK (R85, R89), and the RESULT of mode requests (R539).
-/
namespace Sys2Proof.Machine

/-- A region is mirrored (R30). -/
def State.anyMirrored (s : State) : Bool := s.rgn.table.any fun e => e.2.valid && e.2.mirror != .none

/-- Twin catch-up is pending: a bit of the dirty bitmap is set, or the final FLUSH of RESYNC is not yet placed (R253,
R254). -/
def State.catchUp (s : State) : Bool := s.twin.bitmap != [] || s.twin.resync.any fun r => r.final

/-- The degradation causes present, bit 0 being bit 8 of GLB_MODE (R30, R44). -/
def State.causesNow (s : State) : BitVec 5 :=
  let bit (k : Nat) (b : Bool) : BitVec 5 := if b then BitVec.ofNat 5 (2 ^ k) else 0
  bit 0 ((List.range 16).any fun n => (s.ch n).st == .closed) |||
  bit 1 (!s.twinUp && s.anyMirrored) |||
  bit 2 (s.per.guard == .unarmed) |||
  bit 3 (s.rgn.table.any fun e => e.2.valid && e.2.damaged) |||
  bit 4 s.catchUp

/-- The mode the causes ask for (R30): DEGRADED while a cause other than catch-up is present, RESYNC while it is the only
one, otherwise SERVICE. -/
def modeOf (c : BitVec 5) : Mode :=
  if c &&& 0xF#5 ≠ 0 then .degraded else if c ≠ 0 then .resync else .service

/-- Takes the causes present into GLB_MODE.DEG_CAUSE, and in a mode they govern changes the mode under R30 and R31.
QUIESCENT stays while no cause is present. -/
def State.reeval (s : State) (t : Trigger) : State :=
  let c := s.causesNow
  let s := { s with mc := { s.mc with causes := c } }
  match s.mc.mode with
  | .service | .degraded | .resync => if modeOf c = s.mc.mode then s else s.setMode (modeOf c) t
  | .quiescent => if c = 0 then s else s.setMode (modeOf c) t
  | _ => s

/-- Enters SERVICE, DEGRADED or RESYNC by the causes present (R31). -/
def State.enterService (s : State) (t : Trigger) : State :=
  let c := s.causesNow
  ({ s with mc := { s.mc with causes := c } }).setMode (modeOf c) t

/-- Activity ends QUIESCENT at once (R41, R31). -/
def State.activity (s : State) : State :=
  if s.mc.mode = .quiescent then s.enterService .activity else s

end Sys2Proof.Machine
end

