-- ==== Sys2Proof/Machine/TwinOps.lean ====
section
/-!
DEFINITION. Operations on the twin-transport engine the other units call: the dirty bitmap (R253), the hand-off of write
copies (R26 stage 5, R229, R230), messages and their sending (R236 to R241), copies of regions (R228), and what happens when
the link leaves UP (R230, R233, R247).
-/
namespace Sys2Proof.Machine

/-- Inserts a number into an ascending list without repeats. -/
def insertAsc (k : Nat) : List Nat → List Nat
  | [] => [k]
  | x :: t => if k < x then k :: x :: t else if k = x then x :: t else x :: insertAsc k t

/-! ## The dirty bitmap (R253) -/

/-- The 2 MiB ranges of a region. -/
def Region.ranges (r : Region) : List Nat := (List.range r.size.toNat).map fun i => r.base.toNat + i

/-- Fences that wait for a copy wait for its range instead, once the copy is dropped for the bitmap (R247). -/
def State.fenceRange (s : State) (cs : List TwinCopy) : State :=
  let one (f : Fence) (c : TwinCopy) : Fence :=
    if f.lines.contains c.id then { f with lines := f.lines.filter (fun i => i != c.id), pages := insertAsc (lineRange c.line) f.pages }
    else f
  { s with per := { s.per with fences := s.per.fences.map fun f => cs.foldl one f } }

/-- Copies that still wait for a range whose bit is set are not sent, because the range will be sent whole (R253): their writers and
the fences wait for the range, and a SYNC write moves it to the head of RESYNC (R230). -/
def State.absorbCopies (s : State) (ks : List Nat) : State :=
  let mine (c : TwinCopy) : Bool := ks.contains (lineRange c.line)
  let cs := (s.twin.syncq ++ s.twin.backlog).filter mine
  let s := s.fenceRange cs
  let front := ((cs.filter TwinCopy.sync).map fun c => lineRange c.line).eraseDups.filter fun k => ! s.twin.head.contains k
  { s with twin := { s.twin with
      syncq := s.twin.syncq.filter fun c => ! mine c
      backlog := s.twin.backlog.filter fun c => ! mine c
      head := s.twin.head ++ front
      rangeWaits := s.twin.rangeWaits ++ (cs.filter fun c => c.req != .internal).map fun c => (lineRange c.line, c.start, c.req) } }

/-- RESYNC of a range is given up: the range is sent again from the start (R254). -/
def State.restartRange (s : State) (ks : List Nat) : State :=
  match s.twin.resync with
  | none => s
  | some r =>
    if r.range.any fun k => ks.contains k then
      let off (m : OutMsg) : OutMsg := { m with range := none }
      { s with twin := { s.twin with resync := some { r with range := none }, msgs := s.twin.msgs.map off, queued := s.twin.queued.map off } }
    else s

/-- Sets the bits of a list of ranges; twin catch-up is then pending. -/
def State.setDirties (s : State) (ks : List Nat) : State :=
  let s := { s with twin := { s.twin with bitmap := ks.foldl (fun b k => insertAsc k b) s.twin.bitmap } }
  ((s.restartRange ks).absorbCopies ks).reeval .cause

/-- Sets the bit of a 2 MiB range. -/
def State.setDirty (s : State) (k : Nat) : State := s.setDirties [k]

/-- Drops copies for the dirty bitmap: their ranges are set, fences follow the ranges, and SYNC writes that waited on them
complete locally (R230, R244, R248, R249). -/
def State.dropCopies (s : State) (cs : List TwinCopy) : State :=
  let s := s.fenceRange cs
  let s := s.setDirties (cs.map fun c => lineRange c.line)
  cs.foldl (fun s c => if c.req = .internal then s else s.finishLocal c.req) s

/-! ## The line-conflict filter (R245) -/

/-- A message on the link: sent and not yet covered by an ACK. -/
def OutMsg.onLink (m : OutMsg) : Bool := m.kind == .data && ! m.acked

/-- The range is being sent by RESYNC: copies of writes to it wait in the filter (R254). -/
def State.inResync (s : State) (k : Nat) : Bool := s.twin.resync.any fun r => r.range == some k

/-- A line is held by the filter: a convoy on the link has it, or its range is in RESYNC. -/
def State.held (s : State) (l : Nat) : Bool :=
  s.inResync (lineRange l) || s.twin.msgs.any fun m => m.onLink && decide (m.line ≤ l) && decide (l < m.line + m.total)

/-! ## Hand-off of copies (R26 stage 5, R229, R230, R245) -/

/-- Hands a write of a mirrored region to the twin-transport engine. The result says whether the write waits for the twin
(SYNC). With the link not UP the range is set; with its bit set the copy is not sent, and a SYNC write moves the range to the head of
RESYNC. A STOPPED link lets copies wait (R362). A later copy of a line replaces one that still waits. -/
def State.handOff (s : State) (r : Region) (req : Requester) (l : Nat) (x : Line) (be : Option (BitVec 64)) : Bool × State :=
  let k := lineRange l
  let sync := r.mirror == .sync
  if r.mirror = .none then (false, s)
  else if ! (s.twinUp || s.twin.link == .stopped) then (false, s.setDirty k)
  else if s.twin.bitmap.contains k && ! s.inResync k then
    if sync then
      (true, { s with twin := { s.twin with head := if s.twin.head.contains k then s.twin.head else s.twin.head ++ [k],
                                            rangeWaits := s.twin.rangeWaits ++ [(k, s.timeNs, req)] } })
    else (false, s)
  else
    let c : TwinCopy := ⟨s.twin.copyCtr, l, x, be, sync, if sync || s.writesThrough then req else .internal, s.timeNs⟩
    let s := { s with twin := { s.twin with copyCtr := s.twin.copyCtr + 1 } }
    let s := if s.held l then s.bump BTT_FILTER_HOLD_CNT_COUNT else s
    if sync then (true, { s with twin := { s.twin with syncq := s.twin.syncq ++ [c] } })
    else
      let old := s.twin.backlog.filter fun o => o.line == l && be.isNone
      let ids := old.map TwinCopy.id
      let swap (f : Fence) : Fence :=
        if f.lines.any (fun i => ids.contains i) then { f with lines := (f.lines.filter fun i => ! ids.contains i) ++ [c.id] } else f
      let s := { s with twin := { s.twin with backlog := (s.twin.backlog.filter fun (o : TwinCopy) => !(o.line == l && be.isNone)) ++ [c] },
                        per := { s.per with fences := s.per.fences.map swap } }
      (false, s.spillPushed 0x40000)

/-! ## Messages (R236 to R241) -/

/-- The next MSG_SEQ of a stream (R237). -/
def State.txSeq (s : State) (st : Nat) : Nat := Sparse.get (fun _ => 1) s.twin.txSeq st

/-- The stream of a class and a line: 4 × class + DPA[22:21] (R237). -/
def streamOf (cls l : Nat) : Nat := 4 * cls + lineRange l % 4

/-- Queues a message and takes its number. -/
def State.queueMsg (s : State) (st : Nat) (kind : MsgKind) (line total : Nat) (lines : List Line) (be : Option (BitVec 64))
    (copies : List TwinCopy) (flush : Bool) (range : Option Nat) (ctrl : List Nat) : State :=
  let n := s.txSeq st
  let m : OutMsg := ⟨st, n, kind, line, total, lines, be, copies, flush, 0, 0, none, false, range, ctrl⟩
  { s with twin := { s.twin with queued := s.twin.queued ++ [m], txSeq := Sparse.set (fun _ => 1) s.twin.txSeq st (n + 1) } }

/-- Queues a CTRL message: its words, kind first (R236, R240); always on stream 12. -/
def State.queueCtrl (s : State) (ws : List Nat) : State :=
  s.queueMsg 12 .ctrl 0 ((ws.length + 15) / 16) [] none [] false none ws

/-- Bytes of PKT_MAX of a code. -/
def pktBytes (c : Nat) : Nat := if c = 0 then 1024 else if c = 1 then 2048 else 4096

/-- The link's packet size in lines: the smallest PKT_MAX of the paths with VALID = 1 (R232, R238). -/
def State.pktLines (s : State) : Nat :=
  ((List.range 4).filter fun p => s.flag BTT_PATH_CFG_VALID p).foldl (fun m p => min m (pktBytes (s.fld BTT_PATH_CFG_PKT_MAX p) / 64)) 64

/-- The packets a message is cut into: offset and count of lines, or of 64-byte units for CTRL; a message without lines is
one packet. -/
def cutPackets (total size : Nat) : List (Nat × Nat) :=
  if total = 0 then [(0, 0)]
  else (List.range ((total + size - 1) / size)).map fun k => (k * size, min size (total - k * size))

/-- Credit left on a path for a class (R241). -/
def State.credit (s : State) (p cls : Nat) : Nat :=
  Sparse.get (fun _ => 0) s.twin.txLimit (4 * p + cls) - Sparse.get (fun _ => 0) s.twin.txUsed (4 * p + cls)

/-- The path the next packet of a class goes to: the UP paths in turn, skipping one without credit; `free`: the packet costs
nothing (R234, R241). -/
def State.pickPath (s : State) (cls : Nat) (free : Bool) : Option Nat :=
  ((List.range 4).map fun k => (s.twin.nextPath + k) % 4).find? fun p =>
    s.twin.pathsUp.getLsbD p && (free || decide (0 < s.credit p cls))

/-- The message kind's packet type (R236). -/
def MsgKind.type : MsgKind → Nat | .data => 1 | .readReq => 5 | .readResp => 6 | .ctrl => 7

/-- Sends packets of a message, each on the next UP path with credit; `none`: a packet finds no path (R238). A RESYNC packet whose lines
are all zero goes as ZERO (R254). -/
def State.sendPackets (s : State) (m : OutMsg) (retx : Bool) : List (Nat × Nat) → Option State
  | [] => some s
  | (o, n) :: t =>
    let cls := m.stream / 4
    let free := m.kind == .readReq
    match s.pickPath cls free with
    | none => none
    | some p =>
      let key := 4 * p + cls
      let used := Sparse.get (fun _ => 0) s.twin.txUsed key
      let body := (m.lines.drop o).take n
      let zero := n != 0 && m.stream / 4 == 2 && body.all fun x => x.data == 0 && ! x.poison
      let body := if zero then [] else body
      let hdr := [m.stream, m.seq, m.line, m.total, o, (if m.flush then 1 else 0) + (if retx then 2 else 0) + (if zero then 4 else 0),
        s.twin.epoch.toNat, s.twin.pktCtr]
      let out := Out.btt p m.kind.type (hdr ++ m.ctrl ++ body.map fun x => if x.poison then 2 ^ 512 else x.data.toNat)
      let s := { s with twin := { s.twin with
        pktCtr := s.twin.pktCtr + 1, nextPath := (p + 1) % 4
        txUsed := if free then s.twin.txUsed else Sparse.set (fun _ => 0) s.twin.txUsed key (used + 1) } }
      (s.emit out).sendPackets m retx t

/-- The packets of a message: only those in reported holes when an ACK has reported them (R244). -/
def State.packetsOf (s : State) (m : OutMsg) : List (Nat × Nat) :=
  if m.kind = .readReq then [(0, 0)]
  else
    let ps := cutPackets m.total s.pktLines
    match m.holes with
    | none => ps
    | some h => ps.filter fun p => (List.range p.2).any fun j => Nat.testBit h ((p.1 + j) / 64)

/-! ## Region copies (R227, R228) -/

/-- The words of COPY_CREATE and COPY_MODIFY: kind, base, size, key index, region index. -/
def copyWords (kind : Nat) (i : Nat) (r : Region) : List Nat := [kind, r.base.toNat, r.size.toNat, r.key.toNat, i]

/-- Tells the twin what a changed region entry means for its copy, and keeps the bitmap (R61, R228, R253). The swap
of a planned promotion moves no data (R256). -/
def State.mirrorChanged (s : State) (i : Nat) (old new : Region) : State :=
  let was := old.valid && old.mirror != .none
  let is := new.valid && new.mirror != .none
  if s.twin.swaps.contains i then { s with twin := { s.twin with swaps := s.twin.swaps.filter fun j => j != i } }
  else if is && ! was then
    let s := s.setDirties new.ranges
    if s.twinUp then s.queueCtrl (copyWords 2 i new) else { s with twin := { s.twin with refused := insertAsc i s.twin.refused } }
  else if was && ! is then
    let gone := old.ranges
    let s := { s with twin := { s.twin with bitmap := s.twin.bitmap.filter fun k => ! gone.contains k,
                                            refused := s.twin.refused.filter fun j => j != i } }
    let waits := s.twin.rangeWaits.filter fun w => gone.contains w.1
    let s := waits.foldl (fun s w => s.finishLocal w.2.2) s
    let s := if s.twinUp then s.queueCtrl (copyWords 4 i old) else s
    s.reeval .cause
  else if is && was then
    let gone := old.ranges.filter fun k => ! new.ranges.contains k
    let s := { s with twin := { s.twin with bitmap := s.twin.bitmap.filter fun k => ! gone.contains k } }
    let added := new.ranges.filter fun k => ! old.ranges.contains k
    let s := if added = [] then s else s.setDirties added
    let s := if (old.size ≠ new.size ∨ old.key ≠ new.key) ∧ s.twinUp then s.queueCtrl (copyWords 3 i new) else s
    s.reeval .cause
  else s

/-! ## Leaving UP (R230, R233, R247, R254) -/

/-- What every change of the link's state writes (R233, R258). -/
def State.setTwinState (s : State) (st : TwinState) (cause : Nat) : State :=
  let old := s.twin.link
  if st = old then s
  else
    let sev : Sev := if st = .absent ∨ st = .stopped ∨ st = .refused then .error else .notice
    ((({ s with twin := { s.twin with link := st } }).sensorChange 0x102 st.code).log 0x3001 sev srcTwin (old.code * 16 + st.code) cause
      s.twin.pathsUp.toNat).reeval .cause

/-- Every ASYNC and SYNC copy not yet placed. -/
def Twin.unplaced (t : Twin) : List TwinCopy :=
  t.syncq ++ t.backlog ++ (t.queued.flatMap OutMsg.copies) ++ t.msgs.flatMap OutMsg.copies

/-- The mirror fences end because the link leaves UP (R247), and planned promotions with them (R256). -/
def State.endMirrorFences (s : State) : State :=
  let mirror (o : LongOp) : Bool := match o.kind with | .fenceMirror _ => true | _ => false
  let ops := s.rings.ops.filter mirror
  let ps := s.twin.promotes
  let rdma := s.per.fences.filter fun f => match f.src with | .rdma _ _ => f.kind == .mirror | _ => false
  let s := { s with
    rings := { s.rings with ops := s.rings.ops.filter fun o => ! mirror o }
    per := { s.per with fences := s.per.fences.filter fun f => f.kind != .mirror }
    twin := { s.twin with promotes := [], demotes := [] } }
  let s := ops.foldl (fun s o => (o.suspendBy ++ o.cancelBy).foldl (fun s c => s.complete c .conflict) (s.completeLong o.src .partnerAbsent 0)) s
  let s := ps.foldl (fun s p => s.complete p.src .partnerAbsent) s
  rdma.foldl (fun s f => s.complete f.src .partnerAbsent) s

/-- The link leaves UP for a state other than STOPPED: copies not placed go to the bitmap, SYNC writes complete locally,
mirror fences complete with PARTNER_ABSENT, RESYNC stops, and messages are dropped. -/
def State.leaveUp (s : State) (st : TwinState) (cause : Nat) : State :=
  if s.twin.link = .up ∨ s.twin.link = .stopped then
    let cs := s.twin.unplaced
    let waits := s.twin.rangeWaits
    let s := { s with twin := { s.twin with syncq := [], backlog := [], queued := [], msgs := [], rangeWaits := [], head := [],
                                            resync := none, advances := [], abandoned := [] } }
    let s := (s.setTwinState st cause).dropCopies cs
    (waits.foldl (fun s w => s.finishLocal w.2.2) s).endMirrorFences
  else s.setTwinState st cause

/-- The link stops because a nonce would repeat or its counter is not trusted (R233, R362): RESYNC stops, mirror fences end, and messages
and copies wait. -/
def State.stopLink (s : State) (why : Nat) : State :=
  let s := s.restartRange (s.twin.resync.bind Resync.range).toList
  let s := { s with twin := { s.twin with resync := none } }
  ((s.log 0x7031 .error srcSec 0 0 why).setTwinState .stopped 4).endMirrorFences

/-- Sends a read of lines to the twin (R251): a READ_REQ on the class 3 stream of the line. -/
def State.twinRead (s : State) (l : Nat) (why : TwinReadFor) : State :=
  if s.twin.reads.any fun t => t.line == l && t.why == why then s
  else
    let s := { s with twin := { s.twin with reads := s.twin.reads ++ [(⟨s.txSeq (streamOf 3 l), l, why⟩ : TwinRead)] } }
    s.queueMsg (streamOf 3 l) .readReq l 1 [] none [] false none []

/-- The twin may serve a line of a region (R167, R171, R185): SYNC, or ASYNC with no unplaced write in its range, with the
link UP. -/
def State.twinServes (s : State) (r : Region) (l : Nat) : Bool :=
  s.twinUp && (r.mirror == .sync || (r.mirror == .async && ! s.rangeUnplaced (lineRange l)))

end Sys2Proof.Machine
end

