-- ==== Sys2Proof/Machine/Keys.lean ====
section
/-!
DEFINITION. Key slots and the key hierarchy: the key check of R352, references to a slot (R354), the derivations of R358, and
the key of a line of a rotating region (R356).
-/
namespace Sys2Proof.Machine

/-- Key slot k. -/
def State.keySlot (s : State) (k : Nat) : KeySlot := Sparse.get (fun _ => KeySlot.empty) s.sec.slots k

/-- Replaces key slot k. -/
def State.setKeySlot (s : State) (k : Nat) (x : KeySlot) : State :=
  { s with sec := { s.sec with slots := Sparse.set (fun _ => KeySlot.empty) s.sec.slots k x } }

/-- The slot is LOADED (R352). -/
def State.keyLoaded (s : State) (k : Nat) : Bool := (s.keySlot k).st == .loaded

/-- A request fails the key check: the count, and KEY_ABSENT_ACCESS at most once per port per millisecond, with the port and
LD, the DPA and the slot (R352, R370). A command of a ring has no port. -/
def State.keyAbsent (s : State) (port : Option (Nat × Nat)) (dpa k : Nat) : State :=
  let s := s.bump SEC_KEY_ABSENT_CNT_COUNT
  let (p, ld) := port.getD (8, 0)
  s.logLim 0x7003 p .notice srcSec (s.portWord p ld, dpa % 2 ^ 32, dpa / 2 ^ 32, k) id

/-- Regions, copy regions and rotations that name a slot (R354). -/
def State.keyRefs (s : State) (k : Nat) : Nat :=
  (s.rgn.table.countP fun e => e.2.valid && e.2.key.toNat == k) +
    s.sec.rotations.countP fun r => r.new == k || (r.old == k)

/-- The rotation of a region. -/
def State.rotationOf (s : State) (i : Nat) : Option Rotation := s.sec.rotations.find? fun r => r.region == i

/-- The key slot a line of a region is encrypted under (R356). -/
def State.lineKey (s : State) (i : Nat) (r : Region) (l : Nat) : Nat :=
  match s.rotationOf i with
  | none => r.key.toNat
  | some t =>
    let step := lineRange l - r.base.toNat
    if step < t.cursor then t.new else if step = t.cursor ∧ t.mask.contains (l % 2 ^ 15) then t.new else t.old

/-- Every slot that lines of a region are encrypted under is LOADED: write-back, fills and RESYNC of the region may go on, since each
checks waybills (R361). -/
def State.keysLoaded (s : State) (i : Nat) (r : Region) : Bool :=
  match s.rotationOf i with
  | none => s.keyLoaded r.key.toNat
  | some t => s.keyLoaded t.old && s.keyLoaded t.new

/-- A host write into the current step of a rotation is encrypted under the new slot and sets the line's bit (R356). -/
def State.rotateLine (s : State) (i : Nat) (r : Region) (l : Nat) : State :=
  match s.rotationOf i with
  | none => s
  | some t =>
    if lineRange l - r.base.toNat = t.cursor ∧ ! t.waiting ∧ ! t.mask.contains (l % 2 ^ 15) then
      { s with sec := { s.sec with rotations := s.sec.rotations.map fun x =>
        if x.region = i then { x with mask := x.mask ++ [l % 2 ^ 15] } else x } }
    else s

/-- A label of R358: its ASCII bytes, zero-padded to 15, followed by the counter byte; the first byte lowest. -/
def labelBlock (label : String) (n : Nat) : BitVec 128 :=
  BitVec.ofNat 128 ((label.toList.foldr (fun c a => c.toNat + 256 * a) 0) % 2 ^ 120 + n * 2 ^ 120)

/-- The key derivation of R358. -/
def derive (k : BitVec 256) (label : String) : BitVec 256 :=
  Config.aesEncrypt k (labelBlock label 1) ++ Config.aesEncrypt k (labelBlock label 2)

/-- The store wrapping key of an HKEK (R358). -/
def storeKey (hkek : BitVec 256) : BitVec 256 := derive (derive Config.dus "STORE" ^^^ hkek) "STORE2"

/-- The check value of an HKEK (R358). -/
def checkValue (hkek : BitVec 256) : BitVec 64 := (Config.aesEncrypt (storeKey hkek) 0).extractLsb' 0 64

/-- The save seal key (R358). -/
def sealKey : BitVec 256 := derive Config.dus "SEAL"

/-- Moves the key store to a state, with its sensor (R359, R486). -/
def State.setStore (s : State) (st : StoreState) : State :=
  ({ s with sec := { s.sec with store := st } }).sensorChange 0x103 st.code

/-- Locks the store: swk leaves, and every slot that holds a stored copy is SEALED (R359, R361). -/
def State.lockStore (s : State) (st : StoreState) : State :=
  let seal_ (e : Nat × KeySlot) : Nat × KeySlot :=
    let st : KeyState := if e.2.stored.isSome then .sealed else .empty
    (e.1, { e.2 with st := st, gen := if st = e.2.st then e.2.gen else e.2.gen + 1, key1 := 0, key2 := 0 })
  ({ s with sec := { s.sec with swk := none, slots := s.sec.slots.map seal_ } }).setStore st

end Sys2Proof.Machine
end

