-- ==== Sys2Proof/Machine/RegionOps.lean ====
section
/-!
DEFINITION. What region commands ask of the other units: capacity events and the CDAT sequence (R275, R283), the range check
of a stack (R470), started plans (R62), save images (R104), and the requests of the older epoch (R64).
-/
namespace Sys2Proof.Machine

/-! ## Capacity events and CDAT (R273 to R275, R282, R283) -/

/-- Sends a capacity event to an LD of a link at CXL 3.0 or later, into its dynamic capacity log: 0 add, 2 forced removal. -/
def State.capacityEvent (s : State) (p ld kind i base size : Nat) : State :=
  if ! (s.ldEnabled p ld && s.linkCxl3 p ld) then s
  else
    let s := (s.pushCxl p ld 4 4 none base size).emit (.dcEvent p ld kind base size)
    let x := s.ldAt p ld
    if kind = 0 then s.setLd p ld { x with adds := x.adds ++ [(i, s.timeNs)] }
    else s.setLd p ld { x with adds := x.adds.filter (fun a => a.1 != i), accepted := x.accepted.filter fun a => a != i }

/-- The LDs of an owner set, as (port, LD). -/
def ownersOf (b : BitVec 128) : List (Nat × Nat) :=
  (List.range 128).filterMap fun k => if b.getLsbD k then some (k / 16, k % 16) else none

/-- The capacity events of a changed entry (R275): removal for LDs that lose the region or its tail, addition for LDs that
gain the region or an added range. -/
def State.extentsChanged (s : State) (i : Nat) (old : Region) (oldSet : BitVec 128) (new : Region) (newSet : BitVec 128) : State :=
  let was := if old.valid then oldSet else 0
  let is := if new.valid then newSet else 0
  let s := (ownersOf (was &&& ~~~is)).foldl (fun s o => s.capacityEvent o.1 o.2 2 i old.start old.bytes) s
  let s := (ownersOf (is &&& ~~~was)).foldl (fun s o => s.capacityEvent o.1 o.2 0 i new.start new.bytes) s
  if old.bytes < new.bytes then
    (ownersOf (is &&& was)).foldl (fun s o => s.capacityEvent o.1 o.2 0 i (old.start + old.bytes) (new.bytes - old.bytes)) s
  else if new.bytes < old.bytes then
    (ownersOf (is &&& was)).foldl (fun s o => s.capacityEvent o.1 o.2 2 i (new.start + new.bytes) (old.bytes - new.bytes)) s
  else s

/-- Keeps GEN at the bind of every LD that gains a region, and drops it of those that lose it (R274). -/
def State.noteBinds (s : State) (i : Nat) (old : Region) (oldSet : BitVec 128) (new : Region) (newSet : BitVec 128) : State :=
  let was := if old.valid then oldSet else 0
  let is := if new.valid then newSet else 0
  let kept := s.rgn.bindGens.filter fun e => e.1 / 128 != i || (was &&& is).getLsbD (e.1 % 128)
  let gained := ((List.range 128).filter fun k => (is &&& ~~~was).getLsbD k).map fun k => (128 * i + k, new.gen.toNat)
  { s with rgn := { s.rgn with bindGens := kept ++ gained } }

/-- Advances the CDAT sequence of an LD and logs it (R283, R288). -/
def State.bumpCdat (s : State) (p ld : Nat) : State :=
  let x := s.ldAt p ld
  (s.setLd p ld { x with cdatSeq := x.cdatSeq + 1 }).log 0x4009 .info (srcPort p) (s.portWord p ld)
    (x.cdatSeq + 1).toNat

/-- Advances the CDAT sequence of every LD of a set of owners. -/
def State.bumpCdats (s : State) (b : BitVec 128) : State := (ownersOf b).foldl (fun s o => s.bumpCdat o.1 o.2) s

/-- The LDs that have a region of a kind bound. -/
def State.boundLds (s : State) (f : Region → Bool) : BitVec 128 :=
  s.rgn.table.foldl (fun b e => if e.2.valid && f e.2 then b ||| s.ownerSet e.2.ownerSet.toNat else b) 0

/-! ## Stacks (R464, R466, R470) -/

/-- The controller runs as a member of a stack. -/
def State.inStack (s : State) : Bool := s.fld GLB_STACK_CFG_SIZE_M1 != 0 && ! s.stk.conflict

/-- The controller is master of its stack, or is in none (R464). -/
def State.isMaster (s : State) : Bool := ! s.inStack || s.stk.master == s.pw.strapStackId.toNat

/-- An election is in progress: no heartbeat for ELECT_MS (R468). -/
def State.electing (s : State) : Bool :=
  ! s.isMaster && decide (s.stk.lastHb + s.fld GLB_STACK_CFG_ELECT_MS * 1000000 ≤ s.timeNs)

/-- The first of the six attributes in which two overlapping ranges differ (R470, R476). -/
def StackRegion.differs (a b : StackRegion) : Option Nat :=
  if a.base ≠ b.base then some 1 else if a.size ≠ b.size then some 2 else if a.cls ≠ b.cls then some 3
  else if a.persist ≠ b.persist then some 4 else if a.mirror ≠ b.mirror then some 5 else if a.key ≠ b.key then some 6 else none

/-- Whether two ranges of DPA, in 2 MiB units, overlap. -/
def overlap (b1 n1 b2 n2 : Nat) : Bool := decide (b1 < b2 + n2) && decide (b2 < b1 + n1)

/-- The member and the attribute in which a range conflicts with a region of another member (R470). -/
def stackClash (rs : List StackRegion) (x : StackRegion) : Option (Nat × Nat) :=
  rs.findSome? fun r =>
    if r.member != x.member && overlap r.base r.size x.base x.size then (r.differs x).map fun f => (r.member, f) else none

/-- The range check of a region command (R470): `none`, or the state with STACK_RANGE_REFUSED logged. -/
def State.stackRefuses (s : State) (i base size : Nat) (r : Region) : Option State :=
  if ! s.inStack then none
  else
    let x : StackRegion := ⟨s.pw.strapStackId.toNat, base, size, r.cls, r.persist, r.mirror, r.key.toNat⟩
    (stackClash s.stk.ranges x).map fun c => s.log 0x8063 .notice srcStack i c.1 c.2

/-! ## Plans, images, operations -/

/-- A started plan names a region: it is its window, or a source lies in it (R62). -/
def State.planHolds (s : State) (i : Nat) : Bool :=
  let r := s.region i
  s.tier.plans.any fun p => p.started && (p.image.window == i || p.image.entries.any fun e => r.covers e.src)

/-- Drops a range of pages from the pending images (R62, R104). -/
def Image.dropPages (x : Image) (lo n : Nat) : Image :=
  let inP (k : Nat) : Bool := decide (lo ≤ k) && decide (k < lo + n)
  { x with pages := x.pages.filter (fun k => ! inP k), lines := x.lines.filter (fun l => ! inP (l.1 / 64)),
           recs := x.recs.filter fun l => ! inP (l.1 / 64) }

/-- Drops a range of pages from both images. -/
def State.dropFromImages (s : State) (lo n : Nat) : State :=
  { s with per := { s.per with imageA := s.per.imageA.dropPages lo n, imageB := s.per.imageB.dropPages lo n } }

/-- The region a long operation works on, if it works on one. -/
def State.opRegion (s : State) (k : OpKind) : List Nat :=
  let at_ (dpa : Nat) : List Nat := ((s.regionOf dpa).map Prod.fst).toList
  match k with
  | .copyLocal a b _ => at_ (64 * a) ++ at_ (64 * b)
  | .fill a _ _ => at_ (64 * a)
  | .migrate i _ _ _ => [i]
  | .objectPlace p _ _ => at_ (4096 * p)
  | .persistSet i => [i]
  | .keyRotate i _ => [i]
  | .scrub i false _ => [i]
  | .fenceMirror id | .fenceTier id => (s.per.fences.filter fun f => f.id == id).filterMap Fence.region
  | _ => []

/-- Ends with CANCELLED the long operations and fences of a region that is destroyed (R62, R92, R247). -/
def State.cancelRegionOps (s : State) (i : Nat) : State :=
  let mine (o : LongOp) : Bool := (s.opRegion o.kind).contains i
  let ops := s.rings.ops.filter mine
  let fs := s.per.fences.filter fun f => f.region == some i
  let s := { s with rings := { s.rings with ops := s.rings.ops.filter fun o => ! mine o },
                    per := { s.per with fences := s.per.fences.filter fun f => f.region != some i },
                    sec := { s.sec with rotations := s.sec.rotations.filter fun r => r.region != i } }
  let s := ops.foldl (fun s o => s.detachOp o.slot) s
  let s := fs.foldl (fun s f => s.complete f.src .cancelled) s
  ops.foldl (fun s o => (o.cancelBy ++ o.suspendBy).foldl (fun s c => s.complete c .conflict) (s.completeLong o.src .cancelled 0)) s

/-- Requests that are in flight now: they were resolved under the epoch of the moment (R64). -/
def State.inFlight (s : State) : Bool :=
  s.per.adm != [] || s.tier.reads != [] || s.per.wts.any (fun w => w.waiters != []) || s.twinWaits

/-- Requests of an older epoch are in flight (R64). Writes that wait for the twin or for a program carry no epoch of their
own: they count until they complete. -/
def State.oldInFlight (s : State) : Bool :=
  s.per.adm.any (fun a => a.epoch != s.rgn.epoch) || s.tier.reads.any (fun r => r.epoch != s.rgn.epoch) ||
    s.per.wts.any (fun w => w.waiters != []) || s.twinWaits

end Sys2Proof.Machine
end

