-- ==== Sys2Proof/Machine/Rings.lean ====
section
/-!
DEFINITION. The command rings (R311 to R323), the handles and commands of long operations (R325 to R327), and the
operations every descriptor shares: taking it, its checks of R323, and its start, interim and final records.
-/
namespace Sys2Proof.Machine

/-! ## Taking a descriptor -/

/-- Entries of a ring's SQ and CQ. -/
def State.sqSize (s : State) (r : Nat) : Nat := 2 ^ s.fld RING_CFG_SQ_LOG2 r
def State.cqSize (s : State) (r : Nat) : Nat := 2 ^ s.fld RING_CFG_CQ_LOG2 r

/-- Whether an operation of a ring has still to write its final record (R316). -/
def State.ringBusy (s : State) (r : Nat) : Bool :=
  let mine (c : CmdSrc) : Bool := match c with | .ring r' _ _ _ => r' == r | _ => false
  (s.rings.ops.any fun o => mine o.src) || (s.rgn.ops.any fun o => mine o.src) ||
    (s.per.fences.any fun f => mine f.src) || (s.rdma.qps.any fun e => e.2.items.any fun it => it.kind == .gate && mine it.src) || (s.ringAt r).recs != []

/-- Whether ring r takes descriptors now (R34, R313, R314, R317). -/
def State.ringTakes (s : State) (r : Nat) : Bool :=
  (s.mc.mode.serving || s.mc.mode == .maintenance) && s.ccRuns && s.flag RING_CTL_ENABLE r && !(s.ringAt r).halted &&
    decide ((s.ringAt r).recs.length < 64)

/-- Takes a descriptor out of its ring's command queue when it stands at the front; HEAD advances past a fetched one
(R313). A descriptor that was not queued is taken as it arrives (log entry 7). -/
def State.dequeue (s : State) (d : Desc) : State :=
  let r := s.ringAt d.ring.val
  match r.queue with
  | q :: t =>
    if q.desc = d then
      if q.pushed then s.setRing d.ring.val { r with queue := t, pushedCnt := r.pushedCnt - 1 }
      else s.setRing d.ring.val
        { r with queue := t, fetched := r.fetched - 1, head := (r.head + 1) % s.sqSize d.ring.val }
    else s
  | [] => s

/-- The lowest free handle slot (R325). -/
def State.freeOpSlot (s : State) : Option Nat :=
  (List.range 1024).find? fun k => ! s.rings.ops.any fun o => o.slot == k

/-- Takes a descriptor and makes the checks of R323 in their order: the opcode, its group, the mode, and for a long
operation a free handle; then `body` makes the checks of the opcode itself and acts. A ring that takes nothing now
leaves the state as it is. -/
def State.take (s : State) (d : Desc) (group : Nat) (maint : Bool) (long : Bool) (body : State → State) : State :=
  if ! s.ringTakes d.ring.val || (d.ordered && s.ringBusy d.ring.val) then s
  else
    let s := (s.dequeue d).activity
    if ! opcodes.contains d.opcode.toNat then s.complete d.src .invalid
    else if ! Nat.testBit (s.fld RING_GROUPS_GROUPS d.ring.val) group then s.complete d.src .notPermitted
    else if s.mc.mode == .maintenance && ! maint then s.complete d.src .notPermitted
    else if long && s.freeOpSlot.isNone then s.complete d.src .busy
    else body s

/-! ## Long operations -/

/-- The handle of a long operation (R325). -/
def LongOp.handle (o : LongOp) : Nat := o.gen * 1024 + o.slot

/-- Starts a long operation in the lowest free slot and queues its start record (R321, R325). -/
def State.startOp (s : State) (kind : OpKind) (src : CmdSrc) (total : Option Nat) : State :=
  match s.freeOpSlot with
  | none => s.complete src .busy
  | some k =>
    let g := Sparse.get (fun _ => 0) s.rings.opGens k
    let o : LongOp := ⟨k, g, .running, kind, src, 0, total, 0, [], [], none⟩
    let s := { s with rings := { s.rings with
      ops := s.rings.ops ++ [o], opGens := Sparse.set (fun _ => 0) s.rings.opGens k ((g + 1) % 2 ^ 22) } }
    s.record src .ok o.handle true false

/-- The slot the next long operation takes. -/
def State.nextOpSlot (s : State) : Nat := s.freeOpSlot.getD 0

/-- The long operation in a slot. -/
def State.opAt (s : State) (k : Nat) : Option LongOp := s.rings.ops.find? fun o => o.slot == k

/-- The long operation a handle names (R325). -/
def State.opOf (s : State) (h : Nat) : Option LongOp :=
  s.rings.ops.find? fun o => o.slot == h % 1024 && o.gen == h / 1024

/-- Changes the long operation in a slot. -/
def State.setOp (s : State) (o : LongOp) : State :=
  { s with rings := { s.rings with ops := s.rings.ops.map fun x => if x.slot = o.slot then o else x } }

/-- Ends a long operation: its final record, CONFLICT for the OP_CANCEL commands that came too late and for the
OP_SUSPEND commands still waiting (R327), and its slot freed (R325). -/
def State.endOp (s : State) (o : LongOp) (st : Status) (param : Nat) : State :=
  let s := ({ s with rings := { s.rings with ops := s.rings.ops.filter fun x => x.slot != o.slot } }).detachOp o.slot
  let s := s.completeLong o.src st param
  let s := o.cancelBy.foldl (fun s c => s.complete c .conflict) s
  o.suspendBy.foldl (fun s c => s.complete c .conflict) s

/-- Ends a long operation as cancelled: its final record CANCELLED, then OK for the OP_CANCEL commands (R327). -/
def State.endCancelled (s : State) (o : LongOp) (param : Nat) : State :=
  let s := ({ s with rings := { s.rings with ops := s.rings.ops.filter fun x => x.slot != o.slot } }).detachOp o.slot
  let s := s.completeLong o.src .cancelled param
  let s := o.cancelBy.foldl (fun s c => s.complete c .ok) s
  o.suspendBy.foldl (fun s c => s.complete c .conflict) s

/-- PCT of an operation (R326). -/
def LongOp.pct (o : LongOp) : Nat :=
  if o.st = .done then 100
  else match o.total with | none => 127 | some 0 => 100 | some t => min 100 (o.done * 100 / t)

/-- Whether an operation may be suspended (R328). -/
def OpKind.suspendable : OpKind → Bool
  | .planStop _ _ | .sanitize _ | .packRelease _ => false
  | _ => true

/-- Whether an operation may be cancelled (R328). -/
def OpKind.cancellable : OpKind → Bool
  | .planStop _ _ | .sanitize _ | .keyRotate _ _ => false
  | _ => true

/-! ## Doorbells and the push window (R312, R314, R318, R319) -/

/-- Whether x lies in the circular range from `lo` up to `hi` − 1 of n entries, or equals `lo`; n entries hold at most
n − 1 items (R311, R312). -/
def circOk (n lo hi x : Nat) : Bool := decide (x < n) && decide ((x + n - lo) % n ≤ (hi + n - 1 - lo) % n)

-- @row RING_SQ_DB
/-- R41, R312: a write of the SQ doorbell is activity, and moves the tail when the value lies from the current tail to HEAD − 1; any
other value is ignored, counted and logged. -/
def execRingSqDb (r : Fin 256) (v : BitVec 16) (s : State) : Res := .next <|
  let s := s.activity
  let x := s.ringAt r.val
  if circOk (s.sqSize r.val) x.sqTail x.head v.toNat then s.setRing r.val { x with sqTail := v.toNat }
  else (s.bump RING_DB_BAD_CNT_COUNT r.val).logLim 0xA001 r.val .notice srcRings (r.val, v.toNat, 1, 0) id

-- @row RING_CQ_DB
/-- R314: a write of the CQ doorbell moves the CQ head, accepted from the current head to the CQ tail. -/
def execRingCqDb (r : Fin 256) (v : BitVec 16) (s : State) : Res := .next <|
  let x := s.ringAt r.val
  let n := s.cqSize r.val
  if v.toNat < n ∧ (v.toNat + n - x.cqHead) % n ≤ (x.cqTail + n - x.cqHead) % n then
    s.setRing r.val { x with cqHead := v.toNat }
  else (s.bump RING_DB_BAD_CNT_COUNT r.val).logLim 0xA001 r.val .notice srcRings (r.val, v.toNat, 2, 0) id

/-- The TAG of an open item: its word 1 when that has arrived, else a free value (log entry 8). -/
def State.openTag (s : State) (ws : List Word) : Word × State :=
  match ws with
  | _ :: t :: _ => (t, s)
  | _ => let (n, s) := s.fresh; (BitVec.ofNat 32 n, s)

/-- Tears the open item of a ring, if there is one: its completion returns TORN (R334). -/
def State.tearOpen (s : State) (r : Nat) : State :=
  let x := s.ringAt r
  match x.openItem with
  | none => s
  | some ws =>
    let s := s.setRing r { x with openItem := none }
    let (tag, s) := s.openTag ws
    s.complete (.ring r tag ((ws.getD 0 0).toNat % 256) false) .torn

-- @row RING_PUSH
/-- R318, R334: push word 0 opens an item and clears TORN; an item already open is torn. Nothing happens while PUSH_EN is
0. -/
def execRingPush (r : Fin 256) (w : Word) (s : State) : Res := .next <|
  if s.flag RING_CTL_PUSH_EN r.val then
    let s := s.tearOpen r.val
    s.setRing r.val { s.ringAt r.val with openItem := some [w], torn := false }
  else s

-- @row RING_PUSH_CONTINUE
/-- R318: push words 1 to 14 add to the open item, and are discarded when none is open. -/
def execRingPushContinue (r : Fin 256) (w : Word) (s : State) : Res := .next <|
  let x := s.ringAt r.val
  match x.openItem with
  | some ws => if s.flag RING_CTL_PUSH_EN r.val ∧ ws.length < 15 then s.setRing r.val { x with openItem := some (ws ++ [w]) } else s
  | none => s

/-- The descriptor its 16 words spell (R320). -/
def descOf (r : Fin 256) (ws : List Word) : Desc :=
  let w0 := ws.getD 0 0
  ⟨r, w0.extractLsb' 0 8, w0.getLsbD 8, w0.getLsbD 9, ws.getD 1 0, ws.drop 2⟩


-- @row RING_PUSH_COMMIT
/-- R318, R331: push word 15 commits the item to the ring's command queue; beyond the spill limit of 4,096 pushed
descriptors or with the pool exhausted it completes with BUSY and SPILL_POOL_FULL is logged. -/
def execRingPushCommit (r : Fin 256) (w : Word) (s : State) : Res := .next <|
  let x := s.ringAt r.val
  match x.openItem with
  | some ws =>
    if s.flag RING_CTL_PUSH_EN r.val then
      let d := descOf r (ws ++ [w])
      if x.pushedCnt < 4096 ∧ (x.queue.length < 64 ∨ s.spillUsed < spillChunks) then
        (s.setRing r.val { x with openItem := none, queue := x.queue ++ [⟨d, true⟩], pushedCnt := x.pushedCnt + 1 }).spillPushed (0x10000 + r.val)
      else
        let s := s.setRing r.val { x with openItem := none }
        (s.complete d.src .busy).spillRefused (0x10000 + r.val)
    else s
  | none => s

-- @row RING_FLUSH
/-- R319, R334: every committed descriptor not yet taken and every SQ entry from HEAD to the tail completes with
CANCELLED, HEAD becomes the tail, an open item completes with TORN. `unread`: TAG and OPCODE of the SQ entries not yet
fetched, as they stand in host memory. -/
def execRingFlush (r : Fin 256) (unread : List (Word × BitVec 8)) (s : State) : Res := .next <|
  let x := s.ringAt r.val
  let torn := x.openItem.isSome
  let s := s.tearOpen r.val
  let n := (x.sqTail + s.sqSize r.val - x.head) % s.sqSize r.val
  let unread := unread.take (n - x.fetched)
  let s := (x.queue.filter fun q => ! q.pushed).foldl (fun s q => s.complete q.desc.src .cancelled) s
  let s := unread.foldl (fun s u => s.complete (.ring r.val u.1 u.2.toNat false) .cancelled) s
  let s := (x.queue.filter fun q => q.pushed).foldl (fun s q => s.complete q.desc.src .cancelled) s
  let s := s.setRing r.val { s.ringAt r.val with
    queue := [], fetched := 0, pushedCnt := 0, head := x.sqTail, openItem := none, torn := true }
  s.log 0xA003 .info srcRings r.val (x.queue.length + unread.length) (if torn then 1 else 0)

-- @row RING_ENABLE
/-- R337: ENABLE = 1 is refused when a base is not 4 KiB aligned or a size is outside 6 to 16; accepted, it sets the four
indices to 0 and the phase to 1, and the ring is no longer halted. Records pending stay pending. -/
def execRingEnable (r : Fin 256) (who : Writer) (s : State) : Res := .next <|
  let bad := (s.regAt .RING_SQ_BASE r.val 0 0).toNat % 4096 != 0 || (s.regAt .RING_CQ_BASE r.val 0 0).toNat % 4096 != 0 ||
    decide (s.fld RING_CFG_SQ_LOG2 r.val < 6) || decide (16 < s.fld RING_CFG_SQ_LOG2 r.val) ||
    decide (s.fld RING_CFG_CQ_LOG2 r.val < 6) || decide (16 < s.fld RING_CFG_CQ_LOG2 r.val)
  if s.flag RING_CTL_ENABLE r.val then s
  else if bad then s.reject (RegName.offset .RING_CTL r.val 0 0) 1 3 who
  else
    let x := s.ringAt r.val
    (s.setRing r.val { x with sqTail := 0, head := 0, cqHead := 0, cqTail := 0, phase := true, halted := false,
                              fetched := 0, sinceIrq := 0, queue := x.queue.filter fun q => q.pushed }).setFld
      RING_CTL_ENABLE 1 r.val

-- @row RING_DISABLE
/-- R337: ENABLE = 0 stops taking descriptors; records are still written. -/
def execRingDisable (r : Fin 256) (s : State) : Res := .next (s.setFld RING_CTL_ENABLE 0 r.val)

-- @row DESCRIPTOR_FETCH
/-- R313: the ring hardware fetches descriptors between HEAD and the tail, up to 32 ahead of HEAD. `descs`: what the reads
of the SQ return, each as its 16 words; `err`: the read ends with an error completion or with poison, and the ring is
halted at the first descriptor not read. -/
def execDescriptorFetch (r : Fin 256) (descs : List (List Word)) (err : Bool) (s : State) : Res := .next <|
  let x := s.ringAt r.val
  if s.flag RING_CTL_ENABLE r.val && !x.halted then
    let avail := (x.sqTail + s.sqSize r.val - x.head) % s.sqSize r.val - x.fetched
    let ds := descs.take (min avail (32 - x.fetched))
    let s := s.setRing r.val { x with
      queue := x.queue ++ ds.map fun ws => ⟨descOf r ws, false⟩, fetched := x.fetched + ds.length,
      halted := err && decide (ds.length < avail) }
    if err && decide (ds.length < avail) then s.log 0xA002 .error srcRings r.val 1 x.head else s
  else s

/-! ## Completion records (R314, R315) -/

/-- Word 1 of a completion record (R321). -/
def CqRec.word1 (c : CqRec) : Nat :=
  c.status.code + (if c.long then 256 else 0) + (if c.final then 512 else 0) + c.opcode % 256 * 65536

/-- Sends the ring's MSI-X vector and restarts its coalescing count. -/
def State.ringIrq (s : State) (r : Nat) : State :=
  (s.setRing r { s.ringAt r with sinceIrq := 0 }).emit (.msix r (s.fld RING_CFG_VECTOR r))

-- @row CQ_RECORD_WRITE
/-- R314, R315: the oldest waiting record is written at the CQ tail when there is room; the phase inverts at each wrap; the
interrupt follows for IRQ, or once COAL_CNT records are written. A write that ends in error halts the ring and keeps the
record. -/
def execCqRecordWrite (r : Fin 256) (err : Bool) (s : State) : Res := .next <|
  let x := s.ringAt r.val
  match x.recs with
  | [] => s
  | c :: t =>
    let n := s.cqSize r.val
    if x.halted || decide ((x.cqTail + 1) % n = x.cqHead) then s
    else if err then (s.setRing r.val { x with halted := true }).log 0xA002 .error srcRings r.val 2 x.head
    else
      let tail := (x.cqTail + 1) % n
      let w3 := c.head % 2 ^ 16 + (if x.phase then 2 ^ 31 else 0)
      let s := s.setRing r.val { x with recs := t, cqTail := tail, phase := if tail = 0 then !x.phase else x.phase,
                                        sinceIrq := x.sinceIrq + 1 }
      let s := s.emit (.cqRecord r.val x.cqTail c.tag.toNat c.word1 (c.param % 2 ^ 32) w3)
      let coal := s.fld RING_COAL_COAL_CNT r.val
      if c.irq || (coal != 0 && decide (coal ≤ x.sinceIrq + 1)) then s.ringIrq r.val else s

-- @row COAL_TIMER
/-- R315: COAL_US after the first record since the last interrupt, the vector is sent; with COAL_CNT = 0 records interrupt
only through IRQ. -/
def execCoalTimer (r : Fin 256) (s : State) : Res := .next <|
  if s.fld RING_COAL_COAL_CNT r.val != 0 && (s.ringAt r.val).sinceIrq != 0 then s.ringIrq r.val else s

/-! ## NOP and the operation commands (R324, R327) -/

-- @row NOP
/-- R323, R324: completes with OK. This row also takes the descriptors whose opcode is none of R324, which are INVALID. -/
def execNop (d : Desc) (s : State) : Res := .next <| s.take d 0 false false fun s => s.complete d.src .ok

-- @row OP_SUSPEND
/-- R327, R328: RUNNING is suspended at its next step boundary; SUSPENDED: OK; CANCELLING or DONE: CONFLICT. -/
def execOpSuspend (d : Desc) (s : State) : Res := .next <| s.take d 0 false false fun s =>
  match s.opOf (d.word 2).toNat with
  | none => s.complete d.src .invalid
  | some o => match o.st with
    | .running =>
      if o.kind.suspendable && ! s.opStarted o then s.setOp { o with suspendBy := o.suspendBy ++ [d.src] }
      else s.complete d.src .notPermitted
    | .suspended => s.complete d.src .ok
    | .cancelling | .done => s.complete d.src .conflict

-- @row OP_RESUME
/-- R327: SUSPENDED runs again; RUNNING: OK without effect; CANCELLING or DONE: CONFLICT. -/
def execOpResume (d : Desc) (s : State) : Res := .next <| s.take d 0 false false fun s =>
  match s.opOf (d.word 2).toNat with
  | none => s.complete d.src .invalid
  | some o => match o.st with
    | .running => s.complete d.src .ok
    | .suspended => (s.setOp { o with st := .running }).complete d.src .ok
    | .cancelling | .done => s.complete d.src .conflict

-- @row OP_QUERY
/-- R327, R324: PIN = 0 returns STATE and PCT; PIN = 1 returns the pins a stream holds on a page. -/
def execOpQuery (d : Desc) (s : State) : Res := .next <| s.take d 0 false false fun s =>
  match s.opOf (d.word 2).toNat with
  | none => s.complete d.src .invalid
  | some o =>
    if d.bits 3 0 0 = 0 then s.complete d.src .ok (o.st.code + o.pct * 8)
    else s.complete d.src .ok (s.streamPins (d.bits 6 7 0) (d.dpa 4 / 4096) % 2 ^ 16)

end Sys2Proof.Machine
end

