-- ==== Sys2Proof/Machine/Regions.lean ====
section
/-!
DEFINITION. Regions: the region commands (R58 to R62), the shadow commit and its edge (R63 to R65), durability of the
tables, HDM decoder commits (R47), pools and partitions (R69, R113).
-/
namespace Sys2Proof.Machine

/-! ## The tables as the commands in progress will leave them -/

/-- Writes a list of entries into a region table. -/
def putRegions (t : List (Nat × Region)) (es : List (Nat × Region)) : List (Nat × Region) :=
  es.foldl (fun t e => Sparse.set (fun _ => Region.empty) t e.1 e.2) t

/-- Writes a list of owner sets into an owner-set table. -/
def putSets (t : List (Nat × BitVec 128)) (es : List (Nat × BitVec 128)) : List (Nat × BitVec 128) :=
  es.foldl (fun t e => Sparse.set (fun _ => 0#128) t e.1 e.2) t

/-- Commits that are requested and not yet made, oldest first. -/
def State.openCommits (s : State) : List Commit :=
  s.rgn.waiting ++ (s.rgn.ops.filter fun o => o.stage == .waitCommit).map RgnOp.commit

/-- The shadow region table: the committed one with every open commit applied (R63). -/
def State.shadow (s : State) : List (Nat × Region) := s.openCommits.foldl (fun t c => putRegions t c.entries) s.rgn.table

/-- The shadow owner-set table. -/
def State.shadowSets (s : State) : List (Nat × BitVec 128) := s.openCommits.foldl (fun t c => putSets t c.sets) s.rgn.sets

/-- The shadow entry of a region index. -/
def State.shadowRegion (s : State) (i : Nat) : Region := Sparse.get (fun _ => Region.empty) s.shadow i

/-- Whether a range, in 2 MiB units, touches a range reserved by a region command in progress (R58). -/
def State.reserved (s : State) (base size : Nat) : Bool :=
  (s.rgn.ops.any fun o => overlap base size o.base o.size) || s.rings.ops.any fun o => match o.kind with
    | .migrate i _ _ _ | .persistSet i => overlap base size (s.region i).base.toNat (s.region i).size.toNat
    | _ => false

/-- Whether a range overlaps a valid region other than `except`. -/
def State.overlapsRegion (s : State) (base size : Nat) (except : Option Nat) : Bool :=
  s.shadow.any fun e => e.2.valid && some e.1 != except && overlap base size e.2.base.toNat e.2.size.toNat

/-! ## Frames of a pool (R59, R113) -/

/-- Frame ranges of pool p in use: RESIDENT and SCRATCH regions, and the data and tag frames of valid partitions; a
region may be left out. -/
def State.usedFrames (s : State) (p : Nat) (except : Option Nat) : List (Nat × Nat) :=
  (s.shadow.filterMap fun e =>
    if e.2.valid && (e.2.cls == .resident || e.2.cls == .scratch) && e.2.place.toNat == p && some e.1 != except
    then some (e.2.frameBase.toNat, e.2.size.toNat * 512) else none) ++
  (s.rings.ops.filterMap fun o => match o.kind with
    | .migrate i .resident q f => if q = p then some (f, (s.region i).size.toNat * 512) else none
    | _ => none) ++
  (List.range 16).flatMap fun q =>
    if s.flag TIER_PART_CFG_VALID q && s.fld TIER_PART_CFG_POOL q == p then
      [(s.fld TIER_PART_DATA_FRAME q, 2 ^ s.fld TIER_PART_CFG_SETS_LOG2 q * 16),
       (s.fld TIER_PART_TAG_FRAME q, 2 ^ (s.fld TIER_PART_CFG_SETS_LOG2 q - 5))]
    else []

/-- Whether a run of frames is free in pool p. -/
def State.framesFree (s : State) (p base n : Nat) (except : Option Nat) : Bool :=
  decide (base + n ≤ s.poolFrames p) && !(s.usedFrames p except).any fun u => overlap base n u.1 u.2

/-- The lowest free run of n frames in pool p (R59): it starts at 0 or where a used range ends. -/
def State.lowestRun (s : State) (p n : Nat) : Option Nat :=
  let cands := 0 :: (s.usedFrames p none).map fun u => u.1 + u.2
  (cands.filter fun c => s.framesFree p c n none).foldl (fun o c => match o with | none => some c | some b => some (min b c)) none

/-! ## The commit edge (R57, R63 to R65) -/

/-- The entry as a commit writes it: GEN advances when words 0 to 4 change (R57). -/
def Region.bumped (old new : Region) : Region :=
  if { new with gen := old.gen } = old then old else { new with gen := old.gen + 1 }

/-- Marks every page of a range of DPA pages INVALID, with its tier 1 lines and its home trimmed to zeros (R59, R61). -/
def State.trimPages (s : State) (lo n : Nat) : State :=
  let inP (k : Nat) : Bool := decide (lo ≤ k) && decide (k < lo + n)
  let inL (k : Nat) : Bool := inP (k / 64)
  { s with tier := { s.tier with pages := Sparse.clear s.tier.pages inP, dram := Sparse.clear s.tier.dram inL },
           nand := { s.nand with home := Sparse.clear s.nand.home inL, map := Sparse.clear s.nand.map inP
                                 lost := s.nand.lost.filter fun k => ! inP k } }

/-- Marks every frame of a range of DPA pages INVALID and drops its tier 1 content (R52, R62). -/
def State.invalidatePages (s : State) (lo n : Nat) : State :=
  let inP (k : Nat) : Bool := decide (lo ≤ k) && decide (k < lo + n)
  { s with tier := { s.tier with
      pages := Sparse.clear s.tier.pages inP
      dram := Sparse.clear s.tier.dram fun k => inP (k / 64)
      fills := s.tier.fills.filter fun f => ! inP f.page
      wbs := s.tier.wbs.filter fun w => ! inP w.page } }

/-- Releases a range of a region that leaves the table (R61, R62): dirty pages discarded, pages invalidated, the home
trimmed, images freed of them. -/
def State.releaseRange (s : State) (lo n : Nat) : State :=
  let s := (s.invalidatePages lo n).trimPages lo n
  s.dropFromImages lo n

/-- Ends the wait of REGION_DESTROY: the region's dirty pages are discarded, its pages invalidated and its home trimmed; the
command then waits for durability (R62, R58). -/
def State.finishDestroy (s : State) (i : Nat) (old : Region) : State :=
  let s := s.releaseRange old.page0 old.pageCount
  let step (o : RgnOp) : RgnOp := if o.kind = .destroy ∧ o.idx = i then { o with stage := .waitDurable } else o
  { s with rgn := { s.rgn with ops := s.rgn.ops.map step } }

/-- Sets or clears whether the dirty pages of a region count (R61, R80). -/
def State.countRegion (s : State) (r : Region) (on : Bool) : State :=
  { s with tier := { s.tier with pages := s.tier.pages.map fun e =>
      if r.page0 ≤ e.1 ∧ e.1 < r.page0 + r.pageCount ∧ (e.2.st = .dirty ∨ e.2.st = .writingBack) then
        (e.1, { e.2 with counted := on && !e.2.covered, since := if on then s.timeNs else e.2.since })
      else e } }

/-- Clears VALID in every memory-key entry of a region that leaves the table (R293). -/
def State.dropRdmaKeys (s : State) (i : Nat) : State :=
  let clear (e : Nat × List Word) : Nat × List Word :=
    let w := e.2.getD 0 0
    if (w.extractLsb' 16 12).toNat = i then (e.1, e.2.set 0 (w &&& 0xFFFFFFFE#32)) else e
  { s with rdma := { s.rdma with keys := s.rdma.keys.map clear } }

/-- What follows from a changed entry at the commit edge: content of a new or grown range reads as zeros, a tail is
released, extents are added and released, the twin is told, and the count follows PERSIST (R59 to R62, R228, R275). -/
def State.afterEntry (s : State) (i : Nat) (old : Region) (oldSet : BitVec 128) (new : Region) : State :=
  let s := if new.valid && !old.valid then s.trimPages new.page0 new.pageCount else s
  let s := if new.valid && old.valid && decide (old.size.toNat < new.size.toNat) then
      s.trimPages (old.page0 + old.pageCount) (new.pageCount - old.pageCount) else s
  let s := if new.valid && old.valid && decide (new.size.toNat < old.size.toNat) then
      s.releaseRange (new.page0 + new.pageCount) (old.pageCount - new.pageCount) else s
  let s := if new.valid && new.released then s.invalidatePages new.page0 new.pageCount else s
  let s := if new.valid && old.valid && old.persist != new.persist then s.countRegion new new.persist else s
  let s := s.extentsChanged i old oldSet new (s.ownerSet new.ownerSet.toNat)
  let s := s.noteBinds i old oldSet new (s.ownerSet new.ownerSet.toNat)
  let s := s.mirrorChanged i old new
  if old.valid && ! new.valid then s.dropRdmaKeys i else s

/-- The commit edge: the tables switch at once, EPOCH advances, RGN_COMMIT is written, owner sets that no region names are
freed, and the older epoch drains while its requests are in flight (R60, R63 to R65). -/
def State.commitEdge (s : State) (c : Commit) : State :=
  let olds := c.entries.map fun e => (e.1, s.region e.1, s.ownerSet (s.region e.1).ownerSet.toNat)
  let news := c.entries.map fun e => (e.1, (s.region e.1).bumped e.2)
  let table := putRegions s.rgn.table news
  let sets := (putSets s.rgn.sets c.sets).filter fun e => table.any fun r => r.2.valid && r.2.ownerSet.toNat == e.1
  let ep := s.rgn.epoch + 1
  let s := { s with rgn := { s.rgn with table := table, sets := sets, epoch := ep, draining := s.inFlight,
                                        undurable := s.rgn.undurable + 1 } }
  let s := c.remaps.foldl (fun s m =>
    ((((s.setFld RGN_POOL_REMAP_VALID (if m.2.2.1 then 1 else 0) m.1 m.2.1).setFld RGN_POOL_REMAP_MEMBER m.2.2.2.1 m.1 m.2.1).setFld
      RGN_POOL_REMAP_TARGET_CH m.2.2.2.2.1 m.1 m.2.1).setFld RGN_POOL_REMAP_TARGET_BASE_GIB m.2.2.2.2.2 m.1 m.2.1)) s
  let s := s.log 0x8020 .info srcRgn ep.toNat c.entries.length
  let s := olds.foldl (fun s o => s.afterEntry o.1 o.2.1 o.2.2 (s.region o.1)) s
  let lds := olds.foldl (fun b o => b ||| (if o.2.1.valid then o.2.2 else 0) |||
    (if (s.region o.1).valid then s.ownerSet (s.region o.1).ownerSet.toNat else 0)) 0#128
  (s.bumpCdats lds).reeval .cause

/-- Requests a commit that no region command makes (R63): it is made at once, or waits for the drain of the older epoch. -/
def State.commit (s : State) (c : Commit) : State :=
  if s.rgn.draining then { s with rgn := { s.rgn with waiting := s.rgn.waiting ++ [c] } } else s.commitEdge c

/-- Marks a region DAMAGED by a commit (R63), unless it is so already. -/
def State.markDamaged (s : State) (i : Nat) : State :=
  let r := s.region i
  if r.valid && !r.damaged then s.commit ⟨[(i, { r with damaged := true })], [], []⟩ else s

/-! ## Region commands -/

/-- Puts a region command in progress; its range is reserved until it completes (R58). -/
def State.startRgnOp (s : State) (kind : RgnOpKind) (i : Nat) (base size : Nat) (c : Commit) (src : CmdSrc)
    (param : Nat) : State :=
  { s with rgn := { s.rgn with ops := s.rgn.ops ++ [⟨kind, i, base, size, c, .waitCommit, src, param, s.shadowRegion i⟩] } }

/-- The class, mirror attribute and validity of attribute bits (R50, R57). -/
def rgnClassOf : Nat → RgnClass | 0 => .resident | 1 => .cached | 2 => .streamed | _ => .scratch
def mirrorOf : Nat → Option Mirror | 0 => some .none | 1 => some .async | 2 => some .sync | _ => Option.none

/-- R50: the combinations of class, persistence and mirror that are allowed. -/
def attrsOk (c : RgnClass) (persist : Bool) (m : Mirror) : Bool :=
  (c != .scratch || !persist) && (persist || m == .none)

/-- Whether the pool or partition of a class is valid. -/
def State.placeValid (s : State) (c : RgnClass) (place : Nat) : Bool :=
  match c with
  | .resident | .scratch => s.flag RGN_POOL_CFG_VALID place
  | .cached | .streamed => s.flag TIER_PART_CFG_VALID place

/-- The region index a descriptor names in word 2. -/
def Desc.rgnIdx (d : Desc) : Nat := d.bits 2 11 0

/-- In a stack without a master, a region command that needs a range check waits (R469). -/
def State.awaitMaster (s : State) (d : Desc) : State :=
  { s with stk := { s.stk with waiting := s.stk.waiting ++ [d],
                               waitFrom := if s.stk.waiting = [] then s.timeNs else s.stk.waitFrom } }

/-- REGION_CREATE after the checks every descriptor shares (R59, R470). -/
def createRegion (d : Desc) (s : State) : State :=
  let cls := rgnClassOf (d.bits 2 4 3)
  let persist := d.bits 2 5 5 = 1
  let base := d.bits 3 26 0
  let size := d.bits 4 26 0
  let key := d.bits 5 11 0
  let place := d.bits 5 23 20
  if s.mc.mode = .drain then s.complete d.src .notPermitted
  else match mirrorOf (d.bits 2 7 6) with
  | none => s.complete d.src .invalid
  | some m =>
    if ! attrsOk cls persist m || size == 0 || decide (s.rgn.limitGib.toNat * 512 < base + size) || ! s.placeValid cls place
    then s.complete d.src .invalid
    else if s.overlapsRegion base size none || s.reserved base size then s.complete d.src .conflict
    else if s.electing then s.awaitMaster d
    else match (List.range 4096).find? fun i => ! (s.shadowRegion i).valid with
    | none => s.complete d.src .noSpace
    | some i =>
      let needs := cls = .resident ∨ cls = .scratch
      match (if needs then s.lowestRun place (size * 512) else some 0) with
      | none => s.complete d.src .noSpace
      | some fb =>
        if ! s.keyLoaded key then (s.keyAbsent none (base * 2 ^ 21) key).complete d.src .keyAbsent
        else
          let r : Region := { s.shadowRegion i with
            valid := true, damaged := false, released := false, cls := cls, persist := persist, mirror := m,
            shared := d.bits 2 8 8 = 1, refilling := false, base := BitVec.ofNat 27 base, size := BitVec.ofNat 27 size,
            key := BitVec.ofNat 12 key, ownerSet := 0, place := BitVec.ofNat 4 place, frameBase := BitVec.ofNat 31 fb }
          match s.stackRefuses i base size r with
          | some s => s.complete d.src .conflict
          | none => s.startRgnOp .create i base size ⟨[(i, r)], [], []⟩ d.src i

-- @row REGION_CREATE
/-- R59: the checks in their order, then the region is created at the lowest free FRAME_BASE; the completion returns the
lowest free region index. -/
def execRegionCreate (d : Desc) (s : State) : Res := .next <| s.take d 2 false false (createRegion d)

/-- The checks every command on a live region shares (R58): the index names a valid region, and its range is not reserved;
then `body` goes on with the shadow entry. -/
def State.onRegion (s : State) (d : Desc) (body : Region → State) : State :=
  let r := s.shadowRegion d.rgnIdx
  if ! r.valid then s.complete d.src .invalid
  else if s.reserved r.base.toNat r.size.toNat then s.complete d.src .conflict
  else body r

-- @row REGION_DESTROY
/-- R62: CONFLICT while a started plan names the region; otherwise the entry leaves the table at the commit, the command
waits for the requests of the old epoch, and its release follows at EPOCH_DRAIN_DONE. -/
def execRegionDestroy (d : Desc) (s : State) : Res := .next <| s.take d 2 false false fun s =>
  s.onRegion d fun r =>
    if s.planHolds d.rgnIdx then s.complete d.src .conflict
    else
      let s := s.cancelRegionOps d.rgnIdx
      s.startRgnOp .destroy d.rgnIdx r.base.toNat r.size.toNat
        ⟨[(d.rgnIdx, { Region.empty with gen := r.gen })], [], []⟩ d.src 0

/-- A change of a live region that a commit makes; a change to what the region already holds completes with OK and makes
no commit (R61). -/
def State.modify (s : State) (d : Desc) (old new : Region) (base size : Nat) : State :=
  if new = old then s.complete d.src .ok
  else s.startRgnOp .modify d.rgnIdx base size ⟨[(d.rgnIdx, new)], [], []⟩ d.src 0

/-- Whether word 3 of a REGION_MODIFY holds exactly the change bit k (R324). -/
def Desc.changeBit (d : Desc) (k : Nat) : Bool := d.bits 3 4 0 == 2 ^ k

-- @row REGION_MODIFY_MIRROR
/-- R61: MIRROR from NONE needs a persistent region; the commit sets the ranges of the region in the twin dirty bitmap.
Towards NONE it is effective at the commit. -/
def execRegionModifyMirror (d : Desc) (s : State) : Res := .next <| s.take d 2 false false fun s =>
  if ! d.changeBit 0 then s.complete d.src .invalid
  else s.onRegion d fun r => match mirrorOf (d.bits 4 1 0) with
    | none => s.complete d.src .invalid
    | some m =>
      if m != .none && !r.persist then s.complete d.src .invalid
      else s.modify d r { r with mirror := m } r.base.toNat r.size.toNat

-- @row REGION_MODIFY_PERSIST
/-- R61: 0 to 1 runs as a long operation; 1 to 0 needs mirror NONE and takes the region's dirty pages off the count at the
commit. SCRATCH is volatile only (R50). -/
def execRegionModifyPersist (d : Desc) (s : State) : Res := .next <|
  let r0 := s.shadowRegion d.rgnIdx
  let long := d.changeBit 1 && d.bits 4 2 2 == 1 && r0.valid && !r0.persist
  s.take d 2 false long fun s =>
    if ! d.changeBit 1 then s.complete d.src .invalid
    else s.onRegion d fun r =>
      let p := d.bits 4 2 2 = 1
      if p = r.persist then s.complete d.src .ok
      else if p then
        if r.cls = .scratch then s.complete d.src .invalid
        else s.startOp (.persistSet d.rgnIdx) d.src (some (s.dirtyPagesOf r))
      else if r.mirror ≠ .none then s.complete d.src .invalid
      else s.modify d r { r with persist := false } r.base.toNat r.size.toNat

/-- REGION_MODIFY of SIZE after the checks every descriptor shares (R61, R470). -/
def resizeRegion (d : Desc) (s : State) : State :=
  if ! d.changeBit 2 then s.complete d.src .invalid
  else s.onRegion d fun r =>
    let n := d.bits 5 26 0
    let o := r.size.toNat
    let end0 := r.base.toNat + o
    if n = 0 then s.complete d.src .invalid
    else if n ≤ o then s.modify d r { r with size := BitVec.ofNat 27 n } r.base.toNat o
    else if s.rgn.limitGib.toNat * 512 < r.base.toNat + n then s.complete d.src .invalid
    else if s.overlapsRegion end0 (n - o) (some d.rgnIdx) || s.reserved end0 (n - o) then s.complete d.src .conflict
    else if s.electing then s.awaitMaster d
    else if (r.cls = .resident ∨ r.cls = .scratch) ∧
        s.framesFree r.place.toNat (r.frameBase.toNat + o * 512) ((n - o) * 512) (some d.rgnIdx) = false then
      s.complete d.src .noSpace
    else match s.stackRefuses d.rgnIdx r.base.toNat n r with
      | some s => s.complete d.src .conflict
      | none => s.modify d r { r with size := BitVec.ofNat 27 n } r.base.toNat n

-- @row REGION_MODIFY_SIZE
/-- R61: growth needs the added DPA free (CONFLICT) and, for RESIDENT and SCRATCH, the frames directly after the run
(NO_SPACE); a smaller size releases the tail at the commit. -/
def execRegionModifySize (d : Desc) (s : State) : Res := .next <| s.take d 2 false false (resizeRegion d)

-- @row REGION_MODIFY_RELEASE
/-- R61, R52: SCRATCH only; every frame INVALID at the commit, and RELEASED set. -/
def execRegionModifyRelease (d : Desc) (s : State) : Res := .next <| s.take d 2 false false fun s =>
  if ! d.changeBit 3 then s.complete d.src .invalid
  else s.onRegion d fun r =>
    if r.cls ≠ .scratch then s.complete d.src .invalid
    else s.startRgnOp .modify d.rgnIdx r.base.toNat r.size.toNat ⟨[(d.rgnIdx, { r with released := true })], [], []⟩ d.src 0

-- @row REGION_MODIFY_CLEAR_DAMAGED
/-- R61: DAMAGED becomes 0 at the commit; poisoned lines stay poisoned until written. -/
def execRegionModifyClearDamaged (d : Desc) (s : State) : Res := .next <| s.take d 2 false false fun s =>
  if ! d.changeBit 4 then s.complete d.src .invalid
  else s.onRegion d fun r => s.modify d r { r with damaged := false } r.base.toNat r.size.toNat

/-- The owner set of words 4 to 7 of a REGION_BIND. -/
def Desc.ownerBits (d : Desc) : BitVec 128 :=
  BitVec.ofNat 128 ((d.word 4).toNat + (d.word 5).toNat * 2 ^ 32 + (d.word 6).toNat * 2 ^ 64 + (d.word 7).toNat * 2 ^ 96)

/-- The number of LDs in an owner set. -/
def ownerCount (b : BitVec 128) : Nat := (List.range 128).countP fun i => b.getLsbD i

/-- The owner-set entry a set takes: 0 for the empty set, an entry that already holds it, or the lowest free of 1 to 255
(R60). -/
def setIndex (t : List (Nat × BitVec 128)) (b : BitVec 128) : Option Nat :=
  if b = 0 then some 0
  else match t.find? fun e => e.2 == b with
    | some e => some e.1
    | none => (List.range 256).find? fun i => i != 0 && Sparse.get (fun _ => 0#128) t i == 0

-- @row REGION_BIND
/-- R60: INVALID for a copy region or for more than one LD without SHARED; NO_SPACE when no owner-set entry is left;
otherwise the set is bound at the commit. -/
def execRegionBind (d : Desc) (s : State) : Res := .next <| s.take d 2 false false fun s =>
  s.onRegion d fun r =>
    let b := d.ownerBits
    let shared := d.bits 3 0 0 = 1
    if s.isCopy d.rgnIdx || (!shared && decide (1 < ownerCount b)) then s.complete d.src .invalid
    else match setIndex s.shadowSets b with
      | none => s.complete d.src .noSpace
      | some k => s.startRgnOp .bind d.rgnIdx r.base.toNat r.size.toNat
          ⟨[(d.rgnIdx, { r with ownerSet := BitVec.ofNat 8 k, shared := shared })], if k = 0 then [] else [(k, b)], []⟩ d.src k

/-! ## Durability -/

-- @row METADATA_DURABLE
/-- R58, R63: the committed tables have reached the NAND metadata area; every region command that waited for it
completes with OK. -/
def execMetadataDurable (s : State) : Res := .next <|
  let ready := s.rgn.ops.filter fun o => o.stage == .waitDurable
  let s := { s with rgn := { s.rgn with
    ops := s.rgn.ops.filter fun o => o.stage != .waitDurable
    durTable := s.rgn.table, durSets := s.rgn.sets, undurable := 0 } }
  ready.foldl (fun s o => s.complete o.src .ok o.param) s

/-! ## HDM decoders (R47) -/

-- @row HDM_DECODER_COMMIT
/-- R47: a decoder commits in ascending order with a way count and granularity of the table, size and skip in multiples of
256 MiB, and 3, 6 or 12 ways only at CXL 3.0 or later; otherwise Error Not Committed. A locked decoder is not changed. -/
def execHdmDecoderCommit (port : PortId) (ld : Fin 16) (d : Fin 4) (base size : BitVec 52) (ways ig : Nat)
    (skip : BitVec 48) (lock : Bool) (s : State) : Res := .next <|
  let k := (16 * port.val + ld.val) * 4 + d.val
  let h := s.hdmAt port.val ld.val d.val
  if h.committed && h.locked then s
  else
    let w3 := ways == 3 || ways == 6 || ways == 12
    let ok := (waysPow2 ways || (w3 && s.linkCxl3 port.val ld.val)) && decide (8 ≤ ig) && decide (ig ≤ 14) &&
      decide (size.toNat % (2 ^ 28 * ways) = 0) && decide (skip.toNat % 2 ^ 28 = 0) &&
      (List.range d.val).all fun j => (s.hdmAt port.val ld.val j).committed
    let x : Hdm := ⟨base, size, ways, ig, skip, ok, !ok, ok && lock⟩
    { s with rgn := { s.rgn with hdm := Sparse.set (fun _ => Hdm.empty) s.rgn.hdm k x } }

/-! ## Pools and partitions (R69, R70, R113) -/

/-- Bands of two pools meet on a common member channel (R69). -/
def State.bandsMeet (s : State) (cfg band : Word) (q : Nat) : Bool :=
  let m1 := poolMembers (RGN_POOL_CFG_SET.get cfg) (RGN_POOL_CFG_CW_A.get cfg) (RGN_POOL_CFG_CW_B.get cfg)
  s.flag RGN_POOL_CFG_VALID q && m1.any (fun c => (s.members q).contains c) &&
    overlap (RGN_POOL_BAND_BASE_GIB.get band) (RGN_POOL_BAND_SIZE_GIB.get band) (s.fld RGN_POOL_BAND_BASE_GIB q)
      (s.fld RGN_POOL_BAND_SIZE_GIB q)

/-- Regions and valid partitions that use pool p (RGN_POOL_CFG.REFS). -/
def State.poolRefs (s : State) (p : Nat) : Nat :=
  (s.rgn.table.countP fun e => e.2.valid && (e.2.cls == .resident || e.2.cls == .scratch) && e.2.place.toNat == p) +
  ((List.range 16).countP fun q => s.flag TIER_PART_CFG_VALID q && s.fld TIER_PART_CFG_POOL q == p)

/-- Checks the fields of pool p as a write would leave them (R69): `none` when they pass; else the reason of CFG_REJECT and
its detail, the number of the pool that overlaps. -/
def State.poolCheck (s : State) (p : Nat) (cfg band : Word) : Option (Nat × Nat) :=
  let set := RGN_POOL_CFG_SET.get cfg
  let base := RGN_POOL_BAND_BASE_GIB.get band
  let size := RGN_POOL_BAND_SIZE_GIB.get band
  let mem := poolMembers set (RGN_POOL_CFG_CW_A.get cfg) (RGN_POOL_CFG_CW_B.get cfg)
  if set = 3 ∨ 4 < RGN_POOL_CFG_GRAIN.get cfg ∨ size = 0 ∨ 512 < base + size then some (3, 0)
  else if set = 1 ∧ RGN_POOL_CFG_CW_A.get cfg = RGN_POOL_CFG_CW_B.get cfg then some (4, 0)
  else if mem.any (fun c => decide (s.chGib c < base + size)) then some (3, 0)
  else match (List.range 16).find? fun q => q != p && s.bandsMeet cfg band q with
    | some q => some (4, q)
    | none => none

-- @row POOL_VALID_SET
/-- R69, R70, R4: a write of RGN_POOL_CFG that sets or keeps VALID. A pool in use keeps its fields; otherwise the fields
as the write leaves them are checked, and the write is taken or refused. -/
def execPoolValidSet (p : Fin 16) (w : Word) (who : Writer) (s : State) : Res := .next <|
  let off := RegName.offset .RGN_POOL_CFG p.val 0 0
  let old := s.regAt .RGN_POOL_CFG p.val 0 0
  let new := w &&& 0x3FF#32 ||| 1#32
  let band := s.regAt .RGN_POOL_BAND p.val 0 0
  if new = old &&& 0x3FF#32 then s
  else if s.poolRefs p.val ≠ 0 then s.reject off w.toNat 1 who
  else match s.poolCheck p.val new band with
    | some (r, d) => s.reject off w.toNat r who d
    | none => s.setRegAt .RGN_POOL_CFG p.val 0 0 new

/-- Checks the ranges of a partition as a write would leave them (R113): `none` when they pass, else the reason. -/
def State.partCheck (s : State) (q : Nat) (cfg : Word) : Option Nat :=
  let pool := TIER_PART_CFG_POOL.get cfg
  let k := TIER_PART_CFG_SETS_LOG2.get cfg
  let data := (s.fld TIER_PART_DATA_FRAME q, 2 ^ k * 16)
  let tag := (s.fld TIER_PART_TAG_FRAME q, 2 ^ (k - 5))
  let beyond (u : Nat × Nat) : Bool := decide (s.poolFrames pool < u.1 + u.2)
  let others := (s.setFld TIER_PART_CFG_VALID 0 q).usedFrames pool none
  if ! s.flag RGN_POOL_CFG_VALID pool then some 4
  else if k < 8 ∨ 27 < k then some 3
  else if beyond data || beyond tag then some 3
  else if overlap data.1 data.2 tag.1 tag.2 then some 4
  else if others.any fun u => overlap data.1 data.2 u.1 u.2 || overlap tag.1 tag.2 u.1 u.2 then some 4
  else none

/-- Whether a valid region names partition q: the partition is running (R113). -/
def State.partUsed (s : State) (q : Nat) : Bool :=
  s.rgn.table.any fun e => e.2.valid && (e.2.cls == .cached || e.2.cls == .streamed) && e.2.place.toNat == q

-- @row PARTITION_VALID_SET
/-- R113, R4: a write of TIER_PART_CFG that sets VALID. While a valid region names the partition its class Q fields are
kept and a change of them is refused, and its class L fields follow the write; otherwise the ranges are checked. -/
def execPartitionValidSet (q : Fin 16) (w : Word) (who : Writer) (s : State) : Res := .next <|
  let off := RegName.offset .TIER_PART_CFG q.val 0 0
  let old := s.regAt .TIER_PART_CFG q.val 0 0
  let new := w &&& 0x3FFFF#32 ||| 1#32
  if s.partUsed q.val then
    let s' := s.setRegAt .TIER_PART_CFG q.val 0 0 ((old &&& 0x3FF#32) ||| (new &&& 0x3FC00#32))
    if new &&& 0x3FF#32 = old &&& 0x3FF#32 then s' else s'.reject off w.toNat 1 who
  else match s.partCheck q.val new with
    | some r => s.reject off w.toNat r who
    | none => s.setRegAt .TIER_PART_CFG q.val 0 0 new

end Sys2Proof.Machine
end

