-- ==== Sys2Proof/Machine/Channels.lean ====
section
/-!
DEFINITION. What the DRAM channels share: the trained rate (R143), the acceptance of DIMMs (R141, R142), the reserved area
(R146), channel states and their record (R149, R178), pool shares, targets and the rebuild of chunks (R170 to R174), the
duplicate partners (R148), timing commits (R158), and device marks (R191).
-/
namespace Sys2Proof.Machine

/-! ## States (R149) -/

/-- Moves a channel to a state and writes CH_STATE_CHANGE: NOTICE into RETRAINING, EVACUATING or OFFLINE, else INFO (R149,
R178). -/
def State.setChState (s : State) (n : Nat) (st : ChState) (cause : Nat := 0) : State :=
  let c := s.ch n
  let sev : Sev := if st = .retraining ∨ st = .evacuating ∨ st = .offline then .notice else .info
  ((s.setCh n { c with st := st, afterClosure := st == .offline && c.st == .closed }).sensorChange (0x120 + n) st.code).log 0x1001 sev (srcCh n) n (c.st.code * 16 + st.code) cause

/-- A channel a rebuild may choose: in service and not leaving it. -/
def Channel.isOpen (c : Channel) : Bool :=
  match c.st with
  | .active | .nap1 | .nap2 | .pasr | .retraining => true
  | _ => false

/-- Notes an error of a channel in CH_ERR (R177, R426). -/
def State.chErr (s : State) (n code : Nat) : State := s.noteErr CH_ERR_FIRST CH_ERR_MULTI CH_ERR_COUNT n code

/-! ## DIMMs and rates (R141 to R146) -/

/-- MT/s of a code of CH_STATE.RATE. -/
def rateMts : Nat → Nat
  | 1 => 4800 | 2 => 5600 | 3 => 6400 | 4 => 7200 | 5 => 8000 | 6 => 8800 | 7 => 2666 | 8 => 2933 | 9 => 3200
  | _ => 0

/-- The rate codes of a DIMM family, highest first. -/
def familyRates (typ : Nat) : List Nat := if typ = 1 then [6, 5, 4, 3, 2, 1] else [9, 8, 7]

/-- Highest rate in MT/s that the ordering code and the population allow (R143). -/
def populationMts (grade88 : Bool) (typ dimms : Nat) : Nat :=
  if typ = 1 then (if grade88 && dimms == 1 then 8800 else 6400) else (if dimms = 1 then 3200 else 2933)

/-- Whether the ordering code is HYT-6416-88 (R1). -/
def State.grade88 (s : State) : Bool := s.fld GLB_REV_GRADE == 1

/-- The rate a channel trains at (R143); `none`: no rate of the family is allowed. RATE_CAP 0 is no cap. -/
def State.trainRate (s : State) (n typ : Nat) (ds : List DimmSpd) : Option Nat :=
  let cap := s.fld CH_CTL_RATE_CAP n
  (familyRates typ).find? fun r =>
    decide (rateMts r ≤ populationMts s.grade88 typ ds.length) && (cap == 0 || decide (rateMts r ≤ rateMts cap)) &&
      ds.all fun d => d.rates.any fun x => (familyRates typ).contains x && decide (rateMts r ≤ rateMts x)

/-- Why a DIMM by itself is refused (R141, R144): the reason of DIMM_REFUSED, or `none`. -/
def DimmSpd.refusal (d : DimmSpd) : Option Nat :=
  if ! d.ok then some 8
  else if (d.typ ≠ 1 ∧ d.typ ≠ 2) ∨ ! d.rdimm then some 1
  else if ! d.x4 then some 2
  else if ! d.busOk then some 3
  else if (if d.typ = 1 then d.density < 1 ∨ 3 < d.density else 1 < d.density) then some 4
  else if (d.ranks ≠ 1 ∧ d.ranks ≠ 2) ∨ (d.height ≠ 1 ∧ d.height ≠ 2 ∧ d.height ≠ 4) then some 10
  else if (if d.typ = 1 then d.gib < 32 ∨ 256 < d.gib else d.gib < 16 ∨ 128 < d.gib) then some 5
  else if (familyRates d.typ).all fun r => ! d.rates.contains r then some 9
  else none

/-- The refusals of a channel's population: slot and reason; with none of them, the DIMMs that are used (R141, R142). -/
def dimmRefusals (a b : Option DimmSpd) : List (Nat × Nat) :=
  let one (slot : Nat) (d : Option DimmSpd) : List (Nat × Nat) := (d.bind DimmSpd.refusal).toList.map fun r => (slot, r)
  match one 0 a ++ one 1 b with
  | [] => match a, b with
    | none, some _ => [(1, 7)]
    | some x, some y =>
      if x.typ = y.typ ∧ x.density = y.density ∧ x.ranks = y.ranks ∧ x.height = y.height then [] else [(0, 6)]
    | _, _ => []
  | l => l

/-- Logs the refusals of a channel and sets CH_ERR (R141, R177). -/
def State.refuseDimms (s : State) (n : Nat) (rs : List (Nat × Nat)) : State :=
  rs.foldl (fun s r => (s.chErr n (if r.2 = 8 then 0x08 else 0x09)).log 0x1008 .error (srcCh n) (n + 256 * r.1) r.2) s

/-- The HEIGHT code of CH_POP. -/
def heightCode (h : Nat) : Nat := if h = 4 then 2 else if h = 2 then 1 else 0

/-- What CH_POP shows of an accepted DIMM. -/
def DimmSpd.dimm (d : DimmSpd) : Dimm := ⟨true, d.ranks - 1, heightCode d.height, d.density, d.gib⟩

/-- GiB set aside as the reserved area (R146): one 256th of the capacity rounded up, at least 1. -/
def reservedGib (cap : Nat) : Nat := max 1 ((cap + 255) / 256)

/-- Sets the widths of CH_AMAP that follow from the SPD (R72, R144). -/
def State.setAmap (s : State) (n : Nat) (ds : List DimmSpd) : State :=
  match ds with
  | [] => s
  | d :: _ =>
    let s := s.setFld CH_AMAP_SC_W (if d.typ = 1 then 1 else 0) n
    let s := s.setFld CH_AMAP_BG_W d.bgW n
    let s := s.setFld CH_AMAP_BA_W d.baW n
    let s := s.setFld CH_AMAP_COL_W d.colW n
    let s := s.setFld CH_AMAP_RK_W (d.ranks * d.height * ds.length).log2 n
    s.setFld CH_AMAP_ROW_W d.rowW n

/-- The timing registers, in order. -/
def timRegs : List RegName :=
  [.CH_TIM0, .CH_TIM1, .CH_TIM2, .CH_TIM3, .CH_TIM4, .CH_TIM5, .CH_TIM6, .CH_TIM7, .CH_TIM8, .CH_TIM9, .CH_TIM10, .CH_TIM11,
   .CH_TIM12, .CH_TIM13]

/-- Writes the shadows of the timing registers. -/
def State.setShadows (s : State) (n : Nat) (ws : List Word) : State :=
  (timRegs.zip ws).foldl (fun s p => s.setRegAt p.1 n 0 0 p.2) s

/-- The shadows of the timing registers. -/
def State.timShadows (s : State) (n : Nat) : List Word := timRegs.map fun r => s.regAt r n 0 0

/-- Whether a shadow field may be applied (R158): inside its range, and not on the unsafe side of its trained value; TREFI
is a maximum, every other field a minimum. -/
def Field.safe (f : Field) (shadow trained : Word) : Bool :=
  (f.ok.isEmpty || f.ok.any fun r => decide (r.1 ≤ f.get shadow) && decide (f.get shadow ≤ r.2)) &&
    (if f = CH_TIM6_TREFI then decide (f.get shadow ≤ f.get trained) else decide (f.get trained ≤ f.get shadow))

/-- The timing fields marked DDR5 only, which are ignored on a DDR4 channel (R158). -/
def ddr5Fields : List Field :=
  [CH_TIM3_TCCD_L_WR, CH_TIM4_TPPD, CH_TIM7_TRFCSB, CH_TIM8_TREFSBRD, CH_TIM11_TOSCO, CH_TIM12_RAAIMT, CH_TIM12_RAAMMT]

/-- The first timing register whose shadow may not be applied (R158); RAAMMT is at least RAAIMT. -/
def unsafeReg (ddr4 : Bool) (shadow trained : List Word) : Option RegName :=
  (timRegs.zip (shadow.zip trained)).findSome? fun (r, w, t) =>
    if r.fields.all (fun f => ddr4 && ddr5Fields.contains f || f.safe w t) &&
      (ddr4 || r != .CH_TIM12 || decide (CH_TIM12_RAAIMT.get w ≤ CH_TIM12_RAAMMT.get w))
    then none else some r

/-- A timing field as it is in force: the live value, not its shadow (R4, R158). -/
def State.timing (s : State) (f : Field) (n : Nat) : Nat :=
  match (s.ch n).live[timRegs.idxOf f.reg]? with
  | some w => f.get w
  | none => s.fld f n

/-- Applies or refuses a pending timing commit at the start of a full retraining (R158). -/
def State.applyTiming (s : State) (n : Nat) : State :=
  if ! s.flag CH_TIM_COMMIT_COMMIT n then s
  else
    let c := s.ch n
    let s := s.setFld CH_TIM_COMMIT_COMMIT 0 n
    match unsafeReg (c.typ == 2) (s.timShadows n) c.trained with
    | none => (s.setCh n { c with live := s.timShadows n }).setFld CH_TIM_COMMIT_REFUSED 0 n
    | some r =>
      let s := (s.setShadows n c.live).setFld CH_TIM_COMMIT_REFUSED 1 n
      s.reject (RegName.offset .CH_TIM_COMMIT n 0 0) 1 5 c.timBy (r.base - RegName.base .CH_TIM0 + 0x100)

/-! ## Marks (R191) -/

/-- Clears the marks of one subchannel and rank and records it (R191, R199). -/
def State.clearMark (s : State) (n key cause : Nat) : State :=
  let c := s.ch n
  if c.marks.any fun m => m.1 == key then
    (s.setCh n { c with marks := c.marks.filter fun m => m.1 != key }).log 0x1013 .notice (srcCh n) (n + 256 * (key % 2)) (key / 2) cause
  else s

/-- The DIMM that holds a logical rank of a channel (R73). -/
def State.rankDimm (s : State) (n rank : Nat) : Nat :=
  if (s.ch n).dimm1.present then rank / 2 ^ (s.fld CH_AMAP_RK_W n - 1) else 0

/-- Clears the marks of the DIMMs whose serial number differs from the recorded one (R191). -/
def State.checkSerials (s : State) (n ser0 ser1 : Nat) : State :=
  let c := s.ch n
  let changed (rank : Nat) : Bool := if s.rankDimm n rank = 0 then c.serial0 != ser0 else c.serial1 != ser1
  let s := c.marks.foldl (fun s m => if changed (m.1 / 2) then s.clearMark n m.1 2 else s) s
  s.setCh n { s.ch n with serial0 := ser0, serial1 := ser1 }

/-- Takes the DIMMs of a channel into use: type, rate, capacity, population, SPD copy, address widths, trained timing and
marks (R143, R144, R146, R158, R191). -/
def State.adoptDimms (s : State) (n rate : Nat) (a b : Option DimmSpd) (timing : List Word) : State :=
  let ds := a.toList ++ b.toList
  let gib := (ds.map DimmSpd.gib).sum
  let c := s.ch n
  let s := s.setCh n { c with
    typ := (ds.head?.map DimmSpd.typ).getD 0, rate := rate, capGib := gib - reservedGib gib, rsvGib := reservedGib gib,
    dimm0 := (a.map DimmSpd.dimm).getD Dimm.empty, dimm1 := (b.map DimmSpd.dimm).getD Dimm.empty,
    spd0 := (a.map DimmSpd.words).getD [], spd1 := (b.map DimmSpd.words).getD [], trained := timing, live := timing }
  ((s.setAmap n ds).setShadows n timing).checkSerials n ((a.map DimmSpd.serial).getD 0) ((b.map DimmSpd.serial).getD 0)

/-! ## Shares and targets (R170, R173, R175) -/

/-- Chunks of one member's share of pool p. -/
def State.shareChunks (s : State) (p : Nat) : Nat :=
  s.fld RGN_POOL_BAND_SIZE_GIB p * 2 ^ 30 / grainBytes (s.fld RGN_POOL_CFG_GRAIN p)

/-- The channel that holds member m of pool p (R68, R71). -/
def State.memberCh (s : State) (p m : Nat) : Nat :=
  match s.remapOf p m with
  | some k => s.fld RGN_POOL_REMAP_TARGET_CH p k
  | none => (s.members p).getD m 0

/-- The pool shares on a channel: pool and member. -/
def State.sharesOn (s : State) (n : Nat) : List (Nat × Nat) :=
  (List.range 16).flatMap fun p =>
    if s.flag RGN_POOL_CFG_VALID p then
      ((List.range (s.members p).length).filter fun m => s.memberCh p m == n).map fun m => (p, m)
    else []

/-- Bands on channel x in GiB, base and size: pool bands of its members and bands its remap slots hold, and those that
`extra` chooses. -/
def State.bandsOn (s : State) (x : Nat) (extra : List (Nat × Nat × Nat)) : List (Nat × Nat) :=
  ((List.range 16).flatMap fun p =>
    if s.flag RGN_POOL_CFG_VALID p then
      let size := s.fld RGN_POOL_BAND_SIZE_GIB p
      (if (s.members p).contains x then [(s.fld RGN_POOL_BAND_BASE_GIB p, size)] else []) ++
        (List.range 2).filterMap fun k =>
          if s.flag RGN_POOL_REMAP_VALID p k && s.fld RGN_POOL_REMAP_TARGET_CH p k == x
          then some (s.fld RGN_POOL_REMAP_TARGET_BASE_GIB p k, size) else none
    else []) ++
  extra.filterMap fun e => if e.1 = x then some e.2 else none

/-- Free usable capacity of channel x outside every band, in GiB. -/
def State.freeGib (s : State) (x : Nat) (extra : List (Nat × Nat × Nat)) : Nat :=
  (s.ch x).capGib - ((s.bandsOn x extra).map Prod.snd).sum

/-- The lowest free band of a size on channel x (log entry 9). -/
def State.freeBand (s : State) (x size : Nat) (extra : List (Nat × Nat × Nat)) : Option Nat :=
  let bs := s.bandsOn x extra
  ((0 :: bs.map fun b => b.1 + b.2).filter fun c =>
    decide (c + size ≤ (s.ch x).capGib) && !bs.any fun b => decide (c < b.1 + b.2) && decide (b.1 < c + size)).foldl
      (fun o c => match o with | none => some c | some d => some (min c d)) none

/-- The rebuild target of a share of pool p that leaves channel n (R170): the open channel with the most free usable
capacity that holds a free band, lowest number on a tie, and the band's base. -/
def State.chooseTarget (s : State) (n p : Nat) (extra : List (Nat × Nat × Nat)) : Option (Nat × Nat) :=
  let size := s.fld RGN_POOL_BAND_SIZE_GIB p
  ((List.range 16).foldl (fun (best : Option (Nat × Nat × Nat)) x =>
    if x = n || !(s.ch x).isOpen then best
    else match s.freeBand x size extra with
      | none => best
      | some b =>
        let f := s.freeGib x extra
        match best with
        | some (f', _, _) => if f' < f then some (f, x, b) else best
        | none => some (f, x, b)) none).map fun r => (r.2.1, r.2.2)

/-- The remap slot a share of pool p takes: the one its member already uses, or a free one (R71, R173). -/
def State.slotFor (s : State) (p m : Nat) : Option Nat :=
  match s.remapOf p m with
  | some k => some k
  | none => (List.range 2).find? fun k => ! s.flag RGN_POOL_REMAP_VALID p k

/-- Chooses targets for shares that leave channel n, each choice counting for the next; a pool's slots are counted as they
are taken. The result lists each share with its slot and its target. -/
def State.planShares (s : State) (n : Nat) (shares : List (Nat × Nat)) : List (Nat × Nat × Option (Nat × Nat × Nat)) :=
  (shares.foldl (fun (acc : List (Nat × Nat × Option (Nat × Nat × Nat)) × List (Nat × Nat × Nat)) sh =>
    let (done, extra) := acc
    let taken := done.filterMap fun d => if d.1 = sh.1 then d.2.2.map fun t => t.1 else none
    let slot := match s.remapOf sh.1 sh.2 with
      | some k => some k
      | none => (List.range 2).find? fun k => ! s.flag RGN_POOL_REMAP_VALID sh.1 k && ! taken.contains k
    match slot, s.chooseTarget n sh.1 extra with
    | some k, some (x, b) =>
      (done ++ [(sh.1, sh.2, some (k, x, b))], extra ++ [(x, b, s.fld RGN_POOL_BAND_SIZE_GIB sh.1)])
    | _, _ => (done ++ [(sh.1, sh.2, none)], extra)) ([], [])).1

/-- The remaps a plan commits. -/
def planRemaps (plan : List (Nat × Nat × Option (Nat × Nat × Nat))) : List (Nat × Nat × Bool × Nat × Nat × Nat) :=
  plan.filterMap fun e => e.2.2.map fun t => (e.1, t.1, true, e.2.1, t.2.1, t.2.2)

/-! ## Partners of duplicated lines (R147, R148) -/

/-- A new home for second copies whose first copies lie on channel `first`: an open channel in another carriageway, not n.
R148 takes the one with the most free reserved capacity; how much of a reserved area is in use is not stated, so the
choice among them is a free value. -/
def State.pickPartner (s : State) (n first : Nat) : Nat × State :=
  let c := (List.range 16).filter fun x => x != n && x / 4 != first / 4 && (s.ch x).isOpen
  let (k, s) := s.fresh
  (c.getD (k % c.length) ((first + 4) % 16), s)

/-- Re-homes the duplicated lines that involve a channel that leaves service (R148). -/
def State.rehome (s : State) (n : Nat) : State :=
  let old := (s.ch n).partner
  let (q, s) := s.pickPartner n old
  let s := s.setCh n { s.ch n with partner := q }
  (List.range 16).foldl (fun s p =>
    if p != n && (s.ch p).partner == n then
      let (q, s) := s.pickPartner n p
      s.setCh p { s.ch p with partner := q }
    else s) s

/-! ## The content of a share (R171, R173) -/

/-- The DPA that pool p holds at an offset: of a RESIDENT or SCRATCH region, or of a cached page that holds the way. -/
def State.poolOwner (s : State) (p o : Nat) : Option (Nat × Nat) :=
  let f := o / 4096
  match s.rgn.table.find? fun e =>
      e.2.valid && (e.2.cls == .resident || e.2.cls == .scratch) && e.2.place.toNat == p &&
        decide (e.2.frameBase.toNat ≤ f) && decide (f < e.2.frameBase.toNat + e.2.pageCount) with
  | some e => some (e.1, e.2.start + (o - e.2.frameBase.toNat * 4096))
  | none =>
    (s.tier.pages.findSome? fun e => match s.regionOf (e.1 * 4096) with
      | some (i, r) =>
        if (r.cls == .cached || r.cls == .streamed) && s.poolOf r == p && e.2.st != .invalid &&
            s.cacheFrame r.place.toNat e.1 e.2.way == f then some (i, e.1 * 4096 + o % 4096) else none
      | none => none)

/-- The offsets of the lines of chunk k of member m of pool p. -/
def State.chunkOffsets (s : State) (p m k : Nat) : List Nat :=
  let g := grainBytes (s.fld RGN_POOL_CFG_GRAIN p)
  (List.range (g / 64)).map fun i => (k * (s.members p).length + m) * g + i * 64

/-- What a rebuild does with one line (R171): nothing, take it from its NAND home, from the twin, poison it, or drop the
cache way. -/
inductive RebuildFrom where | keep | home | twin | poison | dropWay
  deriving DecidableEq, Repr

/-- The row of R171 for a line: `lost` shares keep their RESIDENT and SCRATCH lines poisoned (R173); a twin that is gone for
100 ms is as mirror NONE (R172). -/
def State.rebuildRow (s : State) (i : Nat) (l : Nat) (lost gone : Bool) : RebuildFrom :=
  let r := s.region i
  let pg := s.page (l / 64)
  let cached := r.cls == .cached || r.cls == .streamed
  if lost && ! cached then .poison
  else match r.cls, pg.st with
  | .scratch, _ => .poison
  | _, .invalid => if cached then .keep else .home
  | _, .filling => .keep
  | _, .clean => if cached then .dropWay else .home
  | _, .evicting => if cached then .dropWay else .home
  | _, _ =>
    if ! pg.counted then .poison
    else match r.mirror with
      | .none => .poison
      | .sync => if gone then .poison else .twin
      | .async => if gone || s.rangeUnplaced (l / 2 ^ 15) then .poison else .twin

/-- Rebuilds one line of a chunk: queued writes of the channel keep their newer data (R171, first row). `twin`: the copies
the twin returned, by line index; a line it did not return is as a failed copy (R185). -/
def State.rebuildLine (s : State) (n : Nat) (lost : Bool) (twin : List (Nat × LineData)) (o p : Nat) : State :=
  match s.poolOwner p o with
  | none => s
  | some (i, dpa) =>
    let l := dpa / 64
    let c := s.ch n
    if c.wq.any fun w => w.line == l && !w.part then s
    else
      let poison (s : State) : State :=
        let s := s.setLine l poisonLine
        let c := s.ch n
        let dam := if c.rebDamaged.contains i then c.rebDamaged else c.rebDamaged ++ [i]
        let s := s.setCh n { c with rebPoison := c.rebPoison + 1, rebDamaged := dam }
        s.markDamaged i
      match s.rebuildRow i l lost c.twinGone with
      | .keep => s
      | .home => s.setLine l (s.homeLine l)
      | .dropWay => s.setPage (l / 64) Page.empty
      | .poison => poison s
      | .twin => match twin.find? fun t => t.1 == l with
        | some t =>
          let s := if l % 64 = 0 then s.setCh n { c with rebTwin := c.rebTwin + 1 } else s
          s.setLine l (mkLine l t.2)
        | none => poison s

/-- Whether chunk k of a share is done. -/
def Share.isDone (x : Share) (k : Nat) : Bool := decide (k < x.cursor) || x.done.contains k

/-- Marks a chunk done; the cursor moves over every chunk done. -/
def Share.mark (x : Share) (k : Nat) : Share :=
  let d := if x.isDone k then x.done else x.done ++ [k]
  let c := d.length.repeat (fun c => if d.contains c then c + 1 else c) x.cursor
  { x with cursor := c, done := d.filter fun j => decide (c ≤ j) }

/-- Whether every chunk of a share with a target is done. -/
def Share.finished (x : Share) : Bool := x.target.isNone || decide (x.total ≤ x.cursor)

/-- Lines of a chunk that only an absent twin could give: the chunk waits (R172). -/
def State.chunkWaits (s : State) (n : Nat) (x : Share) (k : Nat) : Bool :=
  ! s.twinUp && (s.chunkOffsets x.pool x.member k).any fun o => match s.poolOwner x.pool o with
    | none => false
    | some (i, dpa) => s.rebuildRow i (dpa / 64) x.lost (s.ch n).twinGone == .twin

/-- Changes the share of a pool and member on a channel. -/
def State.setShare (s : State) (n : Nat) (x : Share) : State :=
  let c := s.ch n
  s.setCh n { c with shares := c.shares.map fun y => if y.pool = x.pool ∧ y.member = x.member then x else y }

/-- The rebuild of a closed channel ends once every share is finished and none waits for capacity (R174). -/
def State.rebuildEnds (s : State) (n : Nat) : State :=
  let c := s.ch n
  if c.work = .rebuild ∧ c.shares.all Share.finished ∧ c.noSpace = false then
    let s := s.setCh n { c with work := .none, wq := [] }
    s.log 0x1006 .notice (srcCh n) n c.rebTwin c.rebPoison c.rebDamaged.length
  else s

/-- Rebuilds one chunk of a share of a closed channel, with REBUILD_DONE once every share is finished (R171, R174). -/
def State.rebuildChunk (s : State) (n : Nat) (x : Share) (k : Nat) (twin : List (Nat × LineData)) : State :=
  if x.isDone k || x.target.isNone || s.chunkWaits n x k then s
  else
    let s := (s.chunkOffsets x.pool x.member k).foldl (fun s o => s.rebuildLine n x.lost twin o x.pool) s
    (s.setShare n (x.mark k)).rebuildEnds n

/-- The chunk of a pool offset: chunk number and member position. -/
def State.chunkOf (s : State) (p o : Nat) : Nat × Nat :=
  let c := o / grainBytes (s.fld RGN_POOL_CFG_GRAIN p)
  let n := max 1 (s.members p).length
  (c / n, c % n)

/-- The share of a closed channel that a pool offset lies in: the channel, the share and the chunk. -/
def State.shareAt (s : State) (p o : Nat) : Option (Nat × Share × Nat) :=
  let (k, m) := s.chunkOf p o
  (List.range 16).findSome? fun n =>
    let c := s.ch n
    if c.work = .rebuild then
      (c.shares.find? fun x => x.pool == p && x.member == m).map fun x => (n, x, k)
    else none

/-! ## Closure (R168, R170, R173) -/

/-- Marks DAMAGED every RESIDENT and SCRATCH region of a pool (R173). -/
def State.damagePool (s : State) (p : Nat) : State :=
  (s.rgn.table.filter fun e => e.2.valid && (e.2.cls == .resident || e.2.cls == .scratch) && e.2.place.toNat == p).foldl
    (fun s e => s.markDamaged e.1) s

/-- What follows for a pool whose share finds no target (R173). -/
def State.shareNoSpace (s : State) (n p : Nat) : State :=
  let s := s.setCh n { s.ch n with noSpace := true }
  (s.log 0x1007 .error (srcCh n) n p).damagePool p

/-- Closes a channel (R149, R168, R170): the record, the targets, the remaps at one commit edge, and the shares that find no
target. -/
def State.closeChannel (s : State) (n sub code lanes : Nat) : State :=
  let c := s.ch n
  let s := s.setChState n .closed code
  let s := s.log 0x1005 .critical (srcCh n) (n + 256 * sub) code lanes c.wq.length
  let s := (s.setFld CH_CTL_RETRAIN 0 n).rehome n
  let plan := s.planShares n (s.sharesOn n)
  let shares := plan.map fun e =>
    let x : Share := ⟨e.1, e.2.1, e.2.2.map fun t => (t.2.1, t.2.2), 0, [], s.shareChunks e.1, e.2.2.isNone⟩
    match (s.ch n).shares.find? fun y => y.pool == e.1 && y.member == e.2.1 && y.target == x.target with
    | some y => y
    | none => x
  let s := s.setCh n { s.ch n with work := .rebuild, shares := shares, noSpace := false, twinGone := false, rebTwin := 0,
                                   rebPoison := 0, rebDamaged := [], alerts := [], rows := [], inOrder := [] }
  let s := if planRemaps plan = [] then s else s.commit ⟨[], [], planRemaps plan⟩
  let s := plan.foldl (fun s e => if e.2.2.isNone then s.shareNoSpace n e.1 else s) s
  s.reeval .cause

/-- Tries again to place the shares of closed channels that found no target (R173). -/
def State.retryShares (s : State) : State :=
  (List.range 16).foldl (fun s n =>
    let c := s.ch n
    if c.work = .rebuild ∧ c.noSpace then
      let open_ := c.shares.filter fun x => x.target.isNone
      let plan := s.planShares n (open_.map fun x => (x.pool, x.member))
      let shares := c.shares.map fun x => match plan.find? fun e => e.1 == x.pool && e.2.1 == x.member with
        | some (_, _, some (_, y, b)) => { x with target := some (y, b) }
        | _ => x
      let s := s.setCh n { c with shares := shares, noSpace := shares.any fun x => x.target.isNone }
      let s := if planRemaps plan = [] then s else s.commit ⟨[], [], planRemaps plan⟩
      plan.foldl (fun s e => if e.2.2.isNone then s.log 0x1007 .error (srcCh n) n e.1 else s) s
    else s) s

end Sys2Proof.Machine
end

