-- ==== Sys2Proof/Machine/Commits.lean ====
section
/-!
DEFINITION. The commit edge of region commands and the drain of an epoch (R63, R64), with the retry of rebuild targets that
freed capacity allows (R173).
-/
namespace Sys2Proof.Machine

-- @row RGN_COMMIT
/-- R63, R64: the oldest region command that waits for its commit makes it, unless an older epoch drains. REGION_DESTROY
then waits for its requests, every other command for durability. -/
def execRgnCommit (s : State) : Res := .next <|
  if s.rgn.draining then s
  else match s.rgn.ops.find? fun o => o.stage == .waitCommit with
    | none => s
    | some o =>
      let next : RgnOpStage := if o.kind = .destroy then .waitDrain else .waitDurable
      let ops := s.rgn.ops.map fun (x : RgnOp) => if x = o then { x with stage := next } else x
      let s := { s with rgn := { s.rgn with ops := ops } }
      let s := s.commitEdge o.commit
      if o.kind = .destroy && !s.rgn.draining then (s.finishDestroy o.idx o.old).retryShares else s

-- @row EPOCH_DRAIN_DONE
/-- R64, R62: once no request of the older epoch is in flight, DRAINING clears, a destroyed region is released, and the
oldest waiting commit is made. -/
def execEpochDrainDone (s : State) : Res := .next <|
  if s.rgn.draining && !s.oldInFlight then
    let s := { s with rgn := { s.rgn with draining := false } }
    let s := (s.rgn.ops.filter fun o => o.stage == .waitDrain).foldl (fun s o => (s.finishDestroy o.idx o.old).retryShares) s
    match s.rgn.waiting with
    | [] => s
    | c :: t => ({ s with rgn := { s.rgn with waiting := t } }).commitEdge c
  else s

end Sys2Proof.Machine
end

