-- ==== Sys2Proof/Machine/NandOps.lean ====
section
/-!
DEFINITION. What the units ask of the NAND media: the channels that serve (R202, R208), blocks, dies and the free pool (R215,
R218, R221), the place of a program (R208), the endurance bucket (R219), the save region (R220, R222), and the suspension of
an erase by a read (R216).
-/
namespace Sys2Proof.Machine

/-! ## Channels and dies -/

/-- NAND channel n. -/
def State.nf (s : State) (n : Nat) : NandCh := Sparse.get (fun _ => NandCh.absent) s.nand.chans n

/-- Replaces NAND channel n. -/
def State.setNf (s : State) (n : Nat) (c : NandCh) : State :=
  { s with nand := { s.nand with chans := Sparse.set (fun _ => NandCh.absent) s.nand.chans n c } }

/-- The geometry of the accepted dies. -/
def State.nandGeom (s : State) : NandGeom := s.nand.geom.getD ⟨0, 1, 0, 0, 0, 0, 0⟩

/-- The SERVING channels in ascending order (R208). -/
def State.servingNf (s : State) : List Nat := (List.range 32).filter fun n => (s.nf n).st == .serving

/-- Dies of a channel in service, each numbered chip enable × 4 + LUN (R207). -/
def State.diesOf (s : State) (n : Nat) : List Nat :=
  (List.range 32).filter fun d => decide (d % 4 < (s.nf n).dies / 8) && ! (s.nf n).failed.contains d

/-- Notes an error of a NAND channel (R225). -/
def State.nfErr (s : State) (n code : Nat) : State := s.noteErr NF_ERR_FIRST NF_ERR_MULTI NF_ERR_COUNT n code

/-- Moves a NAND channel to a state and writes NF_STATE_CHANGE (R202, R226). -/
def State.setNfState (s : State) (n : Nat) (st : NfState) (err : Nat := 0) : State :=
  let c := s.nf n
  let sev : Sev := if st = .failed then .error else .notice
  ((s.setNf n { c with st := st }).sensorChange (0x130 + n) st.code).log 0x2001 sev (srcNand n) n (c.st.code * 16 + st.code) err

/-! ## Blocks -/

/-- The key of a block. -/
def blockKey (ch die b : Nat) : Nat := (32 * ch + die) * 16384 + b

/-- A block. -/
def State.block (s : State) (ch die b : Nat) : NandBlock := Sparse.get (fun _ => NandBlock.fresh) s.nand.blocks (blockKey ch die b)

/-- Replaces a block. -/
def State.setBlock (s : State) (ch die b : Nat) (x : NandBlock) : State :=
  { s with nand := { s.nand with blocks := Sparse.set (fun _ => NandBlock.fresh) s.nand.blocks (blockKey ch die b) x } }

/-- The listed blocks of a die, with their numbers. -/
def State.listedBlocks (s : State) (ch die : Nat) : List (Nat × NandBlock) :=
  (s.nand.blocks.filter fun e => e.1 / 16384 == 32 * ch + die).map fun e => (e.1 % 16384, e.2)

/-- Blocks of one image's set on a die: ceil(520 MiB / SLC block size) + 8 (R220). -/
def NandGeom.setBlocks (g : NandGeom) : Nat := if g.slcWords = 0 then 0 else (133120 + g.slcWords - 1) / g.slcWords + 8

/-- What a block is used for (R220, R221): 0 capacity tier, 1 image A, 2 image B. The sets take the lowest-numbered good blocks
of each plane in turn, image A first (log entry 11). -/
def State.blockUse (s : State) (ch die b : Nat) : Nat :=
  let g := s.nandGeom
  let bad := (s.listedBlocks ch die).filter fun e => e.2.status == 1
  if bad.any fun e => e.1 == b then 0
  else
    let rank := b / g.planes - bad.countP fun e => decide (e.1 < b) && e.1 % g.planes == b % g.planes
    let turn := rank * g.planes + b % g.planes
    if turn < g.setBlocks then 1 else if turn < 2 * g.setBlocks then 2 else 0

/-- Free erased capacity-tier blocks of a die (R215). -/
def State.freeBlocks (s : State) (ch die : Nat) : Nat :=
  let g := s.nandGeom
  let taken := (s.listedBlocks ch die).countP fun e => s.blockUse ch die e.1 == 0 && (e.2.status != 0 || e.2.state != .erased)
  g.blocks - 2 * g.setBlocks - taken

/-- NF_FREE.MIN_FREE (R215). -/
def State.minFree (s : State) (ch : Nat) : Nat := (s.diesOf ch).foldl (fun m d => min m (s.freeBlocks ch d)) 65535

/-- The free-pool alarm of a channel is raised. -/
def State.poolAlarm (s : State) (ch : Nat) : Bool := s.nand.alarms.any fun a => a / 32 == ch

/-- Raises or clears the free-pool alarm after a die's pool has changed: raised below FREE_LOW; the channel's alarm clears when
every die's pool is at FREE_LOW + 16 or above (R215). -/
def State.checkPool (s : State) (ch die : Nat) : State :=
  let low := s.fld NF_WL_CTL_FREE_LOW
  let k := 32 * ch + die
  let n := s.freeBlocks ch die
  if n < low then
    if s.nand.alarms.contains k then s
    else (({ s with nand := { s.nand with alarms := s.nand.alarms ++ [k] } }).nfErr ch 8).log 0x2006 .error (srcNand ch) (ch + 256 * die) n
  else if s.poolAlarm ch && (s.diesOf ch).all fun d => decide (low + 16 ≤ s.freeBlocks ch d) then
    ({ s with nand := { s.nand with alarms := s.nand.alarms.filter fun a => a / 32 != ch } }).log 0x2006 .notice (srcNand ch) (ch + 256 * die) n
  else s

/-- Codewords a capacity-tier block holds. -/
def State.blockWords (s : State) : Nat := 4 * s.nandGeom.pages

/-- The block of a die a program goes to: its open block, or the erased block with the lowest counter, lowest number on a tie
(R208, R218). -/
def State.openBlock (s : State) (ch die : Nat) : Option Nat :=
  let ls := s.listedBlocks ch die
  match ls.find? fun e => e.2.state == .opened && e.2.status == 0 with
  | some e => some e.1
  | none =>
    match (List.range s.nandGeom.blocks).find? fun b => s.blockUse ch die b == 0 && ! ls.any fun e => e.1 == b with
    | some b => some b
    | none =>
      let free := ls.filter fun e => s.blockUse ch die e.1 == 0 && e.2.status == 0 && e.2.state == .erased
      (free.foldl (fun (o : Option (Nat × NandBlock)) e => match o with
        | none => some e
        | some x => if e.2.ec < x.2.ec then some e else some x) none).map Prod.fst

/-! ## Programs (R208, R214, R219) -/

/-- New programs and erases may be issued (R224). -/
def State.nandPowered (s : State) : Bool := s.nand.brownout == 0

/-- The channel of a page's program (R208); `skip`: a channel that has failed it twice (R214). -/
def State.homeChannel (s : State) (k : Nat) (skip : Option Nat) : Option Nat :=
  let list := (s.servingNf.filter fun n => some n != skip)
  let list := if list = [] then s.servingNf else list
  if list = [] then none else some (list.getD ((k + k / 32) % list.length) 0)

/-- Takes the place of one program of a page: channel, the die (least busy: a free value among the dies in service without an
alarm, or among all of them), its block, and the next codeword. `none`: nothing can be programmed now. -/
def State.allocHome (s : State) (k : Nat) (skip : Option Nat := none) : Option (HomeLoc × State) :=
  if ! s.nandPowered then none
  else match s.homeChannel k skip with
    | none => none
    | some ch =>
      let ok := (s.diesOf ch).filter fun d => ! s.nand.alarms.contains (32 * ch + d)
      let ds := if ok = [] then s.diesOf ch else ok
      let (v, s) := s.fresh
      let die := ds.getD (v % ds.length) 0
      match s.openBlock ch die with
      | none => none
      | some b =>
        let x := s.block ch die b
        let used := x.used + 1
        let st : BlockUse := if s.blockWords ≤ used then .closed else .opened
        let s := (s.setBlock ch die b { x with used := used, state := st }).checkPool ch die
        some (⟨ch, die, b, x.used⟩, s)

/-- Takes tokens of the endurance bucket (R219): it fills at the target up to one hour's worth, and full-rate write-back may
take it into debt down to one day's worth. One GiB is 2^18 codewords. -/
def State.takeTokens (s : State) (n : Nat) : State :=
  let t : Int := s.fld NF_ENDUR_CTL_DWB_TARGET_GIB
  if t = 0 then s
  else
    let day := t * 2 ^ 18
    let dt : Int := s.timeNs - s.nand.tokenAt
    let fill := day * dt / (86400 * 10 ^ 9)
    let have_ := min (day / 24) (s.nand.tokens + fill)
    let at_ := if fill = 0 then s.nand.tokenAt else s.timeNs
    { s with nand := { s.nand with tokens := max (-day) (have_ - n), tokenAt := at_ } }

/-- Background write-back may program: tokens remain, or the governor is off (R219). -/
def State.tokensLeft (s : State) : Bool := s.fld NF_ENDUR_CTL_DWB_TARGET_GIB == 0 || decide (0 < (s.takeTokens 0).nand.tokens)

/-- Counts programmed codewords for the checkpoint, for WA_PCT and for DAY_GIB (R210, R219). -/
def State.countPrograms (s : State) (home all : Nat) : State :=
  let keep := s.nand.programs.filter fun e => decide (s.timeNs < e.1 + 86400 * 10 ^ 9)
  { s with nand := { s.nand with programs := keep ++ [(s.timeNs, home, all)], sinceCkpt := s.nand.sinceCkpt + all } }

/-- DAY_GIB and WA_PCT of the last day (R219). -/
def State.dayHome (s : State) : Nat × Nat :=
  let keep := s.nand.programs.filter fun e => decide (s.timeNs < e.1 + 86400 * 10 ^ 9)
  let home := (keep.map fun e => e.2.1).sum
  let all := (keep.map fun e => e.2.2).sum
  (home / 2 ^ 18, if home = 0 then 0 else all * 100 / home)

/-- The home map entry of a page changes as its program finishes (R210). -/
def State.setMap (s : State) (k : Nat) (loc : HomeLoc) : State :=
  { s with nand := { s.nand with
      map := (s.nand.map.filter fun e => decide (e.1 < k)) ++ [(k, loc)] ++ s.nand.map.filter fun e => decide (k < e.1)
      mapDirty := if s.nand.mapDirty.contains (k / 512) then s.nand.mapDirty else s.nand.mapDirty ++ [k / 512]
      lost := s.nand.lost.filter fun q => q != k } }

/-- A page is programmed home at a place: its lines and its map entry. -/
def State.programHome (s : State) (k : Nat) (lines : List Line) (loc : HomeLoc) : State :=
  let s := (lines.zipIdx).foldl (fun s p => s.setHome (64 * k + p.2) p.1) s
  (s.setMap k loc).countPrograms 1 1

/-- Home codewords on a block: pages whose map entry names it. -/
def State.validOn (s : State) (ch die b : Nat) : List Nat :=
  (s.nand.map.filter fun e => e.2.ch == ch && e.2.die == die && e.2.block == b).map Prod.fst

/-- Moves home codewords to new places (R213 to R215, R218): their content stays. -/
def State.movePages (s : State) (ks : List Nat) : State :=
  ks.foldl (fun s k => match s.allocHome k with
    | some (loc, s) => (s.setMap k loc).countPrograms 0 1
    | none => s) s

/-- Starts the erase of a block whose valid codewords have been moved. -/
def State.startErase (s : State) (ch die b : Nat) : State :=
  if ! s.nandPowered || (s.nand.erases.any fun e => e.ch == ch && e.die == die && e.block == b) then s
  else
    let s := s.setBlock ch die b { s.block ch die b with state := .erasing }
    { s with nand := { s.nand with erases := s.nand.erases ++ [⟨ch, die, b, none, 0, false, false⟩] } }

/-- Retires a block: its valid codewords are moved and its status is entered (2 grown bad, 3 worn out). -/
def State.retireBlock (s : State) (ch die b status : Nat) : State :=
  let s := s.setBlock ch die b { s.block ch die b with status := status, state := .closed }
  (s.movePages (s.validOn ch die b)).checkPool ch die

/-- A read for a die that is erasing suspends the erase, unless its guard has fired (R216, R217). -/
def State.suspendErase (s : State) (loc : HomeLoc) : State :=
  let one (e : NandErase) : NandErase :=
    if e.ch = loc.ch ∧ e.die = loc.die ∧ e.suspended.isNone ∧ ! e.guarded then { e with suspended := some s.timeNs } else e
  { s with nand := { s.nand with erases := s.nand.erases.map one } }

/-- Total suspension of an erase by now. -/
def State.suspendedFor (s : State) (e : NandErase) : Nat := e.total + (match e.suspended with | some t => s.timeNs - t | none => 0)

/-! ## The save region (R95, R220, R222) -/

/-- Bytes of good capacity of an image (false A, true B): per die at most 520 MiB, less the summaries and 1 GiB of metadata. -/
def State.imageCapacity (s : State) (b : Bool) : Nat :=
  let g := s.nandGeom
  let want := if b then 2 else 1
  let words := (s.servingNf.map fun ch => ((s.diesOf ch).map fun d =>
    let bad := (s.listedBlocks ch d).countP fun e => decide (2 ≤ e.2.status) && s.blockUse ch d e.1 == want
    min 133120 ((g.setBlocks - bad) * g.slcWords)).sum).sum
  words * 4096 * 1022 / 1024 - 2 ^ 30

/-- The image is free and erased (R89, R222). -/
def State.imageFree (s : State) (b : Bool) : Bool := (s.image b).st == .free && s.servingNf != []

/-- Good capacity of the free image a save would write to. -/
def State.freeImageCapacity (s : State) : Nat :=
  max (if s.imageFree false then s.imageCapacity false else 0) (if s.imageFree true then s.imageCapacity true else 0)

/-- At least one save image is free (R89); an image being erased is free already. -/
def State.anyImageFree (s : State) : Bool :=
  s.servingNf != [] && ((s.per.imageA.st == .free || s.per.imageA.st == .erasing) || (s.per.imageB.st == .free || s.per.imageB.st == .erasing))

/-! ## The tailback queues (R346 to R349) -/

/-- Requests parked on a NAND channel. -/
def State.tbDepth (s : State) (ch : Nat) : Nat := s.arb.parked.countP fun x => x.ch == ch

/-- A request leaves the tailback queue. -/
def State.unpark (s : State) (page : Nat) : State :=
  { s with arb := { s.arb with parked := s.arb.parked.filter fun x => x.page != page } }

/-- A request that loses the bus, or has it taken from it, is parked with its order; a full queue does not accept it, which is counted
and logged (R348, R349). -/
def State.park (s : State) (bus : BusUse) (ch order page : Nat) : Bool × State :=
  match bus with
  | .won => (true, s)
  | _ =>
    let s := if bus = .preempted then s.bump NF_PREEMPT_CNT_COUNT ch else s
    if 64 ≤ s.tbDepth ch then
      (false, (s.bump ARB_TB_STAT_FULL_CNT ch).logLim 0x2010 ch .notice (srcNand ch) (ch, 1, 0, 0))
    else
      let s := { s with arb := { s.arb with parked := s.arb.parked ++ [Parked.mk ch order page] } }
      (true, s.setFld ARB_TB_STAT_PEAK (max (s.fld ARB_TB_STAT_PEAK ch) (s.tbDepth ch)) ch)

end Sys2Proof.Machine
end

