-- ==== Sys2Proof/Machine/Placement.lean ====
section
/-!
DEFINITION. Placement of pages in DRAM: recency and the choice of a way (R115, R117, R118), write-back starts (R120), fills and
prefetch (R119, R121), and the slots of a plan's window (R128 to R134).
-/
namespace Sys2Proof.Machine

/-- The tier engine of a DPA: that of the carriageway that holds its frame. -/
def State.tierSrc (s : State) (dpa : Nat) : Nat :=
  match s.regionOf dpa with
  | some (_, r) => srcTier ((s.dramAddr r dpa (s.page (dpa / 4096)).way).ch / 4)
  | none => srcTier 0

/-! ## Sets and recency -/

/-- A region's pages live in a cache partition. -/
def Region.cachedLike (r : Region) : Bool := r.cls == .cached || r.cls == .streamed

/-- The set of a page of a partition. -/
def State.setOf (s : State) (part k : Nat) : Nat := cacheSet k (s.fld TIER_PART_CFG_SETS_LOG2 part)

/-- The pages of a set: page number and entry, INVALID ones left out. -/
def State.setPages (s : State) (part set : Nat) : List (Nat × Page) :=
  s.tier.pages.filter fun e => e.2.st != .invalid && s.setOf part e.1 == set &&
    (match s.regionOf (e.1 * 4096) with | some (_, r) => r.cachedLike && r.place.toNat == part | none => false)

/-- A page is used: its AGE becomes 0, and the ages below its old one in the set rise by one (R115, log entry 12). -/
def State.touch (s : State) (part k : Nat) : State :=
  let old := (s.page k).age
  let s := (s.setPages part (s.setOf part k)).foldl (fun s e =>
    if e.1 ≠ k ∧ e.2.age < old then s.setPage e.1 { s.page e.1 with age := e.2.age + 1 } else s) s
  s.setPage k { s.page k with age := 0 }

/-- A page of a set enters it: the ages of the others rise, up to 15. -/
def State.enterSet (s : State) (part k : Nat) : State :=
  (s.setPages part (s.setOf part k)).foldl (fun s e =>
    if e.1 ≠ k then s.setPage e.1 { s.page e.1 with age := min 15 (e.2.age + 1) } else s) s

/-- A way whose frame has a chunk on a share that was not rebuilt is no way of its set (R173). -/
def State.wayLost (s : State) (part k way : Nat) : Bool :=
  let p := s.fld TIER_PART_CFG_POOL part
  let o := s.cacheFrame part k way * 4096
  (List.range 64).any fun i => match s.shareAt p (o + 64 * i) with
    | some (_, x, _) => x.target.isNone
    | none => false

/-- What the choice of a way finds (R117). -/
inductive WayChoice where
  | free (way : Nat)
  | clean (page : Nat)
  | dirty (page : Nat)
  | blocked
  deriving DecidableEq, Repr

/-- The oldest of a list of pages. -/
def oldest (ps : List (Nat × Page)) : Option (Nat × Page) :=
  ps.foldl (fun o e => match o with | none => some e | some b => if b.2.age < e.2.age then some e else some b) none

/-- An open page may be evicted: no pins and no pending promotion (R117). -/
def Page.unpinned (p : Page) : Bool := p.pins == 0 && ! p.promo

/-- Counts evictions refused because of pins or a pending promotion (R120). -/
def State.refuseEvict (s : State) (part k n : Nat) : State :=
  if n = 0 then s
  else (s.addFld TIER_EVICT_REF_CNT_COUNT n).logLim 0x6003 0 .info (s.tierSrc (4096 * k)) (n, part, 0, 0) fun l => { l with w4 := l.w4 + n }

/-- Chooses a way for a page (R117): an INVALID way (which one is a free value), the oldest unpinned CLEAN page, the oldest
unpinned DIRTY page. Pages older than the choice that pins or a promotion hold are refused evictions (log entry 13).
`cleanOnly`: for a prefetch (R119). -/
def State.chooseWay (s : State) (part k : Nat) (cleanOnly : Bool) : WayChoice × State :=
  let ps := s.setPages part (s.setOf part k)
  let free := (List.range 16).filter fun w => ! (ps.any fun e => e.2.way == w) && ! s.wayLost part k w
  match free with
  | w :: _ => let (v, s) := s.fresh; (.free (free.getD (v % free.length) w), s)
  | [] =>
    let ok (e : Nat × Page) : Bool := e.2.unpinned && ! s.wayLost part k e.2.way
    let held (st : PageState) (age : Nat) : Nat := ps.countP fun e => e.2.st == st && ! e.2.unpinned && decide (age < e.2.age)
    match oldest (ps.filter fun e => e.2.st == .clean && ok e) with
    | some c => (.clean c.1, s.refuseEvict part k (held .clean c.2.age))
    | none =>
      if cleanOnly then (.blocked, s)
      else
        let refused := ps.countP fun e => e.2.st == .clean && ! e.2.unpinned
        match oldest (ps.filter fun e => e.2.st == .dirty && ok e) with
        | some c => (.dirty c.1, s.refuseEvict part k (refused + held .dirty c.2.age))
        | none => (.blocked, s.refuseEvict part k (refused + ps.countP fun e => e.2.st == .dirty && ! e.2.unpinned))

/-! ## Write-back starts and fills -/

/-- Starts the write-back of a DIRTY page: its lines are read and their program is placed (R120, R208). It stays DIRTY when
nothing can be programmed now (R208, R224). -/
def State.startWriteback (s : State) (k : Nat) (evict : Bool) (bad : List Nat := []) : State :=
  let pg := s.page k
  if pg.st ≠ .dirty ∨ (s.tier.wbs.any fun w => w.page == k) then s
  else match s.allocHome k with
    | none => s
    | some (loc, s) =>
      let content (l : Nat) : Line := let x := s.line l; if bad.contains l || ! x.checks l then poisonLine else x
      let wb : WriteBack := ⟨k, (pageLines k).map content, false, loc⟩
      let s := (s.takeTokens 1).setPage k { pg with st := .writingBack, evictIntent := evict }
      { s with tier := { s.tier with wbs := s.tier.wbs ++ [wb] } }

/-- Starts a fill: the page is FILLING in its way, with the lines already written to it (R121). The read of its home suspends an
erase of the die (R216). -/
def State.startFill (s : State) (k way : Nat) (mask : BitVec 64) (start : Nat) : State :=
  let img := s.imageOf k
  let pg := s.page k
  let s := s.setPage k { pg with st := .filling, way := way, mask := mask, age := 0, evictIntent := false }
  let loc := (s.nand.map.find? fun e => e.1 == k).map Prod.snd
  let step := match loc, img with
    | some l, none => (s.block l.ch l.die l.block).step
    | _, _ => 1
  let f : Fill := ⟨k, img, start, step, [], false, false, []⟩
  let s := { s with tier := { s.tier with fills := s.tier.fills ++ [f] } }
  match loc, img with
  | some l, none => s.suspendErase l
  | _, _ => s

/-- The CLEAN page leaves DRAM through EVICTING, and its way is free (R120, log entry 14). -/
def State.evictClean (s : State) (k : Nat) : State := s.setPage k { Page.empty with inImage := (s.imageOf k).isSome }

/-- Takes a way for a page of a cached region and starts its fill, or makes it wait for the write-back of a DIRTY page (R117).
The answer says whether the page was placed (some true), waits (some false) or the set is blocked (none). -/
def State.placePage (s : State) (part k : Nat) (mask : BitVec 64) (start : Nat) (cleanOnly : Bool := false) : Option Bool × State :=
  match s.chooseWay part k cleanOnly with
  | (.free w, s) => (some true, (s.startFill k w mask start).enterSet part k)
  | (.clean v, s) =>
    let w := (s.page v).way
    (some true, ((s.evictClean v).startFill k w mask start).enterSet part k)
  | (.dirty v, s) =>
    let s := s.startWriteback v true
    (some false, { s with tier := { s.tier with wayWaits := s.tier.wayWaits ++ [(k, start)] } })
  | (.blocked, s) => (none, s)

/-- EVICT_INTENT of a page is cleared by a use of it: the page that waited last for its set chooses a way again (R117, R120). -/
def State.clearIntent (s : State) (part k : Nat) : State :=
  let pg := s.page k
  if ! pg.evictIntent then s
  else
    let s := s.setPage k { pg with evictIntent := false }
    match (s.tier.wayWaits.filter fun w => s.setOf part w.1 == s.setOf part k).getLast? with
    | none => s
    | some (w, t) =>
      let s := { s with tier := { s.tier with wayWaits := s.tier.wayWaits.filter fun x => x.1 != w } }
      (s.placePage part w 0 t).2

/-- Prefetch after a miss (R119, R442): two misses on consecutive pages fill the next PREFETCH pages of the region, into INVALID or
CLEAN unpinned ways. -/
def State.noteMiss (s : State) (i : Nat) (r : Region) (k : Nat) : State :=
  if r.cls ≠ .cached then s
  else
    let part := r.place.toNat
    let n := s.fld TIER_PART_CFG_PREFETCH part
    let last := (s.tier.lastMiss.find? fun e => e.1 == i).map Prod.snd
    let s := { s with tier := { s.tier with lastMiss := (s.tier.lastMiss.filter fun e => e.1 != i) ++ [(i, k)] } }
    if last = some (k - 1) ∧ k ≠ 0 ∧ ! s.hub.hot then
      (List.range n).foldl (fun s j =>
        let q := k + 1 + j
        if q < r.page0 + r.pageCount ∧ (s.page q).st = .invalid ∧ ! s.tier.wayWaits.any (fun w => w.1 == q) then
          (s.placePage part q 0 s.timeNs true).2 else s) s
    else s

/-! ## The window of a plan (R127 to R134) -/

/-- The started plan whose window region has an index. -/
def State.windowPlan (s : State) (i : Nat) : Option Plan :=
  s.tier.plans.find? fun p => p.started && p.image.window == i

/-- A layer's record: the layer of stream k of an image, counted over every pass (R127, R128). -/
def PlanImage.layerOf (x : PlanImage) (k layer : Nat) : PlanLayer :=
  let st := x.streams.getD k ⟨2, false, 0, 0, 1, 0⟩
  x.layers.getD (st.first + layer % max 1 st.layers) ⟨0, 0, 0⟩

/-- A stream has a layer. -/
def PlanStream.has (x : PlanStream) (layer : Nat) : Bool := x.loop || decide (layer < x.layers)

/-- Entry j of a layer. -/
def PlanImage.entryOf (x : PlanImage) (k layer j : Nat) : PlanEntry :=
  x.entries.getD ((x.layerOf k layer).first + j) ⟨0, 0, 0, 0, 0, 0, 0, 0⟩

/-- Bytes of a tile. -/
def PlanEntry.bytes (e : PlanEntry) : Nat := (e.rowsM1 + 1) * (e.colsM1 + 1) * 2 ^ e.elem

/-- First byte, in the window region, of a layer's slot (R128). -/
def PlanImage.slotAt (x : PlanImage) (k layer : Nat) : Nat :=
  let st := x.streams.getD k ⟨2, false, 0, 0, 1, 0⟩
  x.slotBase * 4096 + (st.slot + layer % (st.depth + 1)) * x.slot64k * 65536

/-- The layer whose slot an offset of the window region lies in: the stream, its index in the plan, and the layer that holds
the slot now, the earliest layer not released (R132). -/
def State.slotOf (s : State) (p : Plan) (off : Nat) : Option (Stream × Nat) :=
  s.tier.streams.findSome? fun x =>
    if x.plan ≠ p.slot then none
    else
      let st := p.image.streams.getD x.idx ⟨2, false, 0, 0, 1, 0⟩
      ((List.range (st.depth + 1)).map (x.released + ·)).findSome? fun layer =>
        let a := p.image.slotAt x.idx layer
        if a ≤ off ∧ off < a + p.image.slot64k * 65536 then some (x, layer) else none

/-- The tile entry of a layer that holds an offset of its slot. -/
def PlanImage.tileAt (x : PlanImage) (k layer off : Nat) : Option Nat :=
  (List.range (x.layerOf k layer).entries).find? fun j =>
    let e := x.entryOf k layer j
    e.kind == 0 && decide (e.dst / 64 * 64 ≤ off) && decide (off < (e.dst + e.bytes + 63) / 64 * 64)

/-- A read of a line of a window takes a window detour (R134): the stream, the layer and the tile it waits for. -/
def State.windowDetour (s : State) (i : Nat) (r : Region) (l : Nat) : Option (Stream × Nat × Option Nat) :=
  match s.windowPlan i with
  | none => none
  | some p =>
    let off := 64 * l - r.start
    match s.slotOf p off with
    | none => none
    | some (x, layer) =>
      let st := p.image.streams.getD x.idx ⟨2, false, 0, 0, 1, 0⟩
      if layer < x.done ∨ ! st.has layer then none
      else
        let t := p.image.tileAt x.idx layer (off - p.image.slotAt x.idx layer)
        match t with
        | some j => if x.placed.contains (layer, j) then none else some (x, layer, t)
        | none => some (x, layer, none)

/-- Replaces a stream. -/
def State.setStream (s : State) (x : Stream) : State :=
  { s with tier := { s.tier with streams := s.tier.streams.map fun y => if y.number = x.number then x else y } }

/-- A stream becomes LATE through a layer (R133). -/
def Stream.becomeLate (x : Stream) (layer now : Nat) : Stream :=
  if x.late.isSome then x else { x with st := .late, late := some (layer, now) }

end Sys2Proof.Machine
end

