-- ==== Sys2Proof/Machine/Serve.lean ====
section
/-!
DEFINITION. The read path behind the access checks: decoding a codeword (R189 to R192), the state of the channel (R37, R155,
R167, R170), the states of a page (R53, R120, R123), and the checks at the exit (R25, R184, R196).
-/
namespace Sys2Proof.Machine

/-! ## Requesters -/

/-- The port and LD of word 4 of an event about a requester; an engine's reads have port 8. -/
def State.whoWord (s : State) : Requester → Nat
  | .host p ld _ => s.portWord p ld
  | _ => 8

/-- The exit a requester's data leaves through: event code and engine number of WAYBILL_MISMATCH (R198). -/
def Requester.exit : Requester → Nat × Nat
  | .host p _ _ => (0x4030, p)
  | .rdma _ _ _ => (0x4030, 8)
  | _ => (0x6020, 0)

/-- Counts a waybill mismatch and logs it (R185, R198): code, source, unit, line, region, channel and outcome. -/
def State.waybillEvent (s : State) (code src unit l i ch outcome : Nat) : State :=
  (s.bump CH_WB_CNT_COUNT ch).log code .error src unit (64 * l % 2 ^ 32) (64 * l / 2 ^ 32) (i + ch * 65536 + outcome * 2 ^ 20)

/-- The owner code of a requester's requests (R341). -/
def Requester.owner : Requester → Nat
  | .host p _ _ => p + 1
  | .btt _ _ _ => 0x9
  | .rdma _ _ _ => 0xA
  | .op _ _ => 0xC
  | .internal => 0xD

/-! ## Write-queue bookkeeping (R153 to R156) -/

/-- The bank key of a DRAM address: subchannel, rank, bank group and bank. -/
def DramAddr.bankKey (a : DramAddr) : Nat := ((a.sub * 16 + a.rank) * 8 + a.bg) * 4 + a.bank

/-- The DRAM address of a channel-local address. -/
def State.dram (s : State) (a : ChAddr) : DramAddr := (s.amap a.ch).split a.addr

/-- Queues a write of a line in a channel. A write that is already queued is replaced in place, when no read of the line has
come since (R156); a repair write never is, and a newer write drops it (R192). -/
def State.queueWrite (s : State) (l : Nat) (a : ChAddr) (part repair : Bool) (owner : Nat) : State :=
  let c := s.ch a.ch
  let d := s.dram a
  let wq := c.wq.filter fun w => ! (w.line == l && w.repair)
  let same (w : QWrite) : Bool := w.line == l && ! w.seen
  if repair && c.wq.any (fun w => w.line == l) then s
  else if ! repair && wq.any same then
    s.setCh a.ch { c with wq := wq.map fun w => if same w then { w with part := w.part && part } else w }
  else
    let id := wq.foldl (fun m w => max m (w.id + 1)) 0
    let w : QWrite := ⟨id, l, d.sub, d.bankKey, d.row, owner, s.timeNs, part, repair, false⟩
    s.setCh a.ch { c with wq := wq ++ [w] }

/-- A read reaches the queue of its channel (R155): a queued write of its bank and row puts the bank into in-order mode until
that write retires; a queued write of the line is no longer replaced (R156). -/
def State.readArrives (s : State) (l : Nat) (a : ChAddr) : State :=
  let c := s.ch a.ch
  let d := s.dram a
  match (c.wq.filter fun w => w.bank == d.bankKey && w.row == d.row).getLast? with
  | none => s
  | some w =>
    let order := (c.inOrder.filter fun e => e.1 != d.bankKey) ++ [(d.bankKey, w.id)]
    s.setCh a.ch { c with inOrder := order, wq := c.wq.map fun x => if x.line = l then { x with seen := true } else x }

/-- Holds a read in its channel. -/
def State.holdRead (s : State) (n : Nat) (rd : PendingRead) : State :=
  s.setCh n { s.ch n with held := (s.ch n).held ++ [rd] }

/-! ## Decoding (R189 to R192) -/

/-- What a decode of a line leaves: usable, or uncorrectable. -/
inductive Decoded where | good | bad
  deriving DecidableEq, Repr

/-- Marks a device when trial location has found its position MARK_HITS times in the window (R191). `cause`: 1 trial hits, 2
patrol. -/
def State.trialHit (s : State) (n key dev cause : Nat) : State :=
  let c := s.ch n
  let win := max 1 (s.fld CH_LC_CTL_MARK_WIN_S n) * 10 ^ 9
  let hits := (c.hits.filter fun h => decide (s.timeNs < h.2.2 + win)) ++ [(key, dev, s.timeNs)]
  let s := s.setCh n { c with hits := hits }
  let count := hits.countP fun h => h.1 == key && h.2.1 == dev
  if s.flag CH_LC_CTL_MARK_AUTO n && decide (max 1 (s.fld CH_LC_CTL_MARK_HITS n) ≤ count) && ! c.marks.any (fun m => m.1 == key) then
    (s.setCh n { s.ch n with marks := c.marks ++ [(key, dev)] }).log 0x1012 .error (srcCh n) (n + 256 * (key % 2)) (key / 2) dev cause
  else s

/-- The repair write of a corrected codeword (R192): dropped when a write of the line has entered the queue since. -/
def State.repairWrite (s : State) (l : Nat) (a : ChAddr) : State := s.queueWrite l a false true 0xE

/-- Counts a corrected codeword and its second's LC_CORRECTED (R189, R198). -/
def State.countCorrected (s : State) (n sub dev : Nat) : State :=
  (s.bump CH_CE_CNT_COUNT n).logLim 0x1010 n .info (srcCh n) (n + 256 * sub, 1, dev, 0) fun l => { l with w4 := n + 256 * sub, w5 := l.w5 + 1, w6 := dev }

/-- An uncorrectable codeword: the channel's error register, the count and LC_UNCORRECTABLE with the line address of the
codeword, and the media event (R177, R198, R287). -/
def State.countUncorrectable (s : State) (l : Nat) (a : ChAddr) : State :=
  let d := s.dram a
  let i := ((s.regionOf (64 * l)).map Prod.fst).getD 0
  let s := ((s.chErr a.ch 0x03).bump CH_UE_CNT_COUNT a.ch).log 0x1011 .error (srcCh a.ch) (a.ch + 256 * d.sub) d.rank
    (a.addr / 64 % 2 ^ 32) (a.addr / 64 / 2 ^ 32)
  s.mediaEvent (64 * l) i

/-- Decodes the codeword of a line with the symbols in error that the read finds (R189). `repair`: a correction makes a repair write;
`cause`: who locates a device by trial, 1 a demand read, 2 patrol. -/
def State.decodeWith (s : State) (l : Nat) (a : ChAddr) (errs : List Nat) (repair : Bool) (cause : Nat) : Decoded × State :=
  let d := s.dram a
  let key := 2 * d.rank + d.sub
  let n := a.ch
  let ddr4 := (s.ch n).typ == 2
  let mark := ((s.ch n).marks.find? fun m => m.1 == key).map Prod.snd
  match classify ddr4 mark errs with
  | .clean | .erased => (.good, s)
  | .corrected dev =>
    let s := s.countCorrected n d.sub dev
    (.good, if repair then s.repairWrite l a else s)
  | .located dev =>
    let s := ((s.bump CH_CE_CNT_COUNT n).bump CH_LOC_CNT_COUNT n).trialHit n key dev cause
    (.good, s)
  | .uncorrectable => (.bad, s.countUncorrectable l a)

/-- Decodes the codeword of a line. `patrol`: a patrol read, whose repair write needs SCRUB_WR (R197). -/
def State.decodeLine (s : State) (l : Nat) (a : ChAddr) (errs : List Nat) (patrol : Bool) : Decoded × State :=
  s.decodeWith l a errs (! patrol || s.flag CH_LC_CTL_SCRUB_WR a.ch) (if patrol then 2 else 1)

/-! ## Line recovery (R185) -/

/-- Stores a line poisoned and marks its region DAMAGED (R185). -/
def State.poisonStored (s : State) (i l : Nat) : State := (s.setLine l poisonLine).markDamaged i

/-- Starts line recovery of a line (R185): from the twin when it may serve the line, else the line is stored poisoned. The
answer says whether the twin was asked. -/
def State.recoverLine (s : State) (i : Nat) (r : Region) (l : Nat) (why : TwinReadFor) : Bool × State :=
  if s.twinServes r l then (true, s.twinRead l why) else (false, s.poisonStored i l)

/-! ## The exit of a read (R25, R184, R196) -/

/-- Data of a read leaves: the port checks the waybill and returns a mismatch poisoned; the RDMA engine starts line recovery. In
DDR4 mode the waybill is made on the read path and agrees (R194). `wbBad`: the check finds a mismatch. -/
def State.exitRead (s : State) (rd : PendingRead) (i : Nat) (r : Region) (ch : Nat) (wbBad : Bool) : State :=
  let l := rd.line
  let x := s.line l
  if x.poison ∨ (s.ch ch).typ = 2 ∨ ! (wbBad ∨ ! x.checks l) then s.deliver rd.req l x
  else
    let (code, unit) := rd.req.exit
    match rd.req with
    | .host p _ _ => (s.waybillEvent code (srcPort p) unit l i ch 1).deliver rd.req l poisonLine
    | .rdma _ _ _ =>
      let (asked, s) := s.recoverLine i r l (.recover (some rd))
      if asked then s else (s.waybillEvent code srcRdma unit l i ch 1).deliver rd.req l poisonLine
    | .op _ _ =>
      let (asked, s) := s.recoverLine i r l (.recover (some rd))
      if asked then s else (s.waybillEvent code (srcTier (ch / 4)) (ch / 4) l i ch 1).deliver rd.req l poisonLine
    | _ => s.deliver rd.req l x

/-- A read of a line in DRAM whose chunk is not to be rebuilt: by the state of its channel (R37, R155, R157, R167, R169). -/
def State.readOpen (s : State) (rd : PendingRead) (i : Nat) (r : Region) (a : ChAddr) (errs : List Nat) (wbBad : Bool) : State :=
  let n := a.ch
  let c := s.ch n
  let l := rd.line
  let s := s.readArrives l a
  if c.merges.any fun m => m.line == l then s.holdRead n rd
  else match c.st with
    | .nap1 | .nap2 | .pasr =>
      let s := s.holdRead n rd
      s.setCh n { s.ch n with waking := true }
    | .retraining =>
      if (c.wq.any fun w => w.line == l) || ! s.twinServes r l then s.holdRead n rd
      else
        let s := s.setCh n { s.ch n with twinReads := (s.ch n).twinReads ++ [rd] }
        s.twinRead l (.channel n rd)
    | .closed | .offline => s.deliver rd.req l poisonLine
    | .active | .evacuating =>
      match s.decodeLine l a errs false with
      | (.good, s) => s.exitRead rd i r n wbBad
      | (.bad, s) => s.holdRead n rd

/-- A read of a line whose page is in DRAM (R23, R37, R155, R167, R169, R170). -/
def State.readDram (s : State) (rd : PendingRead) (i : Nat) (r : Region) (errs : List Nat) (wbBad : Bool) : State :=
  let l := rd.line
  let dpa := 64 * l
  let way := (s.page (l / 64)).way
  let p := s.poolOf r
  let o := s.poolOffset r dpa way
  let a := s.poolAddr p o
  match s.shareAt p o with
  | some (n, x, k) =>
    if x.target.isNone then s.deliver rd.req l poisonLine
    else if x.isDone k then s.readOpen rd i r a errs wbBad
    else
      let s := s.rebuildChunk n x k []
      match s.shareAt p o with
      | some (_, x', _) => if x'.isDone k then s.readOpen rd i r a errs wbBad else s.holdRead n rd
      | none => s.readOpen rd i r a errs wbBad
  | none => s.readOpen rd i r a errs wbBad

/-- Counts a detoured read and lets it wait (R123). -/
def State.detour (s : State) (rd : PendingRead) : State :=
  let s := s.bump TIER_DETOUR_CNT_COUNT
  { s with tier := { s.tier with reads := s.tier.reads ++ [rd] } }

/-- A read of a cached page that is not in DRAM (R117, R119, R123): it joins a running fill or a waiting page, or a way is taken;
a blocked set is bypassed. -/
def State.readMissed (s : State) (rd : PendingRead) (i : Nat) (r : Region) : State :=
  let k := rd.line / 64
  let part := r.place.toNat
  let s := s.detour rd
  if (s.tier.wayWaits.any fun w => w.1 == k) || (s.tier.fills.any fun f => f.page == k) then s
  else
    let s := match s.placePage part k 0 rd.start with
      | (some _, s) => s
      | (none, s) =>
        let s := s.bump TIER_BYPASS_CNT_COUNT
        let f : Fill := ⟨k, s.imageOf k, rd.start, 1, [], false, false, []⟩
        { s with tier := { s.tier with
          fills := s.tier.fills ++ [f], reads := s.tier.reads.map fun x => if x = rd then { x with bypass := true } else x } }
    s.noteMiss i r k

/-- Serves a read of a line of a region, after the access checks of R66 on the region (R52, R53, R66, R117, R120, R123, R134). -/
def State.serveRead (s : State) (rd : PendingRead) (i : Nat) (r : Region) (errs : List Nat := []) (wbBad : Bool := false) : State :=
  let l := rd.line
  let k := l / 64
  let pg := s.page k
  match r.cls with
  | .scratch =>
    match s.windowDetour i r l with
    | some (x, layer, t) =>
      let s := s.detour { rd with window := true }
      let x := x.becomeLate layer s.timeNs
      let front := match t with
        | some j => (x.inflight.filter fun e => e == (layer, j)) ++ x.inflight.filter fun e => e != (layer, j)
        | none => x.inflight
      s.setStream { x with inflight := front }
    | none => if pg.st = .invalid then s.deliver rd.req l (zeroLine l) else s.readDram rd i r errs wbBad
  | .resident =>
    match pg.st with
    | .invalid =>
      if s.trimmed k ∧ (s.imageOf k).isNone then (s.setPage k { pg with st := .clean }).deliver rd.req l (zeroLine l)
      else (s.detour rd).startFill k 0 0 rd.start
    | .filling => s.detour rd
    | .writingBack => (s.setPage k { pg with evictIntent := false }).readDram rd i r errs wbBad
    | _ => s.readDram rd i r errs wbBad
  | .cached | .streamed =>
    match pg.st with
    | .invalid => s.readMissed rd i r
    | .filling => s.detour rd
    | .evicting => ((s.setPage k { pg with st := .clean }).touch r.place.toNat k).readDram rd i r errs wbBad
    | _ => ((s.clearIntent r.place.toNat k).touch r.place.toNat k).readDram rd i r errs wbBad

/-- Serves reads again that a channel or a fill has held. -/
def State.serveAgain (s : State) (rds : List PendingRead) : State :=
  rds.foldl (fun s rd => match s.regionOf (64 * rd.line) with
    | some (i, r) => s.serveRead rd i r
    | none => s.deliver rd.req rd.line poisonLine) s

/-- Releases the held reads of a channel that now serves, and the ones sent to the twin as well (R167). -/
def State.releaseHeld (s : State) (n : Nat) (p : PendingRead → Bool := fun _ => true) : State :=
  let rds := (s.ch n).held.filter p
  let s := s.setCh n { s.ch n with held := (s.ch n).held.filter fun r => ! p r }
  s.serveAgain rds

end Sys2Proof.Machine
end

