-- ==== Sys2Proof/Machine/Store.lean ====
section
/-!
DEFINITION. The write path behind the access checks (R26): admission (R80, R82), the hand-off to the mirror, the landing of a
line in its page and its channel (R52, R53, R117, R120, R153, R156, R157), and completion (R77, R78).
-/
namespace Sys2Proof.Machine

/-! ## Milestones (R130 to R132) -/

/-- Serial order of milestone values: a is at or after b (R131). -/
def msGe (a b : BitVec 32) : Bool := (a - b).toNat < 2 ^ 31

/-- The milestone of layers below a count: MS_BASE plus the advances of the layers up to it (R131). -/
def PlanImage.milestone (x : PlanImage) (k : Nat) (base : BitVec 32) (n : Nat) : BitVec 32 :=
  (List.range n).foldl (fun m i => m + BitVec.ofNat 32 (x.layerOf k i).advance) base

/-- Drops pins of a page (R115, R132): the stream's and the sum in the tag. -/
def State.unpin (s : State) (k n : Nat) : State := s.setPage k { s.page k with pins := (s.page k).pins - n }

/-- A stream advances as far as RELEASE allows: layers released, and pins whose layer is released dropped (R132). -/
def State.advanceRelease (s : State) (p : Plan) (x : Stream) : State :=
  let n := (List.range (x.done + 1)).foldl (fun m i =>
    if x.released ≤ i ∧ msGe x.release (p.image.milestone x.idx x.msBase i) then i else m) x.released
  let (gone, kept) := x.pins.partition fun e => decide (e.1 < n)
  let s := s.setStream { x with released := n, pins := kept }
  gone.foldl (fun s e => s.unpin e.2 1) s

/-- A write to a RELEASE line (R132, R133): at or after the current RELEASE and not after READY it is taken, after READY it is
clamped, before it is ignored. RELEASE that reaches READY while a layer still stages makes the stream LATE. -/
def State.takeRelease (s : State) (p : Plan) (x : Stream) (v : BitVec 32) : State :=
  if ! msGe v x.release then s
  else
    let v := if msGe x.ready v then v else x.ready
    let x := { x with release := v }
    let x := if v = x.ready ∧ x.st = .staging then x.becomeLate x.done s.timeNs else x
    s.advanceRelease p x

/-- The controller observes writes to the RELEASE lines of a started plan's milestone page (R132). -/
def State.observeRelease (s : State) (i : Nat) (r : Region) (l : Nat) : State :=
  match s.windowPlan i with
  | none => s
  | some p =>
    let k := l - r.start / 64
    if k / 64 ≠ p.image.msPage ∨ k % 64 < 32 then s
    else match s.tier.streams.find? fun x => x.plan == p.slot && (p.image.streams.getD x.idx ⟨2, false, 0, 0, 1, 0⟩).msIndex == k % 64 - 32 with
      | some x => s.takeRelease p x ((s.line l).data.extractLsb' 0 32)
      | none => s

/-! ## Content (R153, R156, R157, R276) -/

/-- All bytes are enabled. -/
def fullBe : BitVec 64 := BitVec.allOnes 64

/-- The entry of a write: its line as the copy for the twin carries it, unwritten bytes zero (R181). -/
def AdmWrite.entry (w : AdmWrite) : Line := if w.poison then poisonLine else mkLine w.line (mergeBytes 0 w.data w.be)

/-- A partial write merges into one that already waits in the merge buffer (R156). -/
def Merge.add (m : Merge) (data : LineData) (be : BitVec 64) : Merge := { m with data := mergeBytes m.data data be, be := m.be ||| be }

/-- Puts the content of a write into its channel: a full line, or one with poison, replaces the line; a partial line waits in
the merge buffer, or merges at once with a full line that is still queued (R153, R156, R276). -/
def State.writeLine (s : State) (w : AdmWrite) (a : ChAddr) : State :=
  let n := a.ch
  let l := w.line
  let c := s.ch n
  let noMerge (c : Channel) : Channel := { c with merges := c.merges.filter fun m => m.line != l }
  if w.poison ∨ w.be = fullBe then
    let s := (s.setCh n (noMerge c)).setLine l (if w.poison then poisonLine else mkLine l w.data) 1
    s.queueWrite l a false false w.req.owner
  else if c.merges.any fun m => m.line == l then
    let s := s.setCh n { c with merges := c.merges.map fun m => if m.line = l then m.add w.data w.be else m }
    s.queueWrite l a true false w.req.owner
  else if c.wq.any fun q => q.line == l && ! q.part && ! q.repair && ! q.seen then
    (s.setLine l (mergeLine (s.line l) w.data w.be)).queueWrite l a false false w.req.owner
  else
    let s := s.setCh n { c with merges := c.merges ++ [⟨l, w.data, w.be, w.req, false⟩] }
    s.queueWrite l a true false w.req.owner

/-- Stores a write at its place: a share that was not rebuilt discards it (R173); a chunk still to be rebuilt is rebuilt first,
or the write waits in the closed channel's queue (R170, R171); a sleeping channel wakes (R37). -/
def State.writeDram (s : State) (w : AdmWrite) (r : Region) : State :=
  let way := (s.page (w.line / 64)).way
  let p := s.poolOf r
  let o := s.poolOffset r (64 * w.line) way
  let a := s.poolAddr p o
  let wake (s : State) : State :=
    let c := s.ch a.ch
    match c.st with
    | .nap1 | .nap2 | .pasr => s.setCh a.ch { c with waking := true }
    | _ => s
  match s.shareAt p o with
  | some (n, x, k) =>
    if x.target.isNone then s
    else
      let s := s.rebuildChunk n x k []
      let open_ := match s.shareAt p o with | some (_, x', _) => x'.isDone k | none => true
      if open_ then (wake s).writeLine w a else s.writeLine w ⟨n, a.addr⟩
  | none => (wake s).writeLine w a

/-! ## Write-through (R77, R79, R117) -/

/-- Adds a line to the write-through of its page, coalescing with one whose program has not started (R79). -/
def State.writeThrough (s : State) (k l : Nat) (req : Requester) : State :=
  let add (t : WriteThrough) : WriteThrough :=
    if t.page = k ∧ ! t.started then { t with lines := insertAsc l t.lines, waiters := t.waiters ++ [req] } else t
  let wts := if s.per.wts.any fun t => t.page == k && ! t.started then s.per.wts.map add
    else s.per.wts ++ [⟨k, [l], [req], false, [], s.timeNs, false, none, false⟩]
  { s with per := { s.per with wts := wts } }

/-- A write to a page of a blocked set is programmed without a frame (R117). -/
def State.writeDirect (s : State) (w : AdmWrite) : State :=
  let k := w.line / 64
  let s := s.writeThrough k w.line w.req
  let add (t : WriteThrough) : WriteThrough :=
    if t.page = k ∧ ! t.started then { t with direct := t.direct ++ [(w.line, w.data, w.be, w.poison)] } else t
  { s with per := { s.per with wts := s.per.wts.map add } }

/-! ## Landing (R52, R53, R117, R120) -/

/-- The entry of a page after a write that lands in it: DIRTY, counted when the write was admitted as new, no longer covered
(R80, R103, R120). -/
def Page.written (p : Page) (counts : Bool) (now : Nat) : Page :=
  { p with st := .dirty, covered := false, inImage := false, evictIntent := false, counted := p.counted || counts,
           since := if counts && ! p.counted then now else p.since }

/-- What the landing of a write finds: its page takes it, it waits for a way, or its set is blocked. -/
inductive Landing where | landed | waits | blocked
  deriving DecidableEq, Repr

/-- The page of a write takes it (R120). A full line written to a page that fills is kept by the fill; a partial one is merged
once the page is filled (log entry 16). -/
def State.landPage (s : State) (w : AdmWrite) (i : Nat) (r : Region) (counts : Bool) : Landing × State :=
  let k := w.line / 64
  let pg := s.page k
  let bit : BitVec 64 := if w.poison ∨ w.be = fullBe then BitVec.ofNat 64 (2 ^ (w.line % 64)) else 0
  let mark (p : Page) : Page :=
    { p with mask := p.mask ||| bit, counted := p.counted || counts, since := if counts && ! p.counted then s.timeNs else p.since }
  let fill (s : State) (way : Nat) : State := let s := s.startFill k way 0 s.timeNs; s.setPage k (mark (s.page k))
  match r.cls with
  | .scratch => (.landed, if pg.st = .invalid then s.setPage k { pg with st := .clean } else s)
  | .resident => match pg.st with
    | .invalid =>
      if s.trimmed k ∧ (s.imageOf k).isNone then (.landed, s.setPage k (pg.written counts s.timeNs)) else (.landed, fill s 0)
    | .filling => (.landed, s.setPage k (mark pg))
    | _ => (.landed, s.setPage k (pg.written counts s.timeNs))
  | .cached | .streamed =>
    let part := r.place.toNat
    match pg.st with
    | .invalid =>
      if s.tier.wayWaits.any fun x => x.1 == k then (.waits, s)
      else match s.placePage part k 0 s.timeNs with
        | (some true, s) => (.landed, (s.setPage k (mark (s.page k))).noteMiss i r k)
        | (some false, s) => (.waits, s.noteMiss i r k)
        | (none, s) => (.blocked, s)
    | .filling => (.landed, s.setPage k (mark pg))
    | _ =>
      let s := (s.clearIntent part k).touch part k
      (.landed, s.setPage k ((s.page k).written counts s.timeNs))

/-- Fences that wait for a write to land (R294): one that asks for persistence waits for its program when it is written through, one
that asks for the twin for its copies; one that asks for visibility is met. -/
def State.fenceLanded (s : State) (w : AdmWrite) (through : Bool) : State :=
  if ! s.per.fences.any fun f => f.writes.contains w.req then s
  else
    let copies := (s.twin.unplaced.filter fun c => c.line == w.line).map TwinCopy.id
    let one (f : Fence) : Fence :=
      if ! f.writes.contains w.req then f
      else
        let more := match f.kind with
          | .persist => if through then [w.line / 64] else []
          | .mirror => copies
          | _ => []
        { f with writes := f.writes.filter fun r => r != w.req, lines := f.lines ++ more }
    let fs := s.per.fences.map one
    let seen (f : Fence) : Bool := f.kind == .visible && f.writes == []
    let s := { s with per := { s.per with fences := fs.filter fun f => ! seen f } }
    (fs.filter seen).foldl (fun s f => s.complete f.src .ok) s

/-- A write lands: stage 5 of R26, its page, its channel, and its completion (R77, R78). `counts`: it was admitted as new;
`through`: it is written through. -/
def State.landWrite (s : State) (w : AdmWrite) (i : Nat) (r : Region) (counts through : Bool) : State :=
  match s.landPage w i r counts with
  | (.waits, s) => { s with tier := { s.tier with wayWrites := s.tier.wayWrites ++ [w] } }
  | (.blocked, s) =>
    let (_, s) := s.handOff r w.req w.line w.entry (if w.be = fullBe then none else some w.be)
    (s.writeDirect w).fenceLanded w true
  | (.landed, s) =>
    let (waits, s) := s.handOff r w.req w.line w.entry (if w.be = fullBe then none else some w.be)
    let s := match w.req with
      | .host p _ _ => if w.poison then s.bump PRT_POISON_IN_CNT_COUNT p else s
      | _ => s
    let s := (((s.writeDram w r).rotateLine i r w.line).observeRelease i r w.line).fenceLanded w through
    if through then s.writeThrough (w.line / 64) w.line w.req else if waits then s else s.finishWrite w.req

/-! ## Admission (R80, R82, R83, R90) -/

/-- Changes the open limiter of an event, if one is open (R420). -/
def State.mergeLim (s : State) (code key : Nat) (f : Limiter → Limiter) : State :=
  let g (l : Limiter) : Limiter := if l.code == code && l.key == key then f l else l
  { s with evt := { s.evt with limiters := s.evt.limiters.map g } }

/-- A write waits in the admission queue of its carriageway: the ceiling stall (R82). -/
def State.stallWrite (s : State) (w : AdmWrite) : State :=
  let s := { s with per := { s.per with adm := s.per.adm ++ [w] } }
  (s.bump PER_STALL_CNT_COUNT).logLim 0x5003 0 .notice srcPersist (1, 0, 0, 0) fun l => { l with w4 := l.w4 + 1 }

/-- A write leaves the queue: its wait counts for CEILING_STALL. -/
def State.stallEnds (s : State) (w : AdmWrite) (through : Bool) : State :=
  s.mergeLim 0x5003 0 fun l => { l with w5 := max l.w5 ((s.timeNs - w.start) / 1000), w6 := l.w6 + (if through then 1 else 0) }

/-- A write whose region is known passes admission and lands (R26, stages 4 to 9). RELEASED falls with the first write of a
SCRATCH region (R52). -/
def State.storeWrite (s : State) (w : AdmWrite) (i : Nat) (r : Region) : State :=
  let s := if r.released then
      { s with rgn := { s.rgn with table := putRegions s.rgn.table [(i, { r with released := false })] } } else s
  if ! r.persist then s.landWrite w i r false false
  else if s.writesThrough then s.landWrite w i r false true
  else if (s.page (w.line / 64)).counted then s.landWrite w i r false false
  else if s.atRisk < s.per.ceiling then s.landWrite w i r true false
  else s.stallWrite w

/-- A write that lands outside admission again: its page has become free, or the stall has ended. -/
def State.resumeWrite (s : State) (w : AdmWrite) (through : Bool) : State :=
  match s.regionOf (64 * w.line) with
  | none => s.finishWrite w.req
  | some (i, r) =>
    let through := through && r.persist
    s.landWrite w i r (r.persist && ! through && ! (s.page (w.line / 64)).counted) through

/-- Releases the write that has waited longest, when the count is below the ceiling (R82). -/
def State.releaseOne (s : State) : State :=
  match s.per.adm with
  | [] => s
  | w :: t =>
    if s.atRisk < s.per.ceiling ∨ (s.page (w.line / 64)).counted then
      (({ s with per := { s.per with adm := t } }).stallEnds w false).resumeWrite w s.writesThrough
    else s

/-- Every stalled write leaves the queue and is written through (R90). -/
def State.releaseThrough (s : State) : State :=
  let ws := s.per.adm
  let s := { s with per := { s.per with adm := [] } }
  ws.foldl (fun s w => (s.stallEnds w true).resumeWrite w true) s

/-- Writes that waited for the way of a page land once the page is placed (R117). -/
def State.resumeWay (s : State) (k : Nat) : State :=
  let ws := s.tier.wayWrites.filter fun w => w.line / 64 == k
  let s := { s with tier := { s.tier with wayWrites := s.tier.wayWrites.filter fun w => w.line / 64 != k } }
  ws.foldl (fun s w => s.resumeWrite w s.writesThrough) s

/-- A page of a set may be placed again: the waiting page that waited longest takes the freed way (R117). -/
def State.grantWay (s : State) (part set : Nat) : State :=
  match s.tier.wayWaits.find? fun w => s.setOf part w.1 == set &&
      (match s.regionOf (w.1 * 4096) with | some (_, r) => r.cachedLike && r.place.toNat == part | none => false) with
  | none => s
  | some (k, t) =>
    let s := { s with tier := { s.tier with wayWaits := s.tier.wayWaits.filter fun w => w.1 != k } }
    match s.placePage part k 0 t with
    | (some true, s) => s.resumeWay k
    | (some false, s) => s
    | (none, s) =>
      let ws := s.tier.wayWrites.filter fun w => w.line / 64 == k
      let s := { s with tier := { s.tier with wayWrites := s.tier.wayWrites.filter fun w => w.line / 64 != k } }
      let s := ws.foldl (fun s w => s.resumeWrite w s.writesThrough) s
      if s.tier.reads.any fun x => x.line / 64 == k then
        let n := s.tier.reads.countP fun x => x.line / 64 == k
        let s := s.addFld TIER_BYPASS_CNT_COUNT n
        let f : Fill := ⟨k, s.imageOf k, t, 1, [], false, false, []⟩
        { s with tier := { s.tier with
          fills := s.tier.fills ++ [f]
          reads := s.tier.reads.map fun x => if x.line / 64 = k then { x with bypass := true } else x } }
      else s

/-- A new write of an engine or a port: a line with its byte enables, in the admission queue of a carriageway. -/
def State.newWrite (s : State) (cw l : Nat) (data : LineData) (be : BitVec 64) (poison : Bool) (req : Requester) : AdmWrite :=
  ⟨cw, l, data, be, poison, req, s.timeNs, s.fld PER_STALL_CTL_STALL_LIMIT_US * 1000, s.rgn.epoch⟩

end Sys2Proof.Machine
end

