-- ==== Sys2Proof/Machine/Mem.lean ====
section
/-!
DEFINITION. The CXL.mem requests of the hosts (R23, R26, R66, R270, R278, R281), the read-merge-write (R157), the admission
queues (R82, R83), and the detour bound (R123).
-/
namespace Sys2Proof.Machine

/-! ## Requests at a port -/

/-- A MAC failure of a CXL.mem stream (R281): the flit group is discarded and retried; three failures within 1 ms make the
stream insecure. -/
def State.macFail (s : State) (p k : Nat) : State :=
  let x := s.linkAt p k
  let fails := (x.macFails.filter fun t => decide (s.timeNs < t + 1000000)) ++ [s.timeNs]
  let s := s.bump PRT_IDE_FAIL_CNT_COUNT p
  let s := s.logLim 0x4006 (4 * p + k) .notice (srcPort p) (p + 16 * k, 1, 0, 0)
  if 3 ≤ fails.length then
    (s.setLink p k { x with macFails := [], ide := 2 }).log 0x4007 .error (srcPort p) (p + 16 * k) 0
  else s.setLink p k { x with macFails := fails }

/-- A CXL.mem request can be accepted: the link is up at 8 GT/s or more and presents the LD, its stream is secure and may transmit, a transaction
entry is free, and the mode has the port stopped neither for SAVE nor with its links (R262, R266, R268, R270, R281). -/
def State.portAccepts (s : State) (p ld : Nat) : Bool :=
  let k := s.ldLink p ld
  let x := s.linkAt p k
  s.ldEnabled p ld && decide (3 ≤ x.rate) && x.ide != 2 && ! x.ideStopped && decide (s.entriesUsed p k < s.entriesMax p) &&
    s.mc.mode != .save && s.mc.mode != .standby && s.mc.mode != .off

/-- Takes a transaction entry: PEAK of the port, and the link is in L0 (R268, R39). -/
def State.takeEntry (s : State) (p ld : Nat) : State :=
  let k := s.ldLink p ld
  let inUse := ((List.range 4).map fun j => s.entriesUsed p j).sum + 1
  let peak := max inUse (Sparse.get (fun _ => 0) s.ports.peak p)
  let s := { s with ports := { s.ports with peak := Sparse.set (fun _ => 0) s.ports.peak p peak } }
  s.setLink p k { s.linkAt p k with pm := .l0 }

/-- What the access checks of R66 find for a request, in their order. -/
inductive MemAccess where
  | unmapped (dpa : Nat)
  | denied (dpa : Nat)
  | keyAbsent (dpa key : Nat)
  | allowed (i : Nat) (r : Region) (dpa : Nat)
  deriving DecidableEq, Repr

/-- The checks of R66 on an HPA of a logical device; a request that hits no decoder has no DPA, and its record gives 0. -/
def State.memAccess (s : State) (p ld hpa : Nat) : MemAccess :=
  match hdmDecode (s.hdms p ld) (s.linkCxl3 p ld) hpa with
  | none => .unmapped 0
  | some dpa => match s.regionOf dpa with
    | none => .unmapped dpa
    | some (i, r) =>
      if ! s.owns r p ld then .denied dpa
      else
        let key := s.lineKey i r (dpa / 64)
        if ! s.keyLoaded key then .keyAbsent dpa key else .allowed i r dpa

/-- Records a request that fails an access check (R66, R352): at most one record per port and millisecond. -/
def State.recordAccess (s : State) (p ld : Nat) : MemAccess → State
  | .unmapped dpa =>
    (s.bump RGN_UNMAPPED_CNT_COUNT).logLim 0x4020 p .notice srcRgn (s.portWord p ld, dpa % 2 ^ 32, dpa / 2 ^ 32, 1) fun l =>
      { l with w7 := l.w7 + 1 }
  | .denied dpa =>
    (s.bump RGN_DENY_CNT_COUNT).logLim 0x4021 p .notice srcRgn (s.portWord p ld, dpa % 2 ^ 32, dpa / 2 ^ 32, 1) fun l =>
      { l with w7 := l.w7 + 1 }
  | .keyAbsent dpa key => s.keyAbsent (some (p, ld)) dpa key
  | .allowed _ _ _ => s

-- @row CXL_MEM_READ
/-- R23, R66, R270: a read of 64 bytes. `errs`: symbols in error of the codeword as DRAM returns it (40 in DDR5, 36 in DDR4);
`wbBad`: the waybill check at the exit finds a mismatch; `macOk`: the IDE check of the request passes. A request that the port
cannot accept now leaves the state as it is. -/
def execCxlMemRead (port : PortId) (ld : Fin 16) (hpa : BitVec 52) (tag : Nat) (errs : List (Fin 40)) (wbBad macOk : Bool)
    (s : State) : Res := .next <|
  let p := port.val
  let k := s.ldLink p ld.val
  let req : Requester := .host p ld.val tag
  if ! s.portAccepts p ld.val then s
  else if (s.linkAt p k).ide = 1 ∧ ! macOk then s.macFail p k
  else
    let s := s.takeEntry p ld.val
    if ! s.mc.mode.serving then (s.bump PRT_NOT_READY_CNT_COUNT p).answerRead req 0 poisonLine
    else
      let s := s.activity
      match s.memAccess p ld.val hpa.toNat with
      | .allowed i r dpa =>
        s.serveRead ⟨req, dpa / 64, s.timeNs, false, false, s.rgn.epoch⟩ i r (errs.map Fin.val) wbBad
      | a => (s.recordAccess p ld.val a).answerRead req 0 poisonLine

-- @row CXL_MEM_WRITE
/-- R26, R66, R270, R276, R278: a write of a line with byte enables. While the admission queue of the port's carriageway is full
the port grants no RwD credit, so no write arrives (R82). -/
def execCxlMemWrite (port : PortId) (ld : Fin 16) (hpa : BitVec 52) (tag : Nat) (data : LineData) (be : BitVec 64)
    (poison macOk : Bool) (s : State) : Res := .next <|
  let p := port.val
  let k := s.ldLink p ld.val
  let req : Requester := .host p ld.val tag
  if ! s.portAccepts p ld.val || s.admFull (p / 2) then s
  else if (s.linkAt p k).ide = 1 ∧ ! macOk then s.macFail p k
  else
    let s := s.takeEntry p ld.val
    if ! s.mc.mode.serving then (s.bump PRT_NOT_READY_CNT_COUNT p).finishWrite req
    else if (s.linkAt p k).viral then (s.bump PRT_VIRAL_CNT_COUNT p).finishWrite req
    else
      let s := s.activity
      match s.memAccess p ld.val hpa.toNat with
      | .allowed i r dpa => s.storeWrite (s.newWrite (p / 2) (dpa / 64) data be poison req) i r
      | a => (s.recordAccess p ld.val a).finishWrite req

/-! ## The read-merge-write (R157, R183 to R185) -/

/-- The merge of a line ends with a line stored: the merge leaves the buffer, the queued write holds a codeword, and reads of
the line that waited behind it are served. -/
def State.mergeEnds (s : State) (n l : Nat) (x : Line) : State :=
  let c := s.ch n
  let s := s.setCh n { c with merges := c.merges.filter fun m => m.line != l,
                              wq := c.wq.map fun w => if w.line = l then { w with part := false } else w }
  (s.setLine l x).releaseHeld n fun rd => rd.line == l

-- @row READ_MERGE_WRITE
/-- R157: a partial write merges with its old line. An uncorrectable old line waits for the retraining it triggers (R169). A
mismatch of the old line starts line recovery, and in SAVE, or when it is not possible, the merged line is stored poisoned. -/
def execReadMergeWrite (ch : ChId) (line : Nat) (errs : List (Fin 40)) (wbBad : Bool) (s : State) : Res := .next <|
  let n := ch.val
  match (s.ch n).merges.find? fun m => m.line == line && ! m.recovering, s.regionOf (64 * line) with
  | some m, some (i, r) =>
    let pg := s.page (line / 64)
    if pg.st = .filling ∧ ! pg.mask.getLsbD (line % 64) then s
    else
      let a := s.dramAddr r (64 * line) pg.way
      match s.decodeLine line ⟨n, a.addr⟩ (errs.map Fin.val) false with
      | (.bad, s) => s
      | (.good, s) =>
        let x := s.line line
        if x.poison ∨ (s.ch n).typ = 2 ∨ ! (wbBad ∨ ! x.checks line) then s.mergeEnds n line (mergeLine x m.data m.be)
        else if s.mc.mode != .save && s.twinServes r line then
          let c := s.ch n
          let s := s.setCh n { c with merges := c.merges.map fun y => if y.line = line then { y with recovering := true } else y }
          s.twinRead line (.merge n)
        else ((s.waybillEvent 0x1014 (srcCh n) n line i n 1).mergeEnds n line poisonLine).markDamaged i
  | _, _ => s

/-! ## Admission queues -/

-- @row ADMISSION_RELEASE
/-- R82: a freed page releases the write that has waited longest at the head of any of the four queues. -/
def execAdmissionRelease (s : State) : Res := .next s.releaseOne

-- @row STALL_LIMIT_EXPIRY
/-- R83: a write that has waited STALL_LIMIT leaves its queue and is written through; STALL_RISK holds for a second (R85). The
oldest write of the carriageway's queue is the one whose limit passes first among those with one limit. -/
def execStallLimitExpiry (cw : CwId) (s : State) : Res := .next <|
  match s.per.adm.find? fun w => w.cw == cw.val with
  | none => s
  | some w =>
    let s := { s with per := { s.per with adm := s.per.adm.erase w, stallFrames := 0 } }
    (s.stallEnds w true).resumeWrite w true

/-! ## The detour bound (R123, R134, R172) -/

/-- A read that is not served within its bound returns poisoned data (R123). -/
def State.timeOutRead (s : State) (rd : PendingRead) : State :=
  let dpa := 64 * rd.line
  let i := ((s.regionOf dpa).map Prod.fst).getD 0
  ((s.bump TIER_DETOUR_TO_CNT_COUNT).log 0x6001 .error (s.tierSrc dpa) (s.whoWord rd.req) (dpa % 2 ^ 32) (dpa / 2 ^ 32) i).deliver rd.req rd.line poisonLine

-- @row DETOUR_TIMEOUT
/-- R123: 1 ms has passed since the waiting reads of a line passed the region lookup; each returns poisoned, and the fill goes
on. Reads of a chunk that waits for an absent twin wait under the same bound (R172). -/
def execDetourTimeout (line : Nat) (s : State) : Res := .next <|
  let late (rd : PendingRead) : Bool := rd.line == line
  let rds := s.tier.reads.filter late
  let s := { s with tier := { s.tier with reads := s.tier.reads.filter fun rd => ! late rd } }
  let s := rds.foldl (fun s rd => s.timeOutRead rd) s
  (List.range 16).foldl (fun s n =>
    let c := s.ch n
    if c.work = .rebuild then
      let hs := c.held.filter late
      let s := s.setCh n { c with held := c.held.filter fun rd => ! late rd }
      hs.foldl (fun s rd => s.timeOutRead rd) s
    else s) s

end Sys2Proof.Machine
end

