-- ==== Sys2Proof/Machine/Writeback.lean ====
section
/-!
DEFINITION. Movement between DRAM and NAND: fills and the read-retry ladder (R121, R122, R211, R212), write-back (R81, R120,
R214), write-through (R79), the refill of RESIDENT frames and the move of save images home (R103, R104).
-/
namespace Sys2Proof.Machine

/-! ## Images and fences -/

/-- Images of which no page is left become free: IMAGE_FREED, and their blocks are to be erased (R104, R222). -/
def State.freeImages (s : State) : State :=
  [false, true].foldl (fun s b =>
    let x := s.image b
    if x.st = .pending ∧ x.pages = [] ∧ x.recs = [] then
      let home := if serialGe x.seq s.per.homeSeq then x.seq else s.per.homeSeq
      let s := { s with per := { s.per with homeSeq := home } }
      let gone : Image := { Image.empty with st := .erasing, seq := x.seq }
      (s.setImage b gone).log 0x5022 .info srcPersist (if b then 1 else 0) x.seq.toNat
    else s) s

/-- A page is in its NAND home: fences that wait for it go on, a failed channel is forgotten, and the pending images lose it
(R93, R104). -/
def State.pageHome (s : State) (k : Nat) : State :=
  let one (f : Fence) : Fence :=
    if f.kind = .mirror then f else { f with pages := f.pages.filter (fun q => q != k), lines := f.lines.filter fun q => q != k }
  let s := { s with per := { s.per with fences := s.per.fences.map one, gpf := s.per.gpf.map fun (e : Nat × Nat × Fence) => (e.1, e.2.1, one e.2.2) }, tier := { s.tier with retryOff := s.tier.retryOff.filter fun e => e.1 != k } }
  (s.dropFromImages k 1).freeImages

/-! ## Write-back (R81, R120, R214) -/

/-- Write-back runs at full rate (R81, R90, R93): the count is at or above the threshold of the ceiling or of a planned one, the
guard is UNARMED, the mode is DRAIN, or a FENCE_TIER or a change of PERSIST waits (R61). -/
def State.fullRate (s : State) : Bool :=
  let c := match s.per.planned with | some p => p.target | none => s.per.ceiling
  decide (c * s.fld PER_POLICY_WB_PCT ≤ s.atRisk * 100) || s.per.guard == .unarmed || s.mc.mode == .drain ||
    s.rings.ops.any fun o => match o.kind with | .fenceTier _ | .persistSet _ => true | _ => false

/-- The write-back of a DIRTY page starts (R81, R219): in background it needs tokens of the endurance bucket. `bad`: lines whose
waybill check fails, which start line recovery (R184): the page waits for the twin, or the line goes home poisoned. -/
def State.beginWriteback (s : State) (page : Nat) (bad : List Nat) : State :=
  let skip := (s.tier.retryOff.find? fun e => e.1 == page).map Prod.snd
  match s.regionOf (4096 * page) with
  | some (i, r) =>
    let ch := (s.dramAddr r (4096 * page) (s.page page).way).ch
    if (s.page page).st ≠ .dirty ∨ ! (s.fullRate ∨ s.tokensLeft) ∨ r.cls = .scratch ∨ ! s.keysLoaded i r then s
    else
      let bad := (pageLines page).filter fun l => ! (s.line l).poison && (bad.contains l || ! (s.line l).checks l)
      let asked := bad.any fun l => s.twinServes r l
      let s := bad.foldl (fun s l => match s.recoverLine i r l (.recover none) with
        | (true, s) => s
        | (false, s) => s.waybillEvent 0x6020 (srcTier (ch / 4)) (ch / 4) l i ch 1) s
      if asked then s else match skip with
        | none => s.startWriteback page false
        | some c => match s.allocHome page (some c) with
          | none => s
          | some (loc, s) =>
            let s := s.setPage page { s.page page with st := .writingBack }
            { s with tier := { s.tier with wbs := s.tier.wbs ++ [⟨page, (pageLines page).map s.line, false, loc⟩] } }
  | none => s

-- @row WRITEBACK_START
/-- R81, R219: the write-back of a DIRTY page starts, its request at order 3 or, in background, 6 of the NAND channel; one that a
full tailback queue does not accept waits at its tier engine (R349). -/
def execWritebackStart (page : Nat) (bad : List Nat) (bus : BusUse) (s : State) : Res := .next <|
  let t := s.beginWriteback page bad
  match t.tier.wbs.find? (fun w => w.page == page), s.tier.wbs.any (fun w => w.page == page) with
  | some w, false =>
    match t.park bus w.loc.ch (if s.fullRate then 3 else 6) page with
    | (true, t) => t
    | (false, _) => (s.park bus w.loc.ch 6 page).2
  | _, _ => t

/-- A page leaves the count and, when EVICT_INTENT asks for it, DRAM (R80, R120): its way goes to the page that waits. -/
def State.afterWriteback (s : State) (k : Nat) : State :=
  let pg := s.page k
  if pg.st ≠ .writingBack then s
  else
    let s := s.setPage k { pg with st := .clean, counted := false, covered := false, evictIntent := false }
    let s := if pg.counted then s.releaseOne else s
    match s.regionOf (4096 * k) with
    | some (_, r) =>
      if pg.evictIntent && r.cachedLike then
        if (s.page k).unpinned then (s.evictClean k).grantWay r.place.toNat (s.setOf r.place.toNat k) else s.refuseEvict r.place.toNat k 1
      else s
    | none => s

-- @row WRITEBACK_PROGRAM_DONE
/-- R120, R210, R21: the map entry changes, the page becomes CLEAN or leaves DRAM, the count falls before the next admission is
decided, and one stalled write is released. A page written during the program stays DIRTY and counted. -/
def execWritebackProgramDone (page : Nat) (s : State) : Res := .next <|
  match s.tier.wbs.find? fun w => w.page == page with
  | none => s
  | some w =>
    let s := { s with tier := { s.tier with wbs := s.tier.wbs.filter fun x => x.page != page } }
    let s := (s.unpark page).programHome page w.lines w.loc
    let s := if (s.page page).st = .writingBack then s.pageHome page else s
    s.afterWriteback page

/-- A failed program (R214, R226): PROGRAM_FAIL, and the block is retired. -/
def State.programFailed (s : State) (loc : HomeLoc) (which : Nat) : State :=
  ((s.nfErr loc.ch 2).log 0x2004 .notice (srcNand loc.ch) (loc.ch + 256 * loc.die) loc.block which).retireBlock loc.ch loc.die loc.block 2

/-- Another place on the same channel (R214). -/
def State.allocSame (s : State) (ch : Nat) : Option (HomeLoc × State) :=
  let ds := (s.diesOf ch).filter fun d => (s.openBlock ch d).isSome
  match ds with
  | [] => none
  | d :: _ =>
    let (v, s) := s.fresh
    let die := ds.getD (v % ds.length) d
    match s.openBlock ch die with
    | none => none
    | some b =>
      let x := s.block ch die b
      let st : BlockUse := if s.blockWords ≤ x.used + 1 then .closed else .opened
      some (⟨ch, die, b, x.used⟩, s.setBlock ch die b { x with used := x.used + 1, state := st })

-- @row NAND_PROGRAM_FAIL
/-- R214, R120: the first failure of a page's program is rewritten in another block of the channel; after the second one the
page stays DIRTY and counted, EVICT_INTENT falls, and write-back retries it on another channel. -/
def execNandProgramFail (page : Nat) (s : State) : Res := .next <|
  match s.tier.wbs.find? fun w => w.page == page with
  | some w =>
    let s := s.programFailed w.loc (if w.failed then 2 else 1)
    let second (s : State) : State :=
      let s := { s with tier := { s.tier with wbs := s.tier.wbs.filter (fun x => x.page != page),
                                              retryOff := s.tier.retryOff ++ [(page, w.loc.ch)] } }
      let s := if (s.page page).st = .writingBack then s.setPage page { s.page page with st := .dirty } else s
      match s.regionOf (4096 * page) with
      | some (_, r) => if r.cachedLike then s.clearIntent r.place.toNat page else s
      | none => s
    if w.failed then second s
    else match s.allocSame w.loc.ch with
      | some (loc, s) =>
        let one (x : WriteBack) : WriteBack := if x.page = page then { x with failed := true, loc := loc } else x
        { s with tier := { s.tier with wbs := s.tier.wbs.map one } }
      | none => second s
  | none =>
    match s.per.wts.find? fun t => t.page == page && t.started with
    | some t => match t.loc with
      | some loc0 =>
        let s := s.programFailed loc0 (if t.failed then 2 else 1)
        let upd (f : WriteThrough → WriteThrough) : State :=
          { s with per := { s.per with wts := s.per.wts.map fun x => if x.page = page ∧ x.started then f x else x } }
        if t.failed then
          let s := upd fun x => { x with started := false, failed := false, loc := none }
          { s with tier := { s.tier with retryOff := s.tier.retryOff ++ [(page, loc0.ch)] } }
        else match s.allocSame loc0.ch with
          | some (loc, s) =>
            let one (x : WriteThrough) : WriteThrough := if x.page = page ∧ x.started then { x with failed := true, loc := some loc } else x
            { s with per := { s.per with wts := s.per.wts.map one } }
          | none => upd fun x => { x with started := false, loc := none }
      | none => s
    | none => s

/-! ## Write-through (R79) -/

-- @row WRITE_THROUGH_START
/-- R79: 20 µs after its first line, the lines written to a page are programmed together. A page that is still being filled,
or has a partial write to merge, is programmed once that is done; without a SERVING channel nothing is (R208). -/
def execWriteThroughStart (page : Nat) (s : State) : Res := .next <|
  let merging := s.chans.any fun c => c.2.merges.any fun m => m.line / 64 == page
  match s.per.wts.find? fun t => t.page == page with
  | none => s
  | some t =>
    if t.started || (s.page page).st = .filling || merging then s
    else match s.allocHome page ((s.tier.retryOff.find? fun e => e.1 == page).map Prod.snd) with
      | none => s
      | some (loc, s) =>
        let one (x : WriteThrough) : WriteThrough := if x = t then { x with started := true, loc := some loc } else x
        { s with per := { s.per with wts := s.per.wts.map one } }

/-- The lines of a page as a write-through programs them: those of its frame, or without a frame the stored ones with the
written lines put in (R117). -/
def State.throughLines (s : State) (t : WriteThrough) : List Line :=
  let inDram := (s.page t.page).st != .invalid
  (pageLines t.page).map fun l =>
    let x := if inDram then s.line l else s.storedLine l
    (t.direct.filter fun d => d.1 == l).foldl (fun x d =>
      if d.2.2.2 then poisonLine else if d.2.2.1 = fullBe then mkLine l d.2.1 else mergeLine x d.2.1 d.2.2.1) x

/-- A write-through that has been programmed: its page and its writers. -/
def State.throughDone (s : State) (page : Nat) (t : WriteThrough) : State :=
  let s := (s.programHome page (s.throughLines t) (t.loc.getD ⟨0, 0, 0, 0⟩)).pageHome page
  let s := { s with per := { s.per with wts := s.per.wts.filter fun x => ! (x.page == page && x.started) } }
  let pg := s.page page
  let more := s.per.wts.any fun x => x.page == page
  let st : PageState := if pg.st = .dirty && ! more then .clean else pg.st
  let s := s.setPage page { pg with st := st, counted := false, covered := pg.covered && more }
  let s := s.addFld PER_WT_CNT_COUNT t.waiters.length
  let s := t.waiters.foldl (fun s w => s.finishWrite w) s
  if pg.counted then s.releaseOne else s

-- @row WRITE_THROUGH_DONE
/-- R77, R79: the program of a write-through has finished; its writes complete, and the page, which never counts, is CLEAN unless
further writes wait for a program of their own. -/
def execWriteThroughDone (page : Nat) (s : State) : Res := .next <|
  match s.per.wts.find? fun t => t.page == page && t.started && t.loc.isSome with
  | none => s
  | some t => s.throughDone page t

/-! ## Fills (R121, R122) -/

/-- The fill of a page ends: lines not yet written come from where it was read, `poisoned` lines poisoned; the page is CLEAN,
DIRTY, or DIRTY and covered, and its reads and writes are served (R53, R103, R117, R120, R121). A bypass fill allocates
nothing. -/
def State.fillEnds (s : State) (f : Fill) (content : Nat → Line) : State :=
  let k := f.page
  let pg := s.page k
  let s := { s with tier := { s.tier with fills := s.tier.fills.filter fun x => x.page != k } }
  let rds := s.tier.reads.filter fun rd => rd.line / 64 == k && ! rd.window
  let s := { s with tier := { s.tier with reads := s.tier.reads.filter fun rd => ! (rd.line / 64 == k && ! rd.window) } }
  if pg.st = .filling then
    let merging := s.chans.any fun c => c.2.merges.any fun m => m.line / 64 == k
    let s := (pageLines k).foldl (fun s l => if pg.mask.getLsbD (l % 64) then s else s.setLine l (content l)) s
    let through := s.per.wts.any fun t => t.page == k
    let dirty := pg.mask != 0 || merging || through
    let pg := s.page k
    let pg' := if dirty then { pg with st := .dirty, mask := 0, inImage := false }
      else if f.image.isSome then { pg with st := .dirty, covered := true, mask := 0 } else { pg with st := .clean, mask := 0 }
    let s := s.setPage k pg'
    let ms := s.chans.flatMap fun c => c.2.merges.map fun m => m.line
    rds.foldl (fun s rd => if ms.contains rd.line then s.serveAgain [rd] else s.deliver rd.req rd.line (s.line rd.line)) s
  else rds.foldl (fun s rd => s.deliver rd.req rd.line (content rd.line)) s

/-- A fill that cannot read lines (R122): a mirrored page is asked for from the twin first; otherwise the lines not yet written
are poisoned, the region is DAMAGED, and FILL_FAIL is logged. -/
def State.fillFailed (s : State) (f : Fill) (bad : List Nat) : State :=
  let k := f.page
  let stored (l : Nat) : Line := s.storedLine l
  match s.regionOf (4096 * k) with
  | none => s
  | some (i, r) =>
    if s.twinServes r (64 * k) ∧ ! f.twin then
      let s := { s with tier := { s.tier with fills := s.tier.fills.map fun x => if x.page = k then { x with twin := true } else x } }
      bad.foldl (fun s l => s.twinRead l (.fill k)) s
    else
      let back (l : Nat) : Option Line := (f.got.find? fun e => e.1 == l).map Prod.snd
      let lost := bad.filter fun l => ! (s.page k).mask.getLsbD (l % 64) && (back l).isNone
      let s := s.fillEnds f fun l => (back l).getD (if bad.contains l then poisonLine else stored l)
      (s.log 0x6002 .error (s.tierSrc (4096 * k)) i (4096 * k % 2 ^ 32) (4096 * k / 2 ^ 32) lost.length).markDamaged i

-- @row FILL_DONE
/-- R121, R184: the codeword of a fill is corrected. Lines of it whose waybill check fails (`bad`) are handled as unreadable. -/
def execFillDone (page : Nat) (bad : List Nat) (s : State) : Res := .next <|
  match s.tier.fills.find? fun f => f.page == page with
  | none => s
  | some f =>
    if (s.regionOf (4096 * page)).any fun e => ! s.keysLoaded e.1 e.2 then s else
    let s := s.unpark page
    let stored (l : Nat) : Line := s.storedLine l
    let bad := (pageLines page).filter fun l => ! (stored l).poison && (bad.contains l || ! (stored l).checks l)
    if f.image.isNone ∧ s.nand.lost.contains page then s.fillFailed f (pageLines page)
    else if bad = [] then s.fillEnds f stored
    else match s.regionOf (4096 * page) with
      | some (i, _) =>
        let s := bad.foldl (fun s l => s.log 0x6020 .error (s.tierSrc (4096 * page)) 0 (64 * l % 2 ^ 32) (64 * l / 2 ^ 32) (i + 2 ^ 20)) s
        s.fillFailed f bad
      | none => s.fillFailed f bad

/-! ## The read-retry ladder (R211, R212) -/

/-- The order of the hard steps from a starting step, and step 12 last (R211). -/
def ladder (start : Nat) : List Nat :=
  ((List.range 11).map (· + 1)).filter (fun k => decide (start ≤ k)) ++ ((List.range 11).map (· + 1)).filter (fun k => decide (k < start)) ++ [12]

/-- The home of a fill that reads one. -/
def State.fillLoc (s : State) (f : Fill) : Option HomeLoc :=
  if f.image.isSome then none else (s.nand.map.find? fun e => e.1 == f.page).map Prod.snd

/-- A codeword is uncorrectable at the end of the ladder (R212, R225, R226). -/
def State.ladderFails (s : State) (f : Fill) : State :=
  let s := match s.fillLoc f with
    | some l => ((s.bump NF_UE_CNT_COUNT l.ch).nfErr l.ch 1).log 0x2003 .error (srcNand l.ch) (l.ch + 256 * l.die)
        (4096 * f.page % 2 ^ 32) (4096 * f.page / 2 ^ 32) l.block
    | none => s
  s.fillFailed f (pageLines f.page)

/-- Starts a further step of a ladder: NF_RETRY_CNT, and for step 12 NF_SOFT_CNT and READ_RETRY_DEEP (R212, R226). -/
def State.startStep (s : State) (f : Fill) (k : Nat) : State :=
  let one (x : Fill) : Fill := if x.page = f.page then { x with tried := x.tried ++ [x.step], step := k } else x
  let s := { s with tier := { s.tier with fills := s.tier.fills.map one } }
  match s.fillLoc f with
  | some l =>
    let s := s.bump NF_RETRY_CNT_COUNT l.ch
    if k = 12 then (s.bump NF_SOFT_CNT_COUNT l.ch).logLim 0x2002 l.ch .info (srcNand l.ch) (l.ch, 1, 0, 0) else s
  | none => s

-- @row READ_STEP_DONE
/-- R211 to R213: a step of a fill's ladder ends. `pass`: its decode passes, and the block remembers the step (for step 12 the hard
step `best` whose references it used); otherwise the next step starts, or the codeword is uncorrectable. The request of the step
that ends leaves the tailback queue, and `bus` says how that of the next one fares. -/
def execReadStepDone (page : Nat) (pass : Bool) (best : Fin 11) (bus : BusUse) (s : State) : Res := .next <|
  match s.tier.fills.find? fun f => f.page == page with
  | none => s
  | some f =>
    let s := s.unpark page
    let next (s : State) (k : Nat) : State :=
      let s := s.startStep f k
      match s.fillLoc f with
      | some l => (s.park bus l.ch 2 page).2
      | none => s
    if pass then match s.fillLoc f with
      | some l =>
        let b := s.block l.ch l.die l.block
        let deep := b.deep.filter fun t => decide (s.timeNs < t + 3600 * 10 ^ 9)
        s.setBlock l.ch l.die l.block { b with step := if f.step = 12 then best.val + 1 else f.step,
                                               deep := if 8 ≤ f.step then deep ++ [s.timeNs] else deep }
      | none => s
    else if f.step = 12 then s.ladderFails f
    else if f.cut then next s 12
    else
      let start := f.tried.headD f.step
      match (ladder start).find? fun k => k != f.step && ! f.tried.contains k with
      | some k => next s k
      | none => s.ladderFails f

-- @row READ_LADDER_CUTOFF
/-- R212: 760 µs after a fill started no further hard step starts; step 12 that runs at 960 µs is cut off, and the codeword is
uncorrectable. -/
def execReadLadderCutoff (page : Nat) (s : State) : Res := .next <|
  match s.tier.fills.find? fun f => f.page == page with
  | none => s
  | some f =>
    if f.step = 12 then s.ladderFails f
    else { s with tier := { s.tier with fills := s.tier.fills.map fun x => if x.page = page then { x with cut := true } else x } }

/-! ## Refill and the move home (R103, R104) -/

/-- Frames of a region that still wait for their content: pages with a home or an image that are not in DRAM. -/
def State.unfilled (s : State) (r : Region) : Bool :=
  let mine (k : Nat) : Bool := decide (r.page0 ≤ k) && decide (k < r.page0 + r.pageCount)
  let out (k : Nat) : Bool := (s.page k).st == .invalid || (s.page k).st == .filling
  (s.nand.map.any fun e => mine e.1 && out e.1) || [false, true].any fun b =>
    let x := s.image b
    x.st == .pending && (x.pages.any (fun k => mine k && out k) || x.recs.any fun l => mine (l.1 / 64) && out (l.1 / 64))

-- @row BACKGROUND_REFILL
/-- R103: a frame of a REFILLING region refills as a fill without a requester; once no frame is left, a commit clears REFILLING.
`bad`: lines that cannot be read. -/
def execBackgroundRefill (page : Nat) (bad : List Nat) (s : State) : Res := .next <|
  match s.regionOf (4096 * page) with
  | none => s
  | some (i, r) =>
    if ! r.refilling then s
    else
      let s := if (s.page page).st = .invalid then s.startFill page 0 0 s.timeNs else s
      let s := match s.tier.fills.find? fun f => f.page == page with
        | some f =>
          let bad := bad.filter fun l => l / 64 == page
          if bad = [] then s.fillEnds f s.storedLine
          else s.fillFailed f bad
        | none => s
      if s.unfilled r then s else s.commit ⟨[(i, { s.region i with refilling := false })], [], []⟩

-- @row IMAGE_MOVE_HOME
/-- R104: a page of a pending image moves to its home; one that DRAM holds DIRTY and counted is skipped, since the image no
longer holds its latest content; a covered page is written back from DRAM. -/
def execImageMoveHome (image : Bool) (page : Nat) (s : State) : Res := .next <|
  let x := s.image image
  let pg := s.page page
  if ! x.holds page ∨ pg.st = .filling ∨ pg.st = .writingBack then s
  else if pg.counted then (s.dropFromImages page 1).freeImages
  else if pg.st = .dirty then s.startWriteback page false
  else match s.allocHome page with
    | none => s
    | some (loc, s) => (s.programHome page ((pageLines page).map s.storedLine) loc).pageHome page

end Sys2Proof.Machine
end

