-- ==== Sys2Proof/Machine/PowerOps.lean ====
section
/-!
DEFINITION. The power sequencer (R496 to R502): wakes, the power-up sequence, the power-down, HU_KEEP; and the reset of the
control complex and the data-plane units (R507, R536, R537).
-/
namespace Sys2Proof.Machine

/-! ## The power sequencer -/

/-- HU_KEEP is high in the modes that hold or save dirty data, in SAVE up to its last step (R501). -/
def State.huKeep (s : State) : Bool :=
  match s.mc.mode with
  | .restore | .service | .degraded | .quiescent | .drain | .resync => true
  | .save => s.per.saveStep != .done
  | _ => false

/-- The first enable of a sequence that is low, from enable k upwards (R497). -/
def nextRail (en : BitVec 6) (k : Nat) : Option (Fin 6) := (List.finRange 6).find? fun r => decide (k ≤ r.val) && ! en.getLsbD r.val

/-- Raises the next enable that is low, from enable k upwards; with none left the internal resets are about to be released
once every rail is in range (R497). -/
def State.raiseRail (s : State) (k : Nat) : State :=
  match nextRail s.pw.railEn k with
  | some r =>
    let b := BitVec.ofNat 6 (2 ^ r.val)
    { s with pw := { s.pw with railEn := s.pw.railEn ||| b, seqRaised := s.pw.seqRaised ||| b, seqRail := some r } }
  | none => { s with pw := { s.pw with seqRail := none, seqReady := s.pw.railOk == 63 } }

/-- A power-up sequence runs. -/
def State.sequencing (s : State) : Bool := s.pw.seqRail.isSome || s.pw.seqReady

/-- Takes a decided request's RESULT into GLB_MODE_REQ (R539), and answers the BMC on the bus that asked (R479, R482, R488). -/
def State.answerMode (s : State) (ask : ModeAsk) (st : Status) : State :=
  let s := { s with mc := { s.mc with result := BitVec.ofNat 8 st.code } }
  match ask with
  | .vendor b => s.emit (.mgmt b.val 0x7F 0x04 st.code [])
  | .effecter b => s.emit (.mgmt b.val 0x01 0x239 (if st = .ok then 0 else 1) [])
  | _ => s

/-- Starts the power-up sequence; a management wake that was pending is answered (R497). -/
def State.startSequence (s : State) : State :=
  let s := match s.pw.pendingWake with
    | some (.mgmt ask) => s.answerMode ask .ok
    | _ => s
  ({ s with pw := { s.pw with pendingWake := none, seqRaised := 0, seqReady := false } }).raiseRail 0

/-- Ends a sequence that fails or is abandoned: the enables it raised are lowered (R498). -/
def State.abandonSequence (s : State) : State :=
  if s.sequencing then
    let en := s.pw.railEn &&& ~~~ s.pw.seqRaised
    { s with pw := { s.pw with railEn := en, railOk := s.pw.railOk &&& en, seqRail := none, seqRaised := 0, seqReady := false } }
  else s

/-- A wake source acts in STANDBY: the sequence starts while BRD_PG and PWR_FAIL_N are high; otherwise the wake is held as
pending (R497). A wake during a running sequence changes nothing. -/
def State.wake (s : State) (w : PendingWake) : State :=
  if s.mc.mode ≠ .standby ∨ s.sequencing then s
  else if s.pw.brdPg && s.pw.pwrFailN then s.startSequence
  else { s with pw := { s.pw with pendingWake := some w } }

/-- Every DRAM channel that is not CLOSED or OFFLINE is in self-refresh: at the end of DRAIN, after a seal, and in RECOVERY; in
MAINTENANCE when no channel is under test (R499). -/
def State.selfRefresh (s : State) (from_ : Mode) : Bool :=
  match from_ with
  | .drain | .save | .recovery => true
  | .maintenance => ! s.tests.bist
  | _ => false

/-- Lowers the enables; RAIL_EN[4] stays high when DDR_RETAIN is 1 and DRAM is in self-refresh (R499). -/
def State.powerDown (s : State) (from_ : Mode) : State :=
  let keep := s.flag GLB_PWR_CTL_DDR_RETAIN && s.selfRefresh from_ && s.pw.railEn.getLsbD 4
  let en : BitVec 6 := if keep then 16 else 0
  { s with pw := { s.pw with railEn := en, railOk := s.pw.railOk &&& en, railFault := 0, seqRail := none, seqRaised := 0, seqReady := false } }

/-! ## Reset of the control complex and the data plane (R507, R536, R537) -/

/-- Registers of the always-on island (R536), which keep their values through BOOT. -/
def RegName.island : RegName → Bool
  | .GLB_ID | .GLB_REV | .GLB_SERIAL | .GLB_LOCK | .GLB_ACC_CTL | .GLB_ACC_ERR
  | .GLB_MODE | .GLB_MODE_REQ | .GLB_SLEEP_CTL | .GLB_WDT_CFG | .GLB_WDT_KICK | .GLB_WDT_STAT
  | .MGT_CAP | .MGT_CTL | .MGT_STAT | .GLB_STRAP | .GLB_PWR_CTL | .GLB_PWR_STAT | .GLB_RST_CTL | .GLB_RST_CAUSE
  | .GLB_CLK_STAT | .GLB_TB_OFFSET | .PER_POLICY | .PER_SAVE_DECL | .PER_STALL_CTL | .SEC_ALARM | .SEC_CTL
  | .EVT_CAP | .EVT_HEAD | .EVT_OLDEST | .EVT_COUNT | .EVT_ACK | .EVT_DROP0 | .EVT_DROP1 | .EVT_OVW0 | .EVT_OVW1
  | .EVT_LATE_CNT | .EVT_ERR_SUM0 | .EVT_ERR_SUM1 | .EVT_CW_ERR | .EVT_SLOT
  | .SNS_CTL | .SNS_PACK_CFG | .SNS_PACK_CFG2 | .SNS_VAL | .SNS_PACK_STAT | .SNS_PACK_CAP | .SNS_PACK_ENERGY
  | .SNS_PACK_CTL | .SNS_TRIM | .SNS_TRIM_CTL => true
  | _ => false

/-- Registers that hold the pool and partition tables, which are durable with the region tables (R63, R507; log entry 19). -/
def RegName.durable : RegName → Bool
  | .RGN_POOL_CFG | .RGN_POOL_BAND | .RGN_POOL_REMAP | .TIER_PART_CFG | .TIER_PART_DATA | .TIER_PART_TAG => true
  | _ => false

/-- A channel after a reset: its device marks and the serial numbers they were made with are in the NAND metadata area (R191),
and CHnn_PWR_EN keeps its value (R494). -/
def Channel.rebooted (c : Channel) (n : Nat) : Channel :=
  { Channel.reset n with marks := c.marks, serial0 := c.serial0, serial1 := c.serial1, pwrEn := c.pwrEn }

/-- A NAND channel after a reset: a channel that served trains again; RETIRED and FAILED stay (R202). -/
def NandCh.rebooted (c : NandCh) : NandCh :=
  if c.st == .serving || c.st == .evacuating then { c with st := .absent, io := 0, rate := 0, ioFails := 0 } else c

/-- The media after a reset: content, maps, counters and status tables are durable; starting steps return to step 1 (R211), and a
running erase is lost, its block unusable until it is erased again. -/
def Nand.rebooted (n : Nand) : Nand :=
  let fix (b : NandBlock) : NandBlock := { b with step := 1, deep := [], state := if b.state = .erasing then .closed else b.state }
  { n with
    chans := (n.chans.map fun e => (e.1, e.2.rebooted)).filter fun e => e.2 != NandCh.absent
    blocks := (n.blocks.map fun e => (e.1, fix e.2)).filter fun e => e.2 != NandBlock.fresh
    erases := [], alarms := [] }

/-- The engine after a reset: what BTT_COPY shows, the copies refused, the dirty bitmap of a clean shutdown and the epoch are
durable; sequences resume at the last durable mark, 2^32 further on without a clean shutdown (R237), the epoch 2^16 further on
(R362). -/
def Twin.rebooted (t : Twin) (clean : Bool) : Twin :=
  let marks := t.txDurable.map fun e => (e.1, if clean then e.2 else e.2 + 2 ^ 32)
  let epoch := if t.epoch = 0 then 0 else t.epoch + 65536#32
  { Twin.reset with
    epoch := epoch, txSeq := marks, txDurable := marks, copies := t.copies, refused := t.refused, bitmap := t.bitmap }

/-- The ports after a reset: links are down, the bifurcation held in the island takes force and goes into the board sector (R261),
the stored shutdown state stays. -/
def Ports.rebooted (p : Ports) : Ports :=
  { Ports.reset with bifur := p.next, next := p.next, sector := p.next, shutdownDirty := p.shutdownDirty, perst := p.perst }

/-- Resets the control complex and the data-plane units (R507): registers of their parts, rings and handles (R329), DRAM content,
which is not relied on; the durable tables, the media and the always-on island stay. KEY_ROTATE and SANITIZE go on from their
durable cursors. COMP_CNT of a queue pair starts afresh. -/
def State.resetPlane (s : State) : State :=
  let keepOp (o : LongOp) : Bool := match o.kind with | .keyRotate _ _ | .sanitize _ => true | _ => false
  let clean := s.per.clean.isSome
  let regs := s.regs.filter fun e => match locateReg e.1 with
    | some (r, _) => r.island || r.durable
    | none => false
  let per := { Persist.reset with
    decl := s.per.decl, imageA := s.per.imageA, imageB := s.per.imageB, saveSeq := s.per.saveSeq,
    lastResult := s.per.lastResult, homeSeq := s.per.homeSeq, dirtyShutdowns := s.per.dirtyShutdowns, clean := s.per.clean }
  let rgn := { Regions.reset with
    table := s.rgn.durTable, sets := s.rgn.durSets, durTable := s.rgn.durTable,
    durSets := s.rgn.durSets, epoch := s.rgn.epoch - BitVec.ofNat 16 s.rgn.undurable,
    limitGib := s.rgn.limitGib, bindGens := s.rgn.bindGens }
  let lock := s.flag SEC_CTL_LOCK_ON_BOOT && s.sec.store == .unlocked
  let ops := (s.rings.ops.filter keepOp).map fun (o : LongOp) => { o with src := .internal, suspendBy := [], cancelBy := [] }
  let chans := (List.range 16).foldl (fun m n => Sparse.set Channel.reset m n ((s.ch n).rebooted n)) []
  let s := { s with
    regs := regs, per := per, rgn := rgn, tier := Tier.reset, nand := s.nand.rebooted, chans := chans
    twin := s.twin.rebooted clean, ports := s.ports.rebooted
    rings := { ring := [], ops := ops, opGens := s.rings.opGens, poolPeak := 0, sqTorn := [] }
    rdma := { qps := [], keys := [], ethUp := s.rdma.ethUp, paused := 0 }
    sec := { s.sec with doeSessions := 0, mctpSessions := 0, twinSessions := 0, keyManager := false }
    stk := { s.stk with conflict := false, seated := false, missed := [], reports := [], ranges := [], waiting := [], master := 0, live := 0 }
    cc := { Cc.reset with lastKick := s.timeNs, expiries := s.cc.expiries, expires := s.cc.expires }
    arb := { oldTable := [], parked := [] }, jct := [], buffered := []
    tests := { s.tests with patrols := s.tests.patrols.map (fun e => (e.1, { e.2 with passes := 0, start := s.timeNs })),
                            march := [], retired := [], suspect := [], eyes := [], scans := [], bist := false }
    regu := { bmcSel := [], serviceAt := none } }
  if lock then s.lockStore .locked else s

end Sys2Proof.Machine
end

