-- ==== Sys2Proof/Machine/SaveOps.lean ====
section
/-!
DEFINITION. The power-loss save up to its intent record (R96, steps 1 and 2): the ports stop, channels wake, accepted writes land.
-/
namespace Sys2Proof.Machine

/-- Accepted requests lose their requesters: no completion is returned in SAVE (R96, step 1). Reads are dropped; writes stay. -/
def State.forgetRequesters (s : State) : State :=
  let anon (c : TwinCopy) : TwinCopy := { c with req := .internal }
  let quiet (n : Nat) (c : Channel) : List (Nat × Channel) → List (Nat × Channel) := fun m =>
    Sparse.set Channel.reset m n { c with held := [], twinReads := [] }
  let chans := (List.range 16).foldl (fun m n => quiet n (s.ch n) m) s.chans
  { s with
    chans := chans
    tier := { s.tier with reads := [] }
    per := { s.per with wts := s.per.wts.map fun t => { t with waiters := [] } }
    twin := { s.twin with syncq := s.twin.syncq.map anon, backlog := s.twin.backlog.map anon, rangeWaits := [], reads := [],
                          queued := s.twin.queued.map fun m => { m with copies := m.copies.map anon }
                          msgs := s.twin.msgs.map fun m => { m with copies := m.copies.map anon } } }

/-- Adds a line record to the image of the running save (R96, step 2). -/
def State.lineRecord (s : State) (l : Nat) (x : Line) : State :=
  let im := s.image s.per.saveImage
  s.setImage s.per.saveImage { im with recs := (im.recs.filter fun r => r.1 != l) ++ [(l, x)] }

/-- The frame of a page cannot take a line now: the page fills, or waits for a way or for its first fill. -/
def State.frameless (s : State) (r : Region) (k : Nat) : Bool :=
  match (s.page k).st with
  | .filling => true
  | .invalid => r.cachedLike || (r.cls == .resident && ! (s.trimmed k && (s.imageOf k).isNone))
  | _ => false

/-- An accepted write lands for the save: in its page, which counts without the ceiling check, or in a line record. A mirrored
region's range of a stalled write is set in the dirty bitmap, since no copy of it has gone to the twin (R96, step 2). -/
def State.landForSave (s : State) (stalled : Bool) (w : AdmWrite) : State :=
  match s.regionOf (64 * w.line) with
  | none => s
  | some (i, r) =>
    let k := w.line / 64
    let w := { w with req := .internal }
    let s := if stalled ∧ r.mirror ≠ .none then s.setDirty (lineRange w.line) else s
    if s.frameless r k then
      if r.persist then s.lineRecord w.line (if w.poison then poisonLine else mergeLine (s.latest w.line) w.data w.be) else s
    else
      let (_, s) := s.landPage w i r r.persist
      (s.writeDram w r).rotateLine i r w.line

/-- The merges that a channel still holds end, and the lines already written to pages that fill become line records. -/
def State.landBuffers (s : State) : State :=
  let ms := (List.range 16).flatMap fun n => (s.ch n).merges
  let s := (List.range 16).foldl (fun s n => s.setCh n { s.ch n with merges := [] }) s
  let s := ms.foldl (fun s m =>
    if (s.page (m.line / 64)).st = .filling then s.lineRecord m.line (mergeLine (s.latest m.line) m.data m.be)
    else s.setLine m.line (mergeLine (s.line m.line) m.data m.be)) s
  let filling := s.tier.pages.filter fun e => e.2.st == .filling
  let s := filling.foldl (fun s e =>
    let persist := (s.regionOf (4096 * e.1)).any fun x => x.2.persist
    let s := if persist then (pageLines e.1).foldl (fun s l =>
      if e.2.mask.getLsbD (l % 64) then s.lineRecord l (s.line l) else s) s else s
    s.setPage e.1 { Page.empty with inImage := e.2.inImage }) s
  { s with tier := { s.tier with fills := [] } }

/-- A pack test ends without a result when SAVE starts (R447): the previous C and ESR stay. -/
def State.dropPackTests (s : State) : State :=
  let abandon (s : State) (e : Nat × Pack) : State :=
    if e.2.st = .testing then
      let p := { e.2 with st := .healthy, test := .none, req := false, testedAt := s.timeNs }
      let s := { s with hub := { s.hub with packs := Sparse.set (fun _ => Pack.absent) s.hub.packs e.1 p } }
      ((s.log 0x9010 .notice srcPacks e.1 (4 * 16 + 3)).sensorChange (0x110 + e.1) 3).log 0x9011 .notice srcPacks e.1 p.id.cUf p.id.esr 1
    else s
  s.hub.packs.foldl abandon s

/-- The image a save writes: a free one, the one that the last save did not use when both are free (log entry 20). -/
def State.pickImage (s : State) : Bool :=
  if s.imageFree (! s.per.saveImage) then ! s.per.saveImage else s.per.saveImage

/-- Steps 1 and 2 of R96: the mode becomes SAVE, ports stop, napping channels wake, and every accepted write lands, ceiling-stalled
writes without the check. The 2 µs and 20 µs of the steps pass inside this step. -/
def State.startSave (s : State) (t : Trigger) : State :=
  let latched := s.mc.latchedMaint || (s.mc.mode == .drain && s.mc.drainMaint)
  let s := { s with mc := { s.mc with beforeSave := s.mc.mode, latchedMaint := latched, drainMaint := false, saveReqs := [] },
                    pw := { s.pw with vddqExcursion := false } }
  let s := s.setMode .save t
  let b := s.pickImage
  let seq := s.per.saveSeq + 1
  let trig := if t = .railTrip then 1 else 0
  let im := s.image b
  let fresh : Image := { Image.empty with st := .writing, seq := seq, time := s.timeNs, trigger := trig, epoch := s.rgn.epoch,
                                          guard := s.per.guard, bitmap := s.twin.bitmap }
  let s := { s with per := { s.per with saveImage := b, saveSeq := seq, saveStart := s.timeNs, saveTrigger := trig,
                                        saveStep := .landed, flushCut := false } }
  let s := s.setImage b (if s.imageFree b then fresh else im)
  let s := s.log 0x5010 .critical srcPersist seq.toNat s.atRisk trig
  let s := s.forgetRequesters.dropPackTests
  let wake (s : State) (n : Nat) : State :=
    let c := s.ch n
    match c.st with
    | .nap1 | .nap2 | .pasr => s.setCh n { c with st := .active, waking := false, early := false }
    | _ => s
  let s := (List.range 16).foldl wake s
  let stalled := s.per.adm
  let waiting := s.tier.wayWrites
  let direct := s.per.wts.flatMap WriteThrough.direct
  let s := { s with per := { s.per with adm := [] }, tier := { s.tier with wayWrites := [], wayWaits := [] },
                    arb := { s.arb with parked := [] } }
  let s := stalled.foldl (fun s w => s.landForSave true w) s
  let s := waiting.foldl (fun s w => s.landForSave false w) s
  let s := direct.foldl (fun (s : State) (d : Nat × LineData × BitVec 64 × Bool) =>
    s.landForSave false ⟨0, d.1, d.2.1, d.2.2.1, d.2.2.2, .internal, 0, 0, 0⟩) s
  let s := s.landBuffers
  { s with per := { s.per with wts := s.per.wts.filter fun t => t.started },
           tests := { s.tests with scans := [] } }

/-- A save event is taken while the running save is at a step. -/
def State.saveAt (s : State) (st : SaveStep) : Bool := s.mc.mode == .save && s.per.saveStep == st

/-- The twin flush is cut off (R96, step 3): the ranges of copies not confirmed go into the bitmap, and the engine stops. -/
def State.cutFlush (s : State) : State :=
  if s.per.flushCut then s
  else
    let s := (s.leaveUp .absent 3)
    let im := s.image s.per.saveImage
    let fresh := s.twin.bitmap.countP fun k => ! im.bitmap.contains k
    let s := if im.st = .writing then s.setImage s.per.saveImage { im with twinUnsent := fresh, bitmap := s.twin.bitmap } else s
    { s with per := { s.per with flushCut := true } }

/-- The save has an image to write. -/
def State.saving (s : State) : Bool := (s.image s.per.saveImage).st == .writing && (s.image s.per.saveImage).seq == s.per.saveSeq

end Sys2Proof.Machine
end

