-- ==== Sys2Proof/Machine/FlashOps.lean ====
section
/-!
DEFINITION. The code flash (R387 to R396): its areas, code words, the record port; bundles as they stand in a slot (R397 to R399);
and the steps of update sessions that several commands share (R400 to R411).
-/
namespace Sys2Proof.Machine

/-! ## Areas (R387, R388) -/

/-- Bytes of the flash. -/
def flashBytes : Nat := 2 ^ 25

/-- The bank of an offset. -/
def flashBank (off : Nat) : Nat := off / 2 ^ 24

/-- The erase sector size at an offset. -/
def sectorBytes (off : Nat) : Nat := if off < 0x40000 then 2 ^ 14 else 2 ^ 16

/-- The start of the erase sector that holds an offset. -/
def sectorStart (off : Nat) : Nat := off / sectorBytes off * sectorBytes off

/-- The offset lies in the golden image. -/
def inGolden (off : Nat) : Bool := decide (0x40000 ≤ off) && decide (off < 0x440000)

/-- The parameter sector of an offset. -/
def paramSector (off : Nat) : Option Nat := if off < 0x40000 then some (off / 2 ^ 14) else none

/-- The offset lies in a configuration sector. -/
def inConfig (off : Nat) : Bool :=
  (paramSector off).any fun k => k == 0 || k == 1 || decide (4 ≤ k) && decide (k ≤ 8) || decide (13 ≤ k)

/-- The offset lies in a record sector. -/
def inRecords (off : Nat) : Bool := (paramSector off).any fun k => k == 2 || k == 3 || decide (9 ≤ k) && decide (k ≤ 12)

/-- The offset lies in a journal record area: session records or critical event copies. -/
def inJournal (off : Nat) : Bool := decide (0x1BC0000 ≤ off) && decide (off < 0x1BE0000)

/-- First byte of a slot, and its bytes. -/
def slotBase (k : Nat) : Nat := if k = 0 then 0x440000 else 0x1000000
def slotBytes : Nat := 0xBC0000

/-! ## Code words (R389) -/

/-- The code word at an index. -/
def State.flashWord (s : State) (k : Nat) : Option FlashWord := (s.flash.words.find? fun e => e.1 == k).map Prod.snd

/-- Puts a code word into a list of rising indices. -/
def putWord (k : Nat) (w : FlashWord) : List (Nat × FlashWord) → List (Nat × FlashWord)
  | [] => [(k, w)]
  | e :: t => if k < e.1 then (k, w) :: e :: t else if k = e.1 then (k, w) :: t else e :: putWord k w t

/-- Programs a code word. -/
def State.putFlash (s : State) (k : Nat) (w : FlashWord) : State :=
  { s with flash := { s.flash with words := putWord k w s.flash.words } }

/-- The content of a range is erased. -/
def State.eraseRange (s : State) (off bytes : Nat) : State :=
  { s with flash := { s.flash with words := s.flash.words.filter fun e => decide (32 * e.1 < off) || decide (off + bytes ≤ 32 * e.1) } }

/-- The bytes that n sectors from an offset on take. -/
def sectorsBytes (off : Nat) : Nat → Nat
  | 0 => 0
  | n + 1 => let b := sectorBytes off; b + sectorsBytes (off + b) n

/-- A 32-bit word of the flash; an erased or torn word reads as ones. -/
def State.flash32 (s : State) (off : Nat) : Word :=
  match s.flashWord (off / 32) with
  | some w => if w.torn then 0xFFFFFFFF#32 else w.data.extractLsb' (off % 32 * 8) 32
  | none => 0xFFFFFFFF#32

/-- Marks erased sectors whose erase has not passed its final verify, or takes the mark away (R393). -/
def State.mark (s : State) (off n : Nat) (on : Bool) : State :=
  let ms := s.flash.marked.filter fun m => m.1 != off
  { s with flash := { s.flash with marked := if on then ms ++ [(off, n)] else ms } }

/-- The boot ROM completes every erase still marked (R393). -/
def State.completeErases (s : State) : State :=
  s.flash.marked.foldl (fun s m =>
    ((s.eraseRange m.1 (sectorsBytes m.1 m.2)).mark m.1 m.2 false).log 0x803B .notice srcFlash m.1 m.2) s

/-- Flash operations end without their pulses: power or the reset took them. A word whose program had begun is torn (R389); erase
marks stay (R393); waiting requests are never started (R392). -/
def State.tearFlash (s : State) : State :=
  let s := s.flash.ops.foldl (fun s o =>
    if o.erase then s
    else (List.range (min 16 o.words.length)).foldl (fun s i => s.putFlash (o.off / 32 + i) ⟨true, 0⟩) s) s
  { s with flash := { s.flash with ops := [], waiting := [] } }

/-- Applies the staged parameter changes in the order they were written (R394). -/
def State.applyStaged (s : State) : State :=
  let s := s.flash.staged.foldl (fun s g =>
    if g.erase then s.eraseRange g.off (sectorsBytes g.off g.sectors)
    else ((List.range g.words.length).zip g.words).foldl (fun s e =>
      match s.flashWord (g.off / 32 + e.1) with
      | none => s.putFlash (g.off / 32 + e.1) ⟨false, e.2⟩
      | some _ => s) s) s
  { s with flash := { s.flash with staged := [] } }

/-! ## The record port (R395, R396) -/

/-- The home of records as its first byte and length: sectors 2 and 3 or 9 to 12 of bank 0, or the journal areas of bank 1 when the
execution bank is bank 0. -/
def State.recordHome (s : State) (sess : Bool) : Nat × Nat :=
  if s.flash.execBank = 0 then (if sess then (0x1BC0000, 0x10000) else (0x1BD0000, 0x10000))
  else (if sess then (0x8000, 0x8000) else (0x24000, 0x10000))

/-- The flash starts no pulse: VDD_FLASH is below its brown-out level, or out of its range (R392, R500). -/
def State.flashLow (s : State) : Bool := s.flash.brownout || s.pw.railFault.getLsbD 2

/-- Erased code words of a range, and the first of them. -/
def State.freeWords (s : State) (h : Nat × Nat) : Nat := h.2 / 32 - (s.flash.words.countP fun e => decide (h.1 ≤ 32 * e.1) && decide (32 * e.1 < h.1 + h.2))
def State.firstFree (s : State) (h : Nat × Nat) : Option Nat := ((List.range (h.2 / 32)).find? fun i => (s.flashWord (h.1 / 32 + i)).isNone).map fun i => h.1 / 32 + i

/-- A record goes into the next erased word of its home. Firmware that runs from bank 0 erases a full journal session area first; an
event copy that finds no word is dropped (R395). The first component tells whether the record was written. -/
def State.portWrite (s : State) (sess : Bool) (data : BitVec 256) : Bool × State :=
  if s.flashLow then (false, s)
  else
    let h := s.recordHome sess
    let s := if sess && s.freeWords h == 0 && s.flash.execBank == 0 then s.eraseRange h.1 h.2 else s
    match s.firstFree h with
    | some k => (true, s.putFlash k ⟨false, data⟩)
    | none => (false, s)

/-- A code word of eight 32-bit words, word 0 least significant. -/
def codeWord (ws : List Nat) : BitVec 256 := BitVec.ofNat 256 (ws.foldr (fun w a => w % 2 ^ 32 + 2 ^ 32 * a) 0)

/-- Word k of a code word. -/
def wordOf (c : BitVec 256) (k : Nat) : Word := c.extractLsb' (32 * k) 32

/-- The record that a flash copy holds. -/
def LogRec.ofCode (c : BitVec 256) : LogRec :=
  let w3 := (wordOf c 3).toNat
  { slot := 0, seq := wordOf c 0, time := (wordOf c 2 ++ wordOf c 1 : BitVec 64), code := BitVec.ofNat 16 (w3 / 2 ^ 16),
    sev := match w3 / 2 ^ 14 % 4 with | 0 => .info | 1 => .notice | 2 => .error | _ => .critical
    source := BitVec.ofNat 8 (w3 / 64), acked := false, synced := w3.testBit 1, summary := w3.testBit 2, restored := w3.testBit 3,
    copied := true, w4 := wordOf c 4, w5 := wordOf c 5, w6 := wordOf c 6, w7 := wordOf c 7 }

/-- The event copies that the flash holds. -/
def State.flashCopies (s : State) : List LogRec :=
  (s.flash.words.filter fun e =>
    ! e.2.torn && (decide (0x24000 ≤ 32 * e.1) && decide (32 * e.1 < 0x34000) || decide (0x1BD0000 ≤ 32 * e.1) && decide (32 * e.1 < 0x1BE0000))).map
    fun e => LogRec.ofCode e.2.data

/-! ## Bundles (R397 to R399) -/

/-- Word k of the bundle in a slot. -/
def State.bundle (s : State) (slot k : Nat) : Nat := (s.flash32 (slotBase slot + 4 * k)).toNat

/-- Fields of a manifest header. -/
def State.mfLength (s : State) (slot : Nat) : Nat := s.bundle slot 2
def State.mfVer (s : State) (slot : Nat) : Nat := s.bundle slot 3
def State.mfSvn (s : State) (slot : Nat) : Nat := s.bundle slot 4 % 2 ^ 8
def State.mfKeySlot (s : State) (slot : Nat) : Nat := s.bundle slot 4 / 2 ^ 8 % 4
def State.mfLevel (s : State) (slot : Nat) : Nat := s.bundle slot 4 / 2 ^ 10 % 16
def State.mfFloorBundle (s : State) (slot : Nat) : Nat := s.bundle slot 6
def State.mfFloorPartner (s : State) (slot : Nat) : Nat := s.bundle slot 7
def State.mfSigOff (s : State) (slot : Nat) : Nat := s.bundle slot 8

/-- A component as its table entry gives it (R398): type, instance, state format, version, offset, length. -/
structure Component where
  typ  : Nat
  inst : Nat
  fmt  : Nat
  ver  : Nat
  off  : Nat
  len  : Nat
  deriving DecidableEq, Repr

/-- Component i of the bundle in a slot. -/
def State.component (s : State) (slot i : Nat) : Component :=
  let w (k : Nat) : Nat := s.bundle slot (16 + 16 * i + k)
  ⟨w 0 % 256, w 0 / 2 ^ 8 % 256, w 0 / 2 ^ 16 % 256, w 1, w 2, w 3⟩

/-- The components of the bundle in a slot. -/
def State.components (s : State) (slot : Nat) : List Component :=
  (List.range (s.bundle slot 1 / 2 ^ 16 % 256)).map (s.component slot)

/-- Bytes of the signature block: two lengths, both signatures, padded to 32 bytes (R397). -/
def sigBytes : Nat := (8 + 96 + 4627 + 31) / 32 * 32

/-- Two byte ranges do not meet. -/
def apart (a n b m : Nat) : Bool := decide (a + n ≤ b) || decide (b + m ≤ a)

/-- Check 1 of R399. -/
def State.check1 (s : State) (slot : Nat) : Bool :=
  let cs := s.components slot
  let len := s.mfLength slot
  let table := 64 + 64 * cs.length
  let sig := s.mfSigOff slot
  let idx := List.range cs.length
  s.bundle slot 0 == 0x4D414E46 && s.bundle slot 1 % 2 ^ 16 == 1 && len % 32 == 0 && decide (len ≤ slotBytes) &&
    (cs.all fun c => c.off % 32 == 0 && decide (c.off + c.len ≤ len) && apart c.off c.len 0 table && apart c.off c.len sig sigBytes) &&
    idx.all fun i => idx.all fun j => i == j ||
      apart (s.component slot i).off (s.component slot i).len (s.component slot j).off (s.component slot j).len

/-- Check 7 of R399: one control image, sixteen PHY microcodes, 32 NAND sequencer microcodes, one engine of each kind. -/
def State.check7 (s : State) (slot : Nat) : Bool :=
  let cs := s.components slot
  let n (t i : Nat) : Nat := cs.countP fun c => c.typ == t && c.inst == i
  n 1 0 == 1 && n 4 0 == 1 && n 5 0 == 1 && ((List.range 16).all fun i => n 2 i == 1) && ((List.range 32).all fun i => n 3 i == 1) &&
    cs.length == 51

/-- The first check of R399 that fails, with the component of check 6; the signatures and the digests are facts of the content
that the command gives. -/
def State.verify (s : State) (slot : Nat) (ecdsa mldsa : Bool) (badDigest : Option Nat) : Option (Nat × Nat) :=
  if ! s.check1 slot then some (1, 0)
  else if ! ecdsa then some (2, 0)
  else if ! mldsa then some (3, 0)
  else if Nat.testBit (s.fld SEC_FW_REVOKED) (s.mfKeySlot slot) ∨ s.mfSvn slot < s.flash.fusedSvn then some (4, 0)
  else if ! Nat.testBit (s.bundle slot 5) 1 ∨ s.fld GLB_REV_ROM_REV < s.bundle slot 5 / 2 ^ 8 % 2 ^ 16 then some (5, 0)
  else match badDigest with
    | some i => some (6, i)
    | none => if s.check7 slot then none else some (7, 0)

/-- The manifest digest's first four bytes, byte 0 first. -/
def State.digest4 (s : State) (slot : Nat) : Nat :=
  let bytes := (List.range (s.mfSigOff slot)).map fun i => (s.flash32 (slotBase slot + i / 4 * 4)).toNat / 2 ^ (8 * (i % 4)) % 256
  ((Config.sha384 bytes).toNat / 2 ^ 352) % 2 ^ 32

/-! ## Slots and the session -/

/-- A slot. -/
def State.slot (s : State) (k : Nat) : FlashSlot := if k = 0 then s.flash.slotA else s.flash.slotB

/-- Replaces a slot. -/
def State.setSlot (s : State) (k : Nat) (x : FlashSlot) : State :=
  if k = 0 then { s with flash := { s.flash with slotA := x } } else { s with flash := { s.flash with slotB := x } }

/-- The state of a slot (FLS_SLOT_STAT). -/
def State.setSlotState (s : State) (k st : Nat) : State := s.setSlot k { s.slot k with st := st }

/-- Changes the session. -/
def State.setSess (s : State) (x : Session) : State := { s with flash := { s.flash with sess := x } }

/-- The execution bank of an image in a slot. -/
def slotBank (k : Nat) : Nat := k

/-- Writes a session record (R396); the port takes it later when no pulse may start now. -/
def State.sessRecord (s : State) (kind arg0 arg1 : Nat) : State :=
  let x := s.flash.sess
  let w := codeWord [kind + 2 ^ 8 + 0x5345 * 2 ^ 16, x.recSeq.toNat, x.id.toNat, arg0, arg1, s.digest4 x.target, s.mfVer x.target, 0]
  let s := s.setSess { x with recSeq := x.recSeq + 1 }
  match s.portWrite true w with
  | (true, s) => s
  | (false, s) => { s with portQueue := s.portQueue ++ [.sess w] }

/-- The session ends: UPD_SESSION_END. -/
def State.endSession (s : State) (how : Nat) : State :=
  let x := s.flash.sess
  (s.setSess { Session.idle with id := x.id, recSeq := x.recSeq }).log 0x8031 .notice srcFlash x.id.toNat how

/-- The confirmed offset of a slot: the end of the run of cleanly written code words from its start (R402). -/
def State.confirmed (s : State) (slot : Nat) : Nat :=
  32 * ((List.range (slotBytes / 32)).findIdx fun i => match s.flashWord (slotBase slot / 32 + i) with
    | some w => w.torn
    | none => true)

/-- A slot holds no written word. -/
def State.slotErased (s : State) (slot : Nat) : Bool :=
  ! s.flash.words.any fun e => decide (slotBase slot ≤ 32 * e.1) && decide (32 * e.1 < slotBase slot + slotBytes)

/-- The session opens (R401): the OPEN record and UPD_SESSION_OPEN. -/
def State.openSession (s : State) : State :=
  let x := s.flash.sess
  let s := (s.setSess { x with st := .opened, off := 0, blockAt := s.timeNs }).setSlot x.target ⟨1, 0, 0, 0, 0⟩
  (s.sessRecord 1 (x.source + 4 * x.target) x.len).log 0x8030 .info srcFlash x.source x.id.toNat x.target x.len

/-- Little-endian words of a byte string from byte k on. -/
def bytes32 (bs : List Byte) (k : Nat) : Nat := (List.range 4).foldl (fun a i => a + (bs.getD (k + i) 0).toNat * 2 ^ (8 * i)) 0

/-- The code words of a block, the last one padded with 0xFF (R402). -/
def bytesToWords (bs : List Byte) : List (BitVec 256) :=
  (List.range ((bs.length + 31) / 32)).map fun i =>
    codeWord ((List.range 8).map fun j => (List.range 4).foldl (fun a b => a + (bs.getD (32 * i + 4 * j + b) 0xFF).toNat * 2 ^ (8 * b)) 0)

/-- Programs the words of a block; words written before are compared, and one that differs ends the block (R402). -/
def State.writeBlock (s : State) (k : Nat) : List (BitVec 256) → Status × State
  | [] => (.ok, s)
  | w :: t => match s.flashWord k with
    | none => (s.putFlash k ⟨false, w⟩).writeBlock (k + 1) t
    | some x => if ! x.torn && x.data == w then s.writeBlock (k + 1) t else (.conflict, s)

/-- A block for the open session (R402): its status, with the confirmed offset kept. The pulses of a block pass inside the step that
acknowledges it (log entry 22). -/
def State.takeBlock (s : State) (off : Nat) (bs : List Byte) : Status × State :=
  let x := s.flash.sess
  let len := if off = 0 ∧ 64 ≤ bs.length then bytes32 bs 8 else x.len
  if off % 32 ≠ 0 ∨ x.off < off ∨ slotBytes < off + bs.length ∨ (bs.length % 32 ≠ 0 ∧ off + bs.length ≠ len) ∨ (off = 0 ∧ bs.length < 64) then
    (.invalid, s)
  else if s.flashLow then (.busy, s)
  else
    let (st, s) := s.writeBlock ((slotBase x.target + off) / 32) (bytesToWords bs)
    let x := { s.flash.sess with len := len, blockAt := s.timeNs }
    (st, s.setSess { x with off := min len (s.confirmed x.target) })

/-- A source asks to open a session, with the length of its bundle (R400, R401): BUSY while another session is open, NO_SPACE when
the record home is nearly full, BUSY while the target slot is still to be erased. -/
def State.askSession (s : State) (source len : Nat) : Status × State :=
  let x := s.flash.sess
  if x.st = .erasing ∨ x.st ≠ .idle then (.busy, s)
  else if s.freeWords (s.recordHome true) < 32 ∧ s.flash.execBank ≠ 0 then
    (.noSpace, s.log 0x803E .error srcFlash 1)
  else
    let t := 1 - s.flash.running
    let s := s.setSess { Session.idle with id := x.id + 1, recSeq := x.recSeq, source := source, target := t, len := len,
                                           st := .erasing, blockAt := s.timeNs }
    if s.slotErased t then (.ok, s.openSession)
    else
      let n := slotBytes / 2 ^ 16
      let s := (s.mark (slotBase t) n true).setSlot t ⟨1, 0, 0, 0, 0⟩
      (.busy, { s with flash := { s.flash with
        ops := s.flash.ops ++ [⟨flashBank (slotBase t), true, slotBase t, [], n, none, 0, false⟩] } })

/-- A block from a source (R400, R402). -/
def State.sourceBlock (s : State) (source off : Nat) (bs : List Byte) : Status × State :=
  let x := s.flash.sess
  match x.st with
  | .idle =>
    if off ≠ 0 ∨ bs.length < 64 then (.invalid, s)
    else match s.askSession source (bytes32 bs 8) with
      | (.ok, s) => s.takeBlock off bs
      | (st, s) => (st, s)
  | .opened => if x.source = source then s.takeBlock off bs else (.busy, s)
  | .erasing => (.busy, s)
  | _ => if x.source = source then (.invalid, s) else (.busy, s)

/-- The source ends the transfer: OPEN becomes VERIFYING (R401). -/
def State.endTransfer (s : State) (source : Nat) : Status × State :=
  let x := s.flash.sess
  if x.st = .opened ∧ x.source = source then (.ok, s.setSess { x with st := .verifying })
  else if x.st ≠ .idle ∧ x.source ≠ source then (.busy, s) else (.invalid, s)

/-- The controller asks the BMC for the next block of its update, from the confirmed offset: a multiple of 32 bytes, 4 KiB at most. With
the whole bundle there, the transfer is complete (R401, R488). -/
def State.askData (s : State) : State :=
  let x := s.flash.sess
  if x.source ≠ 2 ∨ x.st ≠ .opened then s
  else if x.len ≤ x.off then (s.endTransfer 2).2.emit (.mgmt s.mgmt.fwBus 0x01 0x516 0 [0])
  else s.emit (.mgmt s.mgmt.fwBus 0x01 0x515 0 [x.off, min 4096 ((x.len - x.off + 31) / 32 * 32)])

/-- An OPEN or VERIFIED session is aborted (R401): the ABORTED record. -/
def State.abortSession (s : State) (how : Nat) : State := (s.sessRecord 8 0 0).endSession how

/-! ## Activation (R404 to R409) -/

/-- Sends an update message to every other member of a set: the twin over BTT, stack members over the stack bus (R403). -/
def State.tellMembers (s : State) (ms : List Nat) (ws : List Nat) : State :=
  ms.foldl (fun s m => if m = 1 then (if s.twinUp then s.queueCtrl ws else s) else s.emit (.stack 2 ((m - 2) :: ws))) s

/-- An activation is refused: UPD_ACT_REFUSED, the session VERIFIED again. -/
def State.actRefused (s : State) (member reason : Nat) : State :=
  let x := s.flash.sess
  let s := s.setSess { x with st := if x.st = .scheduled then .verified else x.st, members := [], yes := [], proposer := false }
  s.log 0x8034 .error srcFlash member reason

/-- The control image starts from the trial slot (R406, R407): TRIAL_START and UPD_TRIAL_START with a cause. -/
def State.startTrial (s : State) (cause : Nat) : State :=
  let x := s.flash.sess
  let n := (s.slot x.target).starts
  let s := (s.setSess { x with st := .trial, trialAt := s.timeNs, sentHealthy := false, healthy := [] }).setSlotState x.target 3
  let s := { s with flash := { s.flash with execBank := slotBank x.target } }
  (s.sessRecord 5 (n + 16 * cause) 0).log 0x8036 .notice srcFlash x.target n cause

/-- The trial reverts (R409): the REVERTED record first, then the swap back; the slot is invalid. -/
def State.revert (s : State) (cause : Nat) : State :=
  let x := s.flash.sess
  let s := (s.sessRecord 7 cause 0).setSlotState x.target 6
  let s := s.log 0x8038 .error srcFlash s.flash.running cause
  let s := s.tellMembers x.members [0x0E, x.id.toNat, 3]
  s.setSess { s.flash.sess with st := .reverting, swapped := 0 }

/-- The trial is confirmed (R408). -/
def State.confirm (s : State) : State :=
  let x := s.flash.sess
  let s := s.sessRecord 6 0 0
  let svn := max s.flash.fusedSvn (s.mfSvn x.target)
  let s := (s.setSlotState x.target 4).setSlotState s.flash.running 5
  let s := { s with flash := { s.flash with running := x.target, fusedSvn := svn, keySlot := s.mfKeySlot x.target } }
  let s := s.log 0x8037 .notice srcFlash x.target (s.mfVer x.target) svn
  let s := s.tellMembers x.members [0x0E, x.id.toNat, 2]
  s.endSession 1

/-- A start of the trial image ends unconfirmed (R407). -/
def State.countStart (s : State) : State :=
  let x := s.flash.sess
  if x.st = .trial then s.setSlot x.target { s.slot x.target with starts := min 3 ((s.slot x.target).starts + 1) } else s

/-- The BTT level of the engine in force, which the twin link compares (R233, R409). -/
def State.bttLevel (s : State) : Nat := s.flash.bttLevel

/-- A bundle fails a signature, version or key-slot check (R368): FW_SIG_FAIL. `check`: the first check of R399 that fails. -/
def State.sigFail (s : State) (slot : Nat) (check : Option Nat) : State :=
  let w (n : Nat) : State := s.log 0x7040 .error srcSec slot n
  match check with
  | some 2 => w 1
  | some 3 => w 2
  | some 4 => w (if Nat.testBit (s.fld SEC_FW_REVOKED) (s.mfKeySlot slot) then 4 else 3)
  | _ => s

/-- The boot ROM chooses the image (R368, R407): `badA`, `badB`: the first of checks 1 to 6 that a slot's bundle fails. The answer names
the slot, or none for the golden image. A trial slot that cannot start is reverted. -/
def State.selectImage (s : State) (badA badB : Option Nat) (cause : Nat) : Option Nat × State :=
  let bad (k : Nat) : Option Nat := if k = 0 then badA else badB
  let x := s.flash.sess
  let trial := x.st == .trial || x.st == .activating || (x.offline && (x.st == .verified))
  let runs (s : State) (k : Nat) : Option Nat × State :=
    (some k, { s.setSlotState k 4 with flash := { (s.setSlotState k 4).flash with execBank := slotBank k, running := k } })
  let fallback (s : State) : Option Nat × State :=
    let r := s.flash.running
    if bad r = none then runs s r
    else
      let s := s.sigFail r (bad r)
      let golden (s : State) : Option Nat × State := (none, { s with flash := { s.flash with execBank := 0 } })
      if (s.slot (1 - r)).st ≠ 5 then golden s
      else if bad (1 - r) = none then runs s (1 - r)
      else golden (s.sigFail (1 - r) (bad (1 - r)))
  if trial then
    if (s.slot x.target).starts < 3 ∧ bad x.target = none then
      let s := if x.offline then s.setSess { x with offline := false, actAt := s.timeNs } else s
      (some x.target, s.startTrial cause)
    else
      let three := decide (3 ≤ (s.slot x.target).starts)
      let s := if three then s else s.sigFail x.target (bad x.target)
      let s := (s.revert (if three then 4 else 3)).endSession 4
      fallback s
  else if x.st = .reverting then fallback (s.endSession 4)
  else fallback s

/-- An OPEN session after a loss of power (R411): the sector of the first word that is not cleanly written is erased with every later
sector that holds words, and the offset is its start. -/
def State.resumeOpen (s : State) : State :=
  let x := s.flash.sess
  let base := slotBase x.target
  let cut := sectorStart (base + s.confirmed x.target)
  let s := s.eraseRange cut (base + slotBytes - cut)
  s.setSess { s.flash.sess with off := cut - base, blockAt := s.timeNs }

/-- Resumes the session from its records after a loss of power or a cold restart (R411). `time`: the device time is known. -/
def State.resumeSession (s : State) (time : Bool) : State :=
  let x := s.flash.sess
  match x.st with
  | .erasing => s.openSession.askData
  | .opened => s.resumeOpen.askData
  | .scheduled =>
    if ! time then s.setSess { x with waitTime := true }
    else
    let s := s.setSess { x with waitTime := false }
    let x := s.flash.sess
    if x.actTime ≤ s.timeNs then (s.setSess { x with st := .activating, actAt := s.timeNs, swapped := 0 }).sessRecord 4 0 0
    else s.actRefused 0 6
  | _ => s

/-- The boot ROM compacts the record homes: the records of the open session stay (R395). -/
def State.compactHomes (s : State) : State :=
  let mine (e : Nat × FlashWord) : Bool := s.flash.sess.st != .idle && wordOf e.2.data 2 == s.flash.sess.id && ! e.2.torn
  let home (o : Nat) : Bool := decide (0x8000 ≤ o) && decide (o < 0x10000) || decide (0x1BC0000 ≤ o) && decide (o < 0x1BD0000)
  let kept := s.flash.words.filter fun e => home (32 * e.1) && mine e
  let ws := s.flash.words.filter fun e => ! home (32 * e.1)
  let s := { s with flash := { s.flash with words := ws } }
  kept.foldl (fun s e => (s.portWrite true e.2.data).2) s

/-- What the boot ROM does with the flash at the start of BOOT (R393 to R395, R411). `time`: the device time is known. -/
def State.bootFlash (s : State) (time : Bool) : State :=
  let s := { s.tearFlash with flash := { s.tearFlash.flash with execBank := 2 } }
  (s.completeErases.applyStaged.resumeSession time).countStart.compactHomes

end Sys2Proof.Machine
end

