-- ==== Sys2Proof/Machine/ModeOps.lean ====
section
/-!
DEFINITION. Mode requests (R539), the entries into BOOT, STANDBY and DRAIN, the rebuild of the event log (R424), the checks of save
images at BOOT (R99, R101, R105) and their application (R102).
-/
namespace Sys2Proof.Machine

/-! ## Units that stop with a mode -/

/-- The Ethernet links are down with the mode (R34): the twin engine leaves UP with cause 3, the mode. -/
def State.ethLinksDown (s : State) : State :=
  let s := s.leaveUp .disabled 3
  { s with rdma := { s.rdma with ethUp := 0 }, twin := { s.twin with pathsUp := 0, session := false } }

/-- Every link goes down with the mode (R34): CXL links write LINK_STATE. -/
def State.linksDown (s : State) : State :=
  let up := s.ports.links.filter fun e => e.2.up
  let s := up.foldl (fun s e => s.log 0x4001 .notice (srcPort (e.1 / 4)) (e.1 / 4 + 16 * (e.1 % 4)) 0 (e.2.ver)) s
  let s := s.ethLinksDown
  { s with ports := { s.ports with links := [], lds := [] } }

/-- Enters STANDBY by a power-down (R31, R499); AUTO_WAKE is sampled (R495). -/
def State.enterStandby (s : State) (t : Trigger) (straps : Straps) : State :=
  let m := s.mc.mode
  let s := (s.linksDown.powerDown m).setMode .standby t
  { s with pw := { s.pw with strapAutoWake := straps.autoWake, ddrKept := s.pw.ddrKept, cold := none }, buffered := [] }

/-- Enters DRAIN from a serving mode (R31): from here on every persistent write is written through, the stalled ones included. -/
def State.enterDrain (s : State) (t : Trigger) (maint : Bool) : State :=
  let s := (s.setMode .drain t).releaseThrough
  { s with mc := { s.mc with drainMaint := maint } }

/-! ## Mode requests (R539) -/

/-- The first row of the table of R539 that matches a target and the current mode: RESULT and effect. -/
def State.modeRequest (s : State) (target : Nat) (ask : ModeAsk) : Status × State :=
  let m := s.mc.mode
  let t := ask.trigger
  let steady := m == .service || m == .degraded || m == .quiescent || m == .resync
  let refuse (st : Status) : Status × State := (st, s.refuseMode target t st)
  let latch (b : Bool) (s : State) : State := { s with mc := { s.mc with latchedMaint := b } }
  match target with
  | 0x2 => if m == .standby && ask.bmc then (.ok, s.wake (.mgmt ask)) else refuse .notPermitted
  | 0x7 =>
    if steady then (.ok, s.enterDrain t false)
    else if m == .drain then (.ok, s) else refuse .notPermitted
  | 0x4 =>
    if m == .drain then
      (.ok, ({ s with mc := { s.mc with drainMaint := false, latchedMaint := false } }).enterService t)
    else if s.mc.latchedMaint then (.ok, latch false s) else refuse .notPermitted
  | 0xB =>
    if steady then (.ok, s.enterDrain t true)
    else match m with
      | .drain => (.ok, { s with mc := { s.mc with drainMaint := true } })
      | .recovery => (.ok, s.setMode .maintenance t)
      | .standby | .boot | .restore => (.ok, latch true s)
      | .maintenance => (.ok, s)
      | _ => refuse .notPermitted
  | n => if 0xC ≤ n then refuse .invalid else refuse .notPermitted

/-- A mode request of the host or the BMC. A request that arrives in SAVE waits for the mode that follows the seal (R33); in
STANDBY only the BMC can make one, and in OFF nobody can. The BMC reaches the island only while VDD_IO is in range (R496), and
while the control complex is halted only its request for DRAIN is taken (R384, R481). A wake that is pending is answered later (R497). -/
def State.askMode (s : State) (target : Nat) (ask : ModeAsk) : State :=
  let m := s.mc.mode
  let s := if ask = .host ∧ m ≠ .off ∧ m ≠ .standby then s.setFld GLB_MODE_REQ_TARGET target else s
  if m = .off ∨ (m = .standby ∧ ! ask.bmc) then s
  else if ask.bmc ∧ (! s.pw.ioOk ∨ (m ≠ .standby ∧ ! s.ccRuns ∧ ! (s.cc.gap == .halted && target == 7))) then s
  else if m = .save then { s with mc := { s.mc with saveReqs := s.mc.saveReqs ++ [(target, ask)] } }
  else
    let (st, s) := s.modeRequest target ask
    if m = .standby ∧ s.pw.pendingWake = some (.mgmt ask) then s else s.answerMode ask st

/-- Evaluates the requests that arrived in SAVE, in their order (R33). -/
def State.decideSaveReqs (s : State) : State :=
  let qs := s.mc.saveReqs
  qs.foldl (fun s q =>
    let (st, s) := s.modeRequest q.1 q.2
    if q.2 = .itself then s else s.answerMode q.2 st) { s with mc := { s.mc with saveReqs := [] } }

/-! ## Entry to BOOT -/

/-- The CRC-32C of bytes. -/
def crc32c (bs : List Nat) : Word := ~~~ feed 0xFFFFFFFF#32 bs

/-- A factory trim set as its parameter sector holds it (R388, R438; log entry 18): `none` when its check fails. -/
def State.factorySet (s : State) (k : Nat) : Option (List Word) :=
  let base := (4 + k) * 0x4000
  let ws := (List.range 72).map fun i => s.flash32 (base + 4 * i)
  let bytes := ws.flatMap fun w => (List.range 4).map fun b => w.toNat / 256 ^ b % 256
  if s.flash32 (base + 0x140) = crc32c bytes then some ws else none

/-- Loads the factory trims (R438): a bad set is identity, every sensor is then UNCAL, and CAL_INVALID is logged. -/
def State.loadTrims (s : State) : State :=
  let sets := (List.range 3).map fun k => (k, s.factorySet k)
  let bad := (sets.filter fun e => e.2.isNone).map Prod.fst
  let trims := sets.foldl (fun (m : List (Nat × Word)) e => match e.2 with
    | some ws => ws.zipIdx.foldl (fun m w => Sparse.set (fun _ => trimIdentity) m (128 * e.1 + w.2) w.1) m
    | none => m) []
  let sensors := (List.range 72).foldl (fun m i =>
    let x := Sparse.get (fun _ => Sensor.reset) s.hub.sensors i
    Sparse.set (fun _ => Sensor.reset) m i { x with uncal := bad != [], ref := none, redo := false, staleFor := 0 }) s.hub.sensors
  let s := { s with hub := { s.hub with trims := trims, shadow := trims, badSets := bad, first := true, commit := false, sensors := sensors } }
  bad.foldl (fun s k => s.log 0x9003 .error srcSensors k) s

/-- The lowest reading of the thermal sensors, in 1/16 °C. -/
def State.coldest (s : State) : Int :=
  (List.range 24).foldl (fun a i => min a (Sparse.get (fun _ => Sensor.reset) s.hub.sensors i).value)
    (Sparse.get (fun _ => Sensor.reset) s.hub.sensors 0).value

/-- PRT_LD_EN of the links beyond link 0 after a reset: the lowest LD of each link of the configuration (R260, R289). -/
def State.resetLdMasks (s : State) : State :=
  (List.range 8).foldl (fun s p =>
    let n := bifurLinks (s.bifur p)
    (List.range n).foldl (fun s l => s.setRegAt .PRT_LD_EN p l 0 (BitVec.ofNat 32 (2 ^ (l * (16 / n))))) s) s

/-- What the boot ROM does at the start of each BOOT (R393, R438, R464, R495, R507, R534, R537), after the reset of the plane. -/
def State.bootStart (s : State) (straps : Straps) (cause : Nat) : State :=
  let boots := if s.pw.boots = 0xFFFF#16 then s.pw.boots else s.pw.boots + 1
  let low := s.coldest
  let s := s.resetPlane.resetLdMasks
  let s := { s with
    pw := { s.pw with bootCause := BitVec.ofNat 3 cause, boots := boots, strapStackId := straps.stackId,
                      strapRecovery := ! straps.recoveryN, rstHeld := false, bootAt := s.timeNs,
                      cold := if cause = 1 ∧ low < 0 then some low else none }
    mc := { s.mc with bootMaint := s.mc.latchedMaint, drainMaint := false } }
  let s := (s.setFld GLB_LOCK_LOCK 0).loadTrims.bootFlash s.clk.timeKnown
  let s := s.setFld GLB_STACK_CFG_SIZE_M1 (if s.flash32 0x20000 = 0xFFFFFFFF#32 then 0 else (s.flash32 0x20000).toNat % 4)
  { s with mc := { s.mc with causes := s.causesNow } }

/-- Enters BOOT (R31), with BOOT_CAUSE: 1 wake, 2 SYS_RST_N, 3 SOFT, 4 MAINTENANCE exit, 5 after SAVE, 6 RECOVERY exit (R511). -/
def State.enterBoot (s : State) (t : Trigger) (straps : Straps) (cause : Nat) : State :=
  (s.bootStart straps cause).setMode .boot t

/-! ## The event log at BOOT (R424) -/

/-- The highest sequence number of a list of records, in serial order. -/
def topSeq (rs : List LogRec) : Option (BitVec 32) :=
  rs.foldl (fun o r => match o with
    | none => some r.seq
    | some q => if serialGe r.seq q then some r.seq else some q) none

/-- The lowest sequence number of a list of records, in serial order. -/
def lowSeq (rs : List LogRec) : Option (BitVec 32) :=
  rs.foldl (fun o r => match o with
    | none => some r.seq
    | some q => if serialGe r.seq q then some q else some r.seq) none

/-- Enters a rebuilt record under R418, keeping its number; answers whether a record was overwritten or dropped. -/
def State.reenter (s : State) (r : LogRec) : Bool × State :=
  if s.evt.recs.length < 8192 then
    let (n, s) := s.fresh
    let free := s.evt.emptySlots
    let r := { r with slot := free.getD (n % free.length) 0 }
    (false, { s with evt := { s.evt with recs := s.evt.recs ++ [r] } })
  else match s.evt.victim r.sev with
    | some v =>
      (true, { s with evt := { s.evt with recs := (s.evt.recs.filter fun (x : LogRec) => x.slot != v.slot) ++ [{ r with slot := v.slot }] } })
    | none => (true, s)

/-- Inserts a record into a list of rising numbers. -/
def insertRec (r : LogRec) : List LogRec → List LogRec
  | [] => [r]
  | x :: t => if serialGe r.seq x.seq then x :: insertRec r t else r :: x :: t

/-- The log of the newest save image that has one, with SAVE_SEALED rebuilt when that image is sealed; its time in µs is not in the
seal record and is a free value (R424). -/
def State.imageLog (s : State) : List LogRec × State :=
  let a := s.image false
  let b := s.image true
  let x := if b.log = [] then a else if a.log = [] then b else if serialGe b.seq a.seq then b else a
  match topSeq x.log with
  | none => ([], s)
  | some q =>
    if x.sealedOk then
      let (n, s) := s.fresh
      let r := s.mkRec 0x5011 .notice srcPersist x.time false x.seq.toNat x.count n 0
      (x.log ++ [{ r with seq := q + 1 }], s)
    else (x.log, s)

/-- R424: keeps the log or rebuilds it from the newest source; records that this BOOT has already written follow the rebuilt ones
with new numbers (log entry 23). -/
def State.restoreLog (s : State) (sramOk : Bool) : State :=
  if sramOk then
    s.log 0x8040 .notice srcLog s.evt.recs.length 0 ((lowSeq s.evt.recs).getD 0).toNat 0
  else
    let intoBoot (r : LogRec) : Bool := r.code == 0x8010 && r.w4.toNat % 16 == 2
    let after := s.evt.recs.reverse.takeWhile fun r => ! intoBoot r
    let mine := (s.evt.recs.drop (s.evt.recs.length - after.length - 1))
    let (img, s) := s.imageLog
    let clean := s.per.clean.getD []
    let copies := s.flashCopies
    let newer (a b : List LogRec) : Bool := match topSeq a, topSeq b with
      | some x, some y => serialGe x y
      | some _, none => true
      | _, _ => false
    let (src, base) :=
      if img ≠ [] ∧ newer img clean ∧ newer img copies then (1, img)
      else if clean ≠ [] ∧ newer clean copies then (2, clean)
      else if copies ≠ [] then (3, []) else if img ≠ [] then (1, img) else if clean ≠ [] then (2, clean) else (4, [])
    let extra := match topSeq base with
      | some q => copies.filter fun r => serialGe r.seq q && r.seq != q
      | none => copies
    let all := (base ++ extra).foldl (fun l r => insertRec { r with restored := true } l) []
    let s := { s with evt := { s.evt with recs := [] } }
    let (lost, s) := all.foldl (fun (p : Nat × State) r =>
      let (gone, s) := p.2.reenter r
      (if gone then p.1 + 1 else p.1, s)) (0, s)
    let next := match topSeq all with | some q => q + 1 | none => 0
    let present := s.evt.recs.length
    let oldest := ((lowSeq s.evt.recs).getD 0).toNat
    let s := { s with evt := { s.evt with nextSeq := next } }
    let s := mine.foldl (fun s r =>
      let q := s.evt.nextSeq
      let s := (s.reenter { r with seq := q }).2
      { s with evt := { s.evt with nextSeq := q + 1 } }) s
    s.log 0x8040 .notice srcLog present src oldest lost

/-! ## Save images at BOOT (R99, R101, R105) -/

/-- The check of R101 that a sealed image fails: 1 magic or CRC, 2 tag, 3 epoch, 4 sequence. `bad`: 1 or 2 when the record is found
damaged. -/
def State.sealFails (s : State) (b : Bool) (bad : Nat) : Option Nat :=
  let x := s.image b
  if bad = 1 then some 1 else if bad = 2 then some 2
  else if (x.epoch - s.rgn.epoch).toNat ≥ 2 ^ 15 then some 3
  else if (x.seq - s.per.homeSeq).toNat = 0 ∨ (x.seq - s.per.homeSeq).toNat ≥ 2 ^ 31 then some 4
  else none

/-- An image that is not sealed (R99): its regions are marked, the count of dirty shutdowns rises, and the image is given up. -/
def State.giveUpImage (s : State) (b : Bool) : State :=
  let x := s.image b
  let s := s.setImage b { Image.empty with st := .erasing, seq := x.seq }
  if x.intentOk ∧ x.count = 0 then s
  else
    let persist := (s.rgn.table.filter fun e => e.2.valid && e.2.persist).map Prod.fst
    let marks := if x.intentOk then persist.filter fun i => x.map.contains i else persist
    let s := marks.foldl (fun s i => s.markDamaged i) s
    let s := { s with per := { s.per with dirtyShutdowns := s.per.dirtyShutdowns + 1, lastResult := if x.sealedOk then 4 else 3 } }
    s.log 0x5012 .critical srcPersist x.seq.toNat x.pages.length marks.length

/-- What BOOT finds in the save region: unsealed images are given up, and of the sealed ones those that fail a check (R99, R105). -/
def State.checkImages (s : State) (badA badB : Nat) : State :=
  [false, true].foldl (fun s b =>
    let x := s.image b
    match x.st with
    | .pending =>
      match s.sealFails b (if b then badB else badA) with
      | some c => (s.log 0x5021 .critical srcPersist c).giveUpImage b
      | none => s
    | .writing | .unsealed => s.giveUpImage b
    | _ => s) s

/-- The pending images in the order they are applied: a predecessor first (R101). -/
def State.sealedImages (s : State) : List Bool :=
  let a := s.per.imageA
  let b := s.per.imageB
  match a.st == .pending, b.st == .pending with
  | true, true => if serialGe b.seq a.seq then [false, true] else [true, false]
  | true, false => [false]
  | false, true => [true]
  | false, false => []

/-- Applies a sealed image (R102): its region table becomes the one of the restore, its pages are marked, its dirty bitmap is
loaded, and RESTORE_APPLIED is logged. -/
def State.applyImage (s : State) (b : Bool) : State :=
  let x := s.image b
  let rgn := { s.rgn with table := x.table, sets := x.sets, durTable := x.table, durSets := x.sets, epoch := x.epoch }
  let s := { s with rgn := rgn }
  let pages : List Nat := (x.pages ++ x.recs.map fun (e : Nat × Line) => e.1 / 64).eraseDups
  let s := pages.foldl (fun (s : State) k => s.setPage k { s.page k with inImage := true }) s
  let s := x.damaged.foldl (fun s i => s.markDamaged i) (s.setDirties x.bitmap)
  s.log 0x5020 .notice srcPersist x.seq.toNat x.pages.length ((s.timeNs - s.pw.bootAt) / 1000000)

/-- RESIDENT regions with content outside DRAM are REFILLING when service starts (R102). -/
def State.markRefilling (s : State) : State :=
  let es := s.rgn.table.filter fun e => e.2.valid && e.2.cls == .resident && ! e.2.refilling && s.unfilled e.2
  let t := putRegions s.rgn.table (es.map fun e => (e.1, { e.2 with refilling := true }))
  { s with rgn := { s.rgn with table := t } }

/-- The stored shutdown state is dirty and neither a seal nor a clean-shutdown record is found (R287). -/
def State.noteDirtyShutdown (s : State) (sealed : Bool) : State :=
  if s.ports.shutdownDirty ∧ ! sealed ∧ s.per.clean.isNone then
    { s with per := { s.per with dirtyShutdowns := s.per.dirtyShutdowns + 1 } }
  else s

/-- RGN_DPA_LIMIT from the dies of SERVING channels (R203). -/
def State.dpaLimit (s : State) : Nat :=
  match s.nand.geom with
  | some g => min 0x30000 ((s.servingNf.foldl (fun n c => n + (s.diesOf c).length) 0) * g.dieGib * 3 / 4)
  | none => 0

/-- Service starts at the end of BOOT or RESTORE: REFILLING is set, the clean-shutdown record is used up, and an
enabled twin link looks for its partner (R233). -/
def State.startService (s : State) : State :=
  let s := s.markRefilling
  let s := ({ s with per := { s.per with clean := none } }).enterService .workDone
  if s.flag BTT_LINK_CFG_EN ∧ s.twin.link = .disabled then s.setTwinState .absent 3 else s

/-- The roles of the cores after their self-tests (R372): the pair is filled first, then the standby. -/
def coreRoles (a b st : Bool) : CoreRole × CoreRole × CoreRole :=
  match a, b, st with
  | true, true, true => (.pair, .pair, .standby)
  | true, true, false => (.pair, .pair, .faulted)
  | true, false, true => (.pair, .faulted, .pair)
  | false, true, true => (.faulted, .pair, .pair)
  | true, false, false => (.active, .faulted, .faulted)
  | false, true, false => (.faulted, .active, .faulted)
  | false, false, true => (.faulted, .faulted, .active)
  | false, false, false => (.faulted, .faulted, .faulted)

end Sys2Proof.Machine
end

