-- ==== Sys2Proof/Machine/Power.lean ====
section
/-!
DEFINITION. Power-on, wakes and the power-up sequence, power failures, resets and the timebase (R496 to R508).
-/
namespace Sys2Proof.Machine

/-! ## VDD_AON (R31, R497, R507) -/

/-- The state that power-on reset leaves (R507): DRAM is not relied on, NAND, flash and what is durable in them are kept, the key
store is LOCKED (R361), and everything else is at its reset value. Device time goes on from its last value (log entry 24). -/
def State.powerOnReset (s : State) (straps : Straps) : State :=
  let p := s.resetPlane
  let sealed (e : Nat × KeySlot) : Nat × KeySlot := (e.1, { e.2 with st := if e.2.stored.isSome then .sealed else .empty, key1 := 0, key2 := 0 })
  let sec := { Security.reset with
    slots := (p.sec.slots.map sealed).filter fun e => e.2 != KeySlot.empty
    store := if p.sec.check.isSome then .locked else .unprovisioned
    check := p.sec.check, alarms := p.sec.alarms, rotations := p.sec.rotations }
  let chans := (List.range 16).foldl (fun m n => Sparse.set Channel.reset m n { p.ch n with pwrEn := true }) []
  let regs := p.regs.filter fun e => match locateReg e.1 with
    | some (r, _) => r.durable
    | none => false
  let pw := { Power.reset with ioOk := s.pw.ioOk, brdPg := s.pw.brdPg, pwrFailN := s.pw.pwrFailN, strapAutoWake := straps.autoWake }
  let per := { p.per with decl := Persist.reset.decl }
  { State.reset with
    pending := s.pending, timeNs := s.timeNs, freeCtr := s.freeCtr, outs := s.outs
    regs := regs, pw := pw, rgn := p.rgn, per := per, nand := p.nand, chans := chans, twin := p.twin
    ports := { p.ports with bifur := p.ports.sector, next := p.ports.sector }
    rings := p.rings, sec := sec, flash := s.tearFlash.flash
    tests := { Tests.reset with patrols := p.tests.patrols } }

-- @row VDD_AON_POWER_ON
/-- R31, R497, R507: OFF to STANDBY; the change writes no MODE_CHANGE (R42). -/
def execVddAonPowerOn (straps : Straps) (s : State) : Res := .next <|
  if s.mc.mode = .off then s.powerOnReset straps else s

-- @row VDD_AON_LOST
/-- R31: OFF from any mode. A save that has not sealed leaves an unsealed image (R99). -/
def execVddAonLost (s : State) : Res := .next <|
  let b := s.per.saveImage
  let x := s.image b
  let s := if s.mc.mode = .save ∧ x.st = .writing then s.setImage b { x with st := .unsealed } else s
  { s with
    mc := { s.mc with mode := .off }
    pw := { s.pw with aonOk := false, railEn := 0, railOk := 0, seqRail := none, seqRaised := 0, seqReady := false, pendingWake := none } }

/-! ## Wakes and the power-up sequence (R497, R498) -/

-- @row WAKE_SOURCE
/-- R497: a wake source fires in STANDBY: the sequence starts, or the wake is held as pending. AUTO_WAKE wakes only when it was
sampled high and BRD_PG is high. -/
def execWakeSource (w : WakeSource) (s : State) : Res := .next <|
  match w with
  | .boardRise =>
    let s := { s with pw := { s.pw with brdPg := true } }
    s.wake .board
  | .autoWake => if s.pw.strapAutoWake && s.pw.brdPg then s.wake .board else s
  | .mgmt => s.wake (.mgmt .itself)

/-- A pending wake starts the sequence once BRD_PG and PWR_FAIL_N are both high (R497). -/
def State.tryPending (s : State) : State :=
  if s.mc.mode = .standby ∧ s.pw.pendingWake.isSome ∧ s.pw.brdPg ∧ s.pw.pwrFailN ∧ ! s.sequencing then s.startSequence else s

-- @row PENDING_WAKE_TIMEOUT
/-- R497: a management wake that has waited 1 s is refused with NOT_PERMITTED. -/
def execPendingWakeTimeout (s : State) : Res := .next <|
  match s.pw.pendingWake with
  | some (.mgmt ask) =>
    let s := { s with pw := { s.pw with pendingWake := none } }
    (s.refuseMode 0x2 .bmc .notPermitted).answerMode ask .notPermitted
  | _ => s

-- @row RAIL_IN_RANGE
/-- R497: the rail the sequence waits for comes into range; the next enable rises. -/
def execRailInRange (s : State) : Res := .next <|
  match s.pw.seqRail with
  | some r =>
    let s := { s with pw := { s.pw with railOk := s.pw.railOk ||| BitVec.ofNat 6 (2 ^ r.val) } }
    s.raiseRail (r.val + 1)
  | none => s

-- @row RESET_RELEASE
/-- R497: every main rail is in range, and the controller enters BOOT with BOOT_CAUSE 1. -/
def execResetRelease (straps : Straps) (s : State) : Res := .next <|
  if s.mc.mode = .standby ∧ s.pw.seqReady then
    let s := { s with pw := { s.pw with seqReady := false, seqRaised := 0, mainBack := s.pw.brdPg && s.pw.pwrFailN } }
    s.enterBoot .wake straps 1
  else s

-- @row PWR_SEQ_FAIL
/-- R498: the rail of the last enable is not in range after 10 ms. `us`: the time since its enable. -/
def execPwrSeqFail (us : Nat) (s : State) : Res := .next <|
  match s.pw.seqRail with
  | some r =>
    let s := s.abandonSequence
    let s := { s with pw := { s.pw with failRail := BitVec.ofNat 3 r.val } }
    s.log 0x9020 .error srcPower r.val us
  | none => s

-- @row BRD_PG_FALL
/-- R497, R498: BRD_PG falls: a running sequence is abandoned, and a pending board wake is dropped. -/
def execBrdPgFall (s : State) : Res := .next <|
  let s := s.abandonSequence
  let w := if s.pw.pendingWake = some .board then none else s.pw.pendingWake
  { s with pw := { s.pw with brdPg := false, mainBack := false, pendingWake := w } }

-- @row PWR_FAIL_N_RISE
/-- R497: PWR_FAIL_N goes high; in STANDBY a pending wake whose BRD_PG is high starts the sequence. -/
def execPwrFailNRise (s : State) : Res := .next <|
  ({ s with pw := { s.pw with pwrFailN := true } }).tryPending

-- @row MAIN_POWER_BACK
/-- R502: PWR_FAIL_N and BRD_PG have both been high for 10 ms. -/
def execMainPowerBack (s : State) : Res := .next <|
  ({ s with pw := { s.pw with pwrFailN := true, brdPg := true, mainBack := true } }).tryPending

-- @row CRYSTAL_START
/-- R497: the island moves to the crystal. -/
def execCrystalStart (s : State) : Res := .next { s with clk := { s.clk with xtal := true } }

-- @row VDD_IO_LOST
/-- R496: IO_OK clears; the island ignores the management, pack and stack buses. -/
def execVddIoLost (s : State) : Res := .next { s with pw := { s.pw with ioOk := false } }

-- @row VDD_IO_RETURN
/-- R496: IO_OK sets. -/
def execVddIoReturn (s : State) : Res := .next { s with pw := { s.pw with ioOk := true } }

-- @row AVS_CONFIRM_TIMEOUT
/-- R496: a change of VDD_CORE is not confirmed within 1 ms: it is retried once, then the last confirmed voltage is held and
AVS_FAULT is logged. `mv`: the voltage requested, `sensed`: the voltage on the sense pair. -/
def execAvsConfirmTimeout (mv sensed : Nat) (s : State) : Res := .next <|
  match s.pw.avsReq with
  | some r =>
    let s := { s with pw := { s.pw with avsReq := none, avsRetried := false } }
    s.log 0x9022 .error srcPower r sensed
  | none => { s with pw := { s.pw with avsReq := some mv, avsRetried := true } }

/-! ## Power failure (R500, R501) -/

/-- A power failure or a trip of the rail monitor (R31, R32, R498, R500). -/
def State.mainPowerFails (s : State) (t : Trigger) (straps : Straps) : State :=
  match s.mc.mode with
  | .standby => s.abandonSequence
  | .boot | .recovery | .maintenance => s.enterStandby t straps
  | .restore | .service | .degraded | .quiescent | .drain | .resync => s.startSave t
  | .off | .save => s

-- @row POWER_FAIL
/-- R500: PWR_FAIL_N stays low for 100 ns. `straps`: the strap levels, AUTO_WAKE being sampled when STANDBY is entered. -/
def execPowerFail (straps : Straps) (s : State) : Res := .next <|
  ({ s with pw := { s.pw with pwrFailN := false, mainBack := false } }).mainPowerFails .pwrFail straps

/-- The rails that the monitor watches for SAVE (R496, R500). -/
def savesOn (rail : Fin 6) : Bool := rail.val == 0 || rail.val == 1 || rail.val == 4 || rail.val == 5

-- @row RAIL_MONITOR_TRIP
/-- R500, R502: a monitored rail stays below its save-trip level for 1 µs. `out`: it has left its recommended range as well; for
VDDQ_DDR in SAVE that excursion is latched. -/
def execRailMonitorTrip (rail : Fin 6) (out : Bool) (straps : Straps) (s : State) : Res := .next <|
  if ! savesOn rail ∨ ! s.pw.railEn.getLsbD rail.val then s
  else
    let s := s.mainPowerFails .railTrip straps
    if out then
      let ok := s.pw.railOk &&& ~~~ BitVec.ofNat 6 (2 ^ rail.val)
      { s with pw := { s.pw with railOk := ok, vddqExcursion := s.pw.vddqExcursion || (rail.val == 4 && s.mc.mode == .save) } }
    else s

/-! ## Resets (R507, R508) -/

/-- A reset that is honoured in the current mode (R508): in STANDBY it clears latched mode requests, in BOOT it restarts BOOT without
a change of mode, in RECOVERY and MAINTENANCE the controller goes through BOOT. -/
def State.honourReset (s : State) (straps : Straps) : State :=
  match s.mc.mode with
  | .standby => { s with mc := { s.mc with latchedMaint := false }, pw := { s.pw with rstHeld := false } }
  | .boot => s.bootStart straps 2
  | .recovery | .maintenance => s.enterBoot .reset straps 2
  | _ => s

/-- The modes in which SYS_RST_N is honoured at once (R508). -/
def Mode.takesReset : Mode → Bool
  | .standby | .boot | .recovery | .maintenance => true
  | _ => false

-- @row SYS_RST_N
/-- R508: SYS_RST_N is asserted: honoured, or held and logged once. -/
def execSysRstN (straps : Straps) (s : State) : Res := .next <|
  if s.mc.mode = .off then s
  else
    let s := { s with pw := { s.pw with rstLow := true } }
    if s.mc.mode.takesReset then s.honourReset straps
    else if s.pw.rstHeld then s
    else ({ s with pw := { s.pw with rstHeld := true } }).log 0x8080 .notice srcPower s.mc.mode.code

-- @row SYS_RST_N_RELEASE
/-- R508: a held pulse that ends is dropped. -/
def execSysRstNRelease (s : State) : Res := .next { s with pw := { s.pw with rstLow := false, rstHeld := false } }

-- @row HELD_RESET_APPLY
/-- R508: the held reset takes effect in a mode that honours it. -/
def execHeldResetApply (straps : Straps) (s : State) : Res := .next <|
  if s.pw.rstHeld ∧ s.mc.mode.takesReset then ({ s with pw := { s.pw with rstHeld := false } }).honourReset straps else s

-- @row SOFT
/-- R508: GLB_RST_CTL.SOFT: accepted in RECOVERY and MAINTENANCE, refused elsewhere with reason 6. -/
def execSoft (who : Writer) (straps : Straps) (s : State) : Res := .next <|
  match s.mc.mode with
  | .recovery | .maintenance => s.enterBoot .reset straps 3
  | .off => s
  | _ => s.reject (RegName.GLB_RST_CTL.offset 0 0 0) 1 6 who

-- @row TRST_N
/-- R507: TRST_N resets the test access port only; IDCODE is then the instruction. -/
def execTrstN (s : State) : Res := .next { s with tests := { s.tests with tap := Tests.reset.tap } }

-- @row MAINTENANCE_EXIT
/-- R31, R460: an exit request in MAINTENANCE resets the controller into BOOT. An array other than a lay-by that has failed memory BIST
keeps the controller in MAINTENANCE. -/
def execMaintenanceExit (straps : Straps) (s : State) : Res := .next <|
  if s.mc.mode = .maintenance ∧ s.regAt .GLB_BIST_STAT 0 0 0 >>> 16 = 0 then s.enterBoot .reset straps 4 else s

-- @row RECOVERY_RESET
/-- R31: the reset of the recovery image after a repair or an image update. -/
def execRecoveryReset (straps : Straps) (s : State) : Res := .next <|
  if s.mc.mode = .recovery then s.enterBoot .reset straps 6 else s

/-! ## The timebase (R506) -/

/-- The device timebase changes between locked and unlocked: TIMEBASE_LOCK. `off`: the offset from the source in ns. -/
def State.setTimebase (s : State) (on : Bool) (off : Int) : State :=
  if s.clk.tbLock = on then s
  else
    let w := BitVec.ofInt 32 off
    ({ s with clk := { s.clk with tbLock := on, timeKnown := s.clk.timeKnown || on, tbOffset := w } }).log 0x9024 .notice srcPower (if on then 1 else 0) w.toNat

-- @row TIMEBASE_LOCK
/-- R506: the offset has stayed below 1 µs for 16 intervals. While locked the device time is the timebase (R416): `time`. A session
that waits for the time goes on (R411). -/
def execTimebaseLock (off : Int) (time : Nat) (s : State) : Res := .next <|
  let s := ({ s with timeNs := time }).setTimebase true off
  if s.flash.sess.st = .scheduled ∧ s.flash.sess.waitTime ∧ s.mc.mode ≠ .standby ∧ s.mc.mode ≠ .off then s.resumeSession true else s

-- @row TIMEBASE_UNLOCK
/-- R506: the offset exceeds 10 µs, or no synchronisation has arrived for 5 s. -/
def execTimebaseUnlock (off : Int) (s : State) : Res := .next (s.setTimebase false off)

end Sys2Proof.Machine
end

