-- ==== Sys2Proof/Machine/Modes.lean ====
section
/-!
DEFINITION. BOOT, RESTORE, QUIESCENT, DRAIN and the mode requests (R30 to R44, R99 to R105, R525, R539).
-/
namespace Sys2Proof.Machine

/-! ## BOOT and RESTORE -/

-- @row COLD_BOOT_TRAIN_START
/-- R525: in a cold BOOT training starts: the lowest reading at the entry, the wait in ms, and whether a sensor still reads below
0 °C. -/
def execColdBootTrainStart (s : State) : Res := .next <|
  match s.pw.cold with
  | some low =>
    if s.mc.mode = .boot then
      let s := { s with pw := { s.pw with cold := none } }
      s.log 0x9025 .notice srcPower (BitVec.ofInt 32 low).toNat ((s.timeNs - s.pw.bootAt) / 1000000) (if s.coldest < 0 then 1 else 0)
    else s
  | none => s

/-- Records that a member clashes on its stack address (1) or SIZE_M1 (2): it serves as a lone controller (R466). -/
def State.admitStack (s : State) (clash : Fin 3) : State :=
  let clash : Fin 3 := if s.fld GLB_STACK_CFG_SIZE_M1 = 0 then 0 else clash
  let pos := s.pw.strapStackId.toNat
  let s := { s with stk := { s.stk with conflict := clash.val != 0, live := BitVec.ofNat 4 (2 ^ pos), lastHb := s.timeNs } }
  if clash.val = 0 then s else s.log 0x8062 .error srcStack s.pw.strapStackId.toNat clash.val

/-- The end of the start-up checks once the image is chosen (R31): MAINTENANCE for a request latched before this BOOT, RESTORE with a
sealed save image, otherwise service. -/
def State.endBoot (s : State) (badA badB : Fin 3) : State :=
  if s.mc.bootMaint && s.mc.latchedMaint then
    ({ s with mc := { s.mc with latchedMaint := false, bootMaint := false } }).ethLinksDown.setMode .maintenance .latched
  else
    let s := s.checkImages badA.val badB.val
    let sealed := s.sealedImages != []
    let s := s.noteDirtyShutdown sealed
    if sealed then s.setMode .restore .workDone else s.startService

-- @row BOOT_CHECKS_DONE
/-- R31, R372, R407, R424, R466: the start-up checks and the image selection finish. The facts found: the first of checks 1 to 6 of
R399 that the bundle of each slot fails (`failA`, `failB`), whether a seal record fails its CRC (1) or its tag (2), whether the event-log SRAM passes, which
cores pass their self-test, and whether the member clashes in its stack. -/
def execBootChecksDone (failA failB : Option (Fin 7)) (badA badB : Fin 3) (sramOk coreA coreB coreS : Bool) (clash : Fin 3) (s : State) : Res :=
  .next <|
  if s.mc.mode ≠ .boot ∨ s.pw.cold.isSome then s
  else
    let (a, b, c) := coreRoles coreA coreB coreS
    let s := { s with cc := { s.cc with roleA := a, roleB := b, roleS := c, gap := .none } }
    let s := (s.restoreLog sramOk).admitStack clash
    let s := { s with rgn := { s.rgn with limitGib := BitVec.ofNat 18 s.dpaLimit } }
    if s.pw.strapRecovery then
      ({ s with flash := { s.flash with execBank := 0 } }).ethLinksDown.setMode .recovery .recovery
    else
      match s.selectImage (failA.map Fin.val) (failB.map Fin.val) 3 with
      | (none, s) => s.ethLinksDown.setMode .recovery .recovery
      | (some _, s) => s.endBoot badA badB

-- @row RESTORE_APPLIED
/-- R102: every sealed image is applied, and service starts. -/
def execRestoreApplied (s : State) : Res := .next <|
  if s.mc.mode = .restore then (s.sealedImages.foldl (fun s b => s.applyImage b) s).startService else s

/-! ## QUIESCENT (R41) -/

/-- A channel in NAP1 or deeper; a CLOSED or OFFLINE channel issues no command and counts as asleep. -/
def ChState.asleep : ChState → Bool
  | .nap1 | .nap2 | .pasr | .closed | .offline => true
  | _ => false

/-- The conditions of R41. -/
def State.quiet (s : State) : Bool :=
  ((List.range 16).all fun n => (s.ch n).st.asleep && ! (s.ch n).waking) &&
  (s.ports.links.all fun e => ! e.2.up || e.2.pm == .l11 || e.2.pm == .l12) &&
  (s.rings.ops.all fun o => o.st == .done) && (s.tier.plans.all fun p => ! p.started)

-- @row QUIESCE_ENTER
/-- R41: the conditions have held for QUIESCE_IDLE. -/
def execQuiesceEnter (s : State) : Res := .next <|
  if s.mc.mode = .service ∧ s.flag GLB_SLEEP_CTL_QUIESCENT_EN ∧ s.quiet then s.setMode .quiescent .quiesced else s

/-! ## Mode requests (R539) -/

/-- A mode request. The island takes those of the BMC in STANDBY, and DRAIN while the complex is halted; in a gap the others wait (R377,
R481). -/
def State.requestMode (s : State) (target : Nat) (ask : ModeAsk) (c : Instr) : State :=
  let busOf (b : Fin 2) (type cmd : Nat) : State :=
    if s.cc.gap = .halted ∧ s.mc.mode ≠ .standby then (if type = 0x7F then s.askMode target ask else s)
    else if ! s.pw.ioOk ∨ s.mc.mode = .standby then s.askMode target ask
    else s.request (.mgmt b.val type cmd) c (·.askMode target ask)
  match ask with
  | .vendor b => busOf b 0x7F 0x04
  | .effecter b => busOf b 0x01 0x239
  | _ => s.askMode target ask

-- @row MODE_REQ_DRAIN
/-- R539: a request for 0x7, by GLB_MODE_REQ, MODE_REQ or the PLDM mode effecter. -/
def execModeReqDrain (ask : ModeAsk) (s : State) : Res := .next (s.requestMode 0x7 ask (.modeReqDrain ask))

-- @row MODE_REQ_DRAIN_CANCEL
/-- R539: a request for 0x4. -/
def execModeReqDrainCancel (ask : ModeAsk) (s : State) : Res := .next (s.requestMode 0x4 ask (.modeReqDrainCancel ask))

-- @row MODE_REQ_MAINTENANCE
/-- R539: a request for 0xB. -/
def execModeReqMaintenance (ask : ModeAsk) (s : State) : Res := .next (s.requestMode 0xB ask (.modeReqMaintenance ask))

-- @row MODE_REQ_WAKE
/-- R539: a request for 0x2, which only the BMC may make, in STANDBY. -/
def execModeReqWake (ask : ModeAsk) (s : State) : Res := .next (s.requestMode 0x2 ask (.modeReqWake ask))

-- @row MODE_REQ_OTHER
/-- R539: a request for any other code. -/
def execModeReqOther (target : Fin 16) (ask : ModeAsk) (s : State) : Res := .next (s.requestMode target.val ask (.modeReqOther target ask))

/-! ## DRAIN (R31, R34) -/

/-- The write-back of DRAIN is complete (R31, R34): the count is zero, no program runs or waits, and every commit is durable. -/
def State.drained (s : State) : Bool :=
  s.atRisk == 0 && s.tier.wbs == [] && s.per.wts == [] && s.per.adm == [] && s.rgn.undurable == 0 && s.rgn.ops == []

-- @row DRAIN_DONE
/-- R31, R424, R499: the clean-shutdown record is written, with the log and the twin's marks, and the controller goes to STANDBY or,
with a maintenance request pending, to MAINTENANCE. -/
def execDrainDone (straps : Straps) (s : State) : Res := .next <|
  if s.mc.mode = .drain ∧ s.drained then
    let maint := s.mc.drainMaint
    let durable := (List.range 16).foldl (fun m st => Sparse.set (fun _ => 1) m st (s.txSeq st)) s.twin.txDurable
    let s := { s with
      mc := { s.mc with drainMaint := false }, twin := { s.twin with txDurable := durable }
      per := { s.per with clean := some s.evt.recs } }
    if maint then s.ethLinksDown.setMode .maintenance .workDone else s.enterStandby .workDone straps
  else s

end Sys2Proof.Machine
end

