-- ==== Sys2Proof/Machine/PlanOps.lean ====
section
/-!
DEFINITION. Route plans: the check of a plan image (R126 to R129, R135), staging (R125, R131, R133), and pins (R118, R130, R139).
-/
namespace Sys2Proof.Machine

/-! ## The plan image (R126 to R129, R135) -/

/-- A 32-bit word of device memory. -/
def State.mem32 (s : State) (dpa : Nat) : Nat := ((s.latest (dpa / 64)).data.extractLsb' (dpa % 64 * 8) 32).toNat

/-- A byte of device memory. -/
def State.mem8 (s : State) (dpa : Nat) : Nat := ((s.latest (dpa / 64)).data.extractLsb' (dpa % 64 * 8) 8).toNat

/-- The CRC-32C of bytes [0, n) of memory from an address, the four bytes from `skip` on taken as zero. -/
def State.memCrc (s : State) (dpa n skip : Nat) : Word :=
  ~~~ (List.range n).foldl (fun c i => crcByte c (if skip ≤ i ∧ i < skip + 4 then 0 else s.mem8 (dpa + i))) 0xFFFFFFFF#32

/-- Columns of an inner block of a layout, when it is blocked (R124). -/
def blockCols (layout elem : Nat) : Option Nat := if layout = 2 then some (32 / 2 ^ elem) else if layout = 3 then some (64 / 2 ^ elem) else none

/-- The region that holds the whole of a range, when there is one. -/
def State.regionOfRange (s : State) (dpa n : Nat) : Option (Nat × Region) :=
  match s.regionOf dpa with
  | some (i, r) => if n ≠ 0 ∧ dpa + n ≤ r.start + r.bytes then some (i, r) else none
  | none => none

/-- The bytes of source that an entry spans. -/
def PlanEntry.span (e : PlanEntry) : Nat :=
  if e.kind = 0 then e.rowsM1 * e.pitch + (e.colsM1 + 1) * 2 ^ e.elem else e.pitch * 4096

/-- An entry record keeps its limits (R124, R129), in a slot of some bytes; its source lies in one STREAMED region. -/
def State.entryOk (s : State) (e : PlanEntry) (slot : Nat) : Bool :=
  let src := (s.regionOfRange e.src e.span).any fun x => x.2.cls == .streamed
  let el := 2 ^ e.elem
  if e.kind = 0 then
    src && decide (e.bytes ≤ 2 ^ 21) && decide ((e.colsM1 + 1) * el ≤ e.pitch) && e.src % el == 0 && e.pitch % el == 0 &&
      e.dst % 64 == 0 && decide (e.dst + e.bytes ≤ slot) && (blockCols e.layout e.elem).all fun w => (e.colsM1 + 1) % w == 0
  else
    e.kind == 1 && src && e.src % 4096 == 0 && decide (1 ≤ e.pitch) && decide (e.pitch ≤ 1048576) && decide (e.dst ≤ 65535)

/-- Reads the records of a plan image at a DPA. -/
def State.readPlan (s : State) (dpa : Nat) : PlanImage :=
  let w (o : Nat) : Nat := s.mem32 (dpa + o)
  let stream (k : Nat) : PlanStream :=
    let b := 64 + 16 * k
    ⟨w b % 128, w b / 128 % 2 == 1, w b / 256 % 32, w (b + 4), w (b + 8), w (b + 12)⟩
  let layer (k : Nat) : PlanLayer := let b := w 36 + 8 * k; ⟨w b, w (b + 4) % 2 ^ 16, w (b + 4) / 2 ^ 16 % 256⟩
  let entry (k : Nat) : PlanEntry :=
    let b := w 40 + 32 * k
    ⟨w b % 4, w b / 4 % 4, w b / 16 % 4, w (b + 4) + w (b + 8) % 2 ^ 16 * 2 ^ 32, w (b + 12), w (b + 16) % 2 ^ 16,
      w (b + 16) / 2 ^ 16, w (b + 20)⟩
  ⟨w 8, w 12 % 4096, w 16, w 20 % 2 ^ 16, w 24, (List.range (w 4 / 2 ^ 16 % 32 + 1)).map stream, (List.range (w 28)).map layer,
    (List.range (w 32)).map entry⟩

/-- Slot numbers of a stream: DEPTH + 1 from its first (R127). -/
def PlanStream.slots (x : PlanStream) : Nat × Nat := (x.slot, x.depth + 1)

/-- The first record of a plan image that fails a check of R135, by its byte offset; `none` when all pass. `len`: the LENGTH that the
command names. -/
def State.planFault (s : State) (dpa len : Nat) : Option Nat :=
  let w (o : Nat) : Nat := s.mem32 (dpa + o)
  let n := w 8
  let streams := w 4 / 2 ^ 16 % 32 + 1
  let tables := decide (64 + 16 * streams ≤ w 36) && decide (w 36 + 8 * w 28 ≤ w 40) && decide (w 40 + 32 * w 32 ≤ n) &&
    w 36 % 8 == 0 && w 40 % 32 == 0
  if w 0 ≠ 0x52504C4E ∨ w 4 % 2 ^ 16 ≠ 1 ∨ n ≠ len ∨ n % 64 ≠ 0 ∨ 2 ^ 24 < n ∨ n < 64 ∨ ! tables ∨ w 20 % 2 ^ 16 = 0 ∨
      (s.memCrc dpa n 60).toNat ≠ w 60 then some 0
  else
    let x := s.readPlan dpa
    let win := s.region x.window
    let slotBytes := x.slot64k * 65536
    let meets (a b : Nat × Nat) : Bool := decide (a.1 < b.1 + b.2) && decide (b.1 < a.1 + a.2)
    let inWindow (st : PlanStream) : Bool :=
      let lo := x.slotBase * 4096 + st.slot * slotBytes
      let hi := lo + (st.depth + 1) * slotBytes
      decide (hi ≤ win.bytes) && ! (decide (lo < x.msPage * 4096 + 4096) && decide (x.msPage * 4096 < hi))
    let streamOk (k : Nat) (st : PlanStream) : Bool :=
      decide (2 ≤ st.depth) && decide (st.depth ≤ 64) && decide (1 ≤ st.layers) && decide (st.layers ≤ 65535) &&
      decide (st.first + st.layers ≤ x.layers.length) && inWindow st &&
      (x.streams.take k).all fun o => o.msIndex != st.msIndex && ! meets o.slots st.slots
    let layerOk (y : PlanLayer) : Bool :=
      decide (1 ≤ y.entries) && decide (y.entries ≤ 256) && decide (1 ≤ y.advance) && decide (y.first + y.entries ≤ x.entries.length)
    if ! win.valid ∨ win.cls ≠ .scratch ∨ win.pageCount ≤ x.msPage then some 0
    else match x.streams.zipIdx.find? fun e => ! streamOk e.2 e.1 with
      | some e => some (64 + 16 * e.2)
      | none => match x.layers.zipIdx.find? fun e => ! layerOk e.1 with
        | some e => some (w 36 + 8 * e.2)
        | none => (x.entries.zipIdx.find? fun e => ! s.entryOk e.1 slotBytes).map fun e => w 40 + 32 * e.2

/-- The lowest run of free global stream numbers from 0 to 254 of a length (R136). -/
def State.freeStreams (s : State) (n : Nat) : Option Nat :=
  (List.range (256 - n)).find? fun b => ! s.tier.streams.any fun x => decide (b ≤ x.number) && decide (x.number < b + n)

/-- The plan in a slot. -/
def State.planAt (s : State) (k : Nat) : Option Plan := s.tier.plans.find? fun p => p.slot == k

/-- Replaces a plan. -/
def State.setPlan (s : State) (p : Plan) : State :=
  { s with tier := { s.tier with plans := s.tier.plans.map fun x => if x.slot = p.slot then p else x } }

/-- The streams of a plan. -/
def State.streamsOf (s : State) (k : Nat) : List Stream := s.tier.streams.filter fun x => x.plan == k

/-- Word 4 of LATE_MILESTONE and PLAN_FAULT (R136). -/
def Stream.word (x : Stream) : Nat := x.plan * 256 + x.number

/-! ## Promotion and pins (R118, R129, R139) -/

/-- Pages of a set that hold pins. -/
def State.pinnedWays (s : State) (part k : Nat) : Nat :=
  (s.setPages part (s.setOf part k)).countP fun e => e.1 != k && e.2.pins != 0

/-- Promotes a page: it is filled when it is INVALID, and pinned when asked for and when PIN_WAYS allows it; otherwise it stays
unpinned and PIN_OVERFLOW counts it (R118). A page that finds its set blocked waits for a way. The answer says whether it is pinned. -/
def State.promote (s : State) (stream k : Nat) (pin : Bool) : Bool × State :=
  match s.regionOf (4096 * k) with
  | none => (false, s)
  | some (_, r) =>
    let part := r.place.toNat
    let s := if (s.page k).st = .invalid ∧ ! s.tier.wayWaits.any (fun w => w.1 == k) then
        match s.placePage part k 0 s.timeNs with
        | (some _, s) => s
        | (none, s) => { s with tier := { s.tier with wayWaits := s.tier.wayWaits ++ [(k, s.timeNs)] } }
      else s.clearIntent part k
    let pg := s.page k
    if ! pin ∨ (stream = 255 ∧ pg.pin255) then (pg.pin255, s)
    else if pg.pins = 0 ∧ s.fld TIER_PART_CFG_PIN_WAYS part ≤ s.pinnedWays part k then
      (false, (s.bump TIER_PIN_OVF_CNT_COUNT).logLim 0x6004 0 .notice (s.tierSrc (4096 * k)) (1, part, stream, 0) fun l => { l with w4 := l.w4 + 1 })
    else (true, s.setPage k { pg with pins := pg.pins + 1, pin255 := pg.pin255 || stream == 255 })

/-- Drops the pin of stream 255 on a page (R139). -/
def State.unpin255 (s : State) (k : Nat) : State :=
  let pg := s.page k
  if pg.pin255 then s.setPage k { pg with pins := pg.pins - 1, pin255 := false } else s

/-! ## Staging (R125, R131, R133) -/

/-- The state a stream reports (R133). -/
def Stream.restate (x : Stream) (st : PlanStream) (paused : Bool) : Stream :=
  match x.st with
  | .idle | .stopped => x
  | _ =>
    if x.late.isSome then { x with st := .late }
    else if ! st.loop ∧ st.layers ≤ x.done then { x with st := .done }
    else if x.inflight ≠ [] ∧ ! paused then { x with st := .staging } else { x with st := .held }

/-- Staging of a plan is paused: its long operation is suspended, or it stops (R138, R328). -/
def State.planPaused (s : State) (p : Plan) : Bool :=
  p.stopBy.isSome || match p.startOp.bind s.opAt with
    | some o => o.st == .suspended || o.st == .cancelling
    | none => false

/-- Entries that may begin: of the layers whose slot is free, in plan order (R132, R133). -/
def Stream.next (x : Stream) (p : PlanImage) : List (Nat × Nat) :=
  let st := p.streams.getD x.idx ⟨2, false, 0, 0, 1, 0⟩
  let layers := (List.range (x.released + st.depth + 1)).filter fun i => decide (x.done ≤ i) && st.has i
  let es := layers.flatMap fun i => (List.range (p.layerOf x.idx i).entries).map fun j => (i, j)
  es.filter fun e => ! x.placed.contains e && ! x.inflight.contains e

/-- A PAGES entry begins: its pages are promoted and pinned for the stream until the layer PIN_LAYERS on is released (R129, R132). -/
def State.beginPages (s : State) (x : Stream) (layer : Nat) (e : PlanEntry) : State :=
  (List.range e.pitch).foldl (fun s i =>
    let k := e.src / 4096 + i
    let (pinned, s) := s.promote x.number k true
    if pinned then
      match s.tier.streams.find? fun y => y.number == x.number with
      | some y => s.setStream { y with pins := y.pins ++ [(layer + e.dst, k)] }
      | none => s
    else s) s

/-- Takes entries into flight, up to 16 for a stream, in plan order (R133). -/
def State.stage (s : State) (p : Plan) (x : Stream) : State :=
  let st := p.image.streams.getD x.idx ⟨2, false, 0, 0, 1, 0⟩
  let paused := s.planPaused p
  let new := if paused ∨ ! p.started then [] else (x.next p.image).take (16 - x.inflight.length)
  let x' := ({ x with inflight := x.inflight ++ new }).restate st paused
  let s := s.setStream x'
  new.foldl (fun s e =>
    let en := p.image.entryOf x.idx e.1 e.2
    if en.kind = 1 then s.beginPages x' e.1 en else s) s

/-- Stages every stream of a plan. -/
def State.stagePlan (s : State) (slot : Nat) : State :=
  match s.planAt slot with
  | none => s
  | some p => (s.streamsOf slot).foldl (fun s x => s.stage p x) s

/-- The source byte of a byte of a tile (R124): the destination offset, from DST_OFFSET on, read back to its element. -/
def PlanEntry.sourceOf (e : PlanEntry) (o : Nat) : Nat :=
  let el := 2 ^ e.elem
  let rows := e.rowsM1 + 1
  let cols := e.colsM1 + 1
  let (r, c) :=
    if e.layout = 0 then (o / el / cols, o / el % cols)
    else if e.layout = 1 then (o / el % rows, o / el / rows)
    else
      let b := if e.layout = 2 then 32 else 64
      (o / b % rows, o / b / rows * (b / el) + o % b / el)
  tileSource e.src e.pitch el r c + o % el

/-- A destination line of a tile: its bytes from the source, bytes past the tile's end as they were; poisoned when a source line is
poisoned or fails its check (R125). `bad`: source lines found damaged. -/
def State.tileLine (s : State) (e : PlanEntry) (start l : Nat) (bad : List Nat) : Line :=
  let off (b : Nat) : Nat := 64 * l + b - start
  let mine (b : Nat) : Bool := decide (off b < e.bytes)
  let srcs := ((List.range 64).filter mine).map fun b => e.sourceOf (off b)
  let spoiled (q : Nat) : Bool := let x := s.latest q; bad.contains q || x.poison || ! x.checks q
  if srcs.any fun d => spoiled (d / 64) then poisonLine
  else
    let old := (s.line l).data
    mkLine l (lineOfBytes ((List.range 64).map fun b => if mine b then s.mem8 (e.sourceOf (off b)) else lineByte old b))

/-- Stores a line of the window that the tier engine writes. -/
def State.windowLine (s : State) (l : Nat) (x : Line) : State :=
  let k := l / 64
  let s := if (s.page k).st = .invalid then s.setPage k { s.page k with st := .clean } else s
  s.setLine l x

/-- Word k of a line made of leading words. -/
def lineOfWords (ws : List Nat) : LineData := lineOfBytes (ws.flatMap fun w => (List.range 4).map fun b => w / 256 ^ b % 256)

/-- Writes the READY line of a stream (R130, R131). `last`: the index of the last completed layer. -/
def State.writeReady (s : State) (p : Plan) (x : Stream) (last : Nat) : State :=
  let st := p.image.streams.getD x.idx ⟨2, false, 0, 0, 1, 0⟩
  let l := (s.region p.image.window).start / 64 + p.image.msPage * 64 + st.msIndex
  s.windowLine l (mkLine l (lineOfWords [x.ready.toNat, last % 2 ^ 32, x.lateCnt % 2 ^ 32]))

/-- Layers of a stream that are complete in order, from a list of placed entries. -/
def Stream.advance (x : Stream) (p : PlanImage) (st : PlanStream) : Nat → Stream
  | 0 => x
  | n + 1 =>
    let i := x.done
    let all := (List.range (p.layerOf x.idx i).entries).all fun j => x.placed.contains (i, j)
    if st.has i && all then
      Stream.advance { x with done := i + 1, placed := x.placed.filter fun e => e.1 != i
                              ready := x.ready + BitVec.ofNat 32 (p.layerOf x.idx i).advance } p st n
    else x

/-- Reads of the window that no longer take a detour are served (R134). -/
def State.serveWindow (s : State) (i : Nat) : State :=
  let r := s.region i
  let free (rd : PendingRead) : Bool := rd.window && r.covers (64 * rd.line) && (s.windowDetour i r rd.line).isNone
  let rds := s.tier.reads.filter free
  let s := { s with tier := { s.tier with reads := s.tier.reads.filter fun rd => ! free rd } }
  s.serveAgain (rds.map fun rd => { rd with window := false })

/-- Every stream of a plan is DONE. -/
def State.planDone (s : State) (slot : Nat) : Bool := (s.streamsOf slot).all fun x => x.st == .done

/-- An entry of a stream is placed (R125, R131, R133): layers complete in order, READY advances with one write for each, a LATE stream
whose layer completes leaves LATE, detours are served and staging goes on. The long operation of a plan whose streams are all DONE
ends. -/
def State.entryPlaced (s : State) (p : Plan) (x : Stream) (layer j : Nat) : State :=
  let st := p.image.streams.getD x.idx ⟨2, false, 0, 0, 1, 0⟩
  let x := { x with inflight := x.inflight.filter fun e => e != (layer, j), placed := x.placed ++ [(layer, j)] }
  let y := x.advance p.image st 128
  let (y, s) := match y.late with
    | some (w, t) =>
      if w < y.done then
        ({ y with late := none, lateCnt := y.lateCnt + 1, st := .staging },
          s.log 0x6013 .notice (srcTier 0) x.word w ((s.timeNs - t) / 1000))
      else (y, s)
    | none => (y, s)
  let s := s.setStream y
  let s := if y.done ≠ x.done ∨ y.lateCnt ≠ x.lateCnt then s.writeReady p y (y.done - 1) else s
  let s := (s.stage p y).serveWindow p.image.window
  if s.planDone p.slot then
    match p.startOp.bind s.opAt with
    | some o => if o.kind = .planStart p.slot then (s.endOp o .ok 0).setPlan { p with startOp := none } else s
    | none => s
  else s

/-- A plan ends (R138): every pin its streams hold is dropped, its streams are STOPPED, waiting reads of the window are served from
plain SCRATCH frames, and the operation of PLAN_START ends with a status. -/
def State.endPlan (s : State) (p : Plan) (st : Status) : State :=
  let s := (s.streamsOf p.slot).foldl (fun s x =>
    let s := x.pins.foldl (fun s e => s.unpin e.2 1) s
    s.setStream { x with st := .stopped, pins := [], inflight := [], placed := [], late := none }) s
  let s := (s.setPlan { p with started := false, stopBy := none, startOp := none }).serveWindow p.image.window
  match p.startOp.bind s.opAt with
  | some o => if o.kind = .planStart p.slot then (if st = .cancelled then s.endCancelled o 0 else s.endOp o st 0) else s
  | none => s

end Sys2Proof.Machine
end

