-- ==== Sys2Proof/Machine/Plans.lean ====
section
/-!
DEFINITION. The commands of route plans and object placement (R125 to R139).
-/
namespace Sys2Proof.Machine

-- @row TILE_PLACED
/-- R125, R131, R133: an entry in flight is finished: every line of its tile is written to its slot, or every page of its PAGES entry is
CLEAN or DIRTY. `bad`: source lines found poisoned or failing their check, which poison the destination lines that hold their bytes. -/
def execTilePlaced (stream layer entry : Nat) (bad : List Nat) (s : State) : Res := .next <|
  match s.tier.streams.find? fun x => x.number == stream with
  | none => s
  | some x =>
    match s.planAt x.plan with
    | none => s
    | some p =>
      if ! s.mc.mode.serving ∨ ! p.started ∨ ! x.inflight.contains (layer, entry) then s
      else
        let e := p.image.entryOf x.idx layer entry
        let busy (st : PageState) : Bool := st == .filling || st == .invalid || st == .evicting
        if e.kind = 1 then
          if (List.range e.pitch).any fun i => busy (s.page (e.src / 4096 + i)).st then s else s.entryPlaced p x layer entry
        else
          let start := (s.region p.image.window).start + p.image.slotAt x.idx layer + e.dst
          let ls := (List.range ((e.bytes + 63) / 64)).map (start / 64 + ·)
          let new := ls.map fun l => (l, s.tileLine e start l bad)
          let lost := new.countP fun n => n.2.poison
          let s := new.foldl (fun s n => s.windowLine n.1 n.2) s
          let s := if lost = 0 then s else s.log 0x6014 .error (srcTier 0) x.word layer entry lost
          s.entryPlaced p x layer entry

-- @row RELEASE_LINE_WRITE
/-- R132: the value of a host write to the RELEASE line of MS_INDEX `ms` of a started plan, as the controller observes it: it is taken
within READY, layers are released, pins drop, and staging goes on in the freed slots. -/
def execReleaseLineWrite (plan : Fin 64) (ms : Fin 32) (v : BitVec 32) (s : State) : Res := .next <|
  match s.planAt plan.val with
  | none => s
  | some p =>
    let mine (x : Stream) : Bool := x.plan == p.slot && (p.image.streams.getD x.idx ⟨2, false, 0, 0, 1, 0⟩).msIndex == ms.val
    match s.tier.streams.find? mine with
    | some x => if p.started ∧ s.mc.mode.serving then (s.takeRelease p x v).stagePlan p.slot else s
    | none => s

-- @row PLAN_LOAD
/-- R135, R136: copies and checks a plan image. A DPA outside every region makes record 0 fail. -/
def execPlanLoad (d : Desc) (s : State) : Res := .next <|
  s.take d 3 false false fun s =>
    let m := s.mc.mode
    let dpa := d.dpa 2
    let len := (d.word 4).toNat
    if m = .drain ∨ m = .recovery ∨ m = .maintenance then s.complete d.src .notPermitted
    else if (s.regionOfRange dpa 64).isNone ∨ (s.regionOfRange dpa len).isNone then s.complete d.src .invalid 0
    else match s.planFault dpa len with
      | some o => s.complete d.src .invalid o
      | none =>
        let x := s.readPlan dpa
        let n := x.streams.length
        let used := s.tier.plans.foldl (fun a p => a + p.image.length) 0
        let slot := (List.range 64).find? fun k => (s.planAt k).isNone
        match slot, s.freeStreams n with
        | some k, some f =>
          if 2 ^ 28 < used + x.length then s.complete d.src .noSpace
          else
            let st (i : Nat) : Stream := ⟨f + i, k, i, .idle, 0, 0, 0, 0, 0, [], [], [], none, 0⟩
            let s := { s with tier := { s.tier with
              plans := s.tier.plans ++ [(Plan.mk k x f false none none)]
              streams := s.tier.streams ++ (List.range n).map st } }
            (s.log 0x6010 .info (srcTier 0) k n x.length).complete d.src .ok k
        | _, _ => s.complete d.src .noSpace

/-- Sets the milestone lines of a stream that starts (R137); the index word of READY, before any layer is complete, is a free value. -/
def State.startStream (s : State) (p : Plan) (x : Stream) (base : BitVec 32) : State :=
  let st := p.image.streams.getD x.idx ⟨2, false, 0, 0, 1, 0⟩
  let (n, s) := s.fresh
  let y : Stream := { x with st := .staging, ready := base, release := base, msBase := base, done := 0, released := 0, placed := [],
                             inflight := [], pins := [], late := none, lateCnt := 0 }
  let rel := (s.region p.image.window).start / 64 + p.image.msPage * 64 + 32 + st.msIndex
  ((s.setStream y).writeReady p y n).windowLine rel (mkLine rel (lineOfWords [base.toNat]))

/-- The key slots a plan needs: of its window and of every source region (R137). -/
def State.planKeys (s : State) (p : PlanImage) : List Nat :=
  let srcs := p.entries.filterMap fun e => (s.regionOf e.src).map fun x => x.2.key.toNat
  (s.region p.window).key.toNat :: srcs

-- @row PLAN_START
/-- R137: sets READY and RELEASE of every stream and starts staging. A slot without a plan is INVALID. The operation lives while the plan
runs (R324). -/
def execPlanStart (d : Desc) (s : State) : Res := .next <|
  s.take d 3 false true fun s =>
    let m := s.mc.mode
    if m = .drain ∨ m = .save ∨ m = .recovery ∨ m = .maintenance then s.complete d.src .notPermitted
    else match s.planAt (d.bits 2 5 0) with
      | none => s.complete d.src .invalid
      | some p =>
        if p.started ∨ s.tier.plans.any fun q => q.started && q.image.window == p.image.window then s.complete d.src .conflict
        else match (s.planKeys p.image).find? fun k => ! s.keyLoaded k with
          | some k => (s.keyAbsent none (s.region p.image.window).start k).complete d.src .keyAbsent
          | none =>
            let o := s.nextOpSlot
            let s := s.startOp (.planStart p.slot) d.src none
            let s := (s.log 0x6011 .info (srcTier 0) p.slot (d.word 3).toNat).activity
            let s := s.setPlan { p with started := true, startOp := some o }
            let s := (s.streamsOf p.slot).foldl (fun s x => s.startStream p x (d.word 3)) s
            s.stagePlan p.slot

-- @row PLAN_STOP
/-- R138: stops staging; entries in flight finish. A slot without a plan is INVALID, a plan that is stopping already CONFLICT. -/
def execPlanStop (d : Desc) (s : State) : Res := .next <|
  s.take d 3 false true fun s =>
    match s.planAt (d.bits 2 5 0) with
    | none => s.complete d.src .invalid
    | some p =>
      if p.stopBy.isSome then s.complete d.src .conflict
      else
        let unload := d.bits 2 8 8 = 1
        let s := s.startOp (.planStop p.slot unload) d.src none
        (s.setPlan { p with stopBy := some (d.src, unload) }).activity

-- @row PLAN_STOPPED
/-- R138: the entries in flight have finished; the pins drop, PLAN_STOP completes, and with UNLOAD the slot is freed. -/
def execPlanStopped (slot : Fin 64) (s : State) : Res := .next <|
  match s.planAt slot.val with
  | none => s
  | some p =>
    match p.stopBy with
    | none => s
    | some (_, unload) =>
      if (s.streamsOf p.slot).any fun x => x.inflight != [] then s
      else
        let ended : Status := match p.startOp.bind s.opAt with | some o => if o.st = .cancelling then .cancelled else .ok | none => .ok
        let s := (s.endPlan p ended).log 0x6012 .info (srcTier 0) p.slot (if unload then 1 else 0)
        let mine (o : LongOp) : Bool := match o.kind with | .planStop k _ => k == p.slot | _ => false
        let s := match s.rings.ops.find? mine with | some o => s.endOp o .ok 0 | none => s
        if unload then
          { s with tier := { s.tier with plans := s.tier.plans.filter fun q => q.slot != p.slot
                                         streams := s.tier.streams.filter fun x => x.plan != p.slot } }
        else s

/-! ## Object placement (R139) -/

/-- The checks of OBJECT_PLACE; then `act` on its operation, its first page and its number of pages. A RESIDENT target needs nothing. -/
def State.placeObject (s : State) (d : Desc) (action : Nat) (act : LongOp → Nat → Nat → State → State) : State :=
  s.take d 3 false true fun s =>
    let dpa := d.dpa 2
    let n := (d.word 4).toNat
    let hint := (d.word 6).toNat
    let s := if hint ≠ 0 ∧ ! s.tier.hintLogged then
        ({ s with tier := { s.tier with hintLogged := true } }).log 0x6015 .info (srcTier 0) hint
      else s
    let mine (o : LongOp) : Bool := match o.kind with | .objectPlace _ _ _ => true | _ => false
    if dpa % 4096 ≠ 0 ∨ n = 0 ∨ 1048576 < n then s.complete d.src .invalid
    else match s.regionOfRange dpa (n * 4096) with
      | none => s.complete d.src .invalid
      | some (_, r) =>
        if r.cls = .resident then s.complete d.src .ok
        else if r.cls = .scratch then s.complete d.src .invalid
        else if 16 ≤ s.rings.ops.countP mine then s.complete d.src .busy
        else
          let k := s.nextOpSlot
          let s := (s.startOp (.objectPlace (dpa / 4096) n action) d.src (some n)).activity
          match s.opAt k with
          | some o => act o (dpa / 4096) n s
          | none => s

/-- Promotes the pages of an object, counting in the operation those left unpinned (R118, R139). -/
def State.promoteObject (s : State) (o : LongOp) (page n : Nat) (pin : Bool) : State :=
  (List.range n).foldl (fun (s : State) i =>
    let (pinned, s) := s.promote 255 (page + i) pin
    match s.opAt o.slot with
    | some o => if pin ∧ ! pinned then s.setOp { o with param := o.param + 1 } else s
    | none => s) s

-- @row OBJECT_PLACE_PROMOTE
/-- R139: PROMOTE fills the pages, unpinned; the operation ends once every page is CLEAN or DIRTY (LONG_OP_STEP). -/
def execObjectPlacePromote (d : Desc) (s : State) : Res := .next <|
  s.placeObject d 0 fun o page n s => s.promoteObject o page n false

-- @row OBJECT_PLACE_PROMOTE_PIN
/-- R139: PROMOTE_PIN fills the pages and pins them for stream 255. -/
def execObjectPlacePromotePin (d : Desc) (s : State) : Res := .next <|
  s.placeObject d 1 fun o page n s => s.promoteObject o page n true

-- @row OBJECT_PLACE_UNPIN
/-- R139: UNPIN drops the pins of stream 255. -/
def execObjectPlaceUnpin (d : Desc) (s : State) : Res := .next <|
  s.placeObject d 2 fun o page n s => ((List.range n).foldl (fun s i => s.unpin255 (page + i)) s).endOp o .ok 0

-- @row OBJECT_PLACE_DEMOTE
/-- R139: DEMOTE drops the pins and writes dirty pages back; the operation ends once they are written back (LONG_OP_STEP). -/
def execObjectPlaceDemote (d : Desc) (s : State) : Res := .next <|
  s.placeObject d 3 fun _ page n s => (List.range n).foldl (fun s i => (s.unpin255 (page + i)).startWriteback (page + i) false) s

end Sys2Proof.Machine
end

