-- ==== Sys2Proof/Machine/Sleep.lean ====
section
/-!
DEFINITION. Sleep of DRAM channels, of the lay-bys they lend, of carriageway and junction clocks and of CXL links (R35 to R41,
R110, R111, R152, R161, R162).
-/
namespace Sys2Proof.Machine

/-! ## Napping (R35, R38) -/

/-- A channel has nothing to do: no queued request or command, no replay, no rebuild (R38). -/
def Channel.idle (c : Channel) : Bool :=
  c.wq == [] && c.merges == [] && c.held == [] && c.twinReads == [] && c.alerts == [] && c.work == .none &&
    c.refDue.all fun e => decide (e.2 ≤ 0)

/-- A write-back reads its page from a channel (R38). -/
def State.writesBackOn (s : State) (n : Nat) : Bool :=
  s.tier.wbs.any fun w => match s.regionOf (4096 * w.page) with
    | some (_, r) => (pageLines w.page).any fun l => (s.dramAddr r (64 * l) (s.page w.page).way).ch == n
    | none => false

-- @row NAP1_ENTER
/-- R35, R38: the queues have been empty for NAP1_IDLE. -/
def execNap1Enter (ch : ChId) (s : State) : Res := .next <|
  let c := s.ch ch.val
  if c.st = .active ∧ s.flag GLB_SLEEP_CTL_NAP_EN ∧ s.mc.mode ≠ .save ∧ c.idle ∧ ! c.waking ∧ ! s.writesBackOn ch.val then
    s.setChState ch.val .nap1
  else s

-- @row NAP2_ENTER
/-- R35, R40: NAP1 has lasted NAP2_IDLE; a channel whose released ranks are still unrefreshed returns to PASR. -/
def execNap2Enter (ch : ChId) (s : State) : Res := .next <|
  let c := s.ch ch.val
  if c.st = .nap1 ∧ ! c.waking ∧ c.held = [] ∧ c.wq = [] ∧ s.mc.mode ≠ .save then
    (s.setCh ch.val { c with rows := [] }).setChState ch.val (if c.released = 0 then .nap2 else .pasr)
  else s

/-! ## Partial-array self-refresh (R36, R161, R162) -/

/-- Logical ranks of a channel (R73). -/
def State.ranks (s : State) (n : Nat) : Nat := 2 ^ s.fld CH_AMAP_RK_W n

/-- A page of a region has a line on a rank of a channel; `none`: on any rank. -/
def State.pageOn (s : State) (r : Region) (k n : Nat) (rank : Option Nat) : Bool :=
  (pageLines k).any fun l =>
    let a := s.dramAddr r (64 * l) (s.page k).way
    a.ch == n && match rank with | some x => (s.dram a).rank == x | none => true

/-- The content of a rank permits its release (R36, R161): no RESIDENT frame of a persistent region, every other frame INVALID or
released, and every page of a cache partition INVALID or CLEAN. Each rank holds an equal share of every band of its channel. -/
def State.rankHolds (s : State) (n rank : Nat) : Bool :=
  (s.rgn.table.any fun e => e.2.valid && e.2.persist && e.2.cls == .resident &&
    (List.range (s.members (s.poolOf e.2)).length).any fun m => s.memberCh (s.poolOf e.2) m == n) ||
  s.tier.pages.any fun e => match s.regionOf (4096 * e.1) with
    | some (_, r) => (if r.cachedLike then e.2.st != .invalid && e.2.st != .clean else e.2.st != .invalid) && s.pageOn r e.1 n (some rank)
    | none => false

/-- The duplicates of a channel permit a release (R161): no rank of its partner, or of a channel whose partner it is, is released,
and every partner copy is in place. -/
def State.dupsInPlace (s : State) (n : Nat) : Bool :=
  let c := s.ch n
  ! c.dupInvalid && (s.ch c.partner).released == 0 && ! (s.ch c.partner).dupInvalid &&
    (List.range 16).all fun p => (s.ch p).partner != n || (s.ch p).released == 0

-- @row PASR_ENTER
/-- R35, R36, R161: the tier engine releases a rank that qualifies; its CLEAN pages become INVALID first. -/
def execPasrEnter (ch : ChId) (rank : Fin 16) (s : State) : Res := .next <|
  let n := ch.val
  let c := s.ch n
  if (c.st = .nap2 ∨ c.st = .pasr) ∧ ! c.waking ∧ s.flag GLB_SLEEP_CTL_PASR_EN ∧ rank.val < s.ranks n ∧ ! s.rankHolds n rank.val ∧
      s.dupsInPlace n then
    let mine := s.tier.pages.filter fun e => e.2.st == .clean && match s.regionOf (4096 * e.1) with
      | some (_, r) => s.pageOn r e.1 n (some rank.val)
      | none => false
    let s := mine.foldl (fun s e => s.evictClean e.1) s
    let s := s.setCh n { c with released := c.released ||| BitVec.twoPow 16 rank.val }
    if c.st = .pasr then s else s.setChState n .pasr
  else s

-- @row PASR_DUP_REWRITE_DONE
/-- R162: every duplicated line on the ranks that were released has been rewritten from the partner copies. -/
def execPasrDupRewriteDone (ch : ChId) (s : State) : Res := .next <|
  let c := s.ch ch.val
  if c.dupInvalid then s.setCh ch.val { c with dupInvalid := false } else s

/-! ## Waking (R37, R40, R152) -/

-- @row CHANNEL_WAKE
/-- R37, R454: a napping channel begins to wake. Its loan is revoked (LAYBY_REVOKE_DONE). -/
def execChannelWake (ch : ChId) (s : State) : Res := .next <|
  let c := s.ch ch.val
  match c.st with
  | .nap1 | .nap2 | .pasr => s.setCh ch.val { c with waking := true, early := c.early && c.waking && c.held == [] && c.wq == [] }
  | _ => s

/-- A warm return ends once no channel wakes any more (R100, R152): the image's pages are in DRAM again, but for those of channels
that did not come back, which stay pending in it. -/
def State.settleWarm (s : State) : State :=
  if (List.range 16).any fun n => (s.ch n).waking then s
  else
    let one (s : State) (b : Bool) : State :=
      let x := s.image b
      if x.warm then s.setImage b { x with warm := false, pages := x.pages.filter fun k => (s.page k).inImage } else s
    ([false, true].foldl one s).freeImages

/-- The counted pages of a channel that does not come back from self-refresh are taken from the pending image (R152). -/
def State.loseToImage (s : State) (n : Nat) : State :=
  let lost := s.tier.pages.filter fun e => e.2.st != .invalid && (s.imageOf e.1).isSome && match s.regionOf (4096 * e.1) with
    | some (_, r) => s.pageOn r e.1 n none
    | none => false
  lost.foldl (fun s e => s.setPage e.1 { Page.empty with inImage := true }) s

-- @row CHANNEL_WAKE_DONE
/-- R37, R40, R152, R162, R340: the wake time has passed. A channel that wakes early without a request rests in NAP1; any other
serves, and takes the slot table in force. `ok`: the channel leaves self-refresh and trains; else it closes. -/
def execChannelWakeDone (ch : ChId) (ok : Bool) (s : State) : Res := .next <|
  let n := ch.val
  let c := s.ch n
  if ! c.st.asleep ∨ ! c.waking then s
  else if ! ok then
    let s := s.setCh n { c with waking := false, early := false }
    let warm := (s.image false).warm || (s.image true).warm
    let s := if warm then s.loseToImage n else s
    ((s.chErr n 7).closeChannel n 0 7 0).settleWarm
  else if c.early ∧ c.held = [] ∧ c.wq = [] then
    let s := s.setCh n { c with waking := false, early := false }
    (if c.st = .nap1 then s else s.setChState n .nap1).settleWarm
  else
    let s := s.setCh n { c with waking := false, early := false, slotCtr := 0, rows := [], released := 0,
                                dupInvalid := c.dupInvalid || c.released != 0 }
    let s := { s with arb := { s.arb with oldTable := s.arb.oldTable.filter fun e => e.1 != n } }
    ((s.setChState n .active).releaseHeld n).settleWarm

/-- The wake logic of R40: the junction clock, every carriageway clock, and every channel below NAP1 start early. -/
def State.earlyWake (s : State) : State :=
  let s := { s with clk := { s.clk with cwClock := 15, jctClock := true } }
  (List.range 16).foldl (fun s n =>
    let c := s.ch n
    if (c.st = .nap2 ∨ c.st = .pasr) ∧ ! c.waking then s.setCh n { c with waking := true, early := true } else s) s

-- @row EARLY_WAKE
/-- R40: a link begins to leave L1.x; QUIESCENT ends (R41). -/
def execEarlyWake (port : PortId) (link : LinkId) (s : State) : Res := .next <|
  let x := s.linkAt port.val link.val
  if x.up ∧ (x.pm = .l11 ∨ x.pm = .l12) then (s.setLink port.val link.val { x with pm := .l0 }).activity.earlyWake else s

-- @row QUIESCE_EXIT
/-- R41: activity breaks a condition; the wakes start. -/
def execQuiesceExit (s : State) : Res := .next <|
  if s.mc.mode = .quiescent then s.activity.earlyWake else s

/-! ## Lay-by loans (R110, R111) -/

-- @row LAYBY_LEND
/-- R110, R456: a napping channel whose own slots hold no operation lends every slot above WB_RESERVE, unless its lay-by has lost
too many slots to the march. -/
def execLaybyLend (ch : ChId) (s : State) : Res := .next <|
  let n := ch.val
  let c := s.ch n
  match c.st with
  | .nap1 | .nap2 | .pasr =>
    let retired := s.tests.retired.countP fun x => x / 1024 == n
    if ! s.flag TIER_LAYBY_CTL_LEND_EN ∨ c.waking ∨ (s.tier.lent.any fun e => e.1 == n) ∨ 16 < retired then s
    else
      let free := 1024 - s.fld TIER_LAYBY_CTL_WB_RESERVE - retired
      { s with tier := { s.tier with lent := Sparse.set (fun _ => 0) s.tier.lent n free } }
  | _ => s

-- @row LAYBY_REVOKE_DONE
/-- R111: a waking channel's loan has been revoked. The abandoned operations restart from their first step with their start times:
fills of `pages`, and `others` tiles or save reads. -/
def execLaybyRevokeDone (ch : ChId) (pages : List Nat) (others : Nat) (s : State) : Res := .next <|
  let n := ch.val
  if ! s.tier.lent.any fun e => e.1 == n then s
  else
    let hit (f : Fill) : Bool := pages.contains f.page
    let again (f : Fill) : Fill := if hit f then { f with step := 1, tried := [] } else f
    let s := s.addFld TIER_LOAN_ABANDON_CNT_COUNT (s.tier.fills.countP hit + others)
    { s with tier := { s.tier with lent := s.tier.lent.filter fun e => e.1 != n, fills := s.tier.fills.map again } }

/-! ## Clocks and links (R39) -/

-- @row CW_CLOCK_STOP
/-- R39: every unit of the carriageway is asleep. -/
def execCwClockStop (cw : CwId) (s : State) : Res := .next <|
  let w := cw.val
  let chans := (List.range 4).all fun i => let c := s.ch (4 * w + i); c.st.asleep && c.st != .nap1 && ! c.waking
  let ports := s.ports.links.all fun e => e.1 / 8 != w || ! e.2.up || e.2.pm == .l11 || e.2.pm == .l12
  let mine (k : Nat) : Bool := s.tierSrc (4096 * k) == srcTier w
  let idle := s.tier.fills.all (fun f => ! mine f.page) && s.tier.wbs.all (fun b => ! mine b.page) && s.tier.streams.all fun x => x.inflight == []
  if chans && ports && idle then
    { s with clk := { s.clk with cwClock := s.clk.cwClock &&& ~~~ BitVec.twoPow 4 w } }
  else s

-- @row JUNCTION_CLOCK_STOP
/-- R39: all carriageway clocks are stopped, and the twin-transport and RDMA engines are idle. -/
def execJunctionClockStop (s : State) : Res := .next <|
  let idle := s.twin.msgs == [] && s.twin.queued == [] && s.twin.reads == [] && s.twin.syncq == [] && s.twin.backlog == [] && s.twin.inMsgs == [] &&
    s.twin.resync.isNone && s.rdma.qps.all fun e => e.2.items == [] && e.2.pend == [] && e.2.reads == []
  if s.clk.cwClock = 0 ∧ idle then { s with clk := { s.clk with jctClock := false } } else s

-- @row LINK_L1_ENTRY
/-- R39: by the host's ASPM policy a link enters L1.1 or L1.2. -/
def execLinkL1Entry (port : PortId) (link : LinkId) (l12 : Bool) (s : State) : Res := .next <|
  let x := s.linkAt port.val link.val
  if x.up ∧ s.mc.mode.serving ∧ s.entriesUsed port.val link.val = 0 then
    s.setLink port.val link.val { x with pm := if l12 then .l12 else .l11 }
  else s

end Sys2Proof.Machine
end

