-- ==== Sys2Proof/Machine/Dram.lean ====
section
/-!
DEFINITION. The DRAM channels: training and retraining (R141 to R144, R158, R166 to R169), the scheduler (R154 to R159), CA alerts
(R163 to R165), refresh and temperature (R159, R160), closure, rebuild, evacuation and re-admission (R170 to R176).
-/
namespace Sys2Proof.Machine

/-! ## Initial training (R141 to R149, R166) -/

/-- Trains an OFFLINE channel with the DIMMs its SPD reads found; the answer says whether it is trained. `timing`: the fourteen
timing words as trained. -/
def State.trainChannel (s : State) (n : Nat) (a b : Option DimmSpd) (pass : Bool) (timing : List Word)
    (fits : State → List DimmSpd → Bool) : Bool × State :=
  match dimmRefusals a b, a.toList ++ b.toList with
  | [], d :: ds => match s.trainRate n d.typ (d :: ds) with
    | none => (false, s)
    | some rate =>
      if ! fits s (d :: ds) then (false, (s.chErr n 0x0B).log 0x1008 .error (srcCh n) n 5)
      else if ! pass then (false, s)
      else (true, s.adoptDimms n rate a b timing)
  | [], [] => (false, s)
  | rs, _ => (false, s.refuseDimms n rs)

-- @row INITIAL_TRAINING_DONE
/-- R141 to R144, R149, R166: initial training at BOOT ends. -/
def execInitialTrainingDone (ch : ChId) (a b : Option DimmSpd) (pass : Bool) (timing : List Word) (s : State) : Res := .next <|
  let n := ch.val
  if s.mc.mode ≠ .boot ∨ s.pw.cold.isSome ∨ (s.ch n).st ≠ .offline then s
  else match s.trainChannel n a b pass timing fun _ _ => true with
    | (true, s) => s.setChState n .active
    | (false, s) => s

/-! ## Full retraining (R158, R166 to R169) -/

/-- Enters RETRAINING: a napping channel wakes first; a pending timing commit is applied or refused; reads that waited for the
wake are sent to the twin or held (R149, R158, R167). No channel retrains in SAVE (R151). -/
def State.startRetrain (s : State) (n cause : Nat) : State :=
  let c := s.ch n
  let napping := c.st = .nap1 ∨ c.st = .nap2 ∨ c.st = .pasr
  if s.mc.mode = .save ∨ ! (c.st = .active ∨ c.st = .evacuating ∨ napping) then s
  else
    let dup := c.dupInvalid || (c.st == .pasr && c.released != 0)
    let s := s.setCh n { c with waking := false, early := false, released := 0, dupInvalid := dup, alerts := [], rows := [], inOrder := [] }
    let s := if napping then s.setChState n .active else s
    let s := s.applyTiming n
    let c := s.ch n
    let back : ChState := if c.st = .evacuating then .evacuating else .active
    let s := s.setCh n { c with resumeTo := back, retrainCause := cause, retrainStart := s.timeNs }
    let s := s.setChState n .retraining cause
    if napping then s.releaseHeld n else s

-- @row FULL_RETRAIN_START
/-- R149, R166, R168, R177: a trigger of R166. Loss of PLL lock within RETRAINING closes the channel. -/
def execFullRetrainStart (ch : ChId) (why : RetrainWhy) (s : State) : Res := .next <|
  let n := ch.val
  let c := s.ch n
  let out := c.st = .closed ∨ c.st = .offline ∨ s.mc.mode = .save
  if out then s
  else if c.st = .retraining then
    if why = .pllLost then (s.chErr n 6).closeChannel n 0 6 0 else s
  else match why with
    | .request => if s.flag CH_CTL_RETRAIN n ∨ s.flag CH_TIM_COMMIT_COMMIT n then s.startRetrain n 0 else s
    | .ceLimit => if s.fld CH_TRAIN_CTL_CE_LIMIT n = 0 then s else (s.chErr n 4).startRetrain n 4
    | .drift =>
      if Int.ofNat (s.fld CH_TRAIN_CTL_FULL_PS n) < c.drift.natAbs then (s.chErr n 5).startRetrain n 5 else s
    | .pllLost => (s.chErr n 6).startRetrain n 6
    | .escalation | .uncorrectable | .temperature => s.startRetrain n why.code

-- @row CH_RETRAIN_REQUEST
/-- R166: CH_CTL.RETRAIN reads 1 until the retraining ends. -/
def execChRetrainRequest (ch : ChId) (s : State) : Res := .next <|
  match (s.ch ch.val).st with
  | .closed | .offline => s
  | _ => s.setFld CH_CTL_RETRAIN 1 ch.val

-- @row CH_TIM_COMMIT
/-- R158: CH_TIM_COMMIT.COMMIT reads 1 until the start of the next full retraining. -/
def execChTimCommit (ch : ChId) (who : Writer) (s : State) : Res := .next <|
  if s.flag CH_TIM_COMMIT_COMMIT ch.val then s
  else (s.setFld CH_TIM_COMMIT_COMMIT 1 ch.val).setCh ch.val { s.ch ch.val with timBy := who }

/-- The held reads of a channel after the retraining they waited for: one that is still uncorrectable goes to the twin or is
returned poisoned (R169); every other is served. -/
def State.afterRetrain (s : State) (n : Nat) (bad : List Nat) : State :=
  let rds := (s.ch n).held
  let s := s.setCh n { s.ch n with held := [] }
  rds.foldl (fun s rd => match s.regionOf (64 * rd.line) with
    | none => s.deliver rd.req rd.line poisonLine
    | some (i, r) =>
      if ! bad.contains rd.line then s.serveRead rd i r
      else if s.twinServes r rd.line ∧ rd.req ≠ .internal then
        (s.setCh n { s.ch n with twinReads := (s.ch n).twinReads ++ [rd] }).twinRead rd.line (.channel n rd)
      else if rd.req = .internal then (s.recoverLine i r rd.line (.recover none)).2
      else s.deliver rd.req rd.line poisonLine) s

-- @row RETRAIN_DONE
/-- R149, R167, R169: a working setting is found. Reads still out at the twin are issued to DRAM, and the twin's data will come
late (LATE_DUP). `bad`: the lines whose codewords are uncorrectable in their reissue. -/
def execRetrainDone (ch : ChId) (bad : List Nat) (s : State) : Res := .next <|
  let n := ch.val
  let c := s.ch n
  if c.st ≠ .retraining then s
  else
    let ns := s.timeNs - c.retrainStart
    let late := c.twinReads
    let isLate (t : TwinRead) : Bool := match t.why with | .channel m rd => m == n && late.contains rd | _ => false
    let s := s.setCh n { c with twinReads := [], drift := 0, slotCtr := 0 }
    let s := { s with twin := { s.twin with reads := s.twin.reads.filter (fun t => ! isLate t),
                                            lateReads := s.twin.lateReads ++ s.twin.reads.filter isLate } }
    let s := s.setFld CH_CTL_RETRAIN 0 n
    let s := s.setFld CH_TRAIN_STAT_LAST_TRIGGER c.retrainCause n
    let s := (s.bump CH_TRAIN_STAT_FULL_COUNT n).setFld CH_TRAIN_STAT_LAST_NS (min 0xFFFF (ns / 10)) n
    let s := s.setChState n c.resumeTo
    let sev : Sev := if c.retrainCause = 0 ∨ c.retrainCause = 5 then .info else .notice
    let s := s.log 0x1004 sev (srcCh n) n c.retrainCause ns
    (s.serveAgain late).afterRetrain n bad

-- @row RETRAIN_BOUND_EXPIRY
/-- R168, R170: no working setting, a second error (its CH_ERR code: 1 ALERT_n, 3 uncorrectable, 6 PLL lock, 7 no setting or the 80 µs
bound), so the channel closes. `lanes`: the failing device positions. -/
def execRetrainBoundExpiry (ch : ChId) (sub : Bool) (code : Nat) (lanes : BitVec 20) (s : State) : Res := .next <|
  let n := ch.val
  if (s.ch n).st ≠ .retraining then s
  else
    let k := if code = 1 ∨ code = 3 ∨ code = 6 then code else 7
    let s := (s.chErr n k).closeChannel n (if sub then 1 else 0) k lanes.toNat
    s.releaseHeld n

-- @row DRIFT_TRACK
/-- R166: an oscillator measurement shifts the strobe delays by the drift found; in DDR4 mode only a probe runs. -/
def execDriftTrack (ch : ChId) (ps : Int) (s : State) : Res := .next <|
  let c := s.ch ch.val
  if c.st = .active ∧ c.typ = 1 then s.setCh ch.val { c with drift := c.drift + ps } else s

/-! ## CA alerts and replay (R163 to R165) -/

/-- A series escalates to full retraining (R164). -/
def State.escalate (s : State) (n sub : Nat) (a : AlertSeries) : State :=
  let s := s.setCh n { s.ch n with alerts := (s.ch n).alerts.filter fun x => x.sub != sub }
  let s := (s.bump CH_CAPAR_ESCALATIONS n).chErr n 2
  (s.log 0x1003 .error (srcCh n) (n + 256 * sub) a.fails (s.timeNs - a.start)).startRetrain n 2

-- @row CA_ALERT
/-- R163, R164, R168: ALERT_n asserts. An alert before the replay of the last one is confirmed is a failed replay, and the third
escalates; in RETRAINING it is a second error. -/
def execCaAlert (ch : ChId) (sub : Bool) (s : State) : Res := .next <|
  let n := ch.val
  let k := if sub then 1 else 0
  let c := s.ch n
  let count (s : State) : State :=
    ((s.bump CH_CAPAR_ALERTS n).chErr n 1).logLim 0x1002 n .notice (srcCh n) (n + 256 * k, 1, 0, 0)
  match c.st with
  | .retraining => (count s).closeChannel n k 1 0
  | .active | .evacuating => match c.alerts.find? fun a => a.sub == k with
    | none => (count s).setCh n { (count s).ch n with alerts := c.alerts ++ [⟨k, true, 0, s.timeNs⟩] }
    | some a =>
      if a.asserted then s
      else
        let a' : AlertSeries := { a with asserted := true, fails := a.fails + 1 }
        if 3 ≤ a'.fails then (count s).escalate n k a'
        else
          let s := count s
          s.setCh n { s.ch n with alerts := c.alerts.map fun x => if x.sub = k then a' else x }
  | _ => s

-- @row CA_ALERT_END
/-- R163: ALERT_n deasserts; the ranks with unconfirmed commands are precharged and those commands replayed. -/
def execCaAlertEnd (ch : ChId) (sub : Bool) (replayed : Nat) (s : State) : Res := .next <|
  let n := ch.val
  let k := if sub then 1 else 0
  let c := s.ch n
  if c.alerts.any fun a => a.sub == k && a.asserted then
    let s := s.setCh n { c with
      alerts := c.alerts.map fun a => if a.sub = k then { a with asserted := false } else a
      rows := c.rows.filter fun e => e.1 / 512 != k }
    s.mergeLim 0x1002 n fun l => { l with w6 := l.w6 + replayed }
  else s

-- @row REPLAY_TIMEOUT
/-- R164: 4 µs have passed since the first alert of a series that is not over. -/
def execReplayTimeout (ch : ChId) (sub : Bool) (s : State) : Res := .next <|
  let k := if sub then 1 else 0
  match (s.ch ch.val).alerts.find? fun a => a.sub == k with
  | some a => s.escalate ch.val k a
  | none => s

/-! ## Refresh and temperature (R159, R160) -/

-- @row REFRESH_DUE
/-- R159: the refresh interval of a rank elapses; a released or sleeping rank refreshes itself or not at all. -/
def execRefreshDue (ch : ChId) (rank : Fin 16) (s : State) : Res := .next <|
  let c := s.ch ch.val
  match c.st with
  | .active | .evacuating | .retraining =>
    if rank.val < s.ranks ch.val ∧ ! c.released.getLsbD rank.val then
      s.setCh ch.val { c with refDue := Sparse.modify (fun _ => (0 : Int)) c.refDue rank.val (· + 1) }
    else s
  | _ => s

/-- The refresh factor of a temperature in °C (R160). -/
def tempFactor (t : Nat) : Nat := if t ≤ 85 then 0 else if t ≤ 95 then 1 else 2

-- @row DIMM_THERM_POLL
/-- R160, R177, R178: the hottest reading of each DIMM and the indication of the mode registers, as a factor; the hotter governs. -/
def execDimmThermPoll (ch : ChId) (t0 t1 : Fin 256) (mr : Fin 3) (s : State) : Res := .next <|
  let n := ch.val
  let c := s.ch n
  match c.st with
  | .offline | .closed => s
  | _ =>
    let t1 := if c.dimm1.present then t1.val else 0
    let f := max (max (tempFactor t0.val) (tempFactor t1)) mr.val
    let slot := if t0.val < t1 then 1 else 0
    let s := s.setCh n { c with temp0 := t0.val, temp1 := t1, factor := f, throttle := f == 2 }
    let w4 := n + 256 * slot
    if f = 2 ∧ ! c.throttle then (s.chErr n 0x0A).log 0x1009 .error (srcCh n) w4 (max t0.val t1) f
    else if f ≠ 2 ∧ c.throttle then s.log 0x1009 .notice (srcCh n) w4 (max t0.val t1) f
    else s

/-! ## The scheduler (R154 to R159, R338 to R343) -/

/-- The table a channel steps through: the old one until it has swapped (R344, R345). -/
def State.slotTable (s : State) (n : Nat) : List Word :=
  match s.arb.oldTable.find? fun e => e.1 == n with
  | some (_, t) => t
  | none => (List.range 8).map fun w => s.regAt .ARB_ACTIVE (n / 4) 0 w

/-- The owner code of a slot (R341). -/
def slotOwner (t : List Word) (slot : Nat) : Nat := ((t.getD (slot / 8) 0).toNat / 16 ^ (slot % 8)) % 16

/-- The bank key's rank. -/
def bankRank (bank : Nat) : Nat := bank / 32 % 16

/-- The next command a write needs: its column command in an open row, else PRE or ACT. -/
def Channel.nextCmd (c : Channel) (w : QWrite) : DramCmd :=
  match c.rows.find? fun e => e.1 == w.bank with
  | some (_, row) => if row = w.row then .write w.id else .pre w.bank
  | none => .act w.bank w.row

/-- A command needs its row open already. -/
def DramCmd.column : DramCmd → Bool | .write _ => true | _ => false

/-- The writes of a subchannel that may issue: codewords, and in a bank in in-order mode only the oldest request (R155). -/
def Channel.ready (c : Channel) (sub : Nat) : List QWrite :=
  c.wq.filter fun w => w.sub == sub && ! w.part &&
    (! (c.inOrder.any fun e => e.1 == w.bank) || ((c.wq.find? fun x => x.bank == w.bank).map QWrite.id) == some w.id)

/-- The commands of a subchannel in the order of R154. Reads are answered as they arrive, so the candidates are refreshes, RFM and
writes; a throttled channel gives odd slots to refresh, write-back and maintenance only (R343). -/
def State.candidates (s : State) (n sub : Nat) : List DramCmd :=
  let c := s.ch n
  let limit (rank : Nat) : Int :=
    if c.held.any fun rd => match s.regionOf (64 * rd.line) with
      | some (_, r) => (s.dram (s.dramAddr r (64 * rd.line) (s.page (rd.line / 64)).way)).rank == rank
      | none => false
    then max 1 (s.fld CH_REF_POSTPONE_MAX n) else 1
  let ws := c.ready sub
  let old := ws.filter fun w => decide (1000 * s.fld CH_SCHED_WR_AGE n ≤ s.timeNs - w.start)
  let owner := slotOwner (s.slotTable n) c.slotCtr
  let withheld := c.throttle && c.slotCtr % 2 == 1
  let mine := ws.filter fun w => w.owner == owner && owner != 0 && (! withheld || owner == 0xB || owner == 0xE)
  let open_ (l : List QWrite) : List DramCmd := (l.map c.nextCmd).filter DramCmd.column
  let shut (l : List QWrite) : List DramCmd := (l.map c.nextCmd).filter fun x => ! x.column
  let inOrd := ws.filter fun w => c.inOrder.any fun e => e.1 == w.bank
  let rest := if withheld then ws.filter fun w => w.owner == 0xB || w.owner == 0xE else if c.draining then ws else inOrd
  let pull := (List.range (s.ranks n)).filter fun k =>
    ! ws.any (fun w => bankRank w.bank == k) && decide (-4 < Sparse.get (fun _ => (0 : Int)) c.refDue k)
  let rfm := if s.timing CH_TIM12_RFM_EN n != 0 && c.typ == 1 then
      (c.raa.filter fun e => e.1 / 512 == sub && decide (s.timing CH_TIM12_RAAIMT n ≤ e.2)).map fun e => DramCmd.rfm e.1
    else []
  (c.refDue.filter fun e => decide (limit e.1 ≤ e.2)).map (fun e => .refresh e.1) ++ rfm ++ old.map c.nextCmd ++ open_ mine ++ shut mine ++
    open_ rest ++ shut rest ++ pull.map .refresh

/-- ACT is held back from a bank whose count has reached RAAMMT (R158). -/
def State.actHeld (s : State) (n : Nat) : DramCmd → Bool
  | .act bank _ => s.timing CH_TIM12_RFM_EN n != 0 && (s.ch n).typ == 1 &&
      decide (s.timing CH_TIM12_RAAMMT n ≤ Sparse.get (fun _ => 0) (s.ch n).raa bank)
  | _ => false

/-- The effect of a command issued: a refresh counts, closing the rank's rows in all-bank mode; a write retires, which may end its bank's
in-order mode (R155). -/
def State.issue (s : State) (n : Nat) (x : DramCmd) : State :=
  let c := s.ch n
  match x with
  | .refresh rank =>
    let rows := if s.flag CH_REF_MODE n then c.rows else c.rows.filter fun e => bankRank e.1 != rank
    s.setCh n { c with refDue := Sparse.modify (fun _ => (0 : Int)) c.refDue rank (· - 1), rows := rows }
  | .rfm bank =>
    let dec := s.timing CH_TIM12_RAAIMT n / (if s.timing CH_TIM12_RAADEC n = 1 then 2 else 1)
    s.setCh n { c with raa := Sparse.modify (fun _ => 0) c.raa bank (· - dec) }
  | .write id => s.setCh n { c with wq := c.wq.filter (fun w => w.id != id), inOrder := c.inOrder.filter fun e => e.2 != id }
  | .act bank row =>
    let raa := if s.timing CH_TIM12_RFM_EN n != 0 then Sparse.modify (fun _ => 0) c.raa bank (· + 1) else c.raa
    s.setCh n { c with rows := c.rows ++ [(bank, row)], raa := raa }
  | .pre bank => s.setCh n { c with rows := c.rows.filter fun e => e.1 != bank }

-- @row COMMAND_SLOT
/-- R154, R155, R163, R338: a command slot of a subchannel. `deny`: the commands that the timing rules do not permit now. -/
def execCommandSlot (ch : ChId) (sub : Bool) (deny : List DramCmd) (s : State) : Res := .next <|
  let n := ch.val
  let k := if sub then 1 else 0
  let c := s.ch n
  if ! (c.st = .active ∨ c.st = .evacuating) ∨ (c.alerts.any fun a => a.sub == k && a.asserted) then s
  else
    let drain := if s.fld CH_SCHED_WR_HI n ≤ c.wq.length ∨ c.held = [] then c.wq != []
      else c.draining && decide (s.fld CH_SCHED_WR_LO n < c.wq.length)
    let s := s.setCh n { c with draining := drain, alerts := c.alerts.filter fun a => a.sub != k }
    let s := match (s.candidates n k).find? fun x => ! deny.contains x && ! s.actHeld n x with
      | some x => s.issue n x
      | none => s
    if sub then s else s.setCh n { s.ch n with slotCtr := (c.slotCtr + 1) % 64 }

/-! ## Rebuild (R170 to R174) -/

/-- The share and chunk of a line that a channel holds or queues. -/
def State.chunkOfLine (s : State) (n l : Nat) : Option (Share × Nat) :=
  match s.regionOf (64 * l) with
  | none => none
  | some (_, r) =>
    let way := (s.page (l / 64)).way
    match s.shareAt (s.poolOf r) (s.poolOffset r (64 * l) way) with
    | some (m, x, k) => if m = n ∧ x.target.isSome ∧ ! x.isDone k ∧ ! s.chunkWaits n x k then some (x, k) else none
    | none => none

/-- The next chunk a rebuild takes (R171): with held or queued requests, then counted pages from the twin, then ascending. -/
def State.nextChunk (s : State) (n : Nat) : Option (Share × Nat) :=
  let c := s.ch n
  match (c.held.map PendingRead.line ++ c.wq.map QWrite.line).findSome? (s.chunkOfLine n) with
  | some x => some x
  | none =>
    let mirrored := s.tier.pages.filter fun e => e.2.counted && match s.regionOf (4096 * e.1) with
      | some (_, r) => r.mirror != .none
      | none => false
    match (mirrored.flatMap fun e => pageLines e.1).findSome? (s.chunkOfLine n) with
    | some x => some x
    | none => c.shares.findSome? fun x =>
      if x.finished then none
      else if ! s.chunkWaits n x x.cursor then some (x, x.cursor)
      else ((List.range (x.total - x.cursor)).find? fun j =>
        ! x.isDone (x.cursor + j) && ! s.chunkWaits n x (x.cursor + j)).map fun j => (x, x.cursor + j)

-- @row REBUILD_CHUNK
/-- R170 to R174: the next chunk is rebuilt, and the reads that waited for it are served. `twin`: the twin's copies by line index. -/
def execRebuildChunk (ch : ChId) (twin : List (Nat × LineData)) (s : State) : Res := .next <|
  let n := ch.val
  if (s.ch n).work ≠ .rebuild then s
  else match s.nextChunk n with
    | some (x, k) => (s.rebuildChunk n x k twin).releaseHeld n
    | none => s.rebuildEnds n

-- @row REBUILD_TWIN_WAIT_EXPIRY
/-- R172: 100 ms with the twin absent; the lines that wait for it are handled as for mirror NONE. -/
def execRebuildTwinWaitExpiry (ch : ChId) (s : State) : Res := .next <|
  let n := ch.val
  if (s.ch n).work = .rebuild ∧ ! s.twinUp then (s.setCh n { s.ch n with twinGone := true }).releaseHeld n else s

/-! ## Evacuation and re-admission (R145, R148, R175, R176) -/

-- @row EVACUATE_CHANNEL
/-- R175, R472: targets are chosen for every share; with one missing, nothing is moved. -/
def execEvacuateChannel (d : Desc) (s : State) : Res := .next <|
  s.take d 5 true true fun s =>
    let n := d.bits 2 3 0
    let evac (o : LongOp) : Bool := match o.kind with | .evacChannel _ => true | _ => false
    if s.rings.ops.any evac then s.complete d.src .busy
    else match (s.ch n).st with
      | .active | .nap1 | .nap2 | .pasr =>
        let plan := s.planShares n (s.sharesOn n)
        if plan.any fun e => e.2.2.isNone then s.complete d.src .noSpace
        else
          let c := s.ch n
          let shares := plan.map fun e => (⟨e.1, e.2.1, e.2.2.map fun t => (t.2.1, t.2.2), 0, [], s.shareChunks e.1, false⟩ : Share)
          let s := s.startOp (.evacChannel n) d.src (some ((shares.map Share.total).sum))
          let dup := c.dupInvalid || c.released != 0
          let s := s.setCh n { c with waking := false, early := false, released := 0, dupInvalid := dup, work := .evacuate, shares := shares }
          let s := if c.st = .active then s else s.setChState n .active
          (s.setChState n .evacuating).activity.releaseHeld n
      | _ => s.complete d.src .conflict

-- @row EVAC_DONE
/-- R148, R149, R175: every chunk is copied; duplicated lines are re-homed, the remaps commit at one edge, and the channel is OFFLINE. -/
def execEvacDone (ch : ChId) (s : State) : Res := .next <|
  let n := ch.val
  let c := s.ch n
  match s.rings.ops.find? fun o => o.kind == .evacChannel n && o.st == .running with
  | none => s
  | some o =>
    if c.st ≠ .evacuating ∨ c.work ≠ .evacuate then s
    else
      let gib := (c.shares.map fun x => s.fld RGN_POOL_BAND_SIZE_GIB x.pool).sum
      let mask := (List.range 16).foldl (fun m x => if c.shares.any fun y => (y.target.map Prod.fst) == some x then m + 2 ^ x else m) 0
      let plan := c.shares.map fun x => (x.pool, x.member, match s.slotFor x.pool x.member, x.target with
        | some k, some (y, b) => some (k, y, b)
        | _, _ => none)
      let s := s.rehome n
      let s := if planRemaps plan = [] then s else s.commit ⟨[], [], planRemaps plan⟩
      let s := s.setCh n { s.ch n with work := .none, shares := [], wq := [], rows := [], inOrder := [], refDue := [], alerts := [] }
      let s := s.setChState n .offline
      (s.log 0x100A .notice (srcCh n) n mask gib).endOp o .ok gib

-- @row CH_PWR_WRITE
/-- R145, R149, R174: PWR = 0 is accepted in CLOSED and OFFLINE only, and moves a CLOSED channel to OFFLINE. -/
def execChPwrWrite (ch : ChId) (v : Bool) (who : Writer) (s : State) : Res := .next <|
  let n := ch.val
  let c := s.ch n
  if ! v ∧ c.st ≠ .closed ∧ c.st ≠ .offline then s.reject (RegName.offset .CH_CTL n 0 0) 0 1 who
  else
    let s := (s.setFld CH_CTL_PWR (if v then 1 else 0) n).setCh n { c with pwrEn := v }
    if ! v ∧ c.st = .closed then (((s.setChState n .offline).rebuildEnds n).retryShares).reeval .cause else s

/-- A re-admitted population is large enough (R176): the bands of every pool that names the channel fit in its usable capacity, and
its reserved area is no smaller than before. -/
def State.readmitFits (s : State) (n : Nat) (ds : List DimmSpd) : Bool :=
  let gib := (ds.map DimmSpd.gib).sum
  let need := (List.range 16).foldl (fun m p =>
    if s.flag RGN_POOL_CFG_VALID p && (s.members p).contains n then
      max m (s.fld RGN_POOL_BAND_BASE_GIB p + s.fld RGN_POOL_BAND_SIZE_GIB p)
    else m) 0
  decide (need ≤ gib - reservedGib gib) && decide ((s.ch n).rsvGib ≤ reservedGib gib)

-- @row READMIT
/-- R143, R148, R173, R176: re-admission. The channel copies its remapped shares back; a share that was not rebuilt comes back in
place, its lines lost. -/
def execReadmit (ch : ChId) (a b : Option DimmSpd) (pass : Bool) (timing : List Word) (who : Writer) (s : State) : Res := .next <|
  let n := ch.val
  let c := s.ch n
  if c.st ≠ .offline ∨ ! s.flag CH_CTL_PWR n then s.reject (RegName.offset .CH_CTL n 0 0) 4 6 who
  else match s.trainChannel n a b pass timing (fun s ds => s.readmitFits n ds) with
    | (false, s) => s
    | (true, s) =>
      let c := s.ch n
      let home (x : Share) : Share :=
        if x.target.isNone then { x with target := some (n, s.fld RGN_POOL_BAND_BASE_GIB x.pool) } else x
      let pending := c.work == .rebuild
      let s := s.setCh n { c with
        work := if pending then .rebuild else .copyBack, shares := if pending then c.shares.map home else [], noSpace := false
        partner := (n + 4) % 16, slotCtr := 0, temp0 := 0, temp1 := 0, factor := 0, throttle := false, drift := 0, refDue := [], raa := [] }
      let s := s.setCh ((n + 12) % 16) { s.ch ((n + 12) % 16) with partner := n }
      let s := { s with tests := { s.tests with patrols := Sparse.set (fun _ => Patrol.reset) s.tests.patrols n { Patrol.reset with start := s.timeNs } } }
      let s := (s.setFld CH_CTL_READMIT 1 n).setChState n .active
      ((s.releaseHeld n).retryShares).reeval .cause

-- @row READMITTED
/-- R176: the copy-back ends; the remap slots of the channel's own members clear at one commit edge. -/
def execReadmitted (ch : ChId) (s : State) : Res := .next <|
  let n := ch.val
  let c := s.ch n
  if ! s.flag CH_CTL_READMIT n ∨ c.work = .rebuild then s
  else
    let mine := (List.range 16).flatMap fun p =>
      if s.flag RGN_POOL_CFG_VALID p then
        (List.range (s.members p).length).filterMap fun m =>
          if (s.members p).getD m 0 = n then (s.remapOf p m).map fun k => (p, k, false, 0, 0, 0) else none
      else []
    let s := s.setCh n { c with work := .none, shares := [] }
    let s := if mine = [] then s else s.commit ⟨[], [], mine⟩
    ((s.setFld CH_CTL_READMIT 0 n).log 0x100B .notice (srcCh n) n c.rate).retryShares

/-! ## Device marks (R199) -/

-- @row MARK_CLEAR
/-- R199: CLR_A or CLR_B of CH_MARK. -/
def execMarkClear (ch : ChId) (rank : Fin 16) (sub : Bool) (s : State) : Res := .next <|
  s.clearMark ch.val (2 * rank.val + if sub then 1 else 0) 1

end Sys2Proof.Machine
end

