-- ==== Sys2Proof/Machine/Save.lean ====
section
/-!
DEFINITION. The steps of a power-loss save from its intent record to the seal, and what follows the seal (R96 to R100, R151, R152).
Each step programs NAND, so none completes while the NAND rails are in brown-out (R224).
-/
namespace Sys2Proof.Machine

/-- Pages that count, in ascending order. -/
def State.countedPages (s : State) : List Nat := (s.tier.pages.filter fun e => e.2.counted).map Prod.fst

-- @row SAVE_INTENT_PROGRAMMED
/-- R96, step 3: the intent record holds the count and the regions with counted pages. -/
def execSaveIntentProgrammed (s : State) : Res := .next <|
  if ! (s.saveAt .landed && s.saving && s.nandPowered) then s
  else
    let x := s.image s.per.saveImage
    let regions := (s.countedPages.filterMap fun k => (s.regionOf (4096 * k)).map Prod.fst).eraseDups
    let s := s.setImage s.per.saveImage { x with intentOk := true, count := s.atRisk, map := regions }
    { s with per := { s.per with saveStep := .streaming } }

-- @row TWIN_FLUSH_CUTOFF
/-- R96, step 3: 200 µs after the ports stopped. -/
def execTwinFlushCutoff (s : State) : Res := .next <| if s.mc.mode = .save then s.cutFlush else s

-- @row SAVE_STREAM_DONE
/-- R95 to R97, R151: every counted page and line record is in the image; write-backs not yet programmed are abandoned. `bad`: lines
that the save cannot read, which go to the image with poison. -/
def execSaveStreamDone (bad : List Nat) (s : State) : Res := .next <|
  if ! (s.saveAt .streaming && s.saving && s.nandPowered) then s
  else
    let x := s.image s.per.saveImage
    let ks := s.countedPages
    let content (l : Nat) : Option (Nat × Line) :=
      let y := if bad.contains l then poisonLine else s.line l
      if y = zeroLine l then none else some (l, y)
    let lost := ((bad.filter fun l => ks.contains (l / 64)).filterMap fun l => (s.regionOf (64 * l)).map Prod.fst).eraseDups
    let words := ks.length + (x.recs.length + 50) / 51
    let s := s.setImage s.per.saveImage { x with pages := ks, lines := (ks.flatMap pageLines).filterMap content, damaged := lost,
                                                 summaries := (words + 1021) / 1022 }
    let back (s : State) (w : WriteBack) : State :=
      let pg := s.page w.page
      if pg.st = .writingBack then s.setPage w.page { pg with st := .dirty } else s
    let s := s.tier.wbs.foldl back s
    { s with tier := { s.tier with wbs := [] }, per := { s.per with saveStep := .streamed } }

-- @row SAVE_METADATA_DONE
/-- R96, step 5: the committed region table, the dirty bitmap, the event log and the counts. The flush is cut off by then. -/
def execSaveMetadataDone (s : State) : Res := .next <|
  if ! (s.saveAt .streamed && s.saving && s.nandPowered) then s
  else
    let s := s.cutFlush
    let x := s.image s.per.saveImage
    let other := s.image (! s.per.saveImage)
    let s := s.setImage s.per.saveImage { x with
      table := s.rgn.table, sets := s.rgn.sets, epoch := s.rgn.epoch, bitmap := s.twin.bitmap, log := s.evt.recs
      predSeq := if other.st = .pending then other.seq else 0 }
    { s with per := { s.per with saveStep := .metadata } }

/-- A save draws on the packs that contribute, and each counts a cycle (R440). -/
def State.countCycles (s : State) : State :=
  let one (e : Nat × Pack) : Nat × Pack :=
    if s.per.packs.getLsbD e.1 then (e.1, { e.2 with id := { e.2.id with cycles := e.2.id.cycles + 1 } }) else e
  { s with hub := { s.hub with packs := s.hub.packs.map one } }

/-- The warm return (R31, R100, R152): service resumes, the channels leave self-refresh, plans are loaded and stopped. -/
def State.warmReturn (s : State) (us : Nat) : State :=
  let b := s.per.saveImage
  let s := s.setImage b { s.image b with warm := true }
  let s := ((s.image b).recs.map fun (r : Nat × Line) => r.1 / 64).foldl (fun (s : State) k => s.setPage k { s.page k with inImage := true }) s
  let s := { s with per := { s.per with lastResult := 2 } }
  let s := (s.enterService .workDone).log 0x5013 .notice srcPersist us
  let s := (s.tier.plans.filter Plan.started).foldl (fun s p => s.endPlan p .ok) s
  let sleep (s : State) (n : Nat) : State :=
    let c := s.ch n
    match c.st with
    | .closed | .offline => s
    | _ => (s.setCh n { c with waking := true, early := false, rows := [] }).setChState n .nap2
  ((List.range 16).foldl sleep s).settleWarm

-- @row SAVE_SEALED
/-- R31, R33, R96 to R100, R502: the seal record is programmed and DRAM is in self-refresh. With main power back the controller returns
warm, or through BOOT when VDDQ_DDR left its range; otherwise it goes to STANDBY. Requests that arrived in SAVE are then decided. -/
def execSaveSealed (straps : Straps) (s : State) : Res := .next <|
  if ! (s.saveAt .metadata && s.saving && s.nandPowered) then s
  else
    let b := s.per.saveImage
    let x := s.image b
    let us := (s.timeNs - s.per.saveStart) / 1000
    let s := s.setImage b { x with sealedOk := true, st := .pending, sealWarm := ! s.pw.vddqExcursion }
    let s := (s.log 0x5011 .notice srcPersist x.seq.toNat x.pages.length us).countCycles
    let s := { s with per := { s.per with saveStep := .done, lastResult := 1 } }
    let s := if s.pw.mainBack ∧ ! s.pw.vddqExcursion then s.warmReturn us
      else if s.pw.mainBack then s.enterBoot .workDone straps 5
      else s.enterStandby .workDone straps
    s.decideSaveReqs

end Sys2Proof.Machine
end

