-- ==== Sys2Proof/Machine/EnergyOps.lean ====
section
/-!
DEFINITION. The energy supervisor: packs and their tests (R443 to R447), the ceiling and its planned reductions (R86 to R88), the guard
state (R85, R89 to R92).
-/
namespace Sys2Proof.Machine

/-! ## Sensors and packs -/

/-- A sensor. -/
def State.sensor (s : State) (i : Nat) : Sensor := Sparse.get (fun _ => Sensor.reset) s.hub.sensors i

/-- Replaces a sensor. -/
def State.setSensor (s : State) (i : Nat) (x : Sensor) : State :=
  { s with hub := { s.hub with sensors := Sparse.set (fun _ => Sensor.reset) s.hub.sensors i x } }

/-- A pack bay. -/
def State.pack (s : State) (p : Nat) : Pack := Sparse.get (fun _ => Pack.absent) s.hub.packs p

/-- Replaces a pack bay. -/
def State.setPack (s : State) (p : Nat) (x : Pack) : State :=
  { s with hub := { s.hub with packs := Sparse.set (fun _ => Pack.absent) s.hub.packs p x } }

/-- Moves a pack to a state: PACK_STATE and its sensor (R444, R448). -/
def State.setPackState (s : State) (p : Nat) (st : PackState) : State :=
  let x := s.pack p
  let sev : Sev := if st = .fault ∨ st = .endOfLife then .error else .notice
  ((s.setPack p { x with st := st }).log 0x9010 sev srcPacks p (x.st.code * 16 + st.code)).sensorChange (0x110 + p) st.code

/-- A channel of a pack is measured and calibrated (R441). -/
def Sensor.fresh (x : Sensor) : Bool := decide (x.staleFor ≤ 100) && ! x.uncal

/-- A pack contributes energy (R441, R444). -/
def State.contributes (s : State) (p : Nat) : Bool :=
  ((s.pack p).st == .healthy || (s.pack p).st == .testing) && (s.sensor (64 + 2 * p)).fresh && (s.sensor (65 + 2 * p)).fresh

/-- Energy in 0.1 J that a capacitance in µF holds between two voltages in 10 µV (R445). -/
def energyDj (cUf : Nat) (v floor : Int) : Nat := if v ≤ floor then 0 else (cUf * (v * v - floor * floor).toNat) / (2 * 10 ^ 15)

/-- The floor voltage of a pack in 10 µV (R445): CONV_VMIN and the ESR drop at I_PEAK. -/
def State.packFloor (s : State) (p : Nat) : Int :=
  Int.ofNat (s.fld SNS_PACK_CFG_CONV_VMIN * 10000 + (s.pack p).id.esr * s.fld SNS_PACK_CFG_I_PEAK)

/-- The usable energy of a pack at its published voltage (R445). -/
def State.packUsable (s : State) (p : Nat) : Nat := energyDj (s.pack p).id.cUf ((s.sensor (64 + 2 * p)).value * 100) (s.packFloor p)

/-- The energy a pack is predicted to hold at the end of its test (R446): TEST_DV below the voltage under the test load. -/
def State.packPredicted (s : State) (p : Nat) : Nat :=
  let drop := s.fld SNS_PACK_CFG_I_TEST * (s.pack p).id.esr / 2 + s.fld SNS_PACK_CFG2_TEST_DV * 10000
  energyDj (s.pack p).id.cUf ((s.sensor (64 + 2 * p)).value * 100 - Int.ofNat drop) (s.packFloor p)

/-- Energy from V_FULL down to CONV_VMIN in 0.1 J (SNS_PACK_ENERGY.FULL_DJ). -/
def State.packFull (s : State) (p : Nat) : Nat :=
  energyDj (s.pack p).id.cUf (Int.ofNat (s.fld SNS_PACK_CFG_V_FULL * 10000)) (Int.ofNat (s.fld SNS_PACK_CFG_CONV_VMIN * 10000))

/-- Days since 1970-01-01 by the device time. -/
def State.today (s : State) : Nat := s.timeNs / (86400 * 10 ^ 9)

/-- Year and month of a day since 1970-01-01 in the Gregorian calendar. -/
def yearMonth (days : Nat) : Nat × Nat :=
  let z := days + 719468
  let era := z / 146097
  let doe := z % 146097
  let yoe := (doe - doe / 1460 + doe / 36524 - doe / 146096) / 365
  let doy := doe - (365 * yoe + yoe / 4 - yoe / 100)
  let mp := (5 * doy + 2) / 153
  let m := if mp < 10 then mp + 3 else mp - 9
  (yoe + era * 400 + (if m ≤ 2 then 1 else 0), m)

/-- A pack is at its end of life (R446, step 5); the age counts only on a synchronised device time. -/
def State.packWorn (s : State) (p : Nat) : Bool :=
  let x := (s.pack p).id
  let (y, m) := yearMonth s.today
  decide (5 * x.cUf * (s.fld SNS_PACK_CFG_V_FULL ^ 2 - s.fld SNS_PACK_CFG_CONV_VMIN ^ 2) < 6 * x.ratedJ * 10 ^ 8) ||
    (s.clk.timeKnown && decide (x.year * 12 + x.month + 96 < y * 12 + m))

/-- The last test of a pack is recent enough (R444). -/
def State.packTested (s : State) (p : Nat) : Bool :=
  (s.pack p).id.testDay != 0 && decide (s.today - (s.pack p).id.testDay ≤ s.fld SNS_PACK_CFG2_TEST_MAX_DAYS)

/-! ## The ceiling (R86) -/

/-- The ceiling in pages from usable energy in 0.1 J, derate in percent, cap in GiB, power in W, bandwidth in MB/s, and the capacity of
the free image in bytes. The fixed save time is 1.5 ms. -/
def ceilingOf (dj derate cap watts mbps image : Nat) : Nat :=
  let n := 2 * dj * derate - 3 * watts
  if watts = 0 then 0 else min (min (min (n * mbps * 10 ^ 6 / (2000 * watts)) (512 * 2 ^ 30)) (cap * 2 ^ 30)) image / 4096

/-- The save bandwidth: the lowest of the last four rehearsals. -/
def State.saveMbps (s : State) : Nat :=
  match s.per.rehearsals with
  | [] => 0
  | x :: xs => xs.foldl min x

/-- Usable energy that counts: a pack in test as predicted, one to be released not at all, but those of a running planned reduction
in full. -/
def State.energyFor (s : State) (inFull : List Nat) : Nat :=
  ((List.range 4).map fun p =>
    if ! s.contributes p then 0
    else if inFull.contains p then s.packUsable p
    else if (s.pack p).release.isSome then 0
    else if (s.pack p).st = .testing then s.packPredicted p else s.packUsable p).sum

/-- The ceiling with the declarations and packs as they are now: what a planned reduction aims at. -/
def State.newCeiling (s : State) : Nat :=
  ceilingOf (s.energyFor []) (s.fld PER_POLICY_DERATE_PCT) (s.fld PER_SAVE_DECL_CAP_GIB) (s.fld PER_SAVE_DECL_SAVE_POWER_W) s.saveMbps
    s.freeImageCapacity

/-- The ceiling with what a planned reduction does not change yet. SAVE_POWER_W = 0 is never planned (R88). -/
def State.oldCeiling (s : State) (p : Planned) : Nat :=
  if s.fld PER_SAVE_DECL_SAVE_POWER_W = 0 then 0
  else ceilingOf (s.energyFor p.packs) p.derate p.cap p.watts (p.mbps.getD s.saveMbps) p.image

/-- A planned reduction starts or goes on (R88): `packs`: a pack whose energy it lowers; `image`, `mbps`: image capacity and save
bandwidth as they were. -/
def State.planReduce (s : State) (packs : List Nat) (image : Nat) (mbps : Option Nat := none) : State :=
  let (derate, cap, watts) := s.per.decl
  let p : Planned := match s.per.planned with
    | some p => { p with
        packs := p.packs ++ packs.filter (fun x => ! p.packs.contains x)
        mbps := p.mbps.orElse fun _ => mbps
        met := false }
    | none => ⟨0, derate, cap, watts, packs, image, mbps, false⟩
  { s with per := { s.per with planned := some { p with target := s.newCeiling } } }

/-- After a write of DERATE_PCT, CAP_GIB or SAVE_POWER_W: a lower ceiling is planned (R88); any other takes effect at the next frame. -/
def State.declChanged (s : State) : State :=
  if s.fld PER_SAVE_DECL_SAVE_POWER_W = 0 then s
  else if s.per.planned.isSome ∨ s.newCeiling < s.per.ceiling then s.planReduce [] s.freeImageCapacity else s

/-! ## The guard (R89 to R92) -/

/-- The causes of UNARMED, bit 0 being bit 4 of PER_GUARD, for a ceiling. -/
def State.unarmedCauses (s : State) (ceiling : Nat) : BitVec 5 :=
  let bit (k : Nat) (b : Bool) : BitVec 5 := if b then BitVec.twoPow 5 k else 0
  bit 0 (decide (10000 ≤ s.per.noEnergyFrames)) ||| bit 1 (s.fld PER_SAVE_DECL_SAVE_POWER_W == 0) |||
    bit 2 (decide (ceiling * 4096 < 2 ^ 30)) ||| bit 3 (! s.anyImageFree) ||| bit 4 (s.flag PER_POLICY_FORCE_UNARMED)

/-- The guard state under causes and a ceiling. -/
def State.guardFor (s : State) (causes : BitVec 5) (ceiling : Nat) : Guard :=
  if causes ≠ 0 then .unarmed else if ceiling * 4096 < s.fld PER_POLICY_FLOOR_GIB * 2 ^ 30 then .thin else .armed

/-- Fences that wait only for exposed pages need them no longer (R92). -/
def State.protectAgain (s : State) : State :=
  if s.per.guard ≠ .unarmed ∧ s.atRisk ≤ s.per.ceiling then
    let one (f : Fence) : Fence := if f.kind = .persist then { f with pages := [] } else f
    { s with per := { s.per with fences := s.per.fences.map one, gpf := s.per.gpf.map fun e => (e.1, e.2.1, { e.2.2 with pages := [] }) } }
  else s

/-- Decides the guard state (R89 to R91). -/
def State.decideGuard (s : State) : State :=
  let c := s.unarmedCauses s.per.ceiling
  let g := s.guardFor c s.per.ceiling
  let old := s.per.guard
  let s := { s with per := { s.per with cause := c } }
  let s := if g = old then s
    else
      let s := { s with per := { s.per with guard := g, guardSeq := s.per.guardSeq + 1 } }
      let s := s.log 0x5001 (if g = .unarmed then .error else .notice) srcPersist (old.code * 4 + g.code) c.toNat
      let s := ((s.sensorChange 0x101 g.code).stackSensor 0x1010 g.code).reeval .cause
      if g = .unarmed then s.releaseThrough else s
  s.protectAgain

/-- STALL_RISK (R85). -/
def State.decideStallRisk (s : State) : State :=
  let alarm := s.servingNf.any fun ch => s.poolAlarm ch
  let risk := s.servingNf.length < 16 || alarm || decide (s.per.stallFrames < 1000)
  let s := { s with per := { s.per with stallFrames := min 1000 (s.per.stallFrames + 1) } }
  let was := s.per.stallRisk
  let s := { s with per := { s.per with stallRisk := risk } }
  if risk ∧ ! was then s.log 0x5004 .notice srcPersist s.servingNf.length (if alarm then 1 else 0) else s

/-! ## Pack tests and releases (R446, R474) -/

/-- A ceiling comes into force (R87): CEILING_CHANGE when it changes by more than 1/16; a higher one admits stalled writes. -/
def State.setCeiling (s : State) (c : Nat) : State :=
  let old := s.per.ceiling
  let s := { s with per := { s.per with ceiling := c, raiseCnt := 0, raiseMin := 0 } }
  let d := if c ≤ old then old - c else c - old
  let s := if old < 16 * d then s.log 0x5002 .info srcPersist old c else s
  if old < c then s.per.adm.length.repeat State.releaseOne s else s

/-- The planned reduction is in force (R88): a test that waited puts its load on, a release is carried out. -/
def State.plannedDone (s : State) : State :=
  (List.range 4).foldl (fun s p =>
    let x := s.pack p
    match x.release with
    | some k =>
      let s := (s.setPack p { x with release := none, test := .none }).setPackState p .released
      match s.opAt k with
      | some o => s.endOp o .ok s.per.ceiling
      | none => s
    | none => if x.test = .waiting then s.setPack p { x with test := .loaded } else s) s

/-- The ceiling of a sample frame (R86 to R88). -/
def State.decideCeiling (s : State) : State :=
  let regs := (s.fld PER_POLICY_DERATE_PCT, s.fld PER_SAVE_DECL_CAP_GIB, s.fld PER_SAVE_DECL_SAVE_POWER_W)
  let free (s : State) (c : Nat) : State :=
    if c ≤ s.per.ceiling then (if c < s.per.ceiling then s.setCeiling c else { s with per := { s.per with raiseCnt := 0, raiseMin := 0 } })
    else
      let m := if s.per.raiseCnt = 0 then c else min s.per.raiseMin c
      if 100 ≤ s.per.raiseCnt + 1 then s.setCeiling m
      else { s with per := { s.per with raiseCnt := s.per.raiseCnt + 1, raiseMin := m } }
  match s.per.planned with
  | none => free { s with per := { s.per with decl := regs } } s.newCeiling
  | some p =>
    let c := s.newCeiling
    if p.met ∨ s.per.ceiling ≤ c then
      let s := { s with per := { s.per with planned := none, decl := regs } }
      (if c < s.per.ceiling then s.setCeiling c else free s c).plannedDone
    else
      let s := free s (s.oldCeiling p)
      { s with per := { s.per with planned := some { p with target := c, met := decide (s.atRisk ≤ c) } } }

/-- A test of a pack runs. -/
def State.testing (s : State) : Bool := (List.range 4).any fun p => (s.pack p).test != .none

/-- Starts a pack test (R446, step 1): the reduction is planned, or the test is deferred by an hour when the ceiling left would leave the
guard below ARMED. An UNTESTED pack contributes nothing, so its test lowers no ceiling. -/
def State.startPackTest (s : State) (p : Nat) : State :=
  let x := s.pack p
  if x.st ≠ .healthy ∧ x.st ≠ .untested ∨ x.release.isSome then s
  else if s.testing then s.setPack p { x with req := true }
  else
    let t := s.setPack p { x with st := .testing }
    let c := t.newCeiling
    if x.st = .healthy ∧ t.guardFor (t.unarmedCauses c) c ≠ .armed then
      (s.setPack p { x with req := false, retryAt := some (s.timeNs + 3600 * 10 ^ 9) }).log 0x9011 .info srcPacks p x.id.cUf x.id.esr 2
    else
      let s := (s.setPackState p .testing)
      let s := s.setPack p { s.pack p with test := .waiting, retryAt := none }
      s.planReduce [p] s.freeImageCapacity

/-- Abandons the test of a pack (R447): its previous C and ESR stay. -/
def State.abandonTest (s : State) (p : Nat) : State :=
  let x := s.pack p
  if x.test = .none then s
  else
    (s.setPack p { x with test := .none, req := false }).log 0x9011 .notice srcPacks p x.id.cUf x.id.esr 1

/-- What the energy supervisor does in each frame with the packs (R444, R446). -/
def State.checkPacks (s : State) : State :=
  (List.range 4).foldl (fun s p =>
    let x := s.pack p
    if x.release.isSome then s
    else match x.st with
      | .healthy => if ! s.packTested p then s.setPackState p .untested else if x.req then s.startPackTest p else s
      | .untested =>
        if Int.ofNat (95 * s.fld SNS_PACK_CFG_V_FULL) ≤ (s.sensor (64 + 2 * p)).value ∧ ! s.testing ∧ s.mc.mode.serving then s.startPackTest p else s
      | _ => s) s

/-- The energy measurement of a frame (R445, PER_ENERGY). -/
def State.measureEnergy (s : State) : State :=
  let ps := (List.range 4).filter s.contributes
  let mask : BitVec 4 := ps.foldl (fun m p => m ||| BitVec.twoPow 4 p) 0
  let s := (List.range 4).foldl (fun s p =>
    let x := s.pack p
    if x.st = .absent then s
    else
      let u := if ! s.contributes p then 0 else if x.st = .testing then s.packPredicted p else s.packUsable p
      s.setPack p { x with usable := u, full := s.packFull p }) s
  let dj := (ps.map fun p => (s.pack p).usable).sum
  { s with per := { s.per with usableDj := dj, energyOk := ps != [], packs := mask
                               noEnergyFrames := if ps = [] then min 10000 (s.per.noEnergyFrames + 1) else 0 } }

end Sys2Proof.Machine
end

