-- ==== Sys2Proof/Machine/Frames.lean ====
section
/-!
DEFINITION. The sample frame of the sensor hub (R437 to R442, R85 to R91), trims (R438 to R440, R449), and the packs' events (R443 to
R447, R474).
-/
namespace Sys2Proof.Machine

/-! ## Corrections (R438, R439) -/

/-- The reference thermal sensor of a sensor (R436). -/
def refSensor (i : Nat) : Nat :=
  if i < 24 then i
  else if i < 28 then 5 * (i - 24) + 4
  else if i = 28 then 20
  else if i < 33 then 5 * (i - 29) + 4
  else if i = 33 then 22
  else if i < 50 then 5 * ((i - 34) / 4)
  else if i < 58 then 5 * ((i - 50) / 2) + 2
  else if i < 62 then 5 * (i - 58) + 1
  else if i = 63 then 23 else 22

/-- The trim of a set and sensor in a list of trims. -/
def trimIn (m : List (Nat × Word)) (set i : Nat) : Word := Sparse.get (fun _ => trimIdentity) m (128 * set + i)

/-- OFFSET, signed, and GAIN of a trim. -/
def trimOff (w : Word) : Int := (w.extractLsb' 0 16).toInt
def trimGain (w : Word) : Int := Int.ofNat (w.toNat / 65536)

/-- The correction of a sensor at a reference temperature in 1/16 °C, scaled by 720: OFFSET and GAIN (R438). -/
def State.correction (s : State) (i : Nat) (t : Int) : Int × Int :=
  let t := max 160 (min 1600 t)
  let (lo, hi, f) := if t ≤ 880 then (0, 1, t - 160) else (1, 2, t - 880)
  let mix (a b : Int) : Int := a * (720 - f) + b * f
  let a := trimIn s.hub.trims lo i
  let b := trimIn s.hub.trims hi i
  (mix (trimOff a) (trimOff b), mix (trimGain a) (trimGain b))

/-- A corrected value, rounded down to the sensor's unit. -/
def corrected (off gain raw : Int) : Int := (raw * gain + off * 16384) / (720 * 16384)

/-- A sensor takes the correction for a reference temperature. -/
def State.recompute (s : State) (i : Nat) (t : Int) : State :=
  let (off, gain) := s.correction i t
  s.setSensor i { s.sensor i with off := off, gain := gain, ref := some t, redo := false }

/-- The readings of the frame are published (R437 to R439): a sensor whose correction is recomputed in this frame keeps its last value with
STALE; one whose reference has moved by 1 °C recomputes in the next. The first frame after BOOT uses the 55 °C set. -/
def State.publish (s : State) (raw : List (Nat × Int)) : State :=
  let before := s
  let s := if s.hub.first then
      (List.range 72).foldl (fun s i => s.setSensor i { s.sensor i with
        off := trimOff (trimIn s.hub.trims 1 i) * 720, gain := trimGain (trimIn s.hub.trims 1 i) * 720 }) s
    else s
  let one (s : State) (e : Nat × Int) : State :=
    let i := e.1
    let x := s.sensor i
    let t := (before.sensor (refSensor i)).value
    if s.hub.first then s.setSensor i { x with value := corrected x.off x.gain e.2, stale := false, staleFor := 0 }
    else if x.redo then (s.setSensor i { x with stale := true, staleFor := x.staleFor + 1 }).recompute i t
    else
      let moved := match x.ref with | some r => decide (16 ≤ (t - r).natAbs) | none => true
      s.setSensor i { x with value := corrected x.off x.gain e.2, stale := false, staleFor := 0, redo := moved }
  let s := raw.foldl one s
  if s.hub.first then
    let s := raw.foldl (fun s e => s.recompute e.1 (s.sensor (refSensor e.1)).value) s
    { s with hub := { s.hub with first := false } }
  else s

/-! ## Thresholds (R442, R514) -/

/-- The recommended range of a rail sensor in 0.1 mV (R514); VDD_CORE spans the set point in force and the one requested (R515). -/
def State.railRange (s : State) (i : Nat) : Option (Int × Int) :=
  let core : Int × Int :=
    let a := Int.ofNat s.pw.avsMv
    let b := match s.pw.avsReq with | some v => Int.ofNat v | none => a
    (min a b * 19 / 2, max a b * 21 / 2)
  if i < 24 then none
  else if i < 29 then some core
  else if i < 34 then some (7600, 8400)
  else if i < 50 then some (10670, 11330)
  else if i < 58 then (if i % 2 = 0 then some (7125, 7875) else some (11400, 12600))
  else if i < 62 then some (11400, 12600)
  else if i < 64 then some (17100, 18900) else none

/-- The value of a sensor as a parameter word of an event. -/
def sensorWord (v : Int) : Nat := (BitVec.ofInt 32 v).toNat

/-- The thresholds of a thermal sensor (R442). -/
def State.thermalChecks (s : State) (i : Nat) : State :=
  let x := s.sensor i
  let hi := decide (Int.ofNat (16 * s.fld SNS_CTL_TEMP_HI) ≤ x.value)
  let above := decide (1680 < x.value)
  let drain := if 1760 < x.value then min 101 (x.drain + 1) else 0
  let s := s.setSensor i { x with hi := hi, above := above, drain := drain }
  let cross (s : State) : State := s.platformEvent (.sensor (i + 1) (sensorWord x.value))
  let s := if hi ≠ x.hi then (cross s).log 0x9001 .notice srcSensors i (sensorWord x.value) (if hi then 1 else 0) else s
  let s := if above ≠ x.above then (cross s).log 0x9001 (if above then .error else .notice) srcSensors i (sensorWord x.value) (if above then 1 else 0) else s
  let s := if above then { s with hub := { s.hub with hot := true } } else s
  if drain = 100 ∧ x.drain ≠ 100 then
    let s := s.log 0x9002 .critical srcSensors i (sensorWord x.value)
    if s.mc.mode = .save then { s with mc := { s.mc with saveReqs := s.mc.saveReqs ++ [(0x7, .itself)] } }
    else (s.modeRequest 0x7 .itself).2
  else s

/-- The range of a rail sensor (R442). -/
def State.railChecks (s : State) (i : Nat) : State :=
  match s.railRange i with
  | none => s
  | some (lo, hi) =>
    let x := s.sensor i
    let out := decide (10 * x.value < lo) || decide (hi < 10 * x.value)
    let s := s.setSensor i { x with out := out }
    if out = x.out then s
    else (s.platformEvent (.sensor (i + 1) (sensorWord x.value))).log 0x9001 (if out then .error else .notice) srcSensors i (sensorWord x.value) (if out then 1 else 0)

/-- Every threshold, on the sensors just published. -/
def State.checkThresholds (s : State) (is_ : List Nat) : State :=
  let s := (is_.filter fun i => decide (i < 24)).foldl (fun s i => s.thermalChecks i) s
  let s := is_.foldl (fun s i => s.railChecks i) s
  if s.hub.hot ∧ (List.range 24).all fun i => decide ((s.sensor i).value < 1600) then { s with hub := { s.hub with hot := false } } else s

/-! ## Trims (R440, R449) -/

/-- Applies all shadow trims: CAL_COMMIT, and the sensors concerned recompute (R439, R440). -/
def State.applyTrims (s : State) : State :=
  let changed := (List.range 72).filter fun i => (List.range 3).any fun k => trimIn s.hub.trims k i != trimIn s.hub.shadow k i
  let s := { s with hub := { s.hub with trims := s.hub.shadow, commit := false } }
  let own (i : Nat) : Bool := (List.range 3).all fun k => trimIn s.hub.trims k i != trimIdentity
  let s := changed.foldl (fun s i => s.setSensor i { s.sensor i with redo := true }) s
  let s := (List.range 72).foldl (fun s i => if own i then s.setSensor i { s.sensor i with uncal := false } else s) s
  s.log 0x9004 .info srcSensors changed.length

-- @row TRIM_COMMIT
/-- R440: the shadow trims apply at the next frame boundary, or at once in STANDBY. -/
def execTrimCommit (s : State) : Res := .next <|
  if s.mc.mode = .standby then s.applyTrims else { s with hub := { s.hub with commit := true } }

-- @row TRIM_RELOAD
/-- R449: the shadow is loaded from the factory sectors; a set that fails its check gives identity trims. -/
def execTrimReload (s : State) : Res := .next <|
  let shadow := (List.range 3).foldl (fun (m : List (Nat × Word)) k => match s.factorySet k with
    | some ws => ws.zipIdx.foldl (fun m w => Sparse.set (fun _ => trimIdentity) m (128 * k + w.2) w.1) m
    | none => m) []
  { s with hub := { s.hub with shadow := shadow } }

/-! ## The frame -/

/-- The sensors converted in STANDBY (R437). -/
def standbySensor (i : Nat) : Bool := (20 ≤ i && i ≤ 23) || i == 33 || (64 ≤ i && i ≤ 71)

-- @row SAMPLE_FRAME
/-- R437: a frame boundary. `raw`: the conversions of the frame by sensor, pack channels averaged; in STANDBY only some sensors are
converted. Outside STANDBY the energy supervisor, the ceiling and the guard follow. -/
def execSampleFrame (raw : List (Nat × Int)) (s : State) : Res := .next <|
  let stand := s.mc.mode == .standby
  if s.mc.mode = .off then s
  else
    let raw := raw.filter fun e => decide (e.1 < 72) && (! stand || standbySensor e.1)
    let s := if s.hub.commit then s.applyTrims else s
    let s := (s.publish raw).checkThresholds (raw.map Prod.fst)
    if stand then s else s.checkPacks.measureEnergy.decideCeiling.decideGuard.decideStallRisk

/-! ## Packs (R443 to R447) -/

-- @row PACK_INSERT
/-- R444: PKp_PRES_N goes low. -/
def execPackInsert (p : PackNo) (s : State) : Res := .next <|
  if (s.pack p.val).st = .absent then (s.setPack p.val Pack.absent).setPackState p.val .identifying else s

-- @row PACK_IDENTIFY_DONE
/-- R443, R444, R496: the identity EEPROM has been read over the pack bus; `none`: it cannot be read. -/
def execPackIdentifyDone (p : PackNo) (id : Option PackId) (s : State) : Res := .next <|
  let n := p.val
  if (s.pack n).st ≠ .identifying ∨ ! s.pw.ioOk then s
  else
    let fail (why : Nat) : State := (s.log 0x9012 .error srcPacks n why).setPackState n .fault
    match id with
    | none => fail 1
    | some x =>
      let s := s.setPack n { s.pack n with id := x }
      if ! x.crcOk then (s.log 0x9012 .error srcPacks n 2).setPackState n .fault
      else if x.ratedJ = 0 then (s.log 0x9012 .error srcPacks n 3).setPackState n .fault
      else s.setPackState n (if s.packTested n ∧ ! s.packWorn n then .healthy else .untested)

-- @row PACK_REMOVE
/-- R444, R447, R474: PKp_PRES_N goes high; a PACK_RELEASE that waits ends with CANCELLED. -/
def execPackRemove (p : PackNo) (s : State) : Res := .next <|
  let n := p.val
  let x := s.pack n
  if x.st = .absent then s
  else
    let s := (s.setPackState n .absent).setPack n Pack.absent
    match x.release.bind s.opAt with
    | some o => s.endCancelled o 0
    | none => s

-- @row PACK_TEST_REQUEST
/-- R444, R446: SNS_PACK_CTL.TEST. -/
def execPackTestRequest (p : PackNo) (s : State) : Res := .next <|
  let n := p.val
  if (s.pack n).st ≠ .healthy then s
  else (s.setPack n { s.pack n with req := true }).startPackTest n

-- @row PACK_TEST_SCHEDULED
/-- R450, R451: PACK_DAYS have passed since the last test. -/
def execPackTestScheduled (p : PackNo) (s : State) : Res := .next <|
  if s.flag GLB_IST_CTL_PACK_EN ∧ s.mc.mode.serving ∧ s.mc.mode ≠ .drain ∧ ! s.hub.hot ∧ (s.pack p.val).st = .healthy then s.startPackTest p.val else s

-- @row PACK_TEST_RETRY
/-- R446: an hour has passed since a test was deferred. -/
def execPackTestRetry (p : PackNo) (s : State) : Res := .next <|
  if (s.pack p.val).retryAt.isSome ∧ (s.pack p.val).st = .healthy then s.startPackTest p.val else s

-- @row PACK_TEST_DONE
/-- R446: the voltage has fallen by TEST_DV. `v0`, `v1`, `v2`: before the load, a frame after it, and at its end, in mV; `us`: the time
from v1 to v2. -/
def execPackTestDone (p : PackNo) (v0 v1 v2 us : Nat) (s : State) : Res := .next <|
  let n := p.val
  let x := s.pack n
  if x.test ≠ .loaded ∨ v1 ≤ v2 then s
  else
    let i := max 1 (s.fld SNS_PACK_CFG_I_TEST)
    let esr := (v0 - v1) * 200 / i
    let c := 1000 * i * us / (2 * (v1 - v2))
    let id := { x.id with cUf := c, esr := esr, testDay := s.today, cycles := x.id.cycles + 1 }
    let s := s.setPack n { x with id := id, test := .none, req := false, testedAt := s.timeNs }
    let s := s.log 0x9011 .info srcPacks n c esr 0
    s.setPackState n (if 100 * s.fld SNS_PACK_CFG2_ESR_MAX < esr then .fault else if s.packWorn n then .endOfLife else .healthy)

-- @row PACK_RELEASE
/-- R474: the release of a pack, by the planned path of R88 when it contributes energy. -/
def execPackRelease (d : Desc) (s : State) : Res := .next <|
  s.take d 5 true true fun s =>
    let p := d.bits 2 1 0
    let x := s.pack p
    match x.st with
    | .absent => s.complete d.src .invalid
    | .released => s.complete d.src .ok
    | .identifying | .endOfLife | .fault => (s.setPackState p .released).complete d.src .ok
    | .healthy | .untested | .testing =>
      if x.release.isSome then s.complete d.src .conflict
      else
        let k := s.nextOpSlot
        let t := s.setPack p { x with release := some k, retryAt := none }
        let c := t.newCeiling
        let others := (List.range 4).any fun q => q != p && s.contributes q
        let causes := t.unarmedCauses c ||| (if others then 0 else 1)
        if causes ≠ 0 ∧ ! s.flag PER_POLICY_FORCE_UNARMED then s.complete d.src .unarmed
        else
          let s := s.abandonTest p
          let s := s.setPack p { s.pack p with release := some k, retryAt := none }
          (s.startOp (.packRelease p) d.src (some 1)).planReduce [p] s.freeImageCapacity

end Sys2Proof.Machine
end

