-- ==== Sys2Proof/Machine/Cc.lean ====
section
/-!
DEFINITION. The control complex and its watchdog (R372 to R386, R410, R411).
-/
namespace Sys2Proof.Machine

/-! ## Roles -/

/-- The role of a core: 0 A, 1 B, 2 S. -/
def Cc.role (c : Cc) (k : Nat) : CoreRole := if k = 0 then c.roleA else if k = 1 then c.roleB else c.roleS

/-- Gives a core a role. -/
def Cc.setRole (c : Cc) (k : Nat) (r : CoreRole) : Cc :=
  if k = 0 then { c with roleA := r } else if k = 1 then { c with roleB := r } else { c with roleS := r }

/-- The cores with a role, in the order A, B, S. -/
def Cc.having (c : Cc) (r : CoreRole) : List Nat := (List.range 3).filter fun k => c.role k == r

/-- Changes the control complex. -/
def State.setCc (s : State) (c : Cc) : State := { s with cc := c }

/-- The log record of a mismatch, which the gap has held back (R377). -/
def State.logMismatch (s : State) : State :=
  match s.cc.mismatch with
  | some (kind, clocks) => (s.log 0x8001 .error srcCc kind clocks).setCc { s.cc with mismatch := none }
  | none => s

/-! ## Faults and switch-over (R376 to R380) -/

-- @row CC_MISMATCH
/-- R376, R378, R380: a lockstep mismatch, or an error inside an ACTIVE core (`ecc`), `clocks` after the last checkpoint. With a STANDBY
core a switch-over starts; a pair without one runs the short self-test; a lone core leaves the watchdog to expire. -/
def execCcMismatch (ecc : Bool) (clocks : Nat) (s : State) : Res := .next <|
  let c := s.cc
  let hit := if ecc then c.having .active else c.having .pair
  if ! s.ccRuns ∨ hit = [] then s
  else
    let c := { c with mismatch := some (if ecc then 2 else 1, clocks) }
    if c.having .standby ≠ [] then s.setCc { c with gap := .switchover }
    else if ! ecc then s.setCc { c with gap := .shortTest }
    else s.setCc { c with gap := .dead }

-- @row CC_SWITCHOVER
/-- R376: the standby core has restored and replayed: it is ACTIVE, and the cores that failed are FAULTED and run the 12 ms self-test. -/
def execCcSwitchover (gap replay suppressed : Nat) (s : State) : Res := .next <|
  match s.cc.gap, s.cc.having .standby with
  | .switchover, k :: _ =>
    let old := s.cc.having .pair ++ s.cc.having .active
    let c := (old.foldl (fun (c : Cc) j => c.setRole j .faulted) s.cc).setRole k .active
    let s := s.setCc { c with gap := .none, testing := old, switches := min 255 (c.switches + 1), ckptAt := s.timeNs, force := false }
    s.logMismatch.log 0x8002 .notice srcCc k gap replay suppressed
  | _, _ => s

-- @row CC_SHORT_SELFTEST_DONE
/-- R380: the first passing core of the pair, in the order A, B, S, restores the checkpoint and is ACTIVE; with none the watchdog is
left to expire. -/
def execCcShortSelftestDone (passA passB passS : Bool) (s : State) : Res := .next <|
  if s.cc.gap ≠ .shortTest then s
  else
    let pass (k : Nat) : Bool := if k = 0 then passA else if k = 1 then passB else passS
    let pair := s.cc.having .pair
    let c := pair.foldl (fun (c : Cc) j => c.setRole j .faulted) s.cc
    match pair.filter pass with
    | [] => s.setCc { c with gap := .dead }
    | k :: _ =>
      (s.setCc { c.setRole k .active with gap := .none, testing := pair.filter (fun j => j != k), ckptAt := s.timeNs }).logMismatch

-- @row CC_SELFTEST
/-- R378: the 12 ms self-test of the FAULTED cores ends. `pause`: the pause, in control clocks, of a pair that is formed again. -/
def execCcSelftest (passA passB passS : Bool) (pause : Nat) (s : State) : Res := .next <|
  let c := s.cc
  if c.testing = [] ∨ ! s.ccRuns then s
  else
    let pass (k : Nat) : Bool := if k = 0 then passA else if k = 1 then passB else passS
    let ok := c.testing.filter pass
    let act := (c.having .active).headD 0
    let c' := match ok with
      | [] => c
      | [k] => c.setRole k .standby
      | k :: j :: _ => ((c.setRole k .standby).setRole j .pair).setRole act .pair
    let s := s.setCc { c' with testing := [] }
    let s := c.testing.foldl (fun s k =>
      s.log 0x8003 (if pass k then .notice else .error) srcCc k (if pass k then 1 else 2) (c'.role k).code) s
    match ok with
    | [] => s.log 0x8004 .error srcCc 2
    | [_] => s
    | k :: _ => s.log 0x8007 .info srcCc k pause

/-- The modes and conditions in which the standby core tests itself (R451). -/
def Mode.testsStandby : Mode → Bool
  | .service | .degraded | .resync | .quiescent | .drain | .recovery => true
  | _ => false

-- @row STANDBY_SELFTEST_ROUND
/-- R379, R451: a round of the standby core ends; the third failure in a row takes the core out of service. -/
def execStandbySelftestRound (pass : Bool) (s : State) : Res := .next <|
  match s.cc.having .standby with
  | [] => s
  | k :: _ =>
    if ! s.mc.mode.testsStandby ∨ ! s.ccRuns then s
    else if pass then s.setCc { s.cc with rounds := min 0xFFFF (s.cc.rounds + 1), failRun := 0 }
    else
      let out := decide (3 ≤ s.cc.failRun + 1)
      let c := { s.cc with fails := min 0xFF (s.cc.fails + 1), failRun := if out then 0 else s.cc.failRun + 1 }
      let c := if out then c.setRole k .faulted else c
      let s := (s.setCc c).log 0x8003 .error srcCc k 2 (c.role k).code
      if out then s.log 0x8004 .error srcCc (if c.having .pair ≠ [] then 1 else 2) else s

-- @row CHECKPOINT
/-- R374, R386: a checkpoint; a forced switch-over starts here. -/
def execCheckpoint (s : State) : Res := .next <|
  if ! s.ccRuns then s
  else
    let s := s.setCc { s.cc with ckptAt := s.timeNs }
    if s.cc.force ∧ s.cc.having .standby ≠ [] then s.setCc { s.cc with gap := .switchover } else s

-- @row FORCE_SWITCH
/-- R386: GLB_CC_CTL.FORCE_SWITCH reads 1 until the switch-over is done; without a STANDBY core it is refused. -/
def execForceSwitch (who : Writer) (s : State) : Res := .next <|
  if s.cc.having .standby = [] then s.reject (RegName.offset .GLB_CC_CTL 0 0 0) 1 6 who
  else s.setCc { s.cc with force := true }

/-! ## The watchdog (R381 to R384) -/

/-- The watchdog counts: not in STANDBY or OFF, and not while the complex is halted. -/
def State.wdtRuns (s : State) : Bool := s.mc.mode != .off && s.mc.mode != .standby && s.cc.gap != .halted

/-- A flash pulse runs. -/
def State.flashPulse (s : State) : Bool := s.flash.ops.any fun o => o.suspended.isNone

/-- An expiry acts (R383, R384, R407), and the requests of the BMC in progress get no response: WDT_EXPIRE, a warm or cold restart, or the halt on the third within 600 s. `cause`: 1 timeout, 2
early kick. -/
def State.wdtAct (s : State) (cause : Nat) (ckptOk : Bool) : State :=
  let recent := (s.cc.expiries.filter fun t => decide (s.timeNs < t + 600 * 10 ^ 9)) ++ [s.timeNs]
  let gap : CcGap := if 3 ≤ recent.length then .halted else if ckptOk then .warm else .cold
  let s := s.setCc { s.cc with gap := gap, mismatch := none, testing := [], force := false, kickHalf := false, deferred := none
                               expiries := recent, expires := min 255 (s.cc.expires + 1), lastKick := s.timeNs }
  let s := { s with buffered := if gap == CcGap.halted then [] else s.buffered.filter fun h => ! h.1.managed }
  (s.log 0x8005 .critical srcWdt cause (match gap with | .warm => 1 | .cold => 2 | _ => 3)).countStart

/-- The watchdog expires (R382): while a flash pulse runs the expiry waits for its end. -/
def State.wdtExpire (s : State) (cause : Nat) (ckptOk : Bool) : State :=
  if ! s.wdtRuns ∨ s.cc.deferred.isSome then s
  else if s.flashPulse then s.setCc { s.cc with deferred := some (s.timeNs, cause, ckptOk) }
  else s.wdtAct cause ckptOk

/-- A deferred expiry acts once no pulse runs: WDT_DEFERRED (R382). -/
def State.wdtResume (s : State) : State :=
  match s.cc.deferred with
  | some (t, cause, ok) =>
    if s.flashPulse then s else (s.log 0x8006 .notice srcWdt ((s.timeNs - t) / 1000)).wdtAct cause ok
  | none => s

-- @row WDT_KICK
/-- R381: a write of GLB_WDT_KICK by the control complex. A kick in the closed window is an expiry. `ckptOk`: for that case, whether a
copy of the checkpoint passes its check. -/
def execWdtKick (key : BitVec 16) (ckptOk : Bool) (s : State) : Res := .next <|
  if ! s.ccRuns ∨ ! s.wdtRuns then s
  else if key = 0x5A5A#16 then s.setCc { s.cc with kickHalf := true }
  else if key = 0xA5A5#16 ∧ s.cc.kickHalf then
    let s := s.setCc { s.cc with kickHalf := false }
    let age := s.timeNs - s.cc.lastKick
    let period := s.fld GLB_WDT_CFG_PERIOD_MS * 10 ^ 6
    if age < period * s.fld GLB_WDT_CFG_WIN_PCT / 100 then s.wdtExpire 2 ckptOk
    else if age < period then s.setCc { s.cc with lastKick := s.timeNs } else s
  else s.setCc { s.cc with kickHalf := false }

-- @row WDT_EXPIRE
/-- R381 to R384: PERIOD_MS have passed without a valid kick. -/
def execWdtExpire (ckptOk : Bool) (s : State) : Res := .next (s.wdtExpire 1 ckptOk)

/-- What a cold restart loses (R329, R383): rings, handles and long operations but KEY_ROTATE and SANITIZE; mailbox commands in flight
complete with Internal Error. -/
def State.coldRestart (s : State) : State :=
  let keep (o : LongOp) : Bool := match o.kind with | .keyRotate _ _ | .sanitize _ => true | _ => false
  let gone := s.rings.ops.filter fun o => ! keep o
  let s := gone.foldl (fun s o => match o.src with
    | .mailbox p ld op => s.emit (.mailbox p ld op 0x0004 [])
    | _ => s) s
  let s := s.buffered.foldl (fun s h => match h.1 with
    | .mailbox p ld op => s.emit (.mailbox p ld op 0x0004 [])
    | _ => s) { s with buffered := [] }
  let ops := (s.rings.ops.filter keep).map fun (o : LongOp) => { o with src := .internal, suspendBy := [], cancelBy := [] }
  let s := { s with rings := { ring := [], ops := ops, opGens := s.rings.opGens, poolPeak := 0, sqTorn := [] }
                    per := { s.per with fences := [] } }
  let s := (s.tier.plans.filter Plan.started).foldl (fun s p => s.endPlan p .cancelled) s
  s.resumeSession s.clk.timeKnown

-- @row CC_RESTART_DONE
/-- R372, R383, R393, R407, R410, R411: a warm or cold restart finishes: the boot ROM completes every erase still marked, the roles are
filled from the cores that pass their self-test, and a trial image is chosen again. `badA`, `badB`: the
first of checks 1 to 6 of R399 that a slot's bundle fails. -/
def execCcRestartDone (coreA coreB coreS : Bool) (badA badB : Option (Fin 7)) (s : State) : Res := .next <|
  match s.cc.gap with
  | .warm | .cold =>
    let cold := s.cc.gap == .cold
    let was := s.flash.sess.st
    let s := { s with flash := { s.flash with ops := s.flash.ops.filter fun o => ! o.erase } }
    let s := s.completeErases
    let s := if cold then s.coldRestart else s
    let s := if was = .trial ∨ was = .activating ∨ was = .reverting then (s.selectImage (badA.map Fin.val) (badB.map Fin.val) 2).2 else s
    let (a, b, c) := coreRoles coreA coreB coreS
    let gap : CcGap := if coreA || coreB || coreS then .none else .dead
    s.setCc { s.cc with roleA := a, roleB := b, roleS := c, gap := gap, ckptAt := s.timeNs, lastKick := s.timeNs, failRun := 0 }
  | _ => s

end Sys2Proof.Machine
end

