-- ==== Sys2Proof/Machine/Flash.lean ====
section
/-!
DEFINITION. Flash operations and update sessions: the rows of chapter 16.
-/
namespace Sys2Proof.Machine

/-! ## Requests (R389 to R394) -/

/-- The controller answers a flash request: the status code (R389, R390, R394). -/
def State.flashAnswer (s : State) (st : Status) : State := s.emit (.flash st.code)

/-- A second program of a written word (R389): CONFLICT, FLS_REPROGRAM. -/
def State.reprogram (s : State) (off : Nat) : State :=
  ((s.bump FLS_REPROG_CNT_COUNT).log 0x803A .error srcFlash off).flashAnswer .conflict

/-- A request aimed at the caller's execution bank (R390). -/
def State.bankConflict (s : State) (bank : Nat) : State :=
  ((s.bump FLS_CONFLICT_CNT_COUNT).logLim 0x8039 bank .info srcFlash (bank, 1, 0, 0)).flashAnswer .bankConflict

/-- The first word of a program whose flag is set. -/
def State.writtenWord (s : State) (off n : Nat) : Option Nat :=
  ((List.range n).find? fun i => (s.flashWord (off / 32 + i)).isSome).map fun i => off + 32 * i

/-- Starts a request, or lets it wait while its bank is busy, while VDD_FLASH is low, or after a watchdog expiry (R382, R391, R392).
A program that finds a written word when it starts is refused. An erase marks its sectors first (R393). -/
def State.beginFlash (s : State) (o : FlashOp) : State :=
  let same (x : FlashOp) : Bool := x.bank == o.bank
  if s.flashLow ∨ s.cc.deferred.isSome ∨ s.flash.ops.any same ∨ s.flash.waiting.any same then
    { s with flash := { s.flash with waiting := s.flash.waiting ++ [o] } }
  else match (if o.erase then none else s.writtenWord o.off o.words.length) with
    | some w => s.reprogram w
    | none =>
      let s := if o.erase then s.mark o.off o.sectors true else s
      { s with flash := { s.flash with ops := s.flash.ops ++ [o] } }

/-- Waiting requests start in their order as far as they may. -/
def State.startFlash (s : State) : State :=
  s.flash.waiting.foldl State.beginFlash { s with flash := { s.flash with waiting := [] } }

/-- The modes in which configuration sectors may be changed (R394). -/
def State.configMode (s : State) : Bool := s.mc.mode == .boot || s.mc.mode == .maintenance || s.mc.mode == .recovery

/-- The sectors of an erase request, by their first bytes. -/
def sectorsOf (off : Nat) : Nat → List Nat
  | 0 => []
  | n + 1 => off :: sectorsOf (off + sectorBytes off) n

/-- Whether an erase of record homes is allowed (R394, R395): the boot ROM, MAINTENANCE and RECOVERY; a full journal area also for
firmware that runs from bank 0. -/
def State.mayErase (s : State) (off : Nat) : Bool :=
  let free := s.flash.execBank == 2 || s.mc.mode == .maintenance || s.mc.mode == .recovery
  if inRecords off then free
  else if inJournal off then free || (s.flash.execBank == 0 && s.freeWords (sectorStart off, 0x10000) == 0)
  else true

-- @row FLASH_PROGRAM
/-- R387 to R394: a program of code words from an offset, by the control complex. -/
def execFlashProgram (off : Nat) (words : List (BitVec 256)) (s : State) : Res := .next <|
  let n := words.length
  let last := off + 32 * n - 1
  if n = 0 ∨ off % 32 ≠ 0 ∨ flashBytes < off + 32 * n ∨ inGolden off ∨ inGolden last ∨ (off < 0x40000 ∧ 0x440000 ≤ last) then s.flashAnswer .invalid
  else if (inConfig off ∨ inConfig last) ∧ ! s.configMode then s.flashAnswer .notPermitted
  else if (inConfig off ∨ inConfig last) ∧ s.flash.execBank = 0 then
    ({ s with flash := { s.flash with staged := s.flash.staged ++ [(⟨false, off, words, 0⟩ : Staged)] } }).flashAnswer .ok
  else if flashBank off = s.flash.execBank ∨ flashBank last = s.flash.execBank then s.bankConflict s.flash.execBank
  else match s.writtenWord off n with
    | some w => s.reprogram w
    | none => (s.flashAnswer .ok).beginFlash ⟨flashBank off, false, off, words, 0, none, 0, false⟩

-- @row FLASH_ERASE
/-- R387 to R395: an erase of sectors from an offset, by the control complex. -/
def execFlashErase (off sectors : Nat) (s : State) : Res := .next <|
  let xs := sectorsOf off sectors
  if sectors = 0 ∨ off % sectorBytes off ≠ 0 ∨ flashBytes < off + sectorsBytes off sectors ∨ xs.any inGolden then s.flashAnswer .invalid
  else if xs.any inConfig ∧ ! s.configMode then s.flashAnswer .notPermitted
  else if xs.any inConfig ∧ s.flash.execBank = 0 then
    ({ s with flash := { s.flash with staged := s.flash.staged ++ [(⟨true, off, [], sectors⟩ : Staged)] } }).flashAnswer .ok
  else if xs.any fun x => flashBank x == s.flash.execBank then s.bankConflict s.flash.execBank
  else if ! xs.all s.mayErase then s.flashAnswer .notPermitted
  else (s.flashAnswer .ok).beginFlash ⟨flashBank off, true, off, [], sectors, none, 0, false⟩

/-- What one verified pulse leaves of an operation: 16 code words programmed, or eight sectors erased together (R389). -/
def State.pulse (s : State) (o : FlashOp) : State × Option FlashOp :=
  if o.erase then
    let n := min 8 o.sectors
    let s := (s.eraseRange o.off (sectorsBytes o.off n)).mark o.off o.sectors false
    let off := o.off + sectorsBytes o.off n
    if n = o.sectors then (s, none)
    else (s.mark off (o.sectors - n) true, some { o with off := off, sectors := o.sectors - n })
  else
    let now := o.words.take 16
    let s := ((List.range now.length).zip now).foldl (fun (s : State) (e : Nat × BitVec 256) => s.putFlash (o.off / 32 + e.1) ⟨false, e.2⟩) s
    if o.words.length ≤ 16 then (s, none) else (s, some { o with off := o.off + 512, words := o.words.drop 16 })

/-- Replaces the operation of a bank. -/
def State.setFlashOp (s : State) (o : FlashOp) (x : Option FlashOp) : State :=
  { s with flash := { s.flash with ops := (s.flash.ops.filter fun y => y.bank != o.bank) ++ x.toList } }

-- @row FLASH_PULSE_DONE
/-- R382, R389, R391 to R393: a pulse of a bank ends. A watchdog expiry that waited for it acts now; else the next operation of the bank
starts. -/
def execFlashPulseDone (bank : Fin 2) (how : PulseEnd) (s : State) : Res := .next <|
  match s.flash.ops.find? fun o => o.bank == bank.val && o.suspended.isNone with
  | none => s
  | some o =>
    let s := match how with
      | .again => s
      | .suspended => (s.bump FLS_SUSPEND_CNT_COUNT).setFlashOp o (some { o with suspended := some s.timeNs })
      | .pass => let (s, x) := s.pulse o; s.setFlashOp o x
    match s.cc.deferred with
    | none => s.startFlash
    | some (t, cause, ok) =>
      if s.flash.ops.any fun x => x.bank != bank.val && x.suspended.isNone then s
      else (s.log 0x8006 .notice srcWdt ((s.timeNs - t) / 1000)).wdtAct cause ok

-- @row FLASH_OP_RESUME
/-- R391: no read of the bank has arrived for 2 µs. -/
def execFlashOpResume (bank : Fin 2) (s : State) : Res := .next <|
  match s.flash.ops.find? fun o => o.bank == bank.val with
  | some o => match o.suspended with
    | some t => if s.flashLow ∨ s.cc.deferred.isSome then s
                else s.setFlashOp o (some { o with suspended := none, total := o.total + (s.timeNs - t) })
    | none => s
  | none => s

-- @row FLS_ERASE_STARVED
/-- R391: an erase has spent more than 10 s suspended. -/
def execFlsEraseStarved (bank : Fin 2) (s : State) : Res := .next <|
  match s.flash.ops.find? fun o => o.bank == bank.val && o.erase && ! o.starved with
  | some o =>
    let t := o.total + (o.suspended.map fun u => s.timeNs - u).getD 0
    (s.setFlashOp o (some { o with starved := true })).log 0x803C .notice srcFlash bank.val (t / 10 ^ 6)
  | none => s

-- @row FLS_BROWNOUT
/-- R392: VDD_FLASH falls below its brown-out level; requests wait. -/
def execFlsBrownout (s : State) : Res := .next <|
  if s.flash.brownout then s
  else ({ s with flash := { s.flash with brownout := true } }).log 0x803D .error srcFlash s.flash.waiting.length

-- @row RECORD_PORT_WRITE
/-- R395, R423: the record port takes the record that has waited longest. An event copy that finds no word is dropped; a session record
waits until its home has one. -/
def execRecordPortWrite (s : State) : Res := .next <|
  match s.portQueue with
  | [] => s
  | x :: t =>
    if s.flashLow then s
    else match x with
      | .evt r =>
        let (ok, s) := ({ s with portQueue := t }).portWrite false (codeWord (r.words.map BitVec.toNat))
        let put (y : LogRec) : LogRec := if y.seq = r.seq then { y with copied := true } else y
        if ok then { s with evt := { s.evt with recs := s.evt.recs.map put } } else s
      | .sess w => match s.portWrite true w with
        | (true, s') => { s' with portQueue := t }
        | (false, _) => s

/-! ## Sessions (R399 to R403) -/

-- @row SESSION_ERASE_DONE
/-- R401: the erase of the target slot ends; the session is OPEN. -/
def execSessionEraseDone (s : State) : Res := .next <|
  let x := s.flash.sess
  if x.st ≠ .erasing then s
  else
    let base := slotBase x.target
    let mine (o : FlashOp) : Bool := o.erase && decide (base ≤ o.off) && decide (o.off < base + slotBytes)
    let f := s.flash
    let f := { f with ops := f.ops.filter fun o => ! mine o
                      marked := f.marked.filter fun m => decide (m.1 < base) || decide (base + slotBytes ≤ m.1) }
    (({ s with flash := f }).eraseRange base slotBytes).openSession.askData.startFlash

/-- A message of update data to the twin (R403): from the offset the twin has confirmed, 32 KiB at most. -/
def State.offerBlock (s : State) : State :=
  let x := s.flash.sess
  let n := min 32768 (x.len - x.twinOff)
  if n = 0 ∨ ! s.twinUp then s
  else
    let ws := (List.range ((n + 3) / 4)).map fun i => s.bundle x.target (x.twinOff / 4 + i)
    s.queueCtrl ([0x0A, x.id.toNat, x.twinOff] ++ ws)

-- @row VERIFY_DONE
/-- R368, R399, R401, R403: verification ends. `ecdsa`, `mldsa`: a signature verifies; `badDigest`: the first component whose digest does not
match. A verified bundle is offered to the twin. An update of the BMC hears VerifyComplete, and ApplyComplete on success (R488). -/
def execVerifyDone (ecdsa mldsa : Bool) (badDigest : Option Nat) (s : State) : Res := .next <|
  let x := s.flash.sess
  let tell (s : State) (cmd : Nat) (words : List Nat) : State :=
    if x.source = 2 then s.emit (.mgmt s.mgmt.fwBus 0x01 cmd 0 words) else s
  if x.st ≠ .verifying then s
  else match s.verify x.target ecdsa mldsa badDigest with
    | some (check, comp) =>
      tell (cmd := 0x517) (words := [check]) <| ((s.setSess { x with st := .opened, blockAt := s.timeNs }).sigFail x.target (some check)).log 0x8032 .error srcFlash x.id.toNat check comp
    | none =>
      let t := x.target
      let offer := s.flag FLS_UPD_CTL_PUSH_TWIN && s.twinUp
      let s := (s.setSlot t ⟨2, 0, s.mfSvn t, s.mfLevel t, s.mfVer t⟩).setSess
        { x with st := .verified, twinTakes := if offer then 2 else 0, twinOff := 0 }
      let s := tell (tell (s.sessRecord 2 0 0) 0x517 [0]) 0x518 [0]
      if offer then s.offerBlock else s

/-- A register write of the session by a writer who does not own it (R413): the host while the BMC owns it, and the other way round. -/
def State.notOwner (s : State) (who : Writer) : Bool :=
  let x := s.flash.sess
  x.st != .idle && ((who == .host && x.source == 2) || (who == .bmc && x.source == 1))

-- @row ABORT
/-- R401, R413: FLS_UPD_CTL.ABORT ends an OPEN or VERIFIED session. -/
def execAbort (who : Writer) (s : State) : Res := .next <|
  let x := s.flash.sess
  if s.notOwner who then s.reject (RegName.offset .FLS_UPD_CTL 0 0 0) 2 6 who
  else if x.st = .opened ∨ x.st = .verified then s.abortSession 2 else s

-- @row SESSION_IDLE_TIMEOUT
/-- R401: no block has arrived for IDLE_S while OPEN. -/
def execSessionIdleTimeout (s : State) : Res := .next <|
  if s.flash.sess.st = .opened then s.abortSession 3 else s

/-- The status of an update message as the twin sees it: the session state, the confirmed offset and the status (R403). -/
def State.updStatus (s : State) (st : Status) : List Nat := [0x0B, s.flash.sess.st.code, s.flash.sess.off, st.code]

-- @row UPD_BLOCK
/-- R400 to R403: an update block arrives from a group member (1 twin, 2 to 5 stack position + 2). The block that reaches LENGTH ends
the transfer. -/
def execUpdBlock (member : Fin 6) (off : BitVec 32) (bytes : List Byte) (s : State) : Res := .next <|
  if bytes = [] ∨ 32768 < bytes.length then s.tellMembers [member.val] (s.updStatus .invalid)
  else
    let (st, s) := s.sourceBlock 3 off.toNat bytes
    let x := s.flash.sess
    let s := if st = .ok ∧ x.st = .opened ∧ x.len ≤ x.off then (s.endTransfer 3).2 else s
    s.tellMembers [member.val] (s.updStatus st)

-- @row UPD_STATUS
/-- R403: the twin reports its session state and its confirmed offset: while it takes the bundle, the next block follows. -/
def execUpdStatus (st off : Nat) (busy : Bool) (s : State) : Res := .next <|
  let x := s.flash.sess
  if x.st ≠ .verified ∨ x.twinTakes = 0 then s
  else if busy then s.setSess { x with twinTakes := 1 }
  else
    let s := s.setSess { x with twinTakes := 2, twinOff := min off x.len }
    if st = SessState.opened.code then s.offerBlock else s

-- @row TWIN_OFFER_RETRY
/-- R403: 10 s have passed; a twin that was BUSY is offered the bundle again. -/
def execTwinOfferRetry (s : State) : Res := .next <|
  if s.flash.sess.st ≠ .idle ∧ s.flash.sess.twinTakes = 1 then s.offerBlock else s

/-! ## Activation (R404, R405) -/

/-- Other members of the activation group of this controller: its twin when the link is UP, and the live members of its stack. The twin
of another member is reached through that member. -/
def State.groupMembers (s : State) : List Nat :=
  (if s.twinUp then [1] else []) ++
    (if s.inStack then ((List.range 4).filter fun k => s.stk.live.getLsbD k && k != s.pw.strapStackId.toNat).map (· + 2) else [])

/-- Two levels differ by at most one. -/
def levelsMeet (a b : Nat) : Bool := decide (a ≤ b + 1) && decide (b ≤ a + 1)

/-- STATE_FMT of every component of the bundle in the target slot equals the running one or exceeds it by one (R404). -/
def State.formatsMeet (s : State) : Bool :=
  let old := s.components s.flash.running
  (s.components s.flash.sess.target).all fun c => old.any fun d =>
    d.typ == c.typ && d.inst == c.inst && (c.fmt == d.fmt || c.fmt == d.fmt + 1)

/-- Every member has voted YES: SCHEDULED (R405). -/
def State.schedule (s : State) : State :=
  let x := s.flash.sess
  if x.st = .verified ∧ x.members.all x.yes.contains then
    let s := (s.setSess { x with st := .scheduled }).sessRecord 3 x.actTime (x.actTime / 2 ^ 32)
    s.log 0x8033 .notice srcFlash x.actTime (x.actTime / 2 ^ 32) (x.members.length + 1)
  else s

/-- A request for an activation in service (R404): `t` is the time the source gives, 0 for the present time plus LEAD_MS. A refusal
names the failing condition: no reason is listed for a member that is not the master, so that one is a free value. -/
def State.requestActivation (s : State) (t : Nat) : Status × State :=
  let x := s.flash.sess
  let t := if t = 0 then s.timeNs + s.fld FLS_UPD_TIMING_LEAD_MS * 10 ^ 6 else t
  let refuse (s : State) (why : Nat) : Status × State := (.notPermitted, s.actRefused 0 why)
  if x.st ≠ .verified then refuse s 1
  else if ! s.clk.tbLock ∨ t < s.timeNs + 10 ^ 8 ∨ s.timeNs + 24 * 3600 * 10 ^ 9 < t then refuse s 2
  else if s.mfVer s.flash.running < s.mfFloorBundle x.target then refuse s 3
  else if ! s.formatsMeet then refuse s 5
  else if s.inStack ∧ ! s.isMaster then let (n, s) := s.fresh; refuse s (n % 2 ^ 32)
  else
    let ms := s.groupMembers
    let s := s.setSess { x with actTime := t, members := ms, yes := [], proposer := true }
    let words := [0x0C, t % 2 ^ 32, t / 2 ^ 32 % 2 ^ 32, s.mfVer x.target, s.digest4 x.target, s.mfLevel x.target]
    (.ok, (s.tellMembers ms words).schedule)

/-- An offline activation makes the target slot the trial image of the next BOOT (R404). -/
def State.requestOffline (s : State) : Status × State :=
  let x := s.flash.sess
  if x.st = .verified then (.ok, s.setSess { x with offline := true }) else (.notPermitted, s.actRefused 0 1)

/-- The vote of this controller on a proposal: 0 YES, or the reason of its NO (R405). `floor`: FLOOR_PARTNER of the proposed bundle. -/
def State.voteOn (s : State) (ver level floor : Nat) : Nat :=
  let x := s.flash.sess
  let peer := s.twin.peerLevel.toNat
  let new := s.mfLevel x.target
  if x.st ≠ .verified then 1
  else if ! s.clk.tbLock then 2
  else if ver < s.mfFloorPartner x.target ∨ s.mfVer x.target < floor then 3
  else if s.twinUp ∧ ! (levelsMeet s.bttLevel peer && levelsMeet s.bttLevel level && levelsMeet new peer && levelsMeet new level) then 4
  else 0

-- @row ACT_PROPOSE
/-- R405: a proposal arrives from a group member. A member of a stack passes it on to its own twin. `floor`: FLOOR_PARTNER of the
proposed bundle. -/
def execActPropose (member : Fin 6) (t : Nat) (ver : Word) (level : Fin 16) (floor : Word) (s : State) : Res := .next <|
  let x := s.flash.sess
  let why := s.voteOn ver.toNat level.val floor.toNat
  if why ≠ 0 then s.tellMembers [member.val] [0x0D, 0, why]
  else
    let ms := if member.val = 1 then [1] else s.groupMembers
    let s := s.setSess { x with actTime := t, members := ms, yes := [member.val], proposer := false }
    let s := if member.val ≠ 1 ∧ ms.contains 1 then
      s.tellMembers [1] [0x0C, t % 2 ^ 32, t / 2 ^ 32 % 2 ^ 32, ver.toNat, s.digest4 x.target, level.val] else s
    (s.tellMembers (ms.filter fun m => m != 1 || member.val == 1) [0x0D, 1, 0]).schedule

/-- The group refuses: every other member hears it, and this one stays VERIFIED (R405). -/
def State.groupRefuses (s : State) (member reason : Nat) : State :=
  let x := s.flash.sess
  (s.tellMembers (x.members.filter fun m => m != member) [0x0D, 0, reason]).actRefused member reason

-- @row ACT_VOTE
/-- R405: a vote arrives. -/
def execActVote (member : Fin 6) (yes : Bool) (reason : Nat) (s : State) : Res := .next <|
  let x := s.flash.sess
  if ! x.members.contains member.val ∨ (x.st ≠ .verified ∧ x.st ≠ .scheduled) then s
  else if yes then (s.setSess { x with yes := if x.yes.contains member.val then x.yes else x.yes ++ [member.val] }).schedule
  else s.groupRefuses member.val reason

-- @row ACT_VOTE_DEADLINE
/-- R405: T − 50 ms is reached with a vote missing. -/
def execActVoteDeadline (s : State) : Res := .next <|
  let x := s.flash.sess
  if x.st ≠ .verified then s
  else match x.members.filter fun m => ! x.yes.contains m with
    | m :: _ => s.groupRefuses m 7
    | [] => s

-- @row ACTIVATION_TIME
/-- R406: the activation time is reached: the ACTIVATED record; the swaps follow. -/
def execActivationTime (s : State) : Res := .next <|
  let x := s.flash.sess
  if x.st = .scheduled ∧ ! x.waitTime then
    (s.setSess { x with st := .activating, actAt := s.timeNs, swapped := 0 }).sessRecord 4 0 0
  else s

/-! ## The swaps, trial and revert (R406 to R409) -/

/-- The component that swap k of an activation or a revert changes: TYPE and INSTANCE (R406). -/
def swapOrder (k : Nat) : Nat × Nat :=
  if k = 0 then (5, 0) else if k = 1 then (4, 0) else if k < 34 then (3, k - 2) else if k < 50 then (2, k - 34) else (1, 0)

/-- The level of the BTT engine in force changes (R233, R409): a REFUSED link is tried again, and a link that is UP with a partner more
than one level away is REFUSED. -/
def State.setBttLevel (s : State) (n : Nat) : State :=
  if s.flash.bttLevel = n then s
  else
    let s := { s with flash := { s.flash with bttLevel := n } }
    if s.twin.link = .refused then s.setTwinState .absent 5
    else if s.twinUp ∧ ! levelsMeet n s.twin.peerLevel.toNat then
      (s.log 0x300A .error srcTwin n s.twin.peerLevel.toNat).leaveUp .refused 5
    else s

-- @row UPD_COMPONENT_SWAP
/-- R406, R407, R409: the next component reaches its idle boundary and is swapped. `stop`: how long it stopped, in ns. `ok`: a new
control image passes its own start checks. No swap begins in SAVE. -/
def execUpdComponentSwap (stop : Nat) (ok : Bool) (s : State) : Res := .next <|
  let x := s.flash.sess
  if (x.st ≠ .activating ∧ x.st ≠ .reverting) ∨ 51 ≤ x.swapped ∨ s.mc.mode = .save then s
  else
    let to_ := if x.st = .activating then x.target else s.flash.running
    let (typ, inst) := swapOrder x.swapped
    let s := (s.setSess { x with swapped := x.swapped + 1 }).log 0x8035 .info srcFlash (typ + 256 * inst) stop
    if typ = 4 then s.setBttLevel (s.mfLevel to_)
    else if typ ≠ 1 then s
    else if x.st = .activating then (if ok then s.startTrial 1 else s.revert 3)
    else { s with flash := { s.flash with execBank := slotBank to_ } }

-- @row CONFIRM
/-- R408, R413: FLS_UPD_CTL.CONFIRM. -/
def execConfirm (who : Writer) (s : State) : Res := .next <|
  if s.notOwner who then s.reject (RegName.offset .FLS_UPD_CTL 0 0 0) 1 6 who
  else if s.flash.sess.st = .trial then s.confirm else s

/-- A trial that is healthy is confirmed once every reachable member has reported health, with AUTO_CONFIRM (R408). -/
def State.autoConfirm (s : State) : State :=
  let x := s.flash.sess
  let reach := x.members.filter fun m => s.groupMembers.contains m
  if x.st = .trial ∧ x.sentHealthy ∧ s.flag FLS_UPD_CTL_AUTO_CONFIRM ∧ reach.all x.healthy.contains then s.confirm else s

-- @row TRIAL_S_ELAPSED
/-- R408: the trial image has run TRIAL_S from its latest start without an expiry and with every component ready. -/
def execTrialSElapsed (s : State) : Res := .next <|
  let x := s.flash.sess
  if x.st ≠ .trial ∨ x.sentHealthy then s
  else ((s.setSess { x with sentHealthy := true }).tellMembers x.members [0x0E, x.id.toNat, 1]).autoConfirm

-- @row ACT_OUTCOME
/-- R408, R409: a group member reports an outcome. A member that has confirmed does not revert. -/
def execActOutcome (member : Fin 6) (what : TrialOutcome) (s : State) : Res := .next <|
  let x := s.flash.sess
  if ! x.members.contains member.val then s
  else match what with
    | .reverted => if x.st = .trial ∨ x.st = .activating then s.revert 5 else s
    | _ => (s.setSess { x with healthy := if x.healthy.contains member.val then x.healthy else x.healthy ++ [member.val] }).autoConfirm

-- @row REVERT
/-- R409, R413: FLS_UPD_CTL.REVERT. -/
def execRevert (who : Writer) (s : State) : Res := .next <|
  let x := s.flash.sess
  if s.notOwner who then s.reject (RegName.offset .FLS_UPD_CTL 0 0 0) 4 6 who
  else if x.st = .trial ∨ x.st = .activating then s.revert 1 else s

-- @row CONFIRM_S_EXPIRY
/-- R409, R411: CONFIRM_S has passed from the activation time without confirmation, or from BOOT while a scheduled session still waits for
the device time. -/
def execConfirmSExpiry (s : State) : Res := .next <|
  let x := s.flash.sess
  if x.st = .trial ∨ x.st = .activating then s.revert 2
  else if x.st = .scheduled ∧ x.waitTime then (s.setSess { x with waitTime := false }).actRefused 0 6
  else s

-- @row REVERT_DONE
/-- R401: the previous bundle runs again; the session ends. -/
def execRevertDone (s : State) : Res := .next <|
  if s.flash.sess.st = .reverting then s.endSession 4 else s

end Sys2Proof.Machine
end

