-- ==== Sys2Proof/Machine/Events.lean ====
section
/-!
DEFINITION. The event log, the error registers and the carriageway level of the ladder: the rows of chapter 17; and slot-table commits
(chapter 13).
-/
namespace Sys2Proof.Machine

/-! ## The log (R419 to R421, R425) -/

-- @row EVT_ACK
/-- R419: every CRITICAL record at or before a sequence number is acknowledged. -/
def execEvtAck (seq : BitVec 32) (s : State) : Res := .next <|
  let one (r : LogRec) : LogRec := if r.sev = .critical ∧ serialGe seq r.seq then { r with acked := true } else r
  { s with evt := { s.evt with recs := s.evt.recs.map one } }

-- @row EVENT_LIMIT_INTERVAL_END
/-- R420: the interval of a limiter ends: one record with SUMMARY, with the time of the first occurrence. -/
def execEventLimitIntervalEnd (code : BitVec 16) (key : Nat) (s : State) : Res := .next <|
  let same (l : Limiter) : Bool := l.code == code.toNat && l.key == key
  match s.evt.limiters.find? same with
  | none => s
  | some l =>
    let s := { s with evt := { s.evt with limiters := s.evt.limiters.filter fun x => ! same x } }
    s.place (s.mkRec l.code l.sev l.source l.start true l.w4 l.w5 l.w6 l.w7)

-- @row CFG_REJECT_WINDOW_END
/-- R421: a window of rejections closes; those folded give one record with SUMMARY. -/
def execCfgRejectWindowEnd (s : State) : Res := .next <|
  match s.evt.rejects with
  | none => s
  | some w =>
    let s := { s with evt := { s.evt with rejects := none } }
    match w.folded with
    | none => s
    | some (t, off, val, w6, detail) =>
      s.place (s.mkRec 0x8043 .notice srcReg t true off val w6 (detail + 2 ^ 16 * min 0xFFFF (w.count - 100)))

-- @row EVT_SLOT_CHECK_FAIL
/-- R425: a word of a slot fails its check; the slot is emptied. -/
def execEvtSlotCheckFail (slot : Fin 8192) (s : State) : Res := .next <|
  ({ s with evt := { s.evt with recs := s.evt.recs.filter fun r => r.slot != slot.val } }).bump EVT_COUNT_SLOT_ERR

-- @row ERR_CLEAR
/-- R426: CLR of an error register clears FIRST, MULTI and COUNT. -/
def execErrClear (reg : ErrReg) (s : State) : Res := .next <|
  match reg with
  | .ch n => ((s.setFld CH_ERR_FIRST 0 n.val).setFld CH_ERR_MULTI 0 n.val).setFld CH_ERR_COUNT 0 n.val
  | .nf n => ((s.setFld NF_ERR_FIRST 0 n.val).setFld NF_ERR_MULTI 0 n.val).setFld NF_ERR_COUNT 0 n.val
  | .cw c => ((s.setFld EVT_CW_ERR_FIRST 0 c.val).setFld EVT_CW_ERR_MULTI 0 c.val).setFld EVT_CW_ERR_COUNT 0 c.val

/-! ## The carriageway level (R429 to R431) -/

/-- Notes an error of a carriageway in EVT_CW_ERR (R435). -/
def State.cwErr (s : State) (c code : Nat) : State := s.noteErr EVT_CW_ERR_FIRST EVT_CW_ERR_MULTI EVT_CW_ERR_COUNT c code

/-- A junction link. -/
def State.jctLink (s : State) (k : Nat) : JctLink := Sparse.get (fun _ => JctLink.reset) s.jct k

/-- Replaces a junction link. -/
def State.setJct (s : State) (k : Nat) (x : JctLink) : State := { s with jct := Sparse.set (fun _ => JctLink.reset) s.jct k x }

-- @row JUNCTION_ERROR
/-- R429: a path of a junction link detects an error and asks for a replay; the third within 10 µs starts a retraining, at most once
in 100 µs. EVT_CW_ERR and the events belong to the carriageway links, 0 to 3. -/
def execJunctionError (link : Fin 8) (s : State) : Res := .next <|
  let x := s.jctLink link.val
  if x.training then s
  else
    let cw := decide (link.val < 4)
    let errs := (x.errs.filter fun t => decide (s.timeNs < t + 10000)) ++ [s.timeNs]
    let s := if cw then s.cwErr link.val 1 else s
    let may : Bool := match x.trainAt with | some t => decide (t + 100000 ≤ s.timeNs) | none => true
    if 3 ≤ errs.length ∧ may then
      let s := s.setJct link.val { x with errs := [], training := true, trainAt := some s.timeNs, restarts := 0 }
      if cw then s.cwErr link.val 2 else s
    else s.setJct link.val { x with errs := errs }

-- @row JCT_RETRAIN_DONE
/-- R427, R429: a retraining ends; a detected error in its check restarts it at most twice. `spares0`, `spares1`: spare wires in use on
each path. -/
def execJctRetrainDone (link : Fin 8) (errored : Bool) (spares0 spares1 : Fin 3) (s : State) : Res := .next <|
  let x := s.jctLink link.val
  if ! x.training then s
  else if errored ∧ x.restarts < 2 then s.setJct link.val { x with restarts := x.restarts + 1 }
  else
    let c := link.val
    let s := s.setJct c { x with training := false, spares0 := spares0.val, spares1 := spares1.val }
    if 4 ≤ c then s
    else
      let s := s.log 0x8048 .notice (srcJct c) c (s.timeNs - (x.trainAt.getD s.timeNs)) (spares0.val + spares1.val)
      let low (s : State) (path was now : Nat) : State :=
        if now = 2 ∧ was ≠ 2 then (s.cwErr c 3).log 0x8049 .error (srcJct c) c path else s
      low (low s 0 x.spares0 spares0.val) 1 x.spares1 spares1.val

-- @row TAGQ_INVALIDATE
/-- R430: a tag-cache set of a quarter fails its check; its lookups take the miss path of the tag store, which holds every entry. -/
def execTagqInvalidate (quarter : CwId) (s : State) : Res := .next <|
  (s.cwErr quarter.val 4).logLim 0x6031 quarter.val .notice (srcTier quarter.val) (quarter.val, 1, 0, 0)

-- @row TIER_ENGINE_FAULT
/-- R431: a tier engine abandons the operations it holds and restarts each from its first step, with its start time. -/
def execTierEngineFault (cw : CwId) (s : State) : Res := .next <|
  let c := cw.val
  let first (f : Fill) : Fill :=
    if s.tierSrc (4096 * f.page) = srcTier c then
      { f with tried := [], step := match s.fillLoc f with | some l => (s.block l.ch l.die l.block).step | none => 1 }
    else f
  let recent := (s.tier.restarts.filter fun e => decide (s.timeNs < e.2 + 60 * 10 ^ 9)) ++ [(c, s.timeNs)]
  let n := recent.countP fun e => e.1 == c
  let s := ({ s with tier := { s.tier with fills := s.tier.fills.map first, restarts := recent } }).cwErr c 5
  if 3 ≤ n then (s.cwErr c 6).log 0x6030 .critical (srcTier c) c n else s

/-! ## Slot tables (R344, R345) -/

/-- The owners a table of eight words gives its 64 slots (R341). -/
def tableOwners (t : List Word) : List Nat := (List.range 64).map (slotOwner t)

/-- COMMIT of a carriageway reads 1: a channel that is ACTIVE or EVACUATING has still to swap (R345). -/
def State.arbBusy (s : State) (cw : Nat) : Bool :=
  s.arb.oldTable.any fun e => e.1 / 4 == cw && ((s.ch e.1).st == .active || (s.ch e.1).st == .evacuating)

-- @row ARB_COMMIT
/-- R342, R344, R345: ARB_CTL.COMMIT checks the shadow of a carriageway and takes it as its active table, to which every channel swaps at
its next frame boundary. -/
def execArbCommit (cw : CwId) (who : Writer) (s : State) : Res := .next <|
  let c := cw.val
  let shadow := (List.range 8).map fun w => s.regAt .ARB_SHADOW c 0 w
  let owners := tableOwners shadow
  let shares := owners.countP (· == 0xB)
  if s.arbBusy c then s
  else if owners.contains 0xF ∨ shares < 8 then
    (s.setFld ARB_CTL_REFUSED 1 c).reject (RegName.offset .ARB_CTL c 0 0) 1 5 who
  else
    let old := ((List.range 4).map (4 * c + ·)).map fun n => (n, s.slotTable n)
    let s := { s with arb := { s.arb with oldTable := (s.arb.oldTable.filter fun e => e.1 / 4 != c) ++ old } }
    let s := ((List.range 8).zip shadow).foldl (fun (s : State) (e : Nat × Word) => s.setRegAt .ARB_ACTIVE c 0 e.1 e.2) s
    let s := (s.setFld ARB_CTL_REFUSED 0 c).setFld ARB_STAT_SEQ ((s.fld ARB_STAT_SEQ c + 1) % 2 ^ 16) c
    s.log 0x1020 .info (srcTier c) c (s.fld ARB_STAT_SEQ c) shares

-- @row SLOT_TABLE_SWAP
/-- R344: a channel reaches a frame boundary and applies the active table. -/
def execSlotTableSwap (ch : ChId) (s : State) : Res := .next <|
  match (s.ch ch.val).st with
  | .active | .evacuating => { s with arb := { s.arb with oldTable := s.arb.oldTable.filter fun e => e.1 != ch.val } }
  | _ => s

end Sys2Proof.Machine
end

