-- ==== Sys2Proof/Machine/Secure.lean ====
section
/-!
DEFINITION. Keys, rotation, unlock, alarms, entropy and attestation: the rows of chapter 14 but those of the link ciphers.
-/
namespace Sys2Proof.Machine

/-! ## KEY_LOAD (R353, R354) -/

/-- A slot takes a state; GEN increments at every change of state (R352). -/
def KeySlot.to (x : KeySlot) (st : KeyState) : KeySlot := { x with st := st, gen := if x.st = st then x.gen else x.gen + 1 }

/-- The clear header of a wrapped key is right (R353). -/
def WrappedKey.headerOk (k : WrappedKey) : Bool :=
  k.magic == 0x4B455931#32 && k.format == 1#8 && k.kind == 1#8 && k.pad == 0#16

/-- The checks of KEY_LOAD that come before the unwrap (R353); `then_` is done when they pass. -/
def State.keyLoadChecks (s : State) (d : Desc) (bad : Bool) (then_ : State → State) : State :=
  if bad then s.complete d.src .invalid
  else if s.sec.store ≠ .unlocked then s.complete d.src .notPermitted
  else if s.keyRefs (d.bits 2 11 0) ≠ 0 then s.complete d.src .conflict
  else then_ s

/-- KEY_LOAD of length 0 destroys the working key and the stored copy (R353). -/
def State.eraseKey (s : State) (d : Desc) : State :=
  s.keyLoadChecks d false fun s =>
    let k := d.bits 2 11 0
    let x := { (s.keySlot k).to .empty with key1 := 0, key2 := 0, stored := none }
    ((s.setKeySlot k x).log 0x7002 .info srcSec k x.gen.toNat).complete d.src .ok

-- @row KEY_LOAD
/-- R352 to R354: KEY_LOAD reads a wrapped key of 124 bytes: `key` is what stands at its host address. The slot is LOADED and its stored
copy durable. -/
def execKeyLoad (d : Desc) (key : WrappedKey) (s : State) : Res := .next <| s.take d 4 false false fun s =>
  let k := d.bits 2 11 0
  let len := (d.word 6).toNat
  if len = 0 then s.eraseKey d
  else s.keyLoadChecks d (len != 124 || ! key.headerOk || key.slot.toNat != k) fun s =>
    match key.opened with
    | some (true, k1, k2) =>
      let x := { (s.keySlot k).to .loaded with key1 := k1, key2 := k2, stored := some (k1, k2) }
      ((s.setKeySlot k x).log 0x7001 .info srcSec k x.gen.toNat).complete d.src .ok
    | _ => s.complete d.src .dataError

-- @row KEY_LOAD_ERASE
/-- R353: KEY_LOAD of length 0 erases the slot; any other length here has no key to read and is INVALID. -/
def execKeyLoadErase (d : Desc) (s : State) : Res := .next <| s.take d 4 false false fun s =>
  if d.word 6 = 0 then s.eraseKey d else s.complete d.src .invalid

/-! ## Rotation (R356, R357) -/

-- @row KEY_ROTATE
/-- R352, R356: KEY_ROTATE re-encrypts a region under a new slot in steps of 2 MiB. -/
def execKeyRotate (d : Desc) (s : State) : Res := .next <| s.take d 4 false true fun s =>
  let i := d.rgnIdx
  let r := s.region i
  let new := d.bits 3 11 0
  if ! r.valid then s.complete d.src .invalid
  else if ! s.keyLoaded new then (s.keyAbsent none r.start new).complete d.src .keyAbsent
  else if 16 ≤ s.sec.rotations.length then s.complete d.src .busy
  else if new = r.key.toNat then s.complete d.src .invalid
  else if (s.rotationOf i).isSome then s.complete d.src .conflict
  else
    let t : Rotation := ⟨i, r.key.toNat, new, 0, [], 0, s.nextOpSlot, false⟩
    ({ s with sec := { s.sec with rotations := s.sec.rotations ++ [t] } }).startOp (.keyRotate i new) d.src (some r.size.toNat)

/-- Replaces the rotation of a region. -/
def State.setRotation (s : State) (t : Rotation) : State :=
  { s with sec := { s.sec with rotations := s.sec.rotations.map fun x => if x.region = t.region then t else x } }

/-- A page of the current step is re-encrypted: its lines in DRAM in place, and its home, unless the page is DIRTY or WRITING_BACK and
will be programmed anyway (R356). The answer counts the lines. -/
def State.rotatePage (s : State) (t : Rotation) (k : Nat) : Nat × State :=
  let pg := s.page k
  let dirty := pg.st == .dirty || pg.st == .writingBack
  let inDram := pg.st != .invalid
  let home := (s.nand.map.any fun e => e.1 == k) && ! s.trimmed k
  let skip := (pageLines k).countP fun l => t.mask.contains (l % 2 ^ 15)
  let n := if inDram || home then 64 - skip else 0
  if home && ! dirty then
    match s.allocHome k with
    | some (loc, s') => (n, (s'.programHome k ((pageLines k).map s.homeLine) loc).countPrograms 0 1)
    | none => (n, s)
  else (n, s)

/-- One step of a rotation ends (R356): it waits for the write-backs in its range and for both keys; CURSOR is durable at its end. -/
def State.rotateStep (s : State) (o : LongOp) (i : Nat) : State :=
  match s.rotationOf i with
  | none => s
  | some t =>
    let r := s.region i
    let base := (r.base.toNat + t.cursor) * 512
    let inStep (k : Nat) : Bool := decide (base ≤ k) && decide (k < base + 512)
    if r.size.toNat ≤ t.cursor ∨ t.waiting ∨ ! s.keysLoaded i r ∨ (s.tier.wbs.any fun w => inStep w.page) then s
    else
      let pages := ((s.tier.pages.filter fun e => inStep e.1).map Prod.fst ++
        (s.nand.map.filter fun e => inStep e.1 && ! s.tier.pages.any fun p => p.1 == e.1).map Prod.fst)
      let (n, s) := pages.foldl (fun (a : Nat × State) k => let (m, s) := a.2.rotatePage t k; (a.1 + m, s)) (0, s)
      (s.setRotation { t with cursor := t.cursor + 1, mask := [], lines := t.lines + n }).setOp { o with done := t.cursor + 1 }

/-- A pending save image holds pages of a region. -/
def State.inImages (s : State) (r : Region) : Bool :=
  let mine (k : Nat) : Bool := decide (r.page0 ≤ k) && decide (k < r.page0 + r.pageCount)
  ([false, true].any fun b => (s.image b).st == .pending && ((s.image b).pages.any mine || (s.image b).recs.any fun e => mine (e.1 / 64)))

-- @row ROTATE_DONE
/-- R357: the last step ends and KEY_INDEX becomes the new slot at one commit edge; the old slot stays referenced until no pending save
image holds pages of the region, and then the operation ends. -/
def execRotateDone (region : Fin 4096) (s : State) : Res := .next <|
  let i := region.val
  match s.rotationOf i with
  | none => s
  | some t =>
    let r := s.region i
    if t.cursor < r.size.toNat then s
    else
      let s := if t.waiting then s
        else (s.setRotation { t with waiting := true }).commit ⟨[(i, { r with key := BitVec.ofNat 12 t.new })], [], []⟩
      if s.inImages (s.region i) then s
      else
        let s := { s with sec := { s.sec with rotations := s.sec.rotations.filter fun x => x.region != i } }
        let s := s.log 0x7004 .notice srcSec i t.old t.new
        match s.rings.ops.find? fun o => match o.kind with | .keyRotate j _ => j == i | _ => false with
        | some o => s.endOp o .ok t.lines
        | none => s

/-! ## Unlock (R358 to R361) -/

/-- The number of a transport in an event. -/
def SpdmTransport.code : SpdmTransport → Nat | .doe => 1 | .mctp => 2 | .twin => 3

/-- Answers an SPDM request. -/
def State.spdm (s : State) (t : SpdmTransport) (cmd : Nat) (ok : Bool) (payload : List Nat := []) : State := s.emit (.spdm t.code cmd ok payload)

/-- A SET_HKEK is taken now: the session has passed mutual authentication, no hour of refusals runs, and no alarm is latched (R359,
R360). -/
def State.hkekTaken (s : State) (auth : Bool) : Bool := auth && decide (s.sec.refusedUntil ≤ s.timeNs) && s.sec.store != .hold

/-- Loads every stored copy into its slot (R360), and counts them. -/
def State.loadStored (s : State) : Nat × State :=
  let one (e : Nat × KeySlot) : Nat × KeySlot := match e.2.stored with
    | some (a, b) => (e.1, { e.2.to .loaded with key1 := a, key2 := b })
    | none => e
  (s.sec.slots.countP fun e => e.2.stored.isSome, { s with sec := { s.sec with slots := s.sec.slots.map one } })

/-- A mismatch (R360): UNLOCK_FAIL; the fifth within one hour has further requests refused for one hour. -/
def State.unlockFail (s : State) : State :=
  let hour := 3600 * 10 ^ 9
  let ms := (s.sec.mismatches.filter fun t => decide (s.timeNs < t + hour)) ++ [s.timeNs]
  ({ s with sec := { s.sec with mismatches := ms
                                refusedUntil := if 5 ≤ ms.length then s.timeNs + hour else s.sec.refusedUntil } }).log
    0x7012 .error srcSec ms.length

-- @row SET_HKEK
/-- R359, R360: SET_HKEK sets the first HKEK, or unlocks the store when it matches the check value. `auth`: the session's requester has
passed mutual authentication against the key-manager root. -/
def execSetHkek (t : SpdmTransport) (hkek : BitVec 256) (auth : Bool) (s : State) : Res :=
  .next <| s.request (.spdm t.code) (.setHkek t hkek auth) fun s =>
  if ! s.hkekTaken auth then s.spdm t 3 false
  else match s.sec.check with
    | none =>
      let s := { s with sec := { s.sec with check := some (checkValue hkek), swk := some (storeKey hkek) } }
      (s.setStore .unlocked).spdm t 3 true
    | some c =>
      if c ≠ checkValue hkek then s.unlockFail.spdm t 3 false
      else if s.sec.store = .unlocked then s.spdm t 3 true
      else
        let (n, s) := s.loadStored
        let s := ({ s with sec := { s.sec with swk := some (storeKey hkek) } }).setStore .unlocked
        (s.log 0x7011 .notice srcSec n t.code).spdm t 3 true

-- @row SET_HKEK_REPLACE
/-- R360: REPLACE is taken only while the store is UNLOCKED; every stored copy is wrapped again under the new key. -/
def execSetHkekReplace (t : SpdmTransport) (hkek : BitVec 256) (auth : Bool) (s : State) : Res :=
  .next <| s.request (.spdm t.code) (.setHkekReplace t hkek auth) fun s =>
  if ! s.hkekTaken auth ∨ s.sec.store ≠ .unlocked then s.spdm t 3 false
  else ({ s with sec := { s.sec with check := some (checkValue hkek), swk := some (storeKey hkek) } }).spdm t 3 true

/-! ## Alarms (R365, R366) -/

/-- The working keys, swk and every link and session key are overwritten (R365, R461); the store takes a state. -/
def State.zeroise (s : State) (st : StoreState) : State :=
  let s := s.lockStore st
  let s := { s with sec := { s.sec with doeSessions := 0, mctpSessions := 0, twinSessions := 0, keyManager := false }
                    twin := { s.twin with session := false, rekeying := false } }
  let s := (List.range 32).foldl (fun (s : State) k =>
    let x := s.linkAt (k / 4) (k % 4)
    if x.ide = 1 then (s.setLink (k / 4) (k % 4) { x with ide := 2 }).log 0x4007 .error (srcPort (k / 4)) (k / 4 + 16 * (k % 4)) 0 else s) s
  if s.twin.link = .up ∨ s.twin.link = .stopped then
    let (n, s) := s.fresh
    s.leaveUp .absent (n % 2 ^ 32)
  else s

-- @row ALARM_ZEROISE
/-- R365: an alarm source trips (0 voltage, 1 clock, 2 temperature, 3 mesh, armed by MESH_EN). `writes`: lines of writes inside the XTS
pipes, which are stored poisoned; `reads`: reads inside them. -/
def execAlarmZeroise (source : Fin 4) (writes : List Nat) (reads : Nat) (s : State) : Res := .next <|
  if source.val = 3 ∧ ! s.flag SEC_CTL_MESH_EN then s
  else
    let bit := BitVec.twoPow 4 source.val
    let n := s.sec.slots.countP fun e => e.2.st == .loaded
    let alarms := if s.sec.alarms = 0xFFFF#16 then s.sec.alarms else s.sec.alarms + 1
    let s := { s with sec := { s.sec with latched := s.sec.latched ||| bit, active := s.sec.active ||| bit, alarms := alarms } }
    let s := s.zeroise .hold
    let s := writes.foldl (fun s l => match s.regionOf (64 * l) with
      | some (i, _) => (s.setLine l poisonLine 2).markDamaged i
      | none => s) s
    s.log 0x7010 .critical srcSec s.sec.latched.toNat n (writes.length + reads)

-- @row ALARM_CLEAR
/-- R364, R366: a write of SEC_ALARM. A bit clears when its condition has been absent for 100 ms (`absent`); with every bit clear the
store leaves HOLD, and the DRBG reseeds. -/
def execAlarmClear (bits absent : BitVec 4) (s : State) : Res := .next <|
  let latched := s.sec.latched &&& ~~~(bits &&& absent)
  let was := s.sec.latched
  let s := { s with sec := { s.sec with latched := latched, active := s.sec.active &&& ~~~absent } }
  let s := if latched ≠ was then { s with sec := { s.sec with reseeds := s.sec.reseeds + 1 } } else s
  if latched = 0 ∧ s.sec.store = .hold then s.setStore (if s.sec.check.isSome then .locked else .unprovisioned) else s

/-! ## Entropy (R364) -/

-- @row ENTROPY_FAIL
/-- R364: a health test fails: 1 repetition count, 2 adaptive proportion. -/
def execEntropyFail (test : Fin 3) (s : State) : Res := .next <|
  if s.sec.entropyOk then ({ s with sec := { s.sec with entropyOk := false } }).log 0x7020 .critical srcSec test.val else s

-- @row MASK_DEGRADED
/-- R364: 2^16 blocks after a failure, the masks of datapaths come from the LFSR. -/
def execMaskDegraded (paths : Nat) (s : State) : Res := .next <|
  if s.sec.entropyOk ∨ s.sec.maskDegraded then s
  else ({ s with sec := { s.sec with maskDegraded := true } }).log 0x7021 .error srcSec paths

-- @row ENTROPY_RECOVER
/-- R364: 1,024 passing samples and a reseed clear the failure; the first ones after power-on also start the source. -/
def execEntropyRecover (s : State) : Res := .next <|
  { s with sec := { s.sec with entropyOk := true, maskDegraded := false, reseeds := s.sec.reseeds + 1 } }

-- @row DRBG_RESEED
/-- R364: the DRBG reseeds after 2^20 requests, from a source that passes its tests. -/
def execDrbgReseed (s : State) : Res := .next <|
  if s.sec.entropyOk then { s with sec := { s.sec with reseeds := s.sec.reseeds + 1 } } else s

/-! ## Attestation (R369) -/

/-- The slot whose component of a TYPE runs now: a session that has swapped it runs the target's (R369, R406). -/
def State.runsFrom (s : State) (typ inst : Nat) : Nat :=
  let x := s.flash.sess
  let order := ((List.range 51).find? fun k => swapOrder k == (typ, inst)).getD 51
  let new := match x.st with
    | .trial => true
    | .activating => decide (order < x.swapped)
    | .reverting => decide (x.swapped ≤ order)
    | _ => false
  if new then x.target else s.flash.running

/-- The digest words of every running component of a TYPE (R398). -/
def State.componentDigests (s : State) (typ n : Nat) : List Nat :=
  (List.range n).flatMap fun inst =>
    let slot := s.runsFrom typ inst
    match (List.range 51).find? fun i => (s.component slot i).typ == typ && (s.component slot i).inst == inst with
    | some i => (List.range 12).map fun k => s.bundle slot (20 + 16 * i + k)
    | none => []

/-- The measurement with an index (R369): the content it is taken of. -/
def State.measurement (s : State) : Nat → List Nat
  | 1 => [s.fld GLB_REV_ROM_REV]
  | 2 => s.componentDigests 1 1
  | 3 => [s.digest4 (s.runsFrom 1 0)]
  | 4 => s.componentDigests 2 16
  | 5 => s.componentDigests 3 32
  | 6 => s.componentDigests 4 1
  | 7 => s.componentDigests 5 1
  | 8 => [s.fld GLB_LOCK_LOCK, s.fld SEC_CTL_LOCK_ON_BOOT, s.fld SEC_CTL_MESH_EN, s.flash.fusedSvn]
  | _ => []

-- @row SPDM_GET_MEASUREMENTS
/-- R369: the signed measurements. `auth`: false when the session's mutual authentication fails. -/
def execSpdmGetMeasurements (t : SpdmTransport) (index : Fin 9) (auth : Bool) (s : State) : Res :=
  .next <| s.request (.spdm t.code) (.spdmGetMeasurements t index auth) fun s =>
  if auth then s.spdm t 1 true (s.measurement index.val)
  else (s.log 0x7041 .notice srcSec t.code).spdm t 1 false

/-- Sessions open on a transport, and the most it holds (R369). -/
def State.spdmSessions (s : State) : SpdmTransport → Nat × Nat
  | .doe => (s.sec.doeSessions, 4)
  | .mctp => (s.sec.mctpSessions, 2)
  | .twin => (s.sec.twinSessions, 2)

-- @row SPDM_KEY_EXCHANGE
/-- R362, R364, R369: a session is established; none without entropy or beyond the transport's share. `auth`: mutual authentication
passes where it is required; `keyManager`: against the key-manager root. A twin session starts the link keys one EPOCH above the last
one used. -/
def execSpdmKeyExchange (t : SpdmTransport) (auth keyManager : Bool) (s : State) : Res :=
  .next <| s.request (.spdm t.code) (.spdmKeyExchange t auth keyManager) fun s =>
  let (n, most) := s.spdmSessions t
  if ! s.sec.entropyOk ∨ most ≤ n then s.spdm t 2 false
  else if ! auth then (s.log 0x7041 .notice srcSec t.code).spdm t 2 false
  else
    let s := match t with
      | .doe => { s with sec := { s.sec with doeSessions := n + 1, keyManager := s.sec.keyManager || keyManager } }
      | .mctp => { s with sec := { s.sec with mctpSessions := n + 1, keyManager := s.sec.keyManager || keyManager } }
      | .twin => { s with sec := { s.sec with twinSessions := n + 1 }
                          twin := { s.twin with session := true, epoch := s.twin.epoch + 1, pktCtr := 0, rekeying := false } }
    s.spdm t 2 true

end Sys2Proof.Machine
end

