-- ==== Sys2Proof/Machine/Tests.lean ====
section
/-!
DEFINITION. In-service and production tests: the rows of chapter 19 but the pack tests.
-/
namespace Sys2Proof.Machine

/-- The in-service tests but that of the standby core run (R451). -/
def State.testsRun (s : State) : Bool :=
  ! s.hub.hot && match s.mc.mode with | .service | .degraded | .resync | .quiescent => true | _ => false

/-! ## Patrol scrub (R197, R452 to R454) -/

/-- The patrol of a channel. -/
def State.patrol (s : State) (n : Nat) : Patrol := Sparse.get (fun _ => Patrol.reset) s.tests.patrols n

/-- Replaces the patrol of a channel. -/
def State.setPatrol (s : State) (n : Nat) (x : Patrol) : State :=
  { s with tests := { s.tests with patrols := Sparse.set (fun _ => Patrol.reset) s.tests.patrols n x } }

/-- Lines of the usable and reserved areas of a channel. -/
def State.chLines (s : State) (n : Nat) : Nat := ((s.ch n).capGib + (s.ch n).rsvGib) * 2 ^ 24

/-- The pool offset that a channel-local address holds: the pool, and the offset (R68, R71). -/
def State.poolAt (s : State) (n addr : Nat) : Option (Nat × Nat) :=
  (s.sharesOn n).findSome? fun x =>
    let (p, m) := x
    let g := grainBytes (s.fld RGN_POOL_CFG_GRAIN p)
    let base := match s.remapOf p m with
      | some k => s.fld RGN_POOL_REMAP_TARGET_BASE_GIB p k * 2 ^ 30
      | none => s.fld RGN_POOL_BAND_BASE_GIB p * 2 ^ 30
    if base ≤ addr ∧ addr < base + s.fld RGN_POOL_BAND_SIZE_GIB p * 2 ^ 30 then
      let o := addr - base
      some (p, (o / g * (s.members p).length + m) * g + o % g)
    else none

/-- The line index a channel-local address holds, and its region. -/
def State.lineAtAddr (s : State) (n addr : Nat) : Option (Nat × Nat) :=
  match s.poolAt n addr with
  | some (p, o) => (s.poolOwner p o).map fun e => (e.1, e.2 / 64)
  | none => none

/-- Patrol decodes the codeword of an address with the symbols in error that its read finds (R197). An uncorrectable one starts a full
retraining, after which it is read again. The answer says whether it was corrected. -/
def State.patrolDecode (s : State) (n addr : Nat) (errs : List Nat) : Bool × State :=
  let a : ChAddr := ⟨n, addr⟩
  let d := s.dram a
  let mark := ((s.ch n).marks.find? fun m => m.1 == 2 * d.rank + d.sub).map Prod.snd
  let fixed := match classify ((s.ch n).typ == 2) mark errs with | .corrected _ | .located _ => true | _ => false
  match s.lineAtAddr n addr with
  | some (_, l) =>
    if (s.line l).poison then (false, s)
    else match s.decodeLine l a errs true with
      | (.good, s) => (fixed, s)
      | (.bad, s) => (false, (s.holdRead n ⟨.internal, l, s.timeNs, false, false, s.rgn.epoch⟩).startRetrain n 3)
  | none => match classify ((s.ch n).typ == 2) mark errs with
    | .clean | .erased => (false, s)
    | .corrected dev => (true, s.countCorrected n d.sub dev)
    | .located dev => (true, ((s.bump CH_CE_CNT_COUNT n).bump CH_LOC_CNT_COUNT n).trialHit n (2 * d.rank + d.sub) dev 2)
    | .uncorrectable => (false, (s.countUncorrectable (2 ^ 42) a).startRetrain n 3)

/-- Hours that a patrol is behind its schedule (R452, R453). -/
def State.patrolLag (s : State) (n : Nat) (x : Patrol) : Nat :=
  let pass := s.fld GLB_IST_PERIOD_PATROL_H * 3600 * 10 ^ 9
  (s.timeNs - x.start - x.cursor * pass / max 1 (s.chLines n)) / (3600 * 10 ^ 9)

-- @row PATROL_READ
/-- R197, R452, R453: patrol reads and decodes the line at its cursor in an ACTIVE channel, but for the ranks released under PASR. `errs`:
the symbols in error. -/
def execPatrolRead (ch : ChId) (errs : List (Fin 40)) (s : State) : Res := .next <|
  let n := ch.val
  if ! s.testsRun ∨ ! s.flag GLB_IST_CTL_PATROL_EN ∨ (s.ch n).st ≠ .active ∨ s.chLines n = 0 then s
  else
    let x := s.patrol n
    let addr := 64 * x.cursor
    let (fixed, s) := if (s.ch n).released.getLsbD (s.dram ⟨n, addr⟩).rank then (false, s)
      else s.patrolDecode n addr (errs.map Fin.val)
    let x := { x with cursor := x.cursor + 1, fixed := x.fixed + fixed.toNat }
    if s.chLines n ≤ x.cursor then
      let s := s.setPatrol n { cursor := 0, start := s.timeNs, passes := min 0xFFFF (x.passes + 1), fixed := 0, behind := 0 }
      s.log 0x1031 .info (srcCh n) n ((s.timeNs - x.start) / 10 ^ 9) x.fixed
    else
      let lag := s.patrolLag n x
      let s := s.setPatrol n { x with behind := lag }
      if x.behind < lag then s.log 0x1030 .notice (srcCh n) n lag else s

-- @row PATROL_WAKE
/-- R454: a channel that has stayed in NAP1 or deeper for one hour wakes for patrol. -/
def execPatrolWake (ch : ChId) (s : State) : Res :=
  if s.testsRun ∧ s.flag GLB_IST_CTL_PATROL_EN then execChannelWake ch s else .next s

/-! ## Lay-by march (R455, R456) -/

/-- A lay-by slot that fails is retired (R456). -/
def State.retireSlot (s : State) (n slot : Nat) : State :=
  let key := 1024 * n + slot
  if s.tests.retired.contains key then s
  else
    let s := { s with tests := { s.tests with retired := s.tests.retired ++ [key] } }
    let count := s.tests.retired.countP fun x => x / 1024 == n
    s.log 0x1032 (if 16 < count then .error else .notice) (srcCh n) n slot count

-- @row LAYBY_MARCH_SLOT
/-- R455, R456: the slot under test of a lay-by that is not lent completes its March C− test; it holds no operation. -/
def execLaybyMarchSlot (ch : ChId) (pass : Bool) (s : State) : Res := .next <|
  let n := ch.val
  if ! s.testsRun ∨ ! s.flag GLB_IST_CTL_MARCH_EN ∨ (s.tier.lent.any fun e => e.1 == n) then s
  else
    let slot := Sparse.get (fun _ => 0) s.tests.march n
    let s := { s with tests := { s.tests with march := Sparse.set (fun _ => 0) s.tests.march n ((slot + 1) % 1024) } }
    if pass then s else s.retireSlot n slot

/-! ## NAND disturb patrol (R457) -/

-- @row DISTURB_PATROL_READ
/-- R457: one codeword of a written block is read with the ladder. `step`: the step that passed, 0 for none; `best`: the hard step whose
references step 12 used. A pass at step 8 or later is followed by a second read; two within an hour queue the block for a refresh move
(R213). -/
def execDisturbPatrolRead (nf : NfId) (die block : Nat) (step : Fin 13) (best : Fin 11) (s : State) : Res := .next <|
  let n := nf.val
  let b := s.block n die block
  let st := (s.nf n).st
  if ! s.testsRun ∨ ! s.flag GLB_IST_CTL_DISTURB_EN ∨ (st ≠ .serving ∧ st ≠ .evacuating) ∨ b.state = .erased ∨ b.state = .erasing then s
  else
    let order := ladder b.step
    let steps := if step.val = 0 then 12 else (order.findIdx (· == step.val)) + 1
    let s := s.addFld NF_RETRY_CNT_COUNT (steps - 1) n
    let s := if step.val = 0 ∨ step.val = 12 then (s.bump NF_SOFT_CNT_COUNT n).logLim 0x2002 n .info (srcNand n) (n, 1, 0, 0) else s
    if step.val = 0 then
      let dpa := match s.validOn n die block with | k :: _ => 4096 * k | [] => 0
      ((s.bump NF_UE_CNT_COUNT n).nfErr n 1).log 0x2003 .error (srcNand n) (n + 256 * die) (dpa % 2 ^ 32) (dpa / 2 ^ 32) block
    else
      let key := blockKey n die block
      let deep := (b.deep.filter fun t => decide (s.timeNs < t + 3600 * 10 ^ 9)) ++ (if 8 ≤ step.val then [s.timeNs] else [])
      let s := s.setBlock n die block { b with step := if step.val = 12 then best.val + 1 else step.val, deep := deep }
      let others := s.tests.suspect.filter fun k => k != key
      let owes := decide (8 ≤ step.val) && ! s.tests.suspect.contains key && decide (deep.length < 2)
      let s := { s with tests := { s.tests with suspect := if owes then others ++ [key] else others } }
      if 8 ≤ step.val ∧ 2 ≤ deep.length then s.logLim 0x2020 n .info (srcNand n) (n, 1, 0, 0) else s

/-! ## Eye scans (R458) -/

/-- A lane's link is up and, for a CXL lane, in L0. Lanes 0 to 127 are port × 16 + lane, 128 to 159 Ethernet port × 8 + lane. -/
def State.laneUp (s : State) (lane : Nat) : Bool :=
  if lane < 128 then
    let p := lane / 16
    let x := s.linkAt p (lane % 16 / (16 / bifurLinks (s.bifur p)))
    x.up && x.pm == .l0
  else s.rdma.ethUp.getLsbD ((lane - 128) / 8)

-- @row EYE_SCAN_START
/-- R458: an idle lane of a link in L0 starts a scan. -/
def execEyeScanStart (lane : Fin 160) (s : State) : Res := .next <|
  if s.testsRun ∧ s.flag GLB_IST_CTL_EYE_EN ∧ s.laneUp lane.val ∧ ! s.tests.scans.contains lane.val then
    { s with tests := { s.tests with scans := s.tests.scans ++ [lane.val] } }
  else s

-- @row EYE_SCAN_DONE
/-- R458: a scan ends. `kept`: the lane's link has neither changed state nor retrained nor stopped being idle. -/
def execEyeScanDone (lane : Fin 160) (height width : Nat) (kept : Bool) (s : State) : Res := .next <|
  let k := lane.val
  if ! s.tests.scans.contains k then s
  else
    let ok := kept && s.testsRun && s.laneUp k
    let s := { s with tests := { s.tests with scans := s.tests.scans.filter (fun x => x != k) } }
    if ! ok then s
    else
      let h := min 0x3FF height
      let w := min 0x3FF width
      let s := { s with tests := { s.tests with eyes := (s.tests.eyes.filter fun e => e.1 != k) ++ [(k, (⟨h, w, s.timeNs⟩ : Eye))] } }
      if h < s.fld GLB_EYE_MIN_HEIGHT_MV ∨ w < s.fld GLB_EYE_MIN_WIDTH_MUI then
        s.log 0x4050 .notice (if k < 128 then srcPort (k / 16) else srcEth ((k - 128) / 8)) k h w
      else s

/-! ## Test access port (R459 to R461) -/

/-- The instruction register takes an instruction; one that needs MAINTENANCE becomes BYPASS in any other mode, with TEST_REFUSED
(R459). -/
def State.tapLoad (s : State) (op : Nat) (maint : Bool) (then_ : State → State) : State :=
  if maint ∧ s.mc.mode ≠ .maintenance then
    ({ s with tests := { s.tests with tap := 0xFF } }).log 0x8050 .notice srcCc op s.mc.mode.code
  else then_ { s with tests := { s.tests with tap := op } }

-- @row IDCODE
/-- R459: version 0x1, part 0x6416, the manufacturer of GLB_ID.MFR and 1. -/
def execIdcode (s : State) : Res := .next <| s.tapLoad 0x01 false fun s =>
  s.emit (.jtag 0x01 (1 + 2 * s.fld GLB_ID_MFR + 2 ^ 12 * 0x6416 + 2 ^ 28))

-- @row SAMPLE_PRELOAD
/-- R459: samples the pins without driving them: the levels found. -/
def execSamplePreload (pins : Nat) (s : State) : Res := .next <| s.tapLoad 0x02 false fun s => s.emit (.jtag 0x02 pins)

-- @row EXTEST
/-- R459: drives and captures the boundary cells: the levels captured. -/
def execExtest (pins : Nat) (s : State) : Res := .next <| s.tapLoad 0x03 true fun s => s.emit (.jtag 0x03 pins)

-- @row EXTEST_PULSE
/-- R459: the AC-coupled lanes, by pulses. -/
def execExtestPulse (pins : Nat) (s : State) : Res := .next <| s.tapLoad 0x04 true fun s => s.emit (.jtag 0x04 pins)

-- @row EXTEST_TRAIN
/-- R459: the AC-coupled lanes, by pulse trains. -/
def execExtestTrain (pins : Nat) (s : State) : Res := .next <| s.tapLoad 0x05 true fun s => s.emit (.jtag 0x05 pins)

-- @row CLAMP
/-- R459: holds the outputs, with BYPASS in the path. -/
def execClamp (s : State) : Res := .next <| s.tapLoad 0x06 true id

-- @row HIGHZ
/-- R459: all outputs at high impedance. -/
def execHighz (s : State) : Res := .next <| s.tapLoad 0x07 true id

-- @row MBIST
/-- R459, R460: memory BIST runs. -/
def execMbist (s : State) : Res := .next <| s.tapLoad 0x10 true fun s =>
  ({ s with tests := { s.tests with bist := true } }).setFld GLB_BIST_CTL_START 1

-- @row SCAN
/-- R459, R461: the key store is zeroised without an alarm and becomes LOCKED; then the logic state of every unit but the always-on island
is lost, and only a reset into BOOT leads on. -/
def execScan (s : State) : Res := .next <| s.tapLoad 0x11 true fun s =>
  let s := s.zeroise .locked
  { s with tier := Tier.reset, rings := { ring := [], ops := [], opGens := [], poolPeak := 0, sqTorn := [] }, twin := { Twin.reset with
             link := s.twin.link, epoch := s.twin.epoch, txSeq := s.twin.txSeq, txDurable := s.twin.txDurable, copies := s.twin.copies,
             bitmap := s.twin.bitmap }
           rdma := { qps := [], keys := [], ethUp := s.rdma.ethUp, paused := 0 }, cc := { Cc.reset with gap := .dead }, jct := []
           arb := { oldTable := [], parked := [] }, per := { s.per with adm := [], wts := [], fences := [], gpf := [] } }

-- @row BYPASS
/-- R459: selects the bypass register. -/
def execBypass (s : State) : Res := .next <| s.tapLoad 0xFF false id

-- @row BIST_START
/-- R421, R460, R463: GLB_BIST_CTL.START runs memory BIST in MAINTENANCE; elsewhere it is refused. -/
def execBistStart (who : Writer) (s : State) : Res := .next <|
  if s.mc.mode ≠ .maintenance then s.reject (RegName.offset .GLB_BIST_CTL 0 0 0) 1 6 who
  else ({ s with tests := { s.tests with bist := true } }).setFld GLB_BIST_CTL_START 1

-- @row BIST_DONE
/-- R456, R460: memory BIST ends: failing lay-by slots as channel and slot, failing tag-cache quarters, and whether twin staging, a queue
array or the checkpoint SRAM has failed. -/
def execBistDone (slots : List (ChId × Fin 1024)) (tagq : BitVec 4) (staging queues ckpt : Bool) (s : State) : Res := .next <|
  if ! s.tests.bist then s
  else
    let layby := slots.foldl (fun (a : Nat) x => if Nat.testBit a x.1.val then a else a + 2 ^ x.1.val) 0
    let s := (({ s with tests := { s.tests with bist := false } }).setFld GLB_BIST_CTL_START 0).setRegAt .GLB_BIST_STAT 0 0 0
      (BitVec.ofNat 32 (layby + 2 ^ 16 * tagq.toNat + 2 ^ 20 * staging.toNat + 2 ^ 21 * queues.toNat + 2 ^ 22 * ckpt.toNat))
    slots.foldl (fun s x => s.retireSlot x.1.val x.2.val) s

end Sys2Proof.Machine
end

