-- ==== Sys2Proof/Machine/Nand.lean ====
section
/-!
DEFINITION. The NAND media (R200 to R226): modules and channels, evacuation and removal (R204, R473), refresh moves, garbage
collection, erases and wear levelling (R213 to R218), map checkpoints (R210), rehearsals and the save region (R86, R222), the
endurance governor (R219) and brown-out (R224).
-/
namespace Sys2Proof.Machine

/-! ## Modules (R200 to R203) -/

/-- Why a die by itself is refused (R200, R226). -/
def DieParam.refusal (d : DieParam) : Option Nat :=
  if ! d.readable then some 9
  else if d.onfi < 40 ∨ 51 < d.onfi then some 1
  else if d.io < 1 ∨ 3 < d.io ∨ d.mts < 400 ∨ (d.io = 3 ∧ (d.onfi < 50 ∨ d.mts < 1600)) then some 2
  else if d.cell ≠ 1 ∧ d.cell ≠ 2 then some 3
  else if d.gbit ≠ 512 ∧ d.gbit ≠ 1024 ∧ d.gbit ≠ 2048 then some 4
  else if d.page ≠ 16384 ∨ d.spare < 2208 then some 5
  else if (d.planes ≠ 2 ∧ d.planes ≠ 4) ∨ d.pages = 0 ∨ 4096 < d.pages ∨ d.blocks = 0 ∨ 16384 < d.blocks then some 6
  else if ! d.features then some 8
  else none

/-- The geometry a die gives. -/
def DieParam.geom (d : DieParam) : NandGeom := ⟨d.cell, d.planes, d.pages, d.blocks, d.gbit / 8, d.slcWords, d.peRated⟩

/-- Two dies agree on the points of R201: cell type, density, planes, pages per block and blocks per die. -/
def NandGeom.agrees (a b : NandGeom) : Bool :=
  a.cell == b.cell && a.dieGib == b.dieGib && a.planes == b.planes && a.pages == b.pages && a.blocks == b.blocks

/-- Dies of a channel of a module. -/
def NandModule.dies (x : NandModule) : Nat := 8 * 2 ^ x.luns.val

/-- The parameter page of die d of channel c of a module. -/
def NandModule.die (x : NandModule) (c d : Nat) : DieParam :=
  match x.odd.find? fun e => e.1 == 32 * c + d with
  | some e => e.2
  | none => x.common

/-- The first failing die of a module, in ascending order of channel and die: its channel in the module, its number and the reason. -/
def NandModule.refusal (x : NandModule) (have_ : Option NandGeom) : Option (Nat × Nat × Nat) :=
  let first := (x.die 0 0).geom
  ((List.range 8).flatMap fun c => ((List.range 32).filter fun d => decide (d % 4 < x.dies / 8)).map fun d => (c, d)).findSome? fun e =>
    let p := x.die e.1 e.2
    let why := match p.refusal with
      | some r => some r
      | none => if p.geom.agrees first && (have_.getD first).agrees p.geom then none else some 7
    why.map fun r => (e.1, e.2, r)

-- @row MODULE_INSERT
/-- R200, R201, R220, R221: a module is sensed present. A module that is refused leaves its channels ABSENT; an accepted one waits for
the I/O training of its channels. A module without controller metadata is initialised: its marked blocks are entered as factory bad. -/
def execModuleInsert (m : Fin 4) (x : NandModule) (s : State) : Res := .next <|
  if s.nand.modules.getLsbD m.val then s
  else
    let s := { s with nand := { s.nand with modules := s.nand.modules ||| BitVec.twoPow 4 m.val } }
    let chans := (List.range 8).map fun c => 8 * m.val + c
    match x.refusal s.nand.geom with
    | some (c, d, why) =>
      let (v, s) := s.fresh
      let s := chans.foldl (fun s n => s.nfErr n 6) s
      s.log 0x2009 .error (srcNand (8 * m.val + c)) (8 * m.val + c + 256 * d) v why (8 * x.dies)
    | none =>
      let one (b : Nat × Nat × Nat) : NandBlock := { NandBlock.fresh with ec := if x.known then b.2.1 else 0, status := if x.known then b.2.2 else 1 }
      let s := { s with nand := { s.nand with
        geom := some (s.nand.geom.getD (x.die 0 0).geom)
        inited := s.nand.inited ||| BitVec.twoPow 4 m.val
        blocks := x.blocks.foldl (fun bs b => Sparse.set (fun _ => NandBlock.fresh) bs (256 * m.val * 16384 + b.1) (one b)) s.nand.blocks } }
      chans.foldl (fun s n => s.setNf n { NandCh.absent with dies := x.dies }) s

/-- Good capacity of both images in whole GiB. -/
def State.goodGib (s : State) : Nat × Nat := (s.imageCapacity false / 2 ^ 30, s.imageCapacity true / 2 ^ 30)

/-- Logs the images whose good capacity has fallen (R222, R226). -/
def State.noteShrunk (s : State) (before : Nat × Nat) : State :=
  let now := s.goodGib
  let s := if now.1 < before.1 then s.log 0x200C .notice (srcNand 0) 0 now.1 else s
  if now.2 < before.2 then s.log 0x200C .notice (srcNand 0) 1 now.2 else s

/-- Enters a rehearsal measurement; the last four count (R86). -/
def State.addRehearsal (s : State) (mbps : Nat) : State :=
  let rs := s.per.rehearsals ++ [mbps]
  { s with per := { s.per with rehearsals := rs.drop (rs.length - 4) } }

/-- Moves a channel out of SERVING (R202, R222): the lowest measurement scaled by the SERVING counts is entered. -/
def State.leaveServing (s : State) (n : Nat) (st : NfState) (err : Nat := 0) : State :=
  let old := s.servingNf.length
  let was := s.goodGib
  let s := s.setNfState n st err
  let s := if s.per.rehearsals = [] ∨ old = 0 then s else s.addRehearsal (s.saveMbps * s.servingNf.length / old)
  s.noteShrunk was

-- @row NAND_IO_TRAINING_DONE
/-- R200, R202, R225: the I/O training of a channel ends, with the I/O mode and the rate code of NF_STATE. A channel in service fails at
the second failure in succession. -/
def execNandIoTrainingDone (nf : NfId) (pass : Bool) (io : Fin 4) (rate : Fin 9) (s : State) : Res := .next <|
  let n := nf.val
  let c := s.nf n
  if c.dies = 0 then s
  else if pass then
    let s := s.setNf n { c with io := io.val, rate := rate.val, ioFails := 0 }
    if c.st = .absent then s.setNfState n .serving else s
  else
    let s := (s.setNf n { c with ioFails := c.ioFails + 1 }).nfErr n 5
    if c.ioFails = 0 then s
    else match c.st with
      | .serving => s.leaveServing n .failed 5
      | .evacuating => s.setNfState n .failed 5
      | _ => s

/-! ## Evacuation and removal (R204, R472, R473) -/

/-- The channels of a module. -/
def moduleChans (m : Nat) : List Nat := (List.range 8).map fun c => 8 * m + c

/-- Pages whose home lies on a module. -/
def State.homesOn (s : State) (m : Nat) : List Nat := (s.nand.map.filter fun e => e.2.ch / 8 == m).map Prod.fst

/-- Good capacity-tier blocks of a channel. -/
def State.goodBlocks (s : State) (ch : Nat) : Nat :=
  let g := s.nandGeom
  ((s.diesOf ch).map fun d =>
    g.blocks - 2 * g.setBlocks - (s.listedBlocks ch d).countP fun e => s.blockUse ch d e.1 == 0 && e.2.status != 0).sum

-- @row EVACUATE_MODULE
/-- R88, R202, R204, R472: the homes in use must fit into 90 % of the capacity-tier blocks of the other SERVING channels. -/
def execEvacuateModule (d : Desc) (s : State) : Res := .next <|
  s.take d 5 true true fun s =>
    let m := d.bits 2 1 0
    let evac (o : LongOp) : Bool := match o.kind with | .evacModule _ => true | _ => false
    let mine := (moduleChans m).filter fun n => (s.nf n).st == .serving
    if s.rings.ops.any evac then s.complete d.src .busy
    else if mine = [] then s.complete d.src .invalid
    else
      let others := s.servingNf.filter fun n => n / 8 != m
      let room := (others.map s.goodBlocks).sum * s.blockWords * 9 / 10
      if room < s.nand.map.length then s.complete d.src .noSpace
      else
        let blocks := ((s.nand.map.filter fun e => e.2.ch / 8 == m).map fun e => blockKey e.2.ch e.2.die e.2.block).eraseDups
        let image := s.freeImageCapacity
        let mbps := s.saveMbps
        let s := s.startOp (.evacModule m) d.src (some blocks.length)
        let s := mine.foldl (fun s n => s.leaveServing n .evacuating) s
        s.planReduce [] image (some mbps)

-- @row MODULE_EVAC_DONE
/-- R202, R204: every home codeword and save block of the module has been moved; its channels are RETIRED. -/
def execModuleEvacDone (m : Fin 4) (s : State) : Res := .next <|
  match s.rings.ops.find? fun o => o.kind == .evacModule m.val && o.st == .running with
  | none => s
  | some o =>
    if s.homesOn m.val ≠ [] then s
    else
      let s := ((moduleChans m.val).filter fun n => (s.nf n).st == .evacuating).foldl (fun s n => s.setNfState n .retired) s
      s.endOp o .ok (o.param / 2 ^ 18)

/-- The twin reads that rebuild the lost pages of mirrored regions (R473), for the pages for which none is open. -/
def State.rebuildLost (s : State) : State :=
  s.nand.lost.foldl (fun s k => match s.regionOf (4096 * k) with
    | some (_, r) =>
      if s.twinServes r (64 * k) ∧ ! (s.twin.reads.any fun t => t.why == .home k) then
        (pageLines k).foldl (fun s l => s.twinRead l (.home k)) s
      else s
    | none => s) s

/-- Programs that run on a module are gone: their pages stay DIRTY and are written back elsewhere (R473). -/
def State.dropPrograms (s : State) (m : Nat) : State :=
  let gone := s.tier.wbs.filter fun w => w.loc.ch / 8 == m
  let s := { s with
    tier := { s.tier with wbs := s.tier.wbs.filter fun w => w.loc.ch / 8 != m }
    per := { s.per with wts := s.per.wts.map fun t => if t.loc.any fun l => l.ch / 8 == m then { t with started := false, loc := none } else t }
    nand := { s.nand with erases := s.nand.erases.filter fun e => e.ch / 8 != m } }
  gone.foldl (fun s w =>
    let pg := s.page w.page
    if pg.st = .writingBack then s.setPage w.page { pg with st := .dirty } else s) s

/-- A page that a pending image loses (R473): R99 applies to its region, and a copy of it in DRAM is no longer covered. -/
def State.loseImagePage (s : State) (k : Nat) : State :=
  let s := s.dropFromImages k 1
  let pg := s.page k
  let s := if pg.covered then s.setPage k { pg with covered := false, counted := (s.regionOf (4096 * k)).any fun e => e.2.persist } else s
  match s.regionOf (4096 * k) with
  | some (i, _) => s.markDamaged i
  | none => s

-- @row MODULE_REMOVE
/-- R202, R473: the presence pin of a module goes high. `image`: the pages of pending images that had blocks on it. -/
def execModuleRemove (m : Fin 4) (image : List Nat) (s : State) : Res := .next <|
  let cs := moduleChans m.val
  if ! s.nand.modules.getLsbD m.val then s
  else
    let live := cs.filter fun n => (s.nf n).st == .serving || (s.nf n).st == .evacuating
    let away (s : State) : State :=
      let s := cs.foldl (fun s n => if (s.nf n).st = .absent then s else s.setNfState n .absent) s
      let s := cs.foldl (fun s n => s.setNf n NandCh.absent) s
      let none_ := (List.range 32).all fun n => (s.nf n).dies == 0
      { s with nand := { s.nand with
          modules := s.nand.modules &&& ~~~ BitVec.twoPow 4 m.val
          inited := s.nand.inited &&& ~~~ BitVec.twoPow 4 m.val
          blocks := s.nand.blocks.filter fun e => e.1 / (16384 * 256) != m.val
          alarms := s.nand.alarms.filter fun a => a / 256 != m.val
          geom := if none_ then none else s.nand.geom } }
    let gone := s.homesOn m.val
    let s := s.dropPrograms m.val
    let s := { s with nand := { s.nand with
      map := s.nand.map.filter fun e => e.2.ch / 8 != m.val
      home := s.nand.home.filter fun e => ! gone.contains (e.1 / 64)
      lost := s.nand.lost ++ gone } }
    if live = [] then away s
    else
      let s := live.foldl (fun s n => if (s.nf n).st = .serving then s.leaveServing n .failed else s.setNfState n .failed) s
      let s := away s
      let owner (k : Nat) : Option (Nat × Region) := s.regionOf (4096 * k)
      let plain := (gone.filterMap fun k => (owner k).bind fun e => if e.2.mirror = .none then some e.1 else none).eraseDups
      let ranges := ((gone.filter fun k => (owner k).any fun e => e.2.mirror != .none).map fun k => k / 512).eraseDups
      let s := plain.foldl (fun s i => s.markDamaged i) s
      let s := (image.filter fun k => (s.imageOf k).isSome).foldl (fun s k => s.loseImagePage k) s
      let s := s.freeImages
      let s := match s.rings.ops.find? fun o => o.kind == .evacModule m.val && o.st != .done with
        | some o => s.endCancelled o (o.param / 2 ^ 18)
        | none => s
      (s.log 0x2030 .critical (srcNand (8 * m.val)) m.val plain.length ranges.length).rebuildLost

/-! ## Moves and erases (R213 to R218) -/

/-- Moves the valid codewords of a block and erases it; where they cannot be moved now, it is not erased. -/
def State.clearBlock (s : State) (ch die b : Nat) : State :=
  let s := s.movePages (s.validOn ch die b)
  if s.validOn ch die b = [] then s.startErase ch die b else s

-- @row REFRESH_MOVE
/-- R213: the reads of a block pass only at step 8 or later, twice within one hour. The third move between erases retires it. -/
def execRefreshMove (nf : NfId) (die : Fin 32) (block : Fin 16384) (s : State) : Res := .next <|
  let x := s.block nf die block
  let recent := x.deep.filter fun t => decide (s.timeNs ≤ t + 3600 * 10 ^ 9)
  if recent.length < 2 ∨ x.status ≠ 0 ∨ ! s.nandPowered then s
  else
    let s := s.setBlock nf die block { x with deep := [], moves := x.moves + 1, state := .closed }
    if 3 ≤ x.moves + 1 then s.retireBlock nf die block 2 else s.clearBlock nf die block

-- @row GARBAGE_COLLECT
/-- R215: the closed capacity-tier block of a die with the fewest valid codewords, the lowest number on a tie. -/
def execGarbageCollect (nf : NfId) (die : Fin 32) (s : State) : Res := .next <|
  if ! s.nandPowered then s
  else
    let closed := (s.listedBlocks nf die).filter fun e => s.blockUse nf die e.1 == 0 && e.2.status == 0 && e.2.state == .closed
    let pick := closed.foldl (fun (o : Option (Nat × Nat)) e =>
      let n := (s.validOn nf die e.1).length
      match o with
      | none => some (e.1, n)
      | some x => if n < x.2 then some (e.1, n) else some x) none
    match pick with
    | some (b, n) => if n < s.blockWords then s.clearBlock nf die b else s
    | none => s

/-- Rated cycles of the dies: NF_PE.PE_RATED, from the parameter page until it is written. -/
def State.peRated (s : State) : Nat := if s.fld NF_PE_PE_RATED = 0 then s.nandGeom.peRated else s.fld NF_PE_PE_RATED

/-- The erase of a block that runs. -/
def State.eraseOf (s : State) (ch die b : Nat) : Option NandErase :=
  s.nand.erases.find? fun e => e.ch == ch && e.die == die && e.block == b

/-- Replaces the erase of a block. -/
def State.setErase (s : State) (e : NandErase) : State :=
  { s with nand := { s.nand with
      erases := s.nand.erases.map fun x => if x.ch = e.ch ∧ x.die = e.die ∧ x.block = e.block then e else x } }

-- @row NAND_ERASE_DONE
/-- R214, R215, R218: an erase ends. The block enters the free pool with its counter advanced, and is retired as worn out at 1.5 times
the rated cycles; an erase that fails retires it as grown bad. -/
def execNandEraseDone (nf : NfId) (die : Fin 32) (block : Fin 16384) (pass : Bool) (s : State) : Res := .next <|
  match s.eraseOf nf die block with
  | none => s
  | some e =>
    if e.suspended.isSome then s
    else
      let was := s.goodGib
      let s := { s with nand := { s.nand with erases := s.nand.erases.filter fun x => ! (x.ch == nf.val && x.die == die.val && x.block == block.val) } }
      let x := s.block nf die block
      if pass then
        let ec := min (x.ec + 1) (2 ^ 24 - 1)
        let worn := s.peRated != 0 && decide (3 * s.peRated ≤ 2 * ec)
        (s.setBlock nf die block { x with
          ec := ec, state := .erased, used := 0, deep := [], moves := 0, status := if worn then 3 else x.status }).checkPool nf die
      else
        let s := s.setBlock nf die block { x with status := 2, state := .closed }
        (((s.nfErr nf 3).log 0x2005 .notice (srcNand nf) (nf.val + 256 * die.val) block.val).checkPool nf die).noteShrunk was

/-- Reads queued for a die: fills and rotations that read it. -/
def State.dieReads (s : State) (ch die : Nat) : Bool :=
  s.tier.fills.any fun f => (s.fillLoc f).any fun l => l.ch == ch && l.die == die

/-- A suspended erase resumes; its suspended time is added up. -/
def State.resumeErase (s : State) (e : NandErase) : State := s.setErase { e with suspended := none, total := s.suspendedFor e }

-- @row ERASE_RESUME
/-- R216, R224: no read is queued for the die; no erase resumes during a brown-out. -/
def execEraseResume (nf : NfId) (die : Fin 32) (s : State) : Res := .next <|
  if s.dieReads nf die ∨ ! s.nandPowered then s
  else (s.nand.erases.filter fun e => e.ch == nf.val && e.die == die.val && e.suspended.isSome).foldl (fun s e => s.resumeErase e) s

/-- NF_ERASE_STAT.LONGEST_MS of a channel. -/
def State.longestMs (s : State) (ch : Nat) : Nat :=
  min 65535 ((s.nand.erases.filter fun e => e.ch == ch).foldl (fun m e => max m (s.suspendedFor e / 10 ^ 6)) 0)

-- @row ERASE_STARVED
/-- R216: the suspended time of an erase totals more than 1 s. -/
def execEraseStarved (nf : NfId) (die : Fin 32) (block : Fin 16384) (s : State) : Res := .next <|
  match s.eraseOf nf die block with
  | none => s
  | some e =>
    if e.starved ∨ s.suspendedFor e ≤ 10 ^ 9 then s
    else
      let ms := s.longestMs nf
      ((s.setErase { e with starved := true }).bump NF_ERASE_STAT_STARVED nf).logLim 0x2007 nf .notice (srcNand nf) (nf.val + 256 * die.val, 1, ms, 0)
        fun l => { l with w5 := l.w5 + 1, w6 := ms }

-- @row ERASE_GUARD_EXPIRY
/-- R217: the suspended time of an erase reaches ERASE_GUARD_MS. -/
def execEraseGuardExpiry (nf : NfId) (die : Fin 32) (block : Fin 16384) (s : State) : Res := .next <|
  let g := s.fld NF_ERASE_CTL_ERASE_GUARD_MS nf
  match s.eraseOf nf die block with
  | none => s
  | some e =>
    if g = 0 ∨ e.guarded ∨ s.suspendedFor e < g * 10 ^ 6 ∨ ! s.nandPowered then s
    else s.resumeErase { e with guarded := true }

/-- The lowest and highest erase counter of the good capacity-tier blocks of a channel (R218). -/
def State.ecSum (s : State) (ch : Nat) : Nat × Nat :=
  let ecs := (s.diesOf ch).flatMap fun d => ((s.listedBlocks ch d).filter fun e => s.blockUse ch d e.1 == 0 && e.2.status == 0).map fun e => e.2.ec
  let top := ecs.foldl max 0
  (if ecs.length < s.goodBlocks ch then 0 else ecs.foldl min top, top)

-- @row WEAR_LEVEL_MOVE
/-- R218: the spread of a channel's counters exceeds WL_DELTA; the block with the lowest counter returns to the pool. A block that is
erased already is in the pool. -/
def execWearLevelMove (nf : NfId) (s : State) : Res := .next <|
  let (lo, hi) := s.ecSum nf
  if hi - lo ≤ s.fld NF_WL_CTL_WL_DELTA ∨ ! s.nandPowered then s
  else
    let blocks := (s.diesOf nf).flatMap fun d => (s.listedBlocks nf d).map fun e => (d, e.1, e.2)
    match blocks.find? fun e => s.blockUse nf e.1 e.2.1 == 0 && e.2.2.status == 0 && e.2.2.ec == lo && (e.2.2.state == .opened || e.2.2.state == .closed) with
    | some e => (s.setBlock nf e.1 e.2.1 { e.2.2 with state := .closed }).clearBlock nf e.1 e.2.1
    | none => s

/-! ## The home map (R210, R237) -/

-- @row MAP_CHECKPOINT
/-- R209, R210, R237: 256 MiB of home codewords have been programmed since the last checkpoint. Dirty map codewords are programmed, and the
high-water marks of the twin streams are recorded. -/
def execMapCheckpoint (s : State) : Res := .next <|
  if s.nand.sinceCkpt < 65536 ∨ ! s.nandPowered ∨ s.servingNf = [] then s
  else
    let s := s.countPrograms 0 s.nand.mapDirty.length
    let durable := (List.range 16).foldl (fun m st => Sparse.set (fun _ => 1) m st (s.txSeq st)) s.twin.txDurable
    { s with nand := { s.nand with sinceCkpt := 0, mapDirty := [] }, twin := { s.twin with txDurable := durable } }

-- @row MAP_REPLAY
/-- R210: after a pass through BOOT other than a clean shutdown the codewords programmed since the last checkpoint are replayed. -/
def execMapReplay (us : Nat) (s : State) : Res := .next <|
  if s.mc.mode ≠ .boot ∨ s.per.clean.isSome then s else s.log 0x200B .info (srcNand 0) s.nand.sinceCkpt us

/-! ## The save region (R86, R104, R222) -/

-- @row SAVE_REHEARSAL
/-- R86: a rehearsal programs 64 MiB per SERVING channel into a free image. -/
def execSaveRehearsal (s : State) : Res := .next <|
  if s.per.rehRunning ∨ ! s.nandPowered ∨ s.mc.mode = .save ∨ ! (s.imageFree false || s.imageFree true) then s
  else { s with per := { s.per with rehRunning := true, rehChannels := s.servingNf.length } }

-- @row SAVE_REHEARSAL_DONE
/-- R86, R222: the rehearsal's measurement counts, and the image is erased again. -/
def execSaveRehearsalDone (mbps : BitVec 24) (s : State) : Res := .next <|
  if ! s.per.rehRunning then s
  else
    let s := s.addRehearsal mbps.toNat
    let b := s.pickImage
    let s := if s.mc.mode ≠ .save ∧ (s.image b).st = .free then s.setImage b { s.image b with st := .erasing } else s
    { s with per := { s.per with rehRunning := false } }

-- @row SAVE_IMAGE_ERASE
/-- R222: the blocks of an image that became free are erased. -/
def execSaveImageErase (image : Bool) (s : State) : Res := .next <|
  let x := s.image image
  if x.st ≠ .erasing ∨ ! s.nandPowered then s
  else
    let (a, b) := s.nand.imageErases
    let s := s.setImage image { x with st := .free }
    { s with nand := { s.nand with imageErases := if image then (a, b + 1) else (a + 1, b) } }

/-! ## The endurance governor (R219) -/

/-- Debt of the bucket in codewords. -/
def State.debt (s : State) : Nat := if s.fld NF_ENDUR_CTL_DWB_TARGET_GIB = 0 then 0 else (- (s.takeTokens 0).nand.tokens).toNat

-- @row ENDURANCE_OVER
/-- R219: once per hour while the bucket is in debt. -/
def execEnduranceOver (s : State) : Res := .next <|
  let s := s.takeTokens 0
  if s.debt = 0 ∨ s.nand.overAt.any (fun t => decide (s.timeNs < t + 3600 * 10 ^ 9)) then s
  else ({ s with nand := { s.nand with overAt := some s.timeNs } }).log 0x200A .notice (srcNand 0) (s.debt / 2 ^ 18) s.dayHome.2

/-! ## Brown-out (R224) -/

-- @row NAND_BROWNOUT
/-- R224, R225: a rail (0 VCCQ_NAND, 1 the module supply) falls below its brown-out level. `blocked`: the operations it blocks. -/
def execNandBrownout (rail : Fin 2) (blocked : Nat) (s : State) : Res := .next <|
  if s.nand.brownout.getLsbD rail then s
  else
    let first := s.nandPowered
    let s := { s with nand := { s.nand with brownout := s.nand.brownout ||| BitVec.twoPow 2 rail.val } }
    if first then (s.servingNf.foldl (fun s n => s.nfErr n 7) s).log 0x2008 .error (srcNand 0) (rail.val + 1) blocked else s

-- @row NAND_BROWNOUT_END
/-- R224: a rail is back above its level. -/
def execNandBrownoutEnd (rail : Fin 2) (s : State) : Res := .next <|
  { s with nand := { s.nand with brownout := s.nand.brownout &&& ~~~ BitVec.twoPow 2 rail.val } }

end Sys2Proof.Machine
end

