-- ==== Sys2Proof/Machine/Twin.lean ====
section
/-!
DEFINITION. The Boerben Twin Transport (R227 to R259, R540) and its link keys (R362): packets received and acknowledged, messages sent and
sent again, the lag budget, RESYNC, copies of regions and promotion.
-/
namespace Sys2Proof.Machine

/-! ## Receiving (R234, R235, R239, R242, R244, R362) -/

/-- The link takes packets: not DISABLED, and not after the final flush of a save (R233, R255). -/
def State.bttOpen (s : State) : Bool :=
  s.twin.link != .disabled && s.twin.session && ! (s.mc.mode == .save && s.per.flushCut)

/-- Sends a packet that costs no credit: NAK, CREDIT and KEEPALIVE (R236, R241). -/
def State.bttSend (s : State) (path type : Nat) (fields : List Nat) : State :=
  { (s.emit (.btt path type fields)) with twin := { s.twin with pktCtr := s.twin.pktCtr + 1 } }

/-- A packet's EPOCH is behind the one in use, and not the previous one within its 10 ms (R362). -/
def State.epochStale (s : State) (e : BitVec 32) : Bool :=
  e != s.twin.rxEpoch && serialGe s.twin.rxEpoch e && ! (e + 1 == s.twin.rxEpoch && s.twin.rxPrevOk)

/-- What a packet whose tag passes does whatever it carries (R234, R362): it keeps its path UP and may bring a new EPOCH. -/
def State.rxNoted (s : State) (h : BttHdr) : State :=
  let p := h.path.val
  let s := if h.epoch = s.twin.rxEpoch ∨ ! serialGe h.epoch s.twin.rxEpoch then s
    else { s with twin := { s.twin with rxEpoch := h.epoch, rxPrevOk := true } }
  let s := { s with twin := { s.twin with lastRx := Sparse.set (fun _ => 0) s.twin.lastRx p s.timeNs } }
  if s.twin.pathsUp.getLsbD p then s
  else ({ s with twin := { s.twin with pathsUp := s.twin.pathsUp ||| BitVec.twoPow 4 p } }).log 0x3002 .notice srcTwin p 1

/-- A packet arrives (R27, R234, R236, R244, R362): one whose tag fails is discarded with a NAK; a valid one keeps its path UP and may
bring a new EPOCH; one with a bad header is discarded. -/
def State.rxPacket (s : State) (h : BttHdr) (body : State → State) : State :=
  let p := h.path.val
  if ! s.bttOpen ∨ ! s.flag BTT_PATH_CFG_VALID p then s
  else if ! h.tagOk || s.epochStale h.epoch then
    ((s.bump BTT_TAG_FAIL_CNT_COUNT).logLim 0x3007 p .notice srcTwin (p, 1, 0, 0)).bttSend p 3 [h.stream.val, h.seq.toNat]
  else
    let s := s.rxNoted h
    if ! h.hdrOk then s.bump BTT_BAD_HDR_CNT_COUNT else body s

/-- A message is below the window, or its completion bit is set (R242). -/
def State.rxDup (s : State) (st q : Nat) : Bool := decide (q < s.rxBase st) || s.twin.rxDone.contains (st, q)

/-- A message is complete: its bit is set and the window base advances over every complete message (R242). -/
def State.rxComplete (s : State) (st q : Nat) : State :=
  let done := s.twin.rxDone ++ [(st, q)]
  let base := advanceBase done st done.length (s.rxBase st)
  { s with twin := { s.twin with
      rxBase := Sparse.set (fun _ => 1) s.twin.rxBase st base
      rxDone := done.filter fun e => e.1 != st || decide (base ≤ e.2)
      inMsgs := s.twin.inMsgs.filter fun m => ! (m.stream == st && m.seq == q) } }

/-- Units of credit used by a packet are returned once it has been taken (R241). -/
def State.returnUnit (s : State) (path cls n : Nat) : State :=
  let k := 4 * path + cls
  { s with twin := { s.twin with
      rxLanded := Sparse.set (fun _ => 0) s.twin.rxLanded k (Sparse.get (fun _ => 0) s.twin.rxLanded k + n), rxDirty := true } }

/-- The window of R242 for a packet of a stream: a duplicate is acknowledged again, one beyond the window is dropped. -/
def State.rxWindow (s : State) (path st q : Nat) (body : State → State) : State :=
  if s.rxDup st q then (s.bump BTT_DUP_CNT_COUNT).bttAck path st
  else if s.rxBase st + 65536 ≤ q then s.bump BTT_WINDOW_DROP_CNT_COUNT
  else body s

/-- A CTRL message that has arrived whole takes effect and is acknowledged (R240, R243). -/
def State.rxCtrl (s : State) (h : BttHdr) (body : State → State) : State :=
  s.rxPacket h fun s => (s.activity.rxWindow h.path.val 12 h.seq.toNat) fun s =>
    (body ((s.rxComplete 12 h.seq.toNat).returnUnit h.path.val 3 1)).bttAck h.path.val 12

/-- The header part of a DATA or READ_RESP packet. -/
def BttPkt.hdr (p : BttPkt) : BttHdr := ⟨p.path, p.tagOk, p.hdrOk, p.epoch, p.stream, p.seq⟩

/-- Lines of a packet, with their numbers: a ZERO packet names zero lines. -/
def BttPkt.items (p : BttPkt) : List (Nat × Line) :=
  p.data.zipIdx.map fun e =>
    let l := p.line.toNat + p.offset.toNat + e.2
    (p.offset.toNat + e.2, if p.poison.getLsbD e.2 then poisonLine else mkLine l (if p.zero then 0 else e.1))

/-- The incomplete message of a packet, or a new one; a stream tracks 256 of them (R239). -/
def State.inMsg (s : State) (p : BttPkt) : Option InMsg :=
  let mine := s.twin.inMsgs.filter fun m => m.stream == p.stream.val
  match mine.find? fun m => m.seq == p.seq.toNat with
  | some m => some m
  | none => if 256 ≤ mine.length then none else some ⟨p.stream.val, p.seq.toNat, p.total.toNat, [], p.flush⟩

/-- The mask of a message takes the lines of a packet, and a message with all its lines is complete (R239, R243). -/
def State.takeLines (s : State) (p : BttPkt) (m : InMsg) (new : List Nat) : State :=
  let st := p.stream.val
  let q := p.seq.toNat
  let m := { m with mask := m.mask ++ new }
  let s := { s with twin := { s.twin with inMsgs := (s.twin.inMsgs.filter fun x => ! (x.stream == st && x.seq == q)) ++ [m] } }
  if m.total ≤ m.mask.length then
    let s := if m.flush then { s with twin := { s.twin with rxFlush := s.twin.rxFlush ++ [(st, q)] } } else s
    ((s.rxComplete st q).bttAck p.path.val st).bttFlushed st
  else s

-- @row BTT_DATA
/-- R228, R239, R242, R243, R246: the lines of a packet are placed at once as writes of the copy region. Data for a DPA outside every copy
region is discarded and answered with COPY_MISSING. For a ZERO packet `data` names its lines. -/
def execBttData (p : BttPkt) (s : State) : Res := .next <|
  s.rxPacket p.hdr fun s => (s.activity.rxWindow p.path.val p.stream.val p.seq.toNat) fun s =>
    let st := p.stream.val
    let q := p.seq.toNat
    let s := { s with twin := { s.twin with lastData := s.timeNs } }
    match s.inMsg p with
    | none => s
    | some m =>
      let l0 := p.line.toNat
      match s.regionOf (64 * l0), p.total.toNat with
      | _, 0 => s.takeLines p m []
      | none, _ => s.queueCtrl [6, 64 * l0 % 2 ^ 32, 64 * l0 / 2 ^ 32]
      | some (i, r), _ =>
        if ! s.isCopy i then s.queueCtrl [6, 64 * l0 % 2 ^ 32, 64 * l0 / 2 ^ 32]
        else if ! s.keysLoaded i r then s
        else
          let new := p.items.filter fun e => ! m.mask.contains e.1 && decide (e.1 < m.total)
          let s := s.returnUnit p.path.val (st / 4) 1
          let s := { s with twin := { s.twin with rxPend := s.twin.rxPend ++ (if new = [] then [] else [(st, q, new.length)]) } }
          let s := s.takeLines p m (new.map Prod.fst)
          let cw := s.fld BTT_PATH_CFG_ETH_PORT p.path.val
          new.foldl (fun s e =>
            let l := l0 + e.1
            let w := s.newWrite cw l e.2.data (p.be.getD fullBe) e.2.poison (.btt st q l)
            s.storeWrite w i r) s

/-- A writer whose mirrored write is placed on the twin; a local program that still runs is what FENCE_PERSIST waits for (R92). -/
def State.finishTwin (s : State) (req : Requester) : State :=
  if req = .internal then s
  else
    let one (t : WriteThrough) : WriteThrough := if t.waiters.contains req then { t with twinDone := true } else t
    ({ s with per := { s.per with wts := s.per.wts.map one } }).finishWrite req

/-- A range has been placed by RESYNC (R230, R247, R254): its bit clears, its waiters complete, and fences need it no longer. -/
def State.rangePlaced (s : State) (k : Nat) : State :=
  let waits := s.twin.rangeWaits.filter fun w => w.1 == k
  let one (f : Fence) : Fence := if f.kind = .mirror then { f with pages := f.pages.filter fun j => j != k } else f
  let s := { s with
    twin := { s.twin with
      bitmap := s.twin.bitmap.filter fun j => j != k
      head := s.twin.head.filter fun j => j != k
      rangeWaits := s.twin.rangeWaits.filter fun w => w.1 != k
      resync := s.twin.resync.map fun r => { r with range := none, sent := r.sent + 1 } }
    per := { s.per with fences := s.per.fences.map one } }
  waits.foldl (fun s w => s.finishTwin w.2.2) s

/-- RESYNC starts when the link is UP and the bitmap is not empty (R254). -/
def State.startResync (s : State) : State :=
  if s.twinUp ∧ s.twin.bitmap ≠ [] ∧ s.twin.resync.isNone then
    ({ s with twin := { s.twin with resync := some ⟨none, 0, 0, s.timeNs, false⟩ } }).log 0x3010 .notice srcTwin s.twin.bitmap.length
  else s

/-- A message without lines that asks for placement (R246). -/
def State.queueFlush (s : State) (st : Nat) : State := s.queueMsg st .data 0 0 [] none [] true none []

/-- With the last bit cleared, a final FLUSH goes on every class 2 stream; once all are placed RESYNC is done (R254). -/
def State.endResync (s : State) : State :=
  match s.twin.resync with
  | none => s
  | some r =>
    if ! r.final then
      if s.twin.bitmap = [] ∧ r.range.isNone then
        [8, 9, 10, 11].foldl (fun s st => s.queueFlush st) { s with twin := { s.twin with resync := some { r with final := true } } }
      else s
    else if (s.twin.queued ++ s.twin.msgs).any fun m => m.stream / 4 == 2 then s
    else
      let s := { s with twin := { s.twin with resync := none } }
      let s := s.log 0x3011 .notice srcTwin r.sent ((s.timeNs - r.start) / 10 ^ 6)
      if s.twin.bitmap = [] then s.reeval .workDone else s.startResync

/-- Whether an ACK covers a message number (R236, R243). -/
def ackCovers (cum : Nat) (sack : BitVec 32) (q : Nat) : Bool :=
  decide (q ≤ cum) || (decide (cum + 2 ≤ q) && decide (q < cum + 34) && sack.getLsbD (q - cum - 2))

-- @row BTT_ACK
/-- R236, R243 to R246, R248, R250, R254: covered messages leave the filter, placed ones complete their writers and fences and clear the
range whose last convoy they are. An acknowledgement of an abandoned message is late. -/
def execBttAck (h : BttHdr) (placed : BitVec 64) (sack : BitVec 32) (holes : BitVec 16) (s : State) : Res := .next <|
  s.rxPacket h fun s =>
    let st := h.stream.val
    let cum := h.seq.toNat
    let pl := placed.toNat
    let late := s.twin.abandoned.filter fun e => e.1 == st && (ackCovers cum sack e.2 || decide (e.2 ≤ pl))
    let n := late.length
    let s := if late = [] then s
      else ((s.addFld BTT_LATE_ACK_CNT_COUNT n).logLim 0x3006 0 .info srcTwin (n, st, 0, 0) fun l => { l with w4 := l.w4 + n, w5 := st })
    let upd (m : OutMsg) : OutMsg :=
      if m.stream ≠ st then m
      else if ackCovers cum sack m.seq then { m with acked := true, holes := none }
      else if m.seq = cum + 1 ∧ holes ≠ 0 then { m with holes := some holes.toNat }
      else m
    let msgs := s.twin.msgs.map upd
    let isDone (m : OutMsg) : Bool := m.stream == st && m.acked && (m.kind != .data || decide (m.seq ≤ pl))
    let done := msgs.filter isDone
    let advanced := (done.filter fun m => m.kind == .ctrl).map OutMsg.seq
    let cs := done.flatMap OutMsg.copies
    let ids := cs.map TwinCopy.id
    let strip (f : Fence) : Fence := if f.kind = .mirror then { f with lines := f.lines.filter fun i => ! ids.contains i } else f
    let s := { s with
      twin := { s.twin with
        msgs := msgs.filter fun m => ! isDone m
        abandoned := s.twin.abandoned.filter fun e => ! late.contains e
        advances := s.twin.advances.filter fun a => ! advanced.contains a.1 }
      per := { s.per with fences := s.per.fences.map strip } }
    let s := cs.foldl (fun s c => s.finishTwin c.req) s
    let s := (done.filterMap OutMsg.range).foldl (fun s k => s.rangePlaced k) s
    s.endResync.startResync

/-! ## Sending (R234, R237, R238, R241, R244, R245) -/

/-- Sends a message, or sends it again: the counter limit stops the link (R362), and without credit the message waits. -/
def State.sendMsg (s : State) (m : OutMsg) (retx : Bool) : State :=
  let ps := s.packetsOf m
  if 2 ^ 62 ≤ s.twin.pktCtr + ps.length then s.stopLink 1
  else match s.sendPackets m retx ps with
    | none => s
    | some s =>
      let same (x : OutMsg) : Bool := x.stream == m.stream && x.seq == m.seq
      if retx then
        { s with twin := { s.twin with msgs := s.twin.msgs.map fun x => if same x then { x with last := s.timeNs } else x } }
      else
        { s with twin := { s.twin with
            queued := s.twin.queued.filter fun x => ! same x
            msgs := s.twin.msgs ++ [{ m with first := s.timeNs, last := s.timeNs }] } }

/-- The message of a stream that is on the link. -/
def State.outMsg (s : State) (st q : Nat) : Option OutMsg := s.twin.msgs.find? fun m => m.stream == st && m.seq == q

/-- Sends a message again while the link is UP (R244). -/
def State.resend (s : State) (m : OutMsg) : State :=
  if s.twin.link ≠ .up ∨ m.acked then s else (s.bump BTT_RETX_CNT_COUNT).sendMsg m true

-- @row BTT_NAK
/-- R244: brings the retransmission of the packet it names forward; one that names no outstanding packet is ignored. -/
def execBttNak (h : BttHdr) (s : State) : Res := .next <|
  s.rxPacket h fun s => match s.outMsg h.stream.val h.seq.toNat with
    | some m => s.resend m
    | none => s

-- @row BTT_CREDIT
/-- R241: the cumulative limits of the path, in serial arithmetic of 16 bits. -/
def execBttCredit (h : BttHdr) (l0 l1 l2 l3 : BitVec 16) (s : State) : Res := .next <|
  s.rxPacket h fun s =>
    let p := h.path.val
    [l0.toNat, l1.toNat, l2.toNat, l3.toNat].zipIdx.foldl (fun s e =>
      let k := 4 * p + e.2
      let old := Sparse.get (fun _ => 0) s.twin.txLimit k
      let up := (e.1 + 2 ^ 16 - old % 2 ^ 16) % 2 ^ 16
      if up < 2 ^ 15 then { s with twin := { s.twin with txLimit := Sparse.set (fun _ => 0) s.twin.txLimit k (old + up) } } else s) s

-- @row BTT_KEEPALIVE
/-- R234, R41: it keeps its path UP and breaks no quiescence. -/
def execBttKeepalive (h : BttHdr) (s : State) : Res := .next <| s.rxPacket h fun s => s

-- @row BTT_READ_REQ
/-- R251: the lines go out as a READ_RESP convoy on the class 3 stream; lines the twin cannot read, or that lie in no copy region, go out
poisoned. -/
def execBttReadReq (h : BttHdr) (line : BitVec 42) (total : BitVec 11) (s : State) : Res := .next <|
  s.rxPacket h fun s => (s.activity.rxWindow h.path.val h.stream.val h.seq.toNat) fun s =>
    let l := line.toNat
    let s := s.rxComplete h.stream.val h.seq.toNat
    let content (j : Nat) : Line := match s.regionOf (64 * (l + j)) with
      | some (i, r) => if s.isCopy i && s.keysLoaded i r then s.latest (l + j) else poisonLine
      | none => poisonLine
    let s := s.queueMsg (streamOf 3 l) .readResp l total.toNat ((List.range total.toNat).map content) none [] false none []
    s.bttAck h.path.val h.stream.val

/-! ## Reads the twin serves (R122, R167, R169, R185, R473) -/

/-- The outcome of line recovery at an exit or a write-back (R185, R198). -/
def State.recovered (s : State) (rd : Option PendingRead) (l outcome : Nat) : State :=
  match s.regionOf (64 * l) with
  | none => s
  | some (i, r) =>
    let ch := (s.dramAddr r (64 * l) (s.page (l / 64)).way).ch
    match rd with
    | none => s.waybillEvent 0x6020 (srcTier (ch / 4)) (ch / 4) l i ch outcome
    | some rd =>
      if rd.req = .internal then s
      else
        let (code, unit) := rd.req.exit
        s.waybillEvent code srcRdma unit l i ch outcome

/-- The twin's lines of a fill are all there: the fill ends with them (R122). -/
def State.fillServed (s : State) (k : Nat) : State :=
  if s.twin.reads.any fun t => t.why == .fill k then s
  else match s.tier.fills.find? fun f => f.page == k with
    | none => s
    | some f =>
      let stored (l : Nat) : Line := s.storedLine l
      s.fillEnds f fun l => ((f.got.find? fun e => e.1 == l).map Prod.snd).getD (stored l)

/-- The rebuilt lines of a lost page are all there: the page is programmed home on another channel (R473). -/
def State.homeRebuilt (s : State) (k : Nat) : State :=
  if (s.twin.reads.any fun t => t.why == .home k) || ! s.nand.lost.contains k then s
  else match s.allocHome k with
    | some (loc, s) => (s.setMap k loc).countPrograms 0 1
    | none => s

/-- The twin's copy of a line has failed (R122, R167, R169, R185, R251). -/
def State.twinFails (s : State) (t : TwinRead) : State :=
  let s := { s with twin := { s.twin with reads := s.twin.reads.filter fun x => x != t } }
  let l := t.line
  match t.why with
  | .channel n rd =>
    let s := s.setCh n { s.ch n with twinReads := (s.ch n).twinReads.filter fun x => x != rd }
    if (s.ch n).st = .retraining then s.holdRead n rd else s.deliver rd.req l poisonLine
  | .merge n => match s.regionOf (64 * l) with
    | some (i, _) => ((s.waybillEvent 0x1014 (srcCh n) n l i n 1).mergeEnds n l poisonLine).markDamaged i
    | none => s
  | .fill k => match s.tier.fills.find? fun f => f.page == k with
    | some f =>
      let open_ := (s.twin.reads.filter fun x => x.why == .fill k).map TwinRead.line
      let s := { s with twin := { s.twin with reads := s.twin.reads.filter fun (x : TwinRead) => x.why != TwinReadFor.fill k } }
      s.fillFailed f (open_ ++ [l])
    | none => s
  | .recover rd => match s.regionOf (64 * l) with
    | some (i, _) =>
      let s := (s.recovered rd l 1).poisonStored i l
      match rd with
      | some rd => s.deliver rd.req l poisonLine
      | none => s
    | none => s
  | .home k => { s with twin := { s.twin with reads := s.twin.reads.filter fun (x : TwinRead) => x.why != TwinReadFor.home k } }

/-- A line from the twin reaches whoever asked for it, with a waybill made at receive (R181, R251). -/
def State.twinServed (s : State) (t : TwinRead) (x : Line) : State :=
  let l := t.line
  if x.poison then s.twinFails t
  else
    let s := { s with twin := { s.twin with reads := s.twin.reads.filter fun y => y != t } }
    match t.why with
    | .channel n rd =>
      let s := s.setCh n { s.ch n with twinReads := (s.ch n).twinReads.filter fun y => y != rd }
      s.deliver rd.req l x
    | .merge n => match (s.ch n).merges.find? fun m => m.line == l, s.regionOf (64 * l) with
      | some m, some (i, _) => (s.waybillEvent 0x1014 (srcCh n) n l i n 2).mergeEnds n l (mergeLine x m.data m.be)
      | _, _ => s
    | .fill k =>
      ({ s with tier := { s.tier with fills := s.tier.fills.map fun (f : Fill) => if f.page = k then { f with got := f.got ++ [(l, x)] } else f } }).fillServed k
    | .recover rd =>
      let s := (s.setLine l x).recovered rd l 2
      match rd with
      | some rd => s.deliver rd.req l x
      | none => s
    | .home k => if s.nand.lost.contains k then (s.setHome l x).homeRebuilt k else s

-- @row BTT_READ_RESP
/-- R167, R251: each line of a packet serves its reader; data that DRAM returned first comes late. -/
def execBttReadResp (p : BttPkt) (s : State) : Res := .next <|
  s.rxPacket p.hdr fun s => (s.activity.rxWindow p.path.val p.stream.val p.seq.toNat) fun s =>
    match s.inMsg p with
    | none => s
    | some m =>
      let new := p.items.filter fun e => ! m.mask.contains e.1 && decide (e.1 < m.total)
      let s := (s.returnUnit p.path.val 3 1).takeLines p m (new.map Prod.fst)
      new.foldl (fun s e =>
        let l := p.line.toNat + e.1
        let late := s.twin.lateReads.filter fun t => t.line == l
        let s := { s with twin := { s.twin with lateReads := s.twin.lateReads.filter fun t => t.line != l } }
        let s := late.foldl (fun s t => match t.why with
          | .channel n _ => s.logLim 0x100C n .info (srcCh n) (n, 1, 0, 0)
          | _ => s) s
        (s.twin.reads.filter fun t => t.line == l).foldl (fun s t => s.twinServed t e.2) s) s

-- @row TWIN_READ_TIMEOUT
/-- R185, R251: a read sent to the twin gets no complete answer within its fill bound. -/
def execTwinReadTimeout (line : Nat) (s : State) : Res := .next <|
  (s.twin.reads.filter fun t => t.line == line).foldl (fun s t => s.twinFails t) s

/-! ## Convoys (R238, R245, R247) -/

/-- A run of copies of consecutive lines from a line on. -/
def runFrom (q : List TwinCopy) (ok : TwinCopy → Bool) : Nat → Nat → List TwinCopy
  | 0, _ => []
  | n + 1, l => match q.find? fun c => c.line == l with
    | some c => if ok c then c :: runFrom q ok n (l + 1) else []
    | none => []

/-- The copies of the next convoy of a data stream: from the oldest copy that the filter does not hold, a run of lines of one region in
one 2 MiB range; a partial line alone; SYNC copies that came within SYNC_COAL_NS (R238, R245). -/
def State.nextRun (s : State) (st : Nat) : List TwinCopy :=
  let q := (if st / 4 = 0 then s.twin.syncq else if st / 4 = 1 then s.twin.backlog else []).filter fun c => streamOf (st / 4) c.line == st
  match q.find? fun c => ! s.held c.line with
  | none => []
  | some c =>
    let region (l : Nat) : Option Nat := (s.regionOf (64 * l)).map Prod.fst
    let near (x : TwinCopy) : Bool := st / 4 != 0 || decide (x.start ≤ c.start + s.fld BTT_TIMING3_SYNC_COAL_NS * 10)
    let ok (x : TwinCopy) : Bool :=
      x.be.isNone && ! s.held x.line && lineRange x.line == lineRange c.line && region x.line == region c.line && near x
    if c.be.isSome then [c] else runFrom q ok 1024 c.line

/-- A FLUSH follows the last covered copy of a mirror fence on a stream (R247). -/
def State.flushFences (s : State) (st : Nat) (ids : List Nat) : State :=
  let waiting := ((s.twin.syncq.map fun c => (0, c)) ++ s.twin.backlog.map fun c => (1, c)).filter fun (e : Nat × TwinCopy) => streamOf e.1 e.2.line == st
  let ends (f : Fence) : Bool :=
    f.kind == .mirror && f.lines.any (fun i => ids.contains i) && ! waiting.any fun e => f.lines.contains e.2.id
  if s.per.fences.any ends then s.queueFlush st else s

/-- Forms a convoy from copies and queues it (R238). A SYNC convoy carries FLUSH. -/
def State.formConvoy (s : State) (st : Nat) (cs : List TwinCopy) : State :=
  match cs with
  | [] => s
  | c :: _ =>
    let ids := cs.map TwinCopy.id
    let s := { s with twin := { s.twin with
      syncq := s.twin.syncq.filter fun x => ! ids.contains x.id, backlog := s.twin.backlog.filter fun x => ! ids.contains x.id } }
    (s.queueMsg st .data c.line cs.length (cs.map TwinCopy.data) c.be cs (st / 4 == 0) none []).flushFences st ids

/-- A stream may send its next message: it has not reached its last durable mark plus 2^31 (R237). -/
def State.markOk (s : State) (m : OutMsg) : Bool :=
  decide (m.seq < Sparse.get (fun _ => 1) s.twin.txDurable m.stream + 2 ^ 31)

-- @row CONVOY_SEND
/-- R184, R237, R238, R241, R245, R362: the next message of a stream is sent, a convoy being formed from waiting copies when none is
queued. A copy whose waybill check fails (`bad`) is dropped and its range set. `ctrBad`: the copies of PKT_CTR differ. -/
def execConvoySend (st : Fin 16) (bad : List Nat) (ctrBad : Bool) (s : State) : Res := .next <|
  if s.twin.link ≠ .up then s
  else if ctrBad then s.stopLink 2
  else
    let queued (s : State) : Option OutMsg := s.twin.queued.find? fun m => m.stream == st.val
    let send (s : State) : State := match queued s with
      | some m => if s.markOk m then s.sendMsg m false else s
      | none => s
    if (queued s).isSome then send s
    else if 16384 ≤ s.twin.msgs.countP OutMsg.onLink then s
    else
      let run := s.nextRun st.val
      let fails := run.filter fun c => c.be.isNone && ! c.data.poison && (bad.contains c.line || ! c.data.checks c.line)
      if fails = [] then send (s.formConvoy st.val run)
      else
        let ids := fails.map TwinCopy.id
        let s := { s with twin := { s.twin with
          syncq := s.twin.syncq.filter fun x => ! ids.contains x.id, backlog := s.twin.backlog.filter fun x => ! ids.contains x.id } }
        let s := fails.foldl (fun s c => match s.regionOf (64 * c.line) with
          | some (i, r) => s.waybillEvent 0x3030 srcTwin 0 c.line i (s.dramAddr r (64 * c.line) (s.page (c.line / 64)).way).ch 3
          | none => s) s
        s.dropCopies fails

/-- Abandons messages of a stream up to a number (R244, R249, R250): their copies go to the bitmap, and where the twin has not
acknowledged one of them its window is advanced; RESYNC of the ranges waits for the acknowledgement of that. -/
def State.abandon (s : State) (st upto : Nat) (all : Bool) : State :=
  let mine (m : OutMsg) : Bool := m.stream == st && (all || decide (m.seq ≤ upto))
  let gone := s.twin.msgs.filter mine
  let unsent := if all then s.twin.queued.filter mine else []
  let base := if all then s.txSeq st else upto + 1
  let ranges := ((gone ++ unsent).filterMap fun m => if m.kind = .data ∧ m.total ≠ 0 then some (lineRange m.line) else none).eraseDups
  let adv := s.txSeq 12
  let open_ := all || gone.any fun m => ! m.acked
  let s := { s with twin := { s.twin with
    msgs := s.twin.msgs.filter fun m => ! mine m
    queued := if all then s.twin.queued.filter fun m => ! mine m else s.twin.queued
    abandoned := s.twin.abandoned ++ gone.map fun (m : OutMsg) => (m.stream, m.seq)
    advances := if open_ then s.twin.advances ++ [(adv, ranges)] else s.twin.advances } }
  let s := if open_ then s.queueCtrl [7, st, base % 2 ^ 32, base / 2 ^ 32] else s
  (s.dropCopies ((gone ++ unsent).flatMap OutMsg.copies)).setDirties ranges

-- @row RETX_TIMER
/-- R244: a message is not covered RETX_US after its last packet was sent. -/
def execRetxTimer (st : Fin 16) (seq : BitVec 64) (s : State) : Res := .next <|
  match s.outMsg st.val seq.toNat with
  | none => s
  | some m =>
    if s.timeNs < m.last + s.fld BTT_TIMING_RETX_US * 1000 ∨ m.first + s.fld BTT_TIMING_RETX_BUDGET * 1000 ≤ s.timeNs then s
    else s.resend m

-- @row RETX_ABANDON
/-- R244, R249: RETX_BUDGET has passed since the first sending of a message that no ACK covers. -/
def execRetxAbandon (st : Fin 16) (seq : BitVec 64) (s : State) : Res := .next <|
  match s.outMsg st.val seq.toNat with
  | none => s
  | some m =>
    if m.acked ∨ s.timeNs < m.first + s.fld BTT_TIMING_RETX_BUDGET * 1000 then s
    else
      let before := s.twin.bitmap.length
      let s := (s.bump BTT_ABANDON_CNT_COUNT).abandon st.val seq.toNat false
      s.log 0x3003 .error srcTwin st.val (seq.toNat % 2 ^ 32) (seq.toNat / 2 ^ 32) (s.twin.bitmap.length - before)

/-- The cumulative limits this side grants on a path: the class's share of the 3,072 units, divided among the UP paths, beyond the units
returned (R241). -/
def State.grants (s : State) (p : Nat) : List Nat :=
  let up := max 1 ((List.range 4).countP fun k => s.twin.pathsUp.getLsbD k)
  [BTT_RX_SHARE_CLASS0, BTT_RX_SHARE_CLASS1, BTT_RX_SHARE_CLASS2, BTT_RX_SHARE_CLASS3].zipIdx.map fun e =>
    (3072 * s.fld e.1 / 100 / up + Sparse.get (fun _ => 0) s.twin.rxLanded (4 * p + e.2)) % 2 ^ 16

-- @row KEEPALIVE_TIMER
/-- R234, R241, R255: a path idle for KA_US sends a KEEPALIVE; changed limits go out on every UP path, unless the admission queues are
full or a save runs. -/
def execKeepaliveTimer (path : Fin 4) (s : State) : Res := .next <|
  if s.twin.link ≠ .up ∨ ! s.twin.pathsUp.getLsbD path then s
  else
    let s := s.bttSend path 8 []
    if ! s.twin.rxDirty ∨ s.mc.mode = .save ∨ (List.range 4).any s.admFull then s
    else
      let s := { s with twin := { s.twin with rxDirty := false } }
      ((List.range 4).filter fun p => s.twin.pathsUp.getLsbD p).foldl (fun s p => s.bttSend p 4 (s.grants p)) s

-- @row PATH_DEAD
/-- R232, R234: nothing valid has arrived on a path for PATH_DEAD. `mtu`: the path MTU is suspected. -/
def execPathDead (path : Fin 4) (mtu : Bool) (s : State) : Res := .next <|
  let p := path.val
  if ! s.twin.pathsUp.getLsbD p ∨ s.timeNs < Sparse.get (fun _ => 0) s.twin.lastRx p + s.fld BTT_TIMING2_PATH_DEAD * 10000 then s
  else
    let s := { s with twin := { s.twin with pathsUp := s.twin.pathsUp &&& ~~~ BitVec.twoPow 4 p, downAt := s.timeNs } }
    s.log 0x3002 .notice srcTwin p 0 (if mtu then 2 else 1)

-- @row LINK_ABSENT_TIMEOUT
/-- R233: every path has been DOWN for ABSENT_MS. -/
def execLinkAbsentTimeout (s : State) : Res := .next <|
  if s.twin.link = .up ∧ s.twin.pathsUp = 0 ∧ s.twin.downAt + s.fld BTT_TIMING3_ABSENT_MS * 10 ^ 6 ≤ s.timeNs then s.leaveUp .absent 2 else s

/-! ## HELLO and the copies of regions (R228, R233, R257, R540) -/

/-- The mirrored regions this side lists. -/
def State.mirrored (s : State) : List (Nat × Region) := s.rgn.table.filter fun e => e.2.valid && e.2.mirror != .none

/-- BASE of a stream: the lowest number not covered by a CUM_SEQ, or the next one (R540). -/
def State.txBase (s : State) (st : Nat) : Nat :=
  (((s.twin.msgs.filter fun m => ! m.acked) ++ s.twin.queued).filter fun m => m.stream == st).foldl (fun b m => min b m.seq) (s.txSeq st)

/-- The words of one HELLO message (R540). -/
def State.helloWords (s : State) (es : List (Nat × Region)) (more : Bool) : List Nat :=
  let bases := (List.range 16).flatMap fun st => [s.txBase st % 2 ^ 32, s.txBase st / 2 ^ 32]
  let entry (e : Nat × Region) : List Nat :=
    [e.2.base.toNat, e.2.size.toNat, e.2.key.toNat + 2 ^ 12 * e.1, (s.copyInfo e.1).gen.toNat]
  [1, s.bttLevel + 2 ^ 16 * es.length + (if more then 2 ^ 31 else 0)] ++ bases ++ es.flatMap entry

/-- Sends HELLO on every valid path: one message of up to 4,087 entries, or two (R233, R540). -/
def State.sendHello (s : State) : State :=
  let es := s.mirrored
  let parts := if es.length ≤ 4087 then [s.helloWords es false] else [s.helloWords (es.take 4087) true, s.helloWords (es.drop 4087) false]
  parts.foldl (fun s ws =>
    let q := s.txSeq 12
    let s := { s with twin := { s.twin with txSeq := Sparse.set (fun _ => 1) s.twin.txSeq 12 (q + 1) } }
    ((List.range 4).filter fun p => s.flag BTT_PATH_CFG_VALID p).foldl (fun s p => s.bttSend p 7 ([12, q] ++ ws)) s) s

-- @row HELLO_TIMER
/-- R233: in ABSENT and REFUSED a HELLO goes out on every valid path every 1 ms. -/
def execHelloTimer (s : State) : Res := .next <|
  if (s.twin.link = .absent ∨ s.twin.link = .refused) ∧ s.twin.session then s.sendHello else s

/-- The copy region of a primary region. -/
def State.copyOf (s : State) (primary : Nat) : Option (Nat × Region) :=
  s.rgn.table.find? fun e => s.isCopy e.1 && (s.copyInfo e.1).primary == primary

/-- Tells the primary that a copy command is refused (R228). -/
def State.refuseCopy (s : State) (primary : Nat) (st : Status) : State := s.queueCtrl [5, primary, st.code]

/-- Creates a copy region, executed as a region command (R58, R227, R228). -/
def State.createCopy (s : State) (base size key primary : Nat) : State :=
  let part := s.fld BTT_LINK_CFG_COPY_PART
  if s.overlapsRegion base size none || s.reserved base size then s.refuseCopy primary .conflict
  else match (List.range 4096).find? fun i => ! (s.shadowRegion i).valid with
    | none => s.refuseCopy primary .noSpace
    | some i =>
      if size = 0 ∨ s.rgn.limitGib.toNat * 512 < base + size ∨ ! s.placeValid .cached part then s.refuseCopy primary .noSpace
      else if ! s.keyLoaded key then (s.keyAbsent none (base * 2 ^ 21) key).refuseCopy primary .keyAbsent
      else
        let r : Region := { s.shadowRegion i with
          valid := true, damaged := false, released := false, cls := .cached, persist := true, mirror := .none, shared := false
          refilling := false, base := BitVec.ofNat 27 base, size := BitVec.ofNat 27 size, key := BitVec.ofNat 12 key
          ownerSet := 0, place := BitVec.ofNat 4 part, frameBase := 0 }
        let s := s.setCopyInfo i { s.copyInfo i with copy := true, primary := primary, promoted := false }
        s.startRgnOp .create i base size ⟨[(i, r)], [], []⟩ .internal i

/-- Destroys a copy region (R62, R228). -/
def State.destroyCopy (s : State) (i : Nat) (r : Region) : State :=
  if s.reserved r.base.toNat r.size.toNat then s
  else
    let s := (s.cancelRegionOps i).setCopyInfo i { s.copyInfo i with copy := false }
    s.startRgnOp .destroy i r.base.toNat r.size.toNat ⟨[(i, { Region.empty with gen := r.gen })], [], []⟩ .internal 0

/-- Resizes a copy region, or starts a rotation of its key (R61, R228, R475). -/
def State.modifyCopy (s : State) (i : Nat) (r : Region) (size key primary : Nat) : State :=
  let o := r.size.toNat
  let end0 := r.base.toNat + o
  if size ≠ o then
    if s.reserved r.base.toNat r.size.toNat then s.refuseCopy primary .conflict
    else if size = 0 ∨ s.rgn.limitGib.toNat * 512 < r.base.toNat + size then s.refuseCopy primary .noSpace
    else if o < size ∧ (s.overlapsRegion end0 (size - o) (some i) || s.reserved end0 (size - o)) then s.refuseCopy primary .conflict
    else s.startRgnOp .modify i r.base.toNat (max o size) ⟨[(i, { r with size := BitVec.ofNat 27 size })], [], []⟩ .internal 0
  else if key ≠ r.key.toNat then
    if ! s.keyLoaded key then (s.keyAbsent none r.start key).refuseCopy primary .keyAbsent
    else if 16 ≤ s.sec.rotations.length ∨ (s.rotationOf i).isSome ∨ s.freeOpSlot.isNone then s.refuseCopy primary .conflict
    else
      let t : Rotation := ⟨i, r.key.toNat, key, 0, [], 0, s.nextOpSlot, false⟩
      ({ s with sec := { s.sec with rotations := s.sec.rotations ++ [t] } }).startOp (.keyRotate i key) .internal (some r.size.toNat)
  else s

-- @row COPY_CREATE
/-- R228. -/
def execCopyCreate (h : BttHdr) (base size : BitVec 27) (key index : BitVec 12) (s : State) : Res := .next <|
  s.rxCtrl h fun s => match s.copyOf index.toNat with
    | some (i, r) => s.modifyCopy i r size.toNat key.toNat index.toNat
    | none => s.createCopy base.toNat size.toNat key.toNat index.toNat

-- @row COPY_MODIFY
/-- R228, R475. -/
def execCopyModify (h : BttHdr) (base size : BitVec 27) (key index : BitVec 12) (s : State) : Res := .next <|
  s.rxCtrl h fun s => match s.copyOf index.toNat with
    | some (i, r) => s.modifyCopy i r size.toNat key.toNat index.toNat
    | none => s.createCopy base.toNat size.toNat key.toNat index.toNat

-- @row COPY_DESTROY
/-- R62, R228. -/
def execCopyDestroy (h : BttHdr) (index : BitVec 12) (s : State) : Res := .next <|
  s.rxCtrl h fun s => match s.copyOf index.toNat with
    | some (i, r) => s.destroyCopy i r
    | none => s

/-- A copy that was refused or is missing: every range of the region is set, and the copy is asked for again at link-up (R228). -/
def State.copyFails (s : State) (i : Nat) : State :=
  let r := s.region i
  if r.valid && r.mirror != .none then
    ({ s with twin := { s.twin with refused := insertAsc i s.twin.refused } }).setDirties r.ranges
  else s

-- @row COPY_REFUSED
/-- R228, R258. -/
def execCopyRefused (h : BttHdr) (region : BitVec 12) (status : BitVec 8) (s : State) : Res := .next <|
  s.rxCtrl h fun s => (s.log 0x3008 .error srcTwin region.toNat status.toNat).copyFails region.toNat

-- @row COPY_MISSING
/-- R228, R258. -/
def execCopyMissing (h : BttHdr) (dpa : BitVec 48) (s : State) : Res := .next <|
  s.rxCtrl h fun s => match s.regionOf dpa.toNat with
    | some (i, _) => (s.log 0x3009 .error srcTwin i (dpa.toNat % 2 ^ 32) (dpa.toNat / 2 ^ 32)).copyFails i
    | none => s

/-- A range that both sides hold as an ordinary mirrored region is resolved by PROMO_GEN (R257). -/
def State.resolveSplit (s : State) (i : Nat) (r : Region) (e : HelloEntry) : State :=
  let own := (s.copyInfo i).gen
  if own = e.gen then s.log 0x3008 .error srcTwin i Status.conflict.code
  else if e.gen.toNat < own.toNat then (s.setDirties r.ranges).log 0x3013 .critical srcTwin i own.toNat 0
  else
    let gone := r.ranges
    let s := { s with twin := { s.twin with
      swaps := s.twin.swaps ++ [i], bitmap := s.twin.bitmap.filter fun k => ! gone.contains k
      refused := s.twin.refused.filter fun j => j != i } }
    let s := s.setCopyInfo i { s.copyInfo i with copy := true, primary := e.index.toNat, promoted := false }
    let s := s.commit ⟨[(i, { r with ownerSet := 0, mirror := .none, shared := false })], [], []⟩
    (s.log 0x3013 .critical srcTwin i e.gen.toNat 1).reeval .cause

/-- Reconciles the copies with the regions a HELLO series lists (R228, R257). -/
def State.reconcile (s : State) (es : List HelloEntry) : State :=
  let orphans := s.rgn.table.filter fun e =>
    s.isCopy e.1 && ! es.any fun x => x.index.toNat == (s.copyInfo e.1).primary && x.base == e.2.base
  let s := orphans.foldl (fun s e => s.destroyCopy e.1 e.2) s
  es.foldl (fun s e =>
    match s.mirrored.find? fun x => overlap x.2.base.toNat x.2.size.toNat e.base.toNat e.size.toNat with
    | some (i, r) => s.resolveSplit i r e
    | none => match s.copyOf e.index.toNat with
      | some (i, r) => s.modifyCopy i r e.size.toNat e.key.toNat e.index.toNat
      | none => s.createCopy e.base.toNat e.size.toNat e.key.toNat e.index.toNat) s

/-- The window bases of a HELLO (R540). -/
def State.takeBases (s : State) (bases : List (BitVec 64)) : State :=
  bases.zipIdx.foldl (fun s e =>
    let st := e.2
    let b := e.1.toNat
    if b ≤ s.rxBase st then s
    else { s with twin := { s.twin with
      rxBase := Sparse.set (fun _ => 1) s.twin.rxBase st b
      rxDone := s.twin.rxDone.filter fun x => x.1 != st || decide (b ≤ x.2)
      inMsgs := s.twin.inMsgs.filter fun m => ! (m.stream == st && decide (m.seq < b)) } }) s

/-- The link goes UP (R233, R241, R254): credit is granted anew, RESYNC starts, and lost pages are asked for. -/
def State.linkUp (s : State) (cause : Nat) : State :=
  let s := { s with twin := { s.twin with refused := [], rxDirty := true } }
  (s.setTwinState .up cause).startResync.rebuildLost

-- @row HELLO
/-- R228, R233, R257, R540: bases, levels and region entries. With levels within one of each other and the last message of the series the
link goes UP; with the link UP already this side answers with its own HELLO. -/
def execHello (h : BttHdr) (m : HelloMsg) (s : State) : Res := .next <|
  s.rxPacket h fun s =>
    let own := s.bttLevel
    let s := s.takeBases m.bases
    let s := if s.rxDup 12 h.seq.toNat then s else s.rxComplete 12 h.seq.toNat
    let s := { s with twin := { s.twin with peerLevel := m.level, helloRx := s.twin.helloRx ++ m.entries } }
    if ! levelsMeet own m.level.toNat then
      let s := { s with twin := { s.twin with helloRx := [] } }
      if s.twin.link = .absent then (s.setTwinState .refused 5).log 0x300A .error srcTwin own m.level.toNat else s
    else if m.more then s
    else
      let es := s.twin.helloRx
      let s := { s with twin := { s.twin with helloRx := [] } }
      match s.twin.link with
      | .refused => ((s.setTwinState .absent 5).sendHello.linkUp 1).reconcile es
      | .absent => (s.sendHello.linkUp 1).reconcile es
      | .up => s.sendHello.reconcile es
      | _ => s

-- @row LINK_ENABLE
/-- R233: BTT_LINK_CFG.EN. Written 0 the link is DISABLED; written 1 it looks for its partner in a mode that serves BTT. -/
def execLinkEnable (en : Bool) (s : State) : Res := .next <|
  let s := s.setFld BTT_LINK_CFG_EN (if en then 1 else 0)
  if ! en then s.leaveUp .disabled 1
  else if ! s.mc.mode.serving then s
  else match s.twin.link with
    | .disabled | .refused => s.setTwinState .absent 1
    | _ => s

-- @row LINK_REKEY
/-- R233, R362: an SPDM KEY_UPDATE completes; the link sends under EPOCH + 1 with PKT_CTR from 0, and a STOPPED link is UP again. -/
def execLinkRekey (s : State) : Res := .next <|
  if ! s.twin.session then s
  else
    let s := { s with twin := { s.twin with epoch := s.twin.epoch + 1, pktCtr := 0, rekeying := false } }
    let s := s.log 0x7030 .info srcSec 0 s.twin.epoch.toNat
    if s.twin.link = .stopped then s.linkUp 4 else s

-- @row PREVIOUS_EPOCH_EXPIRY
/-- R362: 10 ms after the first packet of a new EPOCH. -/
def execPreviousEpochExpiry (s : State) : Res := .next { s with twin := { s.twin with rxPrevOk := false } }

/-! ## Budgets (R248 to R250) -/

-- @row WINDOW_ADVANCE
/-- R249: the twin discards incomplete messages below the new base of a stream, and acknowledges. -/
def execWindowAdvance (h : BttHdr) (st : Fin 16) (base : BitVec 64) (s : State) : Res := .next <|
  s.rxCtrl h fun s =>
    let b := base.toNat
    if b ≤ s.rxBase st.val then s
    else
      let s := { s with twin := { s.twin with
        rxBase := Sparse.set (fun _ => 1) s.twin.rxBase st.val b
        rxDone := s.twin.rxDone.filter fun x => x.1 != st.val || decide (b ≤ x.2)
        inMsgs := s.twin.inMsgs.filter fun m => ! (m.stream == st.val && decide (m.seq < b)) } }
      s.bttAck h.path.val st.val

/-- The ASYNC copies not yet placed: those in the backlog and those of class 1 messages. -/
def State.asyncUnplaced (s : State) : List TwinCopy :=
  s.twin.backlog ++ ((s.twin.queued ++ s.twin.msgs).filter fun m => m.stream / 4 == 1).flatMap OutMsg.copies

/-- BTT_LAG: the age in µs of the oldest ASYNC copy not yet placed, and the bytes of all of them (R249). -/
def State.lag (s : State) : Nat × Nat :=
  let cs := s.asyncUnplaced
  ((cs.foldl (fun m c => max m (s.timeNs - c.start)) 0) / 1000, 64 * cs.length)

/-- The lag watchdog fires (R249). -/
def State.lagFires (s : State) : State :=
  let (age, bytes) := s.lag
  let before := s.twin.bitmap.length
  let cs := s.twin.backlog
  let s := { s with twin := { s.twin with backlog := [] } }
  let s := [4, 5, 6, 7].foldl (fun s st => s.abandon st 0 true) s
  let s := s.dropCopies cs
  s.logLim 0x3004 0 .error srcTwin (age, bytes / 2 ^ 20, s.twin.bitmap.length - before, 0) id

-- @row LAG_EXCEEDED
/-- R249: the lag reaches LAG_US or LAG_MIB. -/
def execLagExceeded (s : State) : Res := .next <|
  let (age, bytes) := s.lag
  if s.asyncUnplaced = [] ∨ (age < s.fld BTT_TIMING_LAG_US ∧ bytes < s.fld BTT_TIMING_LAG_MIB * 2 ^ 20) then s
  else s.lagFires

-- @row SYNC_TIMEOUT
/-- R230, R248, R250: SYNC writes not completed SYNC_LIMIT after their admission complete locally, and their ranges are set. -/
def execSyncTimeout (s : State) : Res := .next <|
  let limit := s.fld BTT_TIMING2_SYNC_LIMIT * 1000
  let old (c : TwinCopy) : Bool := c.sync && c.req != .internal && decide (c.start + limit ≤ s.timeNs)
  let before := s.twin.bitmap.length
  let waits := s.twin.rangeWaits.filter fun w => decide (w.2.1 + limit ≤ s.timeNs)
  let inMsgs := s.twin.msgs.filter fun m => m.stream / 4 == 0 && m.copies.any old
  let queued := (s.twin.syncq ++ s.twin.queued.flatMap OutMsg.copies).filter old
  let n := waits.length + queued.length + (inMsgs.flatMap OutMsg.copies).countP old
  if n = 0 then s
  else
    let s := { s with twin := { s.twin with
      rangeWaits := s.twin.rangeWaits.filter fun w => ! decide (w.2.1 + limit ≤ s.timeNs)
      syncq := s.twin.syncq.filter fun c => ! old c } }
    let s := waits.foldl (fun s w => s.finishLocal w.2.2) s
    let s := s.dropCopies queued
    let s := (List.range 4).foldl (fun s st =>
      let qs := (inMsgs.filter fun m => m.stream == st).map OutMsg.seq
      if qs = [] then s else s.abandon st (qs.foldl max 0) false) s
    let ranges := s.twin.bitmap.length - before
    s.logLim 0x3005 0 .error srcTwin (n, ranges, 0, 0) fun l => { l with w4 := l.w4 + n, w5 := l.w5 + ranges }

-- @row RESYNC_RANGE_START
/-- R230, R254, R361: the next set range, one moved to the head first, else in ascending order, is read and sent as 32 class 2 convoys,
the last with FLUSH. A range waits while a convoy of it is on the link, while the window advance of its messages is not acknowledged, and
while its region's keys are not loaded. -/
def execResyncRangeStart (s : State) : Res := .next <|
  let s := s.startResync
  match s.twin.resync with
  | none => s
  | some r =>
    if ! s.twinUp ∨ r.range.isSome ∨ r.final then s.endResync
    else
      let busy (k : Nat) : Bool :=
        (s.twin.advances.any fun a => a.2.contains k) ||
        ((s.twin.queued ++ s.twin.msgs).any fun m => m.kind == .data && m.total != 0 && ! m.acked && lineRange m.line == k) ||
        match s.regionOf (k * 2 ^ 21) with
        | some (i, g) => ! s.keysLoaded i g
        | none => false
      match ((s.twin.head.filter fun k => s.twin.bitmap.contains k) ++ s.twin.bitmap).find? fun k => ! busy k with
      | none => s.endResync
      | some k =>
        let s := { s with twin := { s.twin with
          head := s.twin.head.filter (fun j => j != k), resync := some { r with range := some k, convoys := 32 } } }
        let l0 := k * 2 ^ 15
        let content (l : Nat) : Line := let x := s.latest l; if x.poison || x.checks l then x else poisonLine
        (List.range 32).foldl (fun s j =>
          let l := l0 + 1024 * j
          s.queueMsg (streamOf 2 l) .data l 1024 ((List.range 1024).map fun i => content (l + i)) none [] (j == 31)
            (if j = 31 then some k else none) []) s

/-! ## Mirror fences and promotion (R247, R256) -/

/-- The number of the next fence. -/
def State.nextFence (s : State) : Nat := s.per.fences.foldl (fun m f => max m (f.id + 1)) 0

/-- Starts a mirror fence over one region, or over all (R247): it covers the copies of writes that have completed and are not placed, and
the set ranges. Covered backlog goes first; on streams whose covered copies are all formed a FLUSH follows. -/
def State.startMirrorFence (s : State) (region : Option Nat) (src : CmdSrc) : State :=
  let waiting := s.waiters
  let named (l : Nat) : Bool := match s.regionOf (64 * l) with
    | some (i, r) => r.mirror != .none && (region.isNone || region == some i)
    | none => false
  let covered (c : TwinCopy) : Bool := named c.line && ! waiting.contains c.req
  let cs := s.twin.unplaced.filter covered
  let ranges := s.twin.bitmap.filter fun k => named (k * 2 ^ 15)
  let f : Fence := ⟨s.nextFence, .mirror, region, ranges, [], cs.map TwinCopy.id, src⟩
  let s := { s with
    per := { s.per with fences := s.per.fences ++ [f] }
    twin := { s.twin with backlog := (s.twin.backlog.filter covered) ++ s.twin.backlog.filter fun c => ! covered c } }
  let formed := ((s.twin.queued ++ s.twin.msgs).filter fun m => m.copies.any covered)
  (List.range 16).foldl (fun s st =>
    s.flushFences st ((formed.filter fun m => m.stream == st).flatMap fun m => m.copies.map TwinCopy.id)) s

/-- µs since the last data packet from the partner, saturating. -/
def State.sinceData (s : State) : Nat := min 0xFFFFFFFF ((s.timeNs - s.twin.lastData) / 1000)

/-- The owner set a promotion names is valid for a region (R60): the empty set or an entry in use, with more than one LD only for a
SHARED region. -/
def State.setFits (s : State) (set : Nat) (r : Region) : Bool :=
  set == 0 || (s.ownerSet set != 0 && (r.shared || decide (ownerCount (s.ownerSet set) ≤ 1)))

/-- A copy region becomes an ordinary one (R256): its PROMO_GEN increments and PROMOTED is logged. -/
def State.promoteInfo (s : State) (i : Nat) (planned : Bool) : State :=
  let x := s.copyInfo i
  let s := s.setCopyInfo i { x with copy := false, promoted := true, gen := x.gen + 1 }
  s.log 0x3012 .notice srcTwin i (x.gen + 1).toNat (if planned then 1 else 0) s.sinceData

-- @row PROMOTE_TWIN
/-- R256: the checks in their order. Unplanned, the copies become ordinary regions at one commit; planned, the primary is asked. -/
def execPromoteTwin (d : Desc) (s : State) : Res := .next <| s.take d 2 false false fun s =>
  let set := d.bits 3 7 0
  let planned := d.bits 3 8 8 = 1
  let rs := s.rgn.table.filter fun e => s.isCopy e.1 && (d.selector.isNone || d.selector == some e.1)
  if rs = [] ∨ rs.any fun e => ! s.setFits set e.2 then s.complete d.src .invalid
  else if ! planned ∧ s.twinUp then s.complete d.src .conflict
  else if planned ∧ ! s.twinUp then s.complete d.src .partnerAbsent
  else if rs.any fun e => s.reserved e.2.base.toNat e.2.size.toNat then s.complete d.src .conflict
  else if planned then
    rs.foldl (fun s e =>
      ({ s with twin := { s.twin with promotes := s.twin.promotes ++ [(⟨e.1, set, d.src⟩ : Promote)] } }).queueCtrl [8, (s.copyInfo e.1).primary, e.1]) s
  else
    let us := s.sinceData
    let entries := rs.map fun e => (e.1, { e.2 with ownerSet := BitVec.ofNat 8 set })
    let s := rs.foldl (fun s e => s.promoteInfo e.1 false) s
    match rs with
    | [] => s
    | e :: _ => s.startRgnOp .promote e.1 e.2.base.toNat e.2.size.toNat ⟨entries, [], []⟩ d.src us

-- @row PROMOTE_REQ
/-- R256: the primary refuses while its region's owner set is not empty; otherwise a mirror fence over the region runs first.
`copy`: the region's index on the twin. -/
def execPromoteReq (h : BttHdr) (region copy : BitVec 12) (s : State) : Res := .next <|
  s.rxCtrl h fun s =>
    let i := region.toNat
    let r := s.region i
    if ! r.valid ∨ r.mirror = .none ∨ r.ownerSet ≠ 0 ∨ s.reserved r.base.toNat r.size.toNat then s.queueCtrl [9, i, 0, 0]
    else
      let id := s.nextFence
      let s := s.startMirrorFence (some i) .internal
      let s := s.setCopyInfo i { s.copyInfo i with primary := copy.toNat }
      { s with twin := { s.twin with demotes := s.twin.demotes ++ [(id, i)] } }

/-- The primary's side of a planned swap, once the mirror fence has completed (R256): its region becomes the copy, with an empty owner
set, and the twin is told its mirror attribute. -/
def State.demote (s : State) (i : Nat) : State :=
  let r := s.region i
  if r.ownerSet ≠ 0 ∨ ! r.valid then s.queueCtrl [9, i, 0, 0]
  else
    let s := { s with twin := { s.twin with swaps := s.twin.swaps ++ [i] } }
    let s := s.setCopyInfo i { s.copyInfo i with copy := true, promoted := false }
    let s := s.startRgnOp .demote i r.base.toNat r.size.toNat ⟨[(i, { r with mirror := .none })], [], []⟩ .internal 0
    s.queueCtrl [9, i, 1, r.mirror.code]

-- @row PROMOTE_ACK
/-- R256: the primary's answer. Refused, the promotion completes with CONFLICT; else the roles swap at one commit, and the promoted region
keeps the mirror attribute of the old primary. -/
def execPromoteAck (h : BttHdr) (region : BitVec 12) (ok : Bool) (mirror : Fin 3) (s : State) : Res := .next <|
  s.rxCtrl h fun s =>
    match s.twin.promotes.find? fun p => (s.copyInfo p.region).primary == region.toNat with
    | none => s
    | some p =>
      if ! ok then
        let s := { s with twin := { s.twin with promotes := s.twin.promotes.filter fun x => x.src != p.src } }
        s.complete p.src .conflict
      else
        let i := p.region
        let r := s.region i
        let s := { s with twin := { s.twin with
          promotes := s.twin.promotes.filter (fun x => x != p), swaps := s.twin.swaps ++ [i] } }
        let last := ! s.twin.promotes.any fun x => x.src == p.src
        let us := s.sinceData
        let s := s.promoteInfo i true
        let new : Region := { r with ownerSet := BitVec.ofNat 8 p.set, mirror := (mirrorOf mirror.val).getD .none }
        s.startRgnOp .promote i r.base.toNat r.size.toNat ⟨[(i, new)], [], []⟩ (if last then p.src else .internal) us

end Sys2Proof.Machine
end

