-- ==== Sys2Proof/Machine/Fences.lean ====
section
/-!
DEFINITION. The fences and the global persistent flush (R92 to R94, R247, R330).
-/
namespace Sys2Proof.Machine

/-- A region selector names a valid region, or all (R324). -/
def State.selects (s : State) (sel : Option Nat) : Bool := match sel with
  | none => true
  | some i => (s.region i).valid

/-- A page belongs to a selected region. -/
def State.selectedPage (s : State) (sel : Option Nat) (k : Nat) : Bool :=
  (s.regionOf (4096 * k)).any fun e => sel.isNone || sel == some e.1

/-- What a persist fence waits for when it is taken (R92): in UNARMED the exposed pages, and the local programs of mirrored writes that
were completed by twin placement; otherwise nothing. -/
def State.persistFence (s : State) (kind : FenceKind) (id : Nat) (sel : Option Nat) (src : CmdSrc) : Fence :=
  if s.per.guard ≠ .unarmed then ⟨id, kind, sel, [], [], [], src⟩
  else
    let pages := ((s.tier.pages.filter fun e => e.2.counted).map Prod.fst).filter (s.selectedPage sel)
    let lines := ((s.per.wts.filter WriteThrough.twinDone).map WriteThrough.page).filter (s.selectedPage sel)
    ⟨id, kind, sel, pages, [], lines, src⟩

/-- Adds a fence. -/
def State.addFence (s : State) (f : Fence) : State := { s with per := { s.per with fences := s.per.fences ++ [f] } }

/-- A waiting fence, by its number and kind. -/
def State.fenceAt (s : State) (id : Nat) (kind : FenceKind) : Option Fence := s.per.fences.find? fun f => f.id == id && f.kind == kind

/-- A fence is over. -/
def State.dropFence (s : State) (id : Nat) : State :=
  { s with per := { s.per with fences := s.per.fences.filter fun f => f.id != id } }

/-- A fence waits for nothing any more. -/
def Fence.met (f : Fence) : Bool := f.pages == [] && f.lines == [] && f.writes == []

-- @row FENCE_PERSIST
/-- R92: one region or all regions. -/
def execFencePersist (d : Desc) (s : State) : Res := .next <| s.take d 1 false false fun s =>
  if ! s.selects d.selector then s.complete d.src .invalid
  else s.addFence (s.persistFence .persist s.nextFence d.selector d.src)

-- @row FENCE_PERSIST_DONE
/-- R92: the covered writes are persistent locally. -/
def execFencePersistDone (id : Nat) (s : State) : Res := .next <|
  match s.fenceAt id .persist with
  | some f => if f.met then (s.dropFence id).complete f.src .ok else s
  | none => s

-- @row FENCE_MIRROR
/-- R247: PARTNER_ABSENT when the link is not UP; otherwise a long operation. -/
def execFenceMirror (d : Desc) (s : State) : Res := .next <| s.take d 1 false true fun s =>
  if ! s.selects d.selector then s.complete d.src .invalid
  else if ! s.twinUp then s.complete d.src .partnerAbsent
  else
    let id := s.nextFence
    (s.startOp (.fenceMirror id) d.src none).startMirrorFence d.selector d.src

-- @row FENCE_MIRROR_DONE
/-- R247, R256: every covered write is placed. A fence that is suspended does not complete; the fence of a planned promotion lets the
primary swap. -/
def execFenceMirrorDone (id : Nat) (s : State) : Res := .next <|
  match s.fenceAt id .mirror with
  | none => s
  | some f =>
    if ! f.met then s
    else match s.twin.demotes.find? fun e => e.1 == id with
      | some e =>
        let s := s.dropFence id
        ({ s with twin := { s.twin with demotes := s.twin.demotes.filter fun x => x.1 != id } }).demote e.2
      | none => match s.rings.ops.find? fun o => o.kind == .fenceMirror id && o.st == .running with
        | some o => (s.dropFence id).endOp o .ok 0
        | none => match f.src with
          | .rdma _ _ => (s.dropFence id).complete f.src .ok
          | _ => s

-- @row FENCE_TIER
/-- R93: a long operation over the pages of the named regions that count now. -/
def execFenceTier (d : Desc) (s : State) : Res := .next <| s.take d 1 false true fun s =>
  if ! s.selects d.selector then s.complete d.src .invalid
  else
    let id := s.nextFence
    let pages := ((s.tier.pages.filter fun e => e.2.counted).map Prod.fst).filter (s.selectedPage d.selector)
    let k := s.nextOpSlot
    let s := (s.startOp (.fenceTier id) d.src none).addFence ⟨id, .tier, d.selector, pages, [], [], d.src⟩
    match s.opAt k with
    | some o => s.setOp { o with param := pages.length }
    | none => s

-- @row FENCE_TIER_DONE
/-- R93: every covered page is in its home; PARAM gives their count. -/
def execFenceTierDone (id : Nat) (s : State) : Res := .next <|
  match s.fenceAt id .tier, s.rings.ops.find? fun o => o.kind == .fenceTier id && o.st == .running with
  | some f, some o => if f.met then (s.dropFence id).endOp o .ok o.param else s
  | _, _ => s

/-! ## Global persistent flush (R94, R279) -/

/-- A link that has the flush: up, and at CXL 2.0 or later (R279). -/
def State.hasGpf (s : State) (p l : Nat) : Bool := (s.linkAt p l).up && decide (2 ≤ (s.linkAt p l).ver)

-- @row GPF_PHASE1
/-- R94: phase 1 does nothing and is answered. -/
def execGpfPhase1 (port : PortId) (link : LinkId) (s : State) : Res := .next <|
  if s.hasGpf port link then s.emit (.gpfDone port link 1) else s

-- @row GPF_PHASE2
/-- R94: in ARMED and THIN every accepted write has to land in DRAM; in UNARMED every completed write has to be persistent locally. -/
def execGpfPhase2 (port : PortId) (link : LinkId) (s : State) : Res := .next <|
  if ! s.hasGpf port link then s
  else
    let f := s.persistFence .gpf 0 none .internal
    let f := if s.per.guard = .unarmed then f
      else { f with writes := ((s.tier.wayWrites ++ s.per.adm).map AdmWrite.req).filter fun r => r != .internal }
    { s with per := { s.per with gpf := s.per.gpf ++ [(port.val, link.val, f)] } }

-- @row GPF_PHASE2_DONE
/-- R94: the condition of phase 2 holds. -/
def execGpfPhase2Done (port : PortId) (link : LinkId) (s : State) : Res := .next <|
  match s.per.gpf.find? fun e => e.1 == port.val && e.2.1 == link.val with
  | none => s
  | some (_, _, f) =>
    let waiting := (s.tier.wayWrites ++ s.per.adm).map AdmWrite.req
    if f.pages != [] ∨ f.lines != [] ∨ f.writes.any fun r => waiting.contains r then s
    else
      let s := { s with per := { s.per with gpf := s.per.gpf.filter fun e => ! (e.1 == port.val && e.2.1 == link.val) } }
      s.emit (.gpfDone port link 2)

end Sys2Proof.Machine
end

