-- ==== Sys2Proof/Machine/Ports.lean ====
section
/-!
DEFINITION. The supply rails and reference clocks in service (R500, R505, R541), and the CXL links of the ports: training, link
down, resets, viral and IDE streams (R260 to R266, R271, R278 to R281, R288, R363, R509).
-/
namespace Sys2Proof.Machine

/-! ## Requests of a link that goes away (R271) -/

/-- Requests of a port: those a test on the LD selects. -/
def Requester.ofPort (p : Nat) (ld : Nat → Bool) : Requester → Bool
  | .host p' l _ => p' == p && ld l
  | _ => false

/-- A request whose port no longer waits for it: its port number plus 8, so that its completion finds no link (R271). -/
def Requester.detached : Requester → Requester
  | .host p l t => .host (p % 8 + 8) l t
  | r => r

/-- The accepted requests of some LDs of a port give no completion any more (R271): reads are dropped, writes go on and land. -/
def State.dropRequests (s : State) (p : Nat) (ld : Nat → Bool) : State :=
  let mine (r : Requester) : Bool := r.ofPort p ld
  let off (r : Requester) : Requester := if mine r then r.detached else r
  let live (rds : List PendingRead) : List PendingRead := rds.filter fun rd => ! mine rd.req
  let s := s.renameWriters off
  let chan (c : Channel) : Channel := { c with held := live c.held, twinReads := live c.twinReads }
  let read (t : TwinRead) : TwinRead := match t.why with
    | .recover (some rd) => if mine rd.req then { t with why := .recover none } else t
    | _ => t
  { s with
    tier := { s.tier with reads := live s.tier.reads }
    chans := s.chans.map fun (c : Nat × Channel) => (c.1, chan c.2)
    twin := { s.twin with reads := s.twin.reads.map read } }

/-! ## Links (R260 to R266, R271) -/

/-- The LDs of link l of a port (R260). -/
def State.linkLds (s : State) (p l : Nat) : List Nat := (List.range 16).filter fun ld => s.ldLink p ld == l

/-- The LDs a link presents, as it trains (R264, R266): the enabled ones; at CXL 1.1 the lowest LD of the link alone. -/
def State.presented (s : State) (p l ver : Nat) : BitVec 16 :=
  let lds := s.linkLds p l
  let lds := if ver < 2 then lds.take 1 else lds.filter fun ld => (s.fld PRT_LD_EN_MASK p l).testBit ld
  lds.foldl (fun b ld => b ||| BitVec.ofNat 16 (2 ^ ld)) 0

/-- A link may train (R500, R505, R509): its port is powered and clocked and its PERST_N is high. -/
def State.mayTrain (s : State) (p : Nat) : Bool :=
  s.mc.mode != .off && s.mc.mode != .standby && s.mc.mode != .save && ! s.ports.perst.getLsbD p &&
    ! s.clk.refLost.getLsbD (p / 2) && ! s.pw.railFault.getLsbD 3

-- @row CXL_LINK_UP
/-- R262, R264, R266: a link finishes training with its width, rate (as PRT_LINK_STAT.RATE), version (as PRT_CAP.VER_MAX) and flit
mode. -/
def execCxlLinkUp (port : PortId) (link : LinkId) (width : Fin 17) (rate : Fin 7) (ver : Fin 5) (flit256 : Bool) (s : State) : Res := .next <|
  let p := port.val
  let l := link.val
  let n := bifurLinks (s.bifur p)
  if ! s.mayTrain p ∨ n ≤ l ∨ width.val = 0 ∨ 16 / n < width.val ∨ rate.val = 0 ∨ ver.val = 0 then s
  else
    let x : CxlLink := { CxlLink.down with
      up := true, width := width.val, rate := rate.val, ver := ver.val, flit256 := flit256
      viral := (s.linkAt p l).viral, lds := s.presented p l ver.val }
    let s := (s.setLink p l x).log 0x4001 .notice (srcPort p) (p + 16 * l) 1 ver.val
    if width.val < 16 / n ∨ rate.val < 3 then s.log 0x4002 .notice (srcPort p) (p + 16 * l) width.val rate.val else s

/-- A link goes down (R271): LINK_STATE, ERROR in a serving mode; the global persistent flush of the link is not answered. A viral
link stays viral until a reset. -/
def State.linkDown (s : State) (p l : Nat) : State :=
  let x := s.linkAt p l
  if ! x.up then s
  else
    let s := s.dropRequests p fun ld => s.ldLink p ld == l
    let s := { s with per := { s.per with gpf := s.per.gpf.filter fun g => ! (g.1 == p && g.2.1 == l) } }
    let s := s.setLink p l { CxlLink.down with viral := x.viral }
    s.log 0x4001 (if s.mc.mode.serving then .error else .notice) (srcPort p) (p + 16 * l) 0 x.ver

-- @row CXL_LINK_DOWN
/-- R271: a link goes down; accepted writes land and accepted reads are dropped. -/
def execCxlLinkDown (port : PortId) (link : LinkId) (s : State) : Res := .next (s.linkDown port.val link.val)

/-- The HDM decoders of some LDs of a port, locked ones included, return to their reset values (R271). -/
def State.resetDecoders (s : State) (p : Nat) (lds : List Nat) : State :=
  { s with rgn := { s.rgn with hdm := s.rgn.hdm.filter fun e => ! (e.1 / 64 == p && lds.contains (e.1 / 4 % 16)) } }

/-- A link is no longer viral (R278). -/
def State.clearViral (s : State) (p l : Nat) : State := s.setLink p l { s.linkAt p l with viral := false }

-- @row CXL_HOT_RESET
/-- R271, R278: a hot reset of a link resets its LDs: LD_RESET for each LD the link presents. -/
def execCxlHotReset (port : PortId) (link : LinkId) (s : State) : Res := .next <|
  let p := port.val
  let l := link.val
  let x := s.linkAt p l
  if ! x.up then s
  else
    let s := ((s.dropRequests p fun ld => s.ldLink p ld == l).resetDecoders p (s.linkLds p l)).clearViral p l
    ((s.linkLds p l).filter fun ld => x.lds.getLsbD ld).foldl (fun s ld => s.log 0x4003 .notice (srcPort p) (s.portWord p ld) 1) s

-- @row CXL_RESET
/-- R271, R278: a CXL Reset of an LD. -/
def execCxlReset (port : PortId) (ld : Fin 16) (s : State) : Res := .next <|
  let p := port.val
  if ! s.ldEnabled p ld.val then s
  else
    let s := ((s.dropRequests p fun k => k == ld.val).resetDecoders p [ld.val]).clearViral p (s.ldLink p ld.val)
    s.log 0x4003 .notice (srcPort p) (s.portWord p ld.val) 2

-- @row PERST_ASSERT
/-- R271, R509: PEp_PERST_N goes low: a conventional reset of the port's links and LDs. -/
def execPerstAssert (port : PortId) (s : State) : Res := .next <|
  let p := port.val
  if s.mc.mode = .off then s
  else
    let s := { s with ports := { s.ports with perst := s.ports.perst ||| BitVec.ofNat 8 (2 ^ p) } }
    let s := (List.range 4).foldl (fun s l => (s.linkDown p l).clearViral p l) s
    s.resetDecoders p (List.range 16)

-- @row PERST_RELEASE
/-- R509: PEp_PERST_N goes high. -/
def execPerstRelease (port : PortId) (s : State) : Res := .next
  { s with ports := { s.ports with perst := s.ports.perst &&& ~~~ BitVec.ofNat 8 (2 ^ port.val) } }

-- @row VIRAL_RECEIVED
/-- R278: the host signals viral on a link. -/
def execViralReceived (port : PortId) (link : LinkId) (s : State) : Res := .next <|
  let p := port.val
  let l := link.val
  let x := s.linkAt p l
  if ! x.up ∨ x.viral then s
  else (s.setLink p l { x with viral := true }).log 0x4005 .error (srcPort p) (p + 16 * l)

-- @row VIRAL_SENT
/-- R278: an uncorrectable error in a link's transaction entries or header path. `unit`: the failing unit. -/
def execViralSent (port : PortId) (link : LinkId) (unit : Word) (s : State) : Res := .next <|
  let p := port.val
  let l := link.val
  let x := s.linkAt p l
  if ! x.up ∨ x.viral then s
  else (s.setLink p l { x with viral := true }).log 0x4004 .critical (srcPort p) (p + 16 * l) unit.toNat

/-! ## IDE streams (R280, R281, R363) -/

/-- Stream ID of an IDE stream in events and in the list of insecure streams (log entry 25): 0 CXL.mem, 1 CXL.io of the link, 2 + k
selective stream k. -/
def IdeStream.id : IdeStream → Nat
  | .mem => 0
  | .io => 1
  | .selective k => 2 + k.val

/-- The key of a stream in the list of insecure streams: selective streams are numbered over the device (R280). -/
def IdeStream.key (x : IdeStream) (p l : Nat) : Nat := (4 * p + l) * 256 + x.id

-- @row IDE_KM_K_SET_GO
/-- R281, R363: K_SET_GO activates keys for a stream; it is secure, and transmits, again. IDE is there at CXL 2.0 or later, and IDE_KM
runs over a secured session on DOE (R280). -/
def execIdeKmKSetGo (port : PortId) (link : LinkId) (stream : IdeStream) (s : State) : Res := .next <|
  let p := port.val
  let l := link.val
  let x := s.linkAt p l
  if ! x.up ∨ x.ver < 2 ∨ s.sec.doeSessions = 0 then s
  else match stream with
    | .mem => s.setLink p l { x with ide := 1, macFails := [], ideStopped := false }
    | _ => { s with ports := { s.ports with insecure := s.ports.insecure.filter fun k => k != stream.key p l } }

-- @row IDE_REKEY_DUE
/-- R363: the invocation counter of a stream is within 2^32 of its limit. -/
def execIdeRekeyDue (port : PortId) (link : LinkId) (stream : IdeStream) (s : State) : Res := .next <|
  if (s.linkAt port.val link.val).up then s.log 0x7032 .notice (srcPort port.val) (port.val + 16 * link.val) stream.id else s

-- @row IDE_COUNTER_LIMIT
/-- R281, R363: the invocation counter of a stream reaches its limit: the stream stops transmitting and is insecure. -/
def execIdeCounterLimit (port : PortId) (link : LinkId) (stream : IdeStream) (s : State) : Res := .next <|
  let p := port.val
  let l := link.val
  let x := s.linkAt p l
  if ! x.up then s
  else
    let s := match stream with
      | .mem => s.setLink p l { x with ide := 2, macFails := [], ideStopped := true }
      | _ => { s with ports := { s.ports with insecure := (stream.key p l) :: s.ports.insecure.filter fun k => k != stream.key p l } }
    (s.log 0x7031 .error srcSec 1 p 1).log 0x4007 .error (srcPort p) (p + 16 * l) stream.id

/-! ## Ethernet links (R39) -/

-- @row ETH_LINK_UP
/-- R39: the link of an Ethernet port comes up. -/
def execEthLinkUp (eth : CwId) (s : State) : Res := .next <|
  let m := s.mc.mode
  if m = .off ∨ m = .standby ∨ m = .save ∨ m = .recovery ∨ m = .maintenance ∨ s.clk.refLost.getLsbD (4 + eth.val / 2) ∨
      s.pw.railFault.getLsbD 3 then s
  else { s with rdma := { s.rdma with ethUp := s.rdma.ethUp ||| BitVec.ofNat 4 (2 ^ eth.val) } }

/-- The link of an Ethernet port is down: BTT paths and queue pairs follow by their own timers (R234, R302). -/
def State.ethDown (s : State) (e : Nat) : State :=
  let b := ~~~ BitVec.ofNat 4 (2 ^ e)
  { s with rdma := { s.rdma with ethUp := s.rdma.ethUp &&& b, paused := s.rdma.paused &&& b } }

-- @row ETH_LINK_DOWN
/-- R39: the link of an Ethernet port goes down, and its lanes are powered off. -/
def execEthLinkDown (eth : CwId) (s : State) : Res := .next (s.ethDown eth.val)

/-! ## Rails and references in service (R500, R505, R541) -/

-- @row RAIL_FAULT
/-- R500, R541: VDD_FLASH or a SerDes rail leaves its range, or a rail rises above it: RAIL_FAULT. Flash requests wait while VDD_FLASH
is out, and the links are down while a SerDes rail is. -/
def execRailFault (rail : Fin 6) (s : State) : Res := .next <|
  let b := BitVec.ofNat 6 (2 ^ rail.val)
  if s.mc.mode = .off ∨ ! s.pw.railEn.getLsbD rail.val ∨ s.pw.railFault.getLsbD rail.val then s
  else
    let pw := { s.pw with
      railOk := s.pw.railOk &&& ~~~b, railFault := s.pw.railFault ||| b
      vddqExcursion := s.pw.vddqExcursion || (rail.val == 4 && s.mc.mode == .save) }
    let s := ({ s with pw := pw }).log 0x9021 .error srcPower rail.val 1
    if rail.val = 3 then
      let s := (List.range 32).foldl (fun s k => s.linkDown (k / 4) (k % 4)) s
      (List.range 4).foldl (fun s e => s.ethDown e) s
    else s

-- @row RAIL_RETURN
/-- R541: a main rail is back inside its range: RAIL_OK, RAIL_FAULT with w5 0 when its fault was written, and flash requests go on. A
power-up sequence that waits for the rail can end. -/
def execRailReturn (rail : Fin 6) (s : State) : Res := .next <|
  let b := BitVec.ofNat 6 (2 ^ rail.val)
  if s.mc.mode = .off then s
  else
    let was := s.pw.railFault.getLsbD rail.val
    let ok := s.pw.railOk ||| b
    let ready := s.pw.seqReady || (s.mc.mode == .standby && s.pw.seqRail.isNone && s.pw.seqRaised != 0 && ok == 63#6)
    let s := { s with pw := { s.pw with railOk := ok, railFault := s.pw.railFault &&& ~~~b, seqReady := ready } }
    let s := if was then s.log 0x9021 .notice srcPower rail.val 0 else s
    if rail.val = 2 then ({ s with flash := { s.flash with brownout := false } }).startFlash else s

/-- GLB_CLK_STAT of a reference input: 0 to 3 REFCLK_CXL, 4 and 5 REFCLK_ETH, 6 SYSCLK_25M. -/
def Clocks.setRef (c : Clocks) (k : Nat) (on : Bool) : Clocks :=
  if k < 4 then { c with cxlRef := if on then c.cxlRef ||| BitVec.ofNat 4 (2 ^ k) else c.cxlRef &&& ~~~ BitVec.ofNat 4 (2 ^ k) }
  else if k < 6 then
    { c with ethRef := if on then c.ethRef ||| BitVec.ofNat 2 (2 ^ (k - 4)) else c.ethRef &&& ~~~ BitVec.ofNat 2 (2 ^ (k - 4)) }
  else { c with sys25 := on, holdover := ! on }

-- @row REFCLK_LOST
/-- R505: a reference stops or leaves tolerance: REFCLK_LOST. SYSCLK_25M goes into holdover; a CXL or Ethernet reference takes down the
links of its two ports. -/
def execRefclkLost (ref : Fin 7) (s : State) : Res := .next <|
  let k := ref.val
  if s.mc.mode = .off ∨ s.clk.refLost.getLsbD k then s
  else
    let s := { s with clk := { s.clk.setRef k false with refLost := s.clk.refLost ||| BitVec.ofNat 7 (2 ^ k) } }
    let s := s.log 0x9023 .error srcPower k 1
    if k < 4 then (List.range 8).foldl (fun s j => s.linkDown (2 * k + j / 4) (j % 4)) s
    else if k < 6 then (s.ethDown (2 * (k - 4))).ethDown (2 * (k - 4) + 1)
    else s

-- @row REFCLK_RETURN
/-- R505: a reference has been within tolerance for 100 ms: holdover ends, or its links may retrain. -/
def execRefclkReturn (ref : Fin 7) (s : State) : Res := .next <|
  let k := ref.val
  if s.mc.mode = .off then s
  else
    let was := s.clk.refLost.getLsbD k
    let s := { s with clk := { s.clk.setRef k true with refLost := s.clk.refLost &&& ~~~ BitVec.ofNat 7 (2 ^ k) } }
    if was then s.log 0x9023 .notice srcPower k 0 else s

end Sys2Proof.Machine
end

