-- ==== Sys2Proof/Machine/Rdma.lean ====
section
/-!
DEFINITION. The RDMA engine (chapter 11): the responder (R290 to R299), the requester queues with their gates (R300 to R305),
congestion and pause (R306 to R308), and the states of queue pairs and memory keys (R292, R293).
-/
namespace Sys2Proof.Machine

/-! ## A queue pair's context (R310) -/

/-- Word k of a context. -/
def Qp.word (x : Qp) (k : Nat) : Nat := (x.ctx.getD k 0).toNat

/-- Bits of word 0: REQ, ETH_PORT, MTU in bytes, FLUSH_MIRROR, PD, RETRY. -/
def Qp.isReq (x : Qp) : Bool := (x.word 0).testBit 2
def Qp.port (x : Qp) : Nat := x.word 0 / 8 % 4
def Qp.mtu (x : Qp) : Nat := 1024 * 2 ^ min 2 (x.word 0 / 32 % 4)
def Qp.flushMirror (x : Qp) : Bool := (x.word 0).testBit 7
def Qp.pd (x : Qp) : Nat := x.word 0 / 2 ^ 16 % 256
def Qp.retry (x : Qp) : Nat := x.word 0 / 2 ^ 24 % 8

/-- The next PSN sent and expected. -/
def Qp.sqPsn (x : Qp) : Nat := x.word 2 % 2 ^ 24
def Qp.rqPsn (x : Qp) : Nat := x.word 3 % 2 ^ 24

/-- Sets the next PSN sent or expected. -/
def Qp.setSq (x : Qp) (n : Nat) : Qp := { x with ctx := x.ctx.set 2 (BitVec.ofNat 32 (n % 2 ^ 24)) }
def Qp.setRq (x : Qp) (n : Nat) : Qp := { x with ctx := x.ctx.set 3 (BitVec.ofNat 32 (n % 2 ^ 24)) }

/-- Packets of a message of some bytes. -/
def Qp.packets (x : Qp) (len : Nat) : Nat := max 1 ((len + x.mtu - 1) / x.mtu)

/-- PSN a is at or after PSN b. -/
def psnGe (a b : Nat) : Bool := decide ((a + 2 ^ 24 - b % 2 ^ 24) % 2 ^ 24 < 2 ^ 23)

/-! ## Packets that arrive (R290, R291, R299, R306) -/

/-- A packet marked CE causes a congestion notification, at most one per queue pair and CNP_US (R306). -/
def State.congested (s : State) (q : Nat) (ce : Bool) : State :=
  let x := s.qp q
  let due := match x.lastCnp with
    | none => true
    | some t => decide (t + s.fld RDMA_CC_CNP_US * 1000 ≤ s.timeNs)
  if ce && due then
    ((s.setQp q { x with lastCnp := some s.timeNs }).bump RDMA_CNP_SENT_CNT_COUNT).rdmaSend q 8 []
  else s

/-- A packet arrives (R34, R290, R291, R299): dropped without an answer in modes that serve no RDMA; dropped and counted for another
QPN, a queue pair not in RTS, or a port that does not accept RoCEv2. It is activity (R41). -/
def State.rdmaPacket (s : State) (h : RdmaHdr) (body : Nat → State → State) : State :=
  let q := h.qpn.toNat - 0x400
  if ! s.mc.mode.serving then s
  else if h.qpn.toNat < 0x400 ∨ 8192 ≤ q ∨ (s.qp q).st ≠ .rts ∨ ! (s.fld RDMA_CTL_PORT_EN).testBit (s.qp q).port then
    s.bump RDMA_DROP_CNT_COUNT
  else body q (s.activity.congested q h.ce)

/-- NAK invalid request, which moves the queue pair to ERROR with cause 4 (R298). -/
def State.nakInvalid (s : State) (q psn : Nat) : State := (s.rdmaNak q psn 1).qpError q 4 psn none

/-- The order of a request by its PSN (R296): a new one takes its PSNs, a duplicate is handled apart, and one ahead of the expected
PSN is answered with NAK sequence error (syndrome 0) and dropped. -/
def State.rdmaOrder (s : State) (q psn n : Nat) (new dup : State → State) : State :=
  let x := s.qp q
  if psn = x.rqPsn then new (s.setQp q (x.setRq (psn + n)))
  else if psnGe psn x.rqPsn then s.rdmaNak q psn 0
  else dup (s.bump RDMA_DUP_CNT_COUNT)

/-! ## Memory keys (R293) -/

/-- Word k of a memory-key entry. -/
def State.mkey (s : State) (e k : Nat) : Nat := ((Sparse.get (fun _ => keyReset) s.rdma.keys e).getD k 0).toNat

/-- The checks of R293 after the opcode's: the region and the DPA that a request names. `right`: bit of RIGHTS, 1 RD, 2 WR, 3 ATOMIC,
4 FLUSH. -/
def State.mkeyGrants (s : State) (q : Nat) (rkey : Word) (va len right : Nat) : Option (Nat × Region × Nat) :=
  let e := rkey.toNat / 2 ^ 18
  let w (k : Nat) : Nat := s.mkey e k
  let i := w 0 / 2 ^ 16 % 4096
  let r := s.region i
  let base := w 2 + w 3 * 2 ^ 32
  let off := (w 4 + w 5 % 16 * 2 ^ 32) * 4096
  let size := (w 6 + w 7 % 16 * 2 ^ 32) * 4096
  if w 0 % 2 = 0 ∨ w 1 % 2 ^ 18 ≠ rkey.toNat % 2 ^ 18 ∨ w 0 / 256 % 256 ≠ (s.qp q).pd then none
  else if ! r.valid ∨ r.gen.toNat ≠ w 7 / 2 ^ 16 then none
  else if ! (w 0).testBit right then none
  else if va < base ∨ base + size < va + len ∨ r.bytes < off + (va - base) + len then none
  else if ! s.keyLoaded (s.lineKey i r ((r.start + off + (va - base)) / 64)) then none
  else some (i, r, r.start + off + (va - base))

/-- A request fails its checks (R293, R298): NAK remote access error, RDMA_ACCESS_FAIL, and ERROR with cause 4. A region whose key slot
is not loaded counts as a failed key check (R352). -/
def State.accessFails (s : State) (q psn : Nat) (rkey : Word) : State :=
  let e := rkey.toNat / 2 ^ 18
  let r := s.region (s.mkey e 0 / 2 ^ 16 % 4096)
  let s := s.rdmaNak q psn 2
  let s := if s.mkey e 0 % 2 = 1 ∧ r.valid ∧ ! s.keyLoaded r.key.toNat then s.keyAbsent none r.start r.key.toNat else s
  let s := s.logLim 0x4041 0 .notice srcRdma (0x400 + q, 1, rkey.toNat, 0) fun l =>
    { l with w4 := 0x400 + q, w5 := l.w5 + 1, w6 := rkey.toNat }
  s.qpError q 4 psn none

/-! ## Writes (R290, R294) -/

/-- The bytes of a message as writes of lines: line, data and byte enables. -/
def splitBytes (dpa : Nat) (bs : List Byte) : List (Nat × LineData × BitVec 64) :=
  let n := bs.length
  if n = 0 then []
  else
    let byte (a : Nat) : Nat := if dpa ≤ a ∧ a < dpa + n then (bs.getD (a - dpa) 0).toNat else 0
    (List.range ((dpa + n - 1) / 64 - dpa / 64 + 1)).map fun k =>
      let l := dpa / 64 + k
      let data := (List.range 64).foldl (fun d j => d + byte (64 * l + j) * 2 ^ (8 * j)) 0
      let be := (List.range 64).foldl (fun d j => if dpa ≤ 64 * l + j ∧ 64 * l + j < dpa + n then d + 2 ^ j else d) 0
      (l, BitVec.ofNat 512 data, BitVec.ofNat 64 be)

/-- Stores a write of the engine; one whose region is gone is complete without effect. -/
def State.rdmaStore (s : State) (cw l : Nat) (data : LineData) (be : BitVec 64) (req : Requester) : State :=
  match s.regionOf (64 * l) with
  | some (i, r) => s.storeWrite (s.newWrite cw l data be false req) i r
  | none => s.finishWrite req

/-- The packets of a request wait until each of their lines is complete (R294). -/
def State.addPend (s : State) (q : Nat) (e : QpPend) : State :=
  let x := s.qp q
  s.setQp q { x with pend := x.pend ++ [e] }

/-- The bytes of one WRITE packet go to their lines. -/
def State.rdmaWriteBytes (s : State) (q psn dpa : Nat) (bs : List Byte) (last : Bool) : State :=
  let ls := splitBytes dpa bs
  let cw := (s.qp q).port
  let s := s.addPend q ⟨psn, ls.length, last, none⟩
  let s := ls.foldl (fun s e => s.rdmaStore cw e.1 e.2.1 e.2.2 (.rdma q psn e.1)) s
  s.answerPend q

/-- The admission queue that the engine's writes of a queue pair pass is full, so the engine takes no write packet (R82, R299). -/
def State.rdmaStalled (s : State) (h : RdmaHdr) : Bool := s.admFull (s.qp (h.qpn.toNat - 0x400)).port

-- @row RDMA_WRITE
/-- R293, R294, R296: a WRITE packet; `reth` comes with the first packet of a message, `last` marks its last. A duplicate is only
acknowledged again, once it is complete. -/
def execRdmaWrite (h : RdmaHdr) (reth : Option RdmaReth) (last : Bool) (bytes : List Byte) (s : State) : Res := .next <|
  let psn := h.psn.toNat
  if s.rdmaStalled h then s
  else s.rdmaPacket h fun q s => s.rdmaOrder q psn 1
    (fun s =>
      let x := s.qp q
      let fits (left : Nat) : Bool :=
        if last then decide (bytes.length = left ∧ left ≤ x.mtu) else decide (bytes.length = x.mtu ∧ x.mtu < left)
      match reth, x.open_ with
      | some r, none =>
        if 2 ^ 30 < r.len.toNat ∨ ! fits r.len.toNat then s.nakInvalid q psn
        else if r.len = 0 then (s.addPend q ⟨psn, 0, true, none⟩).answerPend q
        else match s.mkeyGrants q r.rkey r.va.toNat r.len.toNat 2 with
          | none => s.accessFails q psn r.rkey
          | some (_, _, dpa) =>
            let s := if last then s else s.setQp q { x with open_ := some ⟨dpa + bytes.length, r.len.toNat - bytes.length⟩ }
            s.rdmaWriteBytes q psn dpa bytes last
      | none, some w =>
        if ! fits w.left then s.nakInvalid q psn
        else
          let s := s.setQp q { x with open_ := if last then none else some ⟨w.dpa + bytes.length, w.left - bytes.length⟩ }
          s.rdmaWriteBytes q psn w.dpa bytes last
      | _, _ => s.nakInvalid q psn)
    (fun s => if (s.qp q).pend.any fun e => e.psn == psn then s else s.rdmaSend q 0 [psn])

/-! ## Reads (R294, R296) -/

/-- READ, atomic and FLUSH requests outstanding at the responder (R291). -/
def Qp.outstanding (x : Qp) : Nat := x.reads.length + x.flushes.length + x.pend.countP fun e => e.orig.isSome

/-- An earlier write of the queue pair to a range of lines has not landed: a READ or atomic behind it is not taken yet (R295). -/
def State.writesAhead (s : State) (q lo n : Nat) : Bool :=
  (s.tier.wayWrites ++ s.per.adm).any fun w => decide (lo ≤ w.line ∧ w.line < lo + n) &&
    match w.req with
    | .rdma q' _ _ => q' == q
    | _ => false

/-- The lines of a READ are read; the response data carries the PSN of its packet. `errs`, `wbBad`: symbols in error and waybill
mismatches that the reads of lines find. -/
def State.rdmaReadLines (s : State) (q psn dpa len : Nat) (errs : List (Nat × List Nat)) (wbBad : List Nat) : State :=
  if len = 0 then s.rdmaSend q 1 [psn]
  else
    let x := s.qp q
    let l0 := dpa / 64
    let n := (dpa + len - 1) / 64 - l0 + 1
    let s := s.setQp q { x with reads := x.reads ++ [(psn, n)] }
    (List.range n).foldl (fun s k =>
      let l := l0 + k
      let pkt := (psn + (64 * l - dpa) / x.mtu) % 2 ^ 24
      match s.regionOf (64 * l) with
      | some (i, r) =>
        if (s.qp q).st != .rts then s
        else s.serveRead ⟨.rdma q pkt l, l, s.timeNs, false, false, s.rgn.epoch⟩ i r (((errs.find? fun e => e.1 == l).map Prod.snd).getD []) (wbBad.contains l)
      | none => s) s

-- @row RDMA_READ
/-- R293, R294, R296: a READ request; a duplicate is executed again. -/
def execRdmaRead (h : RdmaHdr) (r : RdmaReth) (errs : List (Nat × List (Fin 40))) (wbBad : List Nat) (s : State) : Res := .next <|
  let psn := h.psn.toNat
  let q := h.qpn.toNat - 0x400
  let run (s : State) : State :=
    if 2 ^ 30 < r.len.toNat ∨ 64 ≤ (s.qp q).outstanding then s.nakInvalid q psn
    else match s.mkeyGrants q r.rkey r.va.toNat r.len.toNat 1 with
      | none => if r.len = 0 then s.rdmaSend q 1 [psn] else s.accessFails q psn r.rkey
      | some (_, _, dpa) => s.rdmaReadLines q psn dpa r.len.toNat (errs.map fun e => (e.1, e.2.map Fin.val)) wbBad
  match s.mkeyGrants q r.rkey r.va.toNat r.len.toNat 1 with
  | some (_, _, dpa) =>
    if s.writesAhead q (dpa / 64) (r.len.toNat / 64 + 2) then s
    else s.rdmaPacket h fun q s => s.rdmaOrder q psn ((s.qp q).packets r.len.toNat) run run
  | none => s.rdmaPacket h fun q s => s.rdmaOrder q psn ((s.qp q).packets r.len.toNat) run run

/-! ## Atomics (R294 to R296) -/

/-- The content of a line with every write that has been taken and not yet merged. -/
def State.newest (s : State) (l : Nat) : Line :=
  let add (x : Line) (d : LineData) (be : BitVec 64) (poison : Bool) : Line := if poison then poisonLine else mergeLine x d be
  let direct := (s.per.wts.flatMap WriteThrough.direct).filter fun d => d.1 == l
  let x := direct.foldl (fun x d => add x d.2.1 d.2.2.1 d.2.2.2) (s.latest l)
  let ms := s.chans.flatMap fun c => c.2.merges.filter fun m => m.line == l
  ms.foldl (fun x m => add x m.data m.be false) x

/-- Eight bytes of a line, and a line with eight bytes at an offset, with their byte enables. -/
def lineQword (d : LineData) (o : Nat) : BitVec 64 := d.extractLsb' (8 * o) 64
def qwordLine (v : BitVec 64) (o : Nat) : LineData := v.setWidth 512 <<< (8 * o)
def qwordBe (o : Nat) : BitVec 64 := 0xFF#64 <<< o

/-- A read-merge-write of eight bytes (R294, R295): `f` gives the new value, if one is written. `right`: its right; `cache`: it is an
atomic, whose original value is cached and returned. A poisoned line is left unchanged: NAK remote operational error (R196, R298). -/
def State.rdmaAtomic (s : State) (q psn : Nat) (rkey : Word) (va right : Nat) (cache : Bool) (f : BitVec 64 → Option (BitVec 64)) : State :=
  if va % 8 ≠ 0 ∨ (cache ∧ 64 ≤ (s.qp q).outstanding) then s.nakInvalid q psn
  else match s.mkeyGrants q rkey va 8 right with
    | none => s.accessFails q psn rkey
    | some (_, _, dpa) =>
      let l := dpa / 64
      let old := s.newest l
      if cache ∧ old.poison then (s.rdmaNak q psn 3).qpError q 5 psn none
      else
        let v := lineQword old.data (dpa % 64)
        let x := s.qp q
        let kept := x.atomics.drop (x.atomics.length - 63)
        let s := s.setQp q { x with atomics := if cache then kept ++ [(psn, v)] else x.atomics }
        let orig := if cache then some v else none
        match f v with
        | none => (s.addPend q ⟨psn, 0, true, orig⟩).answerPend q
        | some new =>
          let s := s.addPend q ⟨psn, 1, true, orig⟩
          (s.rdmaStore (s.qp q).port l (qwordLine new (dpa % 64)) (qwordBe (dpa % 64)) (.rdma q psn l)).answerPend q

/-- A duplicate atomic is answered from the result cache, or with NAK invalid request when its PSN has left it (R296). One whose
response is still to come is not answered twice. -/
def State.atomicAgain (s : State) (q psn : Nat) : State :=
  let x := s.qp q
  if x.pend.any fun e => e.psn == psn then s
  else match x.atomics.find? fun e => e.1 == psn with
    | some e => s.rdmaSend q 2 [psn, e.2.toNat]
    | none => (s.log 0x4043 .notice srcRdma (0x400 + q) psn).nakInvalid q psn

/-- An atomic packet. It is not taken while the admission queue is full or an earlier write of its queue pair to the line has not
landed, nor where its write would have to wait itself: what it computes must be what is stored (R295). -/
def State.atomicPacket (s : State) (h : RdmaHdr) (rkey : Word) (va : BitVec 64) (right : Nat) (cache : Bool)
    (f : BitVec 64 → Option (BitVec 64)) : State :=
  let psn := h.psn.toNat
  let q := h.qpn.toNat - 0x400
  let line := ((s.mkeyGrants q rkey va.toNat 8 right).map fun g => g.2.2 / 64).getD 0
  let t := s.rdmaPacket h fun q s => s.rdmaOrder q psn 1 (fun s => s.rdmaAtomic q psn rkey va.toNat right cache f) fun s =>
    if cache then s.atomicAgain q psn
    else if (s.qp q).pend.any fun e => e.psn == psn then s else s.rdmaSend q 0 [psn]
  if s.rdmaStalled h ∨ s.writesAhead q line 1 ∨ (t.tier.wayWrites ++ t.per.adm).any fun w => w.req == .rdma q psn line then s else t

-- @row COMPARE_SWAP
/-- R294, R295: writes `swap` when the eight bytes equal `cmp`; responds with the original value. -/
def execCompareSwap (h : RdmaHdr) (rkey : Word) (va cmp swap : BitVec 64) (s : State) : Res := .next <|
  s.atomicPacket h rkey va 3 true fun v => if v = cmp then some swap else none

-- @row FETCH_ADD
/-- R294, R295: adds modulo 2^64; responds with the original value. -/
def execFetchAdd (h : RdmaHdr) (rkey : Word) (va add : BitVec 64) (s : State) : Res := .next <|
  s.atomicPacket h rkey va 3 true fun v => some (v + add)

-- @row ATOMIC_WRITE
/-- R294, R295: eight bytes, all or none visible; acknowledged once complete. -/
def execAtomicWrite (h : RdmaHdr) (rkey : Word) (va data : BitVec 64) (s : State) : Res := .next <|
  s.atomicPacket h rkey va 2 false fun _ => some data

/-! ## FLUSH (R294) -/

/-- Adds the fence of a FLUSH, or ends it when it waits for nothing. -/
def State.addFlushFence (s : State) (f : Fence) : State :=
  if f.met then s.complete f.src .ok else s.addFence f

/-- A FLUSH over the whole queue pair (R294): visibility waits for its writes to land, persistence for a persist fence over them, and
with FLUSH_MIRROR for a mirror fence. -/
def State.rdmaFlush (s : State) (q psn : Nat) (persist : Bool) : State :=
  let mine (r : Requester) : Bool := match r with | .rdma q' _ _ => q' == q | _ => false
  let unlanded := ((s.tier.wayWrites ++ s.per.adm).map AdmWrite.req).filter mine
  let x := s.qp q
  let src : CmdSrc := .rdma q psn
  if ! persist then
    (s.setQp q { x with flushes := x.flushes ++ [(psn, 1)] }).addFlushFence ⟨s.nextFence, .visible, none, [], unlanded, [], src⟩
  else if x.flushMirror ∧ ! s.twinUp then s.rdmaNak q psn 3
  else
    let s := s.setQp q { x with flushes := x.flushes ++ [(psn, if x.flushMirror then 2 else 1)] }
    let f := s.persistFence .persist s.nextFence none src
    let programs := (s.per.wts.filter fun t => t.waiters.any mine).map WriteThrough.page
    let s := s.addFlushFence { f with lines := (f.lines ++ programs).eraseDups, writes := unlanded }
    if x.flushMirror then
      let id := s.nextFence
      let s := s.startMirrorFence none src
      let mineCopies := (s.twin.unplaced.filter fun c => mine c.req).map TwinCopy.id
      let one (f : Fence) : Fence := if f.id = id then { f with writes := unlanded, lines := (f.lines ++ mineCopies).eraseDups } else f
      let s := { s with per := { s.per with fences := s.per.fences.map one } }
      match s.fenceAt id .mirror with
      | some f => if f.met then (s.dropFence id).complete f.src .ok else s
      | none => s
    else s

-- @row RDMA_FLUSH
/-- R293, R294: a FLUSH request; a duplicate is executed again. -/
def execRdmaFlush (h : RdmaHdr) (r : RdmaReth) (persist : Bool) (s : State) : Res := .next <|
  let psn := h.psn.toNat
  s.rdmaPacket h fun q s =>
    let run (s : State) : State :=
      if 2 ^ 30 < r.len.toNat ∨ 64 ≤ (s.qp q).outstanding then s.nakInvalid q psn
      else match s.mkeyGrants q r.rkey r.va.toNat r.len.toNat 4 with
        | none => s.accessFails q psn r.rkey
        | some _ => s.rdmaFlush q psn persist
    s.rdmaOrder q psn 1 run fun s => if (s.qp q).flushes.any fun e => e.1 == psn then s else run s

/-! ## Requester queues (R300 to R305) -/

/-- Mb/s of an Ethernet port (R307). -/
def ethRate : Rat := 800000

/-- The items a queue has started and that are READ or FLUSH, not done (R291). -/
def Qp.asked (x : Qp) : Nat := x.items.countP fun it => it.started && it.left != 0 && (it.kind == .read || it.kind == .flush)

/-- The first PSN of a started item. -/
def Qp.firstPsn (x : Qp) (it : QpItem) : Nat :=
  let n := if it.kind = .flush then 1 else x.packets it.len
  (it.lastPsn + 2 ^ 24 + 1 - n) % 2 ^ 24

/-- Sends the packets of a WRITE item from a packet on, up to the one a poisoned line stops: the data of the lines as they stand; the
answer tells whether a poisoned line was met (R196, R302). -/
def State.sendWrite (s : State) (q : Nat) (it : QpItem) (from_ : Nat) : Bool × State :=
  let x := s.qp q
  let n := x.packets it.len
  (List.range n).foldl (fun p k =>
    if p.1 ∨ k < from_ then p
    else
      let off := k * x.mtu
      let cnt := min x.mtu (it.len - off) / 64
      let ls := (List.range cnt).map fun j => p.2.newest ((it.dpa + off) / 64 + j)
      if ls.any Line.poison then (true, p.2)
      else (false, p.2.rdmaSend q 5 ([(x.firstPsn it + k) % 2 ^ 24, it.rkey, it.va + off, it.len, if k + 1 = n then 1 else 0] ++
        ls.map fun y => y.data.toNat))) (false, s)

/-- Sends an item from a packet of it on (R300, R302). -/
def State.sendItem (s : State) (q : Nat) (it : QpItem) (from_ : Nat) : Bool × State :=
  match it.kind with
  | .write => s.sendWrite q it from_
  | .read =>
    let x := s.qp q
    (false, s.rdmaSend q 6 [(x.firstPsn it + from_) % 2 ^ 24, it.rkey, it.va + from_ * x.mtu, it.len - from_ * x.mtu])
  | .flush => (false, s.rdmaSend q 7 [it.lastPsn, it.rkey, it.va, it.len, if it.persist then 1 else 0])
  | .gate => (false, s)

/-- Starts the item at a place of a queue: its packets take their PSNs, and the local lines of a WRITE are read as reads of an engine.
A poisoned line ends it with DATA_ERROR and the queue pair enters ERROR with cause 5 (R302). -/
def State.startItem (s : State) (q i : Nat) (it : QpItem) : State :=
  let x := s.qp q
  let n := if it.kind = .flush then 1 else x.packets it.len
  let it' : QpItem := { it with started := true, lastPsn := (x.sqPsn + n - 1) % 2 ^ 24 }
  let rate := if x.paced then x.current else ethRate
  let x := { x.setSq (x.sqPsn + n) with
    items := x.items.set i it', paced := true, current := rate, target := if x.paced then x.target else ethRate }
  let s := s.setQp q x
  match s.sendItem q it' 0 with
  | (true, s) => s.qpError q 5 it'.lastPsn (some (i, .dataError))
  | (false, s) =>
    if it.kind ≠ .write then s
    else (List.range (it.len / 64)).foldl (fun s k =>
      let l := it.dpa / 64 + k
      match s.regionOf (64 * l) with
      | some (j, r) => s.serveRead ⟨.op it.slot l, l, s.timeNs, false, false, s.rgn.epoch⟩ j r
      | none => s) s

/-- A gate is satisfied (R303). -/
def State.gateMet (s : State) (it : QpItem) : Bool := msGe (s.qp it.watch).compCnt it.target

/-- The long operation of an item lets it start (R328). -/
def State.itemRuns (s : State) (it : QpItem) : Bool :=
  match s.rings.ops.find? fun o => o.slot == it.slot with
  | some o => o.st == .running
  | none => true

/-- Starts items from a place of a queue on, in queue order (R300, R303): a gate at the head passes once it is satisfied, and stops
the queue otherwise; 16 READ and FLUSH requests may be outstanding; nothing starts on a paused port. -/
def State.pump (q : Nat) : Nat → Nat → State → State
  | 0, _, s => s
  | fuel + 1, i, s =>
    let x := s.qp q
    match x.items[i]? with
    | none => s
    | some it =>
      if x.st ≠ .rts then s
      else if it.started then State.pump q fuel (i + 1) s
      else if it.kind = .gate then
        if i ≠ 0 then s
        else if s.gateMet it then
          State.pump q fuel 0 ((s.setQp q { x with items := x.items.drop 1 }).endItem it .ok)
        else s.setQp q { x with items := x.items.set 0 { it with headAt := some (it.headAt.getD s.timeNs) } }
      else if s.rdma.paused.getLsbD x.port ∨ ! s.itemRuns it ∨ (it.kind ≠ .write ∧ 16 ≤ x.asked) then s
      else State.pump q fuel (i + 1) (s.startItem q i it)

/-- Starts what a queue can start. -/
def State.pumpQueue (s : State) (q : Nat) : State := State.pump q (2 * (s.qp q).items.length + 1) 0 s

/-- Starts what the queues can start whose gate at the head watches a queue. -/
def State.pumpWatchers (s : State) (q : Nat) : State :=
  let ws := s.rdma.qps.filter fun e => match e.2.items with
    | it :: _ => it.kind == .gate && it.watch == q
    | [] => false
  ws.foldl (fun s e => s.pumpQueue e.1) s

/-- A started item is done: acknowledged, or for a READ every line is complete locally (R300). -/
def State.itemDone (s : State) (it : QpItem) : Bool :=
  it.started && it.left == 0 && (it.kind != .read || (match s.rings.ops.find? fun o => o.slot == it.slot with
    | some o => decide (it.len / 64 ≤ o.done)
    | none => true))

/-- Done items at the head complete in queue order, and COMP_CNT counts them (R300, R301). -/
def State.retireItems (q : Nat) : Nat → State → State
  | 0, s => s
  | fuel + 1, s =>
    let x := s.qp q
    match x.items with
    | (it : QpItem) :: t =>
      if s.itemDone it then
        let s := s.setQp q { x with items := t, compCnt := x.compCnt + 1, retries := 0 }
        let s := match s.rings.ops.find? fun o => o.slot == it.slot with
          | some o =>
            if it.kind = ItemKind.write then
              let ops := s.rings.ops.map fun (y : LongOp) => if y.slot = o.slot then { y with done := it.len / 64 } else y
              { s with rings := { s.rings with ops := ops } }
            else s
          | none => s
        State.retireItems q fuel (s.endItem it .ok)
      else s
    | [] => s

/-- Completes what is done on a queue, and starts what may start then. -/
def State.retire (s : State) (q : Nat) : State :=
  let s := State.retireItems q (s.qp q).items.length s
  (s.pumpQueue q).pumpWatchers q

/-- Marks WRITE items acknowledged whose last PSN is at or before a PSN; a READ or FLUSH that is not done holds those behind it. -/
def ackItems (psn : Nat) : List QpItem → List QpItem
  | [] => []
  | it :: t =>
    if ! it.started then it :: t
    else if it.kind = .write then
      if psnGe psn it.lastPsn then { it with left := 0 } :: ackItems psn t else it :: t
    else if it.left = 0 then it :: ackItems psn t else it :: t

-- @row RDMA_RESPONSE
/-- R300 to R303: an acknowledgement, READ response data, or a FLUSH response for a requester queue. READ data is written locally as
writes of its region. -/
def execRdmaResponse (h : RdmaHdr) (resp : RdmaResponse) (s : State) : Res := .next <|
  let psn := h.psn.toNat
  match resp with
  | .ack => s.rdmaPacket h fun q s =>
    let x := s.qp q
    (s.setQp q { x with items := ackItems psn x.items }).retire q
  | .flush => s.rdmaPacket h fun q s =>
    let x := s.qp q
    let items := ackItems ((psn + 2 ^ 24 - 1) % 2 ^ 24) x.items
    let items := items.map fun (it : QpItem) => if it.started && it.kind == .flush && it.lastPsn == psn then { it with left := 0 } else it
    (s.setQp q { x with items := items }).retire q
  | .data lines =>
    if s.rdmaStalled h then s
    else s.rdmaPacket h fun q s =>
      let x := s.qp q
      let hit (it : QpItem) : Bool := it.started && it.kind == .read &&
        (psn + 2 ^ 24 - x.firstPsn it) % 2 ^ 24 * x.mtu == it.len - 64 * it.left && it.left != 0
      match x.items.find? hit with
      | none => s
      | some it =>
        let n := min lines.length it.left
        let l0 := (it.dpa + it.len) / 64 - it.left
        let items := ackItems ((x.firstPsn it + 2 ^ 24 - 1) % 2 ^ 24) x.items
        let items := items.map fun (y : QpItem) => if y.slot = it.slot ∧ y.kind = .read then { y with left := it.left - n } else y
        let s := s.setQp q { x with items := items, retries := 0 }
        let s := (lines.take n).zipIdx.foldl (fun s e => s.rdmaStore x.port (l0 + e.2) e.1 fullBe (.op it.slot (l0 + e.2))) s
        s.retire q

-- @row RDMA_NAK_RECEIVED
/-- R302: a NAK: an access or operational error ends the first item not acknowledged with NOT_PERMITTED or DATA_ERROR, and the queue
pair enters ERROR with cause 2 or 3; a sequence error has the requests sent again from its PSN. -/
def execRdmaNakReceived (h : RdmaHdr) (nak : RdmaNak) (s : State) : Res := .next <|
  let psn := h.psn.toNat
  s.rdmaPacket h fun q s =>
    let x := s.qp q
    let s := (s.setQp q { x with items := ackItems ((psn + 2 ^ 24 - 1) % 2 ^ 24) x.items })
    let s := State.retireItems q x.items.length s
    let open_ (it : QpItem) : Bool := it.started && it.left != 0
    match (s.qp q).items.findIdx? open_ with
    | none => s.pumpQueue q
    | some i => match nak with
      | .access => s.qpError q 2 psn (some (i, .notPermitted))
      | .operational => s.qpError q 3 psn (some (i, .dataError))
      | .sequence =>
        let y := s.qp q
        y.items.foldl (fun s it => if open_ it then
          let k := if psnGe psn (y.firstPsn it) then (psn + 2 ^ 24 - y.firstPsn it) % 2 ^ 24 else 0
          if it.kind = .read then (s.sendItem q it (max k ((it.len - 64 * it.left) / y.mtu))).2 else (s.sendItem q it k).2 else s) s

-- @row ACK_TIMEOUT
/-- R302: a request is not acknowledged within ACK_TO: it is sent again from its first unacknowledged PSN, up to RETRY times, and then
fails with TIMEOUT. -/
def execAckTimeout (qp : Fin 8192) (s : State) : Res := .next <|
  let q := qp.val
  let x := s.qp q
  if x.st ≠ .rts ∨ ! s.mc.mode.serving then s
  else match x.items.findIdx? fun it => it.started && it.left != 0 with
    | none => s
    | some i =>
      if x.retries < x.retry then
        let s := s.setQp q { x with retries := x.retries + 1 }
        x.items.foldl (fun s it => if it.started && it.left != 0 then
          (s.sendItem q it (if it.kind = .read then (it.len - 64 * it.left) / x.mtu else 0)).2 else s) s
      else s.qpError q 1 (x.firstPsn (x.items.getD i (x.items.headD ⟨.gate, 0, 0, 0, 0, 0, false, 0, 0, none, false, 0, 0, .internal⟩)))
        (some (i, .timeout))

/-! ## Gates (R303, R304) -/

/-- The spill queue of a requester queue takes no further item (R300, R331). -/
def State.itemsFull (s : State) (q : Nat) : Bool :=
  let n := (s.qp q).items.length
  decide (65536 ≤ n) || (decide (8 ≤ n) && decide (spillChunks ≤ s.spillUsed))

/-- Posts an item on a requester queue. -/
def State.postItem (s : State) (q : Nat) (it : QpItem) : State :=
  let x := s.qp q
  ((s.setQp q { x with items := x.items ++ [it] }).spillPushed (0x30000 + q)).pumpQueue q

-- @row GATE_SET
/-- R303: appends a gate item to a queue; its record follows when the gate passes or expires. -/
def execGateSet (d : Desc) (s : State) : Res := .next <| s.take d 1 false false fun s =>
  let q := d.bits 2 12 0
  let w := d.bits 3 12 0
  if w = q ∨ ! (s.qp w).isReq ∨ ! (s.qp q).isReq ∨ (s.qp w).st = .reset ∨ (s.qp q).st = .reset then s.complete d.src .invalid
  else if (s.qp w).items.any fun it => it.kind == .gate && it.watch == q then s.complete d.src .conflict
  else if s.itemsFull q then (s.complete d.src .busy).spillRefused (0x30000 + q)
  else if (s.qp q).st ≠ .rts then s.complete d.src .cancelled
  else s.postItem q ⟨.gate, 0, 0, 0, 0, 0, false, w, d.word 4, none, false, 0, 0, d.src⟩

-- @row GATE_EXPIRED
/-- R304: a gate has waited GATE_MS at the head: it completes with GATE_EXPIRED, and the items behind it up to the next gate with
CANCELLED. -/
def execGateExpired (qp : Fin 8192) (s : State) : Res := .next <|
  let q := qp.val
  let x := s.qp q
  match x.items with
  | it :: t =>
    if it.kind ≠ .gate ∨ s.gateMet it ∨ it.headAt.isNone then s
    else
      let gone := t.takeWhile fun y => y.kind != .gate
      let s := (s.setQp q { x with items := t.drop gone.length }).endItem it .gateExpired
      let s := gone.foldl (fun s y => s.endItem y .cancelled) s
      (s.log 0x4042 .notice srcRdma q it.watch it.target.toNat gone.length).pumpQueue q
  | [] => s

/-! ## Congestion (R307, R308) -/

-- @row CNP_RECEIVED
/-- R307: target := current; current := current × (1 − α / 2), not below 100 Mb/s; α := (255 α + 1) / 256. -/
def execCnpReceived (h : RdmaHdr) (s : State) : Res := .next <| s.rdmaPacket h fun q s =>
  let s := s.bump RDMA_CNP_RCV_CNT_COUNT
  let x := s.qp q
  let cur := if x.paced then x.current else ethRate
  s.setQp q { x with paced := true, target := cur, current := max 100 (cur * (1 - x.alpha / 2)), alpha := (255 * x.alpha + 1) / 256, steps := 0 }

-- @row RATE_TIMER
/-- R307: RATE_TIMER without a CNP: α := 255 α / 256; current := (target + current) / 2; after every fifth such step the target rises
by RATE_AI, up to the port rate. -/
def execRateTimer (qp : Fin 8192) (s : State) : Res := .next <|
  let q := qp.val
  let x := s.qp q
  if ! x.paced then s
  else
    let n := x.steps + 1
    let ai : Rat := s.fld RDMA_CC_RATE_AI * 10
    s.setQp q { x with
      alpha := 255 * x.alpha / 256, current := (x.target + x.current) / 2, steps := n
      target := if n % 5 = 0 then min ethRate (x.target + ai) else x.target }

-- @row PFC_PAUSE_RECEIVED
/-- R308: a pause frame for a priority: honoured for PFC_PRIO with PFC_EN set for the port, otherwise ignored. `on` false: the pause
ends, and what waited starts. -/
def execPfcPauseReceived (eth : CwId) (prio : Fin 8) (on : Bool) (s : State) : Res := .next <|
  if ! (s.fld RDMA_CTL_PFC_EN).testBit eth.val ∨ s.fld RDMA_CTL_PFC_PRIO ≠ prio.val then s
  else
    let b := BitVec.ofNat 4 (2 ^ eth.val)
    let s := { s with rdma := { s.rdma with paused := if on then s.rdma.paused ||| b else s.rdma.paused &&& ~~~b } }
    if on then s else (s.rdma.qps.filter fun e => e.2.port == eth.val).foldl (fun s e => s.pumpQueue e.1) s

/-! ## States of queue pairs and keys (R292, R293) -/

/-- Offset of word 0 of the selected context and of the selected key entry. -/
def qpCtxOff : Nat := RegName.offset .RDMA_QP_CTX 0 0 0
def keyEntOff : Nat := RegName.offset .RDMA_KEY_ENT 0 0 0

/-- The context of a queue pair lets it run (R292): DEST_QPN, REMOTE_IP and the port's GID entry are set. -/
def State.qpReady (s : State) (q : Nat) : Bool :=
  let x := s.qp q
  let gid (w : Nat) : Word := s.regAt .RDMA_GID x.port (x.word 0 / 256 % 4) w
  x.word 1 % 2 ^ 24 != 0 && ((List.range 4).any fun k => x.word (4 + k) != 0) && (List.range 4).any fun w => gid w != 0

-- @row QP_STATE_RTS
/-- R292: STATE written RTS: a RESET queue pair goes to RTS when its context is valid; otherwise refused. -/
def execQpStateRts (qp : Fin 8192) (who : Writer) (s : State) : Res := .next <|
  let q := qp.val
  let x := s.qp q
  match x.st with
  | .rts => s
  | .reset => if s.qpReady q then s.setQp q { x with st := .rts } else s.reject qpCtxOff 1 4 who q
  | _ => s.reject qpCtxOff 1 6 who q

-- @row QP_STATE_ERROR
/-- R292: STATE written ERROR: an RTS queue pair enters ERROR with cause 6. -/
def execQpStateError (qp : Fin 8192) (who : Writer) (s : State) : Res := .next <|
  let q := qp.val
  match (s.qp q).st with
  | .rts => s.qpError q 6 (s.qp q).sqPsn none
  | .error => s
  | _ => s.reject qpCtxOff 2 6 who q

-- @row QP_STATE_RESET
/-- R292, R305: STATE written RESET: an RTS or ERROR queue pair is RESETTING until its accepted requests have finished. -/
def execQpStateReset (qp : Fin 8192) (who : Writer) (s : State) : Res := .next <|
  let q := qp.val
  match (s.qp q).st with
  | .rts | .error => s.stopQp q .resetting none
  | .reset => s
  | .resetting => s.reject qpCtxOff 0 6 who q

/-- An accepted request of a queue pair has not finished. -/
def State.qpBusy (s : State) (q : Nat) : Bool :=
  let mine (r : Requester) : Bool := match r with | .rdma q' _ _ => q' == q | _ => false
  s.waiters.any mine || s.chans.any fun c => c.2.merges.any fun m => mine m.req

-- @row QP_RESET_DONE
/-- R292: every accepted request of a RESETTING queue pair has finished. COMP_CNT stays (R301). -/
def execQpResetDone (qp : Fin 8192) (s : State) : Res := .next <|
  let q := qp.val
  let x := s.qp q
  if x.st = .resetting ∧ ! s.qpBusy q then
    s.setQp q { Qp.reset with ctx := x.ctx, compCnt := x.compCnt }
  else s

-- @row MKEY_VALID_SET
/-- R293: a write of VALID: set, GEN of the region is captured in word 7; cleared, the entry is retired. -/
def execMkeyValidSet (key : Fin 16384) (on : Bool) (s : State) : Res := .next <|
  let e := key.val
  let ws := Sparse.get (fun _ => keyReset) s.rdma.keys e
  let w0 := ws.getD 0 0
  let w7 := ws.getD 7 0
  let i := (w0.extractLsb' 16 12).toNat
  let ws := if on then (ws.set 0 (w0 ||| 1)).set 7 ((w7 &&& 0xFFFF#32) ||| (BitVec.ofNat 32 (s.region i).gen.toNat <<< 16))
    else ws.set 0 (w0 &&& 0xFFFFFFFE#32)
  { s with rdma := { s.rdma with keys := Sparse.set (fun _ => keyReset) s.rdma.keys e ws } }

end Sys2Proof.Machine
end

