-- ==== Sys2Proof/Machine/LongOps.lean ====
section
/-!
DEFINITION. Long operations that move data (R300, R324), their steps, suspension and cancellation (R326 to R329), and the recovery of
spill queues (R335).
-/
namespace Sys2Proof.Machine

/-! ## COPY and FILL (R300, R324) -/

/-- The check of a range that a COPY or FILL names: it lies within one region whose key slot is loaded, else INVALID or KEY_ABSENT. -/
def State.onRange (s : State) (d : Desc) (dpa len : Nat) (act : State → State) : State :=
  match s.regionOfRange dpa len with
  | none => s.complete d.src .invalid
  | some (i, r) => if s.keysLoaded i r then act s else (s.keyAbsent none dpa r.key.toNat).complete d.src .keyAbsent

/-- A LENGTH of R324: a multiple of 64 bytes, 64 to 1 GiB. -/
def lengthOk (n : Nat) : Bool := decide (64 ≤ n) && decide (n ≤ 2 ^ 30) && n % 64 == 0

-- @row COPY_LOCAL
/-- R324: copies between two ranges that do not overlap; its lines are written by LONG_OP_STEP. -/
def execCopyLocal (d : Desc) (s : State) : Res := .next <| s.take d 1 false true fun s =>
  let n := (d.word 3).toNat
  let a := d.dpa 4
  let b := d.dpa 6
  if ! lengthOk n ∨ a % 64 ≠ 0 ∨ b % 64 ≠ 0 ∨ overlap a n b n then s.complete d.src .invalid
  else s.onRange d a n fun s => s.onRange d b n fun s => s.startOp (.copyLocal (a / 64) (b / 64) (n / 64)) d.src (some (n / 64))

/-- A remote COPY posts an item on its requester queue (R300, R324): INVALID for a queue that is none or is RESET, BUSY when its spill queue
takes no more, CANCELLED on a queue that has stopped. -/
def State.postCopy (s : State) (d : Desc) (kind : ItemKind) : State :=
  let q := d.bits 2 28 16
  let n := (d.word 3).toNat
  let a := d.dpa 4
  let x := s.qp q
  let post (s : State) : State :=
    if s.itemsFull q then (s.complete d.src .busy).spillRefused (0x30000 + q)
    else if x.st ≠ .rts then s.complete d.src .cancelled
    else
      let k := s.nextOpSlot
      let va := (d.word 6).toNat + (d.word 7).toNat * 2 ^ 32
      let left := if kind = .read then n / 64 else 1
      let it : QpItem := ⟨kind, k, a, n, va, (d.word 8).toNat, d.bits 2 2 2 == 1, 0, 0, none, false, 0, left, d.src⟩
      (s.startOp (.copyRemote q k) d.src (some (n / 64))).postItem q it
  if ! lengthOk n ∨ ! x.isReq ∨ x.st = .reset then s.complete d.src .invalid
  else if kind = .flush then post s
  else if a % 64 ≠ 0 then s.complete d.src .invalid
  else s.onRange d a n post

-- @row COPY_REMOTE_WRITE
/-- R300, R324: posts a WRITE item. -/
def execCopyRemoteWrite (d : Desc) (s : State) : Res := .next <| s.take d 1 false true fun s => s.postCopy d .write

-- @row COPY_REMOTE_READ
/-- R300, R324: posts a READ item. -/
def execCopyRemoteRead (d : Desc) (s : State) : Res := .next <| s.take d 1 false true fun s => s.postCopy d .read

-- @row COPY_REMOTE_FLUSH
/-- R300, R324: posts a FLUSH item; PERSIST_PT is its placement type. -/
def execCopyRemoteFlush (d : Desc) (s : State) : Res := .next <| s.take d 1 false true fun s => s.postCopy d .flush

-- @row FILL
/-- R324: writes a pattern over a range. -/
def execFill (d : Desc) (s : State) : Res := .next <| s.take d 1 false true fun s =>
  let n := (d.word 4).toNat
  let a := d.dpa 2
  if ! lengthOk n ∨ a % 64 ≠ 0 then s.complete d.src .invalid
  else s.onRange d a n fun s => s.startOp (.fill (a / 64) (n / 64) (d.word 5)) d.src (some (n / 64))

-- @row MIGRATE
/-- R324: moves a region between classes that have a NAND home, or to another pool or partition. A region that a started plan names is
not moved; one that is already so placed needs nothing. -/
def execMigrate (d : Desc) (s : State) : Res := .next <| s.take d 2 false true fun s =>
  s.onRegion d fun r =>
    let i := d.rgnIdx
    let cls := rgnClassOf (d.bits 3 1 0)
    let place := d.bits 3 7 4
    if cls = .scratch ∨ r.cls = .scratch ∨ ! s.placeValid cls place then s.complete d.src .invalid
    else if s.planHolds i then s.complete d.src .conflict
    else if cls = r.cls ∧ place = r.place.toNat then s.complete d.src .ok
    else match (if cls = .resident then s.lowestRun place (r.size.toNat * 512) else some 0) with
      | none => s.complete d.src .noSpace
      | some f => s.startOp (.migrate i cls place f) d.src (some (r.bytes / 64))

/-! ## Lines of a step (R328) -/

/-- A line is written for a long operation, as a write of its region (R324), through the admission queue of its carriageway. -/
def State.opWrite (s : State) (slot l : Nat) (x : Line) : State :=
  match s.regionOf (64 * l) with
  | some (i, r) =>
    let cw := (s.dramAddr r (64 * l) (s.page (l / 64)).way).ch / 4
    s.storeWrite (s.newWrite cw l (if x.poison then 0 else x.data) fullBe x.poison (.op slot l)) i r
  | none => s.finishWrite (.op slot l)

/-- The admission queue of a line's carriageway takes a write. -/
def State.opAdmits (s : State) (l : Nat) : Bool :=
  match s.regionOf (64 * l) with
  | some (_, r) => ! s.admFull ((s.dramAddr r (64 * l) (s.page (l / 64)).way).ch / 4)
  | none => true

/-- A read for a long operation is outstanding. -/
def State.opReads (s : State) (slot l : Nat) : Bool :=
  let mine (rd : PendingRead) : Bool := rd.req == .op slot l
  s.tier.reads.any mine || (s.chans.any fun c => c.2.held.any mine || c.2.twinReads.any mine) ||
    s.twin.reads.any fun t => t.line == l

/-- The data of a source line (R184): read as an engine's read; `none` while the read is outstanding. -/
def State.opRead (s : State) (slot l : Nat) (errs : List Nat) (bad : Bool) : Option Line × State :=
  match s.opAt slot with
  | none => (none, s)
  | some o => match o.wait with
    | some (l', some x) => if l' = l then (some x, s.setOp { o with wait := none }) else (none, s.setOp { o with wait := none })
    | some (_, none) => if s.opReads slot l then (none, s) else (none, s.setOp { o with wait := none })
    | none =>
      let s := s.setOp { o with wait := some (l, none) }
      let s := match s.regionOf (64 * l) with
        | some (i, r) => s.serveRead ⟨.op slot l, l, s.timeNs, false, false, s.rgn.epoch⟩ i r errs bad
        | none => s.deliver (.op slot l) l poisonLine
      match s.opAt slot with
      | some o => match o.wait with
        | some (_, some x) => (some x, s.setOp { o with wait := none })
        | _ => (none, s)
      | none => (none, s)

/-- Issues the next lines of an operation, at most 2 MiB: line k of it is `src k` written to `dst k`. It stops at a line whose read is
outstanding, or whose admission queue is full. -/
def State.issueLines (s : State) (o : LongOp) (n : Nat) (dst : Nat → Nat) (src : Nat → State → Option Line × State) : State :=
  ((List.range (min 32768 (n - o.param))).foldl (fun (p : Bool × State) j =>
    let k := o.param + j
    if p.1 then p
    else if ! p.2.opAdmits (dst k) then (true, p.2)
    else match src k p.2 with
      | (none, s) => (true, s)
      | (some x, s) =>
        let s := match s.opAt o.slot with | some o => s.setOp { o with param := k + 1 } | none => s
        (false, s.opWrite o.slot (dst k) x)) (false, s)).2

/-- The operation ends once every line is complete (R324). -/
def State.endLines (s : State) (slot n : Nat) : State :=
  match s.opAt slot with
  | some o => if n ≤ o.done then s.endOp o .ok n else s
  | none => s

/-- The symbols in error that the read of a line finds. -/
def errsOf (errs : List (Nat × List (Fin 40))) (l : Nat) : List Nat :=
  ((errs.find? fun e => e.1 == l).map fun e => e.2.map Fin.val).getD []

/-! ## MIGRATE (R324) -/

/-- A page of a region that has moved takes its new place: a RESIDENT region has its frame; in a partition a CLEAN page is dropped, and a
DIRTY one takes a way of its set, or is programmed to its home. -/
def State.rehomePage (s : State) (r : Region) (k : Nat) : State :=
  let pg := s.page k
  let pg' : Page := { pg with way := 0, pins := 0, pin255 := false, promo := false, age := 0, evictIntent := false }
  if r.cls = .resident then s.setPage k pg'
  else if pg.st ≠ .dirty then s.evictClean k
  else
    let part := r.place.toNat
    let lines := (pageLines k).map s.line
    match (s.setPage k Page.empty).chooseWay part k false with
    | (.free w, s) => (s.setPage k { pg' with way := w }).enterSet part k
    | (.clean v, s) =>
      let w := (s.page v).way
      ((s.evictClean v).setPage k { pg' with way := w }).enterSet part k
    | (_, s) =>
      let s := match s.allocHome k with
        | some (loc, s) => (s.programHome k lines loc).pageHome k
        | none => (lines.zip (pageLines k)).foldl (fun s e => s.setHome e.2 e.1) s
      if pg.counted then s.releaseOne else s

/-- A region has something under way that a commit of its placement waits for. -/
def State.rgnMoving (s : State) (r : Region) : Bool :=
  let mine (k : Nat) : Bool := decide (r.page0 ≤ k) && decide (k < r.page0 + r.pageCount)
  s.tier.fills.any (fun f => mine f.page) || s.tier.wbs.any (fun w => mine w.page) || s.tier.wayWaits.any (fun w => mine w.1) ||
    s.tier.wayWrites.any (fun w => mine (w.line / 64)) || s.per.wts.any fun t => mine t.page

/-- MIGRATE commits the new entry at one commit edge once every line is complete; it ends once the tables are durable (R58). -/
def State.migrateEnds (s : State) (slot i : Nat) (cls : RgnClass) (place f n : Nat) : State :=
  let r := s.region i
  match s.opAt slot with
  | none => s
  | some o =>
    if o.done < n ∨ s.rgn.draining ∨ s.rgnMoving r then s
    else
      let new : Region := { r with cls := cls, place := BitVec.ofNat 4 place, frameBase := BitVec.ofNat 31 f
                                   refilling := cls == .resident && s.unfilled r }
      let s := (s.setOp { o with st := .done }).commitEdge ⟨[(i, new)], [], []⟩
      let mine (k : Nat) : Bool := decide (r.page0 ≤ k) && decide (k < r.page0 + r.pageCount)
      ((s.tier.pages.filter fun e => mine e.1).map Prod.fst).foldl (fun s k => s.rehomePage new k) s

/-! ## REGION_MODIFY PERSIST 0 to 1 (R61) -/

/-- One page of the pass over the dirty pages of a region is written back; once the pass is over, the commit follows when the pages that
are still dirty fit under the ceiling. PARAM of the operation holds the next page of the pass. -/
def State.persistStep (s : State) (o : LongOp) (i : Nat) : State :=
  let r := s.region i
  let busy (e : Nat × Page) : Bool := decide (r.page0 ≤ e.1) && decide (e.1 < r.page0 + r.pageCount) &&
    (e.2.st == .dirty || e.2.st == .writingBack)
  let ds := s.tier.pages.filter busy
  match ds.find? fun e => decide (r.page0 + o.param ≤ e.1) with
  | some (k, pg) =>
    let s := if pg.st = .dirty then s.startWriteback k false else s
    if (s.page k).st = .dirty then s else s.setOp { o with param := k + 1 - r.page0, done := o.done + 1 }
  | none =>
    if ds.any fun e => e.2.st == .writingBack then s
    else if s.rgn.draining then s
    else if ds.length + s.atRisk ≤ s.per.ceiling then
      (s.setOp { o with st := .done, param := 0 }).commitEdge ⟨[(i, { r with persist := true })], [], []⟩
    else match ds with
      | e :: _ => s.startWriteback e.1 false
      | [] => s

/-! ## SANITIZE and SCRUB_REGION (R324) -/

-- @row SANITIZE
/-- R324, R34: in MAINTENANCE only; the content of the media becomes free values (LONG_OP_STEP). -/
def execSanitize (d : Desc) (s : State) : Res := .next <|
  let m := s.mc.mode == .maintenance
  let runs (o : LongOp) : Bool := match o.kind with | .sanitize _ => true | _ => false
  s.take d 5 true m fun s =>
    if ! m then s.complete d.src .notPermitted
    else if s.rings.ops.any runs then s.complete d.src .busy
    else s.startOp (.sanitize (d.bits 2 0 0 == 1)) d.src (some (s.nand.map.length + 1))

/-- A line of which the spec says nothing. -/
def State.freshLine (s : State) : Line × State :=
  let (a, s) := s.fresh
  let (b, s) := s.fresh
  (⟨BitVec.ofNat 512 a, BitVec.ofNat 32 b, false⟩, s)

/-- Fresh lines in place of a list of lines. -/
def State.freshLines (s : State) (xs : List (Nat × Line)) : List (Nat × Line) × State :=
  xs.foldl (fun (p : List (Nat × Line) × State) e => let (x, s) := p.2.freshLine; (p.1 ++ [(e.1, x)], s)) ([], s)

/-- One page of the media is sanitized; the last step takes tier 1 and the save images, and ends the operation. -/
def State.sanitizeStep (s : State) (o : LongOp) : State :=
  match s.nand.map[o.done]? with
  | some (k, _) =>
    let s := (pageLines k).foldl (fun s l => let (x, s) := s.freshLine; s.setHome l x) s
    s.setOp { o with done := o.done + 1 }
  | none =>
    let (dram, s) := s.freshLines s.tier.dram
    let s := dram.foldl (fun s e => s.setLine e.1 e.2) s
    let s := [false, true].foldl (fun s b =>
      let (ls, s) := s.freshLines (s.image b).lines
      let (rs, s) := s.freshLines (s.image b).recs
      s.setImage b { s.image b with lines := ls, recs := rs }) s
    s.endOp o .ok 0

-- @row SCRUB_REGION
/-- R324: scrubs the lines of a region, or of all; its lines are read by LONG_OP_STEP. -/
def execScrubRegion (d : Desc) (s : State) : Res := .next <| s.take d 5 true true fun s =>
  if ! s.selects d.selector then s.complete d.src .invalid
  else
    let n := match d.selector with
      | some i => (s.region i).size.toNat
      | none => ((s.rgn.table.filter fun e => e.2.valid).map fun e => e.2.size.toNat).sum
    s.startOp (.scrub (d.selector.getD 0) d.selector.isNone (d.bits 3 0 0 == 1)) d.src (some n)

/-- The 2 MiB units of a scrub, in ascending order of DPA within each region. -/
def State.scrubUnits (s : State) (region : Nat) (all : Bool) : List Nat :=
  (s.rgn.table.filter fun e => e.2.valid && (all || e.1 == region)).flatMap fun e => e.2.ranges

/-- Scrubs the lines of one unit: the codewords that tier 1 holds are decoded, an uncorrectable one starting a full retraining (R189,
R197). `errs`: the symbols in error; `bad`: lines whose home cannot be read. The answer gives the uncorrectable lines. -/
def State.scrubUnit (s : State) (unit : Nat) (repair : Bool) (errs : List (Nat × List (Fin 40))) (bad : List Nat) : List Nat × State :=
  let mine (l : Nat) : Bool := lineRange l == unit
  let homes := bad.filter fun l => mine l && s.nand.map.any fun e => e.1 == l / 64
  let (ues, s) := (errs.filter fun e => mine e.1).foldl (fun (p : List Nat × State) e =>
    let s := p.2
    let l := e.1
    match s.regionOf (64 * l), (s.page (l / 64)).st with
    | some (_, r), .clean | some (_, r), .dirty | some (_, r), .writingBack =>
      let a := s.dramAddr r (64 * l) (s.page (l / 64)).way
      if (s.line l).poison ∨ (s.ch a.ch).st ≠ .active then p
      else match s.decodeWith l a (errsOf errs l) repair 2 with
        | (.good, s) => (p.1, s)
        | (.bad, s) => (p.1 ++ [l], (s.holdRead a.ch ⟨.internal, l, s.timeNs, false, false, s.rgn.epoch⟩).startRetrain a.ch 3)
    | _, _ => p) ([], s)
  ((ues ++ homes).eraseDups, s)

/-- One step of SCRUB_REGION: PARAM counts the uncorrectable lines. -/
def State.scrubStep (s : State) (o : LongOp) (region : Nat) (all repair : Bool) (errs : List (Nat × List (Fin 40))) (bad : List Nat) : State :=
  match (s.scrubUnits region all)[o.done]? with
  | none => s.endOp o .ok o.param
  | some u =>
    let (ls, s) := s.scrubUnit u repair errs bad
    let o := { o with done := o.done + 1, param := o.param + ls.length }
    if (s.scrubUnits region all).length ≤ o.done then s.endOp o .ok o.param else s.setOp o

/-- One step of a media scan (R284): the results list uncorrectable lines. -/
def State.scanStep (s : State) (o : LongOp) (line lines port ld : Nat) (errs : List (Nat × List (Fin 40))) (bad : List Nat) : State :=
  let n := (lines + 32767) / 32768
  let inScan (l : Nat) : Bool := decide (line ≤ l) && decide (l < line + lines)
  let u := lineRange (line + 32768 * o.done)
  let (ls, s) := s.scrubUnit u true (errs.filter fun e => inScan e.1) (bad.filter inScan)
  let x := s.ldAt port ld
  let s := s.setLd port ld { x with scanned := x.scanned ++ ls.filter fun l => ! x.scanned.contains l }
  let o := { o with done := o.done + 1, param := o.param + ls.length }
  if n ≤ o.done then s.endOp o .ok o.param else s.setOp o

/-! ## Evacuation steps (R175, R204) -/

/-- The next chunk of an evacuating channel is copied; EVAC_DONE follows the last. -/
def State.evacStep (s : State) (o : LongOp) (n : Nat) : State :=
  match (s.ch n).shares.find? fun x => ! x.finished with
  | some x => if (s.ch n).work = .evacuate then (s.setShare n (x.mark x.cursor)).setOp { o with done := o.done + 1 } else s
  | none => s

/-- The next block of an evacuating module is moved; MODULE_EVAC_DONE follows the last. PARAM counts the pages moved. -/
def State.evacModuleStep (s : State) (o : LongOp) (m : Nat) : State :=
  match s.nand.map.find? fun e => e.2.ch / 8 == m with
  | none => s
  | some (_, h) =>
    let n := (s.validOn h.ch h.die h.block).length
    let s := s.clearBlock h.ch h.die h.block
    let left := (s.validOn h.ch h.die h.block).length
    s.setOp { o with done := if left = 0 then o.done + 1 else o.done, param := o.param + (n - left) }

/-! ## OBJECT_PLACE (R139) -/

/-- A page of an object has been dealt with: a promoted page is in DRAM, or could not be placed; a demoted page is written back. -/
def State.settled (s : State) (action k : Nat) : Bool :=
  let st := (s.page k).st
  if action = 3 then st != .dirty && st != .writingBack else st != .filling && ! s.tier.wayWaits.any fun w => w.1 == k

/-- OBJECT_PLACE goes on, and ends once every page has been dealt with. -/
def State.placeStep (s : State) (o : LongOp) (page n action : Nat) : State :=
  let s := if action = 3 then (List.range n).foldl (fun s i => s.startWriteback (page + i) false) s else s
  let k := (List.range n).countP fun i => s.settled action (page + i)
  if k = n then s.endOp o .ok o.param else s.setOp { o with done := k }

/-! ## Boundaries, suspension and cancellation (R326 to R328) -/

/-- Long operations step: in the serving modes, and in MAINTENANCE those that it permits (R34, R329). -/
def State.opsRun (s : State) (k : OpKind) : Bool :=
  s.ccRuns && match k with
    | .sanitize _ => s.mc.mode == .maintenance
    | .scrub _ _ _ | .scan _ _ _ _ => s.mc.mode.serving || s.mc.mode == .maintenance
    | .evacChannel _ | .evacModule _ | .packRelease _ => s.mc.mode.serving || s.mc.mode == .maintenance
    | _ => s.mc.mode.serving

/-- An operation stands at a step boundary: every line it has issued is complete. -/
def LongOp.atBoundary (o : LongOp) : Bool :=
  match o.kind with
  | .copyLocal _ _ _ | .fill _ _ _ | .migrate _ _ _ _ => o.done == o.param
  | _ => true

/-- PARAM of the records of an operation, as far as it has come (R324). -/
def State.opParam (s : State) (o : LongOp) : Nat :=
  match o.kind with
  | .copyLocal _ _ _ | .fill _ _ _ | .copyRemote _ _ => o.done
  | .fenceTier _ | .objectPlace _ _ _ | .scrub _ _ _ | .scan _ _ _ _ => o.param
  | .evacModule _ => o.param / 2 ^ 18
  | .keyRotate i _ => ((s.rotationOf i).map Rotation.lines).getD 0
  | _ => 0

/-- A pending reduction of the ceiling no longer has one of its reasons (R88, R328): it goes when nothing is left to reduce. -/
def State.unplan (s : State) (f : Planned → Planned) : State :=
  match s.per.planned with
  | none => s
  | some p =>
    let p := f p
    let c := s.newCeiling
    { s with per := { s.per with planned := if s.per.ceiling ≤ c then none else some { p with target := c, met := false } } }

/-- An operation is cancelled at its boundary (R328). -/
def State.cancelNow (s : State) (o : LongOp) : State :=
  let param := s.opParam o
  match o.kind with
  | .copyLocal _ _ n | .fill _ n _ => if n ≤ o.done then s.endOp o .ok n else s.endCancelled o param
  | .fenceMirror id | .fenceTier id => (s.dropFence id).endCancelled o 0
  | .copyRemote q _ =>
    if s.opStarted o then s
    else
      let x := s.qp q
      ((s.setQp q { x with items := x.items.filter fun it => it.kind == .gate || it.slot != o.slot }).endCancelled o 0).pumpQueue q
  | .evacChannel n =>
    let s := s.setCh n { s.ch n with work := .none, shares := [] }
    (s.setChState n .active).endCancelled o 0
  | .evacModule m =>
    let s := ((moduleChans m).filter fun n => (s.nf n).st == .evacuating).foldl (fun s n => s.setNfState n .serving) s
    (s.unplan fun p => { p with mbps := none }).endCancelled o param
  | .planStart k => match s.planAt k with
    | some p => if p.stopBy.isSome then s else s.setPlan { p with stopBy := some (.internal, false) }
    | none => s.endCancelled o 0
  | .packRelease p =>
    let s := s.setPack p { s.pack p with release := none }
    (s.unplan fun x => { x with packs := x.packs.filter fun q => q != p }).endCancelled o 0
  | .objectPlace _ _ _ | .scrub _ _ _ | .scan _ _ _ _ | .migrate _ _ _ _ | .persistSet _ => s.endCancelled o param
  | .planStop _ _ | .sanitize _ | .keyRotate _ _ => s

/-- An operation is suspended at its boundary: the interim record, then OK for the OP_SUSPEND commands (R327). The item of a remote COPY
that has started runs on (R328). -/
def State.suspendNow (s : State) (o : LongOp) : State :=
  if s.opStarted o then o.suspendBy.foldl (fun s c => s.complete c .notPermitted) (s.setOp { o with suspendBy := [] })
  else
    let s := s.setOp { o with st := .suspended, suspendBy := [], wait := none }
    let s := s.record o.src .suspended (s.opParam o) true false
    let s := o.suspendBy.foldl (fun s c => s.complete c .ok) s
    match o.kind with
    | .planStart k => s.stagePlan k
    | _ => s

-- @row OP_CANCEL
/-- R327, R328: CANCELLING until the next boundary; an operation that is SUSPENDED, or that has no steps, is cancelled at once. -/
def execOpCancel (d : Desc) (s : State) : Res := .next <| s.take d 0 false false fun s =>
  match s.opOf (d.word 2).toNat with
  | none => s.complete d.src .invalid
  | some o =>
    if o.st = .cancelling ∨ o.st = .done then s.complete d.src .conflict
    else if ! o.kind.cancellable then s.complete d.src .notPermitted
    else if s.opStarted o then s.complete d.src .conflict
    else
      let stepless : Bool := match o.kind with | .fenceMirror _ | .fenceTier _ | .packRelease _ => true | _ => false
      let o' := { o with st := .cancelling, cancelBy := o.cancelBy ++ [d.src] }
      let s := s.setOp o'
      if o.st = .suspended ∨ stepless then s.cancelNow o' else s

/-- One step of a running operation. -/
def State.stepOp (s : State) (o : LongOp) (errs : List (Nat × List (Fin 40))) (bad : List Nat) : State :=
  match o.kind with
  | .copyLocal a b n =>
    (s.issueLines o n (fun k => b + k) fun k s => s.opRead o.slot (a + k) (errsOf errs (a + k)) (bad.contains (a + k))).endLines o.slot n
  | .fill b n p =>
    let x : Line := ⟨(List.range 16).foldl (fun (d : LineData) k => d ||| (p.setWidth 512 <<< (32 * k))) 0, 0, false⟩
    (s.issueLines o n (fun k => b + k) fun _ s => (some x, s)).endLines o.slot n
  | .copyRemote q _ => s.retire q
  | .migrate i cls place f =>
    let r := s.region i
    let a := r.start / 64
    let n := r.bytes / 64
    let s := s.issueLines o n (fun k => a + k) fun k s => s.opRead o.slot (a + k) (errsOf errs (a + k)) (bad.contains (a + k))
    s.migrateEnds o.slot i cls place f n
  | .evacChannel n => s.evacStep o n
  | .evacModule m => s.evacModuleStep o m
  | .planStart k => s.stagePlan k
  | .objectPlace p n a => s.placeStep o p n a
  | .persistSet i => s.persistStep o i
  | .keyRotate i _ => s.rotateStep o i
  | .sanitize _ => s.sanitizeStep o
  | .scrub i all repair => s.scrubStep o i all repair errs bad
  | .scan l n p ld => s.scanStep o l n p ld errs bad
  | .fenceMirror _ | .fenceTier _ | .planStop _ _ | .packRelease _ => s

-- @row LONG_OP_STEP
/-- R326 to R328: a step boundary of a long operation: a pending cancel or suspension takes effect, or the operation goes on by one step,
up to its end. `errs`: the symbols in error of codewords that its reads find; `bad`: lines whose waybill check fails, or for a scrub
lines whose home cannot be read. -/
def execLongOpStep (slot : Fin 1024) (errs : List (Nat × List (Fin 40))) (bad : List Nat) (s : State) : Res := .next <|
  match s.opAt slot.val with
  | none => s
  | some o =>
    if ! s.opsRun o.kind then s
    else match o.st with
      | .done => if s.rgn.undurable = 0 then s.endOp o .ok 0 else s
      | .suspended => s
      | .cancelling => if o.atBoundary then s.cancelNow o else s
      | .running =>
        if o.suspendBy = [] then s.stepOp o errs bad
        else if o.atBoundary then s.suspendNow o else s

/-! ## Pointers of spill queues (R334, R335) -/

/-- Instances of a kind of spill queue, as in SQ_SEL. -/
def sqInstances : Nat → Nat
  | 1 | 2 | 5 => 256
  | 3 => 8192
  | 4 => 1
  | 6 => 32
  | 7 | 8 => 16
  | 9 => 4
  | _ => 0

/-- A queue of class RESET is emptied; the answer gives the items lost. -/
def State.resetQueue (s : State) (kind inst : Nat) : Nat × State :=
  match kind with
  | 1 =>
    let x := s.ringAt inst
    let pushed := x.queue.countP fun q => q.pushed
    let s := s.tearOpen inst
    let s := s.setRing inst { s.ringAt inst with queue := [], fetched := 0, pushedCnt := 0, openItem := none, torn := true }
    (pushed, (List.replicate pushed ()).foldl (fun s _ => s.complete (.ring inst 0xFFFFFFFF#32 0 false) .dataError) s)
  | 3 =>
    let x := s.qp inst
    let s := s.setQp inst { x with items := [] }
    (x.items.length, x.items.foldl (fun s it => s.endItem it .cancelled) s)
  | 4 => (s.twin.backlog.length, s.lagFires)
  | _ => (((s.tier.streams.filter fun x => x.number == inst).map fun x => x.inflight.length).sum, s)

-- @row SQ_POINTER_MISMATCH
/-- R334, R335: the duplicated pointers of a spill queue differ; `queue`: KIND and INSTANCE as in SQ_SEL. Queues of class REBUILD lose
nothing; ring command queues, requester queues, the ASYNC backlog and staging queues are RESET. -/
def execSqPointerMismatch (kind : Fin 16) (inst : Fin 8192) (s : State) : Res := .next <|
  let k := kind.val
  let id := k * 65536 + inst.val
  if sqInstances k ≤ inst.val then s
  else if k = 1 ∨ k = 3 ∨ k = 4 ∨ k = 5 then
    let (n, s) := s.resetQueue k inst
    let s := if k = 3 ∨ k = 4 then
        { s with rings := { s.rings with sqTorn := (s.rings.sqTorn.filter fun q => q != id) ++ [id] } } else s
    ((s.bump SQ_RESET_CNT_COUNT).log 0xA004 .error srcSpill id n)
  else (s.bump SQ_REBUILD_CNT_COUNT).log 0xA005 .notice srcSpill id

end Sys2Proof.Machine
end

