-- ==== Sys2Proof/Machine/Stack.lean ====
section
/-!
DEFINITION. Stacks (R464 to R471): heartbeats and mastership, and the range checks of region commands.
-/
namespace Sys2Proof.Machine

/-- The position of this controller. -/
def State.stackPos (s : State) : Nat := s.pw.strapStackId.toNat

/-- The stack bus is driven: the controller runs as a member of a stack. -/
def State.stackRuns (s : State) : Bool := s.inStack && s.ccRuns

/-- LIVE changes: STACK_MEMBER for each position that joins or is lost (R468). -/
def State.setLive (s : State) (live : BitVec 4) : State :=
  let old := s.stk.live
  let s := { s with stk := { s.stk with live := live } }
  (List.range 4).foldl (fun s k =>
    if live.getLsbD k && ! old.getLsbD k then s.log 0x8061 .notice srcStack k 1
    else if old.getLsbD k && ! live.getLsbD k then s.log 0x8061 .error srcStack k 0 else s) s

/-- The master changes, or is known for the first time (R468): STACK_MASTER with a cause, 1 BOOT, 2 election, 3 handback. The master
holds the stack endpoint ID of parameter sector 8 (R467, R469, R479). -/
def State.setMaster (s : State) (m cause : Nat) : State :=
  let old := s.stk.master
  let s := { s with stk := { s.stk with master := m, seated := true, missed := [], lastHb := s.timeNs }
                    mgmt := { s.mgmt with stackEid := if m = s.stackPos then (s.flash32 0x20000).extractLsb' 8 8 else 0 } }
  s.log 0x8060 .notice srcStack m old cause

/-- Region commands that waited for a master are taken again (R469). -/
def State.resumeRegionCmds (s : State) : State :=
  let ds := s.stk.waiting
  let s := { s with stk := { s.stk with waiting := [] } }
  ds.foldl (fun s d => if d.opcode = 0x10 then createRegion d s else resizeRegion d s) s

/-- A member's answer is kept for the sensors of the stack endpoint ID, which report each change (R486, R487). -/
def State.takeReport (s : State) (r : MemberReport) : State :=
  let k := r.member.val
  let old := (s.stk.reports.find? fun e => e.1 == k).map Prod.snd
  let s := { s with stk := { s.stk with reports := (s.stk.reports.filter fun e => e.1 != k) ++ [(k, r.mode.code, r.guard.code)] } }
  let s := if old.map Prod.fst = some r.mode.code then s else s.sensorChange (0x1000 + k) r.mode.code
  if old.map Prod.snd = some r.guard.code then s else s.sensorChange (0x1010 + k) r.guard.code

-- @row HEARTBEAT_SEND
/-- R467, R468, R486: the master sends a heartbeat to every member; position 0 takes its seat at its first one after BOOT. `reports`: the
answers. A member that answers joins LIVE; one that leaves three unanswered is dropped. -/
def execHeartbeatSend (reports : List MemberReport) (s : State) : Res := .next <|
  let answers : BitVec 4 := reports.foldl (fun (b : BitVec 4) (r : MemberReport) => b ||| BitVec.twoPow 4 r.member.val) 0
  if ! s.stackRuns ∨ ! s.isMaster then s
  else
    let me := s.stackPos
    let s := if s.stk.seated then s else s.setMaster me 1
    let s := s.emit (.stack 0 [me])
    let n := s.fld GLB_STACK_CFG_SIZE_M1
    let others := (List.range (n + 1)).filter fun k => k != me
    let missed := others.map fun k =>
      (k, if answers.getLsbD k then 0 else min 3 (Sparse.get (fun _ => 0) s.stk.missed k + 1))
    let live := (List.range 4).foldl (fun (b : BitVec 4) k =>
      let on := if k = me then true
        else if ! others.contains k then false
        else if answers.getLsbD k then true
        else s.stk.live.getLsbD k && ! missed.contains (k, 3)
      if on then b ||| BitVec.twoPow 4 k else b) 0
    let s := ({ s with stk := { s.stk with missed := missed.filter fun e => e.2 != 0, lastHb := s.timeNs } }).setLive live
    let s := { s with stk := { s.stk with reports := s.stk.reports.filter fun e => live.getLsbD e.1 } }
    (reports.filter fun r => r.member.val != me && decide (r.member.val ≤ n)).foldl (fun (s : State) (r : MemberReport) => s.takeReport r) s

-- @row HEARTBEAT_RECEIVE
/-- R468, R469: a member receives a heartbeat and answers it; a heartbeat of another position than the master's tells it the new master,
and the region commands that waited are taken. `live`: LIVE as the master has it; `handback`: the sender's mastership was handed to it. -/
def execHeartbeatReceive (member : Fin 4) (live : BitVec 4) (handback : Bool) (s : State) : Res := .next <|
  let me := s.stackPos
  if ! s.stackRuns ∨ member.val = me then s
  else
    let s := { s with stk := { s.stk with lastHb := s.timeNs } }
    let s := if ! s.stk.seated then s.setMaster member.val 1
      else if s.stk.master ≠ member.val then s.setMaster member.val (if handback then 3 else 2) else s
    let s := s.setLive (live ||| BitVec.twoPow 4 member.val ||| BitVec.twoPow 4 me)
    (s.emit (.stack 1 [me, s.mc.mode.code, s.per.guard.code])).resumeRegionCmds

-- @row STACK_ELECTION
/-- R468, R469: a member has heard no heartbeat for ELECT_MS and a further 20 ms for each position below its own: it becomes master and
takes the stack endpoint ID. `ranges`: the region lists of the other members, of which it makes the range table. -/
def execStackElection (ranges : List StackRegion) (s : State) : Res := .next <|
  let me := s.stackPos
  let wait := (s.fld GLB_STACK_CFG_ELECT_MS + 20 * me) * 1000000
  if ! s.stackRuns ∨ (s.isMaster ∧ s.stk.seated) ∨ s.timeNs < s.stk.lastHb + wait then s
  else
    let s := s.setMaster me 2
    let s := s.setLive (s.stk.live ||| BitVec.twoPow 4 me)
    let s := { s with stk := { s.stk with ranges := ranges.filter fun r => r.member != me } }
    (s.emit (.stack 0 [me])).resumeRegionCmds

-- @row HANDBACK
/-- R468, R477: mastership passes to the lowest live position; refused on a member, and when the master is already the lowest.
`received`: the master of before hands mastership to this member, the lowest live position. -/
def execHandback (who : Writer) (received : Bool) (s : State) : Res := .next <|
  let me := s.stackPos
  if received then (if s.stackRuns ∧ ! s.isMaster then (s.setMaster me 3).resumeRegionCmds else s)
  else match (List.range 4).find? fun k => s.stk.live.getLsbD k with
  | some k =>
    if s.stackRuns ∧ s.isMaster ∧ k < me then
      (s.setMaster k 3).emit (.stack 3 [k])
    else s.reject (RegName.offset .GLB_STACK_CTL 0 0 0) 1 6 who
  | none => s.reject (RegName.offset .GLB_STACK_CTL 0 0 0) 1 6 who

/-- The regions of this controller as the range table holds them; copy regions are exempt (R470). -/
def State.ownRanges (s : State) : List StackRegion :=
  (s.rgn.table.filter fun e => e.2.valid && ! s.isCopy e.1).map fun e =>
    ⟨s.stackPos, e.2.base.toNat, e.2.size.toNat, e.2.cls, e.2.persist, e.2.mirror, e.2.key.toNat⟩

-- @row STACK_RANGE_CHECK
/-- R470: the master compares a range that another member names with the regions of every other live member, and answers; a range it
accepts enters the table. A member that is not master keeps what the master accepts. `index`: the region index. -/
def execStackRangeCheck (x : StackRegion) (index : Fin 4096) (s : State) : Res := .next <|
  let me := s.stackPos
  if ! s.stackRuns ∨ x.member = me then s
  else
    let add (s : State) : State := { s with stk := { s.stk with ranges := s.stk.ranges ++ [x] } }
    if ! s.isMaster then add s
    else match stackClash (s.ownRanges ++ s.stk.ranges.filter fun r => s.stk.live.getLsbD r.member) x with
      | some (m, f) => (s.log 0x8063 .notice srcStack index m f).emit (.stack 4 [x.member, index, 0])
      | none => (add s).emit (.stack 4 [x.member, index, 1])

-- @row ELECTION_COMMAND_TIMEOUT
/-- R469: no master is elected within 1 s of the first region command that waits: they complete with BUSY. -/
def execElectionCommandTimeout (s : State) : Res := .next <|
  if s.stk.waiting = [] ∨ ! s.electing ∨ s.timeNs < s.stk.waitFrom + 10 ^ 9 then s
  else s.stk.waiting.foldl (fun s d => s.complete d.src .busy) { s with stk := { s.stk with waiting := [] } }

end Sys2Proof.Machine
end

