-- ==== Sys2Proof/Machine/RegView.lean ====
section
/-!
DEFINITION. What the registers read as (R526 to R538, and the field tables of each chapter): the register file, with the fields that
units keep in their own state laid over it, and the windows that selectors choose (R532).
-/
namespace Sys2Proof.Machine

/-- A word of fields. -/
def packWord (fs : List (Field × Nat)) : Word := fs.foldl (fun w f => f.1.put w f.2) 0

/-- Lays fields over the register file's word of instance (i, j). -/
def State.overlaid (s : State) (r : RegName) (i j w : Nat) (fs : List (Field × Nat)) : Word :=
  fs.foldl (fun x f => f.1.put x f.2) (s.regAt r i j w)

/-- A counter that saturates at the width of its field. -/
def Field.cap (f : Field) (n : Nat) : Field × Nat := (f, min (2 ^ f.width - 1) n)

/-- The value of a selector for the host or the BMC (R532). -/
def State.selAt (s : State) (bmc : Bool) (r : RegName) (i : Nat := 0) : Word :=
  if bmc then Sparse.get (fun _ => r.resetWord i 0 0) s.regu.bmcSel (r.offset i 0 0) else s.regAt r i 0 0

/-- The registers that hold one value for the host and one for the BMC (R532). -/
def RegName.selector : RegName → Bool
  | .GLB_EYE_SEL | .SQ_SEL | .RDMA_QP_SEL | .RDMA_KEY_SEL | .SEC_KEY_SEL | .SEC_ROT_SEL | .NF_EC_SEL => true
  | _ => false

/-- The global block (R44, R464, R491, R509 and the tables of chapters 15 and 19). -/
def State.viewGlobal (s : State) (bmc : Bool) (r : RegName) (i j w : Nat) : Option Word :=
  let now := s.timeNs
  match r with
  | .GLB_MODE => some (packWord [(GLB_MODE_MODE, s.mc.mode.code), (GLB_MODE_PREV_MODE, s.mc.prev.toNat),
      (GLB_MODE_DEG_CAUSE, s.mc.causes.toNat), (GLB_MODE_MODE_SEQ, s.mc.seq.toNat)])
  | .GLB_MODE_REQ => some (s.overlaid r i j w [(GLB_MODE_REQ_GO, if s.mc.saveReqs.any fun q => q.2 == .host || q.2 == .bmcReg then 1 else 0),
      (GLB_MODE_REQ_RESULT, s.mc.result.toNat)])
  | .GLB_CC_STAT => some (packWord [(GLB_CC_STAT_ROLE_A, s.cc.roleA.code), (GLB_CC_STAT_ROLE_B, s.cc.roleB.code),
      (GLB_CC_STAT_ROLE_S, s.cc.roleS.code), GLB_CC_STAT_SWITCH_CNT.cap s.cc.switches,
      GLB_CC_STAT_CKPT_AGE.cap ((now - s.cc.ckptAt) * 6 / 5)])
  | .GLB_CC_TEST => some (packWord [GLB_CC_TEST_ROUNDS.cap s.cc.rounds, GLB_CC_TEST_FAILS.cap s.cc.fails,
      (GLB_CC_TEST_TESTING, if s.cc.testing.any fun k => s.cc.role k == .standby then 1 else 0)])
  | .GLB_CC_CTL => some (packWord [(GLB_CC_CTL_FORCE_SWITCH, s.cc.force.toNat)])
  | .GLB_WDT_STAT =>
    let period := s.fld GLB_WDT_CFG_PERIOD_MS * 10 ^ 6
    let age := now - s.cc.lastKick
    some (packWord [(GLB_WDT_STAT_REMAIN_MS, if s.wdtRuns then (period - age) / 10 ^ 6 else 0), (GLB_WDT_STAT_DEFERRED, s.cc.deferred.isSome.toNat),
      (GLB_WDT_STAT_OPEN, if s.wdtRuns ∧ period * s.fld GLB_WDT_CFG_WIN_PCT / 100 ≤ age ∧ age < period then 1 else 0),
      GLB_WDT_STAT_EXPIRES.cap s.cc.expires,
      (GLB_WDT_STAT_RESTARTS, if s.cc.gap = .halted then 3 else min 3 (s.cc.expiries.countP fun t => decide (now < t + 600 * 10 ^ 9)))])
  | .GLB_EYE_DATA => match s.tests.eyes.find? fun e => e.1 == (s.selAt bmc .GLB_EYE_SEL).toNat % 256 with
    | some e => some (packWord [GLB_EYE_DATA_HEIGHT_MV.cap e.2.height, GLB_EYE_DATA_WIDTH_MUI.cap e.2.width,
        (GLB_EYE_DATA_AGE_H, min 0xFFE ((now - e.2.time) / (3600 * 10 ^ 9)))])
    | none => none
  | .GLB_STACK_STAT => some (packWord [(GLB_STACK_STAT_POSITION, s.stackPos), (GLB_STACK_STAT_MASTER, s.stk.master),
      (GLB_STACK_STAT_LIVE, s.stk.live.toNat), (GLB_STACK_STAT_IS_MASTER, if s.isMaster ∧ ! s.stk.conflict then 1 else 0),
      (GLB_STACK_STAT_ELECTING, s.electing.toNat), (GLB_STACK_STAT_CONFLICT, s.stk.conflict.toNat)])
  | .MGT_STAT => some (packWord [(MGT_STAT_EID, s.mgmt.eid.toNat), (MGT_STAT_BUS0_I3C, (s.mgmt.i3c.getLsbD 0).toNat),
      (MGT_STAT_BUS1_I3C, (s.mgmt.i3c.getLsbD 1).toNat), (MGT_STAT_STACK_EID, s.mgmt.stackEid.toNat),
      (MGT_STAT_ISLAND_ONLY, (! s.ccRuns).toNat)])
  | .GLB_STRAP => some (packWord [(GLB_STRAP_STACK_ID, s.pw.strapStackId.toNat), (GLB_STRAP_AUTO_WAKE, s.pw.strapAutoWake.toNat),
      (GLB_STRAP_RECOVERY, s.pw.strapRecovery.toNat)])
  | .GLB_PWR_STAT => some (packWord [(GLB_PWR_STAT_RAIL_OK, s.pw.railOk.toNat), (GLB_PWR_STAT_AON_OK, s.pw.aonOk.toNat),
      (GLB_PWR_STAT_IO_OK, s.pw.ioOk.toNat), (GLB_PWR_STAT_BRD_PG, s.pw.brdPg.toNat), (GLB_PWR_STAT_PWR_FAIL, (! s.pw.pwrFailN).toNat),
      (GLB_PWR_STAT_HU_KEEP, s.huKeep.toNat), (GLB_PWR_STAT_DDR_KEPT, s.pw.ddrKept.toNat), (GLB_PWR_STAT_FAIL_RAIL, s.pw.failRail.toNat)])
  | .GLB_RST_CAUSE => some (packWord [(GLB_RST_CAUSE_BOOT_CAUSE, s.pw.bootCause.toNat), (GLB_RST_CAUSE_HELD, s.pw.rstHeld.toNat),
      (GLB_RST_CAUSE_BOOTS, s.pw.boots.toNat)])
  | .GLB_CLK_STAT => some (packWord [(GLB_CLK_STAT_CXL_REF, s.clk.cxlRef.toNat), (GLB_CLK_STAT_ETH_REF, s.clk.ethRef.toNat),
      (GLB_CLK_STAT_SYS25, s.clk.sys25.toNat), (GLB_CLK_STAT_XTAL, s.clk.xtal.toNat), (GLB_CLK_STAT_HOLDOVER, s.clk.holdover.toNat),
      (GLB_CLK_STAT_TB_LOCK, s.clk.tbLock.toNat), (GLB_CLK_STAT_PPS_IN, s.clk.ppsIn.toNat)])
  | .GLB_TB_OFFSET => some s.clk.tbOffset
  | _ => none

/-- Word k of a region table entry (R57). -/
def State.regionWord (s : State) (x : Region) (k : Nat) : Word :=
  let b (f : Bool) (n : Nat) : Nat := if f then 2 ^ n else 0
  BitVec.ofNat 32 <| match k with
  | 0 => b x.valid 0 + b x.damaged 1 + b x.released 2 + 8 * x.cls.code + b x.persist 5 + 64 * x.mirror.code + b x.shared 8 +
      b x.refilling 9 + 65536 * x.gen.toNat
  | 1 => x.base.toNat
  | 2 => x.size.toNat
  | 3 => x.key.toNat + 2 ^ 12 * x.ownerSet.toNat + 2 ^ 20 * x.place.toNat
  | 4 => x.frameBase.toNat
  | 5 => if x.valid then min (2 ^ 28 - 1) (s.dirtyPagesOf x) else 0
  | 6 => if x.valid then min (2 ^ 32 - 1) (s.ports.poison.countP fun e => x.covers (64 * e.1)) else 0
  | _ => 0

/-- The persistence and region blocks (R57, R107 and the tables of chapter 03). -/
def State.viewMem (s : State) (r : RegName) (i j w : Nat) : Option Word :=
  match r with
  | .RGN_STATUS => some (packWord [(RGN_STATUS_EPOCH, s.rgn.epoch.toNat), (RGN_STATUS_DRAINING, s.rgn.draining.toNat),
      (RGN_STATUS_COMMIT_PENDING, if s.rgn.waiting = [] then 0 else 1), (RGN_STATUS_ACTIVE, s.rgn.table.countP fun e => e.2.valid)])
  | .RGN_DPA_LIMIT => some (packWord [(RGN_DPA_LIMIT_LIMIT_GIB, s.rgn.limitGib.toNat)])
  | .RGN_POOL_CFG => some (s.overlaid r i j w [(RGN_POOL_CFG_REFS, s.poolRefs i)])
  | .RGN_OWNER_SET => some ((s.ownerSet i).extractLsb' (32 * j) 32)
  | .RGN_TABLE => some (s.regionWord (s.region i) j)
  | .PER_GUARD => some (packWord [(PER_GUARD_STATE, s.per.guard.code), (PER_GUARD_STALL_RISK, s.per.stallRisk.toNat),
      (PER_GUARD_UNARMED_CAUSE, s.per.cause.toNat), (PER_GUARD_IMAGE_FREE, (s.imageFree false).toNat + 2 * (s.imageFree true).toNat),
      (PER_GUARD_GUARD_SEQ, s.per.guardSeq.toNat)])
  | .PER_ENERGY => some (packWord [PER_ENERGY_USABLE_DJ.cap s.per.usableDj, (PER_ENERGY_VALID, s.per.energyOk.toNat),
      (PER_ENERGY_PACKS, s.per.packs.toNat)])
  | .PER_SAVE_BW => some (packWord [PER_SAVE_BW_MBPS.cap s.saveMbps, (PER_SAVE_BW_CHANNELS, s.per.rehChannels)])
  | .PER_CEILING => some (packWord [PER_CEILING_PAGES.cap s.per.ceiling])
  | .PER_AT_RISK => some (packWord [PER_AT_RISK_PAGES.cap s.atRisk])
  | .PER_SAVE_STATUS => some (packWord [(PER_SAVE_STATUS_LAST_SEQ, s.per.saveSeq.toNat % 2 ^ 16), (PER_SAVE_STATUS_LAST_RESULT, s.per.lastResult.toNat),
      (PER_SAVE_STATUS_PENDING, (if s.per.imageA.st = .pending then 1 else 0) + if s.per.imageB.st = .pending then 2 else 0)])
  | .PER_RESTORE => some (packWord [PER_RESTORE_PENDING_PAGES.cap
        ((s.per.imageA.pages ++ s.per.imageB.pages).eraseDups.countP fun k => (s.imageOf k).isSome),
      (PER_RESTORE_REFILL_ACTIVE, (s.rgn.table.any fun e => e.2.valid && e.2.refilling).toNat)])
  | _ => none

/-- The partition a page lies in belongs to a region of it. -/
def State.partPages (s : State) (q : Nat) : Nat :=
  s.tier.pages.countP fun e => e.2.st != .invalid && match s.regionOf (4096 * e.1) with
    | some (_, r) => r.cachedLike && r.place.toNat == q
    | none => false

/-- The rings, long operations and spill queues (R329, R334, R337). -/
def State.viewRings (s : State) (bmc : Bool) (r : RegName) (i j w : Nat) : Option Word :=
  let x := s.ringAt i
  match r with
  | .RING_SQ_DB => some (BitVec.ofNat 32 x.sqTail)
  | .RING_CQ_DB => some (BitVec.ofNat 32 x.cqHead)
  | .RING_PUSH => some 0
  | .RING_PUSH_STAT => some (packWord [(RING_PUSH_STAT_TORN, x.torn.toNat), (RING_PUSH_STAT_OPEN, x.openItem.isSome.toNat),
      (RING_PUSH_STAT_WORDS, (x.openItem.getD []).length)])
  | .RING_CTL => some (s.overlaid r i j w [(RING_CTL_FLUSH, 0)])
  | .RING_STAT => some (packWord [(RING_STAT_HEAD, x.head), (RING_STAT_HALTED, x.halted.toNat),
      (RING_STAT_CQ_FULL, if (x.cqTail + 1) % s.cqSize i = x.cqHead then 1 else 0)])
  | .RING_CQ_STAT => some (packWord [(RING_CQ_STAT_TAIL, x.cqTail), (RING_CQ_STAT_PHASE, x.phase.toNat)])
  | .OP_STAT => some (packWord [(OP_STAT_IN_USE, s.rings.ops.length), (OP_STAT_SUSPENDED, s.rings.ops.countP fun o => o.st == .suspended)])
  | .SQ_STAT =>
    let sel := s.selAt bmc .SQ_SEL
    let kind := SQ_SEL_KIND.get sel
    let n := SQ_SEL_INSTANCE.get sel
    let items : Nat := match kind with
      | 1 => (s.ringAt n).queue.length
      | 2 => (s.ringAt n).recs.length
      | 3 => (s.qp n).items.length
      | 4 => s.twin.backlog.length
      | 5 => ((s.tier.streams.filter fun t => t.number == n).map fun t => t.inflight.length).sum
      | 6 => s.tbDepth n
      | 7 => (s.ch n).held.length
      | 8 => (s.ch n).wq.length
      | 9 => s.per.adm.countP fun a => a.cw == n
      | _ => 0
    let torn := if kind = 1 then (s.ringAt n).torn else s.rings.sqTorn.contains (65536 * kind + n)
    some (packWord [SQ_STAT_ITEMS.cap items, SQ_STAT_CHUNKS.cap (s.spillChunksOf kind n), (SQ_STAT_TORN, torn.toNat)])
  | .SPILL_POOL => some (packWord [(SPILL_POOL_USED, s.spillUsed), (SPILL_POOL_PEAK, max s.rings.poolPeak s.spillUsed)])
  | .TIER_LAYBY_STAT =>
    let bits (p : Nat → Bool) : Nat := (List.range 16).foldl (fun a n => if p n then a + 2 ^ n else a) 0
    let lent (n : Nat) : Bool := s.tier.lent.any fun e => e.1 == n
    some (packWord [(TIER_LAYBY_STAT_LENT, bits lent),
      (TIER_LAYBY_STAT_BORROWING, bits fun n => Nat.testBit (Config.freeValue s.freeCtr) n && (List.range 4).any fun k => lent (4 * (n / 4) + k))])
  | .TIER_PART_STAT => some (packWord [TIER_PART_STAT_PAGES.cap (s.partPages i)])
  | .TIER_PLAN_STAT => match s.tier.plans.find? fun p => p.slot == i with
    | some p => some (packWord [(TIER_PLAN_STAT_STATE, if p.stopBy.isSome then 3 else if p.started then 2 else 1),
        (TIER_PLAN_STAT_STREAMS_M1, p.image.streams.length - 1), (TIER_PLAN_STAT_FIRST_STREAM, p.firstStream)])
    | none => some 0
  | .TIER_STREAM_STAT => match s.tier.streams.find? fun t => t.number == i with
    | some t => some (if w = 0 then t.ready
        else packWord [(TIER_STREAM_STAT_LAYER, t.done), (TIER_STREAM_STAT_STATE, t.st.code), (TIER_STREAM_STAT_PLAN, t.plan)])
    | none => some 0
  | _ => none

/-- A slot's half of CH_POP. -/
def Dimm.half (d : Dimm) : Word :=
  packWord [(CH_POP_PRESENT, d.present.toNat), (CH_POP_RANKS_M1, d.ranksM1), (CH_POP_HEIGHT, d.height), (CH_POP_DENSITY, d.density), (CH_POP_GIB, d.gib)]

/-- Percent of a channel's shares done (CH_REBUILD.PCT). -/
def Channel.sharePct (c : Channel) : Nat :=
  let total := (c.shares.map Share.total).sum
  if total = 0 then 0 else (c.shares.map fun x => x.cursor + x.done.length).sum * 100 / total

/-- The DRAM channels (chapters 06, 07 and 19). -/
def State.viewChannel (s : State) (r : RegName) (i j _w : Nat) : Option Word :=
  let c := s.ch i
  match r with
  | .CH_TIM0 | .CH_TIM1 | .CH_TIM2 | .CH_TIM3 | .CH_TIM4 | .CH_TIM5 | .CH_TIM6 | .CH_TIM7 | .CH_TIM8 | .CH_TIM9 | .CH_TIM10
  | .CH_TIM11 | .CH_TIM12 | .CH_TIM13 => c.live[timRegs.idxOf r]?
  | .CH_STATE => some (packWord [(CH_STATE_STATE, c.st.code), (CH_STATE_TYPE, c.typ), (CH_STATE_RATE, c.rate), (CH_STATE_CAP_GIB, c.capGib),
      (CH_STATE_RSV_GIB, c.rsvGib)])
  | .CH_POP => some (c.dimm0.half ||| (c.dimm1.half <<< 16))
  | .CH_QSTAT => some (packWord [CH_QSTAT_RD_OCC.cap (c.held.length + c.twinReads.length), CH_QSTAT_WR_OCC.cap c.wq.length,
      CH_QSTAT_IN_ORDER.cap c.inOrder.length])
  | .CH_THERM => some (packWord [(CH_THERM_TEMP0, c.temp0), (CH_THERM_TEMP1, c.temp1), (CH_THERM_FACTOR, c.factor), (CH_THERM_THROTTLE, c.throttle.toNat)])
  | .CH_PASR => some (packWord [(CH_PASR_RELEASED, c.released.toNat)])
  | .CH_REBUILD => some (packWord [(CH_REBUILD_ACTIVE, if c.work = .none then 0 else 1), (CH_REBUILD_NO_SPACE, c.noSpace.toNat),
      (CH_REBUILD_PCT, min 100 c.sharePct), (CH_REBUILD_PARTNER, c.partner)])
  | .CH_MARK =>
    let m (k : Nat) : Option (Nat × Nat) := c.marks.find? fun x => x.1 == 2 * j + k
    some (packWord [(CH_MARK_POS_A, ((m 0).map Prod.snd).getD 0), (CH_MARK_VALID_A, (m 0).isSome.toNat),
      (CH_MARK_POS_B, ((m 1).map Prod.snd).getD 0), (CH_MARK_VALID_B, (m 1).isSome.toNat)])
  | .CH_PATROL =>
    let x := s.patrol i
    some (packWord [(CH_PATROL_PCT, if s.chLines i = 0 then 0 else x.cursor * 100 / s.chLines i), CH_PATROL_BEHIND_H.cap (s.patrolLag i x),
      CH_PATROL_PASSES.cap x.passes])
  | .CH_LAYBY =>
    let n := s.tests.retired.countP fun x => x / 1024 == i
    some (packWord [(CH_LAYBY_RETIRED, n), (CH_LAYBY_NO_LEND, if 16 < n then 1 else 0)])
  | .CH_SPD =>
    let ws := if j < 256 then c.spd0 else c.spd1
    some (ws.getD (j % 256) 0)
  | _ => none

/-- The block a selector of a NAND channel points at. -/
def State.ecWord (s : State) (bmc : Bool) (i : Nat) : Word :=
  let sel := s.selAt bmc .NF_EC_SEL i
  let d := NF_EC_SEL_DIE.get sel
  let b := NF_EC_SEL_BLOCK.get sel
  if (s.nf i).dies / 8 ≤ d % 4 ∨ s.nandGeom.blocks ≤ b then 0
  else
    let x := s.block i d b
    packWord [NF_EC_DATA_ERASES.cap x.ec, (NF_EC_DATA_STATUS, x.status), (NF_EC_DATA_USE, s.blockUse i d b)]

/-- Mean erase counter of the good capacity-tier blocks of every channel (NF_PE.PE_MEAN). -/
def State.peMean (s : State) : Nat :=
  let ecs := (List.range 32).flatMap fun n => (s.diesOf n).flatMap fun d =>
    ((s.listedBlocks n d).filter fun e => s.blockUse n d e.1 == 0 && e.2.status == 0).map fun e => e.2.ec
  let good := ((List.range 32).map s.goodBlocks).sum
  if good = 0 then 0 else ecs.sum / good

/-- The NAND channels and media (chapter 08) and the tailback queues (chapter 13). The size and the hit rate of the map cache are free
values. -/
def State.viewNand (s : State) (bmc : Bool) (r : RegName) (i j w : Nat) : Option Word :=
  let c := s.nf i
  let g := s.nandGeom
  match r with
  | .NF_STATE => some (packWord [(NF_STATE_STATE, c.st.code), (NF_STATE_IO, c.io), (NF_STATE_DIES, (s.diesOf i).length), (NF_STATE_RATE, c.rate),
      (NF_STATE_CELL, if c.dies = 0 then 0 else g.cell)])
  | .NF_GEOM => some (if c.dies = 0 then 0 else packWord [(NF_GEOM_PLANES_LOG2, g.planes.log2), (NF_GEOM_PAGES, g.pages), (NF_GEOM_BLOCKS, g.blocks)])
  | .NF_ERASE_STAT => some (s.overlaid r i j w [(NF_ERASE_STAT_LONGEST_MS, s.longestMs i)])
  | .NF_FREE => some (if c.dies = 0 then 0 else packWord [NF_FREE_MIN_FREE.cap (s.minFree i), (NF_FREE_ALARM, (s.poolAlarm i).toNat)])
  | .NF_EC_DATA => some (s.ecWord bmc i)
  | .NF_EC_SUM => some (packWord [NF_EC_SUM_MIN.cap (s.ecSum i).1, NF_EC_SUM_MAX.cap (s.ecSum i).2])
  | .NF_POP => some (packWord [(NF_POP_MODULES, s.nand.modules.toNat), (NF_POP_SERVING, s.servingNf.length),
      (NF_POP_BROWNOUT, if s.nand.brownout = 0 then 0 else 1)])
  | .NF_ENDUR_STAT => some (packWord [NF_ENDUR_STAT_DAY_GIB.cap s.dayHome.1, (NF_ENDUR_STAT_OVER, if s.nand.tokens < 0 then 1 else 0),
      (NF_ENDUR_STAT_WA_PCT, max 100 (min 2047 s.dayHome.2))])
  | .NF_PE => some (packWord [(NF_PE_PE_RATED, s.peRated), NF_PE_PE_MEAN.cap s.peMean])
  | .NF_SAVE_RGN => some (packWord [(NF_SAVE_RGN_GOOD_A_GIB, s.goodGib.1), (NF_SAVE_RGN_GOOD_B_GIB, s.goodGib.2)])
  | .NF_MAP => some (packWord [(NF_MAP_CACHE_GIB, Config.freeValue s.freeCtr), (NF_MAP_HIT_PCT, Config.freeValue (s.freeCtr + 1) % 101)])
  | .ARB_TB_STAT => some (s.overlaid r i j w [(ARB_TB_STAT_DEPTH, s.tbDepth i), (ARB_TB_STAT_PEAK, max (s.fld ARB_TB_STAT_PEAK i) (s.tbDepth i))])
  | .ARB_CTL => some (s.overlaid r i j w [(ARB_CTL_COMMIT, (s.arbBusy i).toNat)])
  | .ARB_STAT => some (s.overlaid r i j w [(ARB_STAT_SWAPPED,
      (List.range 4).foldl (fun a k => if s.arb.oldTable.any fun e => e.1 == 4 * i + k then a else a + 2 ^ k) 0)])
  | _ => none

/-- The twin transport, the CXL ports and RDMA (R259, R289, R310). -/
def State.viewPorts (s : State) (bmc : Bool) (r : RegName) (i j w : Nat) : Option Word :=
  let links := bifurLinks (s.bifur i)
  match r with
  | .BTT_LINK_STAT => some (packWord [(BTT_LINK_STAT_STATE, s.twin.link.code), (BTT_LINK_STAT_PATHS_UP, s.twin.pathsUp.toNat),
      (BTT_LINK_STAT_PEER_LEVEL, s.twin.peerLevel.toNat), (BTT_LINK_STAT_RESYNC, s.twin.resync.isSome.toNat)])
  | .BTT_EPOCH => some s.twin.epoch
  | .BTT_LAG => some (packWord [BTT_LAG_AGE_US.cap s.lag.1, BTT_LAG_MIB.cap (s.lag.2 / 2 ^ 20)])
  | .BTT_BITMAP => some (packWord [(BTT_BITMAP_RANGES, s.twin.bitmap.length)])
  | .BTT_PATH_STAT => some (packWord [(BTT_PATH_STAT_UP, (s.twin.pathsUp.getLsbD i).toNat),
      BTT_PATH_STAT_SILENT_US.cap ((s.timeNs - Sparse.get (fun _ => 0) s.twin.lastRx i) / 1000)])
  | .BTT_COPY =>
    let x := s.copyInfo i
    some (if w = 0 then packWord [(BTT_COPY_COPY, x.copy.toNat), (BTT_COPY_PROMOTED, x.promoted.toNat), (BTT_COPY_PRIMARY, x.primary)] else x.gen)
  | .PRT_BIFUR => some (packWord [(PRT_BIFUR_CURRENT, s.bifur i), (PRT_BIFUR_NEXT, Sparse.get (fun _ => 0) s.ports.next i)])
  | .PRT_LINK_STAT =>
    let x := s.linkAt i j
    some (if links ≤ j then 0
      else packWord [(PRT_LINK_STAT_UP, x.up.toNat), (PRT_LINK_STAT_WIDTH, x.width), (PRT_LINK_STAT_RATE, x.rate), (PRT_LINK_STAT_FLIT256, x.flit256.toNat),
        (PRT_LINK_STAT_VER, x.ver), (PRT_LINK_STAT_VIRAL, x.viral.toNat), (PRT_LINK_STAT_IDE, x.ide),
        (PRT_LINK_STAT_RWD_HELD, (x.up && s.admFull (i / 2)).toNat)])
  | .PRT_LD_EN => if links ≤ j then some 0 else none
  | .PRT_TT_STAT =>
    let n := ((List.range 4).map fun l => s.entriesUsed i l).sum
    some (packWord [PRT_TT_STAT_IN_USE.cap n, PRT_TT_STAT_PEAK.cap (max n (Sparse.get (fun _ => 0) s.ports.peak i))])
  | .PRT_POISON_LIST => some (s.overlaid r i j w [(PRT_POISON_LIST_ENTRIES, s.ports.poison.length)])
  | .RDMA_QP_CTX =>
    let x := s.qp (RDMA_QP_SEL_QP.get (s.selAt bmc .RDMA_QP_SEL))
    let v := x.ctx.getD w 0
    some (if w = 0 then RDMA_QP_CTX_STATE.put v x.st.code else v)
  | .RDMA_KEY_ENT => some ((Sparse.get (fun _ => keyReset) s.rdma.keys (RDMA_KEY_SEL_KEY.get (s.selAt bmc .RDMA_KEY_SEL))).getD w 0)
  | .RDMA_QP_STAT =>
    let x := s.qp i
    some (if w = 0 then x.compCnt else packWord [(RDMA_QP_STAT_GATE, if (x.items.head?.map QpItem.kind) = some .gate then 1 else 0),
      RDMA_QP_STAT_QUEUED.cap x.items.length])
  | _ => none

/-- Words of event slot i (R414). -/
def State.slotWord (s : State) (i k : Nat) : Word :=
  match s.evt.recs.find? fun x => x.slot == i with
  | some x => x.words.getD k 0
  | none => 0

/-- Security, flash, events and sensors (R371, R413, R435, R449). -/
def State.viewRest (s : State) (bmc : Bool) (r : RegName) (i j w : Nat) : Option Word :=
  let x := s.flash.sess
  match r with
  | .SEC_STATUS => some (packWord [(SEC_STATUS_STORE, s.sec.store.code), (SEC_STATUS_ENTROPY_OK, s.sec.entropyOk.toNat),
      (SEC_STATUS_MASK_DEGRADED, s.sec.maskDegraded.toNat), (SEC_STATUS_ROTATING, if s.sec.rotations = [] then 0 else 1),
      (SEC_STATUS_LOADED, s.sec.slots.countP fun e => e.2.st == .loaded)])
  | .SEC_ALARM => some (packWord [(SEC_ALARM_LATCHED, s.sec.latched.toNat), (SEC_ALARM_ACTIVE, s.sec.active.toNat), (SEC_ALARM_COUNT, s.sec.alarms.toNat)])
  | .SEC_KEY_STAT =>
    let k := SEC_KEY_SEL_SLOT.get (s.selAt bmc .SEC_KEY_SEL)
    some (packWord [(SEC_KEY_STAT_STATE, (s.keySlot k).st.code), (SEC_KEY_STAT_GEN, (s.keySlot k).gen.toNat), SEC_KEY_STAT_REFS.cap (s.keyRefs k)])
  | .SEC_ROT_STAT => match s.rotationOf (SEC_ROT_SEL_REGION.get (s.selAt bmc .SEC_ROT_SEL)) with
    | some t => some (packWord [(SEC_ROT_STAT_ACTIVE, 1), (SEC_ROT_STAT_OLD_SLOT, t.old), (SEC_ROT_STAT_NEW_SLOT, t.new)])
    | none => some 0
  | .SEC_ROT_CURSOR => match s.rotationOf (SEC_ROT_SEL_REGION.get (s.selAt bmc .SEC_ROT_SEL)) with
    | some t => some (packWord [(SEC_ROT_CURSOR_CURSOR, t.cursor)])
    | none => some 0
  | .SEC_FW => some (s.overlaid r i j w [SEC_FW_SVN.cap s.flash.fusedSvn, (SEC_FW_KEYSLOT, s.flash.keySlot)])
  | .FLS_STAT =>
    let busy (b : Nat) : Nat := if s.flash.ops.any fun o => o.bank == b && o.suspended.isNone then 2 ^ b else 0
    some (packWord [(FLS_STAT_BUSY, busy 0 + busy 1), (FLS_STAT_EXEC_BANK, s.flash.execBank),
      (FLS_STAT_SUSPENDED, (s.flash.ops.any fun o => o.suspended.isSome).toNat), (FLS_STAT_BROWNOUT, s.flash.brownout.toNat),
      (FLS_STAT_ERASE_MARKED, if s.flash.marked = [] then 0 else 1)])
  | .FLS_SLOT_STAT =>
    let y := s.slot i
    some (if w = 0 then packWord [(FLS_SLOT_STAT_STATE, y.st), (FLS_SLOT_STAT_STARTS, y.starts), (FLS_SLOT_STAT_SVN, y.svn), (FLS_SLOT_STAT_BTT_LEVEL, y.level)]
      else BitVec.ofNat 32 y.ver)
  | .FLS_SESS => some (packWord [(FLS_SESS_STATE, x.st.code), (FLS_SESS_SOURCE, x.source), (FLS_SESS_TARGET, x.target)])
  | .FLS_SESS_OFF => some (packWord [(FLS_SESS_OFF_BYTES, x.off)])
  | .FLS_SESS_LEN => some (packWord [(FLS_SESS_LEN_BYTES, x.len)])
  | .FLS_SESS_ID => some x.id
  | .FLS_ACT_STAT =>
    let grouped := match x.st with | .scheduled | .activating | .trial | .reverting => true | _ => x.members != []
    some (packWord [(FLS_ACT_STAT_SWAPPED, x.swapped), (FLS_ACT_STAT_GROUP, if grouped then x.members.length + 1 else 0), (FLS_ACT_STAT_VOTES, x.yes.length)])
  | .FLS_REC_STAT => some (packWord [(FLS_REC_STAT_FREE_PS, s.freeWords (0x8000, 0x8000)), (FLS_REC_STAT_FREE_JR, s.freeWords (0x1BC0000, 0x10000))])
  | .EVT_HEAD => some s.evt.nextSeq
  | .EVT_OLDEST => some ((lowSeq s.evt.recs).getD s.evt.nextSeq)
  | .EVT_COUNT => some (s.overlaid r i j w [(EVT_COUNT_PRESENT, s.evt.recs.length),
      (EVT_COUNT_UNACKED, s.evt.recs.countP fun e => e.sev == .critical && ! e.acked)])
  | .EVT_ACK => some 0
  | .EVT_ERR_SUM0 => some (packWord [
      (EVT_ERR_SUM0_DRAM, (List.range 16).foldl (fun a n => if s.fld CH_ERR_FIRST n = 0 then a else a + 2 ^ n) 0),
      (EVT_ERR_SUM0_CW, (List.range 4).foldl (fun a n => if s.fld EVT_CW_ERR_FIRST n = 0 then a else a + 2 ^ n) 0)])
  | .EVT_ERR_SUM1 => some (packWord [(EVT_ERR_SUM1_NAND, (List.range 32).foldl (fun a n => if s.fld NF_ERR_FIRST n = 0 then a else a + 2 ^ n) 0)])
  | .EVT_SLOT => some (s.slotWord i j)
  | .SNS_VAL =>
    let y := s.sensor i
    some (packWord [(SNS_VAL_VALUE, (BitVec.ofInt 16 y.value).toNat), (SNS_VAL_STALE, y.stale.toNat), (SNS_VAL_UNCAL, y.uncal.toNat),
      (SNS_VAL_OUT_RANGE, y.out.toNat)])
  | .SNS_PACK_STAT => some (packWord [(SNS_PACK_STAT_STATE, (s.pack i).st.code), (SNS_PACK_STAT_CYCLES, (s.pack i).id.cycles)])
  | .SNS_PACK_CAP => some (packWord [SNS_PACK_CAP_C_MF.cap ((s.pack i).id.cUf / 1000), SNS_PACK_CAP_ESR_MOHM.cap ((s.pack i).id.esr / 100)])
  | .SNS_PACK_ENERGY => some (packWord [SNS_PACK_ENERGY_USABLE_DJ.cap (s.pack i).usable, SNS_PACK_ENERGY_FULL_DJ.cap (s.pack i).full])
  | .SNS_PACK_CTL => some (packWord [(SNS_PACK_CTL_TEST, (s.pack i).req.toNat)])
  | .SNS_TRIM => some (Sparse.get (fun _ => trimIdentity) s.hub.trims (128 * i + j))
  | .SNS_TRIM_CTL => some (packWord [(SNS_TRIM_CTL_COMMIT, s.hub.commit.toNat)])
  | _ => none

/-- What word w of instance (i, j) of a register reads as, for the host or the BMC. A selector reads as the reader's own value (R532). -/
def State.view (s : State) (bmc : Bool) (r : RegName) (i j w : Nat) : Word :=
  if r.selector then s.selAt bmc r i
  else
    match s.viewGlobal bmc r i j w <|> s.viewMem r i j w <|> s.viewRings bmc r i j w <|> s.viewChannel r i j w <|> s.viewNand bmc r i j w <|>
      s.viewPorts bmc r i j w <|> s.viewRest bmc r i j w with
    | some v => v
    | none => s.regAt r i j w

end Sys2Proof.Machine
end

