-- ==== Sys2Proof/Machine/Regs.lean ====
section
/-!
DEFINITION. Register access (R3 to R5, R421, R526 to R534): reads with their clearing, writes by field under access codes and change
classes, the actions that writes start, and the set-up lock.
-/
namespace Sys2Proof.Machine

/-- The state that a meaning leaves. -/
def State.after (s : State) : Res → State
  | .next t => t
  | _ => s

/-! ## Reads (R526, R527, R533) -/

/-- What a read clears beside the fields of the register file: PEAK of a port's transaction table and of the spill pool, the expiries of
the watchdog; and what the health counters of the mailbox keep of a cleared count (R286). -/
def State.clearKept (s : State) (r : RegName) (i : Nat) (v : Word) : State :=
  match r with
  | .PRT_TT_STAT => { s with ports := { s.ports with peak := Sparse.set (fun _ => 0) s.ports.peak i 0 } }
  | .SPILL_POOL => { s with rings := { s.rings with poolPeak := 0 } }
  | .GLB_WDT_STAT => s.setCc { s.cc with expires := 0 }
  | .CH_CE_CNT => { s with ports := { s.ports with ceSeen := s.ports.ceSeen + v.toNat } }
  | .NF_RETRY_CNT => { s with ports := { s.ports with retrySeen := s.ports.retrySeen + v.toNat } }
  | _ => s

/-- Reads the word at an aligned offset: an unlisted one is 0 and is counted (R526); RC fields are cleared, but for a BMC read with
BMC_PEEK = 1 (R533). A read of a value that is free takes a new one. -/
def State.readWord (s : State) (bmc : Bool) (off : Nat) : Word × State :=
  match locateReg off with
  | none => (0, s.bump GLB_ACC_ERR_UNMAPPED)
  | some (r, i, j, w) =>
    let v := s.view bmc r i j w
    let rc := r.fields.filter fun f => f.acc == .rc && f.word == w
    let s : State := match r with
      | .TIER_LAYBY_STAT | .NF_MAP => { s with freeCtr := s.freeCtr + 2 }
      | _ => s
    if rc.isEmpty || (bmc && s.flag GLB_ACC_CTL_BMC_PEEK) then (v, s)
    else (v, (rc.foldl (fun s f => s.setFld f 0 i j) s).clearKept r i v)

/-- A read of `bytes` bytes at an offset (R527): 64 bits as two words, lower first; fewer than 32 bits inside one word as the bytes
addressed, with the side effects of the word; any other read is zeros and counts in PARTIAL. -/
def State.readBar (s : State) (bmc : Bool) (off bytes : Nat) : List Nat × State :=
  if bytes = 8 ∧ off % 4 = 0 then
    let (a, s) := s.readWord bmc off
    let (b, s) := s.readWord bmc (off + 4)
    ([a.toNat, b.toNat], s)
  else if off % 4 + bytes ≤ 4 then
    let (a, s) := s.readWord bmc (off / 4 * 4)
    ([a.toNat / 2 ^ (8 * (off % 4)) % 2 ^ (8 * bytes)], s)
  else ([0], s.bump GLB_ACC_ERR_PARTIAL)

/-- The host has BAR0: not in OFF, STANDBY and SAVE (R34, R530). -/
def State.hostBar (s : State) : Bool := s.mc.mode != .off && s.mc.mode != .standby && s.mc.mode != .save

/-- The BMC reaches the registers: VDD_IO is in range, and the mode is not OFF (R481, R496). -/
def State.bmcBar (s : State) : Bool := s.mc.mode != .off && s.pw.ioOk

-- @row COUNTER_READ_CLEAR
/-- R527, R529, R533: a read of a register, by the host or the BMC, of 1, 2, 4 or 8 bytes; it returns RC fields and clears them. -/
def execCounterReadClear (bmc : Bool) (off : BitVec 26) (bytes : Fin 9) (s : State) : Res := .next <|
  if ! (if bmc then s.bmcBar else s.hostBar) then s
  else
    let (ws, s) := s.readBar bmc off.toNat bytes.val
    s.emit (.regData bmc off.toNat ws)

/-! ## Classes and ranges (R4, R534) -/

/-- The block that uses the class Q fields of a register instance runs (R4): pools and partitions in use (R70, R113), CH_AMAP while the
channel holds a frame of a pool, the link and its paths (R259), queue pairs and keys (R310), rings (R337). The tier engines, the
sleep control and refresh run in the serving modes but QUIESCENT; PFC while a port takes RoCEv2; a GID while a queue pair uses it. -/
def State.regRuns (s : State) (bmc : Bool) (r : RegName) (i j : Nat) : Bool :=
  let serves := s.mc.mode.serving && s.mc.mode != .quiescent
  match r with
  | .GLB_SLEEP_CTL | .TIER_LAYBY_CTL => serves
  | .CH_REF => serves && (s.ch i).st != .closed && (s.ch i).st != .offline
  | .RGN_POOL_CFG | .RGN_POOL_BAND => s.poolRefs i != 0
  | .TIER_PART_CFG | .TIER_PART_DATA | .TIER_PART_TAG => s.partUsed i
  | .CH_AMAP => (List.range 16).any fun p => s.flag RGN_POOL_CFG_VALID p && s.poolRefs p != 0 &&
      ((List.range (s.members p).length).any fun m => match s.remapOf p m with
        | some k => RGN_POOL_REMAP_TARGET_CH.get (s.regAt .RGN_POOL_REMAP p k 0) == i
        | none => (s.members p).getD m 16 == i)
  | .CH_CTL => (s.ch i).st != .closed && (s.ch i).st != .offline
  | .BTT_LINK_CFG | .BTT_RX_SHARE => s.twin.link != .disabled
  | .BTT_PATH_CFG | .BTT_PATH_LOCAL_IP | .BTT_PATH_REMOTE_IP => s.flag BTT_PATH_CFG_VALID i && s.twin.link != .disabled
  | .RDMA_CTL => s.fld RDMA_CTL_PORT_EN != 0
  | .RDMA_GID => s.rdma.qps.any fun e => e.2.st != .reset && e.2.port == i && e.2.word 0 / 256 % 4 == j / 4
  | .RDMA_QP_CTX => (s.qp (RDMA_QP_SEL_QP.get (s.selAt bmc .RDMA_QP_SEL))).st != .reset
  | .RDMA_KEY_ENT => (s.view bmc .RDMA_KEY_ENT 0 0 0).getLsbD 0
  | .RING_CFG | .RING_CTL | .RING_SQ_BASE | .RING_CQ_BASE => s.flag RING_CTL_ENABLE i
  | _ => false

/-- A value lies in the range of its field. -/
def Field.inRange (f : Field) (v : Nat) : Bool :=
  (f.ok.isEmpty || f.ok.any fun r => decide (r.1 ≤ v) && decide (v ≤ r.2)) &&
    ! (f == RDMA_QP_CTX_MTU && v == 3) && ! (f == RDMA_QP_CTX_ACK_TO && v == 0) && ! (f == RDMA_QP_CTX_STATE && v == 3)

/-- Why a change of a field is refused (R4, R421, R534): 1 class Q while running, 2 class F after the lock, 3 out of range, 6 a shadow
whose commit is still swapping (R345). -/
def State.refusal (s : State) (runs : Bool) (f : Field) (i v : Nat) : Option Nat :=
  if f.cls = .quiesce ∧ runs then some 1
  else if f.cls = .fixed ∧ s.flag GLB_LOCK_LOCK then some 2
  else if f.cls ≠ .shadow ∧ ! f.inRange v then some 3
  else if f.reg = .ARB_SHADOW ∧ s.arbBusy i then some 6
  else none

/-- The settings that a word, with the other registers as they stand, would break (R69, R113, R159, R250, and the field tables): the reason and
detail of the refusal. -/
def State.regClash (s : State) (r : RegName) (i : Nat) (v : Word) : Option (Nat × Nat) :=
  let bad (ok : Bool) (n : Nat) : Option (Nat × Nat) := if ok then none else some (n, 0)
  let budgets (t1 t2 t3 : Word) : Bool :=
    decide (4 * BTT_TIMING_RETX_BUDGET.get t1 ≤ BTT_TIMING_LAG_US.get t1) &&
    decide (4 * BTT_TIMING_RETX_BUDGET.get t1 ≤ BTT_TIMING2_SYNC_LIMIT.get t2) &&
    decide (BTT_TIMING_LAG_US.get t1 < 1000 * BTT_TIMING3_ABSENT_MS.get t3) &&
    decide (2 * BTT_TIMING2_KA_US.get t2 ≤ 10 * BTT_TIMING2_PATH_DEAD.get t2)
  let tim (x : RegName) : Word := s.regAt x 0 0 0
  match r with
  | .BTT_TIMING => bad (budgets v (tim .BTT_TIMING2) (tim .BTT_TIMING3)) 4
  | .BTT_TIMING2 => bad (budgets (tim .BTT_TIMING) v (tim .BTT_TIMING3)) 4
  | .BTT_TIMING3 => bad (budgets (tim .BTT_TIMING) (tim .BTT_TIMING2) v) 4
  | .BTT_RX_SHARE =>
    let xs := [BTT_RX_SHARE_CLASS0.get v, BTT_RX_SHARE_CLASS1.get v, BTT_RX_SHARE_CLASS2.get v, BTT_RX_SHARE_CLASS3.get v]
    bad (xs.all (fun x => decide (5 ≤ x)) && decide (xs.sum ≤ 100)) 3
  | .PRT_DEVLOAD => bad (decide (PRT_DEVLOAD_OPT_PCT.get v < PRT_DEVLOAD_MOD_PCT.get v) &&
      decide (PRT_DEVLOAD_MOD_PCT.get v < PRT_DEVLOAD_SEV_PCT.get v) && decide (PRT_DEVLOAD_SEV_PCT.get v ≤ 100)) 4
  | .GLB_STACK_CFG => bad (decide (3 * GLB_STACK_CFG_HB_MS.get v ≤ GLB_STACK_CFG_ELECT_MS.get v)) 4
  | .FLS_UPD_CTL => bad (decide (FLS_UPD_CTL_TRIAL_S.get v ≤ FLS_UPD_CTL_CONFIRM_S.get v)) 4
  | .CH_SCHED => bad (decide (CH_SCHED_WR_LO.get v + 16 ≤ CH_SCHED_WR_HI.get v)) 4
  | .SNS_PACK_CFG => bad (decide (SNS_PACK_CFG_CONV_VMIN.get v < SNS_PACK_CFG_V_FULL.get v)) 4
  | .GLB_IST_PERIOD2 => bad (decide (GLB_IST_PERIOD2_PACK_DAYS.get v ≤ s.fld SNS_PACK_CFG2_TEST_MAX_DAYS)) 3
  | .CH_REF => bad ((s.ch i).typ != 2 || CH_REF_MODE.get v == 0) 6
  | .RGN_POOL_BAND => if s.flag RGN_POOL_CFG_VALID i then s.poolCheck i (s.regAt .RGN_POOL_CFG i 0 0) v else none
  | .TIER_PART_DATA | .TIER_PART_TAG =>
    if s.flag TIER_PART_CFG_VALID i then ((s.setRegAt r i 0 0 v).partCheck i (s.regAt .TIER_PART_CFG i 0 0)).map fun n => (n, 0) else none
  | _ => none

/-! ## Writes -/

/-- The fields whose write is a command of its own, taken after the other fields of the word. -/
def Field.driven (f : Field) : Bool :=
  [CH_CTL_PWR, RDMA_QP_CTX_STATE, RDMA_KEY_ENT_VALID, RING_CTL_ENABLE, BTT_LINK_CFG_EN].contains f

/-- The word a write meets: the shadow for class S (R4, R440), the writer's own value of a selector (R532), otherwise what a read returns. -/
def State.heldWord (s : State) (bmc : Bool) (r : RegName) (i j w : Nat) : Word :=
  match r with
  | .SNS_TRIM => Sparse.get (fun _ => trimIdentity) s.hub.shadow (128 * i + j)
  | _ => if (r.fields.any fun f => f.cls == .shadow) then s.regAt r i j w else s.view bmc r i j w

/-- Stores a word where the register is held. -/
def State.storeWord (s : State) (bmc : Bool) (r : RegName) (i j w : Nat) (v : Word) : State :=
  match r with
  | .SNS_TRIM => { s with hub := { s.hub with shadow := Sparse.set (fun _ => trimIdentity) s.hub.shadow (128 * i + j) v } }
  | .PRT_BIFUR => { s with ports := { s.ports with next := Sparse.set (fun _ => 0) s.ports.next i (PRT_BIFUR_NEXT.get v) } }
  | .RDMA_QP_CTX =>
    let q := RDMA_QP_SEL_QP.get (s.selAt bmc .RDMA_QP_SEL)
    s.setQp q { s.qp q with ctx := (s.qp q).ctx.set w (if w = 0 then v &&& 0xFFFFFFFC#32 else v) }
  | .RDMA_KEY_ENT =>
    let k := RDMA_KEY_SEL_KEY.get (s.selAt bmc .RDMA_KEY_SEL)
    let ws := Sparse.get (fun _ => keyReset) s.rdma.keys k
    { s with rdma := { s.rdma with keys := Sparse.set (fun _ => keyReset) s.rdma.keys k (ws.set w v) } }
  | .PRT_LD_EN =>
    let n := 16 / bifurLinks (s.bifur i)
    s.setRegAt r i j w (v &&& BitVec.ofNat 32 ((2 ^ n - 1) * 2 ^ (j * n)))
  | .PER_POLICY | .PER_SAVE_DECL => (s.setRegAt r i j w v).declChanged
  | .BTT_PATH_CFG =>
    let s := s.setRegAt r i j w v
    if BTT_PATH_CFG_VALID.get v = 0 ∧ s.twin.pathsUp.getLsbD i then
      ({ s with twin := { s.twin with pathsUp := s.twin.pathsUp &&& ~~~ BitVec.twoPow 4 i, downAt := s.timeNs } }).log 0x3002 .notice srcTwin i 0 1
    else s
  | _ => if bmc && r.selector then
      { s with regu := { s.regu with bmcSel := Sparse.set (fun _ => r.resetWord i 0 0) s.regu.bmcSel (r.offset i 0 0) v } }
    else s.setRegAt r i j w v

/-- Sets the set-up lock (R534), once. `setter`: 1 host, 2 BMC, 3 automatic. -/
def State.setLock (s : State) (setter : Nat) : State :=
  if s.flag GLB_LOCK_LOCK then s else (s.setFld GLB_LOCK_LOCK 1).setFld GLB_LOCK_SETTER setter

/-- A mode request by the register (R33, R539): one that arrives in SAVE waits for the mode that follows. -/
def State.goMode (s : State) (bmc : Bool) : State :=
  let ask : ModeAsk := if bmc then .bmcReg else .host
  let target := s.fld GLB_MODE_REQ_TARGET
  if s.mc.mode = .save then { s with mc := { s.mc with saveReqs := s.mc.saveReqs ++ [(target, ask)] } }
  else
    let (st, s) := s.modeRequest target ask
    s.answerMode ask st

/-- What a driven field does when a write changes it to a value. -/
def State.drive (s : State) (who : Writer) (f : Field) (i v : Nat) : State :=
  let bmc := who == .bmc
  let qp : Fin 8192 := Fin.ofNat 8192 (RDMA_QP_SEL_QP.get (s.selAt bmc .RDMA_QP_SEL))
  if f = CH_CTL_PWR then s.after (execChPwrWrite (Fin.ofNat 16 i) (v == 1) who s)
  else if f = RDMA_QP_CTX_STATE then
    match v with
    | 0 => s.after (execQpStateReset qp who s)
    | 1 => s.after (execQpStateRts qp who s)
    | _ => s.after (execQpStateError qp who s)
  else if f = RDMA_KEY_ENT_VALID then
    s.after (execMkeyValidSet (Fin.ofNat 16384 (RDMA_KEY_SEL_KEY.get (s.selAt bmc .RDMA_KEY_SEL))) (v == 1) s)
  else if f = RING_CTL_ENABLE then
    if v = 1 then s.after (execRingEnable (Fin.ofNat 256 i) who s) else s.after (execRingDisable (Fin.ofNat 256 i) s)
  else if f = BTT_LINK_CFG_EN then s.after (execLinkEnable (v == 1) s)
  else s

/-- What a 1 written to a W1S or W1C field of a register starts. A W1S bit that reads 1 is left alone (R529) by the caller. -/
def State.action (s : State) (who : Writer) (env : RegEnv) (f : Field) (i j : Nat) : State :=
  let ch : ChId := Fin.ofNat 16 i
  match f.reg with
  | .GLB_MODE_REQ => s.goMode (who == .bmc)
  | .GLB_CC_CTL => s.after (execForceSwitch who s)
  | .GLB_BIST_CTL => s.after (execBistStart who s)
  | .GLB_STACK_CTL => s.after (execHandback who false s)
  | .GLB_RST_CTL => s.after (execSoft who env.straps s)
  | .CH_TIM_COMMIT => s.after (execChTimCommit ch who s)
  | .CH_CTL => if f = CH_CTL_RETRAIN then s.after (execChRetrainRequest ch s)
    else s.after (execReadmit ch env.dimmA env.dimmB env.pass env.timing who s)
  | .CH_ERR => s.after (execErrClear (.ch ch) s)
  | .NF_ERR => s.after (execErrClear (.nf (Fin.ofNat 32 i)) s)
  | .EVT_CW_ERR => s.after (execErrClear (.cw (Fin.ofNat 4 i)) s)
  | .CH_MARK => s.after (execMarkClear ch (Fin.ofNat 16 j) (f == CH_MARK_CLR_B) s)
  | .RING_CTL => s.after (execRingFlush (Fin.ofNat 256 i) env.unread s)
  | .ARB_CTL => s.after (execArbCommit (Fin.ofNat 4 i) who s)
  | .PRT_POISON_LIST => s.setFld PRT_POISON_LIST_OVERFLOW 0
  | .SNS_PACK_CTL => s.after (execPackTestRequest (Fin.ofNat 4 i) s)
  | .SNS_TRIM_CTL => if f = SNS_TRIM_CTL_COMMIT then s.after (execTrimCommit s) else s.after (execTrimReload s)
  | .FLS_UPD_CTL => if f = FLS_UPD_CTL_CONFIRM then s.after (execConfirm who s)
    else if f = FLS_UPD_CTL_ABORT then s.after (execAbort who s) else s.after (execRevert who s)
  | _ => s

/-- Writes the RW fields of a word, each under its own class (R4, R528): the first refusal is logged and its field kept; settings that
clash refuse the whole write. Answers whether the write was taken. -/
def State.writeFields (s : State) (who : Writer) (r : RegName) (i j w : Nat) (v mask : Word) : Bool × State :=
  let bmc := who == .bmc
  let off := r.offset i j w
  let held := s.heldWord bmc r i j w
  let want := (held &&& ~~~mask) ||| (v &&& mask)
  let runs := s.regRuns bmc r i j
  let fs := r.fields.filter fun f => f.acc == .rw && f.word == w && f.get want != f.get held
  let bad := fs.filterMap fun f => if f = CH_CTL_PWR then none else s.refusal runs f i (f.get want)
  let good := fs.filter fun f => (f == CH_CTL_PWR || s.refusal runs f i (f.get want) == none)
  let s := match bad with
    | n :: _ => s.reject off v.toNat n who
    | [] => s
  let new := (good.filter fun f => ! f.driven).foldl (fun x f => f.put x (f.get want)) held
  match if good = [] then none else s.regClash r i new with
  | some (n, d) => (false, s.reject off v.toNat n who d)
  | none =>
    let s := if new = held then s else s.storeWord bmc r i j w new
    (true, (good.filter Field.driven).foldl (fun s f => s.drive who f i (f.get want)) s)

/-- A write of one aligned word under a mask (R483, R526 to R529). -/
def State.writeWord (s : State) (who : Writer) (off : Nat) (v mask : Word) (env : RegEnv) : State :=
  let bmc := who == .bmc
  match locateReg off with
  | none => s.bump GLB_ACC_ERR_UNMAPPED
  | some (r, i, j, w) =>
    let x := v &&& mask
    match r with
    | .RING_SQ_DB => s.after (execRingSqDb (Fin.ofNat 256 i) (x.setWidth 16) s)
    | .RING_CQ_DB => s.after (execRingCqDb (Fin.ofNat 256 i) (x.setWidth 16) s)
    | .RING_PUSH =>
      if j = 0 then s.after (execRingPush (Fin.ofNat 256 i) x s)
      else if j = 15 then s.after (execRingPushCommit (Fin.ofNat 256 i) x s)
      else s.after (execRingPushContinue (Fin.ofNat 256 i) x s)
    | .EVT_ACK => s.after (execEvtAck x s)
    | .GLB_WDT_KICK => s
    | .SEC_ALARM => if SEC_ALARM_LATCHED.get x = 0 then s
      else s.after (execAlarmClear (BitVec.ofNat 4 (SEC_ALARM_LATCHED.get x)) env.absent s)
    | _ =>
      if (r = .PRT_LD_EN ∧ bifurLinks (s.bifur i) ≤ j) ∨ (r = .CH_MARK ∧ s.ranks i ≤ j) then s
      else if r = .RGN_POOL_CFG ∧ (want s bmc r i j w).getLsbD 0 then
        if want s bmc r i j w = s.view bmc r i j w then s else s.after (execPoolValidSet (Fin.ofNat 16 i) (want s bmc r i j w) who s)
      else if r = .TIER_PART_CFG ∧ (want s bmc r i j w).getLsbD 0 then s.after (execPartitionValidSet (Fin.ofNat 16 i) (want s bmc r i j w) who s)
      else
        let s := if r = .GLB_LOCK ∧ GLB_LOCK_LOCK.get x = 1 then s.setLock (match who with | .bmc => 2 | _ => 1) else s
        let old := s.view bmc r i j w
        match s.writeFields who r i j w v mask with
        | (false, s) => s
        | (true, s) =>
          (r.fields.filter fun f => (f.acc == .w1s && f.get old == 0 || f.acc == .w1c) && f.word == w && f.get x == 1 && f.reg != .GLB_LOCK).foldl
            (fun s f => s.action who env f i j) s
where
  /-- the word as the write would leave it -/
  want (s : State) (bmc : Bool) (r : RegName) (i j w : Nat) : Word := (s.heldWord bmc r i j w &&& ~~~mask) ||| (v &&& mask)

/-- A write of `bytes` bytes at an offset (R527): 32 bits, or 64 bits as two words, lower first; any other is ignored and counts in
PARTIAL. -/
def State.writeBar (s : State) (who : Writer) (off bytes : Nat) (v : BitVec 64) (env : RegEnv) : State :=
  let full : Word := BitVec.allOnes 32
  if off % 4 = 0 ∧ bytes = 4 then s.writeWord who off (v.setWidth 32) full env
  else if off % 4 = 0 ∧ bytes = 8 then
    (s.writeWord who off (v.setWidth 32) full env).writeWord who (off + 4) (v.extractLsb' 32 32) full env
  else s.bump GLB_ACC_ERR_PARTIAL

-- @row REGISTER_WRITE
/-- R3, R4, R421, R483, R527 to R529, R532: a write of a register by the host, the BMC or firmware. `env`: what the surroundings answer
to an action that it starts. -/
def execRegisterWrite (who : Writer) (off : BitVec 26) (bytes : Fin 9) (v : BitVec 64) (env : RegEnv) (s : State) : Res := .next <|
  let reached := match who with | .host => s.hostBar | .bmc => s.bmcBar | .firmware => s.ccRuns
  if ! reached then s else s.writeBar who off.toNat bytes.val v env

-- @row UNLISTED_ACCESS
/-- R526: an access to an unlisted offset: a read returns 0, a write is ignored, and UNMAPPED counts, once for each word. -/
def execUnlistedAccess (bmc : Bool) (write : Bool) (off : BitVec 26) (wide : Bool) (s : State) : Res := .next <|
  let a := off.toNat / 4 * 4
  if ! (if bmc then s.bmcBar else s.hostBar) ∨ (locateReg a).isSome ∨ (wide ∧ (locateReg (a + 4)).isSome) then s
  else
    let s := s.addFld GLB_ACC_ERR_UNMAPPED (if wide then 2 else 1)
    if write then s else s.emit (.regData bmc a (if wide then [0, 0] else [0]))

/-! ## The set-up lock (R534) -/

-- @row GLB_LOCK_SET
/-- R534: a write of GLB_LOCK.LOCK by the host or the BMC. -/
def execGlbLockSet (bmc : Bool) (s : State) : Res := .next <|
  if ! (if bmc then s.bmcBar else s.hostBar) then s else s.setLock (if bmc then 2 else 1)

-- @row AUTO_LOCK
/-- R534: AUTO_LOCK_MIN minutes after the first entry to service since the last BOOT. -/
def execAutoLock (s : State) : Res := .next <|
  let n := s.fld GLB_LOCK_AUTO_LOCK_MIN
  match s.regu.serviceAt with
  | some t => if n = 0 ∨ s.timeNs < t + n * 60 * 10 ^ 9 then s else s.setLock 3
  | none => s

end Sys2Proof.Machine
end

