-- ==== Sys2Proof/Machine/Mgmt.lean ====
section
/-!
DEFINITION. The management endpoints (R478 to R491): MCTP control, the buses, the vendor commands, PLDM monitoring and PLDM firmware
update.
-/
namespace Sys2Proof.Machine

/-! ## Requests and answers (R479 to R481) -/

/-- Answers a request on the bus that carried it (R479). -/
def State.answer (s : State) (bus : Fin 2) (type cmd cc : Nat) (payload : List Nat := []) : State := s.emit (.mgmt bus.val type cmd cc payload)

/-- A request that the control complex answers: a vendor, a PLDM monitoring or a PLDM update command. -/
def State.managed (s : State) (bus : Fin 2) (type cmd : Nat) (c : Instr) (k : State → State) : State :=
  if ! s.bmcBar then s else s.request (.mgmt bus.val type cmd) c k

/-- The island answers alone: the control complex is halted, in a gap, or without power (R481). -/
def State.islandOnly (s : State) : Bool := s.mc.mode != .off && ! s.ccRuns

/-- A request that the island answers in every mode but OFF (R481). -/
def State.island (s : State) (k : State → State) : State := if s.bmcBar then k s else s

/-! ## MCTP control (R479, R481, R490) -/

-- @row SET_ENDPOINT_ID
/-- R479, R481, R490: the BMC assigns the endpoint ID; 0 and 0xFF name no endpoint. -/
def execSetEndpointId (bus : Fin 2) (eid : BitVec 8) (s : State) : Res := .next <| s.island fun s =>
  if eid = 0 ∨ eid = 0xFF then s.answer bus 0x00 0x01 0x02
  else
    let new := s.mgmt.eid ≠ eid
    let s := { s with mgmt := { s.mgmt with eid := eid } }
    let s := if new then s.log 0x8071 .info srcMgmt eid.toNat bus.val else s
    s.answer bus 0x00 0x01 0 [eid.toNat]

-- @row GET_ENDPOINT_ID
/-- R481: the endpoint ID. -/
def execGetEndpointId (bus : Fin 2) (s : State) : Res := .next <| s.island fun s => s.answer bus 0x00 0x02 0 [s.mgmt.eid.toNat]

-- @row GET_MCTP_VERSION
/-- R479, R481: MCTP 1.3. -/
def execGetMctpVersion (bus : Fin 2) (s : State) : Res := .next <| s.island fun s => s.answer bus 0x00 0x04 0 [1, 3]

-- @row GET_MESSAGE_TYPE_SUPPORT
/-- R479, R481: the message types that are answered at this moment. -/
def execGetMessageTypeSupport (bus : Fin 2) (s : State) : Res := .next <| s.island fun s =>
  s.answer bus 0x00 0x05 0 (if s.islandOnly then [0x00, 0x7F] else [0x00, 0x01, 0x05, 0x06, 0x7F])

/-! ## The buses (R478, R490) -/

/-- A bus switches to I3C or back to SMBus: MGT_BUS_MODE with its cause. -/
def State.setBus (s : State) (bus : Fin 2) (i3c : Bool) (cause : Nat) : State :=
  if ! s.bmcBar ∨ s.mgmt.i3c.getLsbD bus.val = i3c then s
  else ({ s with mgmt := { s.mgmt with i3c := s.mgmt.i3c ^^^ BitVec.twoPow 2 bus.val } }).log 0x8070 .notice srcMgmt bus.val i3c.toNat cause

-- @row I3C_ADDRESS_ASSIGN
/-- R478: the BMC assigns a dynamic address by ENTDAA, or by SETDASA at a static address, which is SMB_ADDR. -/
def execI3cAddressAssign (bus : Fin 2) (setdasa : Option (BitVec 7)) (s : State) : Res := .next <|
  match setdasa with
  | some a => if a.toNat = MGT_CTL_SMB_ADDR.get (s.view true .MGT_CTL 0 0 0) then s.setBus bus true 1 else s
  | none => s.setBus bus true 1

-- @row I3C_RSTDAA
/-- R478: RSTDAA or a bus reset. -/
def execI3cRstdaa (bus : Fin 2) (s : State) : Res := .next (s.setBus bus false 2)

-- @row I3C_BUS_ERROR_TIMEOUT
/-- R478: 1 s of I3C inactivity after a bus error. -/
def execI3cBusErrorTimeout (bus : Fin 2) (s : State) : Res := .next (s.setBus bus false 3)

/-! ## Vendor commands (R482 to R484) -/

/-- A word that lies in the global, the persistence or the event-log block. -/
def islandOffset (off : Nat) : Bool := decide (off < 0x200000) || (decide (0x800000 ≤ off) && decide (off < 0x900000))

/-- Reads words one after the other. -/
def readWords (s : State) (off : Nat) : Nat → List Nat × State
  | 0 => ([], s)
  | n + 1 =>
    let (v, s) := s.readWord true off
    let (vs, s) := readWords s (off + 4) n
    (v.toNat :: vs, s)

-- @row REG_READ
/-- R481, R482: 1 to 14 words from an offset. -/
def execRegRead (bus : Fin 2) (off : BitVec 26) (count : Fin 16) (s : State) : Res := .next <|
  let n := count.val
  let work (s : State) : State :=
    if n = 0 ∨ 14 < n ∨ off.toNat % 4 ≠ 0 then s.answer bus 0x7F 0x01 Status.invalid.code
    else
      let (ws, s) := readWords s off.toNat n
      s.answer bus 0x7F 0x01 Status.ok.code ws
  if (List.range n).all fun k => islandOffset (off.toNat + 4 * k) then s.island work
  else s.managed bus 0x7F 0x01 (.regRead bus off count) fun s => work s

/-- REG_WRITE may not reach an offset: the ring block, and the port-local extensions but PRT_BIFUR, whose only writable field is NEXT
(R483). -/
def bmcBarred (off : Nat) : Bool :=
  (decide (0x300000 ≤ off) && decide (off < 0x400000)) ||
    (decide (0x3000000 ≤ off) && decide (off < 0x3009000) && ! (match locateReg off with | some (r, _) => r == .PRT_BIFUR | none => false))

-- @row REG_WRITE
/-- R421, R482, R483: writes the masked bits of a register under access codes and classes. -/
def execRegWrite (bus : Fin 2) (off : BitVec 26) (v mask : Word) (env : RegEnv) (s : State) : Res := .next <|
  s.managed bus 0x7F 0x02 (.regWrite bus off v mask env) fun s =>
    if off.toNat % 4 ≠ 0 then s.answer bus 0x7F 0x02 Status.invalid.code
    else if ! s.flag MGT_CTL_BMC_WRITE_EN ∨ bmcBarred off.toNat then s.answer bus 0x7F 0x02 Status.notPermitted.code
    else (s.writeWord .bmc off.toNat v mask env).answer bus 0x7F 0x02 Status.ok.code

-- @row EVT_READ
/-- R481, R482, R484: 1 to 7 whole records from a slot; an empty slot reads with CODE 0. -/
def execEvtRead (bus : Fin 2) (first : Fin 8192) (count : Fin 8) (s : State) : Res := .next <| s.island fun s =>
  let n := count.val
  if n = 0 ∨ 8192 < first.val + n then s.answer bus 0x7F 0x03 Status.invalid.code
  else s.answer bus 0x7F 0x03 Status.ok.code
    ((List.range n).flatMap fun i => (List.range 8).map fun k => (s.slotWord (first.val + i) k).toNat)

/-! ## PLDM monitoring (R486, R487) -/

-- @row SET_EVENT_RECEIVER
/-- R487: the BMC enables or disables the generation of platform events, which go to it on this bus. -/
def execSetEventReceiver (bus : Fin 2) (enable : Bool) (s : State) : Res := .next <|
  s.managed bus 0x01 0x204 (.setEventReceiver bus enable) fun s =>
    ({ s with mgmt := { s.mgmt with receiver := enable, evtBus := bus.val } }).answer bus 0x01 0x204 0

-- @row PLATFORM_EVENT_ACK
/-- R487: the BMC acknowledges the oldest message. -/
def execPlatformEventAck (s : State) : Res := .next <|
  if s.bmcBar then { s with mgmt := { s.mgmt with events := s.mgmt.events.drop 1 } } else s

/-- A platform descriptor record: numeric sensor, state sensor or state effecter, with its ID. -/
inductive Pdr where
  | numeric (id : Nat) | sensor (id : Nat) | effecter (id : Nat)
  deriving DecidableEq, Repr

/-- The PDR repository (R486), in the order of its table; at the stack endpoint ID, the sensors of the stack. -/
def pdrs (stack : Bool) : List Pdr :=
  let ids (base n : Nat) : List Nat := (List.range n).map (base + ·)
  if stack then (ids 0x1000 4 ++ ids 0x1010 4).map .sensor
  else (ids 1 72 ++ ids 0x50 3).map .numeric ++ (ids 0x100 4 ++ ids 0x110 4 ++ ids 0x120 16 ++ ids 0x130 32).map .sensor ++
    (0x200 :: ids 0x210 8).map .effecter

/-- A record as GET_PDR returns it: PDR type and ID. -/
def Pdr.words : Pdr → List Nat
  | .numeric id => [2, id]
  | .sensor id => [4, id]
  | .effecter id => [11, id]

/-- A request to the stack endpoint ID reaches this controller only as the master, and not during an election (R467, R469). -/
def State.atStack (s : State) (stack : Bool) (k : State → State) : State :=
  if stack ∧ (s.mgmt.stackEid = 0 ∨ ! s.isMaster) then s else k s

-- @row GET_PDR
/-- R486: a record by its handle, the first one for handle 0; the answer names the next handle, 0 after the last. -/
def execGetPdr (bus : Fin 2) (stack : Bool) (handle : BitVec 32) (s : State) : Res := .next <|
  s.managed bus 0x01 0x251 (.getPdr bus stack handle) fun s => s.atStack stack fun s =>
    let ps := pdrs stack
    let k := handle.toNat - 1
    match ps[k]? with
    | some p => s.answer bus 0x01 0x251 0 ((if k + 1 < ps.length then k + 2 else 0) :: p.words)
    | none => s.answer bus 0x01 0x251 0x82

/-- The reading of a numeric sensor (R486); `none` inside: unavailable. -/
def State.numeric (s : State) (id : Nat) : Option (Option Nat) :=
  let word (f : Field) : Nat := f.get (s.view true f.reg 0 0 0)
  if 1 ≤ id ∧ id ≤ 0x48 then some (some (SNS_VAL_VALUE.get (s.view true .SNS_VAL (id - 1) 0 0)))
  else if id = 0x50 then some (some (word PER_AT_RISK_PAGES / 2 ^ 18))
  else if id = 0x51 then some (some (word PER_CEILING_PAGES / 2 ^ 18))
  else if id = 0x52 then some (if word PER_ENERGY_VALID = 0 then none else some (word PER_ENERGY_USABLE_DJ / 10))
  else none

-- @row GET_SENSOR_READING
/-- R486: the reading of a numeric sensor: 0 available and its value, or 1 unavailable. -/
def execGetSensorReading (bus : Fin 2) (id : BitVec 16) (s : State) : Res := .next <|
  s.managed bus 0x01 0x211 (.getSensorReading bus id) fun s =>
    match s.numeric id.toNat with
    | some (some v) => s.answer bus 0x01 0x211 0 [0, v]
    | some none => s.answer bus 0x01 0x211 0 [1, 0]
    | none => s.answer bus 0x01 0x211 0x80

/-- The encoding that a state sensor reports (R486); `none` inside: unavailable. -/
def State.stateSensor (s : State) (stack : Bool) (id : Nat) : Option (Option Nat) :=
  let member (k : Nat) (own : Nat) (part : Nat × Nat → Nat) : Option Nat :=
    if k = s.stackPos then some own else (s.stk.reports.find? fun e => e.1 == k).map fun e => part e.2
  if stack then
    if 0x1000 ≤ id ∧ id < 0x1004 then some (member (id - 0x1000) s.mc.mode.code Prod.fst)
    else if 0x1010 ≤ id ∧ id < 0x1014 then some (member (id - 0x1010) s.per.guard.code Prod.snd)
    else none
  else if id = 0x100 then some (some s.mc.mode.code)
  else if id = 0x101 then some (some s.per.guard.code)
  else if id = 0x102 then some (some s.twin.link.code)
  else if id = 0x103 then some (some s.sec.store.code)
  else if 0x110 ≤ id ∧ id < 0x114 then some (some (s.pack (id - 0x110)).st.code)
  else if 0x120 ≤ id ∧ id < 0x130 then some (some (s.ch (id - 0x120)).st.code)
  else if 0x130 ≤ id ∧ id < 0x150 then some (some (s.nf (id - 0x130)).st.code)
  else none

-- @row GET_STATE_SENSOR_READINGS
/-- R486: a state sensor: 0 available and its state value, which is the encoding plus one, or 1 unavailable. -/
def execGetStateSensorReadings (bus : Fin 2) (stack : Bool) (id : BitVec 16) (s : State) : Res := .next <|
  s.managed bus 0x01 0x221 (.getStateSensorReadings bus stack id) fun s => s.atStack stack fun s =>
    match s.stateSensor stack id.toNat with
    | some (some v) => s.answer bus 0x01 0x221 0 [0, v + 1]
    | some none => s.answer bus 0x01 0x221 0 [1, 0]
    | none => s.answer bus 0x01 0x221 0x80

-- @row SET_STATE_EFFECTER_STATES
/-- R261, R485, R486: sets PRT_BIFUR.NEXT of a port, under its class and range, or asks for a mode. -/
def execSetStateEffecterStates (bus : Fin 2) (id : BitVec 16) (v : Fin 16) (s : State) : Res := .next <|
  let n := id.toNat
  if n = 0x200 ∧ (v.val = 0x2 ∨ v.val = 0x4 ∨ v.val = 0x7 ∨ v.val = 0xB) then
    s.requestMode v.val (.effecter bus) (.setStateEffecterStates bus id v)
  else s.managed bus 0x01 0x239 (.setStateEffecterStates bus id v) fun s =>
    if 0x210 ≤ n ∧ n < 0x218 then
      let p := n - 0x210
      let (_, s) := s.writeFields .bmc .PRT_BIFUR p 0 0 (PRT_BIFUR_NEXT.put 0 v.val) PRT_BIFUR_NEXT.mask
      let taken := decide (v.val < 3) && PRT_BIFUR_NEXT.get (s.view true .PRT_BIFUR p 0 0) == v.val
      s.answer bus 0x01 0x239 (if taken then 0 else 1)
    else s.answer bus 0x01 0x239 (if n = 0x200 then 0x81 else 0x80)

/-! ## PLDM firmware update (R488) -/

-- @row REQUEST_UPDATE
/-- R400, R401, R488: opens a session with source BMC for a bundle of a length; ALREADY_IN_UPDATE_MODE while one is open. The controller
then asks for the first block, at once or after the erase of the target slot. -/
def execRequestUpdate (bus : Fin 2) (len : BitVec 24) (s : State) : Res := .next <|
  s.managed bus 0x01 0x510 (.requestUpdate bus len) fun s =>
    if s.flash.sess.st ≠ .idle then s.answer bus 0x01 0x510 0x81
    else
      let s := { s with mgmt := { s.mgmt with fwBus := bus.val } }
      match s.askSession 2 len.toNat with
      | (.noSpace, s) => s.answer bus 0x01 0x510 0x01
      | (_, s) => (s.answer bus 0x01 0x510 0).askData

-- @row REQUEST_FIRMWARE_DATA
/-- R402, R488: the BMC's data for the block the controller asked for. It is written under R402, and the controller asks for the next one from
the confirmed offset, or ends the transfer. -/
def execRequestFirmwareData (off : BitVec 24) (bytes : List Byte) (s : State) : Res := .next <|
  if ! s.bmcBar then s
  else s.request (.mgmt s.mgmt.fwBus 0x01 0x515) (.requestFirmwareData off bytes) fun s =>
    let x := s.flash.sess
    if x.source ≠ 2 ∨ x.st ≠ .opened ∨ 4096 < bytes.length then s
    else match s.takeBlock off.toNat bytes with
      | (.conflict, s) => s.emit (.mgmt s.mgmt.fwBus 0x01 0x516 0 [Status.conflict.code])
      | (_, s) => s.askData

/-- The session belongs to the BMC. -/
def State.bmcSession (s : State) : Bool := s.flash.sess.st != .idle && s.flash.sess.source == 2

-- @row ACTIVATE_FIRMWARE
/-- R404, R488: self-contained activation asks for an online activation at the time that PLDM carries, at FLS_ACT_TIME, or after LEAD_MS;
otherwise an offline one at the next BOOT. -/
def execActivateFirmware (bus : Fin 2) (selfContained : Bool) (time : BitVec 64) (s : State) : Res := .next <|
  s.managed bus 0x01 0x51A (.activateFirmware bus selfContained time) fun s =>
    if ! s.bmcSession then s.answer bus 0x01 0x51A 0x80
    else
      let reg := s.fld FLS_ACT_TIME_LO_TIME + 2 ^ 32 * s.fld FLS_ACT_TIME_HI_TIME
      let (st, s) := if selfContained then s.requestActivation (if time = 0 then reg else time.toNat) else s.requestOffline
      s.answer bus 0x01 0x51A (if st = .ok then 0 else 1)

-- @row CANCEL_UPDATE
/-- R401, R488: ABORT of an OPEN or VERIFIED session. -/
def execCancelUpdate (bus : Fin 2) (s : State) : Res := .next <|
  s.managed bus 0x01 0x51D (.cancelUpdate bus) fun s =>
    let x := s.flash.sess
    if ! s.bmcSession then s.answer bus 0x01 0x51D 0x80
    else if x.st = .opened ∨ x.st = .verified then (s.abortSession 2).answer bus 0x01 0x51D 0
    else s.answer bus 0x01 0x51D 1

-- @row GET_STATUS
/-- R488: FLS_SESS state and FLS_SESS_OFF. -/
def execGetStatus (bus : Fin 2) (s : State) : Res := .next <|
  s.managed bus 0x01 0x51B (.getStatus bus) fun s =>
    s.answer bus 0x01 0x51B 0 [s.flash.sess.st.code, FLS_SESS_OFF_BYTES.get (s.view true .FLS_SESS_OFF 0 0 0)]

-- @row GET_FIRMWARE_PARAMETERS
/-- R488: one component, the bundle; the running slot and the other one with the words of FLS_SLOT_STAT. -/
def execGetFirmwareParameters (bus : Fin 2) (s : State) : Res := .next <|
  s.managed bus 0x01 0x502 (.getFirmwareParameters bus) fun s =>
    let slot (k : Nat) : List Nat := (List.range 2).map fun w => (s.view true .FLS_SLOT_STAT k 0 w).toNat
    s.answer bus 0x01 0x502 0 ([0x0001, s.flash.running] ++ slot s.flash.running ++ slot (1 - s.flash.running))

end Sys2Proof.Machine
end

