-- ==== Sys2Proof/Machine/Mailbox.lean ====
section
/-!
DEFINITION. The mailboxes of the logical devices, the fabric-manager commands and the CDAT (R264 to R267, R273 to R277, R282 to R287).
Return codes are those of the CXL specification: 0 success, 1 background command started, 2 Invalid Input, 3 Unsupported, 4 Internal
Error, 6 Busy, 7 Media Disabled, 0x0E Invalid Handle, 0x0F Invalid Physical Address, 0x10 Inject Poison Limit Reached.
-/
namespace Sys2Proof.Machine

/-! ## Command sets and answers (R34, R284) -/

/-- The sets of mailbox commands that R34 names. -/
inductive MboxSet where | identify | firmware | events | health | scan | sanitize | full
  deriving DecidableEq, Repr

/-- The sets a mode permits (R34): all in the serving modes, but for Sanitize, which is for MAINTENANCE only (R284). -/
def Mode.permits (m : Mode) (k : MboxSet) : Bool :=
  match m with
  | .boot => k == .identify || k == .firmware
  | .restore | .recovery => k == .identify || k == .health || k == .events || k == .firmware
  | .maintenance => k == .identify || k == .events || k == .sanitize || k == .scan || k == .firmware
  | .service | .degraded | .quiescent | .drain | .resync => k != .sanitize
  | .off | .standby | .save => false

/-- An LD of a port has a mailbox: a link presents it; number 16 + l is the FM-owned LD of a link that presents several (R266, R284). -/
def State.hasMailbox (s : State) (p ld : Nat) : Bool :=
  if ld < 16 then s.ldEnabled p ld
  else
    let x := s.linkAt p (ld - 16)
    x.up && decide (2 ≤ (List.range 16).countP fun k => x.lds.getLsbD k)

/-- Answers a command: return code and payload. -/
def State.reply (s : State) (p : PortId) (ld : Fin 20) (op rc : Nat) (payload : List Nat := []) : State :=
  s.emit (.mailbox p.val ld.val op rc payload)

/-- A mailbox command: `k` is its effect. It waits out a gap of the control complex (R377), and a command outside the sets of the mode returns
Media Disabled (R284). -/
def State.mailbox (s : State) (p : PortId) (ld : Fin 20) (op : Nat) (set : MboxSet) (c : Instr) (k : State → State) : State :=
  if ! s.hasMailbox p.val ld.val then s
  else s.request (.mailbox p.val ld.val op) c fun s =>
    if s.mc.mode.permits set then k s else s.reply p ld op 7

/-- Changes an LD. -/
def State.updLd (s : State) (p : PortId) (ld : Fin 20) (f : Ld → Ld) : State := s.setLd p.val ld.val (f (s.ldAt p.val ld.val))

/-! ## Event records (R284, R287) -/

/-- An event record as Get Event Records returns it: handle, kind, base, size, and the controller's record. -/
def CxlEvent.words (e : CxlEvent) : List Nat :=
  [e.handle, e.kind, e.base, e.size] ++ match e.rcd with
    | some r => r.words.map BitVec.toNat
    | none => List.replicate 8 0

-- @row GET_EVENT_RECORDS
/-- R284, R287: the records of a log, with its overflow indication. -/
def execGetEventRecords (port : PortId) (ld : Fin 20) (log : Fin 5) (s : State) : Res :=
  .next <| s.mailbox port ld 0x0100 .events (.getEventRecords port ld log) fun s =>
    let x := s.ldAt port.val ld.val
    let es := x.events.filter fun e => e.log == log.val
    s.reply port ld 0x0100 0 ([(x.overflow.getLsbD log.val).toNat, es.length] ++ es.flatMap CxlEvent.words)

-- @row CLEAR_EVENT_RECORDS
/-- R284, R287: clears all records of a log, or those with the handles given; the overflow indication falls. -/
def execClearEventRecords (port : PortId) (ld : Fin 20) (log : Fin 5) (all : Bool) (handles : List Nat) (s : State) : Res :=
  .next <| s.mailbox port ld 0x0101 .events (.clearEventRecords port ld log all handles) fun s =>
    let x := s.ldAt port.val ld.val
    let mine (e : CxlEvent) : Bool := e.log == log.val && (all || handles.contains e.handle)
    if ! all ∧ ! handles.all fun h => x.events.any fun e => e.log == log.val && e.handle == h then s.reply port ld 0x0101 0x0E
    else (s.updLd port ld fun (x : Ld) => { x with events := x.events.filter (fun e => ! mine e)
                                                   overflow := x.overflow &&& ~~~ BitVec.twoPow 5 log.val }).reply port ld 0x0101 0

-- @row GET_EVENT_INTERRUPT_POLICY
/-- R284: the interrupt policy of each log. -/
def execGetEventInterruptPolicy (port : PortId) (ld : Fin 20) (s : State) : Res :=
  .next <| s.mailbox port ld 0x0102 .events (.getEventInterruptPolicy port ld) fun s =>
    s.reply port ld 0x0102 0 (s.ldAt port.val ld.val).policy

-- @row SET_EVENT_INTERRUPT_POLICY
/-- R284: a policy for each log: mode in bits 1 to 0, 0 none or 1 MSI-X, and the vector in bits 7 to 4; another mode is Invalid Input. -/
def execSetEventInterruptPolicy (port : PortId) (ld : Fin 20) (policy : Vector (BitVec 8) 5) (s : State) : Res :=
  .next <| s.mailbox port ld 0x0103 .events (.setEventInterruptPolicy port ld policy) fun s =>
    let ps := policy.toList.map BitVec.toNat
    if ps.any fun x => decide (2 ≤ x % 4) then s.reply port ld 0x0103 2
    else (s.updLd port ld fun (x : Ld) => { x with policy := ps }).reply port ld 0x0103 0

/-! ## Firmware (R284, R400 to R404) -/

-- @row GET_FW_INFO
/-- R284: two slots; the running one, the one an offline activation has staged (2 for none), and the version of each. -/
def execGetFwInfo (port : PortId) (ld : Fin 20) (s : State) : Res :=
  .next <| s.mailbox port ld 0x0200 .firmware (.getFwInfo port ld) fun s =>
    let staged := if s.flash.sess.offline then s.flash.sess.target else 2
    s.reply port ld 0x0200 0 [2, s.flash.running, staged, (s.slot 0).ver, (s.slot 1).ver]

-- @row TRANSFER_FW
/-- R400 to R402: opens a host session or writes a block of the bundle for a slot at an offset; the last part ends the transfer. The answer carries
the status and the confirmed offset. -/
def execTransferFw (port : PortId) (ld : Fin 20) (action : FwAction) (slot : Fin 2) (off : BitVec 24) (bytes : List Byte) (s : State) : Res :=
  .next <| s.mailbox port ld 0x0201 .firmware (.transferFw port ld action slot off bytes) fun s =>
    let answer (p : Status × State) : State := p.2.reply port ld 0x0201 p.1.mbox [p.1.code, p.2.flash.sess.off]
    let x := s.flash.sess
    let ends (p : Status × State) : Status × State := if p.1 = .ok then p.2.endTransfer 1 else p
    if x.st ≠ .idle ∧ x.source ≠ 1 then answer (.busy, s)
    else if slot.val = s.flash.running then answer (.invalid, s)
    else match action with
      | .whole => answer (ends (s.sourceBlock 1 off.toNat bytes))
      | .initiate | .continue => answer (s.sourceBlock 1 off.toNat bytes)
      | .finish => answer (ends (if bytes = [] then (.ok, s) else s.sourceBlock 1 off.toNat bytes))
      | .abort => answer (if x.st = .opened ∨ x.st = .verified then (.ok, s.abortSession 2) else (.invalid, s))

-- @row ACTIVATE_FW
/-- R400, R404: an online activation at FLS_ACT_TIME, or after LEAD_MS when that is 0; or an offline one at the next BOOT. -/
def execActivateFw (port : PortId) (ld : Fin 20) (online : Bool) (slot : Fin 2) (s : State) : Res :=
  .next <| s.mailbox port ld 0x0202 .firmware (.activateFw port ld online slot) fun s =>
    let x := s.flash.sess
    let t := s.fld FLS_ACT_TIME_LO_TIME + 2 ^ 32 * s.fld FLS_ACT_TIME_HI_TIME
    let (st, s) :=
      if x.st ≠ .idle ∧ x.source ≠ 1 then (Status.busy, s)
      else if slot.val = s.flash.running then (.invalid, s)
      else if online then s.requestActivation t else s.requestOffline
    s.reply port ld 0x0202 st.mbox [st.code]

/-! ## Time and logs (R284) -/

-- @row GET_TIMESTAMP
/-- R284: the device time in ns, as Set Timestamp has set it. -/
def execGetTimestamp (port : PortId) (ld : Fin 20) (s : State) : Res :=
  .next <| s.mailbox port ld 0x0300 .identify (.getTimestamp port ld) fun s =>
    s.reply port ld 0x0300 0 [(s.timeNs + s.ports.timestamp) % 2 ^ 64]

-- @row SET_TIMESTAMP
/-- R284: sets the time; ignored while the IEEE 1588 timebase is locked. -/
def execSetTimestamp (port : PortId) (ld : Fin 20) (t : BitVec 64) (s : State) : Res :=
  .next <| s.mailbox port ld 0x0301 .identify (.setTimestamp port ld t) fun s =>
    let s := if s.clk.tbLock then s
      else { s with ports := { s.ports with timestamp := (t.toNat + 2 ^ 64 - s.timeNs % 2 ^ 64) % 2 ^ 64 } }
    s.reply port ld 0x0301 0

/-- The opcodes of the mailbox, as the Command Effects Log lists them (R284). -/
def mboxOpcodes : List Nat :=
  [0x0005, 0x0100, 0x0101, 0x0102, 0x0103, 0x0200, 0x0201, 0x0202, 0x0300, 0x0301, 0x0400, 0x0401, 0x4000, 0x4100, 0x4101, 0x4200,
   0x4201, 0x4202, 0x4203, 0x4204, 0x4300, 0x4301, 0x4302, 0x4303, 0x4304, 0x4305, 0x4400, 0x4401, 0x4800, 0x4801, 0x4802, 0x4803]

-- @row GET_SUPPORTED_LOGS
/-- R284: the Command Effects Log and the vendor event log of 256 KiB, each with its size in bytes. -/
def execGetSupportedLogs (port : PortId) (ld : Fin 20) (s : State) : Res :=
  .next <| s.mailbox port ld 0x0400 .identify (.getSupportedLogs port ld) fun s =>
    s.reply port ld 0x0400 0 [0, 4 * mboxOpcodes.length, 1, 0x40000]

-- @row GET_LOG
/-- R284: words of a log from an offset: the Command Effects Log, whose effect bits are free values, or the vendor event log, which is the slots
of the event log (R414). -/
def execGetLog (port : PortId) (ld : Fin 20) (vendor : Bool) (off len : BitVec 32) (s : State) : Res :=
  .next <| s.mailbox port ld 0x0401 .identify (.getLog port ld vendor off len) fun s =>
    let size := if vendor then 0x40000 else 4 * mboxOpcodes.length
    if off.toNat % 4 ≠ 0 ∨ len.toNat % 4 ≠ 0 ∨ size < off.toNat + len.toNat then s.reply port ld 0x0401 2
    else
      let ks := (List.range (len.toNat / 4)).map (off.toNat / 4 + ·)
      if vendor then s.reply port ld 0x0401 0 (ks.map fun k => (s.slotWord (k / 8) (k % 8)).toNat)
      else
        let (n, s) := s.fresh
        s.reply port ld 0x0401 0 (ks.map fun k => mboxOpcodes.getD k 0 + 2 ^ 16 * (n / 2 ^ (16 * k) % 2 ^ 16))

/-! ## Identity, capacity and health (R285 to R287) -/

/-- Persistent-only capacity of an LD in 256 MiB units (R273, R285): none at CXL 3.0 and later. -/
def State.staticUnits (s : State) (p : PortId) (ld : Fin 20) : Nat := if s.linkCxl3 p.val ld.val then 0 else 4 * s.rgn.limitGib.toNat

-- @row IDENTIFY_MEMORY_DEVICE
/-- R285: total, volatile-only and persistent-only capacity in 256 MiB units, partition alignment, records of each event log, size of the label
storage area, poison list maximum, injection limit. -/
def execIdentifyMemoryDevice (port : PortId) (ld : Fin 20) (s : State) : Res :=
  .next <| s.mailbox port ld 0x4000 .identify (.identifyMemoryDevice port ld) fun s =>
    s.reply port ld 0x4000 0 [4 * s.rgn.limitGib.toNat, 0, s.staticUnits port ld, 0, 256, 0, 65536, 16]

-- @row GET_PARTITION_INFO
/-- R284, R285: active volatile and persistent capacity in 256 MiB units; nothing is pending. -/
def execGetPartitionInfo (port : PortId) (ld : Fin 20) (s : State) : Res :=
  .next <| s.mailbox port ld 0x4100 .identify (.getPartitionInfo port ld) fun s =>
    s.reply port ld 0x4100 0 [0, s.staticUnits port ld, 0, 0]

-- @row SET_PARTITION_INFO
/-- R265, R284: Unsupported. -/
def execSetPartitionInfo (port : PortId) (ld : Fin 20) (s : State) : Res :=
  .next <| s.mailbox port ld 0x4101 .identify (.setPartitionInfo port ld) fun s => s.reply port ld 0x4101 3

/-- Media status in a mode (R34): 0 not ready, 1 ready, 2 error, 3 disabled. -/
def Mode.mediaStatus : Mode → Nat
  | .service | .degraded | .quiescent | .drain | .resync => 1
  | .recovery => 2
  | .maintenance => 3
  | .off | .standby | .boot | .restore | .save => 0

/-- Mean erase counter of the good capacity-tier blocks of a NAND channel. -/
def State.peMeanOf (s : State) (n : Nat) : Nat :=
  let ecs := (s.diesOf n).flatMap fun d => ((s.listedBlocks n d).filter fun e => s.blockUse n d e.1 == 0 && e.2.status == 0).map fun e => e.2.ec
  if s.goodBlocks n = 0 then 0 else ecs.sum / s.goodBlocks n

/-- Life used in percent (R286). -/
def State.lifeUsed (s : State) : Nat :=
  let worst := (((List.range 32).filter fun n => (s.nf n).st == .serving).map fun n => s.peMeanOf n).foldl max 0
  if s.peRated = 0 then 0 else min 100 (worst * 100 / s.peRated)

/-- Maintenance is needed (R286): a device mark, or a pack at end of life. -/
def State.needsMaintenance (s : State) : Bool :=
  ((List.range 16).any fun n => (s.ch n).marks != []) || (List.range 4).any fun p => (s.pack p).st == .endOfLife

/-- Hardware must be replaced (R286): a channel CLOSED, or OFFLINE after closure, or a NAND channel FAILED. -/
def State.needsReplacement (s : State) : Bool :=
  ((List.range 16).any fun n => (s.ch n).st == .closed || ((s.ch n).st == .offline && (s.ch n).afterClosure)) ||
    (List.range 32).any fun n => (s.nf n).st == .failed

-- @row GET_HEALTH_INFO
/-- R286: bits for maintenance, degraded performance and replacement; media status, life used, device temperature in °C, dirty
shutdowns, corrected volatile and persistent errors since boot. -/
def execGetHealthInfo (port : PortId) (ld : Fin 20) (s : State) : Res :=
  .next <| s.mailbox port ld 0x4200 .health (.getHealthInfo port ld) fun s =>
    let bits := s.needsMaintenance.toNat + 2 * (s.mc.mode == .degraded).toNat + 4 * s.needsReplacement.toNat
    let hot := ((List.range 24).map fun i => (s.sensor i).value).foldl max (s.sensor 0).value
    let ce := s.ports.ceSeen + ((List.range 16).map fun n => s.fld CH_CE_CNT_COUNT n).sum
    let retry := s.ports.retrySeen + ((List.range 32).map fun n => s.fld NF_RETRY_CNT_COUNT n).sum
    s.reply port ld 0x4200 0 [bits, s.mc.mode.mediaStatus, s.lifeUsed, (BitVec.ofInt 16 (hot / 16)).toNat, s.per.dirtyShutdowns, ce, retry]

-- @row GET_ALERT_CONFIGURATION
/-- R284: the alert configuration. -/
def execGetAlertConfiguration (port : PortId) (ld : Fin 20) (s : State) : Res :=
  .next <| s.mailbox port ld 0x4201 .health (.getAlertConfiguration port ld) fun s =>
    s.reply port ld 0x4201 0 (s.ldAt port.val ld.val).alerts

-- @row SET_ALERT_CONFIGURATION
/-- R284: sets the alert configuration. -/
def execSetAlertConfiguration (port : PortId) (ld : Fin 20) (words : List Nat) (s : State) : Res :=
  .next <| s.mailbox port ld 0x4202 .health (.setAlertConfiguration port ld words) fun s =>
    (s.updLd port ld fun (x : Ld) => { x with alerts := words }).reply port ld 0x4202 0

-- @row GET_SHUTDOWN_STATE
/-- R287: the stored shutdown state: 1 dirty. -/
def execGetShutdownState (port : PortId) (ld : Fin 20) (s : State) : Res :=
  .next <| s.mailbox port ld 0x4203 .health (.getShutdownState port ld) fun s =>
    s.reply port ld 0x4203 0 [s.ports.shutdownDirty.toNat]

-- @row SET_SHUTDOWN_STATE
/-- R287: stores the shutdown state durably. -/
def execSetShutdownState (port : PortId) (ld : Fin 20) (dirty : Bool) (s : State) : Res :=
  .next <| s.mailbox port ld 0x4204 .health (.setShutdownState port ld dirty) fun s =>
    ({ s with ports := { s.ports with shutdownDirty := dirty } }).reply port ld 0x4204 0

/-! ## Poison (R277) -/

-- @row GET_POISON_LIST
/-- R277: the poisoned lines of a range of lines from a DPA, each with its source, and the overflow indication. -/
def execGetPoisonList (port : PortId) (ld : Fin 20) (dpa : BitVec 48) (lines : Nat) (s : State) : Res :=
  .next <| s.mailbox port ld 0x4300 .full (.getPoisonList port ld dpa lines) fun s =>
    let a := dpa.toNat / 64
    let es := s.ports.poison.filter fun e => decide (a ≤ e.1) && decide (e.1 < a + lines)
    s.reply port ld 0x4300 0 ([s.fld PRT_POISON_LIST_OVERFLOW, es.length] ++ es.flatMap fun e => [64 * e.1, e.2])

/-- A line that a mailbox command of an LD writes (R277): it lies in a region bound to the LD, its key is loaded, and the admission queue of the
port's carriageway has room; otherwise the return code. -/
def State.poisonTarget (s : State) (p : PortId) (ld : Fin 20) (dpa : Nat) : Except Nat (Nat × Region) :=
  match s.regionOf dpa with
  | none => .error 0x0F
  | some (i, r) =>
    if 16 ≤ ld.val ∨ dpa % 64 ≠ 0 ∨ ! s.owns r p.val ld.val then .error 0x0F
    else if ! s.keyLoaded (s.lineKey i r (dpa / 64)) then .error 4
    else if s.admFull (p.val / 2) then .error 6 else .ok (i, r)

/-- The modes in which poison is injected and cleared (R277). -/
def Mode.poisons (m : Mode) : Bool := m == .service || m == .degraded || m == .quiescent || m == .resync

-- @row INJECT_POISON
/-- R277, R285: poisons a line, in SERVICE, DEGRADED, QUIESCENT and RESYNC, up to 16 lines at a time. -/
def execInjectPoison (port : PortId) (ld : Fin 20) (dpa : BitVec 48) (s : State) : Res :=
  .next <| s.mailbox port ld 0x4301 .full (.injectPoison port ld dpa) fun s =>
    let l := dpa.toNat / 64
    if ! s.mc.mode.poisons then s.reply port ld 0x4301 7
    else match s.poisonTarget port ld dpa.toNat with
      | .error rc => s.reply port ld 0x4301 rc
      | .ok (i, r) =>
        if ! s.ports.injected.contains l ∧ 16 ≤ s.ports.injected.length then s.reply port ld 0x4301 0x10
        else
          let s := s.activity
          let s := { s with ports := { s.ports with injected := if s.ports.injected.contains l then s.ports.injected else s.ports.injected ++ [l] } }
          (s.storeWrite (s.newWrite (port.val / 2) l (s.latest l).data fullBe true .internal) i r).reply port ld 0x4301 0

-- @row CLEAR_POISON
/-- R277: writes the data supplied as a full-line write. -/
def execClearPoison (port : PortId) (ld : Fin 20) (dpa : BitVec 48) (data : LineData) (s : State) : Res :=
  .next <| s.mailbox port ld 0x4302 .full (.clearPoison port ld dpa data) fun s =>
    if ! s.mc.mode.poisons then s.reply port ld 0x4302 7
    else match s.poisonTarget port ld dpa.toNat with
      | .error rc => s.reply port ld 0x4302 rc
      | .ok (i, r) =>
        let s := s.activity
        (s.storeWrite (s.newWrite (port.val / 2) (dpa.toNat / 64) data fullBe false .internal) i r).reply port ld 0x4302 0

/-! ## Scan media, Sanitize, and background commands (R284) -/

-- @row GET_SCAN_MEDIA_CAPABILITIES
/-- R284: the estimated time of a scan over a range, a free value. -/
def execGetScanMediaCapabilities (port : PortId) (ld : Fin 20) (dpa : BitVec 48) (lines : Nat) (s : State) : Res :=
  .next <| s.mailbox port ld 0x4303 .scan (.getScanMediaCapabilities port ld dpa lines) fun s =>
    if 2 ^ 30 * s.rgn.limitGib.toNat < dpa.toNat + 64 * lines then s.reply port ld 0x4303 0x0F
    else
      let (n, s) := s.fresh
      s.reply port ld 0x4303 0 [n]

/-- Starts a background command as a long operation (R284): Busy while the LD has one, or without a free handle. -/
def State.background (s : State) (p : PortId) (ld : Fin 20) (op : Nat) (kind : OpKind) (total : Option Nat) : State :=
  let x := s.ldAt p.val ld.val
  match x.background, s.freeOpSlot with
  | none, some k =>
    let s := s.startOp kind (.mailbox p.val ld.val op) total
    (s.updLd p ld fun (x : Ld) => { x with background := some (op, k) }).reply p ld op 1
  | _, _ => s.reply p ld op 6

-- @row SCAN_MEDIA
/-- R284: SCRUB_REGION over a range of lines, in the background. -/
def execScanMedia (port : PortId) (ld : Fin 20) (dpa : BitVec 48) (lines : Nat) (s : State) : Res :=
  .next <| s.mailbox port ld 0x4304 .scan (.scanMedia port ld dpa lines) fun s =>
    if lines = 0 then s.reply port ld 0x4304 2
    else if dpa.toNat % 64 ≠ 0 ∨ 2 ^ 30 * s.rgn.limitGib.toNat < dpa.toNat + 64 * lines then s.reply port ld 0x4304 0x0F
    else if (s.ldAt port.val ld.val).background.isSome then s.reply port ld 0x4304 6
    else
      let s := s.updLd port ld fun (x : Ld) => { x with scanned := [] }
      s.background port ld 0x4304 (.scan (dpa.toNat / 64) lines port.val ld.val) (some ((lines + 32767) / 32768))

-- @row GET_SCAN_MEDIA_RESULTS
/-- R284: the DPAs of the uncorrectable lines that the last scan has found. -/
def execGetScanMediaResults (port : PortId) (ld : Fin 20) (s : State) : Res :=
  .next <| s.mailbox port ld 0x4305 .scan (.getScanMediaResults port ld) fun s =>
    s.reply port ld 0x4305 0 ((s.ldAt port.val ld.val).scanned.map (64 * ·))

/-- SANITIZE for a mailbox (R284, R324). -/
def State.mboxSanitize (s : State) (p : PortId) (ld : Fin 20) (op : Nat) (secure : Bool) : State :=
  let runs (o : LongOp) : Bool := match o.kind with | .sanitize _ => true | _ => false
  if s.rings.ops.any runs then s.reply p ld op 6 else s.background p ld op (.sanitize secure) (some (s.nand.map.length + 1))

-- @row MBOX_SANITIZE
/-- R34, R284: SANITIZE, in MAINTENANCE only. -/
def execMboxSanitize (port : PortId) (ld : Fin 20) (s : State) : Res :=
  .next <| s.mailbox port ld 0x4400 .sanitize (.mboxSanitize port ld) fun s => s.mboxSanitize port ld 0x4400 false

-- @row SECURE_ERASE
/-- R34, R284: SANITIZE with KIND secure erase, in MAINTENANCE only. -/
def execSecureErase (port : PortId) (ld : Fin 20) (s : State) : Res :=
  .next <| s.mailbox port ld 0x4401 .sanitize (.secureErase port ld) fun s => s.mboxSanitize port ld 0x4401 true

-- @row REQUEST_ABORT_BACKGROUND_OP
/-- R284, R328: ends the background command as OP_CANCEL does; without one, or with one that cannot be cancelled, Invalid Input. -/
def execRequestAbortBackgroundOp (port : PortId) (ld : Fin 20) (s : State) : Res :=
  .next <| s.mailbox port ld 0x0005 .identify (.requestAbortBackgroundOp port ld) fun s =>
    match (s.ldAt port.val ld.val).background.bind fun b => s.opAt b.2 with
    | none => s.reply port ld 0x0005 2
    | some o =>
      if ! o.kind.cancellable ∨ o.st = .cancelling ∨ o.st = .done then s.reply port ld 0x0005 2
      else
        let o' := { o with st := .cancelling }
        let s := (s.setOp o').reply port ld 0x0005 0
        if o.st = .suspended then s.cancelNow o' else s

/-! ## Dynamic capacity (R265, R273 to R275) -/

/-- A dynamic capacity command: Unsupported on a link before CXL 3.0 (R264, R284). -/
def State.dynamic (s : State) (p : PortId) (ld : Fin 20) (op : Nat) (k : State → State) : State :=
  if s.linkCxl3 p.val ld.val then k s else s.reply p ld op 3

-- @row GET_DYNAMIC_CAPACITY_CONFIG
/-- R273: one region: base, length in bytes, and block size. -/
def execGetDynamicCapacityConfig (port : PortId) (ld : Fin 20) (s : State) : Res :=
  .next <| s.mailbox port ld 0x4800 .full (.getDynamicCapacityConfig port ld) fun s => s.dynamic port ld 0x4800 fun s =>
    s.reply port ld 0x4800 0 [1, 0, 2 ^ 30 * s.rgn.limitGib.toNat, 2 ^ 21]

/-- The regions bound to an LD, in ascending order of their indices. -/
def State.boundRegions (s : State) (p ld : Nat) : List (Nat × Region) :=
  s.rgn.table.filter fun e => e.2.valid && decide (ld < 16) && s.owns e.2 p ld

/-- An extent as the list reports it (R274): base, length, tag (region index and GEN at the bind), sharable. -/
def State.extentWords (s : State) (p ld : Nat) (e : Nat × Region) : List Nat :=
  let gen := Sparse.get (fun _ => 0) s.rgn.bindGens (128 * e.1 + 16 * p + ld)
  [e.2.start, e.2.bytes, e.1 + 2 ^ 16 * gen, e.2.shared.toNat]

-- @row GET_DYNAMIC_CAPACITY_EXTENT_LIST
/-- R274: exactly one extent for each bound region. -/
def execGetDynamicCapacityExtentList (port : PortId) (ld : Fin 20) (s : State) : Res :=
  .next <| s.mailbox port ld 0x4801 .full (.getDynamicCapacityExtentList port ld) fun s => s.dynamic port ld 0x4801 fun s =>
    let es := s.boundRegions port.val ld.val
    s.reply port ld 0x4801 0 (es.length :: es.flatMap fun e => s.extentWords port.val ld.val e)

/-- An Add Capacity that is declined or not answered (R275): DC_ADD_DECLINED, and access stays permitted. -/
def State.declineAdd (s : State) (p ld i : Nat) : State :=
  let x := s.ldAt p ld
  let s := s.setLd p ld { x with adds := x.adds.eraseP fun a => a.1 == i }
  s.log 0x4008 .notice (srcPort p) (s.portWord p ld) i

-- @row ADD_DYNAMIC_CAPACITY_RESPONSE
/-- R265, R275: the response to an Add Capacity: the regions whose extents it accepts are recorded; one that accepts nothing declines the
oldest Add Capacity. -/
def execAddDynamicCapacityResponse (port : PortId) (ld : Fin 20) (accepted : List (Fin 4096)) (s : State) : Res :=
  .next <| s.mailbox port ld 0x4802 .full (.addDynamicCapacityResponse port ld accepted) fun s => s.dynamic port ld 0x4802 fun s =>
    let x := s.ldAt port.val ld.val
    let rs := accepted.map Fin.val
    let s := if rs ≠ [] then
        s.updLd port ld fun (x : Ld) => { x with adds := x.adds.filter (fun a => ! rs.contains a.1)
                                                 accepted := x.accepted ++ rs.filter fun i => ! x.accepted.contains i && x.adds.any fun a => a.1 == i }
      else match x.adds with
        | a :: _ => s.declineAdd port.val ld.val a.1
        | [] => s
    s.reply port ld 0x4802 0

-- @row DC_ADD_TIMEOUT
/-- R275: an Add Capacity has had no response for 10 s. -/
def execDcAddTimeout (port : PortId) (ld : Fin 16) (region : Fin 4096) (s : State) : Res := .next <|
  let late (a : Nat × Nat) : Bool := a.1 == region.val && decide (a.2 + 10 ^ 10 ≤ s.timeNs)
  if (s.ldAt port.val ld.val).adds.any late then s.declineAdd port.val ld.val region.val else s

-- @row RELEASE_DYNAMIC_CAPACITY
/-- R265: Invalid Input; owner sets change by REGION_BIND only. -/
def execReleaseDynamicCapacity (port : PortId) (ld : Fin 20) (s : State) : Res :=
  .next <| s.mailbox port ld 0x4803 .full (.releaseDynamicCapacity port ld) fun s => s.dynamic port ld 0x4803 fun s => s.reply port ld 0x4803 2

/-! ## Label storage (R265) -/

-- @row GET_LSA
/-- R265: Unsupported. -/
def execGetLsa (port : PortId) (ld : Fin 20) (s : State) : Res :=
  .next <| s.mailbox port ld 0x4102 .identify (.getLsa port ld) fun s => s.reply port ld 0x4102 3

-- @row SET_LSA
/-- R265: Unsupported. -/
def execSetLsa (port : PortId) (ld : Fin 20) (s : State) : Res :=
  .next <| s.mailbox port ld 0x4103 .identify (.setLsa port ld) fun s => s.reply port ld 0x4103 3

/-! ## Fabric-manager commands of the FM-owned LD (R267) -/

/-- A fabric-manager command on a link's FM-owned LD. -/
def State.fabric (s : State) (p : PortId) (link : LinkId) (op : Nat) (c : Instr) (k : State → (Nat → List Nat → State → State) → State) : State :=
  if ! s.hasMailbox p.val (16 + link.val) then s
  else s.request (.mailbox p.val (16 + link.val) op) c fun s =>
    let answer (rc : Nat) (ws : List Nat) (s : State) : State := s.emit (.mailbox p.val (16 + link.val) op rc ws)
    if s.mc.mode.permits .full then k s answer else answer 7 [] s

/-- The LDs that a link presents. -/
def State.ldsOf (s : State) (p l : Nat) : List Nat := (List.range 16).filter fun k => (s.linkAt p l).lds.getLsbD k

-- @row GET_LD_INFO
/-- R267: the memory size in bytes and the LD count of the link. -/
def execGetLdInfo (port : PortId) (link : LinkId) (s : State) : Res :=
  .next <| s.fabric port link 0x5400 (.getLdInfo port link) fun s answer =>
    answer 0 [2 ^ 30 * s.rgn.limitGib.toNat, (s.ldsOf port.val link.val).length] s

-- @row GET_LD_ALLOCATIONS
/-- R267: for each LD, the sum of its bound regions' sizes in 256 MiB units, rounded up. -/
def execGetLdAllocations (port : PortId) (link : LinkId) (s : State) : Res :=
  .next <| s.fabric port link 0x5401 (.getLdAllocations port link) fun s answer =>
    answer 0 ((s.ldsOf port.val link.val).map fun ld => (((s.boundRegions port.val ld).map fun e => e.2.size.toNat).sum + 127) / 128) s

-- @row SET_LD_ALLOCATIONS
/-- R265, R267: Unsupported. -/
def execSetLdAllocations (port : PortId) (link : LinkId) (s : State) : Res :=
  .next <| s.fabric port link 0x5402 (.setLdAllocations port link) fun s answer => answer 3 [] s

-- @row GET_QOS_STATUS
/-- R267: the mean DevLoad of the link over the last 1 ms, which the model does not keep: a free value. -/
def execGetQosStatus (port : PortId) (link : LinkId) (s : State) : Res :=
  .next <| s.fabric port link 0x5405 (.getQosStatus port link) fun s answer =>
    let (n, s) := s.fresh
    answer 0 [n % 4] s

-- @row GET_MULTI_HEADED_INFO
/-- R267: at CXL 3.0 and later, the heads: links trained in the device. -/
def execGetMultiHeadedInfo (port : PortId) (link : LinkId) (s : State) : Res :=
  .next <| s.fabric port link 0x5500 (.getMultiHeadedInfo port link) fun s answer =>
    if (s.linkAt port.val link.val).ver < 3 then answer 3 [] s
    else answer 0 [(List.range 32).countP fun k => (s.linkAt (k / 4) (k % 4)).up] s

/-! ## CDAT (R262, R282) -/

/-- An entry of the CDAT: a range of DPA, what its DSMAS says, and the four figures of its DSLBIS entries: read and write latency in
ns, read and write bandwidth in MB/s. -/
structure CdatEntry where
  start     : Nat
  bytes     : Nat
  nonVol    : Bool
  shareable : Bool
  readNs    : Nat
  writeNs   : Nat
  readBw    : Nat
  writeBw   : Nat
  deriving DecidableEq, Repr

/-- The latency of R262 for a link, in ns: by PRT_LINK_STAT.RATE and flit mode; a link that serves no CXL.mem has none (a free value). -/
def CxlLink.latency (x : CxlLink) (free : Nat) : Nat :=
  match x.rate, x.flit256 with
  | 6, true => 36
  | 5, true => 40
  | 5, false => 38
  | 4, true => 46
  | 4, false => 44
  | 3, true => 58
  | 3, false => 56
  | _, _ => free

/-- MT/s of the slowest member of a pool. -/
def State.slowest (s : State) (pool : Nat) : Nat :=
  match (s.members pool).map fun n => rateMts (s.ch n).rate with
  | [] => 0
  | v :: vs => vs.foldl min v

/-- The figures of a region for an LD's link (R282). -/
def State.cdatEntry (s : State) (x : CxlLink) (free : Nat) (r : Region) : CdatEntry :=
  let pool := s.poolOf r
  let mts := s.slowest pool
  let read := x.latency free + (if mts = 8800 then 20 else Config.dramCoreNs mts) + (if r.cachedLike then 4 else 0)
  let write := if r.mirror = .sync then 2230 else if r.persist ∧ s.per.guard = .unarmed then 1100000 else 30
  let bw := (s.members pool).length * 8 * mts
  let paths := ((List.range 4).filter fun p => s.twin.pathsUp.getLsbD p).map fun p => s.fld BTT_PATH_CFG_ETH_PORT p
  let wbw := if r.mirror = .sync then min bw (100000 * paths.eraseDups.length) else bw
  ⟨r.start, r.bytes, r.persist, r.shared, read, write, bw, wbw⟩

/-- Insertion by base. -/
def insertBase (r : Region) : List Region → List Region
  | [] => [r]
  | x :: t => if r.base.toNat ≤ x.base.toNat then r :: x :: t else x :: insertBase r t

/-- Appends a region to the entries made so far, the last of them first: it is merged with the last one when it adjoins it with equal class,
PERSIST, MIRROR and pool. -/
def State.cdatAdd (s : State) (x : CxlLink) (free : Nat) (acc : List (Region × CdatEntry)) (r : Region) : List (Region × CdatEntry) :=
  let e := s.cdatEntry x free r
  match acc with
  | (q, f) :: t =>
    if q.cls = r.cls ∧ q.persist = r.persist ∧ q.mirror = r.mirror ∧ s.poolOf q = s.poolOf r ∧ f.start + f.bytes = r.start then
      (q, { f with bytes := f.bytes + r.bytes, shareable := f.shareable || r.shared }) :: t
    else (r, e) :: acc
  | [] => [(r, e)]

/-- Two entries as one that covers both (R282): the highest latencies, the lowest bandwidths. -/
def CdatEntry.cover (a b : CdatEntry) : CdatEntry :=
  { start := a.start, bytes := b.start + b.bytes - a.start, nonVol := a.nonVol && b.nonVol, shareable := a.shareable || b.shareable
    readNs := max a.readNs b.readNs, writeNs := max a.writeNs b.writeNs, readBw := min a.readBw b.readBw, writeBw := min a.writeBw b.writeBw }

/-- At most 255 entries: the 255th covers the rest (R282). -/
def capEntries (es : List CdatEntry) : List CdatEntry :=
  match es.drop 254 with
  | e :: t => es.take 254 ++ [t.foldl CdatEntry.cover e]
  | [] => es

/-- The CDAT of an LD (R282). -/
def State.cdat (s : State) (p ld free : Nat) : List CdatEntry :=
  let x := s.linkAt p (s.ldLink p ld)
  let rs := ((s.boundRegions p ld).map Prod.snd).foldl (fun t r => insertBase r t) []
  capEntries ((rs.foldl (s.cdatAdd x free) []).reverse.map Prod.snd)

-- @row CDAT_TABLE_ACCESS
/-- R282, R283: Table Access over DOE: the sequence number, then for each entry its handle, DSMAS and figures. -/
def execCdatTableAccess (port : PortId) (ld : Fin 16) (s : State) : Res :=
  .next <| if ! s.ldEnabled port.val ld.val then s
    else s.request (.mailbox port.val ld.val 0) (.cdatTableAccess port ld) fun s =>
      let (free, s) := s.fresh
      let es := s.cdat port.val ld.val free
      let words (e : Nat × CdatEntry) : List Nat :=
        [e.1 + 1, e.2.start, e.2.bytes, e.2.nonVol.toNat, e.2.shareable.toNat, e.2.readNs, e.2.writeNs, e.2.readBw, e.2.writeBw]
      s.emit (.mailbox port.val ld.val 0 0 ((s.ldAt port.val ld.val).cdatSeq.toNat :: ((List.range es.length).zip es).flatMap words))

end Sys2Proof.Machine
end

