-- ==== Sys2Proof/Machine/Dispatch.lean ====
section
/-!
DEFINITION. One arm for each command: its meaning.
-/
namespace Sys2Proof.Machine

/-- What a command does to everything but the queue. -/
def exec (i : Instr) (s : State) : Host.Outcome State Fault Refusal :=
  match i with
  | .modeReqDrain ask => Sys2Proof.Machine.execModeReqDrain ask s
  | .modeReqDrainCancel ask => Sys2Proof.Machine.execModeReqDrainCancel ask s
  | .modeReqMaintenance ask => Sys2Proof.Machine.execModeReqMaintenance ask s
  | .modeReqWake ask => Sys2Proof.Machine.execModeReqWake ask s
  | .modeReqOther target ask => Sys2Proof.Machine.execModeReqOther target ask s
  | .getEventRecords port ld log => Sys2Proof.Machine.execGetEventRecords port ld log s
  | .clearEventRecords port ld log all handles => Sys2Proof.Machine.execClearEventRecords port ld log all handles s
  | .getEventInterruptPolicy port ld => Sys2Proof.Machine.execGetEventInterruptPolicy port ld s
  | .setEventInterruptPolicy port ld policy => Sys2Proof.Machine.execSetEventInterruptPolicy port ld policy s
  | .getFwInfo port ld => Sys2Proof.Machine.execGetFwInfo port ld s
  | .transferFw port ld action slot off bytes => Sys2Proof.Machine.execTransferFw port ld action slot off bytes s
  | .activateFw port ld online slot => Sys2Proof.Machine.execActivateFw port ld online slot s
  | .getTimestamp port ld => Sys2Proof.Machine.execGetTimestamp port ld s
  | .setTimestamp port ld t => Sys2Proof.Machine.execSetTimestamp port ld t s
  | .getSupportedLogs port ld => Sys2Proof.Machine.execGetSupportedLogs port ld s
  | .getLog port ld vendor off len => Sys2Proof.Machine.execGetLog port ld vendor off len s
  | .identifyMemoryDevice port ld => Sys2Proof.Machine.execIdentifyMemoryDevice port ld s
  | .getPartitionInfo port ld => Sys2Proof.Machine.execGetPartitionInfo port ld s
  | .setPartitionInfo port ld => Sys2Proof.Machine.execSetPartitionInfo port ld s
  | .getHealthInfo port ld => Sys2Proof.Machine.execGetHealthInfo port ld s
  | .getAlertConfiguration port ld => Sys2Proof.Machine.execGetAlertConfiguration port ld s
  | .setAlertConfiguration port ld words => Sys2Proof.Machine.execSetAlertConfiguration port ld words s
  | .getShutdownState port ld => Sys2Proof.Machine.execGetShutdownState port ld s
  | .setShutdownState port ld dirty => Sys2Proof.Machine.execSetShutdownState port ld dirty s
  | .getPoisonList port ld dpa lines => Sys2Proof.Machine.execGetPoisonList port ld dpa lines s
  | .injectPoison port ld dpa => Sys2Proof.Machine.execInjectPoison port ld dpa s
  | .clearPoison port ld dpa data => Sys2Proof.Machine.execClearPoison port ld dpa data s
  | .getScanMediaCapabilities port ld dpa lines => Sys2Proof.Machine.execGetScanMediaCapabilities port ld dpa lines s
  | .scanMedia port ld dpa lines => Sys2Proof.Machine.execScanMedia port ld dpa lines s
  | .getScanMediaResults port ld => Sys2Proof.Machine.execGetScanMediaResults port ld s
  | .mboxSanitize port ld => Sys2Proof.Machine.execMboxSanitize port ld s
  | .secureErase port ld => Sys2Proof.Machine.execSecureErase port ld s
  | .getDynamicCapacityConfig port ld => Sys2Proof.Machine.execGetDynamicCapacityConfig port ld s
  | .getDynamicCapacityExtentList port ld => Sys2Proof.Machine.execGetDynamicCapacityExtentList port ld s
  | .addDynamicCapacityResponse port ld accepted => Sys2Proof.Machine.execAddDynamicCapacityResponse port ld accepted s
  | .releaseDynamicCapacity port ld => Sys2Proof.Machine.execReleaseDynamicCapacity port ld s
  | .requestAbortBackgroundOp port ld => Sys2Proof.Machine.execRequestAbortBackgroundOp port ld s
  | .getLsa port ld => Sys2Proof.Machine.execGetLsa port ld s
  | .setLsa port ld => Sys2Proof.Machine.execSetLsa port ld s
  | .getLdInfo port link => Sys2Proof.Machine.execGetLdInfo port link s
  | .getLdAllocations port link => Sys2Proof.Machine.execGetLdAllocations port link s
  | .setLdAllocations port link => Sys2Proof.Machine.execSetLdAllocations port link s
  | .getQosStatus port link => Sys2Proof.Machine.execGetQosStatus port link s
  | .getMultiHeadedInfo port link => Sys2Proof.Machine.execGetMultiHeadedInfo port link s
  | .cdatTableAccess port ld => Sys2Proof.Machine.execCdatTableAccess port ld s
  | .setHkek t hkek auth => Sys2Proof.Machine.execSetHkek t hkek auth s
  | .setHkekReplace t hkek auth => Sys2Proof.Machine.execSetHkekReplace t hkek auth s
  | .spdmGetMeasurements t index auth => Sys2Proof.Machine.execSpdmGetMeasurements t index auth s
  | .spdmKeyExchange t auth keyManager => Sys2Proof.Machine.execSpdmKeyExchange t auth keyManager s
  | .regRead bus off count => Sys2Proof.Machine.execRegRead bus off count s
  | .regWrite bus off v mask env => Sys2Proof.Machine.execRegWrite bus off v mask env s
  | .setEventReceiver bus enable => Sys2Proof.Machine.execSetEventReceiver bus enable s
  | .getPdr bus stack handle => Sys2Proof.Machine.execGetPdr bus stack handle s
  | .getSensorReading bus id => Sys2Proof.Machine.execGetSensorReading bus id s
  | .getStateSensorReadings bus stack id => Sys2Proof.Machine.execGetStateSensorReadings bus stack id s
  | .setStateEffecterStates bus id v => Sys2Proof.Machine.execSetStateEffecterStates bus id v s
  | .requestUpdate bus len => Sys2Proof.Machine.execRequestUpdate bus len s
  | .requestFirmwareData off bytes => Sys2Proof.Machine.execRequestFirmwareData off bytes s
  | .activateFirmware bus selfContained time => Sys2Proof.Machine.execActivateFirmware bus selfContained time s
  | .cancelUpdate bus => Sys2Proof.Machine.execCancelUpdate bus s
  | .getStatus bus => Sys2Proof.Machine.execGetStatus bus s
  | .getFirmwareParameters bus => Sys2Proof.Machine.execGetFirmwareParameters bus s
  | .vddAonPowerOn straps => Sys2Proof.Machine.execVddAonPowerOn straps s
  | .vddAonLost => Sys2Proof.Machine.execVddAonLost s
  | .wakeSource w => Sys2Proof.Machine.execWakeSource w s
  | .pendingWakeTimeout => Sys2Proof.Machine.execPendingWakeTimeout s
  | .railInRange => Sys2Proof.Machine.execRailInRange s
  | .resetRelease straps => Sys2Proof.Machine.execResetRelease straps s
  | .pwrSeqFail us => Sys2Proof.Machine.execPwrSeqFail us s
  | .brdPgFall => Sys2Proof.Machine.execBrdPgFall s
  | .powerFail straps => Sys2Proof.Machine.execPowerFail straps s
  | .railMonitorTrip rail out straps => Sys2Proof.Machine.execRailMonitorTrip rail out straps s
  | .railFault rail => Sys2Proof.Machine.execRailFault rail s
  | .railReturn rail => Sys2Proof.Machine.execRailReturn rail s
  | .mainPowerBack => Sys2Proof.Machine.execMainPowerBack s
  | .avsConfirmTimeout mv sensed => Sys2Proof.Machine.execAvsConfirmTimeout mv sensed s
  | .refclkLost ref => Sys2Proof.Machine.execRefclkLost ref s
  | .refclkReturn ref => Sys2Proof.Machine.execRefclkReturn ref s
  | .timebaseLock off time => Sys2Proof.Machine.execTimebaseLock off time s
  | .timebaseUnlock off => Sys2Proof.Machine.execTimebaseUnlock off s
  | .sysRstN straps => Sys2Proof.Machine.execSysRstN straps s
  | .heldResetApply straps => Sys2Proof.Machine.execHeldResetApply straps s
  | .soft who straps => Sys2Proof.Machine.execSoft who straps s
  | .trstN => Sys2Proof.Machine.execTrstN s
  | .bootChecksDone failA failB badA badB sramOk coreA coreB coreS clash => Sys2Proof.Machine.execBootChecksDone failA failB badA badB sramOk coreA coreB coreS clash s
  | .coldBootTrainStart => Sys2Proof.Machine.execColdBootTrainStart s
  | .initialTrainingDone ch a b pass timing => Sys2Proof.Machine.execInitialTrainingDone ch a b pass timing s
  | .mapReplay us => Sys2Proof.Machine.execMapReplay us s
  | .restoreApplied => Sys2Proof.Machine.execRestoreApplied s
  | .quiesceEnter => Sys2Proof.Machine.execQuiesceEnter s
  | .quiesceExit => Sys2Proof.Machine.execQuiesceExit s
  | .drainDone straps => Sys2Proof.Machine.execDrainDone straps s
  | .maintenanceExit straps => Sys2Proof.Machine.execMaintenanceExit straps s
  | .recoveryReset straps => Sys2Proof.Machine.execRecoveryReset straps s
  | .saveIntentProgrammed => Sys2Proof.Machine.execSaveIntentProgrammed s
  | .twinFlushCutoff => Sys2Proof.Machine.execTwinFlushCutoff s
  | .saveStreamDone bad => Sys2Proof.Machine.execSaveStreamDone bad s
  | .saveMetadataDone => Sys2Proof.Machine.execSaveMetadataDone s
  | .saveSealed straps => Sys2Proof.Machine.execSaveSealed straps s
  | .nap1Enter ch => Sys2Proof.Machine.execNap1Enter ch s
  | .nap2Enter ch => Sys2Proof.Machine.execNap2Enter ch s
  | .pasrEnter ch rank => Sys2Proof.Machine.execPasrEnter ch rank s
  | .channelWake ch => Sys2Proof.Machine.execChannelWake ch s
  | .channelWakeDone ch ok => Sys2Proof.Machine.execChannelWakeDone ch ok s
  | .earlyWake port link => Sys2Proof.Machine.execEarlyWake port link s
  | .cwClockStop cw => Sys2Proof.Machine.execCwClockStop cw s
  | .junctionClockStop => Sys2Proof.Machine.execJunctionClockStop s
  | .pasrDupRewriteDone ch => Sys2Proof.Machine.execPasrDupRewriteDone ch s
  | .laybyLend ch => Sys2Proof.Machine.execLaybyLend ch s
  | .laybyRevokeDone ch pages others => Sys2Proof.Machine.execLaybyRevokeDone ch pages others s
  | .regionCreate d => Sys2Proof.Machine.execRegionCreate d s
  | .regionDestroy d => Sys2Proof.Machine.execRegionDestroy d s
  | .regionModifyMirror d => Sys2Proof.Machine.execRegionModifyMirror d s
  | .regionModifyPersist d => Sys2Proof.Machine.execRegionModifyPersist d s
  | .regionModifySize d => Sys2Proof.Machine.execRegionModifySize d s
  | .regionModifyRelease d => Sys2Proof.Machine.execRegionModifyRelease d s
  | .regionModifyClearDamaged d => Sys2Proof.Machine.execRegionModifyClearDamaged d s
  | .regionBind d => Sys2Proof.Machine.execRegionBind d s
  | .rgnCommit => Sys2Proof.Machine.execRgnCommit s
  | .epochDrainDone => Sys2Proof.Machine.execEpochDrainDone s
  | .metadataDurable => Sys2Proof.Machine.execMetadataDurable s
  | .poolValidSet p w who => Sys2Proof.Machine.execPoolValidSet p w who s
  | .partitionValidSet q w who => Sys2Proof.Machine.execPartitionValidSet q w who s
  | .hdmDecoderCommit port ld d base size ways ig skip lock => Sys2Proof.Machine.execHdmDecoderCommit port ld d base size ways ig skip lock s
  | .cxlMemRead port ld hpa tag errs wbBad macOk => Sys2Proof.Machine.execCxlMemRead port ld hpa tag errs wbBad macOk s
  | .cxlMemWrite port ld hpa tag data be poison macOk => Sys2Proof.Machine.execCxlMemWrite port ld hpa tag data be poison macOk s
  | .readMergeWrite ch line errs wbBad => Sys2Proof.Machine.execReadMergeWrite ch line errs wbBad s
  | .admissionRelease => Sys2Proof.Machine.execAdmissionRelease s
  | .stallLimitExpiry cw => Sys2Proof.Machine.execStallLimitExpiry cw s
  | .writeThroughDone page => Sys2Proof.Machine.execWriteThroughDone page s
  | .writebackStart page bad bus => Sys2Proof.Machine.execWritebackStart page bad bus s
  | .writebackProgramDone page => Sys2Proof.Machine.execWritebackProgramDone page s
  | .nandProgramFail page => Sys2Proof.Machine.execNandProgramFail page s
  | .fillDone page bad => Sys2Proof.Machine.execFillDone page bad s
  | .detourTimeout line => Sys2Proof.Machine.execDetourTimeout line s
  | .backgroundRefill page bad => Sys2Proof.Machine.execBackgroundRefill page bad s
  | .imageMoveHome image page => Sys2Proof.Machine.execImageMoveHome image page s
  | .sampleFrame raw => Sys2Proof.Machine.execSampleFrame raw s
  | .fencePersist d => Sys2Proof.Machine.execFencePersist d s
  | .fencePersistDone id => Sys2Proof.Machine.execFencePersistDone id s
  | .fenceMirror d => Sys2Proof.Machine.execFenceMirror d s
  | .fenceMirrorDone id => Sys2Proof.Machine.execFenceMirrorDone id s
  | .fenceTier d => Sys2Proof.Machine.execFenceTier d s
  | .fenceTierDone id => Sys2Proof.Machine.execFenceTierDone id s
  | .gpfPhase1 port link => Sys2Proof.Machine.execGpfPhase1 port link s
  | .gpfPhase2 port link => Sys2Proof.Machine.execGpfPhase2 port link s
  | .gpfPhase2Done port link => Sys2Proof.Machine.execGpfPhase2Done port link s
  | .tilePlaced stream layer entry bad => Sys2Proof.Machine.execTilePlaced stream layer entry bad s
  | .releaseLineWrite plan ms v => Sys2Proof.Machine.execReleaseLineWrite plan ms v s
  | .planLoad d => Sys2Proof.Machine.execPlanLoad d s
  | .planStart d => Sys2Proof.Machine.execPlanStart d s
  | .planStop d => Sys2Proof.Machine.execPlanStop d s
  | .planStopped slot => Sys2Proof.Machine.execPlanStopped slot s
  | .objectPlacePromote d => Sys2Proof.Machine.execObjectPlacePromote d s
  | .objectPlacePromotePin d => Sys2Proof.Machine.execObjectPlacePromotePin d s
  | .objectPlaceUnpin d => Sys2Proof.Machine.execObjectPlaceUnpin d s
  | .objectPlaceDemote d => Sys2Proof.Machine.execObjectPlaceDemote d s
  | .driftTrack ch ps => Sys2Proof.Machine.execDriftTrack ch ps s
  | .fullRetrainStart ch why => Sys2Proof.Machine.execFullRetrainStart ch why s
  | .chRetrainRequest ch => Sys2Proof.Machine.execChRetrainRequest ch s
  | .chTimCommit ch who => Sys2Proof.Machine.execChTimCommit ch who s
  | .retrainDone ch bad => Sys2Proof.Machine.execRetrainDone ch bad s
  | .retrainBoundExpiry ch sub code lanes => Sys2Proof.Machine.execRetrainBoundExpiry ch sub code lanes s
  | .rebuildChunk ch twin => Sys2Proof.Machine.execRebuildChunk ch twin s
  | .rebuildTwinWaitExpiry ch => Sys2Proof.Machine.execRebuildTwinWaitExpiry ch s
  | .caAlert ch sub => Sys2Proof.Machine.execCaAlert ch sub s
  | .caAlertEnd ch sub replayed => Sys2Proof.Machine.execCaAlertEnd ch sub replayed s
  | .replayTimeout ch sub => Sys2Proof.Machine.execReplayTimeout ch sub s
  | .refreshDue ch rank => Sys2Proof.Machine.execRefreshDue ch rank s
  | .dimmThermPoll ch t0 t1 mr => Sys2Proof.Machine.execDimmThermPoll ch t0 t1 mr s
  | .evacuateChannel d => Sys2Proof.Machine.execEvacuateChannel d s
  | .evacDone ch => Sys2Proof.Machine.execEvacDone ch s
  | .chPwrWrite ch v who => Sys2Proof.Machine.execChPwrWrite ch v who s
  | .readmit ch a b pass timing who => Sys2Proof.Machine.execReadmit ch a b pass timing who s
  | .readmitted ch => Sys2Proof.Machine.execReadmitted ch s
  | .errClear reg => Sys2Proof.Machine.execErrClear reg s
  | .markClear ch rank sub => Sys2Proof.Machine.execMarkClear ch rank sub s
  | .patrolRead ch errs => Sys2Proof.Machine.execPatrolRead ch errs s
  | .patrolWake ch => Sys2Proof.Machine.execPatrolWake ch s
  | .moduleInsert m x => Sys2Proof.Machine.execModuleInsert m x s
  | .nandIoTrainingDone nf pass io rate => Sys2Proof.Machine.execNandIoTrainingDone nf pass io rate s
  | .moduleRemove m image => Sys2Proof.Machine.execModuleRemove m image s
  | .evacuateModule d => Sys2Proof.Machine.execEvacuateModule d s
  | .moduleEvacDone m => Sys2Proof.Machine.execModuleEvacDone m s
  | .readStepDone page pass best bus => Sys2Proof.Machine.execReadStepDone page pass best bus s
  | .readLadderCutoff page => Sys2Proof.Machine.execReadLadderCutoff page s
  | .refreshMove nf die block => Sys2Proof.Machine.execRefreshMove nf die block s
  | .garbageCollect nf die => Sys2Proof.Machine.execGarbageCollect nf die s
  | .nandEraseDone nf die block pass => Sys2Proof.Machine.execNandEraseDone nf die block pass s
  | .eraseResume nf die => Sys2Proof.Machine.execEraseResume nf die s
  | .eraseStarved nf die block => Sys2Proof.Machine.execEraseStarved nf die block s
  | .eraseGuardExpiry nf die block => Sys2Proof.Machine.execEraseGuardExpiry nf die block s
  | .wearLevelMove nf => Sys2Proof.Machine.execWearLevelMove nf s
  | .mapCheckpoint => Sys2Proof.Machine.execMapCheckpoint s
  | .saveRehearsal => Sys2Proof.Machine.execSaveRehearsal s
  | .saveRehearsalDone mbps => Sys2Proof.Machine.execSaveRehearsalDone mbps s
  | .saveImageErase image => Sys2Proof.Machine.execSaveImageErase image s
  | .nandBrownout rail blocked => Sys2Proof.Machine.execNandBrownout rail blocked s
  | .nandBrownoutEnd rail => Sys2Proof.Machine.execNandBrownoutEnd rail s
  | .enduranceOver => Sys2Proof.Machine.execEnduranceOver s
  | .bttData p => Sys2Proof.Machine.execBttData p s
  | .bttAck h placed sack holes => Sys2Proof.Machine.execBttAck h placed sack holes s
  | .bttNak h => Sys2Proof.Machine.execBttNak h s
  | .bttCredit h l0 l1 l2 l3 => Sys2Proof.Machine.execBttCredit h l0 l1 l2 l3 s
  | .bttKeepalive h => Sys2Proof.Machine.execBttKeepalive h s
  | .bttReadReq h line total => Sys2Proof.Machine.execBttReadReq h line total s
  | .bttReadResp p => Sys2Proof.Machine.execBttReadResp p s
  | .hello h m => Sys2Proof.Machine.execHello h m s
  | .copyCreate h base size key index => Sys2Proof.Machine.execCopyCreate h base size key index s
  | .copyModify h base size key index => Sys2Proof.Machine.execCopyModify h base size key index s
  | .copyDestroy h index => Sys2Proof.Machine.execCopyDestroy h index s
  | .copyRefused h region status => Sys2Proof.Machine.execCopyRefused h region status s
  | .copyMissing h dpa => Sys2Proof.Machine.execCopyMissing h dpa s
  | .windowAdvance h st base => Sys2Proof.Machine.execWindowAdvance h st base s
  | .promoteReq h region copy => Sys2Proof.Machine.execPromoteReq h region copy s
  | .promoteAck h region ok mirror => Sys2Proof.Machine.execPromoteAck h region ok mirror s
  | .convoySend st bad ctrBad => Sys2Proof.Machine.execConvoySend st bad ctrBad s
  | .retxTimer st seq => Sys2Proof.Machine.execRetxTimer st seq s
  | .retxAbandon st seq => Sys2Proof.Machine.execRetxAbandon st seq s
  | .keepaliveTimer path => Sys2Proof.Machine.execKeepaliveTimer path s
  | .pathDead path mtu => Sys2Proof.Machine.execPathDead path mtu s
  | .linkAbsentTimeout => Sys2Proof.Machine.execLinkAbsentTimeout s
  | .helloTimer => Sys2Proof.Machine.execHelloTimer s
  | .lagExceeded => Sys2Proof.Machine.execLagExceeded s
  | .syncTimeout => Sys2Proof.Machine.execSyncTimeout s
  | .resyncRangeStart => Sys2Proof.Machine.execResyncRangeStart s
  | .promoteTwin d => Sys2Proof.Machine.execPromoteTwin d s
  | .linkEnable en => Sys2Proof.Machine.execLinkEnable en s
  | .linkRekey => Sys2Proof.Machine.execLinkRekey s
  | .updBlock member off bytes => Sys2Proof.Machine.execUpdBlock member off bytes s
  | .updStatus st off busy => Sys2Proof.Machine.execUpdStatus st off busy s
  | .actPropose member t ver level floor => Sys2Proof.Machine.execActPropose member t ver level floor s
  | .actVote member yes reason => Sys2Proof.Machine.execActVote member yes reason s
  | .actOutcome member what => Sys2Proof.Machine.execActOutcome member what s
  | .twinOfferRetry => Sys2Proof.Machine.execTwinOfferRetry s
  | .cxlLinkUp port link width rate ver flit256 => Sys2Proof.Machine.execCxlLinkUp port link width rate ver flit256 s
  | .cxlLinkDown port link => Sys2Proof.Machine.execCxlLinkDown port link s
  | .cxlHotReset port link => Sys2Proof.Machine.execCxlHotReset port link s
  | .cxlReset port ld => Sys2Proof.Machine.execCxlReset port ld s
  | .perstAssert port => Sys2Proof.Machine.execPerstAssert port s
  | .viralReceived port link => Sys2Proof.Machine.execViralReceived port link s
  | .viralSent port link unit => Sys2Proof.Machine.execViralSent port link unit s
  | .ideKmKSetGo port link stream => Sys2Proof.Machine.execIdeKmKSetGo port link stream s
  | .ideRekeyDue port link stream => Sys2Proof.Machine.execIdeRekeyDue port link stream s
  | .ideCounterLimit port link stream => Sys2Proof.Machine.execIdeCounterLimit port link stream s
  | .dcAddTimeout port ld region => Sys2Proof.Machine.execDcAddTimeout port ld region s
  | .rdmaWrite h reth last bytes => Sys2Proof.Machine.execRdmaWrite h reth last bytes s
  | .rdmaRead h r errs wbBad => Sys2Proof.Machine.execRdmaRead h r errs wbBad s
  | .compareSwap h rkey va cmp swap => Sys2Proof.Machine.execCompareSwap h rkey va cmp swap s
  | .fetchAdd h rkey va add => Sys2Proof.Machine.execFetchAdd h rkey va add s
  | .atomicWrite h rkey va data => Sys2Proof.Machine.execAtomicWrite h rkey va data s
  | .rdmaFlush h r persist => Sys2Proof.Machine.execRdmaFlush h r persist s
  | .rdmaResponse h resp => Sys2Proof.Machine.execRdmaResponse h resp s
  | .rdmaNakReceived h nak => Sys2Proof.Machine.execRdmaNakReceived h nak s
  | .ackTimeout qp => Sys2Proof.Machine.execAckTimeout qp s
  | .cnpReceived h => Sys2Proof.Machine.execCnpReceived h s
  | .rateTimer qp => Sys2Proof.Machine.execRateTimer qp s
  | .pfcPauseReceived eth prio on => Sys2Proof.Machine.execPfcPauseReceived eth prio on s
  | .gateSet d => Sys2Proof.Machine.execGateSet d s
  | .gateExpired qp => Sys2Proof.Machine.execGateExpired qp s
  | .qpStateRts qp who => Sys2Proof.Machine.execQpStateRts qp who s
  | .qpStateError qp who => Sys2Proof.Machine.execQpStateError qp who s
  | .qpStateReset qp who => Sys2Proof.Machine.execQpStateReset qp who s
  | .qpResetDone qp => Sys2Proof.Machine.execQpResetDone qp s
  | .mkeyValidSet key on => Sys2Proof.Machine.execMkeyValidSet key on s
  | .copyLocal d => Sys2Proof.Machine.execCopyLocal d s
  | .copyRemoteWrite d => Sys2Proof.Machine.execCopyRemoteWrite d s
  | .copyRemoteRead d => Sys2Proof.Machine.execCopyRemoteRead d s
  | .copyRemoteFlush d => Sys2Proof.Machine.execCopyRemoteFlush d s
  | .fill d => Sys2Proof.Machine.execFill d s
  | .migrate d => Sys2Proof.Machine.execMigrate d s
  | .ringSqDb r v => Sys2Proof.Machine.execRingSqDb r v s
  | .ringCqDb r v => Sys2Proof.Machine.execRingCqDb r v s
  | .ringPush r w => Sys2Proof.Machine.execRingPush r w s
  | .ringPushContinue r w => Sys2Proof.Machine.execRingPushContinue r w s
  | .ringPushCommit r w => Sys2Proof.Machine.execRingPushCommit r w s
  | .ringFlush r unread => Sys2Proof.Machine.execRingFlush r unread s
  | .ringEnable r who => Sys2Proof.Machine.execRingEnable r who s
  | .ringDisable r => Sys2Proof.Machine.execRingDisable r s
  | .descriptorFetch r descs err => Sys2Proof.Machine.execDescriptorFetch r descs err s
  | .cqRecordWrite r err => Sys2Proof.Machine.execCqRecordWrite r err s
  | .coalTimer r => Sys2Proof.Machine.execCoalTimer r s
  | .nop d => Sys2Proof.Machine.execNop d s
  | .opSuspend d => Sys2Proof.Machine.execOpSuspend d s
  | .opResume d => Sys2Proof.Machine.execOpResume d s
  | .opCancel d => Sys2Proof.Machine.execOpCancel d s
  | .opQuery d => Sys2Proof.Machine.execOpQuery d s
  | .longOpStep slot errs bad => Sys2Proof.Machine.execLongOpStep slot errs bad s
  | .sqPointerMismatch kind inst => Sys2Proof.Machine.execSqPointerMismatch kind inst s
  | .arbCommit cw who => Sys2Proof.Machine.execArbCommit cw who s
  | .slotTableSwap ch => Sys2Proof.Machine.execSlotTableSwap ch s
  | .keyLoad d key => Sys2Proof.Machine.execKeyLoad d key s
  | .keyLoadErase d => Sys2Proof.Machine.execKeyLoadErase d s
  | .keyRotate d => Sys2Proof.Machine.execKeyRotate d s
  | .rotateDone region => Sys2Proof.Machine.execRotateDone region s
  | .alarmZeroise source writes reads => Sys2Proof.Machine.execAlarmZeroise source writes reads s
  | .alarmClear bits absent => Sys2Proof.Machine.execAlarmClear bits absent s
  | .entropyFail test => Sys2Proof.Machine.execEntropyFail test s
  | .maskDegraded paths => Sys2Proof.Machine.execMaskDegraded paths s
  | .entropyRecover => Sys2Proof.Machine.execEntropyRecover s
  | .drbgReseed => Sys2Proof.Machine.execDrbgReseed s
  | .ccMismatch ecc clocks => Sys2Proof.Machine.execCcMismatch ecc clocks s
  | .ccSwitchover gap replay suppressed => Sys2Proof.Machine.execCcSwitchover gap replay suppressed s
  | .ccShortSelftestDone passA passB passS => Sys2Proof.Machine.execCcShortSelftestDone passA passB passS s
  | .ccSelftest passA passB passS pause => Sys2Proof.Machine.execCcSelftest passA passB passS pause s
  | .standbySelftestRound pass => Sys2Proof.Machine.execStandbySelftestRound pass s
  | .checkpoint => Sys2Proof.Machine.execCheckpoint s
  | .forceSwitch who => Sys2Proof.Machine.execForceSwitch who s
  | .wdtKick key ckptOk => Sys2Proof.Machine.execWdtKick key ckptOk s
  | .wdtExpire ckptOk => Sys2Proof.Machine.execWdtExpire ckptOk s
  | .ccRestartDone coreA coreB coreS badA badB => Sys2Proof.Machine.execCcRestartDone coreA coreB coreS badA badB s
  | .flashProgram off words => Sys2Proof.Machine.execFlashProgram off words s
  | .flashErase off sectors => Sys2Proof.Machine.execFlashErase off sectors s
  | .flashPulseDone bank how => Sys2Proof.Machine.execFlashPulseDone bank how s
  | .flashOpResume bank => Sys2Proof.Machine.execFlashOpResume bank s
  | .flsEraseStarved bank => Sys2Proof.Machine.execFlsEraseStarved bank s
  | .flsBrownout => Sys2Proof.Machine.execFlsBrownout s
  | .recordPortWrite => Sys2Proof.Machine.execRecordPortWrite s
  | .sessionEraseDone => Sys2Proof.Machine.execSessionEraseDone s
  | .verifyDone ecdsa mldsa badDigest => Sys2Proof.Machine.execVerifyDone ecdsa mldsa badDigest s
  | .abort who => Sys2Proof.Machine.execAbort who s
  | .sessionIdleTimeout => Sys2Proof.Machine.execSessionIdleTimeout s
  | .actVoteDeadline => Sys2Proof.Machine.execActVoteDeadline s
  | .activationTime => Sys2Proof.Machine.execActivationTime s
  | .updComponentSwap stop ok => Sys2Proof.Machine.execUpdComponentSwap stop ok s
  | .confirm who => Sys2Proof.Machine.execConfirm who s
  | .trialSElapsed => Sys2Proof.Machine.execTrialSElapsed s
  | .revert who => Sys2Proof.Machine.execRevert who s
  | .confirmSExpiry => Sys2Proof.Machine.execConfirmSExpiry s
  | .revertDone => Sys2Proof.Machine.execRevertDone s
  | .evtAck seq => Sys2Proof.Machine.execEvtAck seq s
  | .eventLimitIntervalEnd code key => Sys2Proof.Machine.execEventLimitIntervalEnd code key s
  | .cfgRejectWindowEnd => Sys2Proof.Machine.execCfgRejectWindowEnd s
  | .evtSlotCheckFail slot => Sys2Proof.Machine.execEvtSlotCheckFail slot s
  | .junctionError link => Sys2Proof.Machine.execJunctionError link s
  | .jctRetrainDone link errored spares0 spares1 => Sys2Proof.Machine.execJctRetrainDone link errored spares0 spares1 s
  | .tagqInvalidate quarter => Sys2Proof.Machine.execTagqInvalidate quarter s
  | .tierEngineFault cw => Sys2Proof.Machine.execTierEngineFault cw s
  | .trimCommit => Sys2Proof.Machine.execTrimCommit s
  | .trimReload => Sys2Proof.Machine.execTrimReload s
  | .packInsert p => Sys2Proof.Machine.execPackInsert p s
  | .packIdentifyDone p id => Sys2Proof.Machine.execPackIdentifyDone p id s
  | .packRemove p => Sys2Proof.Machine.execPackRemove p s
  | .packTestRequest p => Sys2Proof.Machine.execPackTestRequest p s
  | .packTestScheduled p => Sys2Proof.Machine.execPackTestScheduled p s
  | .packTestRetry p => Sys2Proof.Machine.execPackTestRetry p s
  | .packTestDone p v0 v1 v2 us => Sys2Proof.Machine.execPackTestDone p v0 v1 v2 us s
  | .packRelease d => Sys2Proof.Machine.execPackRelease d s
  | .sanitize d => Sys2Proof.Machine.execSanitize d s
  | .scrubRegion d => Sys2Proof.Machine.execScrubRegion d s
  | .laybyMarchSlot ch pass => Sys2Proof.Machine.execLaybyMarchSlot ch pass s
  | .disturbPatrolRead nf die block step best => Sys2Proof.Machine.execDisturbPatrolRead nf die block step best s
  | .eyeScanStart lane => Sys2Proof.Machine.execEyeScanStart lane s
  | .eyeScanDone lane height width kept => Sys2Proof.Machine.execEyeScanDone lane height width kept s
  | .idcode => Sys2Proof.Machine.execIdcode s
  | .samplePreload pins => Sys2Proof.Machine.execSamplePreload pins s
  | .extest pins => Sys2Proof.Machine.execExtest pins s
  | .extestPulse pins => Sys2Proof.Machine.execExtestPulse pins s
  | .extestTrain pins => Sys2Proof.Machine.execExtestTrain pins s
  | .clamp => Sys2Proof.Machine.execClamp s
  | .highz => Sys2Proof.Machine.execHighz s
  | .mbist => Sys2Proof.Machine.execMbist s
  | .scan => Sys2Proof.Machine.execScan s
  | .bypass => Sys2Proof.Machine.execBypass s
  | .bistStart who => Sys2Proof.Machine.execBistStart who s
  | .bistDone slots tagq staging queues ckpt => Sys2Proof.Machine.execBistDone slots tagq staging queues ckpt s
  | .heartbeatSend reports => Sys2Proof.Machine.execHeartbeatSend reports s
  | .heartbeatReceive member live handback => Sys2Proof.Machine.execHeartbeatReceive member live handback s
  | .stackElection ranges => Sys2Proof.Machine.execStackElection ranges s
  | .handback who received => Sys2Proof.Machine.execHandback who received s
  | .stackRangeCheck x index => Sys2Proof.Machine.execStackRangeCheck x index s
  | .electionCommandTimeout => Sys2Proof.Machine.execElectionCommandTimeout s
  | .setEndpointId bus eid => Sys2Proof.Machine.execSetEndpointId bus eid s
  | .getEndpointId bus => Sys2Proof.Machine.execGetEndpointId bus s
  | .getMctpVersion bus => Sys2Proof.Machine.execGetMctpVersion bus s
  | .getMessageTypeSupport bus => Sys2Proof.Machine.execGetMessageTypeSupport bus s
  | .i3cAddressAssign bus setdasa => Sys2Proof.Machine.execI3cAddressAssign bus setdasa s
  | .i3cRstdaa bus => Sys2Proof.Machine.execI3cRstdaa bus s
  | .i3cBusErrorTimeout bus => Sys2Proof.Machine.execI3cBusErrorTimeout bus s
  | .evtRead bus first count => Sys2Proof.Machine.execEvtRead bus first count s
  | .platformEventAck => Sys2Proof.Machine.execPlatformEventAck s
  | .glbLockSet bmc => Sys2Proof.Machine.execGlbLockSet bmc s
  | .autoLock => Sys2Proof.Machine.execAutoLock s
  | .counterReadClear bmc off bytes => Sys2Proof.Machine.execCounterReadClear bmc off bytes s
  | .unlistedAccess bmc write off wide => Sys2Proof.Machine.execUnlistedAccess bmc write off wide s
  | .registerWrite who off bytes v env => Sys2Proof.Machine.execRegisterWrite who off bytes v env s
  | .commandSlot ch sub deny => Sys2Proof.Machine.execCommandSlot ch sub deny s
  | .linkL1Entry port link l12 => Sys2Proof.Machine.execLinkL1Entry port link l12 s
  | .ethLinkUp eth => Sys2Proof.Machine.execEthLinkUp eth s
  | .ethLinkDown eth => Sys2Proof.Machine.execEthLinkDown eth s
  | .vddIoLost => Sys2Proof.Machine.execVddIoLost s
  | .vddIoReturn => Sys2Proof.Machine.execVddIoReturn s
  | .pwrFailNRise => Sys2Proof.Machine.execPwrFailNRise s
  | .sysRstNRelease => Sys2Proof.Machine.execSysRstNRelease s
  | .perstRelease port => Sys2Proof.Machine.execPerstRelease port s
  | .crystalStart => Sys2Proof.Machine.execCrystalStart s
  | .twinReadTimeout line => Sys2Proof.Machine.execTwinReadTimeout line s
  | .writeThroughStart page => Sys2Proof.Machine.execWriteThroughStart page s
  | .previousEpochExpiry => Sys2Proof.Machine.execPreviousEpochExpiry s

end Sys2Proof.Machine
end

