-- ==== Sys2Proof/Machine/Idle.lean ====
section
/-!
DEFINITION. What the block does when no command waits.
-/
namespace Sys2Proof.Machine

/-- With an empty queue the block goes on by itself (DESIGN CHOICE, log entry 26): while the control complex runs, it serves the oldest
request that a gap has held back (R377); otherwise 1 ns passes. -/
def State.idle (s : State) : Host.Outcome State Fault Refusal :=
  match s.buffered with
  | (_, c) :: rest =>
    if s.ccRuns then
      match exec c { s with buffered := [] } with
      | .next t => .next { t with buffered := rest ++ t.buffered }
      | o => o
    else .next { s with timeNs := s.timeNs + 1 }
  | [] => .next { s with timeNs := s.timeNs + 1 }

end Sys2Proof.Machine
end

