-- ==== Sys2Proof/Safety.lean ====
section
/-!
DEFINITION. What counts as a safe step, what the tables of the state keep, and the conditions under which a command has its own
effect, in the terms the statements use.
-/
namespace Sys2Proof.Safety

open Machine

/-- A step is safe when it answers a next state: no fault, no refusal. -/
def stepSafe (s : State) : Prop := ∃ t, step s = .next t

/-- The tier 1 memory and the register file are in canonical form: offsets and lines rise strictly, and nothing is listed that reads as an
unlisted entry does. -/
def tablesOk (s : State) : Bool := Sparse.wf regDefault s.regs && Sparse.wf zeroLine s.tier.dram

/-- The event log holds at most 8,192 records, each in a slot of its own (R414). -/
def logOk (s : State) : Bool :=
  decide (s.evt.recs.length ≤ 8192) && (s.evt.recs.all fun r => decide (r.slot < 8192)) && decide (s.evt.recs.map LogRec.slot).Nodup

/-- A new record of severity `sev` may overwrite the record (R418): its severity is equal or lower, and a CRITICAL record is acknowledged. -/
def replaceable (x : LogRec) (sev : Sev) : Prop := x.sev.code ≤ sev.code ∧ (x.sev = .critical → x.acked = true)

/-- The sequence numbers of the log lie within half the number range, so that serial arithmetic orders them (R414). -/
def seqsOrdered (s : State) : Prop := ∃ b : BitVec 32, ∀ x ∈ s.evt.recs, (x.seq - b).toNat < 2 ^ 31

/-- A ring takes a descriptor that passes the checks all commands share (R314, R319, R320, R324): the ring runs, an ORDERED descriptor finds
nothing of its ring in progress, the opcode is listed, its group is granted, and the mode is not MAINTENANCE. `t` is the state in
which the command then acts. -/
def descRuns (s : State) (d : Desc) (group : Nat) (t : State) : Prop :=
  s.ringTakes d.ring.val = true ∧ (d.ordered && s.ringBusy d.ring.val) = false ∧ opcodes.contains d.opcode.toNat = true ∧
  t = (s.dequeue d).activity ∧ Nat.testBit (t.fld RING_GROUPS_GROUPS d.ring.val) group = true ∧ t.mc.mode ≠ .maintenance

/-- The same for a long operation: a handle is free (R326). -/
def longRuns (s : State) (d : Desc) (group : Nat) (t : State) : Prop :=
  descRuns s d group t ∧ t.freeOpSlot.isSome = true

/-- The region a command names is live, with entry `r`, and no command in progress reserves its range (R58). -/
def regionFree (t : State) (d : Desc) (r : Region) : Prop :=
  t.shadowRegion d.rgnIdx = r ∧ r.valid = true ∧ t.reserved r.base.toNat r.size.toNat = false

/-- An RDMA packet reaches the queue pair `q` (R291, R299): the mode serves, the number is in range, the queue pair is in RTS and its port
is enabled. `t` is the state in which the packet then acts. -/
def packetRuns (s : State) (h : RdmaHdr) (q : Nat) (t : State) : Prop :=
  s.mc.mode.serving = true ∧ h.qpn.toNat = q + 0x400 ∧ q < 8192 ∧ (s.qp q).st = .rts ∧
  (s.fld RDMA_CTL_PORT_EN).testBit (s.qp q).port = true ∧ t = s.activity.congested q h.ce

/-- The packet is a request with the sequence number the queue pair expects, and `n` packets answer it: `u` is the state with the next
number expected (R296). -/
def requestRuns (s : State) (h : RdmaHdr) (q n : Nat) (u : State) : Prop :=
  ∃ t, packetRuns s h q t ∧ h.psn.toNat = (t.qp q).rqPsn ∧ u = t.setQp q ((t.qp q).setRq (h.psn.toNat + n))

/-- A packet of the twin link is taken (R27, R234, R236): the link takes packets, its path is valid, its tag passes, its EPOCH is in use and
its header is good. `t` is the state in which it then acts. -/
def bttTaken (s : State) (h : BttHdr) (t : State) : Prop :=
  s.bttOpen = true ∧ s.flag BTT_PATH_CFG_VALID h.path.val = true ∧ h.tagOk = true ∧ s.epochStale h.epoch = false ∧ h.hdrOk = true ∧
  t = s.rxNoted h

/-- The packet's message is new and inside the window of its stream (R242). -/
def bttNew (s : State) (h : BttHdr) (st : Nat) (u : State) : Prop :=
  ∃ t, bttTaken s h t ∧ u = t.activity ∧ u.rxDup st h.seq.toNat = false ∧ h.seq.toNat < u.rxBase st + 65536

/-- The packet completes a new CTRL message (R240, R242): `v` is the state in which the message takes effect, before its ACK. -/
def ctrlTaken (s : State) (h : BttHdr) (v : State) : Prop :=
  ∃ u, bttNew s h 12 u ∧ v = (u.rxComplete 12 h.seq.toNat).returnUnit h.path.val 3 1

/-- The management endpoint answers at once: its bus reaches the controller, the control complex runs and no request waits in a buffer
(R377, R480, R481). -/
def managed (s : State) : Prop := s.bmcBar = true ∧ s.ccRuns = true ∧ s.buffered = []

/-- The mailbox of logical device `ld` of port `p` executes a command of `set` at once (R266, R268, R377). -/
def mailboxRuns (s : State) (p : PortId) (ld : Fin 20) (set : MboxSet) : Prop :=
  s.hasMailbox p.val ld.val = true ∧ s.ccRuns = true ∧ s.buffered = [] ∧ s.mc.mode.permits set = true

end Sys2Proof.Safety
end

