-- ==== Sys2Proof/WellFormed.lean ====
section
/-!
DEFINITION. Which terms are commands that a sender can send: a descriptor that carries its row's opcode and form (R320, R324), an access
of a width a bus has (R527), lists of the length the spec gives them.
-/
namespace Sys2Proof

open Machine

/-- What a row's descriptor must hold (R324): its opcode, and for rows that share one the bits that choose the form, as operand word,
lowest bit, width and value. `unlisted`: the row also takes the opcodes that R324 does not list (R323). -/
structure DescForm where
  opcode : Nat
  unlisted : Bool
  form   : Option (Nat × Nat × Nat × Nat)
  deriving DecidableEq, Repr

/-- A form without further bits. -/
def plainForm (opcode : Nat) : DescForm := ⟨opcode, false, none⟩

/-- A form that bits of an operand word choose. -/
def formBits (opcode word low width value : Nat) : DescForm := ⟨opcode, false, some (word, low, width, value)⟩

/-- The descriptor of a row that has one, with what it must hold. -/
def Instr.desc? : Instr → Option (Desc × DescForm)
  | .nop d => some (d, ⟨0x01, true, none⟩)
  | .fencePersist d => some (d, plainForm 0x02)
  | .fenceMirror d => some (d, plainForm 0x03)
  | .fenceTier d => some (d, plainForm 0x04)
  | .regionCreate d => some (d, plainForm 0x10)
  | .regionDestroy d => some (d, plainForm 0x11)
  | .regionModifyMirror d => some (d, formBits 0x12 3 0 5 1)
  | .regionModifyPersist d => some (d, formBits 0x12 3 0 5 2)
  | .regionModifySize d => some (d, formBits 0x12 3 0 5 4)
  | .regionModifyRelease d => some (d, formBits 0x12 3 0 5 8)
  | .regionModifyClearDamaged d => some (d, formBits 0x12 3 0 5 16)
  | .regionBind d => some (d, plainForm 0x13)
  | .copyLocal d => some (d, formBits 0x20 2 0 2 0)
  | .copyRemoteWrite d => some (d, formBits 0x20 2 0 2 1)
  | .copyRemoteRead d => some (d, formBits 0x20 2 0 2 2)
  | .copyRemoteFlush d => some (d, formBits 0x20 2 0 2 3)
  | .fill d => some (d, plainForm 0x21)
  | .migrate d => some (d, plainForm 0x22)
  | .evacuateChannel d => some (d, plainForm 0x23)
  | .evacuateModule d => some (d, plainForm 0x24)
  | .planLoad d => some (d, plainForm 0x30)
  | .planStart d => some (d, plainForm 0x31)
  | .planStop d => some (d, plainForm 0x32)
  | .objectPlacePromote d => some (d, formBits 0x33 5 0 2 0)
  | .objectPlacePromotePin d => some (d, formBits 0x33 5 0 2 1)
  | .objectPlaceUnpin d => some (d, formBits 0x33 5 0 2 2)
  | .objectPlaceDemote d => some (d, formBits 0x33 5 0 2 3)
  | .opSuspend d => some (d, plainForm 0x40)
  | .opResume d => some (d, plainForm 0x41)
  | .opCancel d => some (d, plainForm 0x42)
  | .opQuery d => some (d, plainForm 0x43)
  | .keyLoad d _ => some (d, plainForm 0x50)
  | .keyLoadErase d => some (d, formBits 0x50 6 0 32 0)
  | .keyRotate d => some (d, plainForm 0x51)
  | .gateSet d => some (d, plainForm 0x60)
  | .sanitize d => some (d, plainForm 0x70)
  | .scrubRegion d => some (d, plainForm 0x71)
  | .promoteTwin d => some (d, plainForm 0x72)
  | .packRelease d => some (d, plainForm 0x73)
  | _ => none

/-- A descriptor has its form: 14 operand words after RING, OPCODE and TAG (R320). -/
def hasForm (d : Desc) (f : DescForm) : Bool :=
  (d.opcode.toNat == f.opcode || (f.unlisted && ! opcodes.contains d.opcode.toNat)) && d.ops.length == 14 && match f.form with
    | none => true
    | some (w, low, width, v) => (d.ops.getD (w - 2) 0).toNat / 2 ^ low % 2 ^ width == v

/-- A width of an access to BAR0 (R527). -/
def accessWidth (n : Nat) : Bool := n == 1 || n == 2 || n == 4 || n == 8

/-- A command that can be sent. -/
def Instr.wf (i : Instr) : Bool :=
  match i.desc? with
  | some (d, f) => hasForm d f
  | none => match i with
    | .counterReadClear _ _ n => accessWidth n.val
    | .registerWrite _ _ n _ _ => accessWidth n.val
    | .descriptorFetch _ ds _ => ds.all fun ws => ws.length == 16
    | .initialTrainingDone _ _ _ _ t | .readmit _ _ _ _ t _ => t.length == 14
    | _ => true

/-- A command is well-formed. -/
abbrev WellFormed (i : Instr) : Prop := i.wf = true

end Sys2Proof
end

