-- ==== Sys2Proof/Certificates/Slice0/Obligations.lean ====
section
/-!
DEFINITION. The statements for the provers.
-/
open Sys2Proof Sys2Proof.Machine Sys2Proof.Safety

/-- A step takes the command at the front of the queue and runs it on the state with the rest of the queue. -/
def Obligations.StepRunsFront : Prop :=
  ∀ (c : Instr) (rest : List Instr) (s : State), step { s with pending := c :: rest } = exec c { s with pending := rest }

/-- The doorbells and the push window of a ring (R315, R317, R318, R330, R335). -/
def Obligations.RingDoorbellsAndPushes : Prop :=
  (∀ (r : Fin 256) (v : BitVec 16) (s : State), s.mc.mode ≠ .quiescent →
    circOk (s.sqSize r.val) (s.ringAt r.val).sqTail (s.ringAt r.val).head v.toNat = true →
    exec (.ringSqDb r v) s = .next (s.setRing r.val { s.ringAt r.val with sqTail := v.toNat })) ∧
  (∀ (r : Fin 256) (v : BitVec 16) (s : State), v.toNat < s.cqSize r.val →
    (v.toNat + s.cqSize r.val - (s.ringAt r.val).cqHead) % s.cqSize r.val ≤
      ((s.ringAt r.val).cqTail + s.cqSize r.val - (s.ringAt r.val).cqHead) % s.cqSize r.val →
    exec (.ringCqDb r v) s = .next (s.setRing r.val { s.ringAt r.val with cqHead := v.toNat })) ∧
  (∀ (r : Fin 256) (w : Word) (s : State), s.flag RING_CTL_PUSH_EN r.val = true → (s.ringAt r.val).openItem = none →
    exec (.ringPush r w) s = .next (s.setRing r.val { s.ringAt r.val with openItem := some [w], torn := false })) ∧
  (∀ (r : Fin 256) (w : Word) (ws : List Word) (s : State), s.flag RING_CTL_PUSH_EN r.val = true →
    (s.ringAt r.val).openItem = some ws → ws.length < 15 →
    exec (.ringPushContinue r w) s = .next (s.setRing r.val { s.ringAt r.val with openItem := some (ws ++ [w]) })) ∧
  (∀ (r : Fin 256) (w : Word) (ws : List Word) (s : State), s.flag RING_CTL_PUSH_EN r.val = true →
    (s.ringAt r.val).openItem = some ws → (s.ringAt r.val).pushedCnt < 4096 → (s.ringAt r.val).queue.length < 64 →
    exec (.ringPushCommit r w) s = .next ((s.setRing r.val { s.ringAt r.val with
      openItem := none
      queue := (s.ringAt r.val).queue ++ [⟨descOf r (ws ++ [w]), true⟩]
      pushedCnt := (s.ringAt r.val).pushedCnt + 1 }).spillPushed (0x10000 + r.val))) ∧
  (∀ (r : Fin 256) (s : State), s.fld RING_COAL_COAL_CNT r.val ≠ 0 → (s.ringAt r.val).sinceIrq ≠ 0 →
    exec (.coalTimer r) s = .next ((s.setRing r.val { s.ringAt r.val with sinceIrq := 0 }).emit (.msix r.val (s.fld RING_CFG_VECTOR r.val))))

/-- A ring is enabled, fetches, writes its completion records, is flushed and disabled (R313 to R316, R319). -/
def Obligations.RingLife : Prop :=
  (∀ (r : Fin 256) (who : Writer) (s : State), s.flag RING_CTL_ENABLE r.val = false →
    (s.regAt .RING_SQ_BASE r.val 0 0).toNat % 4096 = 0 → (s.regAt .RING_CQ_BASE r.val 0 0).toNat % 4096 = 0 →
    6 ≤ s.fld RING_CFG_SQ_LOG2 r.val → s.fld RING_CFG_SQ_LOG2 r.val ≤ 16 → 6 ≤ s.fld RING_CFG_CQ_LOG2 r.val →
    s.fld RING_CFG_CQ_LOG2 r.val ≤ 16 →
    exec (.ringEnable r who) s = .next ((s.setRing r.val { s.ringAt r.val with
      sqTail := 0, head := 0, cqHead := 0, cqTail := 0, phase := true, halted := false, fetched := 0, sinceIrq := 0
      queue := (s.ringAt r.val).queue.filter fun q => q.pushed }).setFld RING_CTL_ENABLE 1 r.val)) ∧
  (∀ (r : Fin 256) (s : State), exec (.ringDisable r) s = .next (s.setFld RING_CTL_ENABLE 0 r.val)) ∧
  (∀ (r : Fin 256) (descs : List (List Word)) (s : State), s.flag RING_CTL_ENABLE r.val = true →
    (s.ringAt r.val).halted = false → (s.ringAt r.val).fetched + descs.length ≤ 32 →
    descs.length + (s.ringAt r.val).fetched ≤
      ((s.ringAt r.val).sqTail + s.sqSize r.val - (s.ringAt r.val).head) % s.sqSize r.val →
    exec (.descriptorFetch r descs false) s = .next (s.setRing r.val { s.ringAt r.val with
      queue := (s.ringAt r.val).queue ++ descs.map fun ws => ⟨descOf r ws, false⟩
      fetched := (s.ringAt r.val).fetched + descs.length, halted := false })) ∧
  (∀ (r : Fin 256) (c : CqRec) (rest : List CqRec) (s : State), (s.ringAt r.val).recs = c :: rest → (s.ringAt r.val).halted = false →
    ((s.ringAt r.val).cqTail + 1) % s.cqSize r.val ≠ (s.ringAt r.val).cqHead → c.irq = false → s.fld RING_COAL_COAL_CNT r.val = 0 →
    exec (.cqRecordWrite r false) s = .next ((s.setRing r.val { s.ringAt r.val with
      recs := rest, cqTail := ((s.ringAt r.val).cqTail + 1) % s.cqSize r.val
      phase := if ((s.ringAt r.val).cqTail + 1) % s.cqSize r.val = 0 then !(s.ringAt r.val).phase else (s.ringAt r.val).phase
      sinceIrq := (s.ringAt r.val).sinceIrq + 1 }).emit
        (.cqRecord r.val (s.ringAt r.val).cqTail c.tag.toNat c.word1 (c.param % 2 ^ 32)
          (c.head % 2 ^ 16 + if (s.ringAt r.val).phase then 2 ^ 31 else 0)))) ∧
  (∀ (r : Fin 256) (s : State), (s.ringAt r.val).openItem = none → (s.ringAt r.val).queue = [] →
    exec (.ringFlush r []) s = .next ((s.setRing r.val { s.ringAt r.val with
      queue := [], fetched := 0, pushedCnt := 0, head := (s.ringAt r.val).sqTail, openItem := none, torn := true }).log
        0xA003 .info srcRings r.val 0 0))

/-- The commands of group 0 on long operations (R320, R321, R326, R327). -/
def Obligations.LongOperationCommands : Prop :=
  (∀ (d : Desc) (s t : State), descRuns s d 0 t → exec (.nop d) s = .next (t.complete d.src .ok)) ∧
  (∀ (d : Desc) (o : LongOp) (s t : State), descRuns s d 0 t → t.opOf (d.word 2).toNat = some o → o.st = .running →
    o.kind.suspendable = true → t.opStarted o = false →
    exec (.opSuspend d) s = .next (t.setOp { o with suspendBy := o.suspendBy ++ [d.src] })) ∧
  (∀ (d : Desc) (o : LongOp) (s t : State), descRuns s d 0 t → t.opOf (d.word 2).toNat = some o → o.st = .suspended →
    exec (.opResume d) s = .next ((t.setOp { o with st := .running }).complete d.src .ok)) ∧
  (∀ (d : Desc) (o : LongOp) (s t : State), descRuns s d 0 t → t.opOf (d.word 2).toNat = some o → d.bits 3 0 0 = 0 →
    exec (.opQuery d) s = .next (t.complete d.src .ok (o.st.code + o.pct * 8))) ∧
  (∀ (d : Desc) (o : LongOp) (s t : State), descRuns s d 0 t → t.opOf (d.word 2).toNat = some o → o.st = .running →
    o.kind.cancellable = true → t.opStarted o = false → (∀ id, o.kind ≠ .fenceMirror id) → (∀ id, o.kind ≠ .fenceTier id) →
    (∀ p, o.kind ≠ .packRelease p) →
    exec (.opCancel d) s = .next (t.setOp { o with st := .cancelling, cancelBy := o.cancelBy ++ [d.src] })) ∧
  (∀ (slot : Fin 1024) (a n : Nat) (w : Word) (errs : List (Nat × List (Fin 40))) (bad : List Nat) (o : LongOp) (s : State),
    s.opAt slot.val = some o → o.kind = .fill a n w → o.slot = slot.val → o.st = .running → o.suspendBy = [] → o.param = n → o.done = n →
    s.opsRun o.kind = true → exec (.longOpStep slot errs bad) s = .next (s.endOp o .ok n)) ∧
  (∀ (s : State), exec (.sqPointerMismatch 6 0) s = .next ((s.bump SQ_REBUILD_CNT_COUNT).log 0xA005 .notice srcSpill 0x60000))

/-- Long operations that the engines run, each started with a handle (R321, R322, R324, R326). -/
def Obligations.CopyFillAndMigrate : Prop :=
  (∀ (d : Desc) (i j : Nat) (r q : Region) (s t : State), longRuns s d 1 t → lengthOk (d.word 3).toNat = true →
    d.dpa 4 % 64 = 0 → d.dpa 6 % 64 = 0 → overlap (d.dpa 4) (d.word 3).toNat (d.dpa 6) (d.word 3).toNat = false →
    t.regionOfRange (d.dpa 4) (d.word 3).toNat = some (i, r) → t.keysLoaded i r = true →
    t.regionOfRange (d.dpa 6) (d.word 3).toNat = some (j, q) → t.keysLoaded j q = true →
    exec (.copyLocal d) s = .next (t.startOp (.copyLocal (d.dpa 4 / 64) (d.dpa 6 / 64) ((d.word 3).toNat / 64)) d.src
      (some ((d.word 3).toNat / 64)))) ∧
  (∀ (d : Desc) (i : Nat) (r : Region) (s t : State), longRuns s d 1 t → lengthOk (d.word 4).toNat = true → d.dpa 2 % 64 = 0 →
    t.regionOfRange (d.dpa 2) (d.word 4).toNat = some (i, r) → t.keysLoaded i r = true →
    exec (.fill d) s = .next (t.startOp (.fill (d.dpa 2 / 64) ((d.word 4).toNat / 64) (d.word 5)) d.src
      (some ((d.word 4).toNat / 64)))) ∧
  (∀ (d : Desc) (i : Nat) (r : Region) (s t : State), longRuns s d 1 t → lengthOk (d.word 3).toNat = true →
    (t.qp (d.bits 2 28 16)).isReq = true → (t.qp (d.bits 2 28 16)).st = .rts → t.itemsFull (d.bits 2 28 16) = false → d.dpa 4 % 64 = 0 →
    t.regionOfRange (d.dpa 4) (d.word 3).toNat = some (i, r) → t.keysLoaded i r = true →
    exec (.copyRemoteWrite d) s = .next ((t.startOp (.copyRemote (d.bits 2 28 16) t.nextOpSlot) d.src
      (some ((d.word 3).toNat / 64))).postItem (d.bits 2 28 16)
        ⟨.write, t.nextOpSlot, d.dpa 4, (d.word 3).toNat, (d.word 6).toNat + (d.word 7).toNat * 2 ^ 32, (d.word 8).toNat,
          d.bits 2 2 2 == 1, 0, 0, none, false, 0, 1, d.src⟩) ∧
    exec (.copyRemoteRead d) s = .next ((t.startOp (.copyRemote (d.bits 2 28 16) t.nextOpSlot) d.src
      (some ((d.word 3).toNat / 64))).postItem (d.bits 2 28 16)
        ⟨.read, t.nextOpSlot, d.dpa 4, (d.word 3).toNat, (d.word 6).toNat + (d.word 7).toNat * 2 ^ 32, (d.word 8).toNat,
          d.bits 2 2 2 == 1, 0, 0, none, false, 0, (d.word 3).toNat / 64, d.src⟩)) ∧
  (∀ (d : Desc) (s t : State), longRuns s d 1 t → lengthOk (d.word 3).toNat = true →
    (t.qp (d.bits 2 28 16)).isReq = true → (t.qp (d.bits 2 28 16)).st = .rts → t.itemsFull (d.bits 2 28 16) = false →
    exec (.copyRemoteFlush d) s = .next ((t.startOp (.copyRemote (d.bits 2 28 16) t.nextOpSlot) d.src
      (some ((d.word 3).toNat / 64))).postItem (d.bits 2 28 16)
        ⟨.flush, t.nextOpSlot, d.dpa 4, (d.word 3).toNat, (d.word 6).toNat + (d.word 7).toNat * 2 ^ 32, (d.word 8).toNat,
          d.bits 2 2 2 == 1, 0, 0, none, false, 0, 1, d.src⟩)) ∧
  (∀ (d : Desc) (f : Nat) (r : Region) (s t : State), longRuns s d 2 t → t.shadowRegion d.rgnIdx = r → r.valid = true →
    t.reserved r.base.toNat r.size.toNat = false → d.bits 3 1 0 = 0 → r.cls = .cached →
    t.placeValid .resident (d.bits 3 7 4) = true → t.planHolds d.rgnIdx = false →
    t.lowestRun (d.bits 3 7 4) (r.size.toNat * 512) = some f →
    exec (.migrate d) s = .next (t.startOp (.migrate d.rgnIdx .resident (d.bits 3 7 4) f) d.src (some (r.bytes / 64)))) ∧
  (∀ (d : Desc) (s t : State), s.ringTakes d.ring.val = true → (d.ordered && s.ringBusy d.ring.val) = false →
    opcodes.contains d.opcode.toNat = true → t = (s.dequeue d).activity → Nat.testBit (t.fld RING_GROUPS_GROUPS d.ring.val) 5 = true →
    s.mc.mode = .maintenance → t.mc.mode = .maintenance → t.freeOpSlot.isSome = true → t.rings.ops = [] →
    exec (.sanitize d) s = .next (t.startOp (.sanitize (d.bits 2 0 0 == 1)) d.src (some (t.nand.map.length + 1)))) ∧
  (∀ (d : Desc) (i : Nat) (s t : State), longRuns s d 5 t → d.selector = some i → (t.region i).valid = true →
    exec (.scrubRegion d) s = .next (t.startOp (.scrub i false (d.bits 3 0 0 == 1)) d.src (some (t.region i).size.toNat)))

/-- The fences and the flush of a host (R92, R247, R278). -/
def Obligations.FencesWaitAndEnd : Prop :=
  (∀ (d : Desc) (s t : State), descRuns s d 1 t → t.selects d.selector = true → t.per.guard ≠ .unarmed →
    exec (.fencePersist d) s = .next { t with per := { t.per with
      fences := t.per.fences ++ [⟨t.nextFence, .persist, d.selector, [], [], [], d.src⟩] } }) ∧
  (∀ (d : Desc) (s t : State), descRuns s d 1 t → t.selects d.selector = true → t.per.guard = .unarmed →
    exec (.fencePersist d) s = .next { t with per := { t.per with
      fences := t.per.fences ++ [⟨t.nextFence, .persist, d.selector,
        ((t.tier.pages.filter fun e => e.2.counted).map Prod.fst).filter (t.selectedPage d.selector), [],
        ((t.per.wts.filter WriteThrough.twinDone).map WriteThrough.page).filter (t.selectedPage d.selector), d.src⟩] } }) ∧
  (∀ (id : Nat) (f : Fence) (s : State), s.fenceAt id .persist = some f → f.pages = [] → f.lines = [] → f.writes = [] →
    exec (.fencePersistDone id) s = .next ((s.dropFence id).complete f.src .ok)) ∧
  (∀ (d : Desc) (s t : State), longRuns s d 1 t → t.selects d.selector = true → t.twinUp = true →
    exec (.fenceMirror d) s = .next ((t.startOp (.fenceMirror t.nextFence) d.src none).startMirrorFence d.selector d.src)) ∧
  (∀ (d : Desc) (s t : State), longRuns s d 1 t → t.selects d.selector = true → t.twinUp = false →
    exec (.fenceMirror d) s = .next (t.complete d.src .partnerAbsent)) ∧
  (∀ (id : Nat) (f : Fence) (o : LongOp) (s : State), s.fenceAt id .mirror = some f → f.pages = [] → f.lines = [] → f.writes = [] →
    (s.twin.demotes.find? fun e => e.1 == id) = none →
    (s.rings.ops.find? fun o => o.kind == .fenceMirror id && o.st == .running) = some o →
    exec (.fenceMirrorDone id) s = .next ((s.dropFence id).endOp o .ok 0)) ∧
  (∀ (d : Desc) (o : LongOp) (ps : List Nat) (s t u : State), longRuns s d 1 t → t.selects d.selector = true →
    ps = ((t.tier.pages.filter fun e => e.2.counted).map Prod.fst).filter (t.selectedPage d.selector) →
    u = (t.startOp (.fenceTier t.nextFence) d.src none).addFence ⟨t.nextFence, .tier, d.selector, ps, [], [], d.src⟩ →
    u.opAt t.nextOpSlot = some o → exec (.fenceTier d) s = .next (u.setOp { o with param := ps.length })) ∧
  (∀ (id : Nat) (f : Fence) (o : LongOp) (s : State), s.fenceAt id .tier = some f → f.pages = [] → f.lines = [] → f.writes = [] →
    (s.rings.ops.find? fun o => o.kind == .fenceTier id && o.st == .running) = some o →
    exec (.fenceTierDone id) s = .next ((s.dropFence id).endOp o .ok o.param)) ∧
  (∀ (p : PortId) (l : LinkId) (s : State), (s.linkAt p.val l.val).up = true → 2 ≤ (s.linkAt p.val l.val).ver →
    exec (.gpfPhase1 p l) s = .next (s.emit (.gpfDone p.val l.val 1))) ∧
  (∀ (p : PortId) (l : LinkId) (s : State), (s.linkAt p.val l.val).up = true → 2 ≤ (s.linkAt p.val l.val).ver → s.per.guard = .unarmed →
    exec (.gpfPhase2 p l) s = .next { s with per := { s.per with
      gpf := s.per.gpf ++ [(p.val, l.val, s.persistFence .gpf 0 none .internal)] } }) ∧
  (∀ (p : PortId) (l : LinkId) (f : Fence) (a b : Nat) (s : State),
    (s.per.gpf.find? fun e => e.1 == p.val && e.2.1 == l.val) = some (a, b, f) → f.pages = [] → f.lines = [] → f.writes = [] →
    exec (.gpfPhase2Done p l) s = .next (({ s with per := { s.per with
      gpf := s.per.gpf.filter fun e => ! (e.1 == p.val && e.2.1 == l.val) } }).emit (.gpfDone p.val l.val 2)))

/-- The region commands start, each with the entry its commit is to write (R58 to R61, R65, R324, R470). -/
def Obligations.RegionCommandsStart : Prop :=
  (∀ (d : Desc) (i fb : Nat) (m : Mirror) (s t : State), descRuns s d 2 t → t.mc.mode ≠ .drain → mirrorOf (d.bits 2 7 6) = some m →
    d.bits 2 4 3 = 0 → attrsOk .resident (d.bits 2 5 5 = 1) m = true → d.bits 4 26 0 ≠ 0 →
    d.bits 3 26 0 + d.bits 4 26 0 ≤ t.rgn.limitGib.toNat * 512 → t.flag RGN_POOL_CFG_VALID (d.bits 5 23 20) = true →
    t.overlapsRegion (d.bits 3 26 0) (d.bits 4 26 0) none = false → t.reserved (d.bits 3 26 0) (d.bits 4 26 0) = false →
    t.electing = false → ((List.range 4096).find? fun i => ! (t.shadowRegion i).valid) = some i →
    t.lowestRun (d.bits 5 23 20) (d.bits 4 26 0 * 512) = some fb → t.keyLoaded (d.bits 5 11 0) = true → t.inStack = false →
    exec (.regionCreate d) s = .next (t.startRgnOp .create i (d.bits 3 26 0) (d.bits 4 26 0) ⟨[(i, { t.shadowRegion i with
      valid := true, damaged := false, released := false, cls := .resident, persist := d.bits 2 5 5 = 1, mirror := m
      shared := d.bits 2 8 8 = 1, refilling := false, base := BitVec.ofNat 27 (d.bits 3 26 0)
      size := BitVec.ofNat 27 (d.bits 4 26 0), key := BitVec.ofNat 12 (d.bits 5 11 0), ownerSet := 0
      place := BitVec.ofNat 4 (d.bits 5 23 20), frameBase := BitVec.ofNat 31 fb })], [], []⟩ d.src i)) ∧
  (∀ (d : Desc) (r : Region) (s t : State), descRuns s d 2 t → regionFree t d r → t.planHolds d.rgnIdx = false →
    exec (.regionDestroy d) s = .next ((t.cancelRegionOps d.rgnIdx).startRgnOp .destroy d.rgnIdx r.base.toNat r.size.toNat
      ⟨[(d.rgnIdx, { Region.empty with gen := r.gen })], [], []⟩ d.src 0)) ∧
  (∀ (d : Desc) (r : Region) (m : Mirror) (s t : State), descRuns s d 2 t → regionFree t d r → d.changeBit 0 = true →
    mirrorOf (d.bits 4 1 0) = some m → r.persist = true → m ≠ r.mirror →
    exec (.regionModifyMirror d) s = .next (t.startRgnOp .modify d.rgnIdx r.base.toNat r.size.toNat
      ⟨[(d.rgnIdx, { r with mirror := m })], [], []⟩ d.src 0)) ∧
  (∀ (d : Desc) (r : Region) (s t : State), descRuns s d 2 t → regionFree t d r → d.changeBit 1 = true → d.bits 4 2 2 = 0 →
    r.persist = true → r.mirror = .none →
    exec (.regionModifyPersist d) s = .next (t.startRgnOp .modify d.rgnIdx r.base.toNat r.size.toNat
      ⟨[(d.rgnIdx, { r with persist := false })], [], []⟩ d.src 0)) ∧
  (∀ (d : Desc) (r : Region) (s t : State), longRuns s d 2 t → regionFree t d r → d.changeBit 1 = true → d.bits 4 2 2 = 1 →
    r.persist = false → r.cls ≠ .scratch → s.shadowRegion d.rgnIdx = r →
    exec (.regionModifyPersist d) s = .next (t.startOp (.persistSet d.rgnIdx) d.src (some (t.dirtyPagesOf r)))) ∧
  (∀ (d : Desc) (r : Region) (s t : State), descRuns s d 2 t → regionFree t d r → d.changeBit 2 = true → d.bits 5 26 0 ≠ 0 →
    d.bits 5 26 0 < r.size.toNat →
    exec (.regionModifySize d) s = .next (t.startRgnOp .modify d.rgnIdx r.base.toNat r.size.toNat
      ⟨[(d.rgnIdx, { r with size := BitVec.ofNat 27 (d.bits 5 26 0) })], [], []⟩ d.src 0)) ∧
  (∀ (d : Desc) (r : Region) (s t : State), descRuns s d 2 t → regionFree t d r → d.changeBit 3 = true → r.cls = .scratch →
    exec (.regionModifyRelease d) s = .next (t.startRgnOp .modify d.rgnIdx r.base.toNat r.size.toNat
      ⟨[(d.rgnIdx, { r with released := true })], [], []⟩ d.src 0)) ∧
  (∀ (d : Desc) (r : Region) (s t : State), descRuns s d 2 t → regionFree t d r → d.changeBit 4 = true → r.damaged = true →
    exec (.regionModifyClearDamaged d) s = .next (t.startRgnOp .modify d.rgnIdx r.base.toNat r.size.toNat
      ⟨[(d.rgnIdx, { r with damaged := false })], [], []⟩ d.src 0)) ∧
  (∀ (d : Desc) (r : Region) (k : Nat) (s t : State), descRuns s d 2 t → regionFree t d r → t.isCopy d.rgnIdx = false →
    ownerCount d.ownerBits ≤ 1 → setIndex t.shadowSets d.ownerBits = some k → k ≠ 0 →
    exec (.regionBind d) s = .next (t.startRgnOp .bind d.rgnIdx r.base.toNat r.size.toNat
      ⟨[(d.rgnIdx, { r with ownerSet := BitVec.ofNat 8 k, shared := d.bits 3 0 0 = 1 })], [(k, d.ownerBits)], []⟩ d.src k))

/-- A commit switches the tables at once and drains the old epoch, its tables become durable, and decoders, pools and partitions are
set up (R58, R63 to R66, R69, R113). -/
def Obligations.RegionCommitsAndDecoders : Prop :=
  (∀ (o : RgnOp) (s : State), s.rgn.draining = false → (s.rgn.ops.find? fun o => o.stage == .waitCommit) = some o → o.kind ≠ .destroy →
    exec .rgnCommit s = .next (({ s with rgn := { s.rgn with
      ops := s.rgn.ops.map fun (x : RgnOp) => if x = o then { x with stage := .waitDurable } else x } }).commitEdge o.commit)) ∧
  (∀ (s : State), s.rgn.draining = true → s.oldInFlight = false → s.rgn.waiting = [] → (∀ o ∈ s.rgn.ops, o.stage ≠ .waitDrain) →
    exec .epochDrainDone s = .next { s with rgn := { s.rgn with draining := false } }) ∧
  (∀ (c : Commit) (cs : List Commit) (s : State), s.rgn.draining = true → s.oldInFlight = false → s.rgn.waiting = c :: cs →
    (∀ o ∈ s.rgn.ops, o.stage ≠ .waitDrain) →
    exec .epochDrainDone s = .next (({ s with rgn := { s.rgn with draining := false, waiting := cs } }).commitEdge c)) ∧
  (∀ (s : State), exec .metadataDurable s = .next ((s.rgn.ops.filter fun o => o.stage == .waitDurable).foldl
    (fun s o => s.complete o.src .ok o.param) { s with rgn := { s.rgn with
      ops := s.rgn.ops.filter fun o => o.stage != .waitDurable
      durTable := s.rgn.table, durSets := s.rgn.sets, undurable := 0 } })) ∧
  (∀ (p : PortId) (ld : Fin 16) (base size : BitVec 52) (ways ig : Nat) (skip : BitVec 48) (lock : Bool) (s : State),
    ((s.hdmAt p.val ld.val 0).committed && (s.hdmAt p.val ld.val 0).locked) = false → waysPow2 ways = true → 8 ≤ ig → ig ≤ 14 →
    size.toNat % (2 ^ 28 * ways) = 0 → skip.toNat % 2 ^ 28 = 0 →
    exec (.hdmDecoderCommit p ld 0 base size ways ig skip lock) s = .next { s with rgn := { s.rgn with
      hdm := Sparse.set (fun _ => Hdm.empty) s.rgn.hdm ((16 * p.val + ld.val) * 4) ⟨base, size, ways, ig, skip, true, false, lock⟩ } }) ∧
  (∀ (p : Fin 16) (w : Word) (who : Writer) (s : State), w &&& 0x3FF#32 ||| 1#32 ≠ s.regAt .RGN_POOL_CFG p.val 0 0 &&& 0x3FF#32 →
    s.poolRefs p.val = 0 → s.poolCheck p.val (w &&& 0x3FF#32 ||| 1#32) (s.regAt .RGN_POOL_BAND p.val 0 0) = none →
    exec (.poolValidSet p w who) s = .next (s.setRegAt .RGN_POOL_CFG p.val 0 0 (w &&& 0x3FF#32 ||| 1#32))) ∧
  (∀ (q : Fin 16) (w : Word) (who : Writer) (s : State), s.partUsed q.val = false →
    s.partCheck q.val (w &&& 0x3FFFF#32 ||| 1#32) = none →
    exec (.partitionValidSet q w who) s = .next (s.setRegAt .TIER_PART_CFG q.val 0 0 (w &&& 0x3FFFF#32 ||| 1#32)))

/-- Mode requests of the host (R539, R31, R42), taken while the BMC bus plays no part, and the changes BOOT, RESTORE, DRAIN and sleep make. -/
def Obligations.ModeRequestsAndChanges : Prop :=
  (∀ (s : State), s.mc.mode = .service →
    exec (.modeReqDrain .host) s = .next (((s.setFld GLB_MODE_REQ_TARGET 7).enterDrain (ModeAsk.trigger .host) false).answerMode .host .ok)) ∧
  (∀ (s : State), s.mc.mode = .drain →
    exec (.modeReqDrainCancel .host) s = .next (((({ (s.setFld GLB_MODE_REQ_TARGET 4) with mc := { s.mc with
      drainMaint := false, latchedMaint := false } } : State).enterService (ModeAsk.trigger .host)).answerMode .host .ok))) ∧
  (∀ (s : State), s.mc.mode = .service →
    exec (.modeReqMaintenance .host) s = .next (((s.setFld GLB_MODE_REQ_TARGET 0xB).enterDrain (ModeAsk.trigger .host) true).answerMode .host .ok)) ∧
  (∀ (s : State), s.mc.mode = .recovery →
    exec (.modeReqMaintenance .host) s = .next (((s.setFld GLB_MODE_REQ_TARGET 0xB).setMode .maintenance (ModeAsk.trigger .host)).answerMode .host .ok)) ∧
  (∀ (s : State), s.mc.mode = .standby → s.pw.ioOk = true → s.sequencing = false → s.pw.brdPg = true → s.pw.pwrFailN = true →
    s.pw.pendingWake = none → exec (.modeReqWake .bmcReg) s = .next (s.startSequence.answerMode .bmcReg .ok)) ∧
  (∀ (n : Fin 16) (s : State), s.mc.mode = .service → 0xC ≤ n.val →
    exec (.modeReqOther n .host) s = .next (((s.setFld GLB_MODE_REQ_TARGET n.val).refuseMode n.val (ModeAsk.trigger .host) .invalid).answerMode .host .invalid)) ∧
  (∀ (s : State), s.mc.mode = .service → s.flag GLB_SLEEP_CTL_QUIESCENT_EN = true → s.quiet = true →
    exec .quiesceEnter s = .next (s.setMode .quiescent .quiesced)) ∧
  (∀ (low : Int) (s : State), s.pw.cold = some low → s.mc.mode = .boot →
    exec .coldBootTrainStart s = .next (({ s with pw := { s.pw with cold := none } }).log 0x9025 .notice srcPower
      (BitVec.ofInt 32 low).toNat ((s.timeNs - s.pw.bootAt) / 1000000) (if s.coldest < 0 then 1 else 0))) ∧
  (∀ (s : State), s.mc.mode = .restore →
    exec .restoreApplied s = .next (s.sealedImages.foldl (fun s b => s.applyImage b) s).startService) ∧
  (∀ (straps : Straps) (s : State), s.mc.mode = .drain → s.drained = true → s.mc.drainMaint = true →
    exec (.drainDone straps) s = .next (({ s with
      mc := { s.mc with drainMaint := false }
      twin := { s.twin with txDurable := (List.range 16).foldl (fun m st => Sparse.set (fun _ => 1) m st (s.txSeq st)) s.twin.txDurable }
      per := { s.per with clean := some s.evt.recs } }).ethLinksDown.setMode .maintenance .workDone)) ∧
  (∀ (straps : Straps) (s : State), s.mc.mode = .drain → s.drained = true → s.mc.drainMaint = false →
    exec (.drainDone straps) s = .next (({ s with
      mc := { s.mc with drainMaint := false }
      twin := { s.twin with txDurable := (List.range 16).foldl (fun m st => Sparse.set (fun _ => 1) m st (s.txSeq st)) s.twin.txDurable }
      per := { s.per with clean := some s.evt.recs } }).enterStandby .workDone straps)) ∧
  (∀ (fa fb : Option (Fin 7)) (ba bb clash : Fin 3) (ok : Bool) (k : Nat) (s u w v : State), s.mc.mode = .boot → s.pw.cold = none →
    u = (({ s with cc := { s.cc with roleA := .pair, roleB := .pair, roleS := .standby, gap := .none } }).restoreLog ok).admitStack clash →
    w = { u with rgn := { u.rgn with limitGib := BitVec.ofNat 18 u.dpaLimit } } → w.pw.strapRecovery = false →
    w.selectImage (fa.map Fin.val) (fb.map Fin.val) 3 = (some k, v) →
    exec (.bootChecksDone fa fb ba bb ok true true true clash) s = .next (v.endBoot ba bb)) ∧
  (∀ (fa fb : Option (Fin 7)) (ba bb clash : Fin 3) (ok : Bool) (s u w : State), s.mc.mode = .boot → s.pw.cold = none →
    u = (({ s with cc := { s.cc with roleA := .pair, roleB := .pair, roleS := .standby, gap := .none } }).restoreLog ok).admitStack clash →
    w = { u with rgn := { u.rgn with limitGib := BitVec.ofNat 18 u.dpaLimit } } → w.pw.strapRecovery = true →
    exec (.bootChecksDone fa fb ba bb ok true true true clash) s =
      .next (({ w with flash := { w.flash with execBank := 0 } }).ethLinksDown.setMode .recovery .recovery))

/-- The power sequences (R31, R44, R495 to R499, R502). -/
def Obligations.PowerSequence : Prop :=
  (∀ (straps : Straps) (s : State), s.mc.mode = .off → exec (.vddAonPowerOn straps) s = .next (s.powerOnReset straps)) ∧
  (∀ (s : State), s.mc.mode ≠ .save → exec .vddAonLost s = .next { s with
    mc := { s.mc with mode := .off }
    pw := { s.pw with aonOk := false, railEn := 0, railOk := 0, seqRail := none, seqRaised := 0, seqReady := false, pendingWake := none } }) ∧
  (∀ (s : State), s.mc.mode = .standby → s.sequencing = false → s.pw.pwrFailN = true → s.pw.pendingWake = none →
    exec (.wakeSource .boardRise) s = .next (({ s with pw := { s.pw with brdPg := true, seqRaised := 0, seqReady := false } }).raiseRail 0)) ∧
  (∀ (s : State), s.mc.mode = .standby → s.sequencing = false → s.pw.brdPg = false →
    exec (.wakeSource .mgmt) s = .next { s with pw := { s.pw with pendingWake := some (.mgmt .itself) } }) ∧
  (∀ (s : State), s.pw.pendingWake = some (.mgmt .itself) →
    exec .pendingWakeTimeout s = .next ((({ s with pw := { s.pw with pendingWake := none } }).refuseMode 0x2 .bmc .notPermitted).answerMode
      .itself .notPermitted)) ∧
  (∀ (r : Fin 6) (s : State), s.pw.seqRail = some r →
    exec .railInRange s = .next (({ s with pw := { s.pw with railOk := s.pw.railOk ||| BitVec.ofNat 6 (2 ^ r.val) } }).raiseRail (r.val + 1))) ∧
  (∀ (straps : Straps) (s : State), s.mc.mode = .standby → s.pw.seqReady = true →
    exec (.resetRelease straps) s = .next (({ s with pw := { s.pw with
      seqReady := false, seqRaised := 0, mainBack := s.pw.brdPg && s.pw.pwrFailN } }).enterBoot .wake straps 1)) ∧
  (∀ (r : Fin 6) (us : Nat) (s : State), s.pw.seqRail = some r → exec (.pwrSeqFail us) s = .next (({ s with pw := { s.pw with
    railEn := s.pw.railEn &&& ~~~ s.pw.seqRaised, railOk := s.pw.railOk &&& (s.pw.railEn &&& ~~~ s.pw.seqRaised), seqRail := none
    seqRaised := 0, seqReady := false, failRail := BitVec.ofNat 3 r.val } }).log 0x9020 .error srcPower r.val us)) ∧
  (∀ (s : State), s.sequencing = false → exec .brdPgFall s = .next { s with pw := { s.pw with
    brdPg := false, mainBack := false, pendingWake := if s.pw.pendingWake = some .board then none else s.pw.pendingWake } }) ∧
  (∀ (s : State), s.pw.pendingWake = none → exec .pwrFailNRise s = .next { s with pw := { s.pw with pwrFailN := true } }) ∧
  (∀ (s : State), s.mc.mode ≠ .standby →
    exec .mainPowerBack s = .next { s with pw := { s.pw with pwrFailN := true, brdPg := true, mainBack := true } }) ∧
  (∀ (s : State), exec .crystalStart s = .next { s with clk := { s.clk with xtal := true } }) ∧
  (∀ (s : State), exec .vddIoLost s = .next { s with pw := { s.pw with ioOk := false } }) ∧
  (∀ (s : State), exec .vddIoReturn s = .next { s with pw := { s.pw with ioOk := true } }) ∧
  (∀ (mv sensed : Nat) (s : State), s.pw.avsReq = none →
    exec (.avsConfirmTimeout mv sensed) s = .next { s with pw := { s.pw with avsReq := some mv, avsRetried := true } }) ∧
  (∀ (mv sensed r : Nat) (s : State), s.pw.avsReq = some r →
    exec (.avsConfirmTimeout mv sensed) s = .next (({ s with pw := { s.pw with avsReq := none, avsRetried := false } }).log
      0x9022 .error srcPower r sensed))

/-- Power loss, resets and the timebase (R31, R95, R500, R506 to R509). -/
def Obligations.PowerLossAndResets : Prop :=
  (∀ (straps : Straps) (s : State), s.mc.mode = .service → exec (.powerFail straps) s =
    .next (({ s with pw := { s.pw with pwrFailN := false, mainBack := false } }).startSave .pwrFail)) ∧
  (∀ (straps : Straps) (s : State), s.mc.mode = .maintenance → exec (.powerFail straps) s =
    .next (({ s with pw := { s.pw with pwrFailN := false, mainBack := false } }).enterStandby .pwrFail straps)) ∧
  (∀ (straps : Straps) (s : State), s.mc.mode = .service → s.pw.railEn.getLsbD 0 = true →
    exec (.railMonitorTrip 0 false straps) s = .next (s.startSave .railTrip)) ∧
  (∀ (straps : Straps) (s : State), s.mc.mode = .service → s.pw.rstHeld = false →
    exec (.sysRstN straps) s = .next (({ s with pw := { s.pw with rstLow := true, rstHeld := true } }).log 0x8080 .notice srcPower 4)) ∧
  (∀ (straps : Straps) (s : State), s.mc.mode = .maintenance →
    exec (.sysRstN straps) s = .next (({ s with pw := { s.pw with rstLow := true } }).enterBoot .reset straps 2)) ∧
  (∀ (s : State), exec .sysRstNRelease s = .next { s with pw := { s.pw with rstLow := false, rstHeld := false } }) ∧
  (∀ (straps : Straps) (s : State), s.mc.mode = .maintenance → s.pw.rstHeld = true →
    exec (.heldResetApply straps) s = .next (({ s with pw := { s.pw with rstHeld := false } }).enterBoot .reset straps 2)) ∧
  (∀ (who : Writer) (straps : Straps) (s : State), s.mc.mode = .maintenance →
    exec (.soft who straps) s = .next (s.enterBoot .reset straps 3)) ∧
  (∀ (who : Writer) (straps : Straps) (s : State), s.mc.mode = .service →
    exec (.soft who straps) s = .next (s.reject (RegName.GLB_RST_CTL.offset 0 0 0) 1 6 who)) ∧
  (∀ (s : State), exec .trstN s = .next { s with tests := { s.tests with tap := 1 } }) ∧
  (∀ (straps : Straps) (s : State), s.mc.mode = .maintenance → s.regAt .GLB_BIST_STAT 0 0 0 >>> 16 = 0 →
    exec (.maintenanceExit straps) s = .next (s.enterBoot .reset straps 4)) ∧
  (∀ (straps : Straps) (s : State), s.mc.mode = .recovery → exec (.recoveryReset straps) s = .next (s.enterBoot .reset straps 6)) ∧
  (∀ (off : Int) (time : Nat) (s : State), s.clk.tbLock = false → s.flash.sess.st = .idle →
    exec (.timebaseLock off time) s = .next (({ s with
      timeNs := time, clk := { s.clk with tbLock := true, timeKnown := true, tbOffset := BitVec.ofInt 32 off } }).log
        0x9024 .notice srcPower 1 (BitVec.ofInt 32 off).toNat)) ∧
  (∀ (off : Int) (s : State), s.clk.tbLock = true →
    exec (.timebaseUnlock off) s = .next (({ s with clk := { s.clk with tbLock := false, tbOffset := BitVec.ofInt 32 off } }).log
      0x9024 .notice srcPower 0 (BitVec.ofInt 32 off).toNat))

/-- The steps of a save (R96, R97, R99, R103). -/
def Obligations.SaveSteps : Prop :=
  (∀ (s : State), s.saveAt .landed = true → s.saving = true → s.nandPowered = true →
    exec .saveIntentProgrammed s = .next (let u := s.setImage s.per.saveImage { s.image s.per.saveImage with
        intentOk := true, count := s.atRisk
        map := (s.countedPages.filterMap fun k => (s.regionOf (4096 * k)).map Prod.fst).eraseDups }
      { u with per := { u.per with saveStep := .streaming } })) ∧
  (∀ (s : State), s.mc.mode = .save → s.per.flushCut = true → exec .twinFlushCutoff s = .next s) ∧
  (∀ (s : State), s.mc.mode = .save → s.per.flushCut = false → exec .twinFlushCutoff s = .next s.cutFlush ∧ s.cutFlush.per.flushCut = true) ∧
  (∀ (s : State), s.saveAt .streaming = true → s.saving = true → s.nandPowered = true → s.tier.wbs = [] →
    exec (.saveStreamDone []) s = .next (let x := s.image s.per.saveImage
      let u := s.setImage s.per.saveImage { x with
        pages := s.countedPages
        lines := (s.countedPages.flatMap pageLines).filterMap fun l => if s.line l = zeroLine l then none else some (l, s.line l)
        damaged := [], summaries := (s.countedPages.length + (x.recs.length + 50) / 51 + 1021) / 1022 }
      { u with per := { u.per with saveStep := .streamed } })) ∧
  (∀ (s : State), s.saveAt .streamed = true → s.saving = true → s.nandPowered = true →
    exec .saveMetadataDone s = .next (let c := s.cutFlush
      let other := c.image (! c.per.saveImage)
      let u := c.setImage c.per.saveImage { c.image c.per.saveImage with
        table := c.rgn.table, sets := c.rgn.sets, epoch := c.rgn.epoch, bitmap := c.twin.bitmap, log := c.evt.recs
        predSeq := if other.st = .pending then other.seq else 0 }
      { u with per := { u.per with saveStep := .metadata } })) ∧
  (∀ (straps : Straps) (s : State), s.saveAt .metadata = true → s.saving = true → s.nandPowered = true → s.pw.mainBack = false →
    ∃ u, exec (.saveSealed straps) s = .next (State.decideSaveReqs (State.enterStandby u .workDone straps)) ∧
      (u.image s.per.saveImage).st = .pending ∧ (u.image s.per.saveImage).sealedOk = true ∧ u.per.saveStep = .done ∧ u.per.lastResult = 1)

/-- Sleep states of the channels, the wakes, lending of the laybys and the stopped clocks (R38 to R41, R132, R146 to R148, R161, R261). -/
def Obligations.SleepAndWake : Prop :=
  (∀ (ch : ChId) (s : State), (s.ch ch.val).st = .active → s.flag GLB_SLEEP_CTL_NAP_EN = true → s.mc.mode ≠ .save →
    (s.ch ch.val).idle = true → (s.ch ch.val).waking = false → s.writesBackOn ch.val = false →
    exec (.nap1Enter ch) s = .next (s.setChState ch.val .nap1)) ∧
  (∀ (ch : ChId) (s : State), (s.ch ch.val).st = .nap1 → (s.ch ch.val).waking = false → (s.ch ch.val).held = [] →
    (s.ch ch.val).wq = [] → s.mc.mode ≠ .save → (s.ch ch.val).released = 0 →
    exec (.nap2Enter ch) s = .next ((s.setCh ch.val { s.ch ch.val with rows := [] }).setChState ch.val .nap2)) ∧
  (∀ (ch : ChId) (rank : Fin 16) (s : State), (s.ch ch.val).st = .nap2 → (s.ch ch.val).waking = false →
    s.flag GLB_SLEEP_CTL_PASR_EN = true → rank.val < s.ranks ch.val → s.rankHolds ch.val rank.val = false → s.dupsInPlace ch.val = true →
    s.tier.pages = [] →
    exec (.pasrEnter ch rank) s = .next ((s.setCh ch.val { s.ch ch.val with
      released := (s.ch ch.val).released ||| BitVec.twoPow 16 rank.val }).setChState ch.val .pasr)) ∧
  (∀ (ch : ChId) (s : State), (s.ch ch.val).dupInvalid = true →
    exec (.pasrDupRewriteDone ch) s = .next (s.setCh ch.val { s.ch ch.val with dupInvalid := false })) ∧
  (∀ (ch : ChId) (s : State), (s.ch ch.val).st = .nap2 → (s.ch ch.val).waking = false →
    exec (.channelWake ch) s = .next (s.setCh ch.val { s.ch ch.val with waking := true, early := false })) ∧
  (∀ (ch : ChId) (s : State), (s.ch ch.val).st.asleep = true → (s.ch ch.val).waking = true → (s.ch ch.val).early = false →
    exec (.channelWakeDone ch true) s = .next (let u := s.setCh ch.val { s.ch ch.val with
        waking := false, early := false, slotCtr := 0, rows := [], released := 0
        dupInvalid := (s.ch ch.val).dupInvalid || (s.ch ch.val).released != 0 }
      ((({ u with arb := { u.arb with oldTable := u.arb.oldTable.filter fun e => e.1 != ch.val } }).setChState ch.val .active).releaseHeld
        ch.val).settleWarm)) ∧
  (∀ (p : PortId) (l : LinkId) (s : State), (s.linkAt p.val l.val).up = true → (s.linkAt p.val l.val).pm = .l11 →
    exec (.earlyWake p l) s = .next (s.setLink p.val l.val { s.linkAt p.val l.val with pm := .l0 }).activity.earlyWake) ∧
  (∀ (s : State), s.mc.mode = .quiescent → exec .quiesceExit s = .next (s.enterService .activity).earlyWake) ∧
  (∀ (ch : ChId) (s : State), (s.ch ch.val).st = .nap2 → s.flag TIER_LAYBY_CTL_LEND_EN = true → (s.ch ch.val).waking = false →
    s.tier.lent = [] → s.tests.retired = [] →
    exec (.laybyLend ch) s = .next { s with tier := { s.tier with
      lent := Sparse.set (fun _ => 0) [] ch.val (1024 - s.fld TIER_LAYBY_CTL_WB_RESERVE) } }) ∧
  (∀ (ch : ChId) (n : Nat) (s : State), s.tier.lent = [(ch.val, n)] → s.tier.fills = [] →
    exec (.laybyRevokeDone ch [] 0) s = .next (let u := s.addFld TIER_LOAN_ABANDON_CNT_COUNT 0
      { u with tier := { u.tier with lent := [], fills := [] } })) ∧
  (∀ (cw : CwId) (s : State), (∀ i, i < 4 → (s.ch (4 * cw.val + i)).st = .nap2 ∧ (s.ch (4 * cw.val + i)).waking = false) →
    s.ports.links = [] → s.tier.fills = [] → s.tier.wbs = [] → s.tier.streams = [] →
    exec (.cwClockStop cw) s = .next { s with clk := { s.clk with cwClock := s.clk.cwClock &&& ~~~ BitVec.twoPow 4 cw.val } }) ∧
  (∀ (s : State), s.clk.cwClock = 0 → s.twin.msgs = [] → s.twin.queued = [] → s.twin.reads = [] → s.twin.syncq = [] →
    s.twin.backlog = [] → s.twin.inMsgs = [] → s.twin.resync = none → s.rdma.qps = [] →
    exec .junctionClockStop s = .next { s with clk := { s.clk with jctClock := false } }) ∧
  (∀ (p : PortId) (l : LinkId) (b : Bool) (s : State), (s.linkAt p.val l.val).up = true → s.mc.mode.serving = true →
    s.entriesUsed p.val l.val = 0 →
    exec (.linkL1Entry p l b) s = .next (s.setLink p.val l.val { s.linkAt p.val l.val with pm := if b then .l12 else .l11 }))

/-- Training and retraining of the channels, drift, alerts, refresh and temperature (R143, R148, R150 to R158, R163 to R169, R177). -/
def Obligations.ChannelTrainingAndAlerts : Prop :=
  (∀ (ch : ChId) (a : DimmSpd) (rate : Nat) (tim : List Word) (s : State), s.mc.mode = .boot → s.pw.cold = none →
    (s.ch ch.val).st = .offline → dimmRefusals (some a) none = [] → s.trainRate ch.val a.typ [a] = some rate →
    exec (.initialTrainingDone ch (some a) none true tim) s =
      .next ((s.adoptDimms ch.val rate (some a) none tim).setChState ch.val .active)) ∧
  (∀ (ch : ChId) (s : State), (s.ch ch.val).st = .active → s.mc.mode ≠ .save → s.flag CH_CTL_RETRAIN ch.val = true →
    exec (.fullRetrainStart ch .request) s = .next (s.startRetrain ch.val 0)) ∧
  (∀ (ch : ChId) (s : State), (s.ch ch.val).st = .active → s.mc.mode ≠ .save →
    exec (.fullRetrainStart ch .pllLost) s = .next ((s.chErr ch.val 6).startRetrain ch.val 6)) ∧
  (∀ (ch : ChId) (s : State), (s.ch ch.val).st = .active → exec (.chRetrainRequest ch) s = .next (s.setFld CH_CTL_RETRAIN 1 ch.val)) ∧
  (∀ (ch : ChId) (who : Writer) (s : State), s.flag CH_TIM_COMMIT_COMMIT ch.val = false →
    exec (.chTimCommit ch who) s = .next ((s.setFld CH_TIM_COMMIT_COMMIT 1 ch.val).setCh ch.val { s.ch ch.val with timBy := who })) ∧
  (∀ (ch : ChId) (s : State), (s.ch ch.val).st = .retraining → (s.ch ch.val).twinReads = [] → (s.ch ch.val).held = [] →
    s.twin.reads = [] →
    exec (.retrainDone ch []) s = .next (((((((((s.setCh ch.val { s.ch ch.val with twinReads := [], drift := 0, slotCtr := 0 }).setFld
      CH_CTL_RETRAIN 0 ch.val).setFld CH_TRAIN_STAT_LAST_TRIGGER (s.ch ch.val).retrainCause ch.val).bump CH_TRAIN_STAT_FULL_COUNT ch.val).setFld
      CH_TRAIN_STAT_LAST_NS (min 0xFFFF ((s.timeNs - (s.ch ch.val).retrainStart) / 10)) ch.val).setChState ch.val (s.ch ch.val).resumeTo).log
      0x1004 (if (s.ch ch.val).retrainCause = 0 ∨ (s.ch ch.val).retrainCause = 5 then .info else .notice) (srcCh ch.val) ch.val
      (s.ch ch.val).retrainCause (s.timeNs - (s.ch ch.val).retrainStart)).afterRetrain ch.val []))) ∧
  (∀ (ch : ChId) (sub : Bool) (lanes : BitVec 20) (s : State), (s.ch ch.val).st = .retraining →
    exec (.retrainBoundExpiry ch sub 3 lanes) s =
      .next (((s.chErr ch.val 3).closeChannel ch.val (if sub then 1 else 0) 3 lanes.toNat).releaseHeld ch.val)) ∧
  (∀ (ch : ChId) (ps : Int) (s : State), (s.ch ch.val).st = .active → (s.ch ch.val).typ = 1 →
    exec (.driftTrack ch ps) s = .next (s.setCh ch.val { s.ch ch.val with drift := (s.ch ch.val).drift + ps })) ∧
  (∀ (ch : ChId) (s u : State), (s.ch ch.val).st = .active → (s.ch ch.val).alerts = [] →
    u = ((s.bump CH_CAPAR_ALERTS ch.val).chErr ch.val 1).logLim 0x1002 ch.val .notice (srcCh ch.val) (ch.val, 1, 0, 0) →
    exec (.caAlert ch false) s = .next (u.setCh ch.val { u.ch ch.val with alerts := [⟨0, true, 0, s.timeNs⟩] })) ∧
  (∀ (ch : ChId) (n : Nat) (a : AlertSeries) (s : State), (s.ch ch.val).alerts = [a] → a.sub = 0 → a.asserted = true →
    exec (.caAlertEnd ch false n) s = .next ((s.setCh ch.val { s.ch ch.val with
      alerts := [{ a with asserted := false }], rows := (s.ch ch.val).rows.filter fun e => e.1 / 512 != 0 }).mergeLim 0x1002 ch.val
        fun l => { l with w6 := l.w6 + n })) ∧
  (∀ (ch : ChId) (a : AlertSeries) (s : State), ((s.ch ch.val).alerts.find? fun a => a.sub == 0) = some a →
    exec (.replayTimeout ch false) s = .next (s.escalate ch.val 0 a)) ∧
  (∀ (ch : ChId) (rank : Fin 16) (s : State), (s.ch ch.val).st = .active → rank.val < s.ranks ch.val →
    (s.ch ch.val).released.getLsbD rank.val = false →
    exec (.refreshDue ch rank) s = .next (s.setCh ch.val { s.ch ch.val with
      refDue := Sparse.modify (fun _ => (0 : Int)) (s.ch ch.val).refDue rank.val (· + 1) })) ∧
  (∀ (ch : ChId) (t0 t1 : Fin 256) (s : State), (s.ch ch.val).st = .active → (s.ch ch.val).dimm1.present = false → 95 < t0.val →
    (s.ch ch.val).throttle = false →
    exec (.dimmThermPoll ch t0 t1 0) s = .next (((s.setCh ch.val { s.ch ch.val with
      temp0 := t0.val, temp1 := 0, factor := 2, throttle := true }).chErr ch.val 0x0A).log 0x1009 .error (srcCh ch.val) ch.val t0.val 2))

/-- Command slots, rebuild, evacuation, power and readmission of a channel, and its device marks (R159, R170 to R176, R191). -/
def Obligations.ChannelServiceAndRebuild : Prop :=
  (∀ (ch : ChId) (s : State), (s.ch ch.val).st = .active → (s.ch ch.val).alerts = [] →
    s.fld CH_SCHED_WR_HI ch.val ≤ (s.ch ch.val).wq.length → (s.ch ch.val).wq ≠ [] →
    exec (.commandSlot ch true []) s = .next (let u := s.setCh ch.val { s.ch ch.val with draining := true, alerts := [] }
      match (u.candidates ch.val 1).find? fun x => ! u.actHeld ch.val x with
      | some x => u.issue ch.val x
      | none => u)) ∧
  (∀ (ch : ChId) (x : Share) (k : Nat) (s : State), (s.ch ch.val).work = .rebuild → s.nextChunk ch.val = some (x, k) →
    exec (.rebuildChunk ch []) s = .next ((s.rebuildChunk ch.val x k []).releaseHeld ch.val)) ∧
  (∀ (ch : ChId) (s : State), (s.ch ch.val).work = .rebuild → s.twinUp = false →
    exec (.rebuildTwinWaitExpiry ch) s = .next ((s.setCh ch.val { s.ch ch.val with twinGone := true }).releaseHeld ch.val)) ∧
  (∀ (d : Desc) (s t u : State), longRuns s d 5 t → t.rings.ops = [] → (t.ch (d.bits 2 3 0)).st = .active →
    (t.planShares (d.bits 2 3 0) (t.sharesOn (d.bits 2 3 0))) = [] →
    u = t.startOp (.evacChannel (d.bits 2 3 0)) d.src (some 0) →
    exec (.evacuateChannel d) s = .next ((((u.setCh (d.bits 2 3 0) { t.ch (d.bits 2 3 0) with
      waking := false, early := false, released := 0
      dupInvalid := (t.ch (d.bits 2 3 0)).dupInvalid || (t.ch (d.bits 2 3 0)).released != 0, work := .evacuate, shares := [] }).setChState
        (d.bits 2 3 0) .evacuating).activity).releaseHeld (d.bits 2 3 0))) ∧
  (∀ (ch : ChId) (o : LongOp) (s u : State), (s.rings.ops.find? fun o => o.kind == .evacChannel ch.val && o.st == .running) = some o →
    (s.ch ch.val).st = .evacuating → (s.ch ch.val).work = .evacuate → (s.ch ch.val).shares = [] → u = s.rehome ch.val →
    exec (.evacDone ch) s = .next ((((u.setCh ch.val { u.ch ch.val with
      work := .none, shares := [], wq := [], rows := [], inOrder := [], refDue := [], alerts := [] }).setChState ch.val .offline).log
        0x100A .notice (srcCh ch.val) ch.val 0 0).endOp o .ok 0)) ∧
  (∀ (ch : ChId) (who : Writer) (s : State),
    exec (.chPwrWrite ch true who) s = .next ((s.setFld CH_CTL_PWR 1 ch.val).setCh ch.val { s.ch ch.val with pwrEn := true })) ∧
  (∀ (ch : ChId) (who : Writer) (s : State), (s.ch ch.val).st = .active →
    exec (.chPwrWrite ch false who) s = .next (s.reject (RegName.offset .CH_CTL ch.val 0 0) 0 1 who)) ∧
  (∀ (ch : ChId) (a : DimmSpd) (rate : Nat) (tim : List Word) (who : Writer) (s : State), (s.ch ch.val).st = .offline →
    s.flag CH_CTL_PWR ch.val = true → dimmRefusals (some a) none = [] → s.trainRate ch.val a.typ [a] = some rate →
    s.readmitFits ch.val [a] = true → ((s.adoptDimms ch.val rate (some a) none tim).ch ch.val).work ≠ .rebuild →
    exec (.readmit ch (some a) none true tim who) s = .next (
      let v := s.adoptDimms ch.val rate (some a) none tim
      let w := v.setCh ch.val { v.ch ch.val with
        work := .copyBack, shares := [], noSpace := false, partner := (ch.val + 4) % 16, slotCtr := 0, temp0 := 0, temp1 := 0
        factor := 0, throttle := false, drift := 0, refDue := [], raa := [] }
      let x := w.setCh ((ch.val + 12) % 16) { w.ch ((ch.val + 12) % 16) with partner := ch.val }
      let y := { x with tests := { x.tests with
        patrols := Sparse.set (fun _ => Patrol.reset) x.tests.patrols ch.val { Patrol.reset with start := x.timeNs } } }
      ((((y.setFld CH_CTL_READMIT 1 ch.val).setChState ch.val .active).releaseHeld ch.val).retryShares).reeval .cause)) ∧
  (∀ (ch : ChId) (s : State), s.flag CH_CTL_READMIT ch.val = true → (s.ch ch.val).work = .copyBack →
    (∀ p, p < 16 → s.flag RGN_POOL_CFG_VALID p = false) →
    exec (.readmitted ch) s = .next ((((s.setCh ch.val { s.ch ch.val with work := .none, shares := [] }).setFld CH_CTL_READMIT 0 ch.val).log
      0x100B .notice (srcCh ch.val) ch.val (s.ch ch.val).rate).retryShares)) ∧
  (∀ (ch : ChId) (rank : Fin 16) (sub : Bool) (s : State),
    exec (.markClear ch rank sub) s = .next (s.clearMark ch.val (2 * rank.val + if sub then 1 else 0) 1))

/-- The control complex: mismatch, switchover, self-tests, checkpoint and watchdog (R372 to R382). -/
def Obligations.ControlComplex : Prop :=
  (∀ (n : Nat) (s : State), s.ccRuns = true → s.cc.roleA = .pair → s.cc.roleB = .pair → s.cc.roleS = .standby →
    exec (.ccMismatch false n) s = .next { s with cc := { s.cc with mismatch := some (1, n), gap := .switchover } }) ∧
  (∀ (g r x k n : Nat) (s : State), s.cc.gap = .switchover → s.cc.roleA = .pair → s.cc.roleB = .pair → s.cc.roleS = .standby →
    s.cc.mismatch = some (k, n) →
    exec (.ccSwitchover g r x) s = .next (((({ s with cc := { s.cc with
      roleA := .faulted, roleB := .faulted, roleS := .active, gap := .none, testing := [0, 1], switches := min 255 (s.cc.switches + 1)
      ckptAt := s.timeNs, force := false } }).log 0x8001 .error srcCc k n).setCc (Cc.mk .faulted .faulted .active .none none [0, 1]
        (min 255 (s.cc.switches + 1)) s.cc.rounds s.cc.fails s.cc.failRun s.timeNs false s.cc.lastKick s.cc.kickHalf s.cc.expiries
        s.cc.expires s.cc.deferred)).log 0x8002 .notice srcCc 2 g r x)) ∧
  (∀ (s : State), s.cc.gap = .shortTest → s.cc.roleA = .pair → s.cc.roleB = .pair → s.cc.roleS = .faulted → s.cc.mismatch = none →
    exec (.ccShortSelftestDone true false false) s = .next { s with cc := { s.cc with
      roleA := .active, roleB := .faulted, gap := .none, testing := [1], ckptAt := s.timeNs } }) ∧
  (∀ (n : Nat) (s : State), s.cc.testing = [0] → s.ccRuns = true →
    exec (.ccSelftest true false false n) s = .next (({ s with cc := { s.cc with roleA := .standby, testing := [] } }).log
      0x8003 .notice srcCc 0 1 CoreRole.standby.code)) ∧
  (∀ (s : State), s.cc.roleS = .standby → s.cc.roleA ≠ .standby → s.cc.roleB ≠ .standby → s.mc.mode.testsStandby = true → s.ccRuns = true →
    exec (.standbySelftestRound true) s = .next { s with cc := { s.cc with rounds := min 0xFFFF (s.cc.rounds + 1), failRun := 0 } }) ∧
  (∀ (s : State), s.ccRuns = true → s.cc.force = false →
    exec .checkpoint s = .next { s with cc := { s.cc with ckptAt := s.timeNs } }) ∧
  (∀ (s : State), s.ccRuns = true → s.cc.force = true → s.cc.roleS = .standby →
    exec .checkpoint s = .next { s with cc := { s.cc with ckptAt := s.timeNs, gap := .switchover } }) ∧
  (∀ (who : Writer) (s : State), s.cc.roleS = .standby →
    exec (.forceSwitch who) s = .next { s with cc := { s.cc with force := true } }) ∧
  (∀ (b : Bool) (s : State), s.ccRuns = true → s.wdtRuns = true →
    exec (.wdtKick 0x5A5A#16 b) s = .next { s with cc := { s.cc with kickHalf := true } }) ∧
  (∀ (b : Bool) (s : State), s.ccRuns = true → s.wdtRuns = true → s.cc.kickHalf = true →
    s.fld GLB_WDT_CFG_PERIOD_MS * 10 ^ 6 * s.fld GLB_WDT_CFG_WIN_PCT / 100 ≤ s.timeNs - s.cc.lastKick →
    s.timeNs - s.cc.lastKick < s.fld GLB_WDT_CFG_PERIOD_MS * 10 ^ 6 →
    exec (.wdtKick 0xA5A5#16 b) s = .next { s with cc := { s.cc with kickHalf := false, lastKick := s.timeNs } }) ∧
  (∀ (b : Bool) (s : State), s.wdtRuns = true → s.cc.deferred = none → s.flashPulse = false →
    exec (.wdtExpire b) s = .next (s.wdtAct 1 b)) ∧
  (∀ (fa fb : Option (Fin 7)) (s : State), s.cc.gap = .warm → s.flash.sess.st = .idle → s.flash.ops = [] → s.flash.waiting = [] →
    exec (.ccRestartDone true true true fa fb) s = .next { s.completeErases with cc := { s.completeErases.cc with
      roleA := .pair, roleB := .pair, roleS := .standby, gap := .none
      ckptAt := s.completeErases.timeNs, lastKick := s.completeErases.timeNs, failRun := 0 } })

/-- The code flash: commands, pulses, suspension, brown-out and the record port (R384 to R398). -/
def Obligations.CodeFlash : Prop :=
  (∀ (off : Nat) (ws : List (BitVec 256)) (s : State), ws ≠ [] → off % 32 = 0 → off + 32 * ws.length ≤ flashBytes → inGolden off = false →
    inGolden (off + 32 * ws.length - 1) = false → ¬ (off < 0x40000 ∧ 0x440000 ≤ off + 32 * ws.length - 1) → inConfig off = false →
    inConfig (off + 32 * ws.length - 1) = false → flashBank off ≠ s.flash.execBank →
    flashBank (off + 32 * ws.length - 1) ≠ s.flash.execBank → s.writtenWord off ws.length = none →
    exec (.flashProgram off ws) s = .next ((s.flashAnswer .ok).beginFlash ⟨flashBank off, false, off, ws, 0, none, 0, false⟩)) ∧
  (∀ (off n : Nat) (s : State), n ≠ 0 → off % sectorBytes off = 0 → off + sectorsBytes off n ≤ flashBytes →
    (sectorsOf off n).any inGolden = false → (sectorsOf off n).any inConfig = false →
    ((sectorsOf off n).any fun x => flashBank x == s.flash.execBank) = false → (sectorsOf off n).all s.mayErase = true →
    exec (.flashErase off n) s = .next ((s.flashAnswer .ok).beginFlash ⟨flashBank off, true, off, [], n, none, 0, false⟩)) ∧
  (∀ (bank : Fin 2) (o : FlashOp) (s : State), (s.flash.ops.find? fun o => o.bank == bank.val && o.suspended.isNone) = some o →
    s.cc.deferred = none → (s.pulse o).1.cc.deferred = none →
    exec (.flashPulseDone bank .pass) s = .next ((s.pulse o).1.setFlashOp o (s.pulse o).2).startFlash) ∧
  (∀ (bank : Fin 2) (o : FlashOp) (t : Nat) (s : State), (s.flash.ops.find? fun o => o.bank == bank.val) = some o →
    o.suspended = some t → s.flashLow = false → s.cc.deferred = none →
    exec (.flashOpResume bank) s = .next (s.setFlashOp o (some { o with suspended := none, total := o.total + (s.timeNs - t) }))) ∧
  (∀ (bank : Fin 2) (o : FlashOp) (s : State), (s.flash.ops.find? fun o => o.bank == bank.val && o.erase && ! o.starved) = some o →
    o.suspended = none → exec (.flsEraseStarved bank) s =
      .next ((s.setFlashOp o (some { o with starved := true })).log 0x803C .notice srcFlash bank.val (o.total / 10 ^ 6))) ∧
  (∀ (s : State), s.flash.brownout = false → exec .flsBrownout s =
    .next (({ s with flash := { s.flash with brownout := true } }).log 0x803D .error srcFlash s.flash.waiting.length)) ∧
  (∀ (r : LogRec) (rest : List PortItem) (u : State) (s : State), s.portQueue = .evt r :: rest → s.flashLow = false →
    ({ s with portQueue := rest } : State).portWrite false (codeWord (r.words.map BitVec.toNat)) = (true, u) →
    exec .recordPortWrite s = .next { u with evt := { u.evt with
      recs := u.evt.recs.map fun (y : LogRec) => if y.seq = r.seq then { y with copied := true } else y } }) ∧
  (∀ (s : State), s.flash.sess.st = .erasing → s.flash.ops = [] → s.flash.marked = [] →
    exec .sessionEraseDone s = .next (s.eraseRange (slotBase s.flash.sess.target) slotBytes).openSession.askData.startFlash)

/-- A firmware session, its blocks, checks and ends (R399 to R403, R409). -/
def Obligations.FirmwareSession : Prop :=
  (∀ (e m : Bool) (bad : Option Nat) (c k : Nat) (s : State), s.flash.sess.st = .verifying → s.flash.sess.source = 1 →
    s.verify s.flash.sess.target e m bad = some (c, k) →
    exec (.verifyDone e m bad) s = .next (((s.setSess { s.flash.sess with st := .opened, blockAt := s.timeNs }).sigFail s.flash.sess.target
      (some c)).log 0x8032 .error srcFlash s.flash.sess.id.toNat c k)) ∧
  (∀ (e m : Bool) (bad : Option Nat) (s : State), s.flash.sess.st = .verifying → s.flash.sess.source = 1 →
    s.verify s.flash.sess.target e m bad = none → s.flag FLS_UPD_CTL_PUSH_TWIN = false →
    exec (.verifyDone e m bad) s = .next (((s.setSlot s.flash.sess.target ⟨2, 0, s.mfSvn s.flash.sess.target, s.mfLevel s.flash.sess.target,
      s.mfVer s.flash.sess.target⟩).setSess { s.flash.sess with st := .verified, twinTakes := 0, twinOff := 0 }).sessRecord 2 0 0)) ∧
  (∀ (who : Writer) (s : State), s.notOwner who = false → s.flash.sess.st = .verified → exec (.abort who) s = .next (s.abortSession 2)) ∧
  (∀ (s : State), s.flash.sess.st = .opened → exec .sessionIdleTimeout s = .next (s.abortSession 3)) ∧
  (∀ (m : Fin 6) (off : BitVec 32) (bytes : List Byte) (u : State) (s : State), bytes ≠ [] → bytes.length ≤ 32768 →
    s.sourceBlock 3 off.toNat bytes = (.ok, u) → u.flash.sess.st = .opened → u.flash.sess.off < u.flash.sess.len →
    exec (.updBlock m off bytes) s = .next (u.tellMembers [m.val] (u.updStatus .ok))) ∧
  (∀ (st off : Nat) (s : State), s.flash.sess.st = .verified → s.flash.sess.twinTakes ≠ 0 →
    exec (.updStatus st off true) s = .next (s.setSess { s.flash.sess with twinTakes := 1 })) ∧
  (∀ (s : State), s.flash.sess.st = .verified → s.flash.sess.twinTakes = 1 → exec .twinOfferRetry s = .next s.offerBlock)

/-- Activation of an update, its trial and its outcomes (R404 to R413). -/
def Obligations.UpdateActivation : Prop :=
  (∀ (m : Fin 6) (t : Nat) (ver floor : Word) (lvl : Fin 16) (s : State), m.val = 1 → s.voteOn ver.toNat lvl.val floor.toNat = 0 →
    exec (.actPropose m t ver lvl floor) s = .next (((s.setSess { s.flash.sess with
      actTime := t, members := [1], yes := [1], proposer := false }).tellMembers [1] [0x0D, 1, 0]).schedule)) ∧
  (∀ (m : Fin 6) (t : Nat) (ver floor : Word) (lvl : Fin 16) (s : State), s.voteOn ver.toNat lvl.val floor.toNat ≠ 0 →
    exec (.actPropose m t ver lvl floor) s = .next (s.tellMembers [m.val] [0x0D, 0, s.voteOn ver.toNat lvl.val floor.toNat])) ∧
  (∀ (m : Fin 6) (s : State), s.flash.sess.members.contains m.val = true → s.flash.sess.st = .verified →
    s.flash.sess.yes.contains m.val = false →
    exec (.actVote m true 0) s = .next (s.setSess { s.flash.sess with yes := s.flash.sess.yes ++ [m.val] }).schedule) ∧
  (∀ (m : Fin 6) (why : Nat) (s : State), s.flash.sess.members.contains m.val = true → s.flash.sess.st = .verified →
    exec (.actVote m false why) s = .next (s.groupRefuses m.val why)) ∧
  (∀ (m : Nat) (ms : List Nat) (s : State), s.flash.sess.st = .verified →
    (s.flash.sess.members.filter fun m => ! s.flash.sess.yes.contains m) = m :: ms →
    exec .actVoteDeadline s = .next (s.groupRefuses m 7)) ∧
  (∀ (s : State), s.flash.sess.st = .scheduled → s.flash.sess.waitTime = false →
    exec .activationTime s = .next ((s.setSess { s.flash.sess with st := .activating, actAt := s.timeNs, swapped := 0 }).sessRecord 4 0 0)) ∧
  (∀ (stop : Nat) (ok : Bool) (s : State), s.flash.sess.st = .activating → s.flash.sess.swapped = 0 → s.mc.mode ≠ .save →
    exec (.updComponentSwap stop ok) s = .next ((s.setSess { s.flash.sess with swapped := 1 }).log 0x8035 .info srcFlash 5 stop)) ∧
  (∀ (who : Writer) (s : State), s.notOwner who = false → s.flash.sess.st = .trial → exec (.confirm who) s = .next s.confirm) ∧
  (∀ (s : State), s.flash.sess.st = .trial → s.flash.sess.sentHealthy = false →
    exec .trialSElapsed s = .next ((s.setSess { s.flash.sess with sentHealthy := true }).tellMembers s.flash.sess.members
      [0x0E, s.flash.sess.id.toNat, 1]).autoConfirm) ∧
  (∀ (m : Fin 6) (s : State), s.flash.sess.members.contains m.val = true → s.flash.sess.st = .trial →
    exec (.actOutcome m .reverted) s = .next (s.revert 5)) ∧
  (∀ (who : Writer) (s : State), s.notOwner who = false → s.flash.sess.st = .trial → exec (.revert who) s = .next (s.revert 1)) ∧
  (∀ (s : State), s.flash.sess.st = .trial → exec .confirmSExpiry s = .next (s.revert 2)) ∧
  (∀ (s : State), s.flash.sess.st = .reverting → exec .revertDone s = .next (s.endSession 4))

/-- The event log's own commands, the junction links, the tier engines and the slot tables (R350, R351, R414, R418, R420, R421, R423, R426, R428 to R430). -/
def Obligations.EventLogAndJunctions : Prop :=
  (∀ (q : BitVec 32) (s : State), exec (.evtAck q) s = .next { s with evt := { s.evt with
    recs := s.evt.recs.map fun (r : LogRec) => if r.sev = .critical ∧ serialGe q r.seq then { r with acked := true } else r } }) ∧
  (∀ (code : BitVec 16) (key : Nat) (l : Limiter) (s : State),
    (s.evt.limiters.find? fun (l : Limiter) => l.code == code.toNat && l.key == key) = some l →
    exec (.eventLimitIntervalEnd code key) s = .next (let u : State := { s with evt := { s.evt with
        limiters := s.evt.limiters.filter fun (x : Limiter) => ! (x.code == code.toNat && x.key == key) } }
      u.place (u.mkRec l.code l.sev l.source l.start true l.w4 l.w5 l.w6 l.w7))) ∧
  (∀ (n t off val w6 d : Nat) (s : State), s.evt.rejects = some ⟨n, some (t, off, val, w6, d)⟩ →
    exec .cfgRejectWindowEnd s = .next (let u : State := { s with evt := { s.evt with rejects := none } }
      u.place (u.mkRec 0x8043 .notice srcReg t true off val w6 (d + 2 ^ 16 * min 0xFFFF (n - 100))))) ∧
  (∀ (k : Fin 8192) (s : State), exec (.evtSlotCheckFail k) s = .next (({ s with evt := { s.evt with
    recs := s.evt.recs.filter fun (r : LogRec) => r.slot != k.val } }).bump EVT_COUNT_SLOT_ERR)) ∧
  (∀ (n : ChId) (s : State), exec (.errClear (.ch n)) s =
    .next (((s.setFld CH_ERR_FIRST 0 n.val).setFld CH_ERR_MULTI 0 n.val).setFld CH_ERR_COUNT 0 n.val)) ∧
  (∀ (k : Fin 8) (s : State), 4 ≤ k.val → (s.jctLink k.val).training = false → (s.jctLink k.val).errs = [] →
    exec (.junctionError k) s = .next (s.setJct k.val { s.jctLink k.val with errs := [s.timeNs] })) ∧
  (∀ (k : Fin 8) (s : State), 4 ≤ k.val → (s.jctLink k.val).training = true →
    exec (.jctRetrainDone k false 1 2) s = .next (s.setJct k.val { s.jctLink k.val with training := false, spares0 := 1, spares1 := 2 })) ∧
  (∀ (q : CwId) (s : State), exec (.tagqInvalidate q) s =
    .next ((s.cwErr q.val 4).logLim 0x6031 q.val .notice (srcTier q.val) (q.val, 1, 0, 0))) ∧
  (∀ (c : CwId) (s : State), s.tier.fills = [] → s.tier.restarts = [] → exec (.tierEngineFault c) s =
    .next (({ s with tier := { s.tier with fills := [], restarts := [(c.val, s.timeNs)] } }).cwErr c.val 5)) ∧
  (∀ (c : CwId) (who : Writer) (s : State), s.arbBusy c.val = false →
    (tableOwners ((List.range 8).map fun w => s.regAt .ARB_SHADOW c.val 0 w)).contains 0xF = true →
    exec (.arbCommit c who) s = .next ((s.setFld ARB_CTL_REFUSED 1 c.val).reject (RegName.offset .ARB_CTL c.val 0 0) 1 5 who)) ∧
  (∀ (c : CwId) (who : Writer) (sh : List Word) (s u v : State), s.arbBusy c.val = false →
    sh = ((List.range 8).map fun w => s.regAt .ARB_SHADOW c.val 0 w) → (tableOwners sh).contains 0xF = false →
    8 ≤ (tableOwners sh).countP (· == 0xB) →
    u = { s with arb := { s.arb with oldTable := (s.arb.oldTable.filter fun e => e.1 / 4 != c.val) ++
      ((List.range 4).map (4 * c.val + ·)).map fun n => (n, s.slotTable n) } } →
    v = ((List.range 8).zip sh).foldl (fun (s : State) (e : Nat × Word) => s.setRegAt .ARB_ACTIVE c.val 0 e.1 e.2) u →
    ∃ w, w = (v.setFld ARB_CTL_REFUSED 0 c.val).setFld ARB_STAT_SEQ (((v.setFld ARB_CTL_REFUSED 0 c.val).fld ARB_STAT_SEQ c.val + 1) % 2 ^ 16) c.val ∧
      exec (.arbCommit c who) s = .next (w.log 0x1020 .info (srcTier c.val) c.val (w.fld ARB_STAT_SEQ c.val)
        ((tableOwners sh).countP (· == 0xB)))) ∧
  (∀ (ch : ChId) (s : State), (s.ch ch.val).st = .active → exec (.slotTableSwap ch) s = .next { s with arb := { s.arb with
    oldTable := s.arb.oldTable.filter fun e => e.1 != ch.val } })

/-- Sample frames, trims and the packs (R436 to R449). -/
def Obligations.SensorsAndPacks : Prop :=
  (∀ (s : State), s.mc.mode = .standby → exec .trimCommit s = .next s.applyTrims) ∧
  (∀ (s : State), s.mc.mode ≠ .standby → exec .trimCommit s = .next { s with hub := { s.hub with commit := true } }) ∧
  (∀ (a b c : List Word) (s : State), s.factorySet 0 = some a → s.factorySet 1 = some b → s.factorySet 2 = some c →
    ∃ m, exec .trimReload s = .next { s with hub := { s.hub with shadow := m } } ∧
      m = c.zipIdx.foldl (fun m w => Sparse.set (fun _ => trimIdentity) m (256 + w.2) w.1)
        (b.zipIdx.foldl (fun m w => Sparse.set (fun _ => trimIdentity) m (128 + w.2) w.1)
          (a.zipIdx.foldl (fun m w => Sparse.set (fun _ => trimIdentity) m (0 + w.2) w.1) []))) ∧
  (∀ (s u : State), s.mc.mode = .service → s.hub.commit = false → u = (s.publish []).checkThresholds [] → 
    exec (.sampleFrame []) s = .next u.checkPacks.measureEnergy.decideCeiling.decideGuard.decideStallRisk) ∧
  (∀ (p : PackNo) (s : State), (s.pack p.val).st = .absent →
    exec (.packInsert p) s = .next ((s.setPack p.val Pack.absent).setPackState p.val .identifying)) ∧
  (∀ (p : PackNo) (x : PackId) (s t : State), (s.pack p.val).st = .identifying → s.pw.ioOk = true → x.crcOk = true → x.ratedJ ≠ 0 →
    t = s.setPack p.val { s.pack p.val with id := x } → t.packTested p.val = true → t.packWorn p.val = false →
    exec (.packIdentifyDone p (some x)) s = .next (t.setPackState p.val .healthy)) ∧
  (∀ (p : PackNo) (s : State), (s.pack p.val).st = .identifying → s.pw.ioOk = true →
    exec (.packIdentifyDone p none) s = .next ((s.log 0x9012 .error srcPacks p.val 1).setPackState p.val .fault)) ∧
  (∀ (p : PackNo) (s : State), (s.pack p.val).st = .healthy → (s.pack p.val).release = none →
    exec (.packRemove p) s = .next ((s.setPackState p.val .absent).setPack p.val Pack.absent)) ∧
  (∀ (p : PackNo) (s : State), (s.pack p.val).st = .healthy →
    exec (.packTestRequest p) s = .next ((s.setPack p.val { s.pack p.val with req := true }).startPackTest p.val)) ∧
  (∀ (p : PackNo) (s : State), s.flag GLB_IST_CTL_PACK_EN = true → s.mc.mode = .service → s.hub.hot = false →
    (s.pack p.val).st = .healthy → exec (.packTestScheduled p) s = .next (s.startPackTest p.val)) ∧
  (∀ (p : PackNo) (t : Nat) (s : State), (s.pack p.val).retryAt = some t → (s.pack p.val).st = .healthy →
    exec (.packTestRetry p) s = .next (s.startPackTest p.val)) ∧
  (∀ (p : PackNo) (v0 v1 v2 us c esr : Nat) (s u : State), (s.pack p.val).test = .loaded → v2 < v1 →
    esr = (v0 - v1) * 200 / max 1 (s.fld SNS_PACK_CFG_I_TEST) → c = 1000 * max 1 (s.fld SNS_PACK_CFG_I_TEST) * us / (2 * (v1 - v2)) →
    u = (s.setPack p.val { s.pack p.val with
      id := { (s.pack p.val).id with cUf := c, esr := esr, testDay := s.today, cycles := (s.pack p.val).id.cycles + 1 }
      test := .none, req := false, testedAt := s.timeNs }).log 0x9011 .info srcPacks p.val c esr 0 →
    exec (.packTestDone p v0 v1 v2 us) s = .next (u.setPackState p.val
      (if 100 * u.fld SNS_PACK_CFG2_ESR_MAX < esr then .fault else if u.packWorn p.val then .endOfLife else .healthy))) ∧
  (∀ (d : Desc) (s t : State), longRuns s d 5 t → (t.pack (d.bits 2 1 0)).st = .endOfLife →
    exec (.packRelease d) s = .next ((t.setPackState (d.bits 2 1 0) .released).complete d.src .ok))

/-- NAND modules and their channels (R201 to R205, R218, R221). -/
def Obligations.NandModules : Prop :=
  (∀ (m : Fin 4) (x : NandModule) (s u : State), s.nand.modules.getLsbD m.val = false → x.refusal s.nand.geom = none → x.blocks = [] →
    u = { s with nand := { s.nand with
      modules := s.nand.modules ||| BitVec.twoPow 4 m.val, geom := some (s.nand.geom.getD (x.die 0 0).geom)
      inited := s.nand.inited ||| BitVec.twoPow 4 m.val } } →
    exec (.moduleInsert m x) s = .next (((List.range 8).map fun c => 8 * m.val + c).foldl
      (fun s n => s.setNf n { NandCh.absent with dies := x.dies }) u)) ∧
  (∀ (n : NfId) (io : Fin 4) (rate : Fin 9) (s : State), (s.nf n.val).dies ≠ 0 → (s.nf n.val).st = .absent →
    exec (.nandIoTrainingDone n true io rate) s =
      .next ((s.setNf n.val { s.nf n.val with io := io.val, rate := rate.val, ioFails := 0 }).setNfState n.val .serving)) ∧
  (∀ (d : Desc) (n : Nat) (ns : List Nat) (s t u : State), longRuns s d 5 t → t.rings.ops = [] → t.nand.map = [] →
    ((moduleChans (d.bits 2 1 0)).filter fun n => (t.nf n).st == .serving) = n :: ns →
    u = t.startOp (.evacModule (d.bits 2 1 0)) d.src (some 0) →
    exec (.evacuateModule d) s = .next (((n :: ns).foldl (fun s n => s.leaveServing n .evacuating) u).planReduce []
      t.freeImageCapacity (some t.saveMbps))) ∧
  (∀ (m : Fin 4) (o : LongOp) (s : State), (s.rings.ops.find? fun o => o.kind == .evacModule m.val && o.st == .running) = some o →
    s.homesOn m.val = [] → exec (.moduleEvacDone m) s = .next ((((moduleChans m.val).filter fun n => (s.nf n).st == .evacuating).foldl
      (fun s n => s.setNfState n .retired) s).endOp o .ok (o.param / 2 ^ 18))) ∧
  (∀ (m : Fin 4) (s : State), s.nand.modules.getLsbD m.val = true → (∀ n, (s.nf n) = NandCh.absent) → s.tier.wbs = [] → s.per.wts = [] →
    s.nand.erases = [] → s.nand.map = [] → s.nand.home = [] → s.nand.chans = [] →
    ∃ u : Nand, exec (.moduleRemove m []) s = .next { s with nand := u } ∧ u.modules = s.nand.modules &&& ~~~ BitVec.twoPow 4 m.val ∧
      u.inited = s.nand.inited &&& ~~~ BitVec.twoPow 4 m.val ∧ u.geom = none)

/-- Blocks, erases, wear, the map's checkpoint, rehearsals and the brown-out of the media (R86, R206 to R223). -/
def Obligations.NandHousekeeping : Prop :=
  (∀ (n : NfId) (die : Fin 32) (b : Fin 16384) (t0 t1 : Nat) (s : State), s.nandPowered = true → (s.block n.val die.val b.val).deep = [t0, t1] →
    s.timeNs ≤ t0 + 3600 * 10 ^ 9 → s.timeNs ≤ t1 + 3600 * 10 ^ 9 → (s.block n.val die.val b.val).status = 0 →
    (s.block n.val die.val b.val).moves = 0 →
    exec (.refreshMove n die b) s = .next ((s.setBlock n.val die.val b.val { s.block n.val die.val b.val with
      deep := [], moves := 1, state := .closed }).clearBlock n.val die.val b.val)) ∧
  (∀ (n : NfId) (die : Fin 32) (b : Nat) (x : NandBlock) (s : State), s.nandPowered = true →
    ((s.listedBlocks n.val die.val).filter fun e => s.blockUse n.val die.val e.1 == 0 && e.2.status == 0 && e.2.state == .closed) = [(b, x)] →
    (s.validOn n.val die.val b).length < s.blockWords → exec (.garbageCollect n die) s = .next (s.clearBlock n.val die.val b)) ∧
  (∀ (n : NfId) (die : Fin 32) (b : Fin 16384) (e : NandErase) (s u : State), s.eraseOf n.val die.val b.val = some e → e.suspended = none →
    s.peRated = 0 → u = { s with nand := { s.nand with
      erases := s.nand.erases.filter fun (x : NandErase) => ! (x.ch == n.val && x.die == die.val && x.block == b.val) } } →
    exec (.nandEraseDone n die b true) s = .next ((u.setBlock n.val die.val b.val { u.block n.val die.val b.val with
      ec := min ((u.block n.val die.val b.val).ec + 1) (2 ^ 24 - 1), state := .erased, used := 0, deep := [], moves := 0 }).checkPool
        n.val die.val)) ∧
  (∀ (n : NfId) (die : Fin 32) (s : State), s.dieReads n.val die.val = false → s.nandPowered = true →
    exec (.eraseResume n die) s = .next ((s.nand.erases.filter fun e => e.ch == n.val && e.die == die.val && e.suspended.isSome).foldl
      (fun s e => s.resumeErase e) s)) ∧
  (∀ (n : NfId) (die : Fin 32) (b : Fin 16384) (e : NandErase) (s : State), s.eraseOf n.val die.val b.val = some e → e.starved = false →
    10 ^ 9 < s.suspendedFor e → ∃ ms, ms = s.longestMs n.val ∧ exec (.eraseStarved n die b) s =
      .next (((s.setErase { e with starved := true }).bump NF_ERASE_STAT_STARVED n.val).logLim 0x2007 n.val .notice (srcNand n.val)
        (n.val + 256 * die.val, 1, ms, 0) fun l => { l with w5 := l.w5 + 1, w6 := ms })) ∧
  (∀ (n : NfId) (die : Fin 32) (b : Fin 16384) (e : NandErase) (s : State), s.eraseOf n.val die.val b.val = some e → e.guarded = false →
    s.fld NF_ERASE_CTL_ERASE_GUARD_MS n.val ≠ 0 → s.fld NF_ERASE_CTL_ERASE_GUARD_MS n.val * 10 ^ 6 ≤ s.suspendedFor e → s.nandPowered = true →
    exec (.eraseGuardExpiry n die b) s = .next (s.resumeErase { e with guarded := true })) ∧
  (∀ (n : NfId) (lo hi d b : Nat) (x : NandBlock) (rest : List (Nat × NandBlock)) (s : State), s.ecSum n.val = (lo, hi) → s.fld NF_WL_CTL_WL_DELTA n.val < hi - lo →
    s.nandPowered = true → s.diesOf n.val = [d] → s.listedBlocks n.val d = (b, x) :: rest → s.blockUse n.val d b = 0 → x.status = 0 → x.ec = lo →
    x.state = .closed → exec (.wearLevelMove n) s = .next ((s.setBlock n.val d b { x with state := .closed }).clearBlock n.val d b)) ∧
  (∀ (s u : State), 65536 ≤ s.nand.sinceCkpt → s.nandPowered = true → s.servingNf ≠ [] → u = s.countPrograms 0 s.nand.mapDirty.length →
    exec .mapCheckpoint s = .next { u with
      nand := { u.nand with sinceCkpt := 0, mapDirty := [] }
      twin := { u.twin with txDurable := (List.range 16).foldl (fun m st => Sparse.set (fun _ => 1) m st (u.txSeq st)) u.twin.txDurable } }) ∧
  (∀ (us : Nat) (s : State), s.mc.mode = .boot → s.per.clean = none →
    exec (.mapReplay us) s = .next (s.log 0x200B .info (srcNand 0) s.nand.sinceCkpt us)) ∧
  (∀ (s : State), s.per.rehRunning = false → s.nandPowered = true → s.mc.mode = .service → s.imageFree false = true →
    exec .saveRehearsal s = .next { s with per := { s.per with rehRunning := true, rehChannels := s.servingNf.length } }) ∧
  (∀ (w : BitVec 24) (s u : State), s.per.rehRunning = true → u = s.addRehearsal w.toNat → s.mc.mode = .save →
    exec (.saveRehearsalDone w) s = .next { u with per := { u.per with rehRunning := false } }) ∧
  (∀ (s u : State), (s.image false).st = .erasing → s.nandPowered = true → u = s.setImage false { s.image false with st := .free } →
    exec (.saveImageErase false) s =
      .next { u with nand := { u.nand with imageErases := (s.nand.imageErases.1 + 1, s.nand.imageErases.2) } }) ∧
  (∀ (s u : State), u = s.takeTokens 0 → u.debt ≠ 0 → u.nand.overAt = none →
    exec .enduranceOver s = .next (({ u with nand := { u.nand with overAt := some u.timeNs } }).log 0x200A .notice (srcNand 0)
      (u.debt / 2 ^ 18) u.dayHome.2)) ∧
  (∀ (r : Fin 2) (k : Nat) (s u : State), s.nand.brownout = 0 → s.nandPowered = true → u = { s with nand := { s.nand with
      brownout := BitVec.twoPow 2 r.val } } →
    exec (.nandBrownout r k) s = .next ((u.servingNf.foldl (fun s n => s.nfErr n 7) u).log 0x2008 .error (srcNand 0) (r.val + 1) k)) ∧
  (∀ (r : Fin 2) (s : State), exec (.nandBrownoutEnd r) s = .next { s with nand := { s.nand with
    brownout := s.nand.brownout &&& ~~~ BitVec.twoPow 2 r.val } })

/-- Plans, streams and object placement (R118 to R131). -/
def Obligations.PlansAndObjects : Prop :=
  (∀ (n layer entry : Nat) (x : Stream) (p : Plan) (s : State), (s.tier.streams.find? fun x => x.number == n) = some x →
    s.planAt x.plan = some p → s.mc.mode.serving = true → p.started = true → x.inflight.contains (layer, entry) = true →
    (p.image.entryOf x.idx layer entry).kind = 1 → (p.image.entryOf x.idx layer entry).pitch = 0 →
    exec (.tilePlaced n layer entry []) s = .next (s.entryPlaced p x layer entry)) ∧
  (∀ (k : Fin 64) (ms : Fin 32) (v : BitVec 32) (x : Stream) (p : Plan) (s : State), s.planAt k.val = some p →
    (s.tier.streams.find? fun x => x.plan == p.slot && (p.image.streams.getD x.idx ⟨2, false, 0, 0, 1, 0⟩).msIndex == ms.val) = some x →
    p.started = true → s.mc.mode.serving = true →
    exec (.releaseLineWrite k ms v) s = .next ((s.takeRelease p x v).stagePlan p.slot)) ∧
  (∀ (d : Desc) (f : Nat) (s t u : State), descRuns s d 3 t → t.mc.mode = .service → (t.regionOfRange (d.dpa 2) 64).isSome = true →
    (t.regionOfRange (d.dpa 2) (d.word 4).toNat).isSome = true → t.planFault (d.dpa 2) (d.word 4).toNat = none →
    t.tier.plans = [] → t.tier.streams = [] → t.freeStreams (t.readPlan (d.dpa 2)).streams.length = some f →
    (t.readPlan (d.dpa 2)).length ≤ 2 ^ 28 →
    u = { t with tier := { t.tier with
      plans := [Plan.mk 0 (t.readPlan (d.dpa 2)) f false none none]
      streams := (List.range (t.readPlan (d.dpa 2)).streams.length).map fun i => ⟨f + i, 0, i, .idle, 0, 0, 0, 0, 0, [], [], [], none, 0⟩ } } →
    exec (.planLoad d) s = .next ((u.log 0x6010 .info (srcTier 0) 0 (t.readPlan (d.dpa 2)).streams.length
      (t.readPlan (d.dpa 2)).length).complete d.src .ok 0)) ∧
  (∀ (d : Desc) (p : Plan) (s t u : State), longRuns s d 3 t → t.mc.mode = .service → t.planAt (d.bits 2 5 0) = some p → p.started = false →
    (∀ q ∈ t.tier.plans, q.started = false) → (∀ k ∈ t.planKeys p.image, t.keyLoaded k = true) →
    u = (((t.startOp (.planStart p.slot) d.src none).log 0x6011 .info (srcTier 0) p.slot (d.word 3).toNat).activity).setPlan
      { p with started := true, startOp := some t.nextOpSlot } →
    exec (.planStart d) s = .next (((u.streamsOf p.slot).foldl (fun s x => s.startStream p x (d.word 3)) u).stagePlan p.slot)) ∧
  (∀ (d : Desc) (p : Plan) (s t : State), longRuns s d 3 t → t.planAt (d.bits 2 5 0) = some p → p.stopBy = none →
    exec (.planStop d) s = .next (((t.startOp (.planStop p.slot (d.bits 2 8 8 = 1)) d.src none).setPlan
      { p with stopBy := some (d.src, d.bits 2 8 8 = 1) }).activity)) ∧
  (∀ (k : Fin 64) (p : Plan) (c : CmdSrc) (s u : State), s.planAt k.val = some p → p.stopBy = some (c, false) → p.startOp = none →
    (∀ x ∈ s.streamsOf p.slot, x.inflight = []) → u = (s.endPlan p .ok).log 0x6012 .info (srcTier 0) p.slot 0 → u.rings.ops = [] →
    exec (.planStopped k) s = .next u) ∧
  (∀ (d : Desc) (i : Nat) (r : Region) (o : LongOp) (s t u : State), longRuns s d 3 t → d.word 6 = 0 → d.dpa 2 % 4096 = 0 →
    1 ≤ (d.word 4).toNat → (d.word 4).toNat ≤ 1048576 → t.regionOfRange (d.dpa 2) ((d.word 4).toNat * 4096) = some (i, r) →
    r.cls = .cached → t.rings.ops = [] → t.mc.mode = .service →
    u = (t.startOp (.objectPlace (d.dpa 2 / 4096) (d.word 4).toNat 0) d.src (some (d.word 4).toNat)).activity → u.opAt t.nextOpSlot = some o →
    exec (.objectPlacePromote d) s = .next (u.promoteObject o (d.dpa 2 / 4096) (d.word 4).toNat false)) ∧
  (∀ (d : Desc) (i : Nat) (r : Region) (o : LongOp) (s t u : State), longRuns s d 3 t → d.word 6 = 0 → d.dpa 2 % 4096 = 0 →
    1 ≤ (d.word 4).toNat → (d.word 4).toNat ≤ 1048576 → t.regionOfRange (d.dpa 2) ((d.word 4).toNat * 4096) = some (i, r) →
    r.cls = .cached → t.rings.ops = [] → t.mc.mode = .service →
    u = (t.startOp (.objectPlace (d.dpa 2 / 4096) (d.word 4).toNat 1) d.src (some (d.word 4).toNat)).activity → u.opAt t.nextOpSlot = some o →
    exec (.objectPlacePromotePin d) s = .next (u.promoteObject o (d.dpa 2 / 4096) (d.word 4).toNat true)) ∧
  (∀ (d : Desc) (i : Nat) (r : Region) (o : LongOp) (s t u : State), longRuns s d 3 t → d.word 6 = 0 → d.dpa 2 % 4096 = 0 →
    1 ≤ (d.word 4).toNat → (d.word 4).toNat ≤ 1048576 → t.regionOfRange (d.dpa 2) ((d.word 4).toNat * 4096) = some (i, r) →
    r.cls = .cached → t.rings.ops = [] → t.mc.mode = .service →
    u = (t.startOp (.objectPlace (d.dpa 2 / 4096) (d.word 4).toNat 2) d.src (some (d.word 4).toNat)).activity → u.opAt t.nextOpSlot = some o →
    exec (.objectPlaceUnpin d) s = .next (((List.range (d.word 4).toNat).foldl (fun s i => s.unpin255 (d.dpa 2 / 4096 + i)) u).endOp o .ok 0)) ∧
  (∀ (d : Desc) (i : Nat) (r : Region) (o : LongOp) (s t u : State), longRuns s d 3 t → d.word 6 = 0 → d.dpa 2 % 4096 = 0 →
    1 ≤ (d.word 4).toNat → (d.word 4).toNat ≤ 1048576 → t.regionOfRange (d.dpa 2) ((d.word 4).toNat * 4096) = some (i, r) →
    r.cls = .cached → t.rings.ops = [] → t.mc.mode = .service →
    u = (t.startOp (.objectPlace (d.dpa 2 / 4096) (d.word 4).toNat 3) d.src (some (d.word 4).toNat)).activity → u.opAt t.nextOpSlot = some o →
    exec (.objectPlaceDemote d) s = .next ((List.range (d.word 4).toNat).foldl
      (fun s i => (s.unpin255 (d.dpa 2 / 4096 + i)).startWriteback (d.dpa 2 / 4096 + i) false) u))

/-- Links of the CXL ports, resets and viral (R260 to R264, R268 to R272, R512). -/
def Obligations.CxlLinks : Prop :=
  (∀ (p : PortId) (s : State), s.mayTrain p.val = true → bifurLinks (s.bifur p.val) = 1 →
    exec (.cxlLinkUp p 0 16 4 3 true) s = .next ((s.setLink p.val 0 { CxlLink.down with
      up := true, width := 16, rate := 4, ver := 3, flit256 := true, viral := (s.linkAt p.val 0).viral, lds := s.presented p.val 0 3 }).log
        0x4001 .notice (srcPort p.val) p.val 1 3)) ∧
  (∀ (p : PortId) (l : LinkId) (s u : State), (s.linkAt p.val l.val).up = true → s.mc.mode = .service →
    u = s.dropRequests p.val (fun ld => s.ldLink p.val ld == l.val) → u.mc.mode = .service →
    exec (.cxlLinkDown p l) s = .next ((({ u with per := { u.per with
      gpf := u.per.gpf.filter fun g => ! (g.1 == p.val && g.2.1 == l.val) } }).setLink p.val l.val { CxlLink.down with
        viral := (s.linkAt p.val l.val).viral }).log 0x4001 .error (srcPort p.val) (p.val + 16 * l.val) 0 (s.linkAt p.val l.val).ver)) ∧
  (∀ (p : PortId) (l : LinkId) (s u : State), (s.linkAt p.val l.val).up = true → (s.linkAt p.val l.val).lds = 0 →
    u = (((s.dropRequests p.val fun ld => s.ldLink p.val ld == l.val).resetDecoders p.val (s.linkLds p.val l.val)).clearViral p.val l.val) →
    exec (.cxlHotReset p l) s = .next u) ∧
  (∀ (p : PortId) (ld : Fin 16) (s u : State), s.ldEnabled p.val ld.val = true →
    u = (((s.dropRequests p.val fun k => k == ld.val).resetDecoders p.val [ld.val]).clearViral p.val (s.ldLink p.val ld.val)) →
    u.ldLink p.val ld.val = s.ldLink p.val ld.val →
    ∃ v, exec (.cxlReset p ld) s = .next v ∧ v = u.log 0x4003 .notice (srcPort p.val) (u.portWord p.val ld.val) 2) ∧
  (∀ (p : PortId) (s u : State), s.mc.mode ≠ .off →
    u = { s with ports := { s.ports with perst := s.ports.perst ||| BitVec.ofNat 8 (2 ^ p.val) } } →
    exec (.perstAssert p) s = .next ((((((u.linkDown p.val 0).clearViral p.val 0).linkDown p.val 1).clearViral p.val 1 |>.linkDown p.val 2
      |>.clearViral p.val 2 |>.linkDown p.val 3 |>.clearViral p.val 3)).resetDecoders p.val (List.range 16))) ∧
  (∀ (p : PortId) (s : State), exec (.perstRelease p) s = .next { s with ports := { s.ports with
    perst := s.ports.perst &&& ~~~ BitVec.ofNat 8 (2 ^ p.val) } }) ∧
  (∀ (p : PortId) (l : LinkId) (s : State), (s.linkAt p.val l.val).up = true → (s.linkAt p.val l.val).viral = false →
    exec (.viralReceived p l) s = .next ((s.setLink p.val l.val { s.linkAt p.val l.val with viral := true }).log 0x4005 .error
      (srcPort p.val) (p.val + 16 * l.val))) ∧
  (∀ (p : PortId) (l : LinkId) (w : Word) (s : State), (s.linkAt p.val l.val).up = true → (s.linkAt p.val l.val).viral = false →
    exec (.viralSent p l w) s = .next ((s.setLink p.val l.val { s.linkAt p.val l.val with viral := true }).log 0x4004 .critical
      (srcPort p.val) (p.val + 16 * l.val) w.toNat))

/-- IDE of the links, the Ethernet links, the main rails and the reference clocks (R364 to R366, R291, R498, R503, R506). -/
def Obligations.IdeEthernetRailsAndClocks : Prop :=
  (∀ (p : PortId) (l : LinkId) (s : State), (s.linkAt p.val l.val).up = true → 2 ≤ (s.linkAt p.val l.val).ver → s.sec.doeSessions ≠ 0 →
    exec (.ideKmKSetGo p l .mem) s = .next (s.setLink p.val l.val { s.linkAt p.val l.val with ide := 1, macFails := [], ideStopped := false })) ∧
  (∀ (p : PortId) (l : LinkId) (x : IdeStream) (s : State), (s.linkAt p.val l.val).up = true →
    exec (.ideRekeyDue p l x) s = .next (s.log 0x7032 .notice (srcPort p.val) (p.val + 16 * l.val) x.id)) ∧
  (∀ (p : PortId) (l : LinkId) (s : State), (s.linkAt p.val l.val).up = true →
    exec (.ideCounterLimit p l .mem) s = .next (((s.setLink p.val l.val { s.linkAt p.val l.val with
      ide := 2, macFails := [], ideStopped := true }).log 0x7031 .error srcSec 1 p.val 1).log 0x4007 .error (srcPort p.val)
        (p.val + 16 * l.val) 0)) ∧
  (∀ (e : CwId) (s : State), s.mc.mode = .service → s.clk.refLost.getLsbD (4 + e.val / 2) = false → s.pw.railFault.getLsbD 3 = false →
    exec (.ethLinkUp e) s = .next { s with rdma := { s.rdma with ethUp := s.rdma.ethUp ||| BitVec.ofNat 4 (2 ^ e.val) } }) ∧
  (∀ (e : CwId) (s : State), exec (.ethLinkDown e) s = .next { s with rdma := { s.rdma with
    ethUp := s.rdma.ethUp &&& ~~~ BitVec.ofNat 4 (2 ^ e.val), paused := s.rdma.paused &&& ~~~ BitVec.ofNat 4 (2 ^ e.val) } }) ∧
  (∀ (r : Fin 6) (s : State), s.mc.mode = .service → s.pw.railEn.getLsbD r.val = true → s.pw.railFault.getLsbD r.val = false → r.val ≠ 3 →
    exec (.railFault r) s = .next (({ s with pw := { s.pw with
      railOk := s.pw.railOk &&& ~~~ BitVec.ofNat 6 (2 ^ r.val), railFault := s.pw.railFault ||| BitVec.ofNat 6 (2 ^ r.val) } }).log
        0x9021 .error srcPower r.val 1)) ∧
  (∀ (r : Fin 6) (s : State), s.mc.mode = .service → s.pw.railFault.getLsbD r.val = true → r.val ≠ 2 →
    exec (.railReturn r) s = .next (({ s with pw := { s.pw with
      railOk := s.pw.railOk ||| BitVec.ofNat 6 (2 ^ r.val), railFault := s.pw.railFault &&& ~~~ BitVec.ofNat 6 (2 ^ r.val) } }).log
        0x9021 .notice srcPower r.val 0)) ∧
  (∀ (s : State), s.mc.mode = .service → s.clk.refLost.getLsbD 6 = false →
    exec (.refclkLost 6) s = .next (({ s with clk := { s.clk with sys25 := false, holdover := true, refLost := s.clk.refLost ||| 64#7 } }).log
      0x9023 .error srcPower 6 1)) ∧
  (∀ (s : State), s.mc.mode = .service → s.clk.refLost.getLsbD 6 = true →
    exec (.refclkReturn 6) s = .next (({ s with clk := { s.clk with sys25 := true, holdover := false, refLost := s.clk.refLost &&& ~~~ 64#7 } }).log
      0x9023 .notice srcPower 6 0))

/-- Register accesses and the set-up lock (R3, R5, R6, R526 to R530, R534). -/
def Obligations.RegisterAccess : Prop :=
  (∀ (off : BitVec 26) (v : Word) (r : RegName) (i j w : Nat) (s : State), s.hostBar = true → off.toNat % 4 = 0 →
    locateReg off.toNat = some (r, i, j, w) → (r.fields.filter fun f => f.acc == .rc && f.word == w) = [] → r ≠ .TIER_LAYBY_STAT →
    r ≠ .NF_MAP → v = s.view false r i j w →
    exec (.counterReadClear false off 4) s = .next (s.emit (.regData false off.toNat [v.toNat % 2 ^ 32]))) ∧
  (∀ (off : BitVec 26) (r : RegName) (i j w : Nat) (s : State), s.hostBar = true → off.toNat % 4 = 0 →
    locateReg off.toNat = some (r, i, j, w) → (r.fields.filter fun f => f.acc == .rc && f.word == w) ≠ [] → r ≠ .TIER_LAYBY_STAT →
    r ≠ .NF_MAP →
    exec (.counterReadClear false off 4) s = .next (((((r.fields.filter fun f => f.acc == .rc && f.word == w).foldl
      (fun s f => s.setFld f 0 i j) s).clearKept r i (s.view false r i j w)).emit
        (.regData false off.toNat [(s.view false r i j w).toNat % 2 ^ 32])))) ∧
  (∀ (who : Writer) (off : BitVec 26) (v : BitVec 64) (env : RegEnv) (s : State), s.hostBar = true → s.bmcBar = true → s.ccRuns = true →
    off.toNat % 4 = 0 →
    exec (.registerWrite who off 4 v env) s = .next (s.writeWord who off.toNat (v.setWidth 32) (BitVec.allOnes 32) env)) ∧
  (∀ (who : Writer) (off : BitVec 26) (v : BitVec 64) (env : RegEnv) (s : State), s.hostBar = true → s.bmcBar = true → s.ccRuns = true →
    off.toNat % 4 ≠ 0 → exec (.registerWrite who off 4 v env) s = .next (s.bump GLB_ACC_ERR_PARTIAL)) ∧
  (∀ (off : BitVec 26) (s : State), s.hostBar = true → locateReg (off.toNat / 4 * 4) = none →
    exec (.unlistedAccess false true off false) s = .next (s.addFld GLB_ACC_ERR_UNMAPPED 1) ∧
    exec (.unlistedAccess false false off false) s =
      .next ((s.addFld GLB_ACC_ERR_UNMAPPED 1).emit (.regData false (off.toNat / 4 * 4) [0]))) ∧
  (∀ (s : State), s.hostBar = true → s.flag GLB_LOCK_LOCK = false →
    exec (.glbLockSet false) s = .next ((s.setFld GLB_LOCK_LOCK 1).setFld GLB_LOCK_SETTER 1)) ∧
  (∀ (t : Nat) (s : State), s.regu.serviceAt = some t → s.fld GLB_LOCK_AUTO_LOCK_MIN ≠ 0 →
    t + s.fld GLB_LOCK_AUTO_LOCK_MIN * 60 * 10 ^ 9 ≤ s.timeNs → s.flag GLB_LOCK_LOCK = false →
    exec .autoLock s = .next ((s.setFld GLB_LOCK_LOCK 1).setFld GLB_LOCK_SETTER 3))

/-- Keys: loading, erasing and rotating them, and the HKEK (R353 to R361). -/
def Obligations.KeysAndHkek : Prop :=
  (∀ (d : Desc) (key : WrappedKey) (k1 k2 : BitVec 256) (x : KeySlot) (s t : State), descRuns s d 4 t → (d.word 6).toNat = 124 →
    key.headerOk = true → key.slot.toNat = d.bits 2 11 0 → key.opened = some (true, k1, k2) → t.sec.store = .unlocked →
    t.keyRefs (d.bits 2 11 0) = 0 →
    x = { (t.keySlot (d.bits 2 11 0)).to .loaded with key1 := k1, key2 := k2, stored := some (k1, k2) } →
    exec (.keyLoad d key) s = .next (((t.setKeySlot (d.bits 2 11 0) x).log 0x7001 .info srcSec (d.bits 2 11 0) x.gen.toNat).complete d.src .ok)) ∧
  (∀ (d : Desc) (x : KeySlot) (s t : State), descRuns s d 4 t → d.word 6 = 0 → t.sec.store = .unlocked → t.keyRefs (d.bits 2 11 0) = 0 →
    x = { (t.keySlot (d.bits 2 11 0)).to .empty with key1 := 0, key2 := 0, stored := none } →
    exec (.keyLoadErase d) s = .next (((t.setKeySlot (d.bits 2 11 0) x).log 0x7002 .info srcSec (d.bits 2 11 0) x.gen.toNat).complete d.src .ok)) ∧
  (∀ (d : Desc) (r : Region) (s t : State), longRuns s d 4 t → t.region d.rgnIdx = r → r.valid = true → t.keyLoaded (d.bits 3 11 0) = true →
    t.sec.rotations = [] → d.bits 3 11 0 ≠ r.key.toNat →
    exec (.keyRotate d) s = .next (({ t with sec := { t.sec with
      rotations := [⟨d.rgnIdx, r.key.toNat, d.bits 3 11 0, 0, [], 0, t.nextOpSlot, false⟩] } }).startOp (.keyRotate d.rgnIdx (d.bits 3 11 0))
        d.src (some r.size.toNat))) ∧
  (∀ (i : Fin 4096) (x : Rotation) (s u : State), s.rotationOf i.val = some x → (s.region i.val).size.toNat ≤ x.cursor → x.waiting = true →
    s.inImages (s.region i.val) = false →
    u = ({ s with sec := { s.sec with rotations := s.sec.rotations.filter fun y => y.region != i.val } }).log 0x7004 .notice srcSec i.val x.old x.new →
    u.rings.ops = [] → exec (.rotateDone i) s = .next u) ∧
  (∀ (c : SpdmTransport) (h : BitVec 256) (s : State), s.ccRuns = true → s.buffered = [] → s.sec.refusedUntil ≤ s.timeNs →
    s.sec.store = .unprovisioned → s.sec.check = none →
    exec (.setHkek c h true) s = .next ((({ s with sec := { s.sec with
      check := some (checkValue h), swk := some (storeKey h) } }).setStore .unlocked).emit (.spdm c.code 3 true []))) ∧
  (∀ (c : SpdmTransport) (h : BitVec 256) (s : State), s.ccRuns = true → s.buffered = [] → s.sec.refusedUntil ≤ s.timeNs →
    s.sec.store = .locked → s.sec.check = some (checkValue h) →
    ∃ u : State, u = ({ (s.loadStored).2 with sec := { (s.loadStored).2.sec with swk := some (storeKey h) } } : State).setStore .unlocked ∧
      exec (.setHkek c h true) s = .next ((u.log 0x7011 .notice srcSec (s.loadStored).1 c.code).emit (.spdm c.code 3 true []))) ∧
  (∀ (c : SpdmTransport) (h : BitVec 256) (s : State), s.ccRuns = true → s.buffered = [] → s.sec.refusedUntil ≤ s.timeNs →
    s.sec.store = .unlocked → exec (.setHkekReplace c h true) s = .next (({ s with sec := { s.sec with
      check := some (checkValue h), swk := some (storeKey h) } }).emit (.spdm c.code 3 true [])))

/-- Alarms, entropy, masks and SPDM sessions (R363, R367 to R371). -/
def Obligations.AlarmsAndAttestation : Prop :=
  (∀ (k : Fin 4) (n : Nat) (s u : State), k.val ≠ 3 → s.sec.alarms ≠ 0xFFFF#16 →
    u = ({ s with sec := { s.sec with
      latched := s.sec.latched ||| BitVec.twoPow 4 k.val, active := s.sec.active ||| BitVec.twoPow 4 k.val
      alarms := s.sec.alarms + 1 } } : State).zeroise .hold →
    exec (.alarmZeroise k [] n) s = .next (u.log 0x7010 .critical srcSec u.sec.latched.toNat
      (s.sec.slots.countP fun e => e.2.st == .loaded) n)) ∧
  (∀ (b : BitVec 4) (s : State), s.sec.latched = b → b ≠ 0 → s.sec.store = .hold → s.sec.check = none →
    exec (.alarmClear b 15) s = .next (({ s with sec := { s.sec with
      latched := 0, active := 0, reseeds := s.sec.reseeds + 1 } }).setStore .unprovisioned)) ∧
  (∀ (k : Fin 3) (s : State), s.sec.entropyOk = true →
    exec (.entropyFail k) s = .next (({ s with sec := { s.sec with entropyOk := false } }).log 0x7020 .critical srcSec k.val)) ∧
  (∀ (n : Nat) (s : State), s.sec.entropyOk = false → s.sec.maskDegraded = false →
    exec (.maskDegraded n) s = .next (({ s with sec := { s.sec with maskDegraded := true } }).log 0x7021 .error srcSec n)) ∧
  (∀ (s : State), exec .entropyRecover s = .next { s with sec := { s.sec with
    entropyOk := true, maskDegraded := false, reseeds := s.sec.reseeds + 1 } }) ∧
  (∀ (s : State), s.sec.entropyOk = true → exec .drbgReseed s = .next { s with sec := { s.sec with reseeds := s.sec.reseeds + 1 } }) ∧
  (∀ (c : SpdmTransport) (i : Fin 9) (s : State), s.ccRuns = true → s.buffered = [] →
    exec (.spdmGetMeasurements c i true) s = .next (s.emit (.spdm c.code 1 true (s.measurement i.val)))) ∧
  (∀ (b : Bool) (s : State), s.ccRuns = true → s.buffered = [] → s.sec.entropyOk = true → s.sec.doeSessions < 4 →
    exec (.spdmKeyExchange .doe true b) s = .next (({ s with sec := { s.sec with
      doeSessions := s.sec.doeSessions + 1, keyManager := s.sec.keyManager || b } }).emit (.spdm 1 2 true [])))

/-- Stacks: heartbeats, elections, the hand-back and the range check (R462 to R471). -/
def Obligations.StackService : Prop :=
  (∀ (s u : State), s.stackRuns = true → s.isMaster = true → s.stk.seated = true → s.fld GLB_STACK_CFG_SIZE_M1 = 1 → s.stackPos = 0 →
    s.stk.missed = [] → s.stk.live = 3#4 → u = s.emit (.stack 0 [0]) →
    exec (.heartbeatSend []) s = .next (let v := ({ u with stk := { u.stk with missed := [(1, 1)], lastHb := s.timeNs } } : State).setLive 3#4
      { v with stk := { v.stk with reports := v.stk.reports.filter fun e => (3#4).getLsbD e.1 } })) ∧
  (∀ (m : Fin 4) (live : BitVec 4) (s u : State), s.stackRuns = true → m.val ≠ s.stackPos → s.stk.seated = true → s.stk.master = m.val →
    u = ({ s with stk := { s.stk with lastHb := s.timeNs } } : State).setLive
      (live ||| BitVec.twoPow 4 m.val ||| BitVec.twoPow 4 s.stackPos) →
    exec (.heartbeatReceive m live false) s = .next (u.emit (.stack 1 [s.stackPos, u.mc.mode.code, u.per.guard.code])).resumeRegionCmds) ∧
  (∀ (rs : List StackRegion) (s u : State), s.stackRuns = true → s.isMaster = false →
    s.stk.lastHb + (s.fld GLB_STACK_CFG_ELECT_MS + 20 * s.stackPos) * 1000000 ≤ s.timeNs → 
    u = (s.setMaster s.stackPos 2).setLive ((s.setMaster s.stackPos 2).stk.live ||| BitVec.twoPow 4 s.stackPos) →
    exec (.stackElection rs) s = .next ((({ u with stk := { u.stk with ranges := rs.filter fun r => r.member != s.stackPos } }).emit
      (.stack 0 [s.stackPos])).resumeRegionCmds)) ∧
  (∀ (who : Writer) (s : State), s.stackRuns = true → s.isMaster = true → s.stk.live.getLsbD 0 = true → 0 < s.stackPos →
    exec (.handback who false) s = .next ((s.setMaster 0 3).emit (.stack 3 [0]))) ∧
  (∀ (x : StackRegion) (i : Fin 4096) (s : State), s.stackRuns = true → x.member ≠ s.stackPos → s.isMaster = true →
    stackClash (s.ownRanges ++ s.stk.ranges.filter fun r => s.stk.live.getLsbD r.member) x = none →
    exec (.stackRangeCheck x i) s = .next (({ s with stk := { s.stk with ranges := s.stk.ranges ++ [x] } }).emit (.stack 4 [x.member, i.val, 1]))) ∧
  (∀ (x : StackRegion) (i : Fin 4096) (m f : Nat) (s : State), s.stackRuns = true → x.member ≠ s.stackPos → s.isMaster = true →
    stackClash (s.ownRanges ++ s.stk.ranges.filter fun r => s.stk.live.getLsbD r.member) x = some (m, f) →
    exec (.stackRangeCheck x i) s = .next ((s.log 0x8063 .notice srcStack i.val m f).emit (.stack 4 [x.member, i.val, 0]))) ∧
  (∀ (s : State), s.stk.waiting ≠ [] → s.electing = true → s.stk.waitFrom + 10 ^ 9 ≤ s.timeNs →
    exec .electionCommandTimeout s = .next (s.stk.waiting.foldl (fun s d => s.complete d.src .busy)
      { s with stk := { s.stk with waiting := [] } }))

/-- CXL.mem requests of a host (R26, R64 to R67, R265): a request that reaches an LD is served, answered with poison or dropped, as its
decoder, its region, its key and the mode give. -/
def Obligations.HostMemoryRequests : Prop :=
  (∀ (p : PortId) (ld : Fin 16) (a : BitVec 52) (tag dpa i : Nat) (r : Region) (errs : List (Fin 40)) (wb mac : Bool) (s t : State),
    s.portAccepts p.val ld.val = true → ((s.linkAt p.val (s.ldLink p.val ld.val)).ide = 1 → mac = true) → t = (s.takeEntry p.val ld.val).activity →
    (s.takeEntry p.val ld.val).mc.mode.serving = true → t.memAccess p.val ld.val a.toNat = .allowed i r dpa →
    exec (.cxlMemRead p ld a tag errs wb mac) s =
      .next (t.serveRead ⟨.host p.val ld.val tag, dpa / 64, t.timeNs, false, false, t.rgn.epoch⟩ i r (errs.map Fin.val) wb)) ∧
  (∀ (p : PortId) (ld : Fin 16) (a : BitVec 52) (tag dpa i : Nat) (r : Region) (x : LineData) (be : BitVec 64) (poison mac : Bool) (s t : State),
    s.portAccepts p.val ld.val = true → s.admFull (p.val / 2) = false → ((s.linkAt p.val (s.ldLink p.val ld.val)).ide = 1 → mac = true) →
    t = (s.takeEntry p.val ld.val).activity → (s.takeEntry p.val ld.val).mc.mode.serving = true →
    ((s.takeEntry p.val ld.val).linkAt p.val (s.ldLink p.val ld.val)).viral = false → t.memAccess p.val ld.val a.toNat = .allowed i r dpa →
    exec (.cxlMemWrite p ld a tag x be poison mac) s =
      .next (t.storeWrite (t.newWrite (p.val / 2) (dpa / 64) x be poison (.host p.val ld.val tag)) i r)) ∧
  (∀ (p : PortId) (ld : Fin 16) (a : BitVec 52) (tag dpa : Nat) (errs : List (Fin 40)) (wb mac : Bool) (s t : State),
    s.portAccepts p.val ld.val = true → ((s.linkAt p.val (s.ldLink p.val ld.val)).ide = 1 → mac = true) → t = (s.takeEntry p.val ld.val).activity →
    (s.takeEntry p.val ld.val).mc.mode.serving = true →
    (t.memAccess p.val ld.val a.toNat = .unmapped dpa →
      exec (.cxlMemRead p ld a tag errs wb mac) s = .next (((t.bump RGN_UNMAPPED_CNT_COUNT).logLim 0x4020 p.val .notice srcRgn
        (t.portWord p.val ld.val, dpa % 2 ^ 32, dpa / 2 ^ 32, 1) fun l =>
          { l with w7 := l.w7 + 1 }).answerRead (.host p.val ld.val tag) 0 poisonLine)) ∧
    (t.memAccess p.val ld.val a.toNat = .denied dpa →
      exec (.cxlMemRead p ld a tag errs wb mac) s = .next (((t.bump RGN_DENY_CNT_COUNT).logLim 0x4021 p.val .notice srcRgn
        (t.portWord p.val ld.val, dpa % 2 ^ 32, dpa / 2 ^ 32, 1) fun l =>
          { l with w7 := l.w7 + 1 }).answerRead (.host p.val ld.val tag) 0 poisonLine))) ∧
  (∀ (p : PortId) (ld : Fin 16) (a : BitVec 52) (tag : Nat) (errs : List (Fin 40)) (wb mac : Bool) (s t : State),
    s.portAccepts p.val ld.val = true → ((s.linkAt p.val (s.ldLink p.val ld.val)).ide = 1 → mac = true) → t = s.takeEntry p.val ld.val →
    t.mc.mode.serving = false →
    exec (.cxlMemRead p ld a tag errs wb mac) s =
      .next ((t.bump PRT_NOT_READY_CNT_COUNT p.val).answerRead (.host p.val ld.val tag) 0 poisonLine)) ∧
  (∀ (ch : ChId) (l i : Nat) (m : Merge) (r : Region) (errs : List (Fin 40)) (s t : State),
    ((s.ch ch.val).merges.find? fun m => m.line == l && ! m.recovering) = some m → s.regionOf (64 * l) = some (i, r) →
    (s.page (l / 64)).st ≠ .filling →
    s.decodeLine l ⟨ch.val, (s.dramAddr r (64 * l) (s.page (l / 64)).way).addr⟩ (errs.map Fin.val) false = (.good, t) →
    (t.line l).checks l = true →
    exec (.readMergeWrite ch l errs false) s = .next (t.mergeEnds ch.val l (mergeLine (t.line l) m.data m.be))) ∧
  (∀ (s : State), exec .admissionRelease s = .next s.releaseOne) ∧
  (∀ (cw : CwId) (w : AdmWrite) (s t : State), (s.per.adm.find? fun w => w.cw == cw.val) = some w →
    t = { s with per := { s.per with adm := s.per.adm.erase w, stallFrames := 0 } } →
    exec (.stallLimitExpiry cw) s = .next ((t.stallEnds w true).resumeWrite w true)) ∧
  (∀ (l : Nat) (rd : PendingRead) (s : State), s.tier.reads = [rd] → rd.line = l → s.chans = [] →
    exec (.detourTimeout l) s = .next ((({ s with tier := { s.tier with reads := [] } } : State).timeOutRead rd)))

/-- Write-back, write-through, fills and the ladder of read steps (R109 to R123, R210 to R214, R79). -/
def Obligations.WritebackAndFills : Prop :=
  (∀ (k i : Nat) (r : Region) (s : State), s.regionOf (4096 * k) = some (i, r) → (s.page k).st = .dirty → s.fullRate = true → r.cls ≠ .scratch →
    s.keysLoaded i r = true → s.tier.retryOff = [] → (∀ l ∈ pageLines k, (s.line l).poison = true ∨ (s.line l).checks l = true) →
    (∃ w, ((s.startWriteback k false).tier.wbs.find? fun w => w.page == k) = some w) → (s.tier.wbs.any fun w => w.page == k) = false →
    exec (.writebackStart k [] .won) s = .next (s.startWriteback k false)) ∧
  (∀ (k : Nat) (w : WriteBack) (s t : State), (s.tier.wbs.find? fun w => w.page == k) = some w →
    t = (({ s with tier := { s.tier with wbs := s.tier.wbs.filter fun x => x.page != k } } : State).unpark k).programHome k w.lines w.loc →
    exec (.writebackProgramDone k) s =
      .next ((if (t.page k).st = .writingBack then t.pageHome k else t).afterWriteback k)) ∧
  (∀ (k : Nat) (w : WriteBack) (loc : HomeLoc) (s t : State), (s.tier.wbs.find? fun w => w.page == k) = some w → w.failed = false →
    (s.programFailed w.loc 1).allocSame w.loc.ch = some (loc, t) →
    exec (.nandProgramFail k) s = .next { t with tier := { t.tier with
      wbs := t.tier.wbs.map fun (x : WriteBack) => if x.page = k then { x with failed := true, loc := loc } else x } }) ∧
  (∀ (k : Nat) (w : WriteThrough) (loc : HomeLoc) (s t : State), (s.per.wts.find? fun t => t.page == k) = some w → w.started = false →
    (s.page k).st ≠ .filling → (s.chans.any fun c => c.2.merges.any fun m => m.line / 64 == k) = false →
    s.allocHome k ((s.tier.retryOff.find? fun e => e.1 == k).map Prod.snd) = some (loc, t) →
    exec (.writeThroughStart k) s = .next { t with per := { t.per with
      wts := t.per.wts.map fun (x : WriteThrough) => if x = w then { x with started := true, loc := some loc } else x } }) ∧
  (∀ (k : Nat) (w : WriteThrough) (s : State), (s.per.wts.find? fun t => t.page == k && t.started && t.loc.isSome) = some w →
    exec (.writeThroughDone k) s = .next (s.throughDone k w)) ∧
  (∀ (k : Nat) (f : Fill) (s : State), (s.tier.fills.find? fun f => f.page == k) = some f →
    ((s.regionOf (4096 * k)).any fun e => ! s.keysLoaded e.1 e.2) = false → (s.unpark k).nand.lost.contains k = false →
    (∀ l ∈ pageLines k, ((s.unpark k).storedLine l).poison = true ∨ ((s.unpark k).storedLine l).checks l = true) →
    exec (.fillDone k []) s = .next ((s.unpark k).fillEnds f (s.unpark k).storedLine)) ∧
  (∀ (k : Nat) (f : Fill) (loc : HomeLoc) (best : Fin 11) (s t : State), (s.tier.fills.find? fun f => f.page == k) = some f → t = s.unpark k →
    t.fillLoc f = some loc → 
    exec (.readStepDone k true best .won) s = .next (t.setBlock loc.ch loc.die loc.block { t.block loc.ch loc.die loc.block with
      step := if f.step = 12 then best.val + 1 else f.step
      deep := ((t.block loc.ch loc.die loc.block).deep.filter fun x => decide (t.timeNs < x + 3600 * 10 ^ 9)) ++
        (if 8 ≤ f.step then [t.timeNs] else []) })) ∧
  (∀ (k : Nat) (f : Fill) (best : Fin 11) (b : BusUse) (s : State), (s.tier.fills.find? fun f => f.page == k) = some f → f.step = 12 →
    exec (.readStepDone k false best b) s = .next ((s.unpark k).ladderFails f) ∧
    exec (.readLadderCutoff k) s = .next (s.ladderFails f)) ∧
  (∀ (k : Nat) (f : Fill) (s : State), (s.tier.fills.find? fun f => f.page == k) = some f → f.step ≠ 12 →
    exec (.readLadderCutoff k) s = .next { s with tier := { s.tier with
      fills := s.tier.fills.map fun (x : Fill) => if x.page = k then { x with cut := true } else x } }) ∧
  (∀ (k i : Nat) (r : Region) (s t : State) (f : Fill), s.regionOf (4096 * k) = some (i, r) → r.refilling = true → (s.page k).st = .filling →
    (s.tier.fills.find? fun f => f.page == k) = some f → t = s.fillEnds f s.storedLine → t.unfilled r = true →
    exec (.backgroundRefill k []) s = .next t) ∧
  (∀ (image : Bool) (k : Nat) (loc : HomeLoc) (s t : State), (s.image image).holds k = true → (s.page k).st = .invalid → (s.page k).counted = false →
    s.allocHome k = some (loc, t) →
    exec (.imageMoveHome image k) s = .next ((t.programHome k ((pageLines k).map t.storedLine) loc).pageHome k))

/-- The RDMA responder: requests in sequence on a queue pair in RTS whose key check passes (R291, R293 to R296). The sequence rule used
here is the model's (R296 leaves it to the specification named in R290). -/
def Obligations.RdmaRequests : Prop :=
  (∀ (h : RdmaHdr) (r : RdmaReth) (bytes : List Byte) (q dpa : Nat) (g : Nat × Region) (s u : State), s.rdmaStalled h = false →
    requestRuns s h q 1 u → (u.qp q).open_ = none → bytes ≠ [] → bytes.length = r.len.toNat → bytes.length ≤ (u.qp q).mtu →
    u.mkeyGrants q r.rkey r.va.toNat r.len.toNat 2 = some (g.1, g.2, dpa) →
    exec (.rdmaWrite h (some r) true bytes) s = .next (u.rdmaWriteBytes q h.psn.toNat dpa bytes true)) ∧
  (∀ (h : RdmaHdr) (r : RdmaReth) (errs : List (Nat × List (Fin 40))) (wb : List Nat) (q dpa dpa' : Nat) (g g' : Nat × Region) (s u : State),
    s.mkeyGrants (h.qpn.toNat - 0x400) r.rkey r.va.toNat r.len.toNat 1 = some (g'.1, g'.2, dpa') →
    s.writesAhead (h.qpn.toNat - 0x400) (dpa' / 64) (r.len.toNat / 64 + 2) = false →
    requestRuns s h q ((s.qp q).packets r.len.toNat) u → r.len.toNat ≤ 2 ^ 30 → (u.qp q).outstanding < 64 →
    ((s.activity.congested q h.ce).qp q).packets r.len.toNat = (s.qp q).packets r.len.toNat →
    u.mkeyGrants q r.rkey r.va.toNat r.len.toNat 1 = some (g.1, g.2, dpa) →
    exec (.rdmaRead h r errs wb) s = .next (u.rdmaReadLines q h.psn.toNat dpa r.len.toNat (errs.map fun e => (e.1, e.2.map Fin.val)) wb)) ∧
  (∀ (h : RdmaHdr) (rkey : Word) (va x y : BitVec 64) (q l : Nat) (s u t : State), s.rdmaStalled h = false →
    l = ((s.mkeyGrants q rkey va.toNat 8 3).map fun g => g.2.2 / 64).getD 0 → s.writesAhead q l 1 = false →
    requestRuns s h q 1 u → t = u.rdmaAtomic q h.psn.toNat rkey va.toNat 3 true (fun v => if v = x then some y else none) →
    ((t.tier.wayWrites ++ t.per.adm).any fun w => w.req == .rdma q h.psn.toNat l) = false →
    exec (.compareSwap h rkey va x y) s = .next t) ∧
  (∀ (h : RdmaHdr) (rkey : Word) (va x : BitVec 64) (q l : Nat) (s u t : State), s.rdmaStalled h = false →
    l = ((s.mkeyGrants q rkey va.toNat 8 3).map fun g => g.2.2 / 64).getD 0 → s.writesAhead q l 1 = false →
    requestRuns s h q 1 u → t = u.rdmaAtomic q h.psn.toNat rkey va.toNat 3 true (fun v => some (v + x)) →
    ((t.tier.wayWrites ++ t.per.adm).any fun w => w.req == .rdma q h.psn.toNat l) = false →
    exec (.fetchAdd h rkey va x) s = .next t) ∧
  (∀ (h : RdmaHdr) (rkey : Word) (va x : BitVec 64) (q l : Nat) (s u t : State), s.rdmaStalled h = false →
    l = ((s.mkeyGrants q rkey va.toNat 8 2).map fun g => g.2.2 / 64).getD 0 → s.writesAhead q l 1 = false →
    requestRuns s h q 1 u → t = u.rdmaAtomic q h.psn.toNat rkey va.toNat 2 false (fun _ => some x) →
    ((t.tier.wayWrites ++ t.per.adm).any fun w => w.req == .rdma q h.psn.toNat l) = false →
    exec (.atomicWrite h rkey va x) s = .next t) ∧
  (∀ (h : RdmaHdr) (r : RdmaReth) (persist : Bool) (q : Nat) (g : Nat × Region × Nat) (s u : State),
    requestRuns s h q 1 u → r.len.toNat ≤ 2 ^ 30 → (u.qp q).outstanding < 64 →
    u.mkeyGrants q r.rkey r.va.toNat r.len.toNat 4 = some g →
    exec (.rdmaFlush h r persist) s = .next (u.rdmaFlush q h.psn.toNat persist)) ∧
  (∀ (h : RdmaHdr) (r : RdmaReth) (bytes : List Byte) (q : Nat) (s u : State), s.rdmaStalled h = false →
    requestRuns s h q 1 u → (u.qp q).open_ = none → bytes ≠ [] → bytes.length = r.len.toNat → bytes.length ≤ (u.qp q).mtu →
    u.mkeyGrants q r.rkey r.va.toNat r.len.toNat 2 = none →
    exec (.rdmaWrite h (some r) true bytes) s = .next (u.accessFails q h.psn.toNat r.rkey))

/-- The RDMA requester: responses, refusals, timeouts, gates, congestion and pause (R301 to R311). -/
def Obligations.RdmaRequester : Prop :=
  (∀ (h : RdmaHdr) (q : Nat) (s t : State), packetRuns s h q t →
    exec (.rdmaResponse h .ack) s = .next ((t.setQp q { t.qp q with items := ackItems h.psn.toNat (t.qp q).items }).retire q)) ∧
  (∀ (h : RdmaHdr) (q i : Nat) (s t u : State), packetRuns s h q t →
    u = State.retireItems q (t.qp q).items.length
      (t.setQp q { t.qp q with items := ackItems ((h.psn.toNat + 2 ^ 24 - 1) % 2 ^ 24) (t.qp q).items }) →
    ((u.qp q).items.findIdx? fun it => it.started && it.left != 0) = some i →
    exec (.rdmaNakReceived h .access) s = .next (u.qpError q 2 h.psn.toNat (some (i, .notPermitted))) ∧
    exec (.rdmaNakReceived h .operational) s = .next (u.qpError q 3 h.psn.toNat (some (i, .dataError)))) ∧
  (∀ (q : Fin 8192) (i : Nat) (it : QpItem) (s : State), (s.qp q).st = .rts → s.mc.mode.serving = true →
    ((s.qp q).items.findIdx? fun it => it.started && it.left != 0) = some i → (s.qp q).items[i]? = some it →
    (s.qp q).retry ≤ (s.qp q).retries →
    exec (.ackTimeout q) s = .next (s.qpError q 1 ((s.qp q).firstPsn it) (some (i, .timeout)))) ∧
  (∀ (d : Desc) (q w : Nat) (s t : State), descRuns s d 1 t → q = d.bits 2 12 0 → w = d.bits 3 12 0 → w ≠ q →
    (t.qp w).isReq = true → (t.qp q).isReq = true → (t.qp w).st ≠ .reset → (t.qp q).st = .rts →
    ((t.qp w).items.any fun it => it.kind == .gate && it.watch == q) = false → t.itemsFull q = false →
    exec (.gateSet d) s = .next (t.postItem q ⟨.gate, 0, 0, 0, 0, 0, false, w, d.word 4, none, false, 0, 0, d.src⟩)) ∧
  (∀ (q : Fin 8192) (it : QpItem) (rest : List QpItem) (s u : State), (s.qp q).items = it :: rest → it.kind = .gate → s.gateMet it = false →
    it.headAt.isSome = true → (∀ y ∈ rest, y.kind ≠ .gate) →
    u = rest.foldl (fun s y => s.endItem y .cancelled) ((s.setQp q { s.qp q with items := [] }).endItem it .gateExpired) →
    exec (.gateExpired q) s = .next ((u.log 0x4042 .notice srcRdma q it.watch it.target.toNat rest.length).pumpQueue q)) ∧
  (∀ (h : RdmaHdr) (q : Nat) (s t : State) (cur : Rat), packetRuns s h q t →
    cur = (if ((t.bump RDMA_CNP_RCV_CNT_COUNT).qp q).paced then ((t.bump RDMA_CNP_RCV_CNT_COUNT).qp q).current else ethRate) →
    exec (.cnpReceived h) s = .next ((t.bump RDMA_CNP_RCV_CNT_COUNT).setQp q { (t.bump RDMA_CNP_RCV_CNT_COUNT).qp q with
      paced := true, target := cur, current := max 100 (cur * (1 - ((t.bump RDMA_CNP_RCV_CNT_COUNT).qp q).alpha / 2)),
      alpha := (255 * ((t.bump RDMA_CNP_RCV_CNT_COUNT).qp q).alpha + 1) / 256, steps := 0 })) ∧
  (∀ (q : Fin 8192) (s : State), (s.qp q).paced = true → ((s.qp q).steps + 1) % 5 ≠ 0 →
    exec (.rateTimer q) s = .next (s.setQp q { s.qp q with
      alpha := 255 * (s.qp q).alpha / 256, current := ((s.qp q).target + (s.qp q).current) / 2, steps := (s.qp q).steps + 1 })) ∧
  (∀ (q : Fin 8192) (s : State), (s.qp q).paced = true → ((s.qp q).steps + 1) % 5 = 0 →
    exec (.rateTimer q) s = .next (s.setQp q { s.qp q with
      alpha := 255 * (s.qp q).alpha / 256, current := ((s.qp q).target + (s.qp q).current) / 2, steps := (s.qp q).steps + 1,
      target := min ethRate ((s.qp q).target + s.fld RDMA_CC_RATE_AI * 10) })) ∧
  (∀ (e : CwId) (p : Fin 8) (s : State), (s.fld RDMA_CTL_PFC_EN).testBit e.val = true → s.fld RDMA_CTL_PFC_PRIO = p.val →
    exec (.pfcPauseReceived e p true) s = .next { s with rdma := { s.rdma with paused := s.rdma.paused ||| BitVec.ofNat 4 (2 ^ e.val) } }) ∧
  (∀ (q : Fin 8192) (s : State), ((s.qp q).items.findIdx? fun it => it.started && it.left != 0) = none →
    exec (.ackTimeout q) s = .next s)

/-- The states of a queue pair and the VALID bit of a memory key (R292, R293). -/
def Obligations.QueuePairStates : Prop :=
  (∀ (q : Fin 8192) (who : Writer) (s : State), (s.qp q).st = .reset → s.qpReady q = true →
    exec (.qpStateRts q who) s = .next (s.setQp q { s.qp q with st := .rts })) ∧
  (∀ (q : Fin 8192) (who : Writer) (s : State), (s.qp q).st = .reset → s.qpReady q = false →
    exec (.qpStateRts q who) s = .next (s.reject qpCtxOff 1 4 who q)) ∧
  (∀ (q : Fin 8192) (who : Writer) (s : State), (s.qp q).st = .rts →
    exec (.qpStateError q who) s = .next (s.qpError q 6 (s.qp q).sqPsn none) ∧
    exec (.qpStateReset q who) s = .next (s.stopQp q .resetting none)) ∧
  (∀ (q : Fin 8192) (who : Writer) (s : State), (s.qp q).st = .error →
    exec (.qpStateReset q who) s = .next (s.stopQp q .resetting none)) ∧
  (∀ (q : Fin 8192) (who : Writer) (s : State), (s.qp q).st = .resetting →
    exec (.qpStateRts q who) s = .next (s.reject qpCtxOff 1 6 who q) ∧
    exec (.qpStateError q who) s = .next (s.reject qpCtxOff 2 6 who q) ∧
    exec (.qpStateReset q who) s = .next (s.reject qpCtxOff 0 6 who q)) ∧
  (∀ (q : Fin 8192) (s : State), (s.qp q).st = .resetting → s.qpBusy q = false →
    exec (.qpResetDone q) s = .next (s.setQp q { Qp.reset with ctx := (s.qp q).ctx, compCnt := (s.qp q).compCnt })) ∧
  (∀ (k : Fin 16384) (s : State) (ws : List Word), ws = Sparse.get (fun _ => keyReset) s.rdma.keys k.val →
    exec (.mkeyValidSet k true) s = .next { s with rdma := { s.rdma with
      keys := Sparse.set (fun _ => keyReset) s.rdma.keys k.val ((ws.set 0 (ws.getD 0 0 ||| 1)).set 7 ((ws.getD 7 0 &&& 0xFFFF#32) |||
        (BitVec.ofNat 32 (s.region ((ws.getD 0 0).extractLsb' 16 12).toNat).gen.toNat <<< 16))) } } ∧
    exec (.mkeyValidSet k false) s = .next { s with rdma := { s.rdma with
      keys := Sparse.set (fun _ => keyReset) s.rdma.keys k.val (ws.set 0 (ws.getD 0 0 &&& 0xFFFFFFFE#32)) } })

/-- The background tests: patrol, layby march, disturb patrol and eye scans (R484 to R489). -/
def Obligations.BackgroundTests : Prop :=
  (∀ (ch : ChId) (errs : List (Fin 40)) (n : Nat) (s u : State) (fixed : Bool), n = ch.val → s.testsRun = true → s.flag GLB_IST_CTL_PATROL_EN = true →
    (s.ch n).st = .active → (s.patrol n).cursor + 1 < s.chLines n →
    (s.ch n).released.getLsbD (s.dram ⟨n, 64 * (s.patrol n).cursor⟩).rank = false →
    s.patrolDecode n (64 * (s.patrol n).cursor) (errs.map Fin.val) = (fixed, u) → u.chLines n = s.chLines n →
    u.patrolLag n { s.patrol n with cursor := (s.patrol n).cursor + 1, fixed := (s.patrol n).fixed + fixed.toNat } ≤ (s.patrol n).behind →
    exec (.patrolRead ch errs) s = .next (u.setPatrol n { s.patrol n with
      cursor := (s.patrol n).cursor + 1, fixed := (s.patrol n).fixed + fixed.toNat
      behind := u.patrolLag n { s.patrol n with cursor := (s.patrol n).cursor + 1, fixed := (s.patrol n).fixed + fixed.toNat } })) ∧
  (∀ (ch : ChId) (s : State), s.testsRun = true → s.flag GLB_IST_CTL_PATROL_EN = true → exec (.patrolWake ch) s = exec (.channelWake ch) s) ∧
  (∀ (ch : ChId) (s u : State), s.testsRun = true → s.flag GLB_IST_CTL_MARCH_EN = true → (s.tier.lent.any fun e => e.1 == ch.val) = false →
    u = { s with tests := { s.tests with
      march := Sparse.set (fun _ => 0) s.tests.march ch.val ((Sparse.get (fun _ => 0) s.tests.march ch.val + 1) % 1024) } } →
    exec (.laybyMarchSlot ch true) s = .next u ∧
    exec (.laybyMarchSlot ch false) s = .next (u.retireSlot ch.val (Sparse.get (fun _ => 0) s.tests.march ch.val))) ∧
  (∀ (nf : NfId) (die block : Nat) (step : Fin 13) (best : Fin 11) (s u : State) (b : NandBlock), s.testsRun = true →
    s.flag GLB_IST_CTL_DISTURB_EN = true → (s.nf nf.val).st = .serving → b = s.block nf.val die block → b.state ≠ .erased → b.state ≠ .erasing →
    1 ≤ step.val → step.val < 8 →
    u = s.addFld NF_RETRY_CNT_COUNT ((ladder b.step).findIdx (· == step.val)) nf.val →
    exec (.disturbPatrolRead nf die block step best) s = .next (let v := u.setBlock nf.val die block { b with
        step := step.val, deep := b.deep.filter fun t => decide (u.timeNs < t + 3600 * 10 ^ 9) }
      { v with tests := { v.tests with suspect := v.tests.suspect.filter fun k => k != blockKey nf.val die block } })) ∧
  (∀ (lane : Fin 160) (s : State), s.testsRun = true → s.flag GLB_IST_CTL_EYE_EN = true → s.laneUp lane.val = true →
    s.tests.scans.contains lane.val = false →
    exec (.eyeScanStart lane) s = .next { s with tests := { s.tests with scans := s.tests.scans ++ [lane.val] } }) ∧
  (∀ (lane : Fin 160) (h w : Nat) (s u : State), s.tests.scans.contains lane.val = true → s.testsRun = true → s.laneUp lane.val = true →
    h ≤ 0x3FF → w ≤ 0x3FF → 
    u = { s with tests := { s.tests with
      scans := s.tests.scans.filter (fun x => x != lane.val)
      eyes := (s.tests.eyes.filter fun e => e.1 != lane.val) ++ [(lane.val, (⟨h, w, s.timeNs⟩ : Eye))] } } →
    (s.fld GLB_EYE_MIN_HEIGHT_MV ≤ h → s.fld GLB_EYE_MIN_WIDTH_MUI ≤ w → exec (.eyeScanDone lane h w true) s = .next u) ∧
    (h < s.fld GLB_EYE_MIN_HEIGHT_MV →
      exec (.eyeScanDone lane h w true) s =
        .next (u.log 0x4050 .notice (if lane.val < 128 then srcPort (lane.val / 16) else srcEth ((lane.val - 128) / 8)) lane.val h w)))

/-- The JTAG instructions and the built-in test: what each loads and sends, and that MAINTENANCE alone runs the intrusive ones
(R490 to R493). -/
def Obligations.TestAccessPort : Prop :=
  (∀ (s : State) (op : Nat), s.mc.mode ≠ .maintenance →
    ∀ i ∈ [(0x03, Instr.extest op), (0x04, .extestPulse op), (0x05, .extestTrain op), (0x06, .clamp), (0x07, .highz), (0x10, .mbist),
      (0x11, .scan)],
    exec i.2 s = .next (({ s with tests := { s.tests with tap := 0xFF } }).log 0x8050 .notice srcCc i.1 s.mc.mode.code)) ∧
  (∀ (s : State), exec .idcode s =
    .next (({ s with tests := { s.tests with tap := 0x01 } }).emit (.jtag 0x01 (1 + 2 * s.fld GLB_ID_MFR + 2 ^ 12 * 0x6416 + 2 ^ 28)))) ∧
  (∀ (s : State) (pins : Nat), exec (.samplePreload pins) s = .next (({ s with tests := { s.tests with tap := 0x02 } }).emit (.jtag 0x02 pins))) ∧
  (∀ (s : State) (pins : Nat), s.mc.mode = .maintenance →
    exec (.extest pins) s = .next (({ s with tests := { s.tests with tap := 0x03 } }).emit (.jtag 0x03 pins)) ∧
    exec (.extestPulse pins) s = .next (({ s with tests := { s.tests with tap := 0x04 } }).emit (.jtag 0x04 pins)) ∧
    exec (.extestTrain pins) s = .next (({ s with tests := { s.tests with tap := 0x05 } }).emit (.jtag 0x05 pins)) ∧
    exec .clamp s = .next { s with tests := { s.tests with tap := 0x06 } } ∧
    exec .highz s = .next { s with tests := { s.tests with tap := 0x07 } }) ∧
  (∀ (s : State), s.mc.mode = .maintenance →
    exec .mbist s = .next (({ s with tests := { s.tests with tap := 0x10, bist := true } }).setFld GLB_BIST_CTL_START 1)) ∧
  (∀ (s : State), s.mc.mode = .maintenance → ∃ t, exec .scan s = .next t ∧ t.tests.tap = 0x11 ∧ t.sec.store = .locked ∧
    t.tier = Tier.reset ∧ t.rings.ring = [] ∧ t.rdma.qps = []) ∧
  (∀ (s : State), exec .bypass s = .next { s with tests := { s.tests with tap := 0xFF } }) ∧
  (∀ (s : State) (who : Writer), s.mc.mode = .maintenance →
    exec (.bistStart who) s = .next (({ s with tests := { s.tests with bist := true } }).setFld GLB_BIST_CTL_START 1)) ∧
  (∀ (s : State) (who : Writer), s.mc.mode ≠ .maintenance →
    exec (.bistStart who) s = .next (s.reject (RegName.offset .GLB_BIST_CTL 0 0 0) 1 6 who)) ∧
  (∀ (tagq : BitVec 4) (a b c : Bool) (s : State), s.tests.bist = true →
    exec (.bistDone [] tagq a b c) s = .next ((({ s with tests := { s.tests with bist := false } }).setFld GLB_BIST_CTL_START 0).setRegAt
      .GLB_BIST_STAT 0 0 0 (BitVec.ofNat 32 (2 ^ 16 * tagq.toNat + 2 ^ 20 * a.toNat + 2 ^ 21 * b.toNat + 2 ^ 22 * c.toNat)))) ∧
  (∀ (ch : ChId) (k : Fin 1024) (tagq : BitVec 4) (a b c : Bool) (s : State), s.tests.bist = true →
    exec (.bistDone [(ch, k)] tagq a b c) s = .next (((({ s with tests := { s.tests with bist := false } }).setFld GLB_BIST_CTL_START 0).setRegAt
      .GLB_BIST_STAT 0 0 0 (BitVec.ofNat 32 (2 ^ ch.val + 2 ^ 16 * tagq.toNat + 2 ^ 20 * a.toNat + 2 ^ 21 * b.toNat + 2 ^ 22 * c.toNat))).retireSlot
        ch.val k.val))

/-- The twin link, receiving side: packets that pass their tag on a valid path (R234, R239 to R244, R251). -/
def Obligations.TwinPackets : Prop :=
  (∀ (p : BttPkt) (st : Nat) (new : List (Nat × Line)) (m : InMsg) (i : Nat) (r : Region) (s u v : State), bttNew s p.hdr st u → st = p.stream.val →
    v = { u with twin := { u.twin with lastData := u.timeNs } } → v.inMsg p = some m → v.regionOf (64 * p.line.toNat) = some (i, r) →
    p.total ≠ 0 → v.isCopy i = true → v.keysLoaded i r = true →
    new = (p.items.filter fun e => ! m.mask.contains e.1 && decide (e.1 < m.total)) → new ≠ [] →
    exec (.bttData p) s = .next (let w := v.returnUnit p.path.val (st / 4) 1
      let x := ({ w with twin := { w.twin with rxPend := w.twin.rxPend ++ [(st, p.seq.toNat, new.length)] } } : State).takeLines p m (new.map Prod.fst)
      new.foldl (fun y e => y.storeWrite (y.newWrite (x.fld BTT_PATH_CFG_ETH_PORT p.path.val) (p.line.toNat + e.1) e.2.data (p.be.getD fullBe)
        e.2.poison (.btt st p.seq.toNat (p.line.toNat + e.1))) i r) x)) ∧
  (∀ (p : BttPkt) (s t : State), bttTaken s p.hdr t → t.activity.rxDup p.stream.val p.seq.toNat = true →
    exec (.bttData p) s = .next ((t.activity.bump BTT_DUP_CNT_COUNT).bttAck p.path.val p.stream.val) ∧
    exec (.bttReadResp p) s = .next ((t.activity.bump BTT_DUP_CNT_COUNT).bttAck p.path.val p.stream.val)) ∧
  (∀ (p : BttPkt) (s t : State), bttTaken s p.hdr t → t.activity.rxDup p.stream.val p.seq.toNat = false →
    t.activity.rxBase p.stream.val + 65536 ≤ p.seq.toNat →
    exec (.bttData p) s = .next (t.activity.bump BTT_WINDOW_DROP_CNT_COUNT)) ∧
  (∀ (h : BttHdr) (s : State), s.bttOpen = true → s.flag BTT_PATH_CFG_VALID h.path.val = true → h.tagOk = false →
    exec (.bttKeepalive h) s = .next (((s.bump BTT_TAG_FAIL_CNT_COUNT).logLim 0x3007 h.path.val .notice srcTwin (h.path.val, 1, 0, 0)).bttSend
      h.path.val 3 [h.stream.val, h.seq.toNat])) ∧
  (∀ (h : BttHdr) (s t : State), bttTaken s h t → exec (.bttKeepalive h) s = .next t) ∧
  (∀ (h : BttHdr) (s t : State) (m : OutMsg), bttTaken s h t → t.outMsg h.stream.val h.seq.toNat = some m →
    exec (.bttNak h) s = .next (t.resend m)) ∧
  (∀ (h : BttHdr) (n : BitVec 16) (s t : State) (p : Nat), bttTaken s h t → p = 4 * h.path.val → n.toNat < 2 ^ 15 →
    (∀ k < 4, Sparse.get (fun _ => 0) t.twin.txLimit (p + k) = 0) →
    exec (.bttCredit h n 0 0 0) s = .next (let set (s : State) (k v : Nat) : State :=
        { s with twin := { s.twin with txLimit := Sparse.set (fun _ => 0) s.twin.txLimit k v } }
      set (set (set (set t p n.toNat) (p + 1) 0) (p + 2) 0) (p + 3) 0)) ∧
  (∀ (h : BttHdr) (s t : State) (m : OutMsg), bttTaken s h t → t.twin.msgs = [m] → m.stream = h.stream.val → m.kind = .ctrl →
    m.seq = h.seq.toNat → m.copies = [] → m.range = none → t.twin.abandoned = [] → t.twin.advances = [] → t.per.fences = [] →
    exec (.bttAck h 0 0 0) s = .next (({ t with twin := { t.twin with msgs := [] } }).endResync.startResync)) ∧
  (∀ (h : BttHdr) (line : BitVec 42) (i : Nat) (r : Region) (s u v : State), bttNew s h h.stream.val u →
    v = u.rxComplete h.stream.val h.seq.toNat → v.regionOf (64 * line.toNat) = some (i, r) → v.isCopy i = true → v.keysLoaded i r = true →
    exec (.bttReadReq h line 1) s = .next ((v.queueMsg (streamOf 3 line.toNat) .readResp line.toNat 1 [v.latest line.toNat] none [] false none
      []).bttAck h.path.val h.stream.val)) ∧
  (∀ (p : BttPkt) (x : Line) (m : InMsg) (t : TwinRead) (s u v : State), bttNew s p.hdr p.stream.val u → u.inMsg p = some m → p.items = [(0, x)] →
    m.mask = [] → 0 < m.total → v = (u.returnUnit p.path.val 3 1).takeLines p m [0] → v.twin.lateReads = [] →
    (v.twin.reads.filter fun t => t.line == p.line.toNat) = [t] →
    exec (.bttReadResp p) s = .next (v.twinServed t x)) ∧
  (∀ (l : Nat) (t : TwinRead) (s : State), (s.twin.reads.filter fun t => t.line == l) = [t] →
    exec (.twinReadTimeout l) s = .next (s.twinFails t))

/-- The twin link, sending side and its timers (R233 to R247, R250, R362). -/
def Obligations.TwinSending : Prop :=
  (∀ (st : Fin 16) (m : OutMsg) (bad : List Nat) (s : State), s.twin.link = .up → (s.twin.queued.find? fun m => m.stream == st.val) = some m →
    s.markOk m = true → exec (.convoySend st bad false) s = .next (s.sendMsg m false)) ∧
  (∀ (st : Fin 16) (m : OutMsg) (s t : State), s.twin.link = .up → (s.twin.queued.find? fun m => m.stream == st.val) = none →
    s.twin.msgs.countP OutMsg.onLink < 16384 → ((s.nextRun st.val).filter fun c => c.be.isNone && ! c.data.poison && ! c.data.checks c.line) = [] →
    t = s.formConvoy st.val (s.nextRun st.val) → (t.twin.queued.find? fun m => m.stream == st.val) = some m → t.markOk m = true →
    exec (.convoySend st [] false) s = .next (t.sendMsg m false)) ∧
  (∀ (st : Fin 16) (bad : List Nat) (s : State), s.twin.link = .up → exec (.convoySend st bad true) s = .next (s.stopLink 2)) ∧
  (∀ (st : Fin 16) (q : BitVec 64) (m : OutMsg) (s : State), s.outMsg st.val q.toNat = some m →
    m.last + s.fld BTT_TIMING_RETX_US * 1000 ≤ s.timeNs → s.timeNs < m.first + s.fld BTT_TIMING_RETX_BUDGET * 1000 →
    exec (.retxTimer st q) s = .next (s.resend m)) ∧
  (∀ (st : Fin 16) (q : BitVec 64) (m : OutMsg) (s t : State), s.outMsg st.val q.toNat = some m → m.acked = false →
    m.first + s.fld BTT_TIMING_RETX_BUDGET * 1000 ≤ s.timeNs → t = (s.bump BTT_ABANDON_CNT_COUNT).abandon st.val q.toNat false →
    exec (.retxAbandon st q) s = .next (t.log 0x3003 .error srcTwin st.val (q.toNat % 2 ^ 32) (q.toNat / 2 ^ 32)
      (t.twin.bitmap.length - s.twin.bitmap.length))) ∧
  (∀ (p : Fin 4) (s : State), s.twin.link = .up → s.twin.pathsUp.getLsbD p = true → s.twin.rxDirty = false →
    exec (.keepaliveTimer p) s = .next (s.bttSend p 8 [])) ∧
  (∀ (p : Fin 4) (mtu : Bool) (s : State), s.twin.pathsUp.getLsbD p.val = true →
    Sparse.get (fun _ => 0) s.twin.lastRx p.val + s.fld BTT_TIMING2_PATH_DEAD * 10000 ≤ s.timeNs →
    exec (.pathDead p mtu) s = .next (({ s with twin := { s.twin with
      pathsUp := s.twin.pathsUp &&& ~~~ BitVec.twoPow 4 p.val, downAt := s.timeNs } }).log 0x3002 .notice srcTwin p.val 0 (if mtu then 2 else 1))) ∧
  (∀ (s : State), s.twin.link = .up → s.twin.pathsUp = 0 → s.twin.downAt + s.fld BTT_TIMING3_ABSENT_MS * 10 ^ 6 ≤ s.timeNs →
    exec .linkAbsentTimeout s = .next (s.leaveUp .absent 2)) ∧
  (∀ (s : State), s.twin.link = .absent → s.twin.session = true → exec .helloTimer s = .next s.sendHello) ∧
  (∀ (s : State), exec (.linkEnable false) s = .next ((s.setFld BTT_LINK_CFG_EN 0).leaveUp .disabled 1)) ∧
  (∀ (s : State), s.mc.mode.serving = true → s.twin.link = .disabled →
    exec (.linkEnable true) s = .next ((s.setFld BTT_LINK_CFG_EN 1).setTwinState .absent 1)) ∧
  (∀ (s : State), s.twin.session = true → s.twin.link ≠ .stopped →
    exec .linkRekey s = .next (({ s with twin := { s.twin with epoch := s.twin.epoch + 1, pktCtr := 0, rekeying := false } }).log 0x7030 .info
      srcSec 0 (s.twin.epoch + 1).toNat)) ∧
  (∀ (s : State), exec .previousEpochExpiry s = .next { s with twin := { s.twin with rxPrevOk := false } }) ∧
  (∀ (s : State), s.asyncUnplaced ≠ [] → s.fld BTT_TIMING_LAG_US ≤ s.lag.1 → exec .lagExceeded s = .next s.lagFires) ∧
  (∀ (c : TwinCopy) (s t : State), s.twin.syncq = [c] → s.twin.queued = [] → s.twin.msgs = [] → s.twin.rangeWaits = [] → c.sync = true →
    c.req ≠ .internal → c.start + s.fld BTT_TIMING2_SYNC_LIMIT * 1000 ≤ s.timeNs →
    t = ({ s with twin := { s.twin with syncq := [] } } : State).dropCopies [c] →
    exec .syncTimeout s = .next (t.logLim 0x3005 0 .error srcTwin (1, t.twin.bitmap.length - s.twin.bitmap.length, 0, 0) fun l =>
      { l with w4 := l.w4 + 1, w5 := l.w5 + (t.twin.bitmap.length - s.twin.bitmap.length) })) ∧
  (∀ (k : Nat) (r : Resync) (s : State), s.twin.resync = some r → s.twinUp = true → r.range = none → r.final = false → s.twin.head = [] →
    s.twin.bitmap = [k] → s.twin.advances = [] → s.twin.queued = [] → s.twin.msgs = [] → s.regionOf (k * 2 ^ 21) = none →
    ∃ t, exec .resyncRangeStart s = .next t ∧ t.twin.resync = some { r with range := some k, convoys := 32 } ∧ t.twin.queued.length = 32 ∧
      t.twin.bitmap = [k])

/-- The twin link's control messages and the exchange of roles (R228, R248, R249, R255 to R257). -/
def Obligations.TwinControl : Prop :=
  (∀ (h : BttHdr) (b z : BitVec 27) (key i : BitVec 12) (s v : State), ctrlTaken s h v → v.copyOf i.toNat = none →
    exec (.copyCreate h b z key i) s = .next ((v.createCopy b.toNat z.toNat key.toNat i.toNat).bttAck h.path.val 12) ∧
    exec (.copyModify h b z key i) s = .next ((v.createCopy b.toNat z.toNat key.toNat i.toNat).bttAck h.path.val 12)) ∧
  (∀ (h : BttHdr) (b z : BitVec 27) (key i : BitVec 12) (e : Nat × Region) (s v : State), ctrlTaken s h v → v.copyOf i.toNat = some e →
    exec (.copyCreate h b z key i) s = .next ((v.modifyCopy e.1 e.2 z.toNat key.toNat i.toNat).bttAck h.path.val 12) ∧
    exec (.copyModify h b z key i) s = .next ((v.modifyCopy e.1 e.2 z.toNat key.toNat i.toNat).bttAck h.path.val 12) ∧
    exec (.copyDestroy h i) s = .next ((v.destroyCopy e.1 e.2).bttAck h.path.val 12)) ∧
  (∀ (h : BttHdr) (i : BitVec 12) (st : BitVec 8) (s v : State), ctrlTaken s h v →
    exec (.copyRefused h i st) s = .next (((v.log 0x3008 .error srcTwin i.toNat st.toNat).copyFails i.toNat).bttAck h.path.val 12)) ∧
  (∀ (h : BttHdr) (a : BitVec 48) (e : Nat × Region) (s v : State), ctrlTaken s h v → v.regionOf a.toNat = some e →
    exec (.copyMissing h a) s = .next (((v.log 0x3009 .error srcTwin e.1 (a.toNat % 2 ^ 32) (a.toNat / 2 ^ 32)).copyFails e.1).bttAck
      h.path.val 12)) ∧
  (∀ (h : BttHdr) (m : HelloMsg) (s t u v : State), bttTaken s h t → u = t.takeBases m.bases →
    v = (let w := if u.rxDup 12 h.seq.toNat then u else u.rxComplete 12 h.seq.toNat
      { w with twin := { w.twin with peerLevel := m.level, helloRx := [] } }) →
    t.twin.helloRx = [] → u.twin.helloRx = [] → (if u.rxDup 12 h.seq.toNat then u else u.rxComplete 12 h.seq.toNat).twin.helloRx = [] →
    levelsMeet t.bttLevel m.level.toNat = true → m.more = false → v.twin.link = .absent →
    exec (.hello h m) s = .next ((v.sendHello.linkUp 1).reconcile m.entries)) ∧
  (∀ (h : BttHdr) (m : HelloMsg) (s t u v : State), bttTaken s h t → u = t.takeBases m.bases →
    v = (let w := if u.rxDup 12 h.seq.toNat then u else u.rxComplete 12 h.seq.toNat
      { w with twin := { w.twin with peerLevel := m.level, helloRx := [] } }) →
    levelsMeet t.bttLevel m.level.toNat = false → v.twin.link = .absent →
    exec (.hello h m) s = .next ((v.setTwinState .refused 5).log 0x300A .error srcTwin t.bttLevel m.level.toNat)) ∧
  (∀ (h : BttHdr) (st : Fin 16) (b : BitVec 64) (s v : State), ctrlTaken s h v → v.rxBase st.val < b.toNat →
    exec (.windowAdvance h st b) s = .next ((({ v with twin := { v.twin with
        rxBase := Sparse.set (fun _ => 1) v.twin.rxBase st.val b.toNat
        rxDone := v.twin.rxDone.filter fun x => x.1 != st.val || decide (b.toNat ≤ x.2)
        inMsgs := v.twin.inMsgs.filter fun m => ! (m.stream == st.val && decide (m.seq < b.toNat)) } }).bttAck h.path.val st.val).bttAck
      h.path.val 12)) ∧
  (∀ (d : Desc) (i : Nat) (r : Region) (s t u : State), descRuns s d 2 t → d.bits 3 8 8 ≠ 1 → t.twinUp = false →
    (t.rgn.table.filter fun e => t.isCopy e.1 && (d.selector.isNone || d.selector == some e.1)) = [(i, r)] →
    t.setFits (d.bits 3 7 0) r = true → t.reserved r.base.toNat r.size.toNat = false → u = t.promoteInfo i false →
    exec (.promoteTwin d) s = .next (u.startRgnOp .promote i r.base.toNat r.size.toNat
      ⟨[(i, { r with ownerSet := BitVec.ofNat 8 (d.bits 3 7 0) })], [], []⟩ d.src t.sinceData)) ∧
  (∀ (d : Desc) (i : Nat) (r : Region) (s t : State), descRuns s d 2 t → d.bits 3 8 8 = 1 → t.twinUp = true →
    (t.rgn.table.filter fun e => t.isCopy e.1 && (d.selector.isNone || d.selector == some e.1)) = [(i, r)] →
    t.setFits (d.bits 3 7 0) r = true → t.reserved r.base.toNat r.size.toNat = false →
    exec (.promoteTwin d) s = .next (({ t with twin := { t.twin with
      promotes := t.twin.promotes ++ [(⟨i, d.bits 3 7 0, d.src⟩ : Promote)] } }).queueCtrl [8, (t.copyInfo i).primary, i])) ∧
  (∀ (h : BttHdr) (i j : BitVec 12) (r : Region) (s v u : State), ctrlTaken s h v → v.region i.toNat = r → r.valid = true → r.mirror ≠ .none →
    r.ownerSet = 0 → v.reserved r.base.toNat r.size.toNat = false → u = v.startMirrorFence (some i.toNat) .internal →
    exec (.promoteReq h i j) s = .next ((let w := u.setCopyInfo i.toNat { u.copyInfo i.toNat with primary := j.toNat }
      { w with twin := { w.twin with demotes := w.twin.demotes ++ [(v.nextFence, i.toNat)] } }).bttAck h.path.val 12)) ∧
  (∀ (h : BttHdr) (i : BitVec 12) (mi : Fin 3) (p : Promote) (s v : State), ctrlTaken s h v →
    (v.twin.promotes.find? fun p => (v.copyInfo p.region).primary == i.toNat) = some p →
    exec (.promoteAck h i false mi) s = .next ((({ v with twin := { v.twin with
      promotes := v.twin.promotes.filter fun x => x.src != p.src } }).complete p.src .conflict).bttAck h.path.val 12)) ∧
  (∀ (h : BttHdr) (i : BitVec 12) (mi : Fin 3) (p : Promote) (s v u : State), ctrlTaken s h v → v.twin.promotes = [p] →
    (v.copyInfo p.region).primary = i.toNat →
    u = ({ v with twin := { v.twin with promotes := [], swaps := v.twin.swaps ++ [p.region] } } : State) →
    exec (.promoteAck h i true mi) s = .next (((u.promoteInfo p.region true).startRgnOp .promote p.region (v.region p.region).base.toNat
      (v.region p.region).size.toNat ⟨[(p.region, { v.region p.region with
        ownerSet := BitVec.ofNat 8 p.set, mirror := (mirrorOf mi.val).getD .none })], [], []⟩ p.src u.sinceData).bttAck h.path.val 12))

/-- The management endpoint on the BMC buses (R473 to R481, R488, R533): each request it takes is answered, with the values named. -/
def Obligations.ManagementRequests : Prop :=
  (∀ (b : Fin 2) (e : BitVec 8) (s : State), s.bmcBar = true → e ≠ 0 → e ≠ 0xFF → s.mgmt.eid ≠ e →
    exec (.setEndpointId b e) s = .next ((({ s with mgmt := { s.mgmt with eid := e } }).log 0x8071 .info srcMgmt e.toNat b.val).answer b 0x00 0x01 0
      [e.toNat])) ∧
  (∀ (b : Fin 2) (s : State), s.bmcBar = true →
    exec (.getEndpointId b) s = .next (s.answer b 0x00 0x02 0 [s.mgmt.eid.toNat]) ∧
    exec (.getMctpVersion b) s = .next (s.answer b 0x00 0x04 0 [1, 3]) ∧
    exec (.getMessageTypeSupport b) s =
      .next (s.answer b 0x00 0x05 0 (if s.islandOnly then [0x00, 0x7F] else [0x00, 0x01, 0x05, 0x06, 0x7F])) ∧
    exec .platformEventAck s = .next { s with mgmt := { s.mgmt with events := s.mgmt.events.drop 1 } }) ∧
  (∀ (b : Fin 2) (s t : State), s.bmcBar = true → s.mgmt.i3c.getLsbD b.val = false →
    t = { s with mgmt := { s.mgmt with i3c := s.mgmt.i3c ^^^ BitVec.twoPow 2 b.val } } →
    exec (.i3cAddressAssign b none) s = .next (t.log 0x8070 .notice srcMgmt b.val 1 1)) ∧
  (∀ (b : Fin 2) (s t : State), s.bmcBar = true → s.mgmt.i3c.getLsbD b.val = true →
    t = { s with mgmt := { s.mgmt with i3c := s.mgmt.i3c ^^^ BitVec.twoPow 2 b.val } } →
    exec (.i3cRstdaa b) s = .next (t.log 0x8070 .notice srcMgmt b.val 0 2) ∧
    exec (.i3cBusErrorTimeout b) s = .next (t.log 0x8070 .notice srcMgmt b.val 0 3)) ∧
  (∀ (b : Fin 2) (off : BitVec 26) (s : State), managed s → off.toNat % 4 = 0 →
    exec (.regRead b off 1) s = .next ((s.readWord true off.toNat).2.answer b 0x7F 0x01 0 [(s.readWord true off.toNat).1.toNat])) ∧
  (∀ (b : Fin 2) (off : BitVec 26) (v mask : Word) (env : RegEnv) (s : State), managed s → off.toNat % 4 = 0 → s.flag MGT_CTL_BMC_WRITE_EN = true →
    bmcBarred off.toNat = false →
    exec (.regWrite b off v mask env) s = .next ((s.writeWord .bmc off.toNat v mask env).answer b 0x7F 0x02 0)) ∧
  (∀ (b : Fin 2) (off : BitVec 26) (v mask : Word) (env : RegEnv) (s : State), managed s → off.toNat % 4 = 0 →
    s.flag MGT_CTL_BMC_WRITE_EN = false ∨ bmcBarred off.toNat = true →
    exec (.regWrite b off v mask env) s = .next (s.answer b 0x7F 0x02 Status.notPermitted.code)) ∧
  (∀ (b : Fin 2) (first : Fin 8192) (s : State), s.bmcBar = true →
    exec (.evtRead b first 1) s = .next (s.answer b 0x7F 0x03 0 ((List.range 8).map fun k => (s.slotWord first.val k).toNat))) ∧
  (∀ (b : Fin 2) (e : Bool) (s : State), managed s →
    exec (.setEventReceiver b e) s = .next (({ s with mgmt := { s.mgmt with receiver := e, evtBus := b.val } }).answer b 0x01 0x204 0))

/-- PLDM monitoring, control and update over the BMC buses (R476 to R479, R409). Codes of the DMTF specifications are the model's (log). -/
def Obligations.PldmRequests : Prop :=
  (∀ (b : Fin 2) (h : BitVec 32) (p : Pdr) (s : State), managed s → (pdrs false)[h.toNat - 1]? = some p →
    exec (.getPdr b false h) s = .next (s.answer b 0x01 0x251 0
      ((if h.toNat - 1 + 1 < (pdrs false).length then h.toNat - 1 + 2 else 0) :: p.words))) ∧
  (∀ (b : Fin 2) (id : BitVec 16) (v : Nat) (s : State), managed s → s.numeric id.toNat = some (some v) →
    exec (.getSensorReading b id) s = .next (s.answer b 0x01 0x211 0 [0, v])) ∧
  (∀ (b : Fin 2) (id : BitVec 16) (v : Nat) (s : State), managed s → s.stateSensor false id.toNat = some (some v) →
    exec (.getStateSensorReadings b false id) s = .next (s.answer b 0x01 0x221 0 [0, v + 1])) ∧
  (∀ (b : Fin 2) (v : Fin 16) (s : State), managed s → s.mc.mode ≠ .standby → v.val ∈ [0x2, 0x4, 0x7, 0xB] →
    exec (.setStateEffecterStates b 0x200 v) s = .next (s.askMode v.val (.effecter b))) ∧
  (∀ (b : Fin 2) (p : Fin 8) (v : Fin 16) (s t : State), managed s → v.val < 3 →
    t = (s.writeFields .bmc .PRT_BIFUR p.val 0 0 (PRT_BIFUR_NEXT.put 0 v.val) PRT_BIFUR_NEXT.mask).2 →
    PRT_BIFUR_NEXT.get (t.view true .PRT_BIFUR p.val 0 0) = v.val →
    exec (.setStateEffecterStates b (BitVec.ofNat 16 (0x210 + p.val)) v) s = .next (t.answer b 0x01 0x239 0)) ∧
  (∀ (b : Fin 2) (len : BitVec 24) (s t u : State), managed s → s.flash.sess.st = .idle → t = { s with mgmt := { s.mgmt with fwBus := b.val } } →
    t.askSession 2 len.toNat = (.ok, u) →
    exec (.requestUpdate b len) s = .next ((u.answer b 0x01 0x510 0).askData)) ∧
  (∀ (off : BitVec 24) (bytes : List Byte) (s t : State), managed s → s.flash.sess.source = 2 → s.flash.sess.st = .opened → bytes.length ≤ 4096 →
    s.takeBlock off.toNat bytes = (.ok, t) → exec (.requestFirmwareData off bytes) s = .next t.askData) ∧
  (∀ (b : Fin 2) (time : BitVec 64) (s t : State), managed s → s.bmcSession = true → time ≠ 0 → s.requestActivation time.toNat = (.ok, t) →
    exec (.activateFirmware b true time) s = .next (t.answer b 0x01 0x51A 0)) ∧
  (∀ (b : Fin 2) (time : BitVec 64) (s t : State), managed s → s.bmcSession = true → s.requestOffline = (.ok, t) →
    exec (.activateFirmware b false time) s = .next (t.answer b 0x01 0x51A 0)) ∧
  (∀ (b : Fin 2) (s : State), managed s → s.bmcSession = true → s.flash.sess.st = .opened →
    exec (.cancelUpdate b) s = .next ((s.abortSession 2).answer b 0x01 0x51D 0)) ∧
  (∀ (b : Fin 2) (s : State), managed s →
    exec (.getStatus b) s =
      .next (s.answer b 0x01 0x51B 0 [s.flash.sess.st.code, FLS_SESS_OFF_BYTES.get (s.view true .FLS_SESS_OFF 0 0 0)]) ∧
    exec (.getFirmwareParameters b) s = .next (s.answer b 0x01 0x502 0 ([0x0001, s.flash.running] ++
      [(s.view true .FLS_SLOT_STAT s.flash.running 0 0).toNat, (s.view true .FLS_SLOT_STAT s.flash.running 0 1).toNat] ++
      [(s.view true .FLS_SLOT_STAT (1 - s.flash.running) 0 0).toNat, (s.view true .FLS_SLOT_STAT (1 - s.flash.running) 0 1).toNat])))

/-- A firmware request in a control complex gap waits in its buffer, and one to a halted complex is lost (R377, R384). -/
def Obligations.RequestsInGap : Prop :=
  (∀ (b : Fin 2) (s : State), s.bmcBar = true → s.ccRuns = false → s.mc.mode ≠ .off → s.mc.mode ≠ .standby → s.cc.gap ≠ .halted →
    s.cc.gap ≠ .dead → s.buffered.countP (fun h => h.1.managed) < 8 →
    exec (.getStatus b) s = .next { s with buffered := s.buffered ++ [(.mgmt b.val 0x01 0x51B, .getStatus b)] }) ∧
  (∀ (b : Fin 2) (s : State), s.bmcBar = true → s.ccRuns = false → s.cc.gap = .halted → exec (.getStatus b) s = .next s) ∧
  (∀ (p : PortId) (ld : Fin 20) (s : State), s.hasMailbox p.val ld.val = true → s.ccRuns = false → s.mc.mode ≠ .off → s.mc.mode ≠ .standby →
    s.cc.gap ≠ .halted → s.cc.gap ≠ .dead →
    exec (.getTimestamp p ld) s =
      .next { s with buffered := s.buffered ++ [(.mailbox p.val ld.val 0x0300, .getTimestamp p ld)] }) ∧
  (∀ (p : PortId) (ld : Fin 20) (s : State), s.hasMailbox p.val ld.val = true → s.ccRuns = true → s.buffered = [] →
    s.mc.mode.permits .full = false → exec (.getPoisonList p ld 0 1) s = .next (s.reply p ld 0x4300 7))

/-- The CXL mailbox of a logical device (R266 to R273): each command its mode permits is answered, with the values named. Return codes are
those of the CXL specification (log). -/
def Obligations.MailboxCommands : Prop :=
  (∀ (p : PortId) (ld : Fin 20) (log : Fin 5) (s : State) (es : List CxlEvent), mailboxRuns s p ld .events →
    es = (s.ldAt p.val ld.val).events.filter (fun e => e.log == log.val) →
    exec (.getEventRecords p ld log) s =
      .next (s.reply p ld 0x0100 0 ([((s.ldAt p.val ld.val).overflow.getLsbD log.val).toNat, es.length] ++ es.flatMap CxlEvent.words))) ∧
  (∀ (p : PortId) (ld : Fin 20) (log : Fin 5) (hs : List Nat) (s : State), mailboxRuns s p ld .events →
    exec (.clearEventRecords p ld log true hs) s = .next ((s.updLd p ld fun x => { x with
      events := x.events.filter (fun e => ! (e.log == log.val))
      overflow := x.overflow &&& ~~~ BitVec.twoPow 5 log.val }).reply p ld 0x0101 0)) ∧
  (∀ (p : PortId) (ld : Fin 20) (s : State), mailboxRuns s p ld .events →
    exec (.getEventInterruptPolicy p ld) s = .next (s.reply p ld 0x0102 0 (s.ldAt p.val ld.val).policy)) ∧
  (∀ (p : PortId) (ld : Fin 20) (v : Vector (BitVec 8) 5) (s : State), mailboxRuns s p ld .events →
    ((v.toList.map BitVec.toNat).any fun x => decide (2 ≤ x % 4)) = false →
    exec (.setEventInterruptPolicy p ld v) s =
      .next ((s.updLd p ld fun x => { x with policy := v.toList.map BitVec.toNat }).reply p ld 0x0103 0)) ∧
  (∀ (p : PortId) (ld : Fin 20) (s : State), mailboxRuns s p ld .firmware →
    exec (.getFwInfo p ld) s = .next (s.reply p ld 0x0200 0
      [2, s.flash.running, if s.flash.sess.offline then s.flash.sess.target else 2, (s.slot 0).ver, (s.slot 1).ver])) ∧
  (∀ (p : PortId) (ld : Fin 20) (slot : Fin 2) (off : BitVec 24) (bytes : List Byte) (s t : State), mailboxRuns s p ld .firmware →
    (s.flash.sess.st = .idle ∨ s.flash.sess.source = 1) → slot.val ≠ s.flash.running → s.sourceBlock 1 off.toNat bytes = (.ok, t) →
    exec (.transferFw p ld .initiate slot off bytes) s = .next (t.reply p ld 0x0201 0 [0, t.flash.sess.off]) ∧
    exec (.transferFw p ld .continue slot off bytes) s = .next (t.reply p ld 0x0201 0 [0, t.flash.sess.off])) ∧
  (∀ (p : PortId) (ld : Fin 20) (slot : Fin 2) (s t : State), mailboxRuns s p ld .firmware →
    (s.flash.sess.st = .idle ∨ s.flash.sess.source = 1) → slot.val ≠ s.flash.running → s.requestOffline = (.ok, t) →
    exec (.activateFw p ld false slot) s = .next (t.reply p ld 0x0202 0 [0])) ∧
  (∀ (p : PortId) (ld : Fin 20) (s : State), mailboxRuns s p ld .identify →
    exec (.getTimestamp p ld) s = .next (s.reply p ld 0x0300 0 [(s.timeNs + s.ports.timestamp) % 2 ^ 64]) ∧
    exec (.getSupportedLogs p ld) s = .next (s.reply p ld 0x0400 0 [0, 128, 1, 0x40000]) ∧
    exec (.identifyMemoryDevice p ld) s =
      .next (s.reply p ld 0x4000 0 [4 * s.rgn.limitGib.toNat, 0, s.staticUnits p ld, 0, 256, 0, 65536, 16]) ∧
    exec (.getPartitionInfo p ld) s = .next (s.reply p ld 0x4100 0 [0, s.staticUnits p ld, 0, 0]) ∧
    exec (.setPartitionInfo p ld) s = .next (s.reply p ld 0x4101 3) ∧
    exec (.getLsa p ld) s = .next (s.reply p ld 0x4102 3) ∧
    exec (.setLsa p ld) s = .next (s.reply p ld 0x4103 3)) ∧
  (∀ (p : PortId) (ld : Fin 20) (t : BitVec 64) (s : State), mailboxRuns s p ld .identify → s.clk.tbLock = false →
    exec (.setTimestamp p ld t) s = .next (({ s with ports := { s.ports with
      timestamp := (t.toNat + 2 ^ 64 - s.timeNs % 2 ^ 64) % 2 ^ 64 } }).reply p ld 0x0301 0)) ∧
  (∀ (p : PortId) (ld : Fin 20) (off : BitVec 32) (s : State), mailboxRuns s p ld .identify → off.toNat % 4 = 0 → off.toNat + 4 ≤ 0x40000 →
    exec (.getLog p ld true off 4) s = .next (s.reply p ld 0x0401 0 [(s.slotWord (off.toNat / 4 / 8) (off.toNat / 4 % 8)).toNat])) ∧
  (∀ (p : PortId) (ld : Fin 20) (o : LongOp) (b : Nat × Nat) (s : State), mailboxRuns s p ld .identify →
    (s.ldAt p.val ld.val).background = some b → s.opAt b.2 = some o → o.kind.cancellable = true → o.st = .running →
    exec (.requestAbortBackgroundOp p ld) s = .next ((s.setOp { o with st := .cancelling }).reply p ld 0x0005 0))

/-- Health, poison, scans and erasure through the mailbox (R268 to R277). -/
def Obligations.MailboxMedia : Prop :=
  (∀ (p : PortId) (ld : Fin 20) (s : State), mailboxRuns s p ld .health →
    exec (.getHealthInfo p ld) s = .next (s.reply p ld 0x4200 0
      [s.needsMaintenance.toNat + 2 * (s.mc.mode == .degraded).toNat + 4 * s.needsReplacement.toNat, s.mc.mode.mediaStatus, s.lifeUsed,
       (BitVec.ofInt 16 ((((List.range 24).map fun i => (s.sensor i).value).foldl max (s.sensor 0).value) / 16)).toNat, s.per.dirtyShutdowns,
       s.ports.ceSeen + ((List.range 16).map fun n => s.fld CH_CE_CNT_COUNT n).sum,
       s.ports.retrySeen + ((List.range 32).map fun n => s.fld NF_RETRY_CNT_COUNT n).sum]) ∧
    exec (.getAlertConfiguration p ld) s = .next (s.reply p ld 0x4201 0 (s.ldAt p.val ld.val).alerts) ∧
    (∀ ws, exec (.setAlertConfiguration p ld ws) s = .next ((s.updLd p ld fun x => { x with alerts := ws }).reply p ld 0x4202 0)) ∧
    exec (.getShutdownState p ld) s = .next (s.reply p ld 0x4203 0 [s.ports.shutdownDirty.toNat]) ∧
    ∀ d, exec (.setShutdownState p ld d) s = .next (({ s with ports := { s.ports with shutdownDirty := d } }).reply p ld 0x4204 0)) ∧
  (∀ (p : PortId) (ld : Fin 20) (a : BitVec 48) (n : Nat) (s : State) (es : List (Nat × Nat)), mailboxRuns s p ld .full →
    es = s.ports.poison.filter (fun e => decide (a.toNat / 64 ≤ e.1) && decide (e.1 < a.toNat / 64 + n)) →
    exec (.getPoisonList p ld a n) s =
      .next (s.reply p ld 0x4300 0 ([s.fld PRT_POISON_LIST_OVERFLOW, es.length] ++ es.flatMap fun e => [64 * e.1, e.2]))) ∧
  (∀ (p : PortId) (ld : Fin 20) (a : BitVec 48) (i : Nat) (r : Region) (s t : State), mailboxRuns s p ld .full → s.mc.mode.poisons = true →
    s.poisonTarget p ld a.toNat = .ok (i, r) → s.ports.injected.contains (a.toNat / 64) = false → s.ports.injected.length < 16 →
    t = { s.activity with ports := { s.activity.ports with injected := s.activity.ports.injected ++ [a.toNat / 64] } } →
    s.activity.ports.injected = s.ports.injected →
    exec (.injectPoison p ld a) s = .next ((t.storeWrite (t.newWrite (p.val / 2) (a.toNat / 64) (t.latest (a.toNat / 64)).data fullBe true
      .internal) i r).reply p ld 0x4301 0)) ∧
  (∀ (p : PortId) (ld : Fin 20) (a : BitVec 48) (x : LineData) (i : Nat) (r : Region) (s : State), mailboxRuns s p ld .full →
    s.mc.mode.poisons = true → s.poisonTarget p ld a.toNat = .ok (i, r) →
    exec (.clearPoison p ld a x) s = .next ((s.activity.storeWrite (s.activity.newWrite (p.val / 2) (a.toNat / 64) x fullBe false .internal) i
      r).reply p ld 0x4302 0)) ∧
  (∀ (p : PortId) (ld : Fin 20) (a : BitVec 48) (n : Nat) (s : State), mailboxRuns s p ld .scan →
    a.toNat + 64 * n ≤ 2 ^ 30 * s.rgn.limitGib.toNat →
    exec (.getScanMediaCapabilities p ld a n) s = .next (s.fresh.2.reply p ld 0x4303 0 [s.fresh.1])) ∧
  (∀ (p : PortId) (ld : Fin 20) (a : BitVec 48) (n k : Nat) (s t : State), mailboxRuns s p ld .scan → n ≠ 0 → a.toNat % 64 = 0 →
    a.toNat + 64 * n ≤ 2 ^ 30 * s.rgn.limitGib.toNat → (s.ldAt p.val ld.val).background = none →
    t = s.updLd p ld (fun x => { x with scanned := [] }) → (t.ldAt p.val ld.val).background = none → t.freeOpSlot = some k →
    exec (.scanMedia p ld a n) s = .next (((t.startOp (.scan (a.toNat / 64) n p.val ld.val) (.mailbox p.val ld.val 0x4304)
      (some ((n + 32767) / 32768))).updLd p ld fun x => { x with background := some (0x4304, k) }).reply p ld 0x4304 1)) ∧
  (∀ (p : PortId) (ld : Fin 20) (s : State), mailboxRuns s p ld .scan →
    exec (.getScanMediaResults p ld) s = .next (s.reply p ld 0x4305 0 ((s.ldAt p.val ld.val).scanned.map (64 * ·)))) ∧
  (∀ (p : PortId) (ld : Fin 20) (k : Nat) (s : State), mailboxRuns s p ld .sanitize → s.rings.ops = [] →
    (s.ldAt p.val ld.val).background = none → s.freeOpSlot = some k →
    exec (.mboxSanitize p ld) s = .next (((s.startOp (.sanitize false) (.mailbox p.val ld.val 0x4400) (some (s.nand.map.length + 1))).updLd p ld
      fun x => { x with background := some (0x4400, k) }).reply p ld 0x4400 1) ∧
    exec (.secureErase p ld) s = .next (((s.startOp (.sanitize true) (.mailbox p.val ld.val 0x4401) (some (s.nand.map.length + 1))).updLd p ld
      fun x => { x with background := some (0x4401, k) }).reply p ld 0x4401 1))

/-- Dynamic capacity, fabric-manager commands and the CDAT table (R263, R264, R271 to R276). -/
def Obligations.DynamicCapacityAndFabric : Prop :=
  (∀ (p : PortId) (ld : Fin 20) (s : State), mailboxRuns s p ld .full → s.linkCxl3 p.val ld.val = true →
    exec (.getDynamicCapacityConfig p ld) s = .next (s.reply p ld 0x4800 0 [1, 0, 2 ^ 30 * s.rgn.limitGib.toNat, 2 ^ 21]) ∧
    exec (.getDynamicCapacityExtentList p ld) s = .next (s.reply p ld 0x4801 0 ((s.boundRegions p.val ld.val).length ::
      (s.boundRegions p.val ld.val).flatMap fun e => s.extentWords p.val ld.val e)) ∧
    exec (.releaseDynamicCapacity p ld) s = .next (s.reply p ld 0x4803 2)) ∧
  (∀ (p : PortId) (ld : Fin 20) (s : State), mailboxRuns s p ld .full → s.linkCxl3 p.val ld.val = false →
    exec (.getDynamicCapacityConfig p ld) s = .next (s.reply p ld 0x4800 3)) ∧
  (∀ (p : PortId) (ld : Fin 20) (i : Fin 4096) (s : State), mailboxRuns s p ld .full → s.linkCxl3 p.val ld.val = true →
    ((s.ldAt p.val ld.val).adds.any fun a => a.1 == i.val) = true → (s.ldAt p.val ld.val).accepted.contains i.val = false →
    exec (.addDynamicCapacityResponse p ld [i]) s = .next ((s.updLd p ld fun x => { x with
      adds := x.adds.filter (fun a => ! [i.val].contains a.1)
      accepted := x.accepted ++ [i.val] }).reply p ld 0x4802 0)) ∧
  (∀ (p : PortId) (ld : Fin 16) (i : Fin 4096) (t : Nat) (s : State), (i.val, t) ∈ (s.ldAt p.val ld.val).adds → t + 10 ^ 10 ≤ s.timeNs →
    exec (.dcAddTimeout p ld i) s = .next (s.declineAdd p.val ld.val i.val)) ∧
  (∀ (p : PortId) (k : LinkId) (s : State), s.hasMailbox p.val (16 + k.val) = true → s.ccRuns = true → s.buffered = [] →
    s.mc.mode.permits .full = true →
    exec (.getLdInfo p k) s = .next (s.emit (.mailbox p.val (16 + k.val) 0x5400 0
      [2 ^ 30 * s.rgn.limitGib.toNat, (s.ldsOf p.val k.val).length])) ∧
    exec (.getLdAllocations p k) s = .next (s.emit (.mailbox p.val (16 + k.val) 0x5401 0
      ((s.ldsOf p.val k.val).map fun ld => (((s.boundRegions p.val ld).map fun e => e.2.size.toNat).sum + 127) / 128))) ∧
    exec (.setLdAllocations p k) s = .next (s.emit (.mailbox p.val (16 + k.val) 0x5402 3 [])) ∧
    exec (.getQosStatus p k) s = .next (s.fresh.2.emit (.mailbox p.val (16 + k.val) 0x5405 0 [s.fresh.1 % 4])) ∧
    (3 ≤ (s.linkAt p.val k.val).ver → exec (.getMultiHeadedInfo p k) s = .next (s.emit (.mailbox p.val (16 + k.val) 0x5500 0
      [(List.range 32).countP fun k => (s.linkAt (k / 4) (k % 4)).up])))) ∧
  (∀ (p : PortId) (ld : Fin 16) (s t : State) (es : List CdatEntry), s.ldEnabled p.val ld.val = true → s.ccRuns = true → s.buffered = [] →
    t = s.fresh.2 → es = t.cdat p.val ld.val s.fresh.1 →
    exec (.cdatTableAccess p ld) s = .next (t.emit (.mailbox p.val ld.val 0 0 ((t.ldAt p.val ld.val).cdatSeq.toNat ::
      ((List.range es.length).zip es).flatMap fun e => [e.1 + 1, e.2.start, e.2.bytes, e.2.nonVol.toNat, e.2.shareable.toNat, e.2.readNs,
        e.2.writeNs, e.2.readBw, e.2.writeBw]))))

/-- With an empty queue the block idles: a request held back by a gap is served, else 1 ns passes (the model's choice, log entry 26). -/
def Obligations.IdleStep : Prop :=
  (∀ s : State, s.pending = [] → s.buffered = [] → step s = .next { s with timeNs := s.timeNs + 1 }) ∧
  (∀ s : State, s.pending = [] → s.ccRuns = false → step s = .next { s with timeNs := s.timeNs + 1 }) ∧
  (∀ (s t : State) (q : ReqFrom) (c : Instr) (rest : List (ReqFrom × Instr)), s.pending = [] → s.ccRuns = true → s.buffered = (q, c) :: rest →
    exec c { s with buffered := [] } = .next t → step s = .next { t with buffered := rest ++ t.buffered })

/-- The state after reset: the mode is STANDBY with no command waiting, every register reads the reset value of its table, every DRAM line reads
zeros with its own waybill (the model's choice, log entry 1), and the invariants below hold. -/
def Obligations.ResetState : Prop :=
  State.reset.pending = [] ∧ State.reset.mc.mode = .standby ∧ State.reset.mc.seq = 0 ∧ (∀ r i j w, State.reset.regAt r i j w = r.resetWord i j w) ∧
  (∀ l, State.reset.line l = mkLine l 0) ∧ State.reset.evt.recs = [] ∧ logOk State.reset = true ∧ tablesOk State.reset = true ∧
  (∀ k, State.reset.keyLoaded k = false)

/-- Every step takes exactly one command from the front of the queue and puts none into it; so commands that wait stay ones a sender can
send. -/
def Obligations.QueueIsFifo : Prop :=
  (∀ s t : State, step s = .next t → t.pending = s.pending.tail) ∧
  (∀ s t : State, (∀ c ∈ s.pending, c.wf = true) → step s = .next t → ∀ c ∈ t.pending, c.wf = true)

/-- Every step keeps the event log within its slots, at most 8,192 records, each in a slot of its own (R414), and the tier 1 memory in its
canonical form: lines rise strictly, and none is listed that reads as an unlisted line does (the model's form, log entry 1). -/
def Obligations.LogAndMemoryKeepTheirForm : Prop :=
  (∀ s t : State, logOk s = true → step s = .next t → logOk t = true) ∧
  (∀ s t : State, Sparse.wf zeroLine s.tier.dram = true → step s = .next t → Sparse.wf zeroLine t.tier.dram = true)

/-- Where the log places a new record, what it overwrites and what it drops (R418). -/
def Obligations.LogPlacement : Prop :=
  (∀ (s : State) (r : LogRec), logOk s = true → s.evt.recs.length < 8192 →
    ∃ y, (s.place r).evt.recs = s.evt.recs ++ [y] ∧ y = { r with seq := s.evt.nextSeq, slot := y.slot } ∧ y.slot < 8192 ∧
      ∀ x ∈ s.evt.recs, x.slot ≠ y.slot) ∧
  (∀ (s : State) (r : LogRec), logOk s = true → seqsOrdered s → s.evt.recs.length = 8192 → (∃ x ∈ s.evt.recs, replaceable x r.sev) →
    ∃ v ∈ s.evt.recs, replaceable v r.sev ∧ (∀ x ∈ s.evt.recs, replaceable x r.sev → serialGe x.seq v.seq = true) ∧
      (s.place r).evt.recs = s.evt.recs.erase v ++ [{ r with seq := s.evt.nextSeq, slot := v.slot }] ∧
      (s.place r).regs = (s.bump (ovwField v.sev)).regs) ∧
  (∀ (s : State) (r : LogRec), s.evt.recs.length = 8192 → (∀ x ∈ s.evt.recs, ¬ replaceable x r.sev) →
    (s.place r).evt.recs = s.evt.recs ∧ (s.place r).regs = (s.bump (dropField r.sev)).regs) ∧
  (∀ (s : State) (r x : LogRec), logOk s = true → x ∈ s.evt.recs → x.sev = .critical → x.acked = false → x ∈ (s.place r).evt.recs) ∧
  (∀ (s : State) (r : LogRec), (s.place r).mc = s.mc ∧ (s.place r).per = s.per ∧ (s.place r).pw = s.pw)

/-- The waybill functions combine as R179 and R183 define them: every way of forming a line's waybill gives the waybill of its bytes. -/
def Obligations.WaybillsCombine : Prop :=
  (∀ (l m : Nat) (d : LineData), reseed (waybill l d) l m = waybill m d) ∧
  (∀ (l n : Nat) (d : LineData), n ≤ 64 → assemble l [((lineBytes d).take n, 0), ((lineBytes d).drop n, n)] = waybill l d) ∧
  (∀ (l : Nat) (x : Line) (new : LineData) (be : BitVec 64), x.checks l = true → x.poison = false →
    (mergeLine x new be).checks l = true ∧ (mergeLine x new be).poison = false ∧
    ∀ k < 64, lineByte (mergeLine x new be).data k = if be.getLsbD k then lineByte new k else lineByte x.data k) ∧
  (∀ l : Nat, zeroLine l = mkLine l 0)

/-- Every word of every register of the tables lies at its own offset: decoding the offset of a word gives that word back (R526, R538). -/
def Obligations.RegisterOffsetsDecode : Prop :=
  ∀ (r : RegName) (i j w : Nat), i < r.dims.1.1 → j < r.dims.2.1 → w < r.words → r.locate (r.offset i j w) = some (i, j, w)

/-- The LDs of a bifurcated port and their owner-set bits (R55). -/
def Obligations.LdNumbering : Prop :=
  (∀ (s : State) (p ld : Nat), ld < 16 → s.bifur p = 0 → s.ldLink p ld = 0) ∧
  (∀ (s : State) (p ld : Nat), ld < 16 → s.bifur p = 1 → s.ldLink p ld = if ld < 8 then 0 else 1) ∧
  (∀ (s : State) (p ld k : Nat), k < 4 → 4 * k ≤ ld → ld ≤ 4 * k + 3 → s.bifur p = 2 → s.ldLink p ld = k) ∧
  (∀ (s : State) (r : Region) (p ld : Nat), s.owns r p ld = (s.ownerSet r.ownerSet.toNat).getLsbD (16 * p + ld))

/-- A request that hits no committed decoder of its LD meets the access checks as one to unmapped DPA (R49, R66). -/
def Obligations.NoDecoderIsUnmapped : Prop :=
  ∀ (s : State) (p ld hpa : Nat), (∀ h ∈ s.hdms p ld, h.active (s.linkCxl3 p ld) = true → h.hits hpa = false) →
    ∃ dpa, s.memAccess p ld hpa = .unmapped dpa

/-- A slot of the event log that fails its check (R425). -/
def Obligations.LogSlotCheckFails : Prop :=
  ∀ (k : Fin 8192) (s : State), ∃ t, exec (.evtSlotCheckFail k) s = .next t ∧
    (∀ x, x ∈ t.evt.recs ↔ x ∈ s.evt.recs ∧ x.slot ≠ k.val) ∧
    t.fld EVT_COUNT_SLOT_ERR = min (2 ^ EVT_COUNT_SLOT_ERR.width - 1) (s.fld EVT_COUNT_SLOT_ERR + 1) ∧
    ∀ v : Sev, t.fld (ovwField v) = s.fld (ovwField v) ∧ t.fld (dropField v) = s.fld (dropField v)

/-- Acknowledging CRITICAL records (R419). -/
def Obligations.CriticalAcknowledge : Prop :=
  ∀ (q : BitVec 32) (s : State), ∃ t, exec (.evtAck q) s = .next t ∧ t = { s with evt := { s.evt with recs := t.evt.recs } } ∧
    (∀ i : Nat, t.evt.recs[i]? = s.evt.recs[i]?.map fun r =>
      if r.sev = .critical ∧ serialGe q r.seq then { r with acked := true } else r) ∧
    ∀ q', ∃ u, exec (.evtAck q') t = .next u ∧ ∀ (i : Nat) (r : LogRec), t.evt.recs[i]? = some r → r.acked = true → u.evt.recs[i]? = some r

/-- After a zeroisation alarm no key is loaded, the wrapping key is gone, the store is in HOLD, and the lines of writes in the pipes are stored
poisoned (R365). -/
def Obligations.AlarmLeavesNoKey : Prop :=
  ∀ (src : Fin 4) (ws : List Nat) (n : Nat) (s : State), (src.val = 3 → s.flag SEC_CTL_MESH_EN = true) →
    ∃ t, exec (.alarmZeroise src ws n) s = .next t ∧ (∀ k, t.keyLoaded k = false) ∧ t.sec.swk = none ∧ t.sec.store = .hold ∧
      ∀ l ∈ ws, (s.regionOf (64 * l)).isSome = true → (t.line l).poison = true

/-- A full-line write of a host to a valid frame of a volatile RESIDENT region stores its line and no other (R26, R66, R180). -/
def Obligations.HostWriteStoresItsLine : Prop :=
  ∀ (p : PortId) (ld : Fin 16) (a : BitVec 52) (tag dpa i : Nat) (r : Region) (x : LineData) (s t : State),
    s.portAccepts p.val ld.val = true → s.admFull (p.val / 2) = false → (s.linkAt p.val (s.ldLink p.val ld.val)).ide ≠ 1 →
    t = (s.takeEntry p.val ld.val).activity → (s.takeEntry p.val ld.val).mc.mode.serving = true →
    ((s.takeEntry p.val ld.val).linkAt p.val (s.ldLink p.val ld.val)).viral = false → t.memAccess p.val ld.val a.toNat = .allowed i r dpa →
    r.cls = .resident → r.persist = false → (t.page (dpa / 64 / 64)).st ≠ .invalid → (t.page (dpa / 64 / 64)).st ≠ .filling →
    (∀ n < 16, (t.ch n).work ≠ .rebuild) →
    ∃ u, exec (.cxlMemWrite p ld a tag x fullBe false true) s = .next u ∧ u.line (dpa / 64) = mkLine (dpa / 64) x ∧
      ∀ l, l ≠ dpa / 64 → u.line l = s.line l

/-- Requests that only ask change nothing: they leave every part of the state but what the controller sends and the requests it holds back. -/
def Obligations.QueriesChangeNothing : Prop :=
  ∀ (p : PortId) (ld : Fin 20) (lk : LinkId) (log : Fin 5) (a : BitVec 48) (n : Nat) (b : Fin 2) (h : BitVec 32) (id : BitVec 16) (st : Bool)
    (k : Fin 8192) (m : Fin 8) (s t : State),
    ∀ c ∈ [Instr.getEventRecords p ld log, .getEventInterruptPolicy p ld, .getFwInfo p ld, .getTimestamp p ld, .getSupportedLogs p ld,
      .identifyMemoryDevice p ld, .getPartitionInfo p ld, .setPartitionInfo p ld, .getHealthInfo p ld, .getAlertConfiguration p ld,
      .getShutdownState p ld, .getPoisonList p ld a n, .getScanMediaResults p ld, .getLsa p ld, .setLsa p ld, .getDynamicCapacityConfig p ld,
      .getDynamicCapacityExtentList p ld, .releaseDynamicCapacity p ld, .getLdInfo p lk, .getLdAllocations p lk, .setLdAllocations p lk,
      .getMultiHeadedInfo p lk, .getEndpointId b, .getMctpVersion b, .getMessageTypeSupport b, .evtRead b k m, .getPdr b st h,
      .getSensorReading b id, .getStateSensorReadings b st id, .getStatus b, .getFirmwareParameters b],
    exec c s = .next t → t = { s with outs := t.outs, buffered := t.buffered }
end

