-- ==== Sys2Proof/Laws/Alloc.lean ====
section
/-!
SUPPORT. Where a home program goes when the channel has one working die: the free choice of the die then has one outcome.
-/
namespace Sys2Proof.Laws

open Machine

/-- A choice among one thing is that thing. -/
theorem getD_mod_one {α : Type} (d e : α) (v : Nat) : [d].getD (v % [d].length) e = d := by
  simp [Nat.mod_one]

/-- A new home of a page on a channel with one working die is the next word of the die's open block (R211). -/
theorem allocHome_one {s : State} {k ch d b : Nat} {skip : Option Nat} (h1 : s.nandPowered = true) (h2 : s.homeChannel k skip = some ch)
    (h3 : s.diesOf ch = [d]) (h4 : s.openBlock ch d = some b) :
    s.allocHome k skip = some (⟨ch, d, b, (s.block ch d b).used⟩,
      (s.fresh.2.setBlock ch d b { s.block ch d b with
        used := (s.block ch d b).used + 1
        state := if s.blockWords ≤ (s.block ch d b).used + 1 then .closed else .opened }).checkPool ch d) := by
  have e : ∀ f : Nat → Bool, (if [d].filter f = [] then [d] else [d].filter f) = [d] := by
    intro f; by_cases h : f d = true <;> simp [h]
  simp only [State.allocHome, h1, h2, h3, e, getD_mod_one, Bool.not_true, Bool.false_eq_true, ↓reduceIte]
  rw [show (s.fresh.2).openBlock ch d = some b from h4]
  rfl

/-- The same for the repeat of a failed program in its channel (R214). -/
theorem allocSame_one {s : State} {ch d b : Nat} (h3 : s.diesOf ch = [d]) (h4 : s.openBlock ch d = some b) :
    s.allocSame ch = some (⟨ch, d, b, (s.block ch d b).used⟩,
      s.fresh.2.setBlock ch d b { s.block ch d b with
        used := (s.block ch d b).used + 1
        state := if s.blockWords ≤ (s.block ch d b).used + 1 then .closed else .opened }) := by
  have e : [d].filter (fun d => (s.openBlock ch d).isSome) = [d] := by simp [h4]
  simp only [State.allocSame, h3, e, getD_mod_one]
  rw [show (s.fresh.2).openBlock ch d = some b from h4]
  rfl

/-- A dirty page that can be programmed is in the list of write-backs when one starts (R121). -/
theorem startWriteback_found {s : State} {k : Nat} {e : Bool} {bad : List Nat} {loc : HomeLoc} {t : State} (h1 : (s.page k).st = .dirty)
    (h2 : (s.tier.wbs.any fun w => w.page == k) = false) (h3 : s.allocHome k = some (loc, t)) :
    ∃ w, ((s.startWriteback k e bad).tier.wbs.find? fun w => w.page == k) = some w := by
  have c : ¬ ((s.page k).st ≠ .dirty ∨ (s.tier.wbs.any fun w => w.page == k) = true) := by simp [h1, h2]
  simp only [State.startWriteback, if_neg c, h3, List.find?_append]
  cases List.find? (fun w => w.page == k) ((t.takeTokens 1).setPage k { s.page k with st := .writingBack, evictIntent := e }).tier.wbs <;> simp

end Sys2Proof.Laws
end

