-- ==== Sys2Proof/Laws/Log.lean ====
section
/-!
SUPPORT. The slots of the event log: a free slot exists while the log is not full, and a new record keeps one slot for each record.
-/
namespace Sys2Proof.Laws

open Machine Safety

/-- `logOk` of a list of records. -/
def recsOk (l : List LogRec) : Prop := l.length ≤ 8192 ∧ (∀ r ∈ l, r.slot < 8192) ∧ (l.map LogRec.slot).Nodup

/-- `logOk` says just that. -/
theorem logOk_iff (s : State) : logOk s = true ↔ recsOk s.evt.recs := by
  simp [logOk, recsOk, and_assoc]

theorem recsOk_nil : recsOk [] := by simp [recsOk]

theorem recsOk_filter {l : List LogRec} {p : LogRec → Bool} (h : recsOk l) : recsOk (l.filter p) :=
  ⟨Nat.le_trans (List.length_filter_le p l) h.1, fun r m => h.2.1 r (List.mem_filter.mp m).1, h.2.2.sublist (List.filter_sublist.map _)⟩

theorem recsOk_map {l : List LogRec} {f : LogRec → LogRec} (hf : ∀ r, (f r).slot = r.slot) (h : recsOk l) : recsOk (l.map f) := by
  refine ⟨by simpa using h.1, fun r m => ?_, ?_⟩
  · obtain ⟨x, hx, rfl⟩ := List.mem_map.mp m
    rw [hf]; exact h.2.1 x hx
  · rw [List.map_map, show LogRec.slot ∘ f = LogRec.slot from funext hf]; exact h.2.2

/-- A record in a slot of its own may be added while there is room. -/
theorem recsOk_append {l : List LogRec} {r : LogRec} (h : recsOk l) (hl : l.length < 8192) (hs : r.slot < 8192)
    (hn : ∀ x ∈ l, x.slot ≠ r.slot) : recsOk (l ++ [r]) := by
  refine ⟨by simp; omega, fun x m => ?_, ?_⟩
  · rcases List.mem_append.mp m with m | m
    · exact h.2.1 x m
    · rw [List.mem_singleton.mp m]; exact hs
  · rw [List.map_append, List.nodup_append]
    refine ⟨h.2.2, by simp, fun a ha b hb e => ?_⟩
    obtain ⟨x, hx, rfl⟩ := List.mem_map.mp ha
    simp only [List.map_cons, List.map_nil, List.mem_singleton] at hb
    exact hn x hx (e.trans hb)

/-- A record may take the slot of one that goes. -/
theorem recsOk_replace {l : List LogRec} {v r : LogRec} (h : recsOk l) (hv : v ∈ l) (hr : r.slot = v.slot) :
    recsOk ((l.filter fun x => x.slot != v.slot) ++ [r]) := by
  refine recsOk_append (recsOk_filter h) ?_ (hr ▸ h.2.1 v hv) fun x hx e => ?_
  · refine Nat.lt_of_lt_of_le (List.length_filter_lt_length_iff_exists.mpr ⟨v, hv, by simp⟩) h.1
  · have := (List.mem_filter.mp hx).2
    simp [e, hr] at this

/-- A list without repeats is no longer than one that holds all it holds. -/
theorem length_le_of_mem {l m : List Nat} (hn : l.Nodup) (h : ∀ x ∈ l, x ∈ m) : l.length ≤ m.length := by
  induction l generalizing m with
  | nil => exact Nat.zero_le _
  | cons a l ih =>
    have hm : a ∈ m := h a (List.mem_cons_self ..)
    have hn' := List.nodup_cons.mp hn
    have := ih (m := m.erase a) hn'.2 fun x hx =>
      (List.mem_erase_of_ne (fun e => hn'.1 (by rw [← e]; exact hx))).mpr (h x (List.mem_cons_of_mem _ hx))
    rw [List.length_erase_of_mem hm] at this
    have := List.length_pos_of_mem hm
    simp only [List.length_cons]
    omega

/-- While the log is not full, some slot is empty. -/
theorem emptySlots_ne {l : EvtLog} (h : l.recs.length < 8192) : l.emptySlots ≠ [] := by
  intro e
  have := length_le_of_mem (l := List.range 8192) (m := l.recs.map LogRec.slot) List.nodup_range fun k hk => by
    have := List.filter_eq_nil_iff.mp e k hk
    simp only [Bool.not_eq_true, Bool.not_eq_false', List.any_eq_true, beq_iff_eq] at this
    exact List.mem_map.mpr this
  simp only [List.length_range, List.length_map] at this
  omega

/-- The slot that is chosen for a new record is empty. -/
theorem emptySlots_spec {l : EvtLog} (h : l.recs.length < 8192) (n : Nat) :
    l.emptySlots.getD (n % l.emptySlots.length) 0 < 8192 ∧ ∀ x ∈ l.recs, x.slot ≠ l.emptySlots.getD (n % l.emptySlots.length) 0 := by
  have hp := List.length_pos_iff.mpr (emptySlots_ne h)
  have hm := List.getElem_mem (Nat.mod_lt n hp)
  rw [List.getD_eq_getElem?_getD, List.getElem?_eq_getElem (Nat.mod_lt n hp), Option.getD_some]
  obtain ⟨h1, h2⟩ := List.mem_filter.mp hm
  refine ⟨List.mem_range.mp h1, fun x hx e => ?_⟩
  simp only [Bool.not_eq_true', List.any_eq_false, beq_iff_eq] at h2
  exact h2 x hx e

/-- The record that is overwritten is one of the log's. -/
theorem victim_mem {l : EvtLog} {sev : Sev} {v : LogRec} (h : l.victim sev = some v) : v ∈ l.recs := by
  have key : ∀ (m : List LogRec) (o : Option LogRec), (∀ x ∈ m, x ∈ l.recs) → (∀ x, o = some x → x ∈ l.recs) →
      ∀ x, m.foldl (fun o r => match o with
        | none => some r
        | some b => if serialGe r.seq b.seq then some b else some r) o = some x → x ∈ l.recs := by
    intro m
    induction m with
    | nil => intro o _ ho x hx; exact ho x hx
    | cons a m ih =>
      intro o hm ho x hx
      refine ih _ (fun y hy => hm y (List.mem_cons_of_mem _ hy)) (fun y hy => ?_) x hx
      have ha := hm a (List.mem_cons_self ..)
      dsimp only at hy
      split at hy
      · cases hy; exact ha
      · next b =>
        split at hy
        · cases hy; exact ho _ rfl
        · cases hy; exact ha
  exact key _ none (fun x hx => (List.mem_filter.mp hx).1) (fun _ e => nomatch e) v h

end Sys2Proof.Laws
end

