-- ==== Sys2Proof/Laws/Sparse.lean ====
section
/-!
SUPPORT. The laws of sparse maps: a read after a write, and that every write keeps the canonical form.
-/
namespace Sys2Proof.Laws

open Machine

variable {α : Type} [DecidableEq α] {d : Nat → α} {m : List (Nat × α)}

/-- A list above a bound: its first key is, its first value is not what an unlisted key reads as, and the rest is above that key. -/
theorem wfFrom_cons {b : Option Nat} {k : Nat} {v : α} :
    Sparse.wfFrom d b ((k, v) :: m) = true ↔ (∀ x, b = some x → x < k) ∧ v ≠ d k ∧ Sparse.wfFrom d (some k) m = true := by
  cases b <;> simp [Sparse.wfFrom, and_assoc]

/-- The bound of a canonical list may be lowered. -/
theorem wfFrom_mono {b c : Option Nat} (h : Sparse.wfFrom d b m = true) (hc : ∀ x, c = some x → ∃ y, b = some y ∧ x ≤ y) :
    Sparse.wfFrom d c m = true := by
  cases m with
  | nil => rfl
  | cons e t =>
    rw [wfFrom_cons] at h ⊢
    refine ⟨fun x hx => ?_, h.2⟩
    obtain ⟨y, hy, hxy⟩ := hc x hx
    exact Nat.lt_of_le_of_lt hxy (h.1 y hy)

/-- A write above the bound keeps a canonical list canonical. -/
theorem wfFrom_set {b : Option Nat} {k : Nat} {v : α} (h : Sparse.wfFrom d b m = true) (hb : ∀ x, b = some x → x < k) :
    Sparse.wfFrom d b (Sparse.set d m k v) = true := by
  induction m generalizing b with
  | nil =>
    unfold Sparse.set
    split
    · rfl
    · next hv => exact wfFrom_cons.mpr ⟨hb, hv, rfl⟩
  | cons e t ih =>
    obtain ⟨k', v'⟩ := e
    have h' := wfFrom_cons.mp h
    unfold Sparse.set
    split
    · next hlt =>
      split
      · exact h
      · next hv => exact wfFrom_cons.mpr ⟨hb, hv, wfFrom_cons.mpr ⟨fun x e => by cases e; exact hlt, h'.2⟩⟩
    · split
      · next hlt he =>
        subst he
        split
        · exact wfFrom_mono h'.2.2 fun x e => ⟨k, rfl, Nat.le_of_lt (hb x e)⟩
        · next hv => exact wfFrom_cons.mpr ⟨hb, hv, h'.2.2⟩
      · next hlt he => exact wfFrom_cons.mpr ⟨h'.1, h'.2.1, ih h'.2.2 fun x e => by cases e; omega⟩

/-- Every write keeps the canonical form. -/
theorem wf_set {k : Nat} {v : α} (h : Sparse.wf d m = true) : Sparse.wf d (Sparse.set d m k v) = true :=
  wfFrom_set h fun _ e => nomatch e

/-- So does every change of one value. -/
theorem wf_modify {k : Nat} {f : α → α} (h : Sparse.wf d m = true) : Sparse.wf d (Sparse.modify d m k f) = true := wf_set h

/-- Entries may be taken away. -/
theorem wfFrom_clear {b : Option Nat} {p : Nat → Bool} (h : Sparse.wfFrom d b m = true) : Sparse.wfFrom d b (Sparse.clear m p) = true := by
  induction m generalizing b with
  | nil => rfl
  | cons e t ih =>
    obtain ⟨k, v⟩ := e
    have h' := wfFrom_cons.mp h
    unfold Sparse.clear
    rw [List.filter_cons]
    split
    · exact wfFrom_cons.mpr ⟨h'.1, h'.2.1, ih h'.2.2⟩
    · exact ih (wfFrom_mono h'.2.2 fun x e => ⟨k, rfl, Nat.le_of_lt (h'.1 x e)⟩)

/-- Clearing keys keeps the canonical form. -/
theorem wf_clear {p : Nat → Bool} (h : Sparse.wf d m = true) : Sparse.wf d (Sparse.clear m p) = true := wfFrom_clear h

/-- A key at or below the bound is not listed. -/
theorem get_below {b k : Nat} (h : Sparse.wfFrom d (some b) m = true) (hk : k ≤ b) : Sparse.get d m k = d k := by
  induction m generalizing b with
  | nil => rfl
  | cons e t ih =>
    obtain ⟨k', v⟩ := e
    have h' := wfFrom_cons.mp h
    have := h'.1 b rfl
    unfold Sparse.get
    rw [if_neg (by omega)]
    exact ih h'.2.2 (by omega)

/-- What a key reads as after a write. -/
theorem wfFrom_get_set {b : Option Nat} {k j : Nat} {v : α} (h : Sparse.wfFrom d b m = true) :
    Sparse.get d (Sparse.set d m k v) j = if j = k then v else Sparse.get d m j := by
  induction m generalizing b with
  | nil =>
    unfold Sparse.set
    split
    · next hv =>
      split
      · next hj => rw [hv, hj]; rfl
      · rfl
    · simp only [Sparse.get, eq_comm]
  | cons e t ih =>
    obtain ⟨k', v'⟩ := e
    have h' := wfFrom_cons.mp h
    unfold Sparse.set
    split
    · next hlt =>
      split
      · next hv =>
        split
        · next hj =>
          subst hj; subst hv
          rw [Sparse.get, if_neg (by omega)]
          exact get_below h'.2.2 (by omega)
        · rfl
      · simp only [Sparse.get, eq_comm]
    · split
      · next hlt he =>
        subst he
        split
        · next hv =>
          split
          · next hj => subst hj; subst hv; exact get_below h'.2.2 (Nat.le_refl _)
          · rw [Sparse.get, if_neg (fun e => by omega)]
        · simp only [Sparse.get, eq_comm]
          split
          · rfl
          · rfl
      · next hlt he =>
        simp only [Sparse.get, ih h'.2.2]
        split
        · rw [if_neg (by omega)]
        · rfl

/-- What a key reads as after a write. -/
theorem get_set {k j : Nat} {v : α} (h : Sparse.wf d m = true) :
    Sparse.get d (Sparse.set d m k v) j = if j = k then v else Sparse.get d m j := wfFrom_get_set h

/-- A read of the key that was written gives the value. -/
theorem get_set_same {k : Nat} {v : α} (h : Sparse.wf d m = true) : Sparse.get d (Sparse.set d m k v) k = v := by
  rw [get_set h, if_pos rfl]

/-- A write leaves every other key alone. -/
theorem get_set_other {k j : Nat} {v : α} (h : Sparse.wf d m = true) (hj : j ≠ k) :
    Sparse.get d (Sparse.set d m k v) j = Sparse.get d m j := by
  rw [get_set h, if_neg hj]

end Sys2Proof.Laws
end

