-- ==== Sys2Proof/Laws/Keeps.lean ====
section
/-!
SUPPORT. What every operation keeps: the queue of waiting commands, the slots of the event log, and the canonical form of the tier 1 memory.
One lemma for each way a state is put together; the lemmas about the operations stand in the files beside this one.
-/
namespace Sys2Proof.Laws

open Machine Safety

/-- A queue, a log and a memory that keep what those of a state had. -/
def K (s : State) (p : List Instr) (e : List LogRec) (d : List (Nat × Line)) : Prop :=
  p = s.pending ∧ (recsOk s.evt.recs → recsOk e) ∧ (Sparse.wf zeroLine s.tier.dram = true → Sparse.wf zeroLine d = true)

/-- The second state keeps the queue of the first, its log's slots and the form of its memory. -/
def Keeps (s t : State) : Prop := K s t.pending t.evt.recs t.tier.dram

/-- The same of a state in a pair. -/
def KP {α : Type} (s : State) (p : α × State) : Prop := Keeps s p.2

/-- The same of a state first in a pair. -/
def KQ {α : Type} (s : State) (p : State × α) : Prop := Keeps s p.1

/-- The same of a state that there may be. -/
def KO (s : State) (o : Option State) : Prop :=
  match o with
  | some t => Keeps s t
  | none => True

/-- The same of a pair that there may be. -/
def KOP {α : Type} (s : State) (o : Option (α × State)) : Prop :=
  match o with
  | some p => Keeps s p.2
  | none => True

/-- The same of an outcome, if it is a next state. -/
def KR (s : State) (r : Res) : Prop := ∀ t, r = .next t → Keeps s t

variable {α β : Type} {s t : State}

theorem Keeps.refl (s : State) : Keeps s s := ⟨rfl, id, id⟩

theorem Keeps.trans {u : State} (h : Keeps s t) (k : Keeps t u) : Keeps s u :=
  ⟨k.1.trans h.1, fun x => k.2.1 (h.2.1 x), fun x => k.2.2 (h.2.2 x)⟩

theorem Keeps.mk {x : State} {e : EvtLog} {d : Tier} 
    {a2 a3 a4 a5 a7 a8 a9 a10 a11 a12 a14 a15 a16 a17 a18 a19 a20 a21 a22 a23 a24 a25 a26 a27 a28 a29 a30}
    (h : Keeps s x) (he : e.recs = x.evt.recs) (hd : d.dram = x.tier.dram) :
    Keeps s ⟨x.pending, a2, a3, a4, a5, e, a7, a8, a9, a10, a11, a12, d, a14, a15, a16, a17, a18, a19, a20, a21, a22, a23, a24, a25, a26,
      a27, a28, a29, a30⟩ := by
  refine ⟨h.1, ?_, ?_⟩
  · show recsOk _ → recsOk e.recs
    rw [he]; exact h.2.1
  · show _ → Sparse.wf zeroLine d.dram = true
    rw [hd]; exact h.2.2

theorem Keeps.mk' {x : State} {e : EvtLog} {d : Tier} 
    {a2 a3 a4 a5 a7 a8 a9 a10 a11 a12 a14 a15 a16 a17 a18 a19 a20 a21 a22 a23 a24 a25 a26 a27 a28 a29 a30}
    (h : Keeps s x) (he : recsOk x.evt.recs → recsOk e.recs)
    (hd : Sparse.wf zeroLine x.tier.dram = true → Sparse.wf zeroLine d.dram = true) :
    Keeps s ⟨x.pending, a2, a3, a4, a5, e, a7, a8, a9, a10, a11, a12, d, a14, a15, a16, a17, a18, a19, a20, a21, a22, a23, a24, a25, a26,
      a27, a28, a29, a30⟩ := ⟨h.1, fun w => he (h.2.1 w), fun w => hd (h.2.2 w)⟩

theorem Keeps.ite {c : Prop} [Decidable c] {a b : State} (h : Keeps s a) (k : Keeps s b) : Keeps s (if c then a else b) := by
  split
  · exact h
  · exact k

theorem KP.ite {c : Prop} [Decidable c] {a b : α × State} (h : KP s a) (k : KP s b) : KP s (if c then a else b) := by
  split
  · exact h
  · exact k

theorem KQ.ite {c : Prop} [Decidable c] {a b : State × α} (h : KQ s a) (k : KQ s b) : KQ s (if c then a else b) := by
  split
  · exact h
  · exact k

theorem KO.ite {c : Prop} [Decidable c] {a b : Option State} (h : KO s a) (k : KO s b) : KO s (if c then a else b) := by
  split
  · exact h
  · exact k

theorem KOP.ite {c : Prop} [Decidable c] {a b : Option (α × State)} (h : KOP s a) (k : KOP s b) : KOP s (if c then a else b) := by
  split
  · exact h
  · exact k

theorem KR.ite {c : Prop} [Decidable c] {a b : Res} (h : KR s a) (k : KR s b) : KR s (if c then a else b) := by
  split
  · exact h
  · exact k

theorem KP.mk {a : α} (h : Keeps s t) : KP s (a, t) := h
theorem KQ.mk {a : α} (h : Keeps s t) : KQ s (t, a) := h
theorem KP.snd {p : α × State} (h : KP s p) : Keeps s p.2 := h
theorem KQ.fst {p : State × α} (h : KQ s p) : Keeps s p.1 := h
theorem KO.some (h : Keeps s t) : KO s (some t) := h
theorem KO.none : KO s none := trivial
theorem KOP.some {p : α × State} (h : KP s p) : KOP s (some p) := h
theorem KOP.none : KOP (α := α) s none := trivial
theorem KR.next (h : Keeps s t) : KR s (.next t) := fun _ e => Host.Outcome.next.inj e ▸ h
theorem KR.fault {f : Fault} : KR s (.fault f) := fun _ e => nomatch e
theorem KR.refused {f : Refusal} : KR s (.refused f) := fun _ e => nomatch e

theorem KP.of_eq {p : α × State} {a : α} (e : p = (a, t)) (h : KP s p) : Keeps s t := by subst e; exact h
theorem KQ.of_eq {p : State × α} {a : α} (e : p = (t, a)) (h : KQ s p) : Keeps s t := by subst e; exact h
theorem KO.of_eq {o : Option State} (e : o = Option.some t) (h : KO s o) : Keeps s t := by subst e; exact h
theorem KOP.of_eq {o : Option (α × State)} {a : α} (e : o = Option.some (a, t)) (h : KOP s o) : Keeps s t := by subst e; exact h

theorem Keeps.foldl {f : State → β → State} {l : List β} {x : State} (h : Keeps s x) (k : ∀ x b, Keeps s x → Keeps s (f x b)) :
    Keeps s (l.foldl f x) := by
  induction l generalizing x with
  | nil => exact h
  | cons b l ih => exact ih (k x b h)

theorem KP.foldl {f : α × State → β → α × State} {l : List β} {x : α × State} (h : KP s x)
    (k : ∀ x b, KP s x → KP s (f x b)) :
    KP s (l.foldl f x) := by
  induction l generalizing x with
  | nil => exact h
  | cons b l ih => exact ih (k x b h)

theorem KQ.foldl {f : State × α → β → State × α} {l : List β} {x : State × α} (h : KQ s x)
    (k : ∀ x b, KQ s x → KQ s (f x b)) :
    KQ s (l.foldl f x) := by
  induction l generalizing x with
  | nil => exact h
  | cons b l ih => exact ih (k x b h)

theorem Keeps.repeat {f : State → State} {n : Nat} {x : State} (h : Keeps s x)
    (k : ∀ x, Keeps s x → Keeps s (f x)) : Keeps s (n.repeat f x) := by
  induction n with
  | zero => exact h
  | succ n ih => exact k _ ih

theorem KR.get (h : KR s (.next t)) : Keeps s t := h t rfl

end Sys2Proof.Laws
end

