-- ==== Sys2Proof/Laws/KeepsBase.lean ====
section
/-!
SUPPORT. What the operations and commands of units, registers, the log, rings and regions keep (`Keeps`).
-/
namespace Sys2Proof.Laws

open Machine Safety

set_option Elab.async false

theorem State.setCh_keeps {s0 s : State} {n : Nat} {c : Channel} (h_s : Keeps s0 s) : Keeps s0 (State.setCh s n c) := by
  unfold State.setCh
  with_reducible
    refine Keeps.mk ?_ rfl rfl; assumption

theorem State.setLink_keeps {s0 s : State} {p l : Nat} {x : CxlLink} (h_s : Keeps s0 s) : Keeps s0 (State.setLink s p l x) := by
  unfold State.setLink
  with_reducible
    refine Keeps.mk ?_ rfl rfl; assumption

theorem State.setLd_keeps {s0 s : State} {p ld : Nat} {x : Ld} (h_s : Keeps s0 s) : Keeps s0 (State.setLd s p ld x) := by
  unfold State.setLd
  with_reducible
    refine Keeps.mk ?_ rfl rfl; assumption

theorem State.setQp_keeps {s0 s : State} {q : Nat} {x : Qp} (h_s : Keeps s0 s) : Keeps s0 (State.setQp s q x) := by
  unfold State.setQp
  with_reducible
    refine Keeps.mk ?_ rfl rfl; assumption

theorem State.emit_keeps {s0 s : State} {o : Out} (h_s : Keeps s0 s) : Keeps s0 (State.emit s o) := by
  unfold State.emit
  with_reducible
    refine Keeps.mk ?_ rfl rfl; assumption

theorem State.emitAll_keeps {s0 s : State} {os : List Out} (h_s : Keeps s0 s) : Keeps s0 (State.emitAll s os) := by
  unfold State.emitAll
  with_reducible
    refine Keeps.mk ?_ rfl rfl; assumption

theorem State.pushCxl_keeps {s0 s : State} {p ld log kind : Nat} {rcd : Option LogRec} {base size : Nat} (h_s : Keeps s0 s) : Keeps s0
    (State.pushCxl s p ld log kind rcd base size) := by
  unfold State.pushCxl
  with_reducible
    extract_lets +onlyGivenNames _; extract_lets +onlyGivenNames y; refine (fun _ : Keeps s0 y => ?_) ?_; clear_value y
    extract_lets +onlyGivenNames _; apply Keeps.ite; apply State.emit_keeps; assumption; assumption; unfold y; apply Keeps.ite
    apply State.setLd_keeps; assumption; apply State.setLd_keeps; assumption

theorem State.mirrorCxl_keeps {s0 s : State} {r : LogRec} (h_s : Keeps s0 s) : Keeps s0 (State.mirrorCxl s r) := by
  unfold State.mirrorCxl
  with_reducible
    extract_lets +onlyGivenNames _; extract_lets +onlyGivenNames y; refine (fun _ : Keeps s0 y => ?_) ?_; clear_value y; split
    apply Keeps.ite; assumption; refine Keeps.foldl ?_ fun _ _ _ => ?_; assumption; apply State.pushCxl_keeps; assumption; assumption
    unfold y; refine Keeps.foldl ?_ fun _ _ _ => ?_; assumption; apply State.pushCxl_keeps; assumption

theorem State.mediaEvent_keeps {s0 s : State} {dpa region : Nat} (h_s : Keeps s0 s) : Keeps s0 (State.mediaEvent s dpa region) := by
  unfold State.mediaEvent
  with_reducible
    refine Keeps.foldl ?_ fun _ _ _ => ?_; assumption; apply State.pushCxl_keeps; assumption

theorem State.platformEvent_keeps {s0 s : State} {e : PlatformEvent} (h_s : Keeps s0 s) : Keeps s0 (State.platformEvent s e) := by
  unfold State.platformEvent
  with_reducible
    apply Keeps.ite; assumption; extract_lets +onlyGivenNames _; extract_lets +onlyGivenNames _; extract_lets +onlyGivenNames _
    apply State.emit_keeps; refine Keeps.mk ?_ rfl rfl; assumption

theorem State.sensorChange_keeps {s0 s : State} {id value : Nat} (h_s : Keeps s0 s) : Keeps s0 (State.sensorChange s id value) := by
  unfold State.sensorChange
  with_reducible
    apply State.platformEvent_keeps; assumption

theorem State.stackSensor_keeps {s0 s : State} {base value : Nat} (h_s : Keeps s0 s) : Keeps s0 (State.stackSensor s base value) := by
  unfold State.stackSensor
  with_reducible
    apply Keeps.ite; assumption; apply State.sensorChange_keeps; assumption

theorem State.mirrorEvent_keeps {s0 s : State} {r : LogRec} (h_s : Keeps s0 s) : Keeps s0 (State.mirrorEvent s r) := by
  unfold State.mirrorEvent
  with_reducible
    extract_lets +onlyGivenNames y; refine (fun _ : Keeps s0 y => ?_) ?_; clear_value y; apply Keeps.ite; apply State.platformEvent_keeps
    assumption; assumption; unfold y; apply State.mirrorCxl_keeps; assumption

theorem State.fresh_keeps {s0 s : State} (h_s : Keeps s0 s) : KP s0 (State.fresh s) := by
  unfold State.fresh
  with_reducible
    apply KP.mk; refine Keeps.mk ?_ rfl rfl; assumption

theorem State.setRegAt_keeps {s0 s : State} {r : RegName} {i j w : Nat} {v : Word} (h_s : Keeps s0 s) : Keeps s0
    (State.setRegAt s r i j w v) := by
  unfold State.setRegAt
  with_reducible
    refine Keeps.mk ?_ rfl rfl; assumption

theorem State.setFld_keeps {s0 s : State} {f : Field} {v i j : Nat} (h_s : Keeps s0 s) : Keeps s0 (State.setFld s f v i j) := by
  unfold State.setFld
  with_reducible
    apply State.setRegAt_keeps; assumption

theorem State.addFld_keeps {s0 s : State} {f : Field} {n i j : Nat} (h_s : Keeps s0 s) : Keeps s0 (State.addFld s f n i j) := by
  unfold State.addFld
  with_reducible
    apply State.setFld_keeps; assumption

theorem State.bump_keeps {s0 s : State} {f : Field} {i j : Nat} (h_s : Keeps s0 s) : Keeps s0 (State.bump s f i j) := by
  unfold State.bump
  with_reducible
    apply State.addFld_keeps; assumption

theorem State.noteDrop_keeps {s0 s : State} {sev : Sev} (h_s : Keeps s0 s) : Keeps s0 (State.noteDrop s sev) := by
  unfold State.noteDrop
  with_reducible
    extract_lets +onlyGivenNames y; refine (fun _ : Keeps s0 y => ?_) ?_; clear_value y; extract_lets +onlyGivenNames _
    extract_lets +onlyGivenNames _; extract_lets +onlyGivenNames _; refine Keeps.mk ?_ rfl rfl; assumption; unfold y
    apply State.bump_keeps; assumption

theorem State.copyCritical_keeps {s0 s : State} {r : LogRec} (h_s : Keeps s0 s) : Keeps s0 (State.copyCritical s r) := by
  unfold State.copyCritical
  with_reducible
    apply Keeps.ite; refine Keeps.mk ?_ rfl rfl; assumption; assumption

set_option maxRecDepth 10000 in
theorem State.place_keeps {s0 s : State} {r : LogRec} (h_s : Keeps s0 s) : Keeps s0 (State.place s r) := by
  unfold State.place
  split
  · next hl =>
    have hl' : s.fresh.2.evt.recs.length < 8192 := by rw [show s.fresh.2.evt = s.evt from rfl]; exact hl
    have hf : Keeps s0 s.fresh.2 := State.fresh_keeps h_s
    refine State.mirrorEvent_keeps (State.copyCritical_keeps (Keeps.mk' hf (fun w => ?_) id))
    exact recsOk_append w hl' (emptySlots_spec hl' _).1 (emptySlots_spec hl' _).2
  · split
    · next v hv =>
      have hb : Keeps s0 (s.bump (ovwField v.sev)) := State.bump_keeps h_s
      exact State.mirrorEvent_keeps (State.copyCritical_keeps (Keeps.mk' hb (fun w => recsOk_replace w (victim_mem hv) rfl) id))
    · exact State.noteDrop_keeps h_s

theorem State.log_keeps {s0 s : State} {code : Nat} {sev : Sev} {source w4 w5 w6 w7 : Nat} (h_s : Keeps s0 s) : Keeps s0
    (State.log s code sev source w4 w5 w6 w7) := by
  unfold State.log
  with_reducible
    apply State.place_keeps; assumption

theorem State.logLim_keeps {s0 s : State} {code key : Nat} {sev : Sev} {source : Nat} {first : Nat × Nat × Nat × Nat}
    {merge : Limiter → Limiter} (h_s : Keeps s0 s) : Keeps s0 (State.logLim s code key sev source first merge) := by
  unfold State.logLim
  with_reducible
    extract_lets +onlyGivenNames _; extract_lets +onlyGivenNames _; extract_lets +onlyGivenNames _; refine Keeps.mk ?_ rfl rfl; assumption

theorem State.reject_keeps {s0 s : State} {off val reason : Nat} {who : Writer} {detail : Nat} (h_s : Keeps s0 s) : Keeps s0
    (State.reject s off val reason who detail) := by
  unfold State.reject
  with_reducible
    extract_lets +onlyGivenNames _; split; extract_lets +onlyGivenNames y; refine (fun _ : Keeps s0 y => ?_) ?_; clear_value y
    refine Keeps.mk ?_ rfl rfl; assumption; unfold y; apply State.log_keeps; assumption; apply Keeps.ite
    extract_lets +onlyGivenNames y; refine (fun _ : Keeps s0 y => ?_) ?_; clear_value y; refine Keeps.mk ?_ rfl rfl; assumption; unfold y
    apply State.log_keeps; assumption; extract_lets +onlyGivenNames _; refine Keeps.mk ?_ rfl rfl; assumption

theorem State.noteErr_keeps {s0 s : State} {first multi count : Field} {i code : Nat} (h_s : Keeps s0 s) : Keeps s0
    (State.noteErr s first multi count i code) := by
  unfold State.noteErr
  with_reducible
    extract_lets +onlyGivenNames y; refine (fun _ : Keeps s0 y => ?_) ?_; clear_value y; apply State.bump_keeps; assumption; unfold y
    apply Keeps.ite; apply State.setFld_keeps; assumption; apply State.setFld_keeps; assumption

theorem State.setRing_keeps {s0 s : State} {r : Nat} {x : Ring} (h_s : Keeps s0 s) : Keeps s0 (State.setRing s r x) := by
  unfold State.setRing
  with_reducible
    refine Keeps.mk ?_ rfl rfl; assumption

theorem State.record_keeps {s0 s : State} {src : CmdSrc} {st : Status} {param : Nat} {long final : Bool} (h_s : Keeps s0 s) : Keeps s0
    (State.record s src st param long final) := by
  unfold State.record
  with_reducible
    split; extract_lets +onlyGivenNames _; apply State.setRing_keeps; assumption; apply Keeps.ite; apply State.emit_keeps
    apply State.setLd_keeps; assumption; assumption; extract_lets +onlyGivenNames _; split; assumption; extract_lets +onlyGivenNames _
    apply Keeps.ite; apply State.emit_keeps; apply State.bump_keeps; apply State.setQp_keeps; assumption; apply Keeps.ite
    apply State.emit_keeps; apply State.setQp_keeps; assumption; apply State.setQp_keeps; assumption; assumption

theorem State.complete_keeps {s0 s : State} {src : CmdSrc} {st : Status} {param : Nat} (h_s : Keeps s0 s) : Keeps s0
    (State.complete s src st param) := by
  unfold State.complete
  with_reducible
    apply State.record_keeps; assumption

theorem State.completeLong_keeps {s0 s : State} {src : CmdSrc} {st : Status} {param : Nat} (h_s : Keeps s0 s) : Keeps s0
    (State.completeLong s src st param) := by
  unfold State.completeLong
  with_reducible
    apply State.record_keeps; assumption

theorem State.setMode_keeps {s0 s : State} {m : Mode} {t : Trigger} (h_s : Keeps s0 s) : Keeps s0 (State.setMode s m t) := by
  unfold State.setMode
  with_reducible
    extract_lets +onlyGivenNames _; extract_lets +onlyGivenNames _; extract_lets +onlyGivenNames _; extract_lets +onlyGivenNames _
    extract_lets +onlyGivenNames _; extract_lets +onlyGivenNames _
    extract_lets +onlyGivenNames y; refine (fun _ : Keeps s0 y => ?_) ?_; clear_value y; apply State.log_keeps
    apply State.stackSensor_keeps; apply State.sensorChange_keeps; assumption; unfold y; refine Keeps.mk ?_ rfl rfl; assumption

theorem State.refuseMode_keeps {s0 s : State} {target : Nat} {t : Trigger} {st : Status} (h_s : Keeps s0 s) : Keeps s0
    (State.refuseMode s target t st) := by
  unfold State.refuseMode
  with_reducible
    apply State.log_keeps; assumption

theorem State.setCopyInfo_keeps {s0 s : State} {i : Nat} {x : CopyInfo} (h_s : Keeps s0 s) : Keeps s0 (State.setCopyInfo s i x) := by
  unfold State.setCopyInfo
  with_reducible
    refine Keeps.mk ?_ rfl rfl; assumption

theorem State.setPage_keeps {s0 s : State} {k : Nat} {p : Page} (h_s : Keeps s0 s) : Keeps s0 (State.setPage s k p) := by
  unfold State.setPage
  with_reducible
    refine Keeps.mk ?_ rfl rfl; assumption

theorem State.listPoison_keeps {s0 s : State} {l src : Nat} (h_s : Keeps s0 s) : Keeps s0 (State.listPoison s l src) := by
  unfold State.listPoison
  with_reducible
    extract_lets +onlyGivenNames _; apply Keeps.ite; assumption; apply Keeps.ite; refine Keeps.mk ?_ rfl rfl; assumption
    apply State.setFld_keeps; assumption

theorem State.setLine_keeps {s0 s : State} {l : Nat} {x : Line} {src : Nat} (h_s : Keeps s0 s) : Keeps s0 (State.setLine s l x src) :=
    by
  unfold State.setLine
  with_reducible
    extract_lets +onlyGivenNames _; extract_lets +onlyGivenNames y; refine (fun _ : Keeps s0 y => ?_) ?_; clear_value y; apply Keeps.ite
    apply State.listPoison_keeps; assumption; refine Keeps.mk ?_ rfl rfl; assumption; unfold y; refine Keeps.mk' ?_ ?_ ?_; assumption
    intro _; assumption; intro _; with_unfolding_all exact wf_set (by assumption)

theorem State.setHome_keeps {s0 s : State} {l : Nat} {x : Line} (h_s : Keeps s0 s) : Keeps s0 (State.setHome s l x) := by
  unfold State.setHome
  with_reducible
    refine Keeps.mk ?_ rfl rfl; assumption

theorem State.setImage_keeps {s0 s : State} {b : Bool} {x : Image} (h_s : Keeps s0 s) : Keeps s0 (State.setImage s b x) := by
  unfold State.setImage
  with_reducible
    apply Keeps.ite; refine Keeps.mk ?_ rfl rfl; assumption; refine Keeps.mk ?_ rfl rfl; assumption

theorem State.notReady_keeps {s0 s : State} {x1 : ReqFrom} (h_s : Keeps s0 s) : Keeps s0 (State.notReady s x1) := by
  unfold State.notReady
  with_reducible
    split; apply State.emit_keeps; assumption; assumption

theorem State.request_keeps {s0 s : State} {from_ : ReqFrom} {c : Instr} {k : State → State} (h_s : Keeps s0 s)
    (h_k : ∀ a0, Keeps s0 a0 → Keeps s0 (k a0)) : Keeps s0 (State.request s from_ c k) := by
  unfold State.request
  with_reducible
    apply Keeps.ite; apply h_k; assumption; apply Keeps.ite; assumption; apply Keeps.ite; apply State.notReady_keeps; assumption
    refine Keeps.mk ?_ rfl rfl; assumption

theorem State.answerRead_keeps {s0 s : State} {req : Requester} {l : Nat} {x : Line} (h_s : Keeps s0 s) : Keeps s0
    (State.answerRead s req l x) := by
  unfold State.answerRead
  with_reducible
    split; extract_lets +onlyGivenNames _; apply Keeps.ite; apply State.emit_keeps; assumption; assumption; assumption

theorem State.renameWriters_keeps {s0 s : State} {off : Requester → Requester} (h_s : Keeps s0 s) : Keeps s0 (State.renameWriters s off)
    := by
  unfold State.renameWriters
  with_reducible
    extract_lets +onlyGivenNames _; extract_lets +onlyGivenNames _; extract_lets +onlyGivenNames _; extract_lets +onlyGivenNames _
    extract_lets +onlyGivenNames _; refine Keeps.mk ?_ rfl rfl; assumption

theorem State.detachOp_keeps {s0 s : State} {k : Nat} (h_s : Keeps s0 s) : Keeps s0 (State.detachOp s k) := by
  unfold State.detachOp
  with_reducible
    apply State.renameWriters_keeps; assumption

theorem State.spillPushed_keeps {s0 s : State} {id : Nat} (h_s : Keeps s0 s) : Keeps s0 (State.spillPushed s id) := by
  unfold State.spillPushed
  with_reducible
    refine Keeps.mk ?_ rfl rfl; assumption

theorem State.spillRefused_keeps {s0 s : State} {q : Nat} (h_s : Keeps s0 s) : Keeps s0 (State.spillRefused s q) := by
  unfold State.spillRefused
  with_reducible
    apply State.logLim_keeps; assumption

theorem State.endItem_keeps {s0 s : State} {it : QpItem} {st : Status} (h_s : Keeps s0 s) : Keeps s0 (State.endItem s it st) := by
  unfold State.endItem
  with_reducible
    apply Keeps.ite; apply State.complete_keeps; assumption; split; extract_lets +onlyGivenNames _
    extract_lets +onlyGivenNames y; refine (fun _ : Keeps s0 y => ?_) ?_; clear_value y
    extract_lets +onlyGivenNames y; refine (fun _ : Keeps s0 y => ?_) ?_; clear_value y; refine Keeps.foldl ?_ fun _ _ _ => ?_; assumption
    apply State.complete_keeps; assumption; unfold y; apply State.completeLong_keeps; assumption; unfold y; apply State.detachOp_keeps
    refine Keeps.mk ?_ rfl rfl; assumption; assumption

theorem State.stopQp_keeps {s0 s : State} {q : Nat} {st : QpState} {bad : Option (Nat × Status)} (h_s : Keeps s0 s) : Keeps s0
    (State.stopQp s q st bad) := by
  unfold State.stopQp
  with_reducible
    extract_lets +onlyGivenNames _; extract_lets +onlyGivenNames y; refine (fun _ : Keeps s0 y => ?_) ?_; clear_value y
    refine Keeps.foldl ?_ fun _ _ _ => ?_; assumption; apply State.endItem_keeps; assumption; unfold y; apply State.setQp_keeps
    assumption

theorem State.qpError_keeps {s0 s : State} {q cause psn : Nat} {bad : Option (Nat × Status)} (h_s : Keeps s0 s) : Keeps s0
    (State.qpError s q cause psn bad) := by
  unfold State.qpError
  with_reducible
    apply State.stopQp_keeps; apply State.log_keeps; assumption

theorem State.rdmaSend_keeps {s0 s : State} {q kind : Nat} {fields : List Nat} (h_s : Keeps s0 s) : Keeps s0
    (State.rdmaSend s q kind fields) := by
  unfold State.rdmaSend
  with_reducible
    apply State.emit_keeps; assumption

theorem State.rdmaNak_keeps {s0 s : State} {q psn syndrome : Nat} (h_s : Keeps s0 s) : Keeps s0 (State.rdmaNak s q psn syndrome) := by
  unfold State.rdmaNak
  with_reducible
    apply State.rdmaSend_keeps; apply State.bump_keeps; assumption

theorem State.deliver_keeps {s0 s : State} {req : Requester} {l : Nat} {x : Line} (h_s : Keeps s0 s) : Keeps s0
    (State.deliver s req l x) := by
  unfold State.deliver
  with_reducible
    split; extract_lets +onlyGivenNames _; apply Keeps.ite; assumption; apply Keeps.ite; apply State.qpError_keeps
    apply State.rdmaNak_keeps; assumption; extract_lets +onlyGivenNames _; extract_lets +onlyGivenNames _; extract_lets +onlyGivenNames _
    apply State.rdmaSend_keeps; apply State.setQp_keeps; assumption; apply State.answerRead_keeps; assumption
    extract_lets +onlyGivenNames _; refine Keeps.mk ?_ rfl rfl; assumption; assumption

theorem State.bttAck_keeps {s0 s : State} {path st : Nat} (h_s : Keeps s0 s) : Keeps s0 (State.bttAck s path st) := by
  unfold State.bttAck
  with_reducible
    extract_lets +onlyGivenNames y; refine (fun _ : Keeps s0 y => ?_) ?_; clear_value y; refine Keeps.mk ?_ rfl rfl; assumption; unfold y
    apply State.emit_keeps; assumption

theorem State.bttFlushed_keeps {s0 s : State} {st : Nat} (h_s : Keeps s0 s) : Keeps s0 (State.bttFlushed s st) := by
  unfold State.bttFlushed
  with_reducible
    extract_lets +onlyGivenNames _; apply Keeps.ite; apply State.bttAck_keeps; refine Keeps.mk ?_ rfl rfl; assumption; assumption

theorem State.unwait_keeps {s0 s : State} {req : Requester} (h_s : Keeps s0 s) : Keeps s0 (State.unwait s req) := by
  unfold State.unwait
  with_reducible
    extract_lets +onlyGivenNames _; refine Keeps.mk ?_ rfl rfl; assumption

theorem State.answerPend_keeps {s0 s : State} {q : Nat} (h_s : Keeps s0 s) : Keeps s0 (State.answerPend s q) := by
  unfold State.answerPend
  with_reducible
    extract_lets +onlyGivenNames _; extract_lets +onlyGivenNames _
    extract_lets +onlyGivenNames y; refine (fun _ : Keeps s0 y => ?_) ?_; clear_value y; refine Keeps.foldl ?_ fun _ _ _ => ?_; assumption
    split; apply State.rdmaSend_keeps; assumption; apply Keeps.ite; apply State.rdmaSend_keeps; assumption; assumption; unfold y
    apply State.setQp_keeps; assumption

theorem State.finishWrite_keeps {s0 s : State} {req : Requester} (h_s : Keeps s0 s) : Keeps s0 (State.finishWrite s req) := by
  unfold State.finishWrite
  with_reducible
    extract_lets +onlyGivenNames y; refine (fun _ : Keeps s0 y => ?_) ?_; clear_value y; split; assumption; apply Keeps.ite
    apply State.emit_keeps; assumption; assumption; refine Keeps.mk ?_ rfl rfl; assumption; extract_lets +onlyGivenNames _
    apply State.bttFlushed_keeps; refine Keeps.mk ?_ rfl rfl; assumption; extract_lets +onlyGivenNames _; extract_lets +onlyGivenNames _
    apply State.answerPend_keeps; apply State.setQp_keeps; assumption; unfold y; apply State.unwait_keeps; assumption

theorem State.finishLocal_keeps {s0 s : State} {req : Requester} (h_s : Keeps s0 s) : Keeps s0 (State.finishLocal s req) := by
  unfold State.finishLocal
  with_reducible
    apply Keeps.ite; assumption; apply State.finishWrite_keeps; assumption

theorem State.reeval_keeps {s0 s : State} {t : Trigger} (h_s : Keeps s0 s) : Keeps s0 (State.reeval s t) := by
  unfold State.reeval
  with_reducible
    extract_lets +onlyGivenNames _; extract_lets +onlyGivenNames _
    extract_lets +onlyGivenNames y; refine (fun _ : Keeps s0 y => ?_) ?_; clear_value y; split; apply Keeps.ite; assumption
    apply State.setMode_keeps; assumption; apply Keeps.ite; assumption; apply State.setMode_keeps; assumption; apply Keeps.ite; assumption
    apply State.setMode_keeps; assumption; apply Keeps.ite; assumption; apply State.setMode_keeps; assumption; assumption; unfold y
    refine Keeps.mk ?_ rfl rfl; assumption

theorem State.enterService_keeps {s0 s : State} {t : Trigger} (h_s : Keeps s0 s) : Keeps s0 (State.enterService s t) := by
  unfold State.enterService
  with_reducible
    extract_lets +onlyGivenNames _; apply State.setMode_keeps; refine Keeps.mk ?_ rfl rfl; assumption

theorem State.activity_keeps {s0 s : State} (h_s : Keeps s0 s) : Keeps s0 (State.activity s) := by
  unfold State.activity
  with_reducible
    apply Keeps.ite; apply State.enterService_keeps; assumption; assumption

theorem State.fenceRange_keeps {s0 s : State} {cs : List TwinCopy} (h_s : Keeps s0 s) : Keeps s0 (State.fenceRange s cs) := by
  unfold State.fenceRange
  with_reducible
    extract_lets +onlyGivenNames _; refine Keeps.mk ?_ rfl rfl; assumption

theorem State.absorbCopies_keeps {s0 s : State} {ks : List Nat} (h_s : Keeps s0 s) : Keeps s0 (State.absorbCopies s ks) := by
  unfold State.absorbCopies
  with_reducible
    extract_lets +onlyGivenNames _; extract_lets +onlyGivenNames _
    extract_lets +onlyGivenNames y; refine (fun _ : Keeps s0 y => ?_) ?_; clear_value y; extract_lets +onlyGivenNames _
    refine Keeps.mk ?_ rfl rfl; assumption; unfold y; apply State.fenceRange_keeps; assumption

theorem State.restartRange_keeps {s0 s : State} {ks : List Nat} (h_s : Keeps s0 s) : Keeps s0 (State.restartRange s ks) := by
  unfold State.restartRange
  with_reducible
    split; assumption; apply Keeps.ite; extract_lets +onlyGivenNames _; refine Keeps.mk ?_ rfl rfl; assumption; assumption

theorem State.setDirties_keeps {s0 s : State} {ks : List Nat} (h_s : Keeps s0 s) : Keeps s0 (State.setDirties s ks) := by
  unfold State.setDirties
  with_reducible
    extract_lets +onlyGivenNames _; extract_lets +onlyGivenNames y; refine (fun _ : Keeps s0 y => ?_) ?_; clear_value y
    apply State.reeval_keeps; apply State.absorbCopies_keeps; apply State.restartRange_keeps; assumption; unfold y
    refine Keeps.mk ?_ rfl rfl; assumption

theorem State.setDirty_keeps {s0 s : State} {k : Nat} (h_s : Keeps s0 s) : Keeps s0 (State.setDirty s k) := by
  unfold State.setDirty
  with_reducible
    apply State.setDirties_keeps; assumption

theorem State.dropCopies_keeps {s0 s : State} {cs : List TwinCopy} (h_s : Keeps s0 s) : Keeps s0 (State.dropCopies s cs) := by
  unfold State.dropCopies
  with_reducible
    extract_lets +onlyGivenNames y; refine (fun _ : Keeps s0 y => ?_) ?_; clear_value y
    extract_lets +onlyGivenNames y; refine (fun _ : Keeps s0 y => ?_) ?_; clear_value y; refine Keeps.foldl ?_ fun _ _ _ => ?_; assumption
    apply Keeps.ite; assumption; apply State.finishLocal_keeps; assumption; unfold y; apply State.setDirties_keeps; assumption; unfold y
    apply State.fenceRange_keeps; assumption

theorem State.handOff_keeps {s0 s : State} {r : Region} {req : Requester} {l : Nat} {x : Line} {be : Option (BitVec 64)}
    (h_s : Keeps s0 s) : KP s0 (State.handOff s r req l x be) := by
  unfold State.handOff
  with_reducible
    extract_lets +onlyGivenNames _; extract_lets +onlyGivenNames _; apply KP.ite; apply KP.mk; assumption; apply KP.ite; apply KP.mk
    apply State.setDirty_keeps; assumption; apply KP.ite; apply KP.ite; apply KP.mk; refine Keeps.mk ?_ rfl rfl; assumption; apply KP.mk
    assumption; extract_lets +onlyGivenNames _; extract_lets +onlyGivenNames _
    extract_lets +onlyGivenNames y; refine (fun _ : Keeps s0 y => ?_) ?_; clear_value y
    extract_lets +onlyGivenNames y; refine (fun _ : Keeps s0 y => ?_) ?_; clear_value y; apply KP.ite; apply KP.mk
    refine Keeps.mk ?_ rfl rfl; assumption; extract_lets +onlyGivenNames _; extract_lets +onlyGivenNames _; extract_lets +onlyGivenNames _
    extract_lets +onlyGivenNames _; extract_lets +onlyGivenNames _
    extract_lets +onlyGivenNames y; refine (fun _ : Keeps s0 y => ?_) ?_; clear_value y; apply KP.mk; apply State.spillPushed_keeps
    assumption; unfold y; refine Keeps.mk ?_ rfl rfl; assumption; unfold y; apply Keeps.ite; apply State.bump_keeps; assumption
    assumption; unfold y; refine Keeps.mk ?_ rfl rfl; assumption

theorem State.queueMsg_keeps {s0 s : State} {st : Nat} {kind : MsgKind} {line total : Nat} {lines : List Line} {be : Option (BitVec 64)}
    {copies : List TwinCopy} {flush : Bool} {range : Option Nat} {ctrl : List Nat} (h_s : Keeps s0 s) : Keeps s0
    (State.queueMsg s st kind line total lines be copies flush range ctrl) := by
  unfold State.queueMsg
  with_reducible
    extract_lets +onlyGivenNames _; extract_lets +onlyGivenNames _; refine Keeps.mk ?_ rfl rfl; assumption

theorem State.queueCtrl_keeps {s0 s : State} {ws : List Nat} (h_s : Keeps s0 s) : Keeps s0 (State.queueCtrl s ws) := by
  unfold State.queueCtrl
  with_reducible
    apply State.queueMsg_keeps; assumption

theorem State.sendPackets_keeps {s0 s : State} {m : OutMsg} {retx : Bool} {x3 : List (Nat × Nat)} (h_s : Keeps s0 s) : KO s0
    (State.sendPackets s m retx x3) := by
  unfold State.sendPackets
  with_reducible
    split; apply KO.some; assumption; extract_lets +onlyGivenNames _; extract_lets +onlyGivenNames _; split; exact KO.none
    extract_lets +onlyGivenNames _; extract_lets +onlyGivenNames _; extract_lets +onlyGivenNames _; extract_lets +onlyGivenNames _
    extract_lets +onlyGivenNames _; extract_lets +onlyGivenNames _; extract_lets +onlyGivenNames _; extract_lets +onlyGivenNames _
    extract_lets +onlyGivenNames y; refine (fun _ : Keeps s0 y => ?_) ?_; clear_value y; apply State.sendPackets_keeps
    apply State.emit_keeps; assumption; unfold y; refine Keeps.mk ?_ rfl rfl; assumption

theorem State.mirrorChanged_keeps {s0 s : State} {i : Nat} {old new : Region} (h_s : Keeps s0 s) : Keeps s0
    (State.mirrorChanged s i old new) := by
  unfold State.mirrorChanged
  with_reducible
    extract_lets +onlyGivenNames _; extract_lets +onlyGivenNames _; apply Keeps.ite; refine Keeps.mk ?_ rfl rfl; assumption
    apply Keeps.ite; extract_lets +onlyGivenNames y; refine (fun _ : Keeps s0 y => ?_) ?_; clear_value y; apply Keeps.ite
    apply State.queueCtrl_keeps; assumption; refine Keeps.mk ?_ rfl rfl; assumption; unfold y; apply State.setDirties_keeps; assumption
    apply Keeps.ite; extract_lets +onlyGivenNames _; extract_lets +onlyGivenNames _
    extract_lets +onlyGivenNames y; refine (fun _ : Keeps s0 y => ?_) ?_; clear_value y; extract_lets +onlyGivenNames _
    extract_lets +onlyGivenNames y; refine (fun _ : Keeps s0 y => ?_) ?_; clear_value y
    extract_lets +onlyGivenNames y; refine (fun _ : Keeps s0 y => ?_) ?_; clear_value y; apply State.reeval_keeps; assumption; unfold y
    apply Keeps.ite; apply State.queueCtrl_keeps; assumption; assumption; unfold y; refine Keeps.foldl ?_ fun _ _ _ => ?_; assumption
    apply State.finishLocal_keeps; assumption; unfold y; refine Keeps.mk ?_ rfl rfl; assumption; apply Keeps.ite
    extract_lets +onlyGivenNames _; extract_lets +onlyGivenNames _; extract_lets +onlyGivenNames y; refine (fun _ : Keeps s0 y => ?_) ?_
    extract_lets +onlyGivenNames _; extract_lets +onlyGivenNames y; refine (fun _ : Keeps s0 y => ?_) ?_
    extract_lets +onlyGivenNames y; refine (fun _ : Keeps s0 y => ?_) ?_; clear_value y; apply State.reeval_keeps; assumption; unfold y
    apply Keeps.ite; apply State.queueCtrl_keeps; assumption; assumption; unfold y; apply Keeps.ite; assumption
    apply State.setDirties_keeps; assumption; unfold y; refine Keeps.mk ?_ rfl rfl; assumption; assumption

theorem State.setTwinState_keeps {s0 s : State} {st : TwinState} {cause : Nat} (h_s : Keeps s0 s) : Keeps s0
    (State.setTwinState s st cause) := by
  unfold State.setTwinState
  with_reducible
    extract_lets +onlyGivenNames _; apply Keeps.ite; assumption; extract_lets +onlyGivenNames _; apply State.reeval_keeps
    apply State.log_keeps; apply State.sensorChange_keeps; refine Keeps.mk ?_ rfl rfl; assumption

theorem State.endMirrorFences_keeps {s0 s : State} (h_s : Keeps s0 s) : Keeps s0 (State.endMirrorFences s) := by
  unfold State.endMirrorFences
  with_reducible
    extract_lets +onlyGivenNames _; extract_lets +onlyGivenNames _; extract_lets +onlyGivenNames _; extract_lets +onlyGivenNames _
    extract_lets +onlyGivenNames _; extract_lets +onlyGivenNames _; extract_lets +onlyGivenNames _
    extract_lets +onlyGivenNames y; refine (fun _ : Keeps s0 y => ?_) ?_; clear_value y
    extract_lets +onlyGivenNames y; refine (fun _ : Keeps s0 y => ?_) ?_; clear_value y
    extract_lets +onlyGivenNames y; refine (fun _ : Keeps s0 y => ?_) ?_; clear_value y; refine Keeps.foldl ?_ fun _ _ _ => ?_; assumption
    apply State.complete_keeps; assumption; unfold y; refine Keeps.foldl ?_ fun _ _ _ => ?_; assumption; apply State.complete_keeps
    assumption; unfold y; refine Keeps.foldl ?_ fun _ _ _ => ?_; assumption; refine Keeps.foldl ?_ fun _ _ _ => ?_
    apply State.completeLong_keeps; assumption; apply State.complete_keeps; assumption; unfold y; refine Keeps.mk ?_ rfl rfl; assumption

theorem State.leaveUp_keeps {s0 s : State} {st : TwinState} {cause : Nat} (h_s : Keeps s0 s) : Keeps s0 (State.leaveUp s st cause) := by
  unfold State.leaveUp
  with_reducible
    apply Keeps.ite; extract_lets +onlyGivenNames _; extract_lets +onlyGivenNames _; extract_lets +onlyGivenNames _
    extract_lets +onlyGivenNames y; refine (fun _ : Keeps s0 y => ?_) ?_; clear_value y
    extract_lets +onlyGivenNames y; refine (fun _ : Keeps s0 y => ?_) ?_; clear_value y; apply State.endMirrorFences_keeps
    refine Keeps.foldl ?_ fun _ _ _ => ?_; assumption; apply State.finishLocal_keeps; assumption; unfold y; apply State.dropCopies_keeps
    apply State.setTwinState_keeps; assumption; unfold y; refine Keeps.mk ?_ rfl rfl; assumption; apply State.setTwinState_keeps
    assumption

theorem State.stopLink_keeps {s0 s : State} {why : Nat} (h_s : Keeps s0 s) : Keeps s0 (State.stopLink s why) := by
  unfold State.stopLink
  with_reducible
    extract_lets +onlyGivenNames y; refine (fun _ : Keeps s0 y => ?_) ?_; clear_value y; extract_lets +onlyGivenNames _
    extract_lets +onlyGivenNames y; refine (fun _ : Keeps s0 y => ?_) ?_; clear_value y; apply State.endMirrorFences_keeps
    apply State.setTwinState_keeps; apply State.log_keeps; assumption; unfold y; refine Keeps.mk ?_ rfl rfl; assumption; unfold y
    apply State.restartRange_keeps; assumption

theorem State.twinRead_keeps {s0 s : State} {l : Nat} {why : TwinReadFor} (h_s : Keeps s0 s) : Keeps s0 (State.twinRead s l why) := by
  unfold State.twinRead
  with_reducible
    apply Keeps.ite; assumption; extract_lets +onlyGivenNames _
    extract_lets +onlyGivenNames y; refine (fun _ : Keeps s0 y => ?_) ?_; clear_value y; apply State.queueMsg_keeps; assumption; unfold y
    refine Keeps.mk ?_ rfl rfl; assumption

theorem State.setKeySlot_keeps {s0 s : State} {k : Nat} {x : KeySlot} (h_s : Keeps s0 s) : Keeps s0 (State.setKeySlot s k x) := by
  unfold State.setKeySlot
  with_reducible
    refine Keeps.mk ?_ rfl rfl; assumption

theorem State.keyAbsent_keeps {s0 s : State} {port : Option (Nat × Nat)} {dpa k : Nat} (h_s : Keeps s0 s) : Keeps s0
    (State.keyAbsent s port dpa k) := by
  unfold State.keyAbsent
  with_reducible
    extract_lets +onlyGivenNames y; refine (fun _ : Keeps s0 y => ?_) ?_; clear_value y; split; apply State.logLim_keeps; assumption
    unfold y; apply State.bump_keeps; assumption

theorem State.rotateLine_keeps {s0 s : State} {i : Nat} {r : Region} {l : Nat} (h_s : Keeps s0 s) : Keeps s0 (State.rotateLine s i r l)
    := by
  unfold State.rotateLine
  with_reducible
    split; assumption; apply Keeps.ite; refine Keeps.mk ?_ rfl rfl; assumption; assumption

theorem State.setStore_keeps {s0 s : State} {st : StoreState} (h_s : Keeps s0 s) : Keeps s0 (State.setStore s st) := by
  unfold State.setStore
  with_reducible
    apply State.sensorChange_keeps; refine Keeps.mk ?_ rfl rfl; assumption

theorem State.lockStore_keeps {s0 s : State} {st : StoreState} (h_s : Keeps s0 s) : Keeps s0 (State.lockStore s st) := by
  unfold State.lockStore
  with_reducible
    extract_lets +onlyGivenNames _; apply State.setStore_keeps; refine Keeps.mk ?_ rfl rfl; assumption

theorem State.capacityEvent_keeps {s0 s : State} {p ld kind i base size : Nat} (h_s : Keeps s0 s) : Keeps s0
    (State.capacityEvent s p ld kind i base size) := by
  unfold State.capacityEvent
  with_reducible
    apply Keeps.ite; assumption; extract_lets +onlyGivenNames y; refine (fun _ : Keeps s0 y => ?_) ?_; clear_value y
    extract_lets +onlyGivenNames _; apply Keeps.ite; apply State.setLd_keeps; assumption; apply State.setLd_keeps; assumption; unfold y
    apply State.emit_keeps; apply State.pushCxl_keeps; assumption

theorem State.extentsChanged_keeps {s0 s : State} {i : Nat} {old : Region} {oldSet : BitVec 128} {new : Region} {newSet : BitVec 128}
    (h_s : Keeps s0 s) : Keeps s0 (State.extentsChanged s i old oldSet new newSet) := by
  unfold State.extentsChanged
  with_reducible
    extract_lets +onlyGivenNames _; extract_lets +onlyGivenNames _
    extract_lets +onlyGivenNames y; refine (fun _ : Keeps s0 y => ?_) ?_; clear_value y
    extract_lets +onlyGivenNames y; refine (fun _ : Keeps s0 y => ?_) ?_; clear_value y; apply Keeps.ite
    refine Keeps.foldl ?_ fun _ _ _ => ?_; assumption; apply State.capacityEvent_keeps; assumption; apply Keeps.ite
    refine Keeps.foldl ?_ fun _ _ _ => ?_; assumption; apply State.capacityEvent_keeps; assumption; assumption; unfold y
    refine Keeps.foldl ?_ fun _ _ _ => ?_; assumption; apply State.capacityEvent_keeps; assumption; unfold y
    refine Keeps.foldl ?_ fun _ _ _ => ?_; assumption; apply State.capacityEvent_keeps; assumption

theorem State.noteBinds_keeps {s0 s : State} {i : Nat} {old : Region} {oldSet : BitVec 128} {new : Region} {newSet : BitVec 128}
    (h_s : Keeps s0 s) : Keeps s0 (State.noteBinds s i old oldSet new newSet) := by
  unfold State.noteBinds
  with_reducible
    extract_lets +onlyGivenNames _; extract_lets +onlyGivenNames _; extract_lets +onlyGivenNames _; extract_lets +onlyGivenNames _
    refine Keeps.mk ?_ rfl rfl; assumption

theorem State.bumpCdat_keeps {s0 s : State} {p ld : Nat} (h_s : Keeps s0 s) : Keeps s0 (State.bumpCdat s p ld) := by
  unfold State.bumpCdat
  with_reducible
    extract_lets +onlyGivenNames _; apply State.log_keeps; apply State.setLd_keeps; assumption

theorem State.bumpCdats_keeps {s0 s : State} {b : BitVec 128} (h_s : Keeps s0 s) : Keeps s0 (State.bumpCdats s b) := by
  unfold State.bumpCdats
  with_reducible
    refine Keeps.foldl ?_ fun _ _ _ => ?_; assumption; apply State.bumpCdat_keeps; assumption

theorem State.stackRefuses_keeps {s0 s : State} {i base size : Nat} {r : Region} (h_s : Keeps s0 s) : KO s0
    (State.stackRefuses s i base size r) := by
  unfold State.stackRefuses
  split
  · exact KO.none
  · cases h : stackClash s.stk.ranges ⟨s.pw.strapStackId.toNat, base, size, r.cls, r.persist, r.mirror, r.key.toNat⟩ with
    | none =>
      dsimp only
      rw [h]
      exact KO.none
    | some c =>
      dsimp only
      rw [h]
      exact KO.some (State.log_keeps h_s)

theorem State.dropFromImages_keeps {s0 s : State} {lo n : Nat} (h_s : Keeps s0 s) : Keeps s0 (State.dropFromImages s lo n) := by
  unfold State.dropFromImages
  with_reducible
    refine Keeps.mk ?_ rfl rfl; assumption

theorem State.cancelRegionOps_keeps {s0 s : State} {i : Nat} (h_s : Keeps s0 s) : Keeps s0 (State.cancelRegionOps s i) := by
  unfold State.cancelRegionOps
  with_reducible
    extract_lets +onlyGivenNames _; extract_lets +onlyGivenNames _; extract_lets +onlyGivenNames _; extract_lets +onlyGivenNames _
    extract_lets +onlyGivenNames _; extract_lets +onlyGivenNames _
    extract_lets +onlyGivenNames y; refine (fun _ : Keeps s0 y => ?_) ?_; clear_value y
    extract_lets +onlyGivenNames y; refine (fun _ : Keeps s0 y => ?_) ?_; clear_value y
    extract_lets +onlyGivenNames y; refine (fun _ : Keeps s0 y => ?_) ?_; clear_value y; refine Keeps.foldl ?_ fun _ _ _ => ?_; assumption
    refine Keeps.foldl ?_ fun _ _ _ => ?_; apply State.completeLong_keeps; assumption; apply State.complete_keeps; assumption; unfold y
    refine Keeps.foldl ?_ fun _ _ _ => ?_; assumption; apply State.complete_keeps; assumption; unfold y
    refine Keeps.foldl ?_ fun _ _ _ => ?_; assumption; apply State.detachOp_keeps; assumption; unfold y; refine Keeps.mk ?_ rfl rfl
    assumption

theorem State.dequeue_keeps {s0 s : State} {d : Desc} (h_s : Keeps s0 s) : Keeps s0 (State.dequeue s d) := by
  unfold State.dequeue
  with_reducible
    extract_lets +onlyGivenNames _; split; apply Keeps.ite; apply Keeps.ite; apply State.setRing_keeps; assumption
    apply State.setRing_keeps; assumption; assumption; assumption

theorem State.take_keeps {s0 s : State} {d : Desc} {group : Nat} {maint long : Bool} {body : State → State} (h_s : Keeps s0 s)
    (h_body : ∀ a0, Keeps s0 a0 → Keeps s0 (body a0)) : Keeps s0 (State.take s d group maint long body) := by
  unfold State.take
  with_reducible
    apply Keeps.ite; assumption; extract_lets +onlyGivenNames y; refine (fun _ : Keeps s0 y => ?_) ?_; clear_value y; apply Keeps.ite
    apply State.complete_keeps; assumption; apply Keeps.ite; apply State.complete_keeps; assumption; apply Keeps.ite
    apply State.complete_keeps; assumption; apply Keeps.ite; apply State.complete_keeps; assumption; apply h_body; assumption; unfold y
    apply State.activity_keeps; apply State.dequeue_keeps; assumption

theorem State.startOp_keeps {s0 s : State} {kind : OpKind} {src : CmdSrc} {total : Option Nat} (h_s : Keeps s0 s) : Keeps s0
    (State.startOp s kind src total) := by
  unfold State.startOp
  with_reducible
    split; apply State.complete_keeps; assumption; extract_lets +onlyGivenNames _; extract_lets +onlyGivenNames _
    extract_lets +onlyGivenNames _; extract_lets +onlyGivenNames y; refine (fun _ : Keeps s0 y => ?_) ?_; clear_value y
    apply State.record_keeps; assumption; unfold y; refine Keeps.mk ?_ rfl rfl; assumption

theorem State.setOp_keeps {s0 s : State} {o : LongOp} (h_s : Keeps s0 s) : Keeps s0 (State.setOp s o) := by
  unfold State.setOp
  with_reducible
    refine Keeps.mk ?_ rfl rfl; assumption

theorem State.endOp_keeps {s0 s : State} {o : LongOp} {st : Status} {param : Nat} (h_s : Keeps s0 s) : Keeps s0
    (State.endOp s o st param) := by
  unfold State.endOp
  with_reducible
    extract_lets +onlyGivenNames _; extract_lets +onlyGivenNames y; refine (fun _ : Keeps s0 y => ?_) ?_; clear_value y
    extract_lets +onlyGivenNames y; refine (fun _ : Keeps s0 y => ?_) ?_; clear_value y
    extract_lets +onlyGivenNames y; refine (fun _ : Keeps s0 y => ?_) ?_; clear_value y; refine Keeps.foldl ?_ fun _ _ _ => ?_; assumption
    apply State.complete_keeps; assumption; unfold y; refine Keeps.foldl ?_ fun _ _ _ => ?_; assumption; apply State.complete_keeps
    assumption; unfold y; apply State.completeLong_keeps; assumption; unfold y; apply State.detachOp_keeps; refine Keeps.mk ?_ rfl rfl
    assumption

theorem State.endCancelled_keeps {s0 s : State} {o : LongOp} {param : Nat} (h_s : Keeps s0 s) : Keeps s0 (State.endCancelled s o param)
    := by
  unfold State.endCancelled
  with_reducible
    extract_lets +onlyGivenNames _; extract_lets +onlyGivenNames y; refine (fun _ : Keeps s0 y => ?_) ?_; clear_value y
    extract_lets +onlyGivenNames y; refine (fun _ : Keeps s0 y => ?_) ?_; clear_value y
    extract_lets +onlyGivenNames y; refine (fun _ : Keeps s0 y => ?_) ?_; clear_value y; refine Keeps.foldl ?_ fun _ _ _ => ?_; assumption
    apply State.complete_keeps; assumption; unfold y; refine Keeps.foldl ?_ fun _ _ _ => ?_; assumption; apply State.complete_keeps
    assumption; unfold y; apply State.completeLong_keeps; assumption; unfold y; apply State.detachOp_keeps; refine Keeps.mk ?_ rfl rfl
    assumption

theorem execRingSqDb_keeps {s0 : State} {r : Fin 256} {v : BitVec 16} {s : State} (h_s : Keeps s0 s) : KR s0 (execRingSqDb r v s) := by
  unfold execRingSqDb
  with_reducible
    apply KR.next; extract_lets +onlyGivenNames y; refine (fun _ : Keeps s0 y => ?_) ?_; clear_value y; extract_lets +onlyGivenNames _
    apply Keeps.ite; apply State.setRing_keeps; assumption; apply State.logLim_keeps; apply State.bump_keeps; assumption; unfold y
    apply State.activity_keeps; assumption

theorem execRingCqDb_keeps {s0 : State} {r : Fin 256} {v : BitVec 16} {s : State} (h_s : Keeps s0 s) : KR s0 (execRingCqDb r v s) := by
  unfold execRingCqDb
  with_reducible
    apply KR.next; extract_lets +onlyGivenNames _; extract_lets +onlyGivenNames _; apply Keeps.ite; apply State.setRing_keeps; assumption
    apply State.logLim_keeps; apply State.bump_keeps; assumption

theorem State.openTag_keeps {s0 s : State} {ws : List Word} (h_s : Keeps s0 s) : KP s0 (State.openTag s ws) := by
  unfold State.openTag
  with_reducible
    split; apply KP.mk; assumption; split; apply KP.mk; refine KP.of_eq (by assumption) ?_; apply State.fresh_keeps; assumption

theorem State.tearOpen_keeps {s0 s : State} {r : Nat} (h_s : Keeps s0 s) : Keeps s0 (State.tearOpen s r) := by
  unfold State.tearOpen
  with_reducible
    extract_lets +onlyGivenNames _; split; assumption; extract_lets +onlyGivenNames y; refine (fun _ : Keeps s0 y => ?_) ?_; clear_value y
    split; apply State.complete_keeps; refine KP.of_eq (by assumption) ?_; apply State.openTag_keeps; assumption; unfold y
    apply State.setRing_keeps; assumption

theorem execRingPush_keeps {s0 : State} {r : Fin 256} {w : Word} {s : State} (h_s : Keeps s0 s) : KR s0 (execRingPush r w s) := by
  unfold execRingPush
  with_reducible
    apply KR.next; apply Keeps.ite; extract_lets +onlyGivenNames y; refine (fun _ : Keeps s0 y => ?_) ?_; clear_value y
    apply State.setRing_keeps; assumption; unfold y; apply State.tearOpen_keeps; assumption; assumption

theorem execRingPushContinue_keeps {s0 : State} {r : Fin 256} {w : Word} {s : State} (h_s : Keeps s0 s) : KR s0
    (execRingPushContinue r w s) := by
  unfold execRingPushContinue
  with_reducible
    apply KR.next; extract_lets +onlyGivenNames _; split; apply Keeps.ite; apply State.setRing_keeps; assumption; assumption; assumption

theorem execRingPushCommit_keeps {s0 : State} {r : Fin 256} {w : Word} {s : State} (h_s : Keeps s0 s) : KR s0 (execRingPushCommit r w s)
    := by
  unfold execRingPushCommit
  with_reducible
    apply KR.next; extract_lets +onlyGivenNames _; split; apply Keeps.ite; extract_lets +onlyGivenNames _; apply Keeps.ite
    apply State.spillPushed_keeps; apply State.setRing_keeps; assumption
    extract_lets +onlyGivenNames y; refine (fun _ : Keeps s0 y => ?_) ?_; clear_value y; apply State.spillRefused_keeps
    apply State.complete_keeps; assumption; unfold y; apply State.setRing_keeps; assumption; assumption; assumption

theorem execRingFlush_keeps {s0 : State} {r : Fin 256} {unread : List (Word × BitVec 8)} {s : State} (h_s : Keeps s0 s) : KR s0
    (execRingFlush r unread s) := by
  unfold execRingFlush
  with_reducible
    apply KR.next; extract_lets +onlyGivenNames _; extract_lets +onlyGivenNames _
    extract_lets +onlyGivenNames y; refine (fun _ : Keeps s0 y => ?_) ?_; clear_value y; extract_lets +onlyGivenNames _
    extract_lets +onlyGivenNames _; extract_lets +onlyGivenNames y; refine (fun _ : Keeps s0 y => ?_) ?_; clear_value y
    extract_lets +onlyGivenNames y; refine (fun _ : Keeps s0 y => ?_) ?_; clear_value y
    extract_lets +onlyGivenNames y; refine (fun _ : Keeps s0 y => ?_) ?_; clear_value y; extract_lets +onlyGivenNames _
    extract_lets +onlyGivenNames y; refine (fun _ : Keeps s0 y => ?_) ?_; clear_value y; apply State.log_keeps; assumption; unfold y
    apply State.setRing_keeps; assumption; unfold y; refine Keeps.foldl ?_ fun _ _ _ => ?_; assumption; apply State.complete_keeps
    assumption; unfold y; refine Keeps.foldl ?_ fun _ _ _ => ?_; assumption; apply State.complete_keeps; assumption; unfold y
    refine Keeps.foldl ?_ fun _ _ _ => ?_; assumption; apply State.complete_keeps; assumption; unfold y; apply State.tearOpen_keeps
    assumption

theorem execRingEnable_keeps {s0 : State} {r : Fin 256} {who : Writer} {s : State} (h_s : Keeps s0 s) : KR s0 (execRingEnable r who s)
    := by
  unfold execRingEnable
  with_reducible
    apply KR.next; extract_lets +onlyGivenNames _; apply Keeps.ite; assumption; apply Keeps.ite; apply State.reject_keeps; assumption
    extract_lets +onlyGivenNames _; apply State.setFld_keeps; apply State.setRing_keeps; assumption

theorem execRingDisable_keeps {s0 : State} {r : Fin 256} {s : State} (h_s : Keeps s0 s) : KR s0 (execRingDisable r s) := by
  unfold execRingDisable
  with_reducible
    apply KR.next; apply State.setFld_keeps; assumption

theorem execDescriptorFetch_keeps {s0 : State} {r : Fin 256} {descs : List (List Word)} {err : Bool} {s : State} (h_s : Keeps s0 s) : KR
    s0 (execDescriptorFetch r descs err s) := by
  unfold execDescriptorFetch
  with_reducible
    apply KR.next; extract_lets +onlyGivenNames _; apply Keeps.ite; extract_lets +onlyGivenNames _; extract_lets +onlyGivenNames _
    extract_lets +onlyGivenNames y; refine (fun _ : Keeps s0 y => ?_) ?_; clear_value y; apply Keeps.ite; apply State.log_keeps
    assumption; assumption; unfold y; apply State.setRing_keeps; assumption; assumption

theorem State.ringIrq_keeps {s0 s : State} {r : Nat} (h_s : Keeps s0 s) : Keeps s0 (State.ringIrq s r) := by
  unfold State.ringIrq
  with_reducible
    apply State.emit_keeps; apply State.setRing_keeps; assumption

theorem execCqRecordWrite_keeps {s0 : State} {r : Fin 256} {err : Bool} {s : State} (h_s : Keeps s0 s) : KR s0
    (execCqRecordWrite r err s) := by
  unfold execCqRecordWrite
  with_reducible
    apply KR.next; extract_lets +onlyGivenNames _; split; assumption; extract_lets +onlyGivenNames _; apply Keeps.ite; assumption
    apply Keeps.ite; apply State.log_keeps; apply State.setRing_keeps; assumption; extract_lets +onlyGivenNames _
    extract_lets +onlyGivenNames _; extract_lets +onlyGivenNames y; refine (fun _ : Keeps s0 y => ?_) ?_; clear_value y
    extract_lets +onlyGivenNames y; refine (fun _ : Keeps s0 y => ?_) ?_; clear_value y; extract_lets +onlyGivenNames _; apply Keeps.ite
    apply State.ringIrq_keeps; assumption; assumption; unfold y; apply State.emit_keeps; assumption; unfold y; apply State.setRing_keeps
    assumption

theorem execCoalTimer_keeps {s0 : State} {r : Fin 256} {s : State} (h_s : Keeps s0 s) : KR s0 (execCoalTimer r s) := by
  unfold execCoalTimer
  with_reducible
    apply KR.next; apply Keeps.ite; apply State.ringIrq_keeps; assumption; assumption

theorem execNop_keeps {s0 : State} {d : Desc} {s : State} (h_s : Keeps s0 s) : KR s0 (execNop d s) := by
  unfold execNop
  with_reducible
    apply KR.next; apply State.take_keeps; assumption; intro _ _; apply State.complete_keeps; assumption

theorem execOpSuspend_keeps {s0 : State} {d : Desc} {s : State} (h_s : Keeps s0 s) : KR s0 (execOpSuspend d s) := by
  unfold execOpSuspend
  with_reducible
    apply KR.next; apply State.take_keeps; assumption; intro _ _; split; apply State.complete_keeps; assumption; split; apply Keeps.ite
    apply State.setOp_keeps; assumption; apply State.complete_keeps; assumption; apply State.complete_keeps; assumption
    apply State.complete_keeps; assumption; apply State.complete_keeps; assumption

theorem execOpResume_keeps {s0 : State} {d : Desc} {s : State} (h_s : Keeps s0 s) : KR s0 (execOpResume d s) := by
  unfold execOpResume
  with_reducible
    apply KR.next; apply State.take_keeps; assumption; intro _ _; split; apply State.complete_keeps; assumption; split
    apply State.complete_keeps; assumption; apply State.complete_keeps; apply State.setOp_keeps; assumption; apply State.complete_keeps
    assumption; apply State.complete_keeps; assumption

theorem execOpQuery_keeps {s0 : State} {d : Desc} {s : State} (h_s : Keeps s0 s) : KR s0 (execOpQuery d s) := by
  unfold execOpQuery
  with_reducible
    apply KR.next; apply State.take_keeps; assumption; intro _ _; split; apply State.complete_keeps; assumption; apply Keeps.ite
    apply State.complete_keeps; assumption; apply State.complete_keeps; assumption

end Sys2Proof.Laws
end

