-- ==== Sys2Proof/Laws/KeepsTiers.lean ====
section
/-!
SUPPORT. What the operations and commands of channels, NAND, page placement and write-back keep (`Keeps`).
-/
namespace Sys2Proof.Laws

open Machine Safety

set_option Elab.async false

theorem State.trimPages_keeps {s0 s : State} {lo n : Nat} (h_s : Keeps s0 s) : Keeps s0 (State.trimPages s lo n) := by
  unfold State.trimPages
  with_reducible
    extract_lets +onlyGivenNames _; extract_lets +onlyGivenNames _; refine Keeps.mk' ?_ ?_ ?_; assumption; intro _; assumption; intro _
    with_unfolding_all exact wf_clear (by assumption)

theorem State.invalidatePages_keeps {s0 s : State} {lo n : Nat} (h_s : Keeps s0 s) : Keeps s0 (State.invalidatePages s lo n) :=
  Keeps.mk' h_s id fun h => wf_clear (p := fun k => decide (lo ≤ k / 64) && decide (k / 64 < lo + n)) h

theorem State.releaseRange_keeps {s0 s : State} {lo n : Nat} (h_s : Keeps s0 s) : Keeps s0 (State.releaseRange s lo n) := by
  unfold State.releaseRange
  with_reducible
    extract_lets +onlyGivenNames y; refine (fun _ : Keeps s0 y => ?_) ?_; clear_value y; apply State.dropFromImages_keeps; assumption
    unfold y; apply State.trimPages_keeps; apply State.invalidatePages_keeps; assumption

theorem State.finishDestroy_keeps {s0 s : State} {i : Nat} {old : Region} (h_s : Keeps s0 s) : Keeps s0 (State.finishDestroy s i old) :=
    by
  unfold State.finishDestroy
  with_reducible
    extract_lets +onlyGivenNames y; refine (fun _ : Keeps s0 y => ?_) ?_; clear_value y; extract_lets +onlyGivenNames _
    refine Keeps.mk ?_ rfl rfl; assumption; unfold y; apply State.releaseRange_keeps; assumption

theorem State.countRegion_keeps {s0 s : State} {r : Region} {on : Bool} (h_s : Keeps s0 s) : Keeps s0 (State.countRegion s r on) := by
  unfold State.countRegion
  with_reducible
    refine Keeps.mk ?_ rfl rfl; assumption

theorem State.dropRdmaKeys_keeps {s0 s : State} {i : Nat} (h_s : Keeps s0 s) : Keeps s0 (State.dropRdmaKeys s i) := by
  unfold State.dropRdmaKeys
  with_reducible
    extract_lets +onlyGivenNames _; refine Keeps.mk ?_ rfl rfl; assumption

theorem State.afterEntry_keeps {s0 s : State} {i : Nat} {old : Region} {oldSet : BitVec 128} {new : Region} (h_s : Keeps s0 s) : Keeps
    s0 (State.afterEntry s i old oldSet new) := by
  unfold State.afterEntry
  with_reducible
    extract_lets +onlyGivenNames y; refine (fun _ : Keeps s0 y => ?_) ?_; clear_value y
    extract_lets +onlyGivenNames y; refine (fun _ : Keeps s0 y => ?_) ?_; clear_value y
    extract_lets +onlyGivenNames y; refine (fun _ : Keeps s0 y => ?_) ?_; clear_value y
    extract_lets +onlyGivenNames y; refine (fun _ : Keeps s0 y => ?_) ?_; clear_value y
    extract_lets +onlyGivenNames y; refine (fun _ : Keeps s0 y => ?_) ?_; clear_value y
    extract_lets +onlyGivenNames y; refine (fun _ : Keeps s0 y => ?_) ?_; clear_value y
    extract_lets +onlyGivenNames y; refine (fun _ : Keeps s0 y => ?_) ?_; clear_value y
    extract_lets +onlyGivenNames y; refine (fun _ : Keeps s0 y => ?_) ?_; clear_value y; apply Keeps.ite; apply State.dropRdmaKeys_keeps
    assumption; assumption; unfold y; apply State.mirrorChanged_keeps; assumption; unfold y; apply State.noteBinds_keeps; assumption
    unfold y; apply State.extentsChanged_keeps; assumption; unfold y; apply Keeps.ite; apply State.countRegion_keeps; assumption
    assumption; unfold y; apply Keeps.ite; apply State.invalidatePages_keeps; assumption; assumption; unfold y; apply Keeps.ite
    apply State.releaseRange_keeps; assumption; assumption; unfold y; apply Keeps.ite; apply State.trimPages_keeps; assumption; assumption
    unfold y; apply Keeps.ite; apply State.trimPages_keeps; assumption; assumption

theorem State.commitEdge_keeps {s0 s : State} {c : Commit} (h_s : Keeps s0 s) : Keeps s0 (State.commitEdge s c) := by
  unfold State.commitEdge
  with_reducible
    extract_lets +onlyGivenNames _; extract_lets +onlyGivenNames _; extract_lets +onlyGivenNames _; extract_lets +onlyGivenNames _
    extract_lets +onlyGivenNames _; extract_lets +onlyGivenNames _
    extract_lets +onlyGivenNames y; refine (fun _ : Keeps s0 y => ?_) ?_; clear_value y
    extract_lets +onlyGivenNames y; refine (fun _ : Keeps s0 y => ?_) ?_; clear_value y
    extract_lets +onlyGivenNames y; refine (fun _ : Keeps s0 y => ?_) ?_; clear_value y
    extract_lets +onlyGivenNames y; refine (fun _ : Keeps s0 y => ?_) ?_; clear_value y; extract_lets +onlyGivenNames _
    apply State.reeval_keeps; apply State.bumpCdats_keeps; assumption; unfold y; refine Keeps.foldl ?_ fun _ _ _ => ?_; assumption
    apply State.afterEntry_keeps; assumption; unfold y; apply State.log_keeps; assumption; unfold y; refine Keeps.foldl ?_ fun _ _ _ => ?_
    assumption; apply State.setFld_keeps; apply State.setFld_keeps; apply State.setFld_keeps; apply State.setFld_keeps; assumption
    unfold y; refine Keeps.mk ?_ rfl rfl; assumption

theorem State.commit_keeps {s0 s : State} {c : Commit} (h_s : Keeps s0 s) : Keeps s0 (State.commit s c) := by
  unfold State.commit
  with_reducible
    apply Keeps.ite; refine Keeps.mk ?_ rfl rfl; assumption; apply State.commitEdge_keeps; assumption

theorem State.markDamaged_keeps {s0 s : State} {i : Nat} (h_s : Keeps s0 s) : Keeps s0 (State.markDamaged s i) := by
  unfold State.markDamaged
  with_reducible
    extract_lets +onlyGivenNames _; apply Keeps.ite; apply State.commit_keeps; assumption; assumption

theorem State.startRgnOp_keeps {s0 s : State} {kind : RgnOpKind} {i base size : Nat} {c : Commit} {src : CmdSrc} {param : Nat}
    (h_s : Keeps s0 s) : Keeps s0 (State.startRgnOp s kind i base size c src param) := by
  unfold State.startRgnOp
  with_reducible
    refine Keeps.mk ?_ rfl rfl; assumption

theorem State.awaitMaster_keeps {s0 s : State} {d : Desc} (h_s : Keeps s0 s) : Keeps s0 (State.awaitMaster s d) := by
  unfold State.awaitMaster
  with_reducible
    refine Keeps.mk ?_ rfl rfl; assumption

theorem createRegion_keeps {s0 : State} {d : Desc} {s : State} (h_s : Keeps s0 s) : Keeps s0 (createRegion d s) := by
  unfold createRegion
  with_reducible
    extract_lets +onlyGivenNames _; extract_lets +onlyGivenNames _; extract_lets +onlyGivenNames _; extract_lets +onlyGivenNames _
    extract_lets +onlyGivenNames _; extract_lets +onlyGivenNames _; apply Keeps.ite; apply State.complete_keeps; assumption; split
    apply State.complete_keeps; assumption; apply Keeps.ite; apply State.complete_keeps; assumption; apply Keeps.ite
    apply State.complete_keeps; assumption; apply Keeps.ite; apply State.awaitMaster_keeps; assumption; split; apply State.complete_keeps
    assumption; extract_lets +onlyGivenNames _; split; apply State.complete_keeps; assumption; apply Keeps.ite; apply State.complete_keeps
    apply State.keyAbsent_keeps; assumption; extract_lets +onlyGivenNames _; extract_lets +onlyGivenNames _; split
    apply State.complete_keeps; refine KO.of_eq (by assumption) ?_; apply State.stackRefuses_keeps; assumption
    apply State.startRgnOp_keeps; assumption

theorem execRegionCreate_keeps {s0 : State} {d : Desc} {s : State} (h_s : Keeps s0 s) : KR s0 (execRegionCreate d s) := by
  unfold execRegionCreate
  with_reducible
    apply KR.next; apply State.take_keeps; assumption; intro _ _; apply createRegion_keeps; assumption

theorem State.onRegion_keeps {s0 s : State} {d : Desc} {body : Region → State} (h_s : Keeps s0 s) (h_body : ∀ a0, Keeps s0 (body a0)) :
    Keeps s0 (State.onRegion s d body) := by
  unfold State.onRegion
  with_reducible
    extract_lets +onlyGivenNames _; apply Keeps.ite; apply State.complete_keeps; assumption; apply Keeps.ite; apply State.complete_keeps
    assumption; apply h_body

theorem execRegionDestroy_keeps {s0 : State} {d : Desc} {s : State} (h_s : Keeps s0 s) : KR s0 (execRegionDestroy d s) := by
  unfold execRegionDestroy
  with_reducible
    apply KR.next; apply State.take_keeps; assumption; intro _ _; apply State.onRegion_keeps; assumption; intro _; apply Keeps.ite
    apply State.complete_keeps; assumption; extract_lets +onlyGivenNames y; refine (fun _ : Keeps s0 y => ?_) ?_; clear_value y
    apply State.startRgnOp_keeps; assumption; unfold y; apply State.cancelRegionOps_keeps; assumption

theorem State.modify_keeps {s0 s : State} {d : Desc} {old new : Region} {base size : Nat} (h_s : Keeps s0 s) : Keeps s0
    (State.modify s d old new base size) := by
  unfold State.modify
  with_reducible
    apply Keeps.ite; apply State.complete_keeps; assumption; apply State.startRgnOp_keeps; assumption

theorem execRegionModifyMirror_keeps {s0 : State} {d : Desc} {s : State} (h_s : Keeps s0 s) : KR s0 (execRegionModifyMirror d s) := by
  unfold execRegionModifyMirror
  with_reducible
    apply KR.next; apply State.take_keeps; assumption; intro _ _; apply Keeps.ite; apply State.complete_keeps; assumption
    apply State.onRegion_keeps; assumption; intro _; split; apply State.complete_keeps; assumption; apply Keeps.ite
    apply State.complete_keeps; assumption; apply State.modify_keeps; assumption

theorem execRegionModifyPersist_keeps {s0 : State} {d : Desc} {s : State} (h_s : Keeps s0 s) : KR s0 (execRegionModifyPersist d s) := by
  unfold execRegionModifyPersist
  with_reducible
    apply KR.next; extract_lets +onlyGivenNames _; extract_lets +onlyGivenNames _; apply State.take_keeps; assumption; intro _ _
    apply Keeps.ite; apply State.complete_keeps; assumption; apply State.onRegion_keeps; assumption; intro _
    extract_lets +onlyGivenNames _; apply Keeps.ite; apply State.complete_keeps; assumption; apply Keeps.ite; apply Keeps.ite
    apply State.complete_keeps; assumption; apply State.startOp_keeps; assumption; apply Keeps.ite; apply State.complete_keeps; assumption
    apply State.modify_keeps; assumption

theorem resizeRegion_keeps {s0 : State} {d : Desc} {s : State} (h_s : Keeps s0 s) : Keeps s0 (resizeRegion d s) := by
  unfold resizeRegion
  with_reducible
    apply Keeps.ite; apply State.complete_keeps; assumption; apply State.onRegion_keeps; assumption; intro _
    extract_lets +onlyGivenNames _; extract_lets +onlyGivenNames _; extract_lets +onlyGivenNames _; apply Keeps.ite
    apply State.complete_keeps; assumption; apply Keeps.ite; apply State.modify_keeps; assumption; apply Keeps.ite
    apply State.complete_keeps; assumption; apply Keeps.ite; apply State.complete_keeps; assumption; apply Keeps.ite
    apply State.awaitMaster_keeps; assumption; apply Keeps.ite; apply State.complete_keeps; assumption; split; apply State.complete_keeps
    refine KO.of_eq (by assumption) ?_; apply State.stackRefuses_keeps; assumption; apply State.modify_keeps; assumption

theorem execRegionModifySize_keeps {s0 : State} {d : Desc} {s : State} (h_s : Keeps s0 s) : KR s0 (execRegionModifySize d s) := by
  unfold execRegionModifySize
  with_reducible
    apply KR.next; apply State.take_keeps; assumption; intro _ _; apply resizeRegion_keeps; assumption

theorem execRegionModifyRelease_keeps {s0 : State} {d : Desc} {s : State} (h_s : Keeps s0 s) : KR s0 (execRegionModifyRelease d s) := by
  unfold execRegionModifyRelease
  with_reducible
    apply KR.next; apply State.take_keeps; assumption; intro _ _; apply Keeps.ite; apply State.complete_keeps; assumption
    apply State.onRegion_keeps; assumption; intro _; apply Keeps.ite; apply State.complete_keeps; assumption; apply State.startRgnOp_keeps
    assumption

theorem execRegionModifyClearDamaged_keeps {s0 : State} {d : Desc} {s : State} (h_s : Keeps s0 s) : KR s0
    (execRegionModifyClearDamaged d s) := by
  unfold execRegionModifyClearDamaged
  with_reducible
    apply KR.next; apply State.take_keeps; assumption; intro _ _; apply Keeps.ite; apply State.complete_keeps; assumption
    apply State.onRegion_keeps; assumption; intro _; apply State.modify_keeps; assumption

theorem execRegionBind_keeps {s0 : State} {d : Desc} {s : State} (h_s : Keeps s0 s) : KR s0 (execRegionBind d s) := by
  unfold execRegionBind
  with_reducible
    apply KR.next; apply State.take_keeps; assumption; intro _ _; apply State.onRegion_keeps; assumption; intro _
    extract_lets +onlyGivenNames _; extract_lets +onlyGivenNames _; apply Keeps.ite; apply State.complete_keeps; assumption; split
    apply State.complete_keeps; assumption; apply State.startRgnOp_keeps; assumption

theorem execMetadataDurable_keeps {s0 s : State} (h_s : Keeps s0 s) : KR s0 (execMetadataDurable s) := by
  unfold execMetadataDurable
  with_reducible
    apply KR.next; extract_lets +onlyGivenNames _; extract_lets +onlyGivenNames _
    extract_lets +onlyGivenNames y; refine (fun _ : Keeps s0 y => ?_) ?_; clear_value y; refine Keeps.foldl ?_ fun _ _ _ => ?_; assumption
    apply State.complete_keeps; assumption; unfold y; refine Keeps.mk ?_ rfl rfl; assumption

theorem execHdmDecoderCommit_keeps {s0 : State} {port : PortId} {ld : Fin 16} {d : Fin 4} {base size : BitVec 52} {ways ig : Nat}
    {skip : BitVec 48} {lock : Bool} {s : State} (h_s : Keeps s0 s) : KR s0
    (execHdmDecoderCommit port ld d base size ways ig skip lock s) := by
  unfold execHdmDecoderCommit
  with_reducible
    apply KR.next; extract_lets +onlyGivenNames _; extract_lets +onlyGivenNames _; apply Keeps.ite; assumption
    extract_lets +onlyGivenNames _; extract_lets +onlyGivenNames _; extract_lets +onlyGivenNames _; refine Keeps.mk ?_ rfl rfl; assumption

theorem execPoolValidSet_keeps {s0 : State} {p : Fin 16} {w : Word} {who : Writer} {s : State} (h_s : Keeps s0 s) : KR s0
    (execPoolValidSet p w who s) := by
  unfold execPoolValidSet
  with_reducible
    apply KR.next; extract_lets +onlyGivenNames _; extract_lets +onlyGivenNames _; extract_lets +onlyGivenNames _
    extract_lets +onlyGivenNames _; apply Keeps.ite; assumption; apply Keeps.ite; apply State.reject_keeps; assumption; split
    apply State.reject_keeps; assumption; apply State.setRegAt_keeps; assumption

theorem execPartitionValidSet_keeps {s0 : State} {q : Fin 16} {w : Word} {who : Writer} {s : State} (h_s : Keeps s0 s) : KR s0
    (execPartitionValidSet q w who s) := by
  unfold execPartitionValidSet
  with_reducible
    apply KR.next; extract_lets +onlyGivenNames _; extract_lets +onlyGivenNames _; extract_lets +onlyGivenNames _; apply Keeps.ite
    extract_lets +onlyGivenNames y; refine (fun _ : Keeps s0 y => ?_) ?_; clear_value y; apply Keeps.ite; assumption
    apply State.reject_keeps; assumption; unfold y; apply State.setRegAt_keeps; assumption; split; apply State.reject_keeps; assumption
    apply State.setRegAt_keeps; assumption

theorem State.setChState_keeps {s0 s : State} {n : Nat} {st : ChState} {cause : Nat} (h_s : Keeps s0 s) : Keeps s0
    (State.setChState s n st cause) := by
  unfold State.setChState
  with_reducible
    extract_lets +onlyGivenNames _; extract_lets +onlyGivenNames _; apply State.log_keeps; apply State.sensorChange_keeps
    apply State.setCh_keeps; assumption

theorem State.chErr_keeps {s0 s : State} {n code : Nat} (h_s : Keeps s0 s) : Keeps s0 (State.chErr s n code) := by
  unfold State.chErr
  with_reducible
    apply State.noteErr_keeps; assumption

theorem State.refuseDimms_keeps {s0 s : State} {n : Nat} {rs : List (Nat × Nat)} (h_s : Keeps s0 s) : Keeps s0
    (State.refuseDimms s n rs) := by
  unfold State.refuseDimms
  with_reducible
    refine Keeps.foldl ?_ fun _ _ _ => ?_; assumption; apply State.log_keeps; apply State.chErr_keeps; assumption

theorem State.setAmap_keeps {s0 s : State} {n : Nat} {ds : List DimmSpd} (h_s : Keeps s0 s) : Keeps s0 (State.setAmap s n ds) := by
  unfold State.setAmap
  with_reducible
    split; assumption; extract_lets +onlyGivenNames y; refine (fun _ : Keeps s0 y => ?_) ?_; clear_value y
    extract_lets +onlyGivenNames y; refine (fun _ : Keeps s0 y => ?_) ?_; clear_value y
    extract_lets +onlyGivenNames y; refine (fun _ : Keeps s0 y => ?_) ?_; clear_value y
    extract_lets +onlyGivenNames y; refine (fun _ : Keeps s0 y => ?_) ?_; clear_value y
    extract_lets +onlyGivenNames y; refine (fun _ : Keeps s0 y => ?_) ?_; clear_value y; apply State.setFld_keeps; assumption; unfold y
    apply State.setFld_keeps; assumption; unfold y; apply State.setFld_keeps; assumption; unfold y; apply State.setFld_keeps; assumption
    unfold y; apply State.setFld_keeps; assumption; unfold y; apply State.setFld_keeps; assumption

theorem State.setShadows_keeps {s0 s : State} {n : Nat} {ws : List Word} (h_s : Keeps s0 s) : Keeps s0 (State.setShadows s n ws) := by
  unfold State.setShadows
  with_reducible
    refine Keeps.foldl ?_ fun _ _ _ => ?_; assumption; apply State.setRegAt_keeps; assumption

theorem State.applyTiming_keeps {s0 s : State} {n : Nat} (h_s : Keeps s0 s) : Keeps s0 (State.applyTiming s n) := by
  unfold State.applyTiming
  with_reducible
    apply Keeps.ite; assumption; extract_lets +onlyGivenNames _
    extract_lets +onlyGivenNames y; refine (fun _ : Keeps s0 y => ?_) ?_; clear_value y; split; apply State.setFld_keeps
    apply State.setCh_keeps; assumption; extract_lets +onlyGivenNames y; refine (fun _ : Keeps s0 y => ?_) ?_; clear_value y
    apply State.reject_keeps; assumption; unfold y; apply State.setFld_keeps; apply State.setShadows_keeps; assumption; unfold y
    apply State.setFld_keeps; assumption

theorem State.clearMark_keeps {s0 s : State} {n key cause : Nat} (h_s : Keeps s0 s) : Keeps s0 (State.clearMark s n key cause) := by
  unfold State.clearMark
  with_reducible
    extract_lets +onlyGivenNames _; apply Keeps.ite; apply State.log_keeps; apply State.setCh_keeps; assumption; assumption

theorem State.checkSerials_keeps {s0 s : State} {n ser0 ser1 : Nat} (h_s : Keeps s0 s) : Keeps s0 (State.checkSerials s n ser0 ser1) :=
    by
  unfold State.checkSerials
  with_reducible
    extract_lets +onlyGivenNames _; extract_lets +onlyGivenNames _
    extract_lets +onlyGivenNames y; refine (fun _ : Keeps s0 y => ?_) ?_; clear_value y; apply State.setCh_keeps; assumption; unfold y
    refine Keeps.foldl ?_ fun _ _ _ => ?_; assumption; apply Keeps.ite; apply State.clearMark_keeps; assumption; assumption

theorem State.adoptDimms_keeps {s0 s : State} {n rate : Nat} {a b : Option DimmSpd} {timing : List Word} (h_s : Keeps s0 s) : Keeps s0
    (State.adoptDimms s n rate a b timing) := by
  unfold State.adoptDimms
  with_reducible
    extract_lets +onlyGivenNames _; extract_lets +onlyGivenNames _; extract_lets +onlyGivenNames _
    extract_lets +onlyGivenNames y; refine (fun _ : Keeps s0 y => ?_) ?_; clear_value y; apply State.checkSerials_keeps
    apply State.setShadows_keeps; apply State.setAmap_keeps; assumption; unfold y; apply State.setCh_keeps; assumption

theorem State.pickPartner_keeps {s0 s : State} {n first : Nat} (h_s : Keeps s0 s) : KP s0 (State.pickPartner s n first) := by
  unfold State.pickPartner
  with_reducible
    extract_lets +onlyGivenNames _; split; apply KP.mk; refine KP.of_eq (by assumption) ?_; apply State.fresh_keeps; assumption

theorem State.rehome_keeps {s0 s : State} {n : Nat} (h_s : Keeps s0 s) : Keeps s0 (State.rehome s n) := by
  unfold State.rehome
  with_reducible
    extract_lets +onlyGivenNames _; split; extract_lets +onlyGivenNames _
    extract_lets +onlyGivenNames y; refine (fun _ : Keeps s0 y => ?_) ?_; clear_value y; refine Keeps.foldl ?_ fun _ _ _ => ?_; assumption
    apply Keeps.ite; split; apply State.setCh_keeps; refine KP.of_eq (by assumption) ?_; apply State.pickPartner_keeps; assumption
    assumption; unfold y; apply State.setCh_keeps; refine KP.of_eq (by assumption) ?_; apply State.pickPartner_keeps; assumption

theorem State.rebuildLine_keeps {s0 s : State} {n : Nat} {lost : Bool} {twin : List (Nat × LineData)} {o p : Nat} (h_s : Keeps s0 s) :
    Keeps s0 (State.rebuildLine s n lost twin o p) := by
  unfold State.rebuildLine
  with_reducible
    split; assumption; extract_lets +onlyGivenNames _; extract_lets +onlyGivenNames _; apply Keeps.ite; assumption
    extract_lets +onlyGivenNames f394; split; assumption; apply State.setLine_keeps; assumption; apply State.setPage_keeps; assumption
    unfold f394; extract_lets +onlyGivenNames y; refine (fun _ : Keeps s0 y => ?_) ?_; clear_value y; extract_lets +onlyGivenNames _
    extract_lets +onlyGivenNames _; extract_lets +onlyGivenNames y; refine (fun _ : Keeps s0 y => ?_) ?_; clear_value y
    apply State.markDamaged_keeps; assumption; unfold y; apply State.setCh_keeps; assumption; unfold y; apply State.setLine_keeps
    assumption; split; extract_lets +onlyGivenNames y; refine (fun _ : Keeps s0 y => ?_) ?_; clear_value y; apply State.setLine_keeps
    assumption; unfold y; apply Keeps.ite; apply State.setCh_keeps; assumption; assumption; unfold f394
    extract_lets +onlyGivenNames y; refine (fun _ : Keeps s0 y => ?_) ?_; clear_value y; extract_lets +onlyGivenNames _
    extract_lets +onlyGivenNames _; extract_lets +onlyGivenNames y; refine (fun _ : Keeps s0 y => ?_) ?_; clear_value y
    apply State.markDamaged_keeps; assumption; unfold y; apply State.setCh_keeps; assumption; unfold y; apply State.setLine_keeps
    assumption

theorem State.setShare_keeps {s0 s : State} {n : Nat} {x : Share} (h_s : Keeps s0 s) : Keeps s0 (State.setShare s n x) := by
  unfold State.setShare
  with_reducible
    extract_lets +onlyGivenNames _; apply State.setCh_keeps; assumption

theorem State.rebuildEnds_keeps {s0 s : State} {n : Nat} (h_s : Keeps s0 s) : Keeps s0 (State.rebuildEnds s n) := by
  unfold State.rebuildEnds
  with_reducible
    extract_lets +onlyGivenNames _; apply Keeps.ite; extract_lets +onlyGivenNames y; refine (fun _ : Keeps s0 y => ?_) ?_; clear_value y
    apply State.log_keeps; assumption; unfold y; apply State.setCh_keeps; assumption; assumption

theorem State.rebuildChunk_keeps {s0 s : State} {n : Nat} {x : Share} {k : Nat} {twin : List (Nat × LineData)} (h_s : Keeps s0 s) :
    Keeps s0 (State.rebuildChunk s n x k twin) := by
  unfold State.rebuildChunk
  with_reducible
    apply Keeps.ite; assumption; extract_lets +onlyGivenNames y; refine (fun _ : Keeps s0 y => ?_) ?_; clear_value y
    apply State.rebuildEnds_keeps; apply State.setShare_keeps; assumption; unfold y; refine Keeps.foldl ?_ fun _ _ _ => ?_; assumption
    apply State.rebuildLine_keeps; assumption

theorem State.damagePool_keeps {s0 s : State} {p : Nat} (h_s : Keeps s0 s) : Keeps s0 (State.damagePool s p) := by
  unfold State.damagePool
  with_reducible
    refine Keeps.foldl ?_ fun _ _ _ => ?_; assumption; apply State.markDamaged_keeps; assumption

theorem State.shareNoSpace_keeps {s0 s : State} {n p : Nat} (h_s : Keeps s0 s) : Keeps s0 (State.shareNoSpace s n p) := by
  unfold State.shareNoSpace
  with_reducible
    extract_lets +onlyGivenNames _; extract_lets +onlyGivenNames y; refine (fun _ : Keeps s0 y => ?_) ?_; clear_value y
    apply State.damagePool_keeps; apply State.log_keeps; assumption; unfold y; apply State.setCh_keeps; assumption

theorem State.closeChannel_keeps {s0 s : State} {n sub code lanes : Nat} (h_s : Keeps s0 s) : Keeps s0
    (State.closeChannel s n sub code lanes) := by
  unfold State.closeChannel
  with_reducible
    extract_lets +onlyGivenNames _; extract_lets +onlyGivenNames y; refine (fun _ : Keeps s0 y => ?_) ?_; clear_value y
    extract_lets +onlyGivenNames y; refine (fun _ : Keeps s0 y => ?_) ?_; clear_value y
    extract_lets +onlyGivenNames y; refine (fun _ : Keeps s0 y => ?_) ?_; clear_value y; extract_lets +onlyGivenNames _
    extract_lets +onlyGivenNames _; extract_lets +onlyGivenNames _
    extract_lets +onlyGivenNames y; refine (fun _ : Keeps s0 y => ?_) ?_; clear_value y
    extract_lets +onlyGivenNames y; refine (fun _ : Keeps s0 y => ?_) ?_; clear_value y
    extract_lets +onlyGivenNames y; refine (fun _ : Keeps s0 y => ?_) ?_; clear_value y; apply State.reeval_keeps; assumption; unfold y
    refine Keeps.foldl ?_ fun _ _ _ => ?_; assumption; apply Keeps.ite; apply State.shareNoSpace_keeps; assumption; assumption; unfold y
    apply Keeps.ite; assumption; apply State.commit_keeps; assumption; unfold y; apply State.setCh_keeps; assumption; unfold y
    apply State.rehome_keeps; apply State.setFld_keeps; assumption; unfold y; apply State.log_keeps; assumption; unfold y
    apply State.setChState_keeps; assumption

theorem State.retryShares_keeps {s0 s : State} (h_s : Keeps s0 s) : Keeps s0 (State.retryShares s) := by
  unfold State.retryShares
  with_reducible
    refine Keeps.foldl ?_ fun _ _ _ => ?_; assumption; extract_lets +onlyGivenNames _; apply Keeps.ite; extract_lets +onlyGivenNames _
    extract_lets +onlyGivenNames _; extract_lets +onlyGivenNames _
    extract_lets +onlyGivenNames y; refine (fun _ : Keeps s0 y => ?_) ?_; clear_value y
    extract_lets +onlyGivenNames y; refine (fun _ : Keeps s0 y => ?_) ?_; clear_value y; refine Keeps.foldl ?_ fun _ _ _ => ?_; assumption
    apply Keeps.ite; apply State.log_keeps; assumption; assumption; unfold y; apply Keeps.ite; assumption; apply State.commit_keeps
    assumption; unfold y; apply State.setCh_keeps; assumption; assumption

theorem State.setNf_keeps {s0 s : State} {n : Nat} {c : NandCh} (h_s : Keeps s0 s) : Keeps s0 (State.setNf s n c) := by
  unfold State.setNf
  with_reducible
    refine Keeps.mk ?_ rfl rfl; assumption

theorem State.nfErr_keeps {s0 s : State} {n code : Nat} (h_s : Keeps s0 s) : Keeps s0 (State.nfErr s n code) := by
  unfold State.nfErr
  with_reducible
    apply State.noteErr_keeps; assumption

theorem State.setNfState_keeps {s0 s : State} {n : Nat} {st : NfState} {err : Nat} (h_s : Keeps s0 s) : Keeps s0
    (State.setNfState s n st err) := by
  unfold State.setNfState
  with_reducible
    extract_lets +onlyGivenNames _; extract_lets +onlyGivenNames _; apply State.log_keeps; apply State.sensorChange_keeps
    apply State.setNf_keeps; assumption

theorem State.setBlock_keeps {s0 s : State} {ch die b : Nat} {x : NandBlock} (h_s : Keeps s0 s) : Keeps s0 (State.setBlock s ch die b x)
    := by
  unfold State.setBlock
  with_reducible
    refine Keeps.mk ?_ rfl rfl; assumption

theorem State.checkPool_keeps {s0 s : State} {ch die : Nat} (h_s : Keeps s0 s) : Keeps s0 (State.checkPool s ch die) := by
  unfold State.checkPool
  with_reducible
    extract_lets +onlyGivenNames _; extract_lets +onlyGivenNames _; extract_lets +onlyGivenNames _; apply Keeps.ite; apply Keeps.ite
    assumption; apply State.log_keeps; apply State.nfErr_keeps; refine Keeps.mk ?_ rfl rfl; assumption; apply Keeps.ite
    apply State.log_keeps; refine Keeps.mk ?_ rfl rfl; assumption; assumption

theorem State.allocHome_keeps {s0 s : State} {k : Nat} {skip : Option Nat} (h_s : Keeps s0 s) : KOP s0 (State.allocHome s k skip) := by
  unfold State.allocHome
  with_reducible
    apply KOP.ite; exact KOP.none; split; exact KOP.none; extract_lets +onlyGivenNames _; extract_lets +onlyGivenNames _; split
    extract_lets +onlyGivenNames _; split; exact KOP.none; extract_lets +onlyGivenNames _; extract_lets +onlyGivenNames _
    extract_lets +onlyGivenNames _; extract_lets +onlyGivenNames y; refine (fun _ : Keeps s0 y => ?_) ?_; clear_value y; apply KOP.some
    apply KP.mk; assumption; unfold y; apply State.checkPool_keeps; apply State.setBlock_keeps; refine KP.of_eq (by assumption) ?_
    apply State.fresh_keeps; assumption

theorem State.takeTokens_keeps {s0 s : State} {n : Nat} (h_s : Keeps s0 s) : Keeps s0 (State.takeTokens s n) := by
  unfold State.takeTokens
  with_reducible
    extract_lets +onlyGivenNames _; apply Keeps.ite; assumption; extract_lets +onlyGivenNames _; extract_lets +onlyGivenNames _
    extract_lets +onlyGivenNames _; extract_lets +onlyGivenNames _; extract_lets +onlyGivenNames _; refine Keeps.mk ?_ rfl rfl; assumption

theorem State.countPrograms_keeps {s0 s : State} {home all : Nat} (h_s : Keeps s0 s) : Keeps s0 (State.countPrograms s home all) := by
  unfold State.countPrograms
  with_reducible
    extract_lets +onlyGivenNames _; refine Keeps.mk ?_ rfl rfl; assumption

theorem State.setMap_keeps {s0 s : State} {k : Nat} {loc : HomeLoc} (h_s : Keeps s0 s) : Keeps s0 (State.setMap s k loc) := by
  unfold State.setMap
  with_reducible
    refine Keeps.mk ?_ rfl rfl; assumption

theorem State.programHome_keeps {s0 s : State} {k : Nat} {lines : List Line} {loc : HomeLoc} (h_s : Keeps s0 s) : Keeps s0
    (State.programHome s k lines loc) := by
  unfold State.programHome
  with_reducible
    extract_lets +onlyGivenNames y; refine (fun _ : Keeps s0 y => ?_) ?_; clear_value y; apply State.countPrograms_keeps
    apply State.setMap_keeps; assumption; unfold y; refine Keeps.foldl ?_ fun _ _ _ => ?_; assumption; apply State.setHome_keeps
    assumption

theorem State.movePages_keeps {s0 s : State} {ks : List Nat} (h_s : Keeps s0 s) : Keeps s0 (State.movePages s ks) := by
  unfold State.movePages
  with_reducible
    refine Keeps.foldl ?_ fun _ _ _ => ?_; assumption; split; apply State.countPrograms_keeps; apply State.setMap_keeps
    refine KOP.of_eq (by assumption) ?_; apply State.allocHome_keeps; assumption; assumption

theorem State.startErase_keeps {s0 s : State} {ch die b : Nat} (h_s : Keeps s0 s) : Keeps s0 (State.startErase s ch die b) := by
  unfold State.startErase
  with_reducible
    apply Keeps.ite; assumption; extract_lets +onlyGivenNames _
    extract_lets +onlyGivenNames y; refine (fun _ : Keeps s0 y => ?_) ?_; clear_value y; refine Keeps.mk ?_ rfl rfl; assumption; unfold y
    apply State.setBlock_keeps; assumption

theorem State.retireBlock_keeps {s0 s : State} {ch die b status : Nat} (h_s : Keeps s0 s) : Keeps s0
    (State.retireBlock s ch die b status) := by
  unfold State.retireBlock
  with_reducible
    extract_lets +onlyGivenNames _; extract_lets +onlyGivenNames y; refine (fun _ : Keeps s0 y => ?_) ?_; clear_value y
    apply State.checkPool_keeps; apply State.movePages_keeps; assumption; unfold y; apply State.setBlock_keeps; assumption

theorem State.suspendErase_keeps {s0 s : State} {loc : HomeLoc} (h_s : Keeps s0 s) : Keeps s0 (State.suspendErase s loc) := by
  unfold State.suspendErase
  with_reducible
    extract_lets +onlyGivenNames _; refine Keeps.mk ?_ rfl rfl; assumption

theorem State.unpark_keeps {s0 s : State} {page : Nat} (h_s : Keeps s0 s) : Keeps s0 (State.unpark s page) := by
  unfold State.unpark
  with_reducible
    refine Keeps.mk ?_ rfl rfl; assumption

theorem State.park_keeps {s0 s : State} {bus : BusUse} {ch order page : Nat} (h_s : Keeps s0 s) : KP s0 (State.park s bus ch order page)
    := by
  unfold State.park
  with_reducible
    split; apply KP.mk; assumption; extract_lets +onlyGivenNames y; refine (fun _ : Keeps s0 y => ?_) ?_; clear_value y; apply KP.ite
    apply KP.mk; apply State.logLim_keeps; apply State.bump_keeps; assumption; extract_lets +onlyGivenNames _
    extract_lets +onlyGivenNames y; refine (fun _ : Keeps s0 y => ?_) ?_; clear_value y; apply KP.mk; apply State.setFld_keeps; assumption
    unfold y; refine Keeps.mk ?_ rfl rfl; assumption; unfold y; apply Keeps.ite; apply State.bump_keeps; assumption; assumption

theorem State.touch_keeps {s0 s : State} {part k : Nat} (h_s : Keeps s0 s) : Keeps s0 (State.touch s part k) := by
  unfold State.touch
  with_reducible
    extract_lets +onlyGivenNames _; extract_lets +onlyGivenNames y; refine (fun _ : Keeps s0 y => ?_) ?_; clear_value y
    apply State.setPage_keeps; assumption; unfold y; refine Keeps.foldl ?_ fun _ _ _ => ?_; assumption; apply Keeps.ite
    apply State.setPage_keeps; assumption; assumption

theorem State.enterSet_keeps {s0 s : State} {part k : Nat} (h_s : Keeps s0 s) : Keeps s0 (State.enterSet s part k) := by
  unfold State.enterSet
  with_reducible
    refine Keeps.foldl ?_ fun _ _ _ => ?_; assumption; apply Keeps.ite; apply State.setPage_keeps; assumption; assumption

theorem State.refuseEvict_keeps {s0 s : State} {part k n : Nat} (h_s : Keeps s0 s) : Keeps s0 (State.refuseEvict s part k n) := by
  unfold State.refuseEvict
  with_reducible
    apply Keeps.ite; assumption; apply State.logLim_keeps; apply State.addFld_keeps; assumption

theorem State.chooseWay_keeps {s0 s : State} {part k : Nat} {cleanOnly : Bool} (h_s : Keeps s0 s) : KP s0
    (State.chooseWay s part k cleanOnly) := by
  unfold State.chooseWay
  with_reducible
    extract_lets +onlyGivenNames _; extract_lets +onlyGivenNames _; split; clear_value *; split; apply KP.mk
    refine KP.of_eq (by assumption) ?_; apply State.fresh_keeps; assumption; extract_lets +onlyGivenNames _
    extract_lets +onlyGivenNames _; split; apply KP.mk; apply State.refuseEvict_keeps; assumption; apply KP.ite; apply KP.mk; assumption
    extract_lets +onlyGivenNames _; split; apply KP.mk; apply State.refuseEvict_keeps; assumption; apply KP.mk
    apply State.refuseEvict_keeps; assumption

theorem State.startWriteback_keeps {s0 s : State} {k : Nat} {evict : Bool} {bad : List Nat} (h_s : Keeps s0 s) : Keeps s0
    (State.startWriteback s k evict bad) := by
  unfold State.startWriteback
  with_reducible
    extract_lets +onlyGivenNames _; apply Keeps.ite; assumption; split; assumption; extract_lets +onlyGivenNames _
    extract_lets +onlyGivenNames _; extract_lets +onlyGivenNames y; refine (fun _ : Keeps s0 y => ?_) ?_; clear_value y
    refine Keeps.mk ?_ rfl rfl; assumption; unfold y; apply State.setPage_keeps; apply State.takeTokens_keeps
    refine KOP.of_eq (by assumption) ?_; apply State.allocHome_keeps; assumption

theorem State.startFill_keeps {s0 s : State} {k way : Nat} {mask : BitVec 64} {start : Nat} (h_s : Keeps s0 s) : Keeps s0
    (State.startFill s k way mask start) := by
  unfold State.startFill
  with_reducible
    extract_lets +onlyGivenNames _; extract_lets +onlyGivenNames _
    extract_lets +onlyGivenNames y; refine (fun _ : Keeps s0 y => ?_) ?_; clear_value y; extract_lets +onlyGivenNames _
    extract_lets +onlyGivenNames _; extract_lets +onlyGivenNames _; extract_lets +onlyGivenNames _
    extract_lets +onlyGivenNames y; refine (fun _ : Keeps s0 y => ?_) ?_; clear_value y; clear_value *; split
    apply State.suspendErase_keeps; assumption; assumption; unfold y; refine Keeps.mk ?_ rfl rfl; assumption; unfold y
    apply State.setPage_keeps; assumption

theorem State.evictClean_keeps {s0 s : State} {k : Nat} (h_s : Keeps s0 s) : Keeps s0 (State.evictClean s k) := by
  unfold State.evictClean
  with_reducible
    apply State.setPage_keeps; assumption

theorem State.placePage_keeps {s0 s : State} {part k : Nat} {mask : BitVec 64} {start : Nat} {cleanOnly : Bool} (h_s : Keeps s0 s) : KP
    s0 (State.placePage s part k mask start cleanOnly) := by
  unfold State.placePage
  with_reducible
    split; apply KP.mk; apply State.enterSet_keeps; apply State.startFill_keeps; refine KP.of_eq (by assumption) ?_
    apply State.chooseWay_keeps; assumption; extract_lets +onlyGivenNames _; apply KP.mk; apply State.enterSet_keeps
    apply State.startFill_keeps; apply State.evictClean_keeps; refine KP.of_eq (by assumption) ?_; apply State.chooseWay_keeps; assumption
    extract_lets +onlyGivenNames y; refine (fun _ : Keeps s0 y => ?_) ?_; clear_value y; apply KP.mk; refine Keeps.mk ?_ rfl rfl
    assumption; unfold y; apply State.startWriteback_keeps; refine KP.of_eq (by assumption) ?_; apply State.chooseWay_keeps; assumption
    apply KP.mk; refine KP.of_eq (by assumption) ?_; apply State.chooseWay_keeps; assumption

theorem State.clearIntent_keeps {s0 s : State} {part k : Nat} (h_s : Keeps s0 s) : Keeps s0 (State.clearIntent s part k) := by
  unfold State.clearIntent
  with_reducible
    extract_lets +onlyGivenNames _; apply Keeps.ite; assumption
    extract_lets +onlyGivenNames y; refine (fun _ : Keeps s0 y => ?_) ?_; clear_value y; split; assumption; extract_lets +onlyGivenNames _
    extract_lets +onlyGivenNames y; refine (fun _ : Keeps s0 y => ?_) ?_; clear_value y; apply KP.snd; apply State.placePage_keeps
    assumption; unfold y; refine Keeps.mk ?_ rfl rfl; assumption; unfold y; apply State.setPage_keeps; assumption

theorem State.noteMiss_keeps {s0 s : State} {i : Nat} {r : Region} {k : Nat} (h_s : Keeps s0 s) : Keeps s0 (State.noteMiss s i r k) :=
    by
  unfold State.noteMiss
  with_reducible
    apply Keeps.ite; assumption; extract_lets +onlyGivenNames _; extract_lets +onlyGivenNames _; extract_lets +onlyGivenNames _
    extract_lets +onlyGivenNames _; extract_lets +onlyGivenNames y; refine (fun _ : Keeps s0 y => ?_) ?_; clear_value y; apply Keeps.ite
    refine Keeps.foldl ?_ fun _ _ _ => ?_; assumption; extract_lets +onlyGivenNames _; apply Keeps.ite; apply KP.snd
    apply State.placePage_keeps; assumption; assumption; assumption; unfold y; refine Keeps.mk ?_ rfl rfl; assumption

theorem State.setStream_keeps {s0 s : State} {x : Stream} (h_s : Keeps s0 s) : Keeps s0 (State.setStream s x) := by
  unfold State.setStream
  with_reducible
    refine Keeps.mk ?_ rfl rfl; assumption

theorem State.waybillEvent_keeps {s0 s : State} {code src unit l i ch outcome : Nat} (h_s : Keeps s0 s) : Keeps s0
    (State.waybillEvent s code src unit l i ch outcome) := by
  unfold State.waybillEvent
  with_reducible
    apply State.log_keeps; apply State.bump_keeps; assumption

theorem State.queueWrite_keeps {s0 s : State} {l : Nat} {a : ChAddr} {part repair : Bool} {owner : Nat} (h_s : Keeps s0 s) : Keeps s0
    (State.queueWrite s l a part repair owner) := by
  unfold State.queueWrite
  with_reducible
    extract_lets +onlyGivenNames _; extract_lets +onlyGivenNames _; extract_lets +onlyGivenNames _; extract_lets +onlyGivenNames _
    apply Keeps.ite; assumption; apply Keeps.ite; apply State.setCh_keeps; assumption; extract_lets +onlyGivenNames _
    extract_lets +onlyGivenNames _; apply State.setCh_keeps; assumption

theorem State.readArrives_keeps {s0 s : State} {l : Nat} {a : ChAddr} (h_s : Keeps s0 s) : Keeps s0 (State.readArrives s l a) := by
  unfold State.readArrives
  with_reducible
    extract_lets +onlyGivenNames _; extract_lets +onlyGivenNames _; split; assumption; extract_lets +onlyGivenNames _
    apply State.setCh_keeps; assumption

theorem State.holdRead_keeps {s0 s : State} {n : Nat} {rd : PendingRead} (h_s : Keeps s0 s) : Keeps s0 (State.holdRead s n rd) := by
  unfold State.holdRead
  with_reducible
    apply State.setCh_keeps; assumption

theorem State.trialHit_keeps {s0 s : State} {n key dev cause : Nat} (h_s : Keeps s0 s) : Keeps s0 (State.trialHit s n key dev cause) :=
    by
  unfold State.trialHit
  with_reducible
    extract_lets +onlyGivenNames _; extract_lets +onlyGivenNames _; extract_lets +onlyGivenNames _
    extract_lets +onlyGivenNames y; refine (fun _ : Keeps s0 y => ?_) ?_; clear_value y; extract_lets +onlyGivenNames _; apply Keeps.ite
    apply State.log_keeps; apply State.setCh_keeps; assumption; assumption; unfold y; apply State.setCh_keeps; assumption

theorem State.repairWrite_keeps {s0 s : State} {l : Nat} {a : ChAddr} (h_s : Keeps s0 s) : Keeps s0 (State.repairWrite s l a) := by
  unfold State.repairWrite
  with_reducible
    apply State.queueWrite_keeps; assumption

theorem State.countCorrected_keeps {s0 s : State} {n sub dev : Nat} (h_s : Keeps s0 s) : Keeps s0 (State.countCorrected s n sub dev) :=
    by
  unfold State.countCorrected
  with_reducible
    apply State.logLim_keeps; apply State.bump_keeps; assumption

theorem State.countUncorrectable_keeps {s0 s : State} {l : Nat} {a : ChAddr} (h_s : Keeps s0 s) : Keeps s0
    (State.countUncorrectable s l a) := by
  unfold State.countUncorrectable
  with_reducible
    extract_lets +onlyGivenNames _; extract_lets +onlyGivenNames _
    extract_lets +onlyGivenNames y; refine (fun _ : Keeps s0 y => ?_) ?_; clear_value y; apply State.mediaEvent_keeps; assumption
    unfold y; apply State.log_keeps; apply State.bump_keeps; apply State.chErr_keeps; assumption

theorem State.decodeWith_keeps {s0 s : State} {l : Nat} {a : ChAddr} {errs : List Nat} {repair : Bool} {cause : Nat} (h_s : Keeps s0 s)
    : KP s0 (State.decodeWith s l a errs repair cause) := by
  unfold State.decodeWith
  with_reducible
    extract_lets +onlyGivenNames _; extract_lets +onlyGivenNames _; extract_lets +onlyGivenNames _; extract_lets +onlyGivenNames _
    extract_lets +onlyGivenNames _; split; apply KP.mk; assumption; apply KP.mk; assumption
    extract_lets +onlyGivenNames y; refine (fun _ : Keeps s0 y => ?_) ?_; clear_value y; apply KP.mk; apply Keeps.ite
    apply State.repairWrite_keeps; assumption; assumption; unfold y; apply State.countCorrected_keeps; assumption
    extract_lets +onlyGivenNames y; refine (fun _ : Keeps s0 y => ?_) ?_; clear_value y; apply KP.mk; assumption; unfold y
    apply State.trialHit_keeps; apply State.bump_keeps; apply State.bump_keeps; assumption; apply KP.mk
    apply State.countUncorrectable_keeps; assumption

theorem State.decodeLine_keeps {s0 s : State} {l : Nat} {a : ChAddr} {errs : List Nat} {patrol : Bool} (h_s : Keeps s0 s) : KP s0
    (State.decodeLine s l a errs patrol) := by
  unfold State.decodeLine
  with_reducible
    apply State.decodeWith_keeps; assumption

theorem State.poisonStored_keeps {s0 s : State} {i l : Nat} (h_s : Keeps s0 s) : Keeps s0 (State.poisonStored s i l) := by
  unfold State.poisonStored
  with_reducible
    apply State.markDamaged_keeps; apply State.setLine_keeps; assumption

theorem State.recoverLine_keeps {s0 s : State} {i : Nat} {r : Region} {l : Nat} {why : TwinReadFor} (h_s : Keeps s0 s) : KP s0
    (State.recoverLine s i r l why) := by
  unfold State.recoverLine
  with_reducible
    apply KP.ite; apply KP.mk; apply State.twinRead_keeps; assumption; apply KP.mk; apply State.poisonStored_keeps; assumption

theorem State.exitRead_keeps {s0 s : State} {rd : PendingRead} {i : Nat} {r : Region} {ch : Nat} {wbBad : Bool} (h_s : Keeps s0 s) :
    Keeps s0 (State.exitRead s rd i r ch wbBad) := by
  unfold State.exitRead
  with_reducible
    extract_lets +onlyGivenNames _; extract_lets +onlyGivenNames _; apply Keeps.ite; apply State.deliver_keeps; assumption; split; split
    apply State.deliver_keeps; apply State.waybillEvent_keeps; assumption; split; apply Keeps.ite; refine KP.of_eq (by assumption) ?_
    apply State.recoverLine_keeps; assumption; apply State.deliver_keeps; apply State.waybillEvent_keeps
    refine KP.of_eq (by assumption) ?_; apply State.recoverLine_keeps; assumption; split; apply Keeps.ite
    refine KP.of_eq (by assumption) ?_; apply State.recoverLine_keeps; assumption; apply State.deliver_keeps
    apply State.waybillEvent_keeps; refine KP.of_eq (by assumption) ?_; apply State.recoverLine_keeps; assumption
    apply State.deliver_keeps; assumption

theorem State.readOpen_keeps {s0 s : State} {rd : PendingRead} {i : Nat} {r : Region} {a : ChAddr} {errs : List Nat} {wbBad : Bool}
    (h_s : Keeps s0 s) : Keeps s0 (State.readOpen s rd i r a errs wbBad) := by
  unfold State.readOpen
  with_reducible
    extract_lets +onlyGivenNames _; extract_lets +onlyGivenNames _; extract_lets +onlyGivenNames _
    extract_lets +onlyGivenNames y; refine (fun _ : Keeps s0 y => ?_) ?_; clear_value y; apply Keeps.ite; apply State.holdRead_keeps
    assumption; split; extract_lets +onlyGivenNames y; refine (fun _ : Keeps s0 y => ?_) ?_; clear_value y; apply State.setCh_keeps
    assumption; unfold y; apply State.holdRead_keeps; assumption
    extract_lets +onlyGivenNames y; refine (fun _ : Keeps s0 y => ?_) ?_; clear_value y; apply State.setCh_keeps; assumption; unfold y
    apply State.holdRead_keeps; assumption; extract_lets +onlyGivenNames y; refine (fun _ : Keeps s0 y => ?_) ?_; clear_value y
    apply State.setCh_keeps; assumption; unfold y; apply State.holdRead_keeps; assumption; apply Keeps.ite; apply State.holdRead_keeps
    assumption; extract_lets +onlyGivenNames _; extract_lets +onlyGivenNames y; refine (fun _ : Keeps s0 y => ?_) ?_; clear_value y
    apply State.twinRead_keeps; assumption; unfold y; apply State.setCh_keeps; assumption; apply State.deliver_keeps; assumption
    apply State.deliver_keeps; assumption; split; apply State.exitRead_keeps; refine KP.of_eq (by assumption) ?_
    apply State.decodeLine_keeps; assumption; apply State.holdRead_keeps; refine KP.of_eq (by assumption) ?_; apply State.decodeLine_keeps
    assumption; split; apply State.exitRead_keeps; refine KP.of_eq (by assumption) ?_; apply State.decodeLine_keeps; assumption
    apply State.holdRead_keeps; refine KP.of_eq (by assumption) ?_; apply State.decodeLine_keeps; assumption; unfold y
    apply State.readArrives_keeps; assumption

theorem State.readDram_keeps {s0 s : State} {rd : PendingRead} {i : Nat} {r : Region} {errs : List Nat} {wbBad : Bool}
    (h_s : Keeps s0 s) : Keeps s0 (State.readDram s rd i r errs wbBad) := by
  unfold State.readDram
  with_reducible
    extract_lets +onlyGivenNames _; extract_lets +onlyGivenNames _; extract_lets +onlyGivenNames _; extract_lets +onlyGivenNames _
    extract_lets +onlyGivenNames _; extract_lets +onlyGivenNames _; split; apply Keeps.ite; apply State.deliver_keeps; assumption
    apply Keeps.ite; apply State.readOpen_keeps; assumption
    extract_lets +onlyGivenNames y; refine (fun _ : Keeps s0 y => ?_) ?_; clear_value y; split; apply Keeps.ite
    apply State.readOpen_keeps; assumption; apply State.holdRead_keeps; assumption; apply State.readOpen_keeps; assumption; unfold y
    apply State.rebuildChunk_keeps; assumption; apply State.readOpen_keeps; assumption

theorem State.detour_keeps {s0 s : State} {rd : PendingRead} (h_s : Keeps s0 s) : Keeps s0 (State.detour s rd) := by
  unfold State.detour
  with_reducible
    extract_lets +onlyGivenNames y; refine (fun _ : Keeps s0 y => ?_) ?_; clear_value y; refine Keeps.mk ?_ rfl rfl; assumption; unfold y
    apply State.bump_keeps; assumption

theorem State.readMissed_keeps {s0 s : State} {rd : PendingRead} {i : Nat} {r : Region} (h_s : Keeps s0 s) : Keeps s0
    (State.readMissed s rd i r) := by
  unfold State.readMissed
  with_reducible
    extract_lets +onlyGivenNames _; extract_lets +onlyGivenNames _
    extract_lets +onlyGivenNames y; refine (fun _ : Keeps s0 y => ?_) ?_; clear_value y; apply Keeps.ite; assumption
    extract_lets +onlyGivenNames y; refine (fun _ : Keeps s0 y => ?_) ?_; clear_value y; apply State.noteMiss_keeps; assumption; unfold y
    split; refine KP.of_eq (by assumption) ?_; apply State.placePage_keeps; assumption
    extract_lets +onlyGivenNames y; refine (fun _ : Keeps s0 y => ?_) ?_; clear_value y; extract_lets +onlyGivenNames _
    refine Keeps.mk ?_ rfl rfl; assumption; unfold y; apply State.bump_keeps; refine KP.of_eq (by assumption) ?_
    apply State.placePage_keeps; assumption; unfold y; apply State.detour_keeps; assumption

theorem State.serveRead_keeps {s0 s : State} {rd : PendingRead} {i : Nat} {r : Region} {errs : List Nat} {wbBad : Bool}
    (h_s : Keeps s0 s) : Keeps s0 (State.serveRead s rd i r errs wbBad) := by
  unfold State.serveRead
  with_reducible
    extract_lets +onlyGivenNames _; extract_lets +onlyGivenNames _; extract_lets +onlyGivenNames _; split; split
    extract_lets +onlyGivenNames y; refine (fun _ : Keeps s0 y => ?_) ?_; clear_value y; extract_lets +onlyGivenNames _
    extract_lets +onlyGivenNames _; apply State.setStream_keeps; assumption; unfold y; apply State.detour_keeps; assumption
    apply Keeps.ite; apply State.deliver_keeps; assumption; apply State.readDram_keeps; assumption; split; apply Keeps.ite
    apply State.deliver_keeps; apply State.setPage_keeps; assumption; apply State.startFill_keeps; apply State.detour_keeps; assumption
    apply State.detour_keeps; assumption; apply State.readDram_keeps; apply State.setPage_keeps; assumption; apply State.readDram_keeps
    assumption; split; apply State.readMissed_keeps; assumption; apply State.detour_keeps; assumption; apply State.readDram_keeps
    apply State.touch_keeps; apply State.setPage_keeps; assumption; apply State.readDram_keeps; apply State.touch_keeps
    apply State.clearIntent_keeps; assumption; split; apply State.readMissed_keeps; assumption; apply State.detour_keeps; assumption
    apply State.readDram_keeps; apply State.touch_keeps; apply State.setPage_keeps; assumption; apply State.readDram_keeps
    apply State.touch_keeps; apply State.clearIntent_keeps; assumption

theorem State.serveAgain_keeps {s0 s : State} {rds : List PendingRead} (h_s : Keeps s0 s) : Keeps s0 (State.serveAgain s rds) := by
  unfold State.serveAgain
  with_reducible
    refine Keeps.foldl ?_ fun _ _ _ => ?_; assumption; split; apply State.serveRead_keeps; assumption; apply State.deliver_keeps
    assumption

theorem State.releaseHeld_keeps {s0 s : State} {n : Nat} {p : PendingRead → Bool} (h_s : Keeps s0 s) : Keeps s0
    (State.releaseHeld s n p) := by
  unfold State.releaseHeld
  with_reducible
    extract_lets +onlyGivenNames _; extract_lets +onlyGivenNames _
    extract_lets +onlyGivenNames y; refine (fun _ : Keeps s0 y => ?_) ?_; clear_value y; apply State.serveAgain_keeps; assumption
    unfold y; apply State.setCh_keeps; assumption

theorem State.unpin_keeps {s0 s : State} {k n : Nat} (h_s : Keeps s0 s) : Keeps s0 (State.unpin s k n) := by
  unfold State.unpin
  with_reducible
    apply State.setPage_keeps; assumption

theorem State.advanceRelease_keeps {s0 s : State} {p : Plan} {x : Stream} (h_s : Keeps s0 s) : Keeps s0 (State.advanceRelease s p x) :=
    by
  unfold State.advanceRelease
  with_reducible
    extract_lets +onlyGivenNames _; split; extract_lets +onlyGivenNames y; refine (fun _ : Keeps s0 y => ?_) ?_; clear_value y
    refine Keeps.foldl ?_ fun _ _ _ => ?_; assumption; apply State.unpin_keeps; assumption; unfold y; apply State.setStream_keeps
    assumption

theorem State.takeRelease_keeps {s0 s : State} {p : Plan} {x : Stream} {v : BitVec 32} (h_s : Keeps s0 s) : Keeps s0
    (State.takeRelease s p x v) := by
  unfold State.takeRelease
  with_reducible
    apply Keeps.ite; assumption; extract_lets +onlyGivenNames _; extract_lets +onlyGivenNames _; extract_lets +onlyGivenNames _
    apply State.advanceRelease_keeps; assumption

theorem State.observeRelease_keeps {s0 s : State} {i : Nat} {r : Region} {l : Nat} (h_s : Keeps s0 s) : Keeps s0
    (State.observeRelease s i r l) := by
  unfold State.observeRelease
  with_reducible
    split; assumption; extract_lets +onlyGivenNames _; apply Keeps.ite; assumption; split; apply State.takeRelease_keeps; assumption
    assumption

theorem State.writeLine_keeps {s0 s : State} {w : AdmWrite} {a : ChAddr} (h_s : Keeps s0 s) : Keeps s0 (State.writeLine s w a) := by
  unfold State.writeLine
  with_reducible
    extract_lets +onlyGivenNames _; extract_lets +onlyGivenNames _; extract_lets +onlyGivenNames _; extract_lets +onlyGivenNames _
    apply Keeps.ite; extract_lets +onlyGivenNames y; refine (fun _ : Keeps s0 y => ?_) ?_; clear_value y; apply State.queueWrite_keeps
    assumption; unfold y; apply State.setLine_keeps; apply State.setCh_keeps; assumption; apply Keeps.ite
    extract_lets +onlyGivenNames y; refine (fun _ : Keeps s0 y => ?_) ?_; clear_value y; apply State.queueWrite_keeps; assumption
    unfold y; apply State.setCh_keeps; assumption; apply Keeps.ite; apply State.queueWrite_keeps; apply State.setLine_keeps; assumption
    extract_lets +onlyGivenNames y; refine (fun _ : Keeps s0 y => ?_) ?_; clear_value y; apply State.queueWrite_keeps; assumption
    unfold y; apply State.setCh_keeps; assumption

theorem State.writeDram_keeps {s0 s : State} {w : AdmWrite} {r : Region} (h_s : Keeps s0 s) : Keeps s0 (State.writeDram s w r) := by
  unfold State.writeDram
  with_reducible
    extract_lets +onlyGivenNames _; extract_lets +onlyGivenNames _; extract_lets +onlyGivenNames _; extract_lets +onlyGivenNames _
    extract_lets +onlyGivenNames f396; split; apply Keeps.ite; assumption
    extract_lets +onlyGivenNames y; refine (fun _ : Keeps s0 y => ?_) ?_; clear_value y; extract_lets +onlyGivenNames _; apply Keeps.ite
    apply State.writeLine_keeps; unfold f396; extract_lets +onlyGivenNames _; split; apply State.setCh_keeps; assumption
    apply State.setCh_keeps; assumption; apply State.setCh_keeps; assumption; assumption; apply State.writeLine_keeps; assumption
    unfold y; apply State.rebuildChunk_keeps; assumption; apply State.writeLine_keeps; unfold f396; extract_lets +onlyGivenNames _; split
    apply State.setCh_keeps; assumption; apply State.setCh_keeps; assumption; apply State.setCh_keeps; assumption; assumption

theorem State.writeThrough_keeps {s0 s : State} {k l : Nat} {req : Requester} (h_s : Keeps s0 s) : Keeps s0
    (State.writeThrough s k l req) := by
  unfold State.writeThrough
  with_reducible
    extract_lets +onlyGivenNames _; extract_lets +onlyGivenNames _; refine Keeps.mk ?_ rfl rfl; assumption

theorem State.writeDirect_keeps {s0 s : State} {w : AdmWrite} (h_s : Keeps s0 s) : Keeps s0 (State.writeDirect s w) := by
  unfold State.writeDirect
  with_reducible
    extract_lets +onlyGivenNames _; extract_lets +onlyGivenNames y; refine (fun _ : Keeps s0 y => ?_) ?_; clear_value y
    extract_lets +onlyGivenNames _; refine Keeps.mk ?_ rfl rfl; assumption; unfold y; apply State.writeThrough_keeps; assumption

theorem State.landPage_keeps {s0 s : State} {w : AdmWrite} {i : Nat} {r : Region} {counts : Bool} (h_s : Keeps s0 s) : KP s0
    (State.landPage s w i r counts) := by
  unfold State.landPage
  with_reducible
    extract_lets +onlyGivenNames _; extract_lets +onlyGivenNames _; extract_lets +onlyGivenNames _; extract_lets +onlyGivenNames _
    extract_lets +onlyGivenNames f396; split; apply KP.mk; apply Keeps.ite; apply State.setPage_keeps; assumption; assumption; split
    apply KP.ite; apply KP.mk; apply State.setPage_keeps; assumption; apply KP.mk; unfold f396
    extract_lets +onlyGivenNames y; refine (fun _ : Keeps s0 y => ?_) ?_; clear_value y; apply State.setPage_keeps; assumption; unfold y
    apply State.startFill_keeps; assumption; apply KP.mk; apply State.setPage_keeps; assumption; apply KP.mk; apply State.setPage_keeps
    assumption; extract_lets +onlyGivenNames _; split; apply KP.ite; apply KP.mk; assumption; split; apply KP.mk
    apply State.noteMiss_keeps; apply State.setPage_keeps; refine KP.of_eq (by assumption) ?_; apply State.placePage_keeps; assumption
    apply KP.mk; apply State.noteMiss_keeps; refine KP.of_eq (by assumption) ?_; apply State.placePage_keeps; assumption; apply KP.mk
    refine KP.of_eq (by assumption) ?_; apply State.placePage_keeps; assumption; apply KP.mk; apply State.setPage_keeps; assumption
    extract_lets +onlyGivenNames y; refine (fun _ : Keeps s0 y => ?_) ?_; clear_value y; apply KP.mk; apply State.setPage_keeps
    assumption; unfold y; apply State.touch_keeps; apply State.clearIntent_keeps; assumption; extract_lets +onlyGivenNames _; split
    apply KP.ite; apply KP.mk; assumption; split; apply KP.mk; apply State.noteMiss_keeps; apply State.setPage_keeps
    refine KP.of_eq (by assumption) ?_; apply State.placePage_keeps; assumption; apply KP.mk; apply State.noteMiss_keeps
    refine KP.of_eq (by assumption) ?_; apply State.placePage_keeps; assumption; apply KP.mk; refine KP.of_eq (by assumption) ?_
    apply State.placePage_keeps; assumption; apply KP.mk; apply State.setPage_keeps; assumption
    extract_lets +onlyGivenNames y; refine (fun _ : Keeps s0 y => ?_) ?_; clear_value y; apply KP.mk; apply State.setPage_keeps
    assumption; unfold y; apply State.touch_keeps; apply State.clearIntent_keeps; assumption

theorem State.fenceLanded_keeps {s0 s : State} {w : AdmWrite} {through : Bool} (h_s : Keeps s0 s) : Keeps s0
    (State.fenceLanded s w through) := by
  unfold State.fenceLanded
  with_reducible
    apply Keeps.ite; assumption; extract_lets +onlyGivenNames _; extract_lets +onlyGivenNames _; extract_lets +onlyGivenNames _
    extract_lets +onlyGivenNames _; extract_lets +onlyGivenNames _
    extract_lets +onlyGivenNames y; refine (fun _ : Keeps s0 y => ?_) ?_; clear_value y; refine Keeps.foldl ?_ fun _ _ _ => ?_; assumption
    apply State.complete_keeps; assumption; unfold y; refine Keeps.mk ?_ rfl rfl; assumption

theorem State.landWrite_keeps {s0 s : State} {w : AdmWrite} {i : Nat} {r : Region} {counts through : Bool} (h_s : Keeps s0 s) : Keeps s0
    (State.landWrite s w i r counts through) := by
  unfold State.landWrite
  with_reducible
    split; refine Keeps.mk ?_ rfl rfl; refine KP.of_eq (by assumption) ?_; apply State.landPage_keeps; assumption; split
    apply State.fenceLanded_keeps; apply State.writeDirect_keeps; refine KP.of_eq (by assumption) ?_; apply State.handOff_keeps
    refine KP.of_eq (by assumption) ?_; apply State.landPage_keeps; assumption; split
    extract_lets +onlyGivenNames y; refine (fun _ : Keeps s0 y => ?_) ?_; clear_value y
    extract_lets +onlyGivenNames y; refine (fun _ : Keeps s0 y => ?_) ?_; clear_value y; apply Keeps.ite; apply State.writeThrough_keeps
    assumption; apply Keeps.ite; assumption; apply State.finishWrite_keeps; assumption; unfold y; apply State.fenceLanded_keeps
    apply State.observeRelease_keeps; apply State.rotateLine_keeps; apply State.writeDram_keeps; assumption; unfold y; split
    apply Keeps.ite; apply State.bump_keeps; refine KP.of_eq (by assumption) ?_; apply State.handOff_keeps
    refine KP.of_eq (by assumption) ?_; apply State.landPage_keeps; assumption; refine KP.of_eq (by assumption) ?_
    apply State.handOff_keeps; refine KP.of_eq (by assumption) ?_; apply State.landPage_keeps; assumption
    refine KP.of_eq (by assumption) ?_; apply State.handOff_keeps; refine KP.of_eq (by assumption) ?_; apply State.landPage_keeps
    assumption

theorem State.mergeLim_keeps {s0 s : State} {code key : Nat} {f : Limiter → Limiter} (h_s : Keeps s0 s) : Keeps s0
    (State.mergeLim s code key f) := by
  unfold State.mergeLim
  with_reducible
    extract_lets +onlyGivenNames _; refine Keeps.mk ?_ rfl rfl; assumption

theorem State.stallWrite_keeps {s0 s : State} {w : AdmWrite} (h_s : Keeps s0 s) : Keeps s0 (State.stallWrite s w) := by
  unfold State.stallWrite
  with_reducible
    extract_lets +onlyGivenNames _; extract_lets +onlyGivenNames y; refine (fun _ : Keeps s0 y => ?_) ?_; clear_value y
    apply State.logLim_keeps; apply State.bump_keeps; assumption; unfold y; refine Keeps.mk ?_ rfl rfl; assumption

theorem State.stallEnds_keeps {s0 s : State} {w : AdmWrite} {through : Bool} (h_s : Keeps s0 s) : Keeps s0 (State.stallEnds s w through)
    := by
  unfold State.stallEnds
  with_reducible
    apply State.mergeLim_keeps; assumption

theorem State.storeWrite_keeps {s0 s : State} {w : AdmWrite} {i : Nat} {r : Region} (h_s : Keeps s0 s) : Keeps s0
    (State.storeWrite s w i r) := by
  unfold State.storeWrite
  with_reducible
    extract_lets +onlyGivenNames _; extract_lets +onlyGivenNames y; refine (fun _ : Keeps s0 y => ?_) ?_; clear_value y; apply Keeps.ite
    apply State.landWrite_keeps; assumption; apply Keeps.ite; apply State.landWrite_keeps; assumption; apply Keeps.ite
    apply State.landWrite_keeps; assumption; apply Keeps.ite; apply State.landWrite_keeps; assumption; apply State.stallWrite_keeps
    assumption; unfold y; apply Keeps.ite; refine Keeps.mk ?_ rfl rfl; assumption; assumption

theorem State.resumeWrite_keeps {s0 s : State} {w : AdmWrite} {through : Bool} (h_s : Keeps s0 s) : Keeps s0
    (State.resumeWrite s w through) := by
  unfold State.resumeWrite
  with_reducible
    split; apply State.finishWrite_keeps; assumption; extract_lets +onlyGivenNames _; apply State.landWrite_keeps; assumption

theorem State.releaseOne_keeps {s0 s : State} (h_s : Keeps s0 s) : Keeps s0 (State.releaseOne s) := by
  unfold State.releaseOne
  with_reducible
    split; assumption; apply Keeps.ite; apply State.resumeWrite_keeps; apply State.stallEnds_keeps; refine Keeps.mk ?_ rfl rfl; assumption
    assumption

theorem State.releaseThrough_keeps {s0 s : State} (h_s : Keeps s0 s) : Keeps s0 (State.releaseThrough s) := by
  unfold State.releaseThrough
  with_reducible
    extract_lets +onlyGivenNames _; extract_lets +onlyGivenNames _
    extract_lets +onlyGivenNames y; refine (fun _ : Keeps s0 y => ?_) ?_; clear_value y; refine Keeps.foldl ?_ fun _ _ _ => ?_; assumption
    apply State.resumeWrite_keeps; apply State.stallEnds_keeps; assumption; unfold y; refine Keeps.mk ?_ rfl rfl; assumption

theorem State.resumeWay_keeps {s0 s : State} {k : Nat} (h_s : Keeps s0 s) : Keeps s0 (State.resumeWay s k) := by
  unfold State.resumeWay
  with_reducible
    extract_lets +onlyGivenNames _; extract_lets +onlyGivenNames _
    extract_lets +onlyGivenNames y; refine (fun _ : Keeps s0 y => ?_) ?_; clear_value y; refine Keeps.foldl ?_ fun _ _ _ => ?_; assumption
    apply State.resumeWrite_keeps; assumption; unfold y; refine Keeps.mk ?_ rfl rfl; assumption

theorem State.grantWay_keeps {s0 s : State} {part set : Nat} (h_s : Keeps s0 s) : Keeps s0 (State.grantWay s part set) := by
  unfold State.grantWay
  with_reducible
    split; assumption; extract_lets +onlyGivenNames _; extract_lets +onlyGivenNames y; refine (fun _ : Keeps s0 y => ?_) ?_; clear_value y
    split; apply State.resumeWay_keeps; refine KP.of_eq (by assumption) ?_; apply State.placePage_keeps; assumption
    refine KP.of_eq (by assumption) ?_; apply State.placePage_keeps; assumption; extract_lets +onlyGivenNames _
    extract_lets +onlyGivenNames _; extract_lets +onlyGivenNames y; refine (fun _ : Keeps s0 y => ?_) ?_; clear_value y
    extract_lets +onlyGivenNames y; refine (fun _ : Keeps s0 y => ?_) ?_; clear_value y; apply Keeps.ite; extract_lets +onlyGivenNames _
    extract_lets +onlyGivenNames y; refine (fun _ : Keeps s0 y => ?_) ?_; clear_value y; extract_lets +onlyGivenNames _
    refine Keeps.mk ?_ rfl rfl; assumption; unfold y; apply State.addFld_keeps; assumption; assumption; unfold y
    refine Keeps.foldl ?_ fun _ _ _ => ?_; assumption; apply State.resumeWrite_keeps; assumption; unfold y; refine Keeps.mk ?_ rfl rfl
    refine KP.of_eq (by assumption) ?_; apply State.placePage_keeps; assumption; unfold y; refine Keeps.mk ?_ rfl rfl; assumption

theorem State.macFail_keeps {s0 s : State} {p k : Nat} (h_s : Keeps s0 s) : Keeps s0 (State.macFail s p k) := by
  unfold State.macFail
  with_reducible
    extract_lets +onlyGivenNames _; extract_lets +onlyGivenNames _
    extract_lets +onlyGivenNames y; refine (fun _ : Keeps s0 y => ?_) ?_; clear_value y
    extract_lets +onlyGivenNames y; refine (fun _ : Keeps s0 y => ?_) ?_; clear_value y; apply Keeps.ite; apply State.log_keeps
    apply State.setLink_keeps; assumption; apply State.setLink_keeps; assumption; unfold y; apply State.logLim_keeps; assumption; unfold y
    apply State.bump_keeps; assumption

theorem State.takeEntry_keeps {s0 s : State} {p ld : Nat} (h_s : Keeps s0 s) : Keeps s0 (State.takeEntry s p ld) := by
  unfold State.takeEntry
  with_reducible
    extract_lets +onlyGivenNames _; extract_lets +onlyGivenNames _; extract_lets +onlyGivenNames _; extract_lets +onlyGivenNames _
    extract_lets +onlyGivenNames y; refine (fun _ : Keeps s0 y => ?_) ?_; clear_value y; apply State.setLink_keeps; assumption; unfold y
    refine Keeps.mk ?_ rfl rfl; assumption

theorem State.recordAccess_keeps {s0 s : State} {p ld : Nat} {x3 : MemAccess} (h_s : Keeps s0 s) : Keeps s0
    (State.recordAccess s p ld x3) := by
  unfold State.recordAccess
  with_reducible
    split; apply State.logLim_keeps; apply State.bump_keeps; assumption; apply State.logLim_keeps; apply State.bump_keeps; assumption
    apply State.keyAbsent_keeps; assumption; assumption

theorem execCxlMemRead_keeps {s0 : State} {port : PortId} {ld : Fin 16} {hpa : BitVec 52} {tag : Nat} {errs : List (Fin 40)}
    {wbBad macOk : Bool} {s : State} (h_s : Keeps s0 s) : KR s0 (execCxlMemRead port ld hpa tag errs wbBad macOk s) := by
  unfold execCxlMemRead
  with_reducible
    apply KR.next; extract_lets +onlyGivenNames _; extract_lets +onlyGivenNames _; extract_lets +onlyGivenNames _; apply Keeps.ite
    assumption; apply Keeps.ite; apply State.macFail_keeps; assumption
    extract_lets +onlyGivenNames y; refine (fun _ : Keeps s0 y => ?_) ?_; clear_value y; apply Keeps.ite; apply State.answerRead_keeps
    apply State.bump_keeps; assumption; extract_lets +onlyGivenNames y; refine (fun _ : Keeps s0 y => ?_) ?_; clear_value y; split
    apply State.serveRead_keeps; assumption; apply State.answerRead_keeps; apply State.recordAccess_keeps; assumption; unfold y
    apply State.activity_keeps; assumption; unfold y; apply State.takeEntry_keeps; assumption

theorem execCxlMemWrite_keeps {s0 : State} {port : PortId} {ld : Fin 16} {hpa : BitVec 52} {tag : Nat} {data : LineData}
    {be : BitVec 64} {poison macOk : Bool} {s : State} (h_s : Keeps s0 s) : KR s0
    (execCxlMemWrite port ld hpa tag data be poison macOk s) := by
  unfold execCxlMemWrite
  with_reducible
    apply KR.next; extract_lets +onlyGivenNames _; extract_lets +onlyGivenNames _; extract_lets +onlyGivenNames _; apply Keeps.ite
    assumption; apply Keeps.ite; apply State.macFail_keeps; assumption
    extract_lets +onlyGivenNames y; refine (fun _ : Keeps s0 y => ?_) ?_; clear_value y; apply Keeps.ite; apply State.finishWrite_keeps
    apply State.bump_keeps; assumption; apply Keeps.ite; apply State.finishWrite_keeps; apply State.bump_keeps; assumption
    extract_lets +onlyGivenNames y; refine (fun _ : Keeps s0 y => ?_) ?_; clear_value y; split; apply State.storeWrite_keeps; assumption
    apply State.finishWrite_keeps; apply State.recordAccess_keeps; assumption; unfold y; apply State.activity_keeps; assumption; unfold y
    apply State.takeEntry_keeps; assumption

theorem State.mergeEnds_keeps {s0 s : State} {n l : Nat} {x : Line} (h_s : Keeps s0 s) : Keeps s0 (State.mergeEnds s n l x) := by
  unfold State.mergeEnds
  with_reducible
    extract_lets +onlyGivenNames _; extract_lets +onlyGivenNames y; refine (fun _ : Keeps s0 y => ?_) ?_; clear_value y
    apply State.releaseHeld_keeps; apply State.setLine_keeps; assumption; unfold y; apply State.setCh_keeps; assumption

theorem execReadMergeWrite_keeps {s0 : State} {ch : ChId} {line : Nat} {errs : List (Fin 40)} {wbBad : Bool} {s : State}
    (h_s : Keeps s0 s) : KR s0 (execReadMergeWrite ch line errs wbBad s) := by
  unfold execReadMergeWrite
  with_reducible
    apply KR.next; extract_lets +onlyGivenNames _; split; extract_lets +onlyGivenNames _; apply Keeps.ite; assumption
    extract_lets +onlyGivenNames _; split; refine KP.of_eq (by assumption) ?_; apply State.decodeLine_keeps; assumption
    extract_lets +onlyGivenNames _; apply Keeps.ite; apply State.mergeEnds_keeps; refine KP.of_eq (by assumption) ?_
    apply State.decodeLine_keeps; assumption; apply Keeps.ite; extract_lets +onlyGivenNames _
    extract_lets +onlyGivenNames y; refine (fun _ : Keeps s0 y => ?_) ?_; clear_value y; apply State.twinRead_keeps; assumption; unfold y
    apply State.setCh_keeps; refine KP.of_eq (by assumption) ?_; apply State.decodeLine_keeps; assumption; apply State.markDamaged_keeps
    apply State.mergeEnds_keeps; apply State.waybillEvent_keeps; refine KP.of_eq (by assumption) ?_; apply State.decodeLine_keeps
    assumption; assumption

theorem execAdmissionRelease_keeps {s0 s : State} (h_s : Keeps s0 s) : KR s0 (execAdmissionRelease s) := by
  unfold execAdmissionRelease
  with_reducible
    apply KR.next; apply State.releaseOne_keeps; assumption

theorem execStallLimitExpiry_keeps {s0 : State} {cw : CwId} {s : State} (h_s : Keeps s0 s) : KR s0 (execStallLimitExpiry cw s) := by
  unfold execStallLimitExpiry
  with_reducible
    apply KR.next; split; assumption; extract_lets +onlyGivenNames _
    extract_lets +onlyGivenNames y; refine (fun _ : Keeps s0 y => ?_) ?_; clear_value y; apply State.resumeWrite_keeps
    apply State.stallEnds_keeps; assumption; unfold y; refine Keeps.mk ?_ rfl rfl; assumption

theorem State.timeOutRead_keeps {s0 s : State} {rd : PendingRead} (h_s : Keeps s0 s) : Keeps s0 (State.timeOutRead s rd) := by
  unfold State.timeOutRead
  with_reducible
    extract_lets +onlyGivenNames _; extract_lets +onlyGivenNames _; apply State.deliver_keeps; apply State.log_keeps
    apply State.bump_keeps; assumption

theorem execDetourTimeout_keeps {s0 : State} {line : Nat} {s : State} (h_s : Keeps s0 s) : KR s0 (execDetourTimeout line s) := by
  unfold execDetourTimeout
  with_reducible
    apply KR.next; extract_lets +onlyGivenNames _; extract_lets +onlyGivenNames _; extract_lets +onlyGivenNames _
    extract_lets +onlyGivenNames y; refine (fun _ : Keeps s0 y => ?_) ?_; clear_value y
    extract_lets +onlyGivenNames y; refine (fun _ : Keeps s0 y => ?_) ?_; clear_value y; refine Keeps.foldl ?_ fun _ _ _ => ?_; assumption
    extract_lets +onlyGivenNames _; apply Keeps.ite; extract_lets +onlyGivenNames _
    extract_lets +onlyGivenNames y; refine (fun _ : Keeps s0 y => ?_) ?_; clear_value y; refine Keeps.foldl ?_ fun _ _ _ => ?_; assumption
    apply State.timeOutRead_keeps; assumption; unfold y; apply State.setCh_keeps; assumption; assumption; unfold y
    refine Keeps.foldl ?_ fun _ _ _ => ?_; assumption; apply State.timeOutRead_keeps; assumption; unfold y; refine Keeps.mk ?_ rfl rfl
    assumption

theorem State.freeImages_keeps {s0 s : State} (h_s : Keeps s0 s) : Keeps s0 (State.freeImages s) := by
  unfold State.freeImages
  with_reducible
    refine Keeps.foldl ?_ fun _ _ _ => ?_; assumption; extract_lets +onlyGivenNames _; apply Keeps.ite; extract_lets +onlyGivenNames _
    extract_lets +onlyGivenNames _; extract_lets +onlyGivenNames y; refine (fun _ : Keeps s0 y => ?_) ?_; clear_value y
    extract_lets +onlyGivenNames _; extract_lets +onlyGivenNames _; apply State.log_keeps; apply State.setImage_keeps; assumption
    unfold y; refine Keeps.mk ?_ rfl rfl; assumption; assumption

theorem State.pageHome_keeps {s0 s : State} {k : Nat} (h_s : Keeps s0 s) : Keeps s0 (State.pageHome s k) := by
  unfold State.pageHome
  with_reducible
    extract_lets +onlyGivenNames _; extract_lets +onlyGivenNames _; extract_lets +onlyGivenNames _
    extract_lets +onlyGivenNames y; refine (fun _ : Keeps s0 y => ?_) ?_; clear_value y; apply State.freeImages_keeps
    apply State.dropFromImages_keeps; assumption; unfold y; refine Keeps.mk ?_ rfl rfl; assumption

theorem State.beginWriteback_keeps {s0 s : State} {page : Nat} {bad : List Nat} (h_s : Keeps s0 s) : Keeps s0
    (State.beginWriteback s page bad) := by
  unfold State.beginWriteback
  with_reducible
    extract_lets +onlyGivenNames _; split; extract_lets +onlyGivenNames _; apply Keeps.ite; assumption; extract_lets +onlyGivenNames _
    extract_lets +onlyGivenNames _; extract_lets +onlyGivenNames y; refine (fun _ : Keeps s0 y => ?_) ?_; clear_value y; apply Keeps.ite
    assumption; clear_value *; split; apply State.startWriteback_keeps; assumption; split; assumption; extract_lets +onlyGivenNames _
    extract_lets +onlyGivenNames y; refine (fun _ : Keeps s0 y => ?_) ?_; clear_value y; refine Keeps.mk ?_ rfl rfl; assumption; unfold y
    apply State.setPage_keeps; refine KOP.of_eq (by assumption) ?_; apply State.allocHome_keeps; assumption; unfold y
    refine Keeps.foldl ?_ fun _ _ _ => ?_; assumption; split; refine KP.of_eq (by assumption) ?_; apply State.recoverLine_keeps
    assumption; apply State.waybillEvent_keeps; refine KP.of_eq (by assumption) ?_; apply State.recoverLine_keeps; assumption; assumption

theorem execWritebackStart_keeps {s0 : State} {page : Nat} {bad : List Nat} {bus : BusUse} {s : State} (h_s : Keeps s0 s) : KR s0
    (execWritebackStart page bad bus s) := by
  unfold execWritebackStart
  with_reducible
    apply KR.next; extract_lets +onlyGivenNames y; refine (fun _ : Keeps s0 y => ?_) ?_; clear_value y; split; split
    refine KP.of_eq (by assumption) ?_; apply State.park_keeps; assumption; apply KP.snd; apply State.park_keeps; assumption; assumption
    unfold y; apply State.beginWriteback_keeps; assumption

theorem State.afterWriteback_keeps {s0 s : State} {k : Nat} (h_s : Keeps s0 s) : Keeps s0 (State.afterWriteback s k) := by
  unfold State.afterWriteback
  with_reducible
    extract_lets +onlyGivenNames _; apply Keeps.ite; assumption
    extract_lets +onlyGivenNames y; refine (fun _ : Keeps s0 y => ?_) ?_; clear_value y
    extract_lets +onlyGivenNames y; refine (fun _ : Keeps s0 y => ?_) ?_; clear_value y; split; apply Keeps.ite; apply Keeps.ite
    apply State.grantWay_keeps; apply State.evictClean_keeps; assumption; apply State.refuseEvict_keeps; assumption; assumption
    assumption; unfold y; apply Keeps.ite; apply State.releaseOne_keeps; assumption; assumption; unfold y; apply State.setPage_keeps
    assumption

theorem execWritebackProgramDone_keeps {s0 : State} {page : Nat} {s : State} (h_s : Keeps s0 s) : KR s0
    (execWritebackProgramDone page s) := by
  unfold execWritebackProgramDone
  with_reducible
    apply KR.next; split; assumption; extract_lets +onlyGivenNames _; extract_lets +onlyGivenNames y; refine (fun _ : Keeps s0 y => ?_) ?_
    extract_lets +onlyGivenNames y; refine (fun _ : Keeps s0 y => ?_) ?_
    extract_lets +onlyGivenNames y; refine (fun _ : Keeps s0 y => ?_) ?_; clear_value y; apply State.afterWriteback_keeps; assumption
    unfold y; apply Keeps.ite; apply State.pageHome_keeps; assumption; assumption; unfold y; apply State.programHome_keeps
    apply State.unpark_keeps; assumption; unfold y; refine Keeps.mk ?_ rfl rfl; assumption

theorem State.programFailed_keeps {s0 s : State} {loc : HomeLoc} {which : Nat} (h_s : Keeps s0 s) : Keeps s0
    (State.programFailed s loc which) := by
  unfold State.programFailed
  with_reducible
    apply State.retireBlock_keeps; apply State.log_keeps; apply State.nfErr_keeps; assumption

theorem State.allocSame_keeps {s0 s : State} {ch : Nat} (h_s : Keeps s0 s) : KOP s0 (State.allocSame s ch) := by
  unfold State.allocSame
  with_reducible
    extract_lets +onlyGivenNames _; split; clear_value *; split; exact KOP.none; extract_lets +onlyGivenNames _; split; exact KOP.none
    extract_lets +onlyGivenNames _; extract_lets +onlyGivenNames _; apply KOP.some; apply KP.mk; apply State.setBlock_keeps
    refine KP.of_eq (by assumption) ?_; apply State.fresh_keeps; assumption

theorem execNandProgramFail_keeps {s0 : State} {page : Nat} {s : State} (h_s : Keeps s0 s) : KR s0 (execNandProgramFail page s) := by
  unfold execNandProgramFail
  with_reducible
    apply KR.next; split; extract_lets +onlyGivenNames y; refine (fun _ : Keeps s0 y => ?_) ?_; clear_value y
    extract_lets +onlyGivenNames f397; apply Keeps.ite; unfold f397; extract_lets +onlyGivenNames _
    extract_lets +onlyGivenNames y; refine (fun _ : Keeps s0 y => ?_) ?_; extract_lets +onlyGivenNames _
    extract_lets +onlyGivenNames y; refine (fun _ : Keeps s0 y => ?_) ?_; clear_value y; split; apply Keeps.ite
    apply State.clearIntent_keeps; assumption; assumption; assumption; unfold y; apply Keeps.ite; apply State.setPage_keeps; assumption
    assumption; unfold y; refine Keeps.mk ?_ rfl rfl; assumption; split; extract_lets +onlyGivenNames _; refine Keeps.mk ?_ rfl rfl
    refine KOP.of_eq (by assumption) ?_; apply State.allocSame_keeps; assumption; unfold f397; extract_lets +onlyGivenNames _
    extract_lets +onlyGivenNames y; refine (fun _ : Keeps s0 y => ?_) ?_; extract_lets +onlyGivenNames _
    extract_lets +onlyGivenNames y; refine (fun _ : Keeps s0 y => ?_) ?_; clear_value y; split; apply Keeps.ite
    apply State.clearIntent_keeps; assumption; assumption; assumption; unfold y; apply Keeps.ite; apply State.setPage_keeps; assumption
    assumption; unfold y; refine Keeps.mk ?_ rfl rfl; assumption; unfold y; apply State.programFailed_keeps; assumption; split; split
    extract_lets +onlyGivenNames y; refine (fun _ : Keeps s0 y => ?_) ?_; clear_value y; extract_lets +onlyGivenNames _
    extract_lets +onlyGivenNames f393; apply Keeps.ite
    extract_lets +onlyGivenNames y; refine (fun _ : Keeps s0 y => ?_) ?_; clear_value y; refine Keeps.mk ?_ rfl rfl; assumption; unfold y
    unfold f393; refine Keeps.mk ?_ rfl rfl; assumption; split; extract_lets +onlyGivenNames _; refine Keeps.mk ?_ rfl rfl
    refine KOP.of_eq (by assumption) ?_; apply State.allocSame_keeps; assumption; unfold f393; refine Keeps.mk ?_ rfl rfl; assumption
    unfold y; apply State.programFailed_keeps; assumption; assumption; assumption

theorem execWriteThroughStart_keeps {s0 : State} {page : Nat} {s : State} (h_s : Keeps s0 s) : KR s0 (execWriteThroughStart page s) :=
    by
  unfold execWriteThroughStart
  with_reducible
    apply KR.next; extract_lets +onlyGivenNames _; split; assumption; apply Keeps.ite; assumption; split; assumption
    extract_lets +onlyGivenNames _; refine Keeps.mk ?_ rfl rfl; refine KOP.of_eq (by assumption) ?_; apply State.allocHome_keeps
    assumption

theorem State.throughDone_keeps {s0 s : State} {page : Nat} {t : WriteThrough} (h_s : Keeps s0 s) : Keeps s0
    (State.throughDone s page t) := by
  unfold State.throughDone
  with_reducible
    extract_lets +onlyGivenNames y; refine (fun _ : Keeps s0 y => ?_) ?_; clear_value y; extract_lets +onlyGivenNames _
    extract_lets +onlyGivenNames y; refine (fun _ : Keeps s0 y => ?_) ?_; clear_value y; extract_lets +onlyGivenNames _
    extract_lets +onlyGivenNames _; extract_lets +onlyGivenNames _
    extract_lets +onlyGivenNames y; refine (fun _ : Keeps s0 y => ?_) ?_; clear_value y
    extract_lets +onlyGivenNames y; refine (fun _ : Keeps s0 y => ?_) ?_; clear_value y
    extract_lets +onlyGivenNames y; refine (fun _ : Keeps s0 y => ?_) ?_; clear_value y; apply Keeps.ite; apply State.releaseOne_keeps
    assumption; assumption; unfold y; refine Keeps.foldl ?_ fun _ _ _ => ?_; assumption; apply State.finishWrite_keeps; assumption
    unfold y; apply State.addFld_keeps; assumption; unfold y; apply State.setPage_keeps; assumption; unfold y; refine Keeps.mk ?_ rfl rfl
    assumption; unfold y; apply State.pageHome_keeps; apply State.programHome_keeps; assumption

theorem execWriteThroughDone_keeps {s0 : State} {page : Nat} {s : State} (h_s : Keeps s0 s) : KR s0 (execWriteThroughDone page s) := by
  unfold execWriteThroughDone
  with_reducible
    apply KR.next; split; assumption; apply State.throughDone_keeps; assumption

theorem State.fillEnds_keeps {s0 s : State} {f : Fill} {content : Nat → Line} (h_s : Keeps s0 s) : Keeps s0 (State.fillEnds s f content)
    := by
  unfold State.fillEnds
  with_reducible
    extract_lets +onlyGivenNames _; extract_lets +onlyGivenNames _; extract_lets +onlyGivenNames _
    extract_lets +onlyGivenNames y; refine (fun _ : Keeps s0 y => ?_) ?_; clear_value y; extract_lets +onlyGivenNames _
    extract_lets +onlyGivenNames _; extract_lets +onlyGivenNames y; refine (fun _ : Keeps s0 y => ?_) ?_; clear_value y; apply Keeps.ite
    extract_lets +onlyGivenNames _; extract_lets +onlyGivenNames y; refine (fun _ : Keeps s0 y => ?_) ?_; clear_value y
    extract_lets +onlyGivenNames _; extract_lets +onlyGivenNames _; extract_lets +onlyGivenNames _; extract_lets +onlyGivenNames _
    extract_lets +onlyGivenNames y; refine (fun _ : Keeps s0 y => ?_) ?_; clear_value y; extract_lets +onlyGivenNames _
    refine Keeps.foldl ?_ fun _ _ _ => ?_; assumption; apply Keeps.ite; apply State.serveAgain_keeps; assumption
    apply State.deliver_keeps; assumption; unfold y; apply State.setPage_keeps; assumption; unfold y
    refine Keeps.foldl ?_ fun _ _ _ => ?_; assumption; apply Keeps.ite; assumption; apply State.setLine_keeps; assumption
    refine Keeps.foldl ?_ fun _ _ _ => ?_; assumption; apply State.deliver_keeps; assumption; unfold y; refine Keeps.mk ?_ rfl rfl
    assumption; unfold y; refine Keeps.mk ?_ rfl rfl; assumption

theorem State.fillFailed_keeps {s0 s : State} {f : Fill} {bad : List Nat} (h_s : Keeps s0 s) : Keeps s0 (State.fillFailed s f bad) := by
  unfold State.fillFailed
  with_reducible
    extract_lets +onlyGivenNames _; extract_lets +onlyGivenNames _; split; assumption; apply Keeps.ite; extract_lets +onlyGivenNames _
    extract_lets +onlyGivenNames y; refine (fun _ : Keeps s0 y => ?_) ?_; clear_value y; refine Keeps.foldl ?_ fun _ _ _ => ?_; assumption
    apply State.twinRead_keeps; assumption; unfold y; refine Keeps.mk ?_ rfl rfl; assumption; extract_lets +onlyGivenNames _
    extract_lets +onlyGivenNames _; extract_lets +onlyGivenNames y; refine (fun _ : Keeps s0 y => ?_) ?_; clear_value y
    apply State.markDamaged_keeps; apply State.log_keeps; assumption; unfold y; apply State.fillEnds_keeps; assumption

theorem execFillDone_keeps {s0 : State} {page : Nat} {bad : List Nat} {s : State} (h_s : Keeps s0 s) : KR s0 (execFillDone page bad s)
    := by
  unfold execFillDone
  with_reducible
    apply KR.next; split; assumption; apply Keeps.ite; assumption
    extract_lets +onlyGivenNames y; refine (fun _ : Keeps s0 y => ?_) ?_; clear_value y; extract_lets +onlyGivenNames _
    extract_lets +onlyGivenNames _; apply Keeps.ite; apply State.fillFailed_keeps; assumption; apply Keeps.ite; apply State.fillEnds_keeps
    assumption; split; extract_lets +onlyGivenNames y; refine (fun _ : Keeps s0 y => ?_) ?_; clear_value y; apply State.fillFailed_keeps
    assumption; unfold y; refine Keeps.foldl ?_ fun _ _ _ => ?_; assumption; apply State.log_keeps; assumption
    apply State.fillFailed_keeps; assumption; unfold y; apply State.unpark_keeps; assumption

theorem State.ladderFails_keeps {s0 s : State} {f : Fill} (h_s : Keeps s0 s) : Keeps s0 (State.ladderFails s f) := by
  unfold State.ladderFails
  with_reducible
    extract_lets +onlyGivenNames y; refine (fun _ : Keeps s0 y => ?_) ?_; clear_value y; apply State.fillFailed_keeps; assumption
    unfold y; split; apply State.log_keeps; apply State.nfErr_keeps; apply State.bump_keeps; assumption; assumption

theorem State.startStep_keeps {s0 s : State} {f : Fill} {k : Nat} (h_s : Keeps s0 s) : Keeps s0 (State.startStep s f k) := by
  unfold State.startStep
  with_reducible
    extract_lets +onlyGivenNames _; extract_lets +onlyGivenNames _
    extract_lets +onlyGivenNames y; refine (fun _ : Keeps s0 y => ?_) ?_; clear_value y; split
    extract_lets +onlyGivenNames y; refine (fun _ : Keeps s0 y => ?_) ?_; clear_value y; apply Keeps.ite; apply State.logLim_keeps
    apply State.bump_keeps; assumption; assumption; unfold y; apply State.bump_keeps; assumption; assumption; unfold y
    refine Keeps.mk ?_ rfl rfl; assumption

theorem execReadStepDone_keeps {s0 : State} {page : Nat} {pass : Bool} {best : Fin 11} {bus : BusUse} {s : State} (h_s : Keeps s0 s) :
    KR s0 (execReadStepDone page pass best bus s) := by
  unfold execReadStepDone
  with_reducible
    apply KR.next; split; assumption; extract_lets +onlyGivenNames y; refine (fun _ : Keeps s0 y => ?_) ?_; clear_value y
    extract_lets +onlyGivenNames f396; apply Keeps.ite; split; extract_lets +onlyGivenNames _; extract_lets +onlyGivenNames _
    apply State.setBlock_keeps; assumption; assumption; apply Keeps.ite; apply State.ladderFails_keeps; assumption; apply Keeps.ite
    unfold f396; extract_lets +onlyGivenNames y; refine (fun _ : Keeps s0 y => ?_) ?_; clear_value y; split; apply KP.snd
    apply State.park_keeps; assumption; assumption; unfold y; apply State.startStep_keeps; assumption; extract_lets +onlyGivenNames _
    split; unfold f396; extract_lets +onlyGivenNames y; refine (fun _ : Keeps s0 y => ?_) ?_; clear_value y; split; apply KP.snd
    apply State.park_keeps; assumption; assumption; unfold y; apply State.startStep_keeps; assumption; apply State.ladderFails_keeps
    assumption; unfold y; apply State.unpark_keeps; assumption

theorem execReadLadderCutoff_keeps {s0 : State} {page : Nat} {s : State} (h_s : Keeps s0 s) : KR s0 (execReadLadderCutoff page s) := by
  unfold execReadLadderCutoff
  with_reducible
    apply KR.next; split; assumption; apply Keeps.ite; apply State.ladderFails_keeps; assumption; refine Keeps.mk ?_ rfl rfl; assumption

theorem execBackgroundRefill_keeps {s0 : State} {page : Nat} {bad : List Nat} {s : State} (h_s : Keeps s0 s) : KR s0
    (execBackgroundRefill page bad s) := by
  unfold execBackgroundRefill
  with_reducible
    apply KR.next; split; assumption; apply Keeps.ite; assumption
    extract_lets +onlyGivenNames y; refine (fun _ : Keeps s0 y => ?_) ?_; clear_value y; extract_lets +onlyGivenNames _
    extract_lets +onlyGivenNames y; refine (fun _ : Keeps s0 y => ?_) ?_; clear_value y; apply Keeps.ite; assumption
    apply State.commit_keeps; assumption; unfold y; split; apply Keeps.ite; apply State.fillEnds_keeps; assumption
    apply State.fillFailed_keeps; assumption; assumption; unfold y; apply Keeps.ite; apply State.startFill_keeps; assumption; assumption

theorem execImageMoveHome_keeps {s0 : State} {image : Bool} {page : Nat} {s : State} (h_s : Keeps s0 s) : KR s0
    (execImageMoveHome image page s) := by
  unfold execImageMoveHome
  with_reducible
    apply KR.next; extract_lets +onlyGivenNames _; extract_lets +onlyGivenNames _; apply Keeps.ite; assumption; apply Keeps.ite
    apply State.freeImages_keeps; apply State.dropFromImages_keeps; assumption; apply Keeps.ite; apply State.startWriteback_keeps
    assumption; split; assumption; apply State.pageHome_keeps; apply State.programHome_keeps; refine KOP.of_eq (by assumption) ?_
    apply State.allocHome_keeps; assumption

theorem execRgnCommit_keeps {s0 s : State} (h_s : Keeps s0 s) : KR s0 (execRgnCommit s) := by
  unfold execRgnCommit
  with_reducible
    apply KR.next; apply Keeps.ite; assumption; split; assumption; extract_lets +onlyGivenNames _; extract_lets +onlyGivenNames _
    extract_lets +onlyGivenNames _; extract_lets +onlyGivenNames y; refine (fun _ : Keeps s0 y => ?_) ?_; clear_value y
    extract_lets +onlyGivenNames y; refine (fun _ : Keeps s0 y => ?_) ?_; clear_value y; apply Keeps.ite; apply State.retryShares_keeps
    apply State.finishDestroy_keeps; assumption; assumption; unfold y; apply State.commitEdge_keeps; assumption; unfold y
    refine Keeps.mk ?_ rfl rfl; assumption

theorem execEpochDrainDone_keeps {s0 s : State} (h_s : Keeps s0 s) : KR s0 (execEpochDrainDone s) := by
  unfold execEpochDrainDone
  with_reducible
    apply KR.next; apply Keeps.ite; extract_lets +onlyGivenNames _
    extract_lets +onlyGivenNames y; refine (fun _ : Keeps s0 y => ?_) ?_; clear_value y
    extract_lets +onlyGivenNames y; refine (fun _ : Keeps s0 y => ?_) ?_; clear_value y; split; assumption; apply State.commitEdge_keeps
    refine Keeps.mk ?_ rfl rfl; assumption; unfold y; refine Keeps.foldl ?_ fun _ _ _ => ?_; assumption; apply State.retryShares_keeps
    apply State.finishDestroy_keeps; assumption; unfold y; refine Keeps.mk ?_ rfl rfl; assumption; assumption

end Sys2Proof.Laws
end

