-- ==== Sys2Proof/Laws/KeepsModes.lean ====
section
/-!
SUPPORT. What the operations and commands of power, modes, saves, plans and sleep keep (`Keeps`).
-/
namespace Sys2Proof.Laws

open Machine Safety

set_option Elab.async false

theorem State.raiseRail_keeps {s0 s : State} {k : Nat} (h_s : Keeps s0 s) : Keeps s0 (State.raiseRail s k) := by
  unfold State.raiseRail
  with_reducible
    split; extract_lets +onlyGivenNames _; refine Keeps.mk ?_ rfl rfl; assumption; refine Keeps.mk ?_ rfl rfl; assumption

theorem State.answerMode_keeps {s0 s : State} {ask : ModeAsk} {st : Status} (h_s : Keeps s0 s) : Keeps s0 (State.answerMode s ask st) :=
    by
  unfold State.answerMode
  with_reducible
    extract_lets +onlyGivenNames _; extract_lets +onlyGivenNames y; refine (fun _ : Keeps s0 y => ?_) ?_; clear_value y; split
    apply State.emit_keeps; assumption; apply State.emit_keeps; assumption; assumption; unfold y; refine Keeps.mk ?_ rfl rfl; assumption

theorem State.startSequence_keeps {s0 s : State} (h_s : Keeps s0 s) : Keeps s0 (State.startSequence s) := by
  unfold State.startSequence
  with_reducible
    extract_lets +onlyGivenNames y; refine (fun _ : Keeps s0 y => ?_) ?_; clear_value y; apply State.raiseRail_keeps
    refine Keeps.mk ?_ rfl rfl; assumption; unfold y; split; apply State.answerMode_keeps; assumption; assumption

theorem State.abandonSequence_keeps {s0 s : State} (h_s : Keeps s0 s) : Keeps s0 (State.abandonSequence s) := by
  unfold State.abandonSequence
  with_reducible
    apply Keeps.ite; extract_lets +onlyGivenNames _; refine Keeps.mk ?_ rfl rfl; assumption; assumption

theorem State.wake_keeps {s0 s : State} {w : PendingWake} (h_s : Keeps s0 s) : Keeps s0 (State.wake s w) := by
  unfold State.wake
  with_reducible
    apply Keeps.ite; assumption; apply Keeps.ite; apply State.startSequence_keeps; assumption; refine Keeps.mk ?_ rfl rfl; assumption

theorem State.powerDown_keeps {s0 s : State} {from_ : Mode} (h_s : Keeps s0 s) : Keeps s0 (State.powerDown s from_) := by
  unfold State.powerDown
  with_reducible
    extract_lets +onlyGivenNames _; extract_lets +onlyGivenNames _; refine Keeps.mk ?_ rfl rfl; assumption

theorem State.resetPlane_keeps {s0 s : State} (h_s : Keeps s0 s) : Keeps s0 (State.resetPlane s) := by
  unfold State.resetPlane
  with_reducible
    extract_lets +onlyGivenNames _; extract_lets +onlyGivenNames _; extract_lets +onlyGivenNames _; extract_lets +onlyGivenNames _
    extract_lets +onlyGivenNames _; extract_lets +onlyGivenNames _; extract_lets +onlyGivenNames _; extract_lets +onlyGivenNames _
    extract_lets +onlyGivenNames _; extract_lets +onlyGivenNames _; extract_lets +onlyGivenNames _; extract_lets +onlyGivenNames _
    extract_lets +onlyGivenNames _; extract_lets +onlyGivenNames _
    extract_lets +onlyGivenNames y; refine (fun _ : Keeps s0 y => ?_) ?_; clear_value y; apply Keeps.ite; apply State.lockStore_keeps
    assumption; assumption; unfold y; refine Keeps.mk' ?_ ?_ ?_; assumption; intro _; assumption; intro _; with_unfolding_all rfl

theorem State.forgetRequesters_keeps {s0 s : State} (h_s : Keeps s0 s) : Keeps s0 (State.forgetRequesters s) := by
  unfold State.forgetRequesters
  with_reducible
    extract_lets +onlyGivenNames _; extract_lets +onlyGivenNames _; extract_lets +onlyGivenNames _; refine Keeps.mk ?_ rfl rfl; assumption

theorem State.lineRecord_keeps {s0 s : State} {l : Nat} {x : Line} (h_s : Keeps s0 s) : Keeps s0 (State.lineRecord s l x) := by
  unfold State.lineRecord
  with_reducible
    extract_lets +onlyGivenNames _; apply State.setImage_keeps; assumption

theorem State.landForSave_keeps {s0 s : State} {stalled : Bool} {w : AdmWrite} (h_s : Keeps s0 s) : Keeps s0
    (State.landForSave s stalled w) := by
  unfold State.landForSave
  with_reducible
    split; assumption; extract_lets +onlyGivenNames _; extract_lets +onlyGivenNames _
    extract_lets +onlyGivenNames y; refine (fun _ : Keeps s0 y => ?_) ?_; clear_value y; apply Keeps.ite; apply Keeps.ite
    apply State.lineRecord_keeps; assumption; assumption; split; apply State.rotateLine_keeps; apply State.writeDram_keeps
    refine KP.of_eq (by assumption) ?_; apply State.landPage_keeps; assumption; unfold y; apply Keeps.ite; apply State.setDirty_keeps
    assumption; assumption

theorem State.landBuffers_keeps {s0 s : State} (h_s : Keeps s0 s) : Keeps s0 (State.landBuffers s) := by
  unfold State.landBuffers
  with_reducible
    extract_lets +onlyGivenNames _; extract_lets +onlyGivenNames y; refine (fun _ : Keeps s0 y => ?_) ?_; clear_value y
    extract_lets +onlyGivenNames y; refine (fun _ : Keeps s0 y => ?_) ?_; clear_value y; extract_lets +onlyGivenNames _
    extract_lets +onlyGivenNames _; extract_lets +onlyGivenNames y; refine (fun _ : Keeps s0 y => ?_) ?_; clear_value y
    refine Keeps.mk ?_ rfl rfl; assumption; unfold y; refine Keeps.foldl ?_ fun _ _ _ => ?_; assumption; extract_lets +onlyGivenNames _
    extract_lets +onlyGivenNames y; refine (fun _ : Keeps s0 y => ?_) ?_; clear_value y; apply State.setPage_keeps; assumption; unfold y
    apply Keeps.ite; refine Keeps.foldl ?_ fun _ _ _ => ?_; assumption; apply Keeps.ite; apply State.lineRecord_keeps; assumption
    assumption; assumption; unfold y; refine Keeps.foldl ?_ fun _ _ _ => ?_; assumption; apply Keeps.ite; apply State.lineRecord_keeps
    assumption; apply State.setLine_keeps; assumption; unfold y; refine Keeps.foldl ?_ fun _ _ _ => ?_; assumption
    apply State.setCh_keeps; assumption

theorem State.dropPackTests_keeps {s0 s : State} (h_s : Keeps s0 s) : Keeps s0 (State.dropPackTests s) := by
  unfold State.dropPackTests
  with_reducible
    extract_lets +onlyGivenNames f400; refine Keeps.foldl ?_ fun _ _ _ => ?_; assumption; unfold f400; apply Keeps.ite
    extract_lets +onlyGivenNames _; extract_lets +onlyGivenNames _; extract_lets +onlyGivenNames _
    extract_lets +onlyGivenNames y; refine (fun _ : Keeps s0 y => ?_) ?_; clear_value y; apply State.log_keeps
    apply State.sensorChange_keeps; apply State.log_keeps; assumption; unfold y; refine Keeps.mk ?_ rfl rfl; assumption; assumption

theorem State.startSave_keeps {s0 s : State} {t : Trigger} (h_s : Keeps s0 s) : Keeps s0 (State.startSave s t) := by
  unfold State.startSave
  with_reducible
    extract_lets +onlyGivenNames _; extract_lets +onlyGivenNames _; extract_lets +onlyGivenNames _
    extract_lets +onlyGivenNames y; refine (fun _ : Keeps s0 y => ?_) ?_; clear_value y
    extract_lets +onlyGivenNames y; refine (fun _ : Keeps s0 y => ?_) ?_; clear_value y; extract_lets +onlyGivenNames _
    extract_lets +onlyGivenNames _; extract_lets +onlyGivenNames _; extract_lets +onlyGivenNames _; extract_lets +onlyGivenNames _
    extract_lets +onlyGivenNames _; extract_lets +onlyGivenNames _
    extract_lets +onlyGivenNames y; refine (fun _ : Keeps s0 y => ?_) ?_; clear_value y
    extract_lets +onlyGivenNames y; refine (fun _ : Keeps s0 y => ?_) ?_; clear_value y
    extract_lets +onlyGivenNames y; refine (fun _ : Keeps s0 y => ?_) ?_; clear_value y
    extract_lets +onlyGivenNames y; refine (fun _ : Keeps s0 y => ?_) ?_; clear_value y; extract_lets +onlyGivenNames f384
    extract_lets +onlyGivenNames y; refine (fun _ : Keeps s0 y => ?_) ?_; clear_value y; extract_lets +onlyGivenNames _
    extract_lets +onlyGivenNames _; extract_lets +onlyGivenNames _; extract_lets +onlyGivenNames _; extract_lets +onlyGivenNames _
    extract_lets +onlyGivenNames _; extract_lets +onlyGivenNames y; refine (fun _ : Keeps s0 y => ?_) ?_; clear_value y
    extract_lets +onlyGivenNames y; refine (fun _ : Keeps s0 y => ?_) ?_; clear_value y
    extract_lets +onlyGivenNames y; refine (fun _ : Keeps s0 y => ?_) ?_; clear_value y
    extract_lets +onlyGivenNames y; refine (fun _ : Keeps s0 y => ?_) ?_; clear_value y
    extract_lets +onlyGivenNames y; refine (fun _ : Keeps s0 y => ?_) ?_; clear_value y; refine Keeps.mk ?_ rfl rfl; assumption; unfold y
    apply State.landBuffers_keeps; assumption; unfold y; refine Keeps.foldl ?_ fun _ _ _ => ?_; assumption; apply State.landForSave_keeps
    assumption; unfold y; refine Keeps.foldl ?_ fun _ _ _ => ?_; assumption; apply State.landForSave_keeps; assumption; unfold y
    refine Keeps.foldl ?_ fun _ _ _ => ?_; assumption; apply State.landForSave_keeps; assumption; unfold y; refine Keeps.mk ?_ rfl rfl
    assumption; unfold y; refine Keeps.foldl ?_ fun _ _ _ => ?_; assumption; unfold f384; extract_lets +onlyGivenNames _; split
    apply State.setCh_keeps; assumption; apply State.setCh_keeps; assumption; apply State.setCh_keeps; assumption; assumption; unfold y
    apply State.dropPackTests_keeps; apply State.forgetRequesters_keeps; assumption; unfold y; apply State.log_keeps; assumption; unfold y
    apply State.setImage_keeps; assumption; unfold y; refine Keeps.mk ?_ rfl rfl; assumption; unfold y; apply State.setMode_keeps
    assumption; unfold y; refine Keeps.mk ?_ rfl rfl; assumption

theorem State.cutFlush_keeps {s0 s : State} (h_s : Keeps s0 s) : Keeps s0 (State.cutFlush s) := by
  unfold State.cutFlush
  with_reducible
    apply Keeps.ite; assumption; extract_lets +onlyGivenNames y; refine (fun _ : Keeps s0 y => ?_) ?_; clear_value y
    extract_lets +onlyGivenNames _; extract_lets +onlyGivenNames _
    extract_lets +onlyGivenNames y; refine (fun _ : Keeps s0 y => ?_) ?_; clear_value y; refine Keeps.mk ?_ rfl rfl; assumption; unfold y
    apply Keeps.ite; apply State.setImage_keeps; assumption; assumption; unfold y; apply State.leaveUp_keeps; assumption

theorem State.putFlash_keeps {s0 s : State} {k : Nat} {w : FlashWord} (h_s : Keeps s0 s) : Keeps s0 (State.putFlash s k w) := by
  unfold State.putFlash
  with_reducible
    refine Keeps.mk ?_ rfl rfl; assumption

theorem State.eraseRange_keeps {s0 s : State} {off bytes : Nat} (h_s : Keeps s0 s) : Keeps s0 (State.eraseRange s off bytes) := by
  unfold State.eraseRange
  with_reducible
    refine Keeps.mk ?_ rfl rfl; assumption

theorem State.mark_keeps {s0 s : State} {off n : Nat} {on : Bool} (h_s : Keeps s0 s) : Keeps s0 (State.mark s off n on) := by
  unfold State.mark
  with_reducible
    extract_lets +onlyGivenNames _; refine Keeps.mk ?_ rfl rfl; assumption

theorem State.completeErases_keeps {s0 s : State} (h_s : Keeps s0 s) : Keeps s0 (State.completeErases s) := by
  unfold State.completeErases
  with_reducible
    refine Keeps.foldl ?_ fun _ _ _ => ?_; assumption; apply State.log_keeps; apply State.mark_keeps; apply State.eraseRange_keeps
    assumption

theorem State.tearFlash_keeps {s0 s : State} (h_s : Keeps s0 s) : Keeps s0 (State.tearFlash s) := by
  unfold State.tearFlash
  with_reducible
    extract_lets +onlyGivenNames y; refine (fun _ : Keeps s0 y => ?_) ?_; clear_value y; refine Keeps.mk ?_ rfl rfl; assumption; unfold y
    refine Keeps.foldl ?_ fun _ _ _ => ?_; assumption; apply Keeps.ite; assumption; refine Keeps.foldl ?_ fun _ _ _ => ?_; assumption
    apply State.putFlash_keeps; assumption

theorem State.applyStaged_keeps {s0 s : State} (h_s : Keeps s0 s) : Keeps s0 (State.applyStaged s) := by
  unfold State.applyStaged
  with_reducible
    extract_lets +onlyGivenNames y; refine (fun _ : Keeps s0 y => ?_) ?_; clear_value y; refine Keeps.mk ?_ rfl rfl; assumption; unfold y
    refine Keeps.foldl ?_ fun _ _ _ => ?_; assumption; apply Keeps.ite; apply State.eraseRange_keeps; assumption
    refine Keeps.foldl ?_ fun _ _ _ => ?_; assumption; split; apply State.putFlash_keeps; assumption; assumption

theorem State.portWrite_keeps {s0 s : State} {sess : Bool} {data : BitVec 256} (h_s : Keeps s0 s) : KP s0 (State.portWrite s sess data)
    := by
  unfold State.portWrite
  with_reducible
    apply KP.ite; apply KP.mk; assumption; extract_lets +onlyGivenNames _
    extract_lets +onlyGivenNames y; refine (fun _ : Keeps s0 y => ?_) ?_; clear_value y; split; apply KP.mk; apply State.putFlash_keeps
    assumption; apply KP.mk; assumption; unfold y; apply Keeps.ite; apply State.eraseRange_keeps; assumption; assumption

theorem State.setSlot_keeps {s0 s : State} {k : Nat} {x : FlashSlot} (h_s : Keeps s0 s) : Keeps s0 (State.setSlot s k x) := by
  unfold State.setSlot
  with_reducible
    apply Keeps.ite; refine Keeps.mk ?_ rfl rfl; assumption; refine Keeps.mk ?_ rfl rfl; assumption

theorem State.setSlotState_keeps {s0 s : State} {k st : Nat} (h_s : Keeps s0 s) : Keeps s0 (State.setSlotState s k st) := by
  unfold State.setSlotState
  with_reducible
    apply State.setSlot_keeps; assumption

theorem State.setSess_keeps {s0 s : State} {x : Session} (h_s : Keeps s0 s) : Keeps s0 (State.setSess s x) := by
  unfold State.setSess
  with_reducible
    refine Keeps.mk ?_ rfl rfl; assumption

theorem State.sessRecord_keeps {s0 s : State} {kind arg0 arg1 : Nat} (h_s : Keeps s0 s) : Keeps s0 (State.sessRecord s kind arg0 arg1)
    := by
  unfold State.sessRecord
  with_reducible
    extract_lets +onlyGivenNames _; extract_lets +onlyGivenNames _
    extract_lets +onlyGivenNames y; refine (fun _ : Keeps s0 y => ?_) ?_; clear_value y; split; refine KP.of_eq (by assumption) ?_
    apply State.portWrite_keeps; assumption; refine Keeps.mk ?_ rfl rfl; refine KP.of_eq (by assumption) ?_; apply State.portWrite_keeps
    assumption; unfold y; apply State.setSess_keeps; assumption

theorem State.endSession_keeps {s0 s : State} {how : Nat} (h_s : Keeps s0 s) : Keeps s0 (State.endSession s how) := by
  unfold State.endSession
  with_reducible
    extract_lets +onlyGivenNames _; apply State.log_keeps; apply State.setSess_keeps; assumption

theorem State.openSession_keeps {s0 s : State} (h_s : Keeps s0 s) : Keeps s0 (State.openSession s) := by
  unfold State.openSession
  with_reducible
    extract_lets +onlyGivenNames _; extract_lets +onlyGivenNames y; refine (fun _ : Keeps s0 y => ?_) ?_; clear_value y
    apply State.log_keeps; apply State.sessRecord_keeps; assumption; unfold y; apply State.setSlot_keeps; apply State.setSess_keeps
    assumption

theorem State.writeBlock_keeps {s0 s : State} {k : Nat} {x2 : List (BitVec 256)} (h_s : Keeps s0 s) : KP s0 (State.writeBlock s k x2) :=
    by
  unfold State.writeBlock
  with_reducible
    split; apply KP.mk; assumption; split; apply State.writeBlock_keeps; apply State.putFlash_keeps; assumption; apply KP.ite
    apply State.writeBlock_keeps; assumption; apply KP.mk; assumption

theorem State.takeBlock_keeps {s0 s : State} {off : Nat} {bs : List Byte} (h_s : Keeps s0 s) : KP s0 (State.takeBlock s off bs) := by
  unfold State.takeBlock
  with_reducible
    extract_lets +onlyGivenNames _; extract_lets +onlyGivenNames _; apply KP.ite; apply KP.mk; assumption; apply KP.ite; apply KP.mk
    assumption; split; extract_lets +onlyGivenNames _; extract_lets +onlyGivenNames _; apply KP.mk; apply State.setSess_keeps
    refine KP.of_eq (by assumption) ?_; apply State.writeBlock_keeps; assumption

theorem State.askSession_keeps {s0 s : State} {source len : Nat} (h_s : Keeps s0 s) : KP s0 (State.askSession s source len) := by
  unfold State.askSession
  with_reducible
    extract_lets +onlyGivenNames _; apply KP.ite; apply KP.mk; assumption; apply KP.ite; apply KP.mk; apply State.log_keeps; assumption
    extract_lets +onlyGivenNames _; extract_lets +onlyGivenNames _
    extract_lets +onlyGivenNames y; refine (fun _ : Keeps s0 y => ?_) ?_; clear_value y; apply KP.ite; apply KP.mk
    apply State.openSession_keeps; assumption; extract_lets +onlyGivenNames _
    extract_lets +onlyGivenNames y; refine (fun _ : Keeps s0 y => ?_) ?_; clear_value y; apply KP.mk; refine Keeps.mk ?_ rfl rfl
    assumption; unfold y; apply State.setSlot_keeps; apply State.mark_keeps; assumption; unfold y; apply State.setSess_keeps; assumption

theorem State.sourceBlock_keeps {s0 s : State} {source off : Nat} {bs : List Byte} (h_s : Keeps s0 s) : KP s0
    (State.sourceBlock s source off bs) := by
  unfold State.sourceBlock
  with_reducible
    extract_lets +onlyGivenNames _; split; apply KP.ite; apply KP.mk; assumption; split; apply State.takeBlock_keeps
    refine KP.of_eq (by assumption) ?_; apply State.askSession_keeps; assumption; apply KP.mk; refine KP.of_eq (by assumption) ?_
    apply State.askSession_keeps; assumption; apply KP.ite; apply State.takeBlock_keeps; assumption; apply KP.mk; assumption; apply KP.mk
    assumption; apply KP.ite; apply KP.mk; assumption; apply KP.mk; assumption

theorem State.endTransfer_keeps {s0 s : State} {source : Nat} (h_s : Keeps s0 s) : KP s0 (State.endTransfer s source) := by
  unfold State.endTransfer
  with_reducible
    extract_lets +onlyGivenNames _; apply KP.ite; apply KP.mk; apply State.setSess_keeps; assumption; apply KP.ite; apply KP.mk
    assumption; apply KP.mk; assumption

theorem State.askData_keeps {s0 s : State} (h_s : Keeps s0 s) : Keeps s0 (State.askData s) := by
  unfold State.askData
  with_reducible
    extract_lets +onlyGivenNames _; apply Keeps.ite; assumption; apply Keeps.ite; apply State.emit_keeps; apply KP.snd
    apply State.endTransfer_keeps; assumption; apply State.emit_keeps; assumption

theorem State.abortSession_keeps {s0 s : State} {how : Nat} (h_s : Keeps s0 s) : Keeps s0 (State.abortSession s how) := by
  unfold State.abortSession
  with_reducible
    apply State.endSession_keeps; apply State.sessRecord_keeps; assumption

theorem State.tellMembers_keeps {s0 s : State} {ms ws : List Nat} (h_s : Keeps s0 s) : Keeps s0 (State.tellMembers s ms ws) := by
  unfold State.tellMembers
  with_reducible
    refine Keeps.foldl ?_ fun _ _ _ => ?_; assumption; apply Keeps.ite; apply Keeps.ite; apply State.queueCtrl_keeps; assumption
    assumption; apply State.emit_keeps; assumption

theorem State.actRefused_keeps {s0 s : State} {member reason : Nat} (h_s : Keeps s0 s) : Keeps s0 (State.actRefused s member reason) :=
    by
  unfold State.actRefused
  with_reducible
    extract_lets +onlyGivenNames _; extract_lets +onlyGivenNames y; refine (fun _ : Keeps s0 y => ?_) ?_; clear_value y
    apply State.log_keeps; assumption; unfold y; apply State.setSess_keeps; assumption

theorem State.startTrial_keeps {s0 s : State} {cause : Nat} (h_s : Keeps s0 s) : Keeps s0 (State.startTrial s cause) := by
  unfold State.startTrial
  with_reducible
    extract_lets +onlyGivenNames _; extract_lets +onlyGivenNames _
    extract_lets +onlyGivenNames y; refine (fun _ : Keeps s0 y => ?_) ?_; clear_value y; extract_lets +onlyGivenNames _
    extract_lets +onlyGivenNames y; refine (fun _ : Keeps s0 y => ?_) ?_; clear_value y; apply State.log_keeps
    apply State.sessRecord_keeps; assumption; unfold y; refine Keeps.mk ?_ rfl rfl; assumption; unfold y; apply State.setSlotState_keeps
    apply State.setSess_keeps; assumption

theorem State.revert_keeps {s0 s : State} {cause : Nat} (h_s : Keeps s0 s) : Keeps s0 (State.revert s cause) := by
  unfold State.revert
  with_reducible
    extract_lets +onlyGivenNames _; extract_lets +onlyGivenNames y; refine (fun _ : Keeps s0 y => ?_) ?_; clear_value y
    extract_lets +onlyGivenNames y; refine (fun _ : Keeps s0 y => ?_) ?_; clear_value y
    extract_lets +onlyGivenNames y; refine (fun _ : Keeps s0 y => ?_) ?_; clear_value y; apply State.setSess_keeps; assumption; unfold y
    apply State.tellMembers_keeps; assumption; unfold y; apply State.log_keeps; assumption; unfold y; apply State.setSlotState_keeps
    apply State.sessRecord_keeps; assumption

theorem State.confirm_keeps {s0 s : State} (h_s : Keeps s0 s) : Keeps s0 (State.confirm s) := by
  unfold State.confirm
  with_reducible
    extract_lets +onlyGivenNames _; extract_lets +onlyGivenNames y; refine (fun _ : Keeps s0 y => ?_) ?_; clear_value y
    extract_lets +onlyGivenNames _; extract_lets +onlyGivenNames y; refine (fun _ : Keeps s0 y => ?_) ?_; clear_value y
    extract_lets +onlyGivenNames _; extract_lets +onlyGivenNames y; refine (fun _ : Keeps s0 y => ?_) ?_; clear_value y
    extract_lets +onlyGivenNames y; refine (fun _ : Keeps s0 y => ?_) ?_; clear_value y
    extract_lets +onlyGivenNames y; refine (fun _ : Keeps s0 y => ?_) ?_; clear_value y; apply State.endSession_keeps; assumption
    unfold y; apply State.tellMembers_keeps; assumption; unfold y; apply State.log_keeps; assumption; unfold y; refine Keeps.mk ?_ rfl rfl
    assumption; unfold y; apply State.setSlotState_keeps; apply State.setSlotState_keeps; assumption; unfold y
    apply State.sessRecord_keeps; assumption

theorem State.countStart_keeps {s0 s : State} (h_s : Keeps s0 s) : Keeps s0 (State.countStart s) := by
  unfold State.countStart
  with_reducible
    extract_lets +onlyGivenNames _; apply Keeps.ite; apply State.setSlot_keeps; assumption; assumption

theorem State.sigFail_keeps {s0 s : State} {slot : Nat} {check : Option Nat} (h_s : Keeps s0 s) : Keeps s0 (State.sigFail s slot check)
    := by
  unfold State.sigFail
  with_reducible
    extract_lets +onlyGivenNames f400; split; unfold f400; apply State.log_keeps; assumption; unfold f400; apply State.log_keeps
    assumption; unfold f400; apply State.log_keeps; assumption; assumption

theorem State.selectImage_keeps {s0 s : State} {badA badB : Option Nat} {cause : Nat} (h_s : Keeps s0 s) : KP s0
    (State.selectImage s badA badB cause) := by
  unfold State.selectImage
  with_reducible
    extract_lets +onlyGivenNames _; extract_lets +onlyGivenNames _; extract_lets +onlyGivenNames _; extract_lets +onlyGivenNames f397
    extract_lets +onlyGivenNames f396; extract_lets +onlyGivenNames f395; apply KP.ite; apply KP.ite
    extract_lets +onlyGivenNames y; refine (fun _ : Keeps s0 y => ?_) ?_; clear_value y; apply KP.mk; apply State.startTrial_keeps
    assumption; unfold y; apply Keeps.ite; apply State.setSess_keeps; assumption; assumption; extract_lets +onlyGivenNames _
    extract_lets +onlyGivenNames y; refine (fun _ : Keeps s0 y => ?_) ?_; clear_value y
    extract_lets +onlyGivenNames y; refine (fun _ : Keeps s0 y => ?_) ?_; clear_value y; unfold f395; extract_lets +onlyGivenNames _
    apply KP.ite; unfold f397; apply KP.mk; extract_lets +onlyGivenNames y; refine (fun _ : Keeps s0 y => ?_) ?_; clear_value y
    refine Keeps.mk ?_ rfl rfl; assumption; unfold y; apply State.setSlotState_keeps; assumption
    extract_lets +onlyGivenNames y; refine (fun _ : Keeps s0 y => ?_) ?_; clear_value y; apply KP.ite; unfold f396; apply KP.mk
    refine Keeps.mk ?_ rfl rfl; assumption; apply KP.ite; unfold f397; apply KP.mk
    extract_lets +onlyGivenNames y; refine (fun _ : Keeps s0 y => ?_) ?_; clear_value y; refine Keeps.mk ?_ rfl rfl; assumption; unfold y
    apply State.setSlotState_keeps; assumption; unfold f396; apply KP.mk; refine Keeps.mk ?_ rfl rfl; apply State.sigFail_keeps
    assumption; unfold y; apply State.sigFail_keeps; assumption; unfold y; apply State.endSession_keeps; apply State.revert_keeps
    assumption; unfold y; apply Keeps.ite; assumption; apply State.sigFail_keeps; assumption; apply KP.ite; unfold f395
    extract_lets +onlyGivenNames _; apply KP.ite; unfold f397; apply KP.mk
    extract_lets +onlyGivenNames y; refine (fun _ : Keeps s0 y => ?_) ?_; clear_value y; refine Keeps.mk ?_ rfl rfl; assumption; unfold y
    apply State.setSlotState_keeps; apply State.endSession_keeps; assumption
    extract_lets +onlyGivenNames y; refine (fun _ : Keeps s0 y => ?_) ?_; clear_value y; apply KP.ite; unfold f396; apply KP.mk
    refine Keeps.mk ?_ rfl rfl; assumption; apply KP.ite; unfold f397; apply KP.mk
    extract_lets +onlyGivenNames y; refine (fun _ : Keeps s0 y => ?_) ?_; clear_value y; refine Keeps.mk ?_ rfl rfl; assumption; unfold y
    apply State.setSlotState_keeps; assumption; unfold f396; apply KP.mk; refine Keeps.mk ?_ rfl rfl; apply State.sigFail_keeps
    assumption; unfold y; apply State.sigFail_keeps; apply State.endSession_keeps; assumption; unfold f395; extract_lets +onlyGivenNames _
    apply KP.ite; unfold f397; apply KP.mk; extract_lets +onlyGivenNames y; refine (fun _ : Keeps s0 y => ?_) ?_; clear_value y
    refine Keeps.mk ?_ rfl rfl; assumption; unfold y; apply State.setSlotState_keeps; assumption
    extract_lets +onlyGivenNames y; refine (fun _ : Keeps s0 y => ?_) ?_; clear_value y; apply KP.ite; unfold f396; apply KP.mk
    refine Keeps.mk ?_ rfl rfl; assumption; apply KP.ite; unfold f397; apply KP.mk
    extract_lets +onlyGivenNames y; refine (fun _ : Keeps s0 y => ?_) ?_; clear_value y; refine Keeps.mk ?_ rfl rfl; assumption; unfold y
    apply State.setSlotState_keeps; assumption; unfold f396; apply KP.mk; refine Keeps.mk ?_ rfl rfl; apply State.sigFail_keeps
    assumption; unfold y; apply State.sigFail_keeps; assumption

theorem State.resumeOpen_keeps {s0 s : State} (h_s : Keeps s0 s) : Keeps s0 (State.resumeOpen s) := by
  unfold State.resumeOpen
  with_reducible
    extract_lets +onlyGivenNames _; extract_lets +onlyGivenNames _; extract_lets +onlyGivenNames _
    extract_lets +onlyGivenNames y; refine (fun _ : Keeps s0 y => ?_) ?_; clear_value y; apply State.setSess_keeps; assumption; unfold y
    apply State.eraseRange_keeps; assumption

theorem State.resumeSession_keeps {s0 s : State} {time : Bool} (h_s : Keeps s0 s) : Keeps s0 (State.resumeSession s time) := by
  unfold State.resumeSession
  with_reducible
    extract_lets +onlyGivenNames _; split; apply State.askData_keeps; apply State.openSession_keeps; assumption; apply State.askData_keeps
    apply State.resumeOpen_keeps; assumption; apply Keeps.ite; apply State.setSess_keeps; assumption
    extract_lets +onlyGivenNames y; refine (fun _ : Keeps s0 y => ?_) ?_; clear_value y; extract_lets +onlyGivenNames _; apply Keeps.ite
    apply State.sessRecord_keeps; apply State.setSess_keeps; assumption; apply State.actRefused_keeps; assumption; unfold y
    apply State.setSess_keeps; assumption; assumption

theorem State.compactHomes_keeps {s0 s : State} (h_s : Keeps s0 s) : Keeps s0 (State.compactHomes s) := by
  unfold State.compactHomes
  with_reducible
    extract_lets +onlyGivenNames _; extract_lets +onlyGivenNames _; extract_lets +onlyGivenNames _; extract_lets +onlyGivenNames _
    extract_lets +onlyGivenNames _; extract_lets +onlyGivenNames y; refine (fun _ : Keeps s0 y => ?_) ?_; clear_value y
    refine Keeps.foldl ?_ fun _ _ _ => ?_; assumption; apply KP.snd; apply State.portWrite_keeps; assumption; unfold y
    refine Keeps.mk ?_ rfl rfl; assumption

theorem State.bootFlash_keeps {s0 s : State} {time : Bool} (h_s : Keeps s0 s) : Keeps s0 (State.bootFlash s time) := by
  unfold State.bootFlash
  with_reducible
    extract_lets +onlyGivenNames y; refine (fun _ : Keeps s0 y => ?_) ?_; clear_value y; extract_lets +onlyGivenNames _
    extract_lets +onlyGivenNames y; refine (fun _ : Keeps s0 y => ?_) ?_; clear_value y; apply State.compactHomes_keeps
    apply State.countStart_keeps; apply State.resumeSession_keeps; apply State.applyStaged_keeps; apply State.completeErases_keeps
    assumption; unfold y; refine Keeps.mk ?_ rfl rfl; assumption; unfold y; apply State.tearFlash_keeps; assumption

theorem State.ethLinksDown_keeps {s0 s : State} (h_s : Keeps s0 s) : Keeps s0 (State.ethLinksDown s) := by
  unfold State.ethLinksDown
  with_reducible
    extract_lets +onlyGivenNames y; refine (fun _ : Keeps s0 y => ?_) ?_; clear_value y; refine Keeps.mk ?_ rfl rfl; assumption; unfold y
    apply State.leaveUp_keeps; assumption

theorem State.linksDown_keeps {s0 s : State} (h_s : Keeps s0 s) : Keeps s0 (State.linksDown s) := by
  unfold State.linksDown
  with_reducible
    extract_lets +onlyGivenNames _; extract_lets +onlyGivenNames y; refine (fun _ : Keeps s0 y => ?_) ?_; clear_value y
    extract_lets +onlyGivenNames y; refine (fun _ : Keeps s0 y => ?_) ?_; clear_value y; refine Keeps.mk ?_ rfl rfl; assumption; unfold y
    apply State.ethLinksDown_keeps; assumption; unfold y; refine Keeps.foldl ?_ fun _ _ _ => ?_; assumption; apply State.log_keeps
    assumption

theorem State.enterStandby_keeps {s0 s : State} {t : Trigger} {straps : Straps} (h_s : Keeps s0 s) : Keeps s0
    (State.enterStandby s t straps) := by
  unfold State.enterStandby
  with_reducible
    extract_lets +onlyGivenNames _; extract_lets +onlyGivenNames y; refine (fun _ : Keeps s0 y => ?_) ?_; clear_value y
    refine Keeps.mk ?_ rfl rfl; assumption; unfold y; apply State.setMode_keeps; apply State.powerDown_keeps; apply State.linksDown_keeps
    assumption

theorem State.enterDrain_keeps {s0 s : State} {t : Trigger} {maint : Bool} (h_s : Keeps s0 s) : Keeps s0 (State.enterDrain s t maint) :=
    by
  unfold State.enterDrain
  with_reducible
    extract_lets +onlyGivenNames y; refine (fun _ : Keeps s0 y => ?_) ?_; clear_value y; refine Keeps.mk ?_ rfl rfl; assumption; unfold y
    apply State.releaseThrough_keeps; apply State.setMode_keeps; assumption

theorem State.modeRequest_keeps {s0 s : State} {target : Nat} {ask : ModeAsk} (h_s : Keeps s0 s) : KP s0
    (State.modeRequest s target ask) := by
  unfold State.modeRequest
  extract_lets m t steady refuse latch
  have hr : ∀ st, KP s0 (refuse st) := fun st => State.refuseMode_keeps h_s
  have hl : ∀ b, Keeps s0 (latch b s) := fun b => Keeps.mk h_s rfl rfl
  clear_value m steady refuse latch
  split
  · exact KP.ite (State.wake_keeps h_s) (hr _)
  · exact KP.ite (State.enterDrain_keeps h_s) (KP.ite h_s (hr _))
  · exact KP.ite (State.enterService_keeps (Keeps.mk h_s rfl rfl)) (KP.ite (hl _) (hr _))
  · refine KP.ite (State.enterDrain_keeps h_s) ?_
    split
    · exact Keeps.mk h_s rfl rfl
    · exact State.setMode_keeps h_s
    · exact hl _
    · exact hl _
    · exact hl _
    · exact h_s
    · exact hr _
  · exact KP.ite (hr _) (hr _)

theorem State.askMode_keeps {s0 s : State} {target : Nat} {ask : ModeAsk} (h_s : Keeps s0 s) : Keeps s0 (State.askMode s target ask) :=
    by
  unfold State.askMode
  with_reducible
    extract_lets +onlyGivenNames _; extract_lets +onlyGivenNames y; refine (fun _ : Keeps s0 y => ?_) ?_; clear_value y; apply Keeps.ite
    assumption; apply Keeps.ite; assumption; apply Keeps.ite; refine Keeps.mk ?_ rfl rfl; assumption; split; apply Keeps.ite
    refine KP.of_eq (by assumption) ?_; apply State.modeRequest_keeps; assumption; apply State.answerMode_keeps
    refine KP.of_eq (by assumption) ?_; apply State.modeRequest_keeps; assumption; unfold y; apply Keeps.ite; apply State.setFld_keeps
    assumption; assumption

theorem State.decideSaveReqs_keeps {s0 s : State} (h_s : Keeps s0 s) : Keeps s0 (State.decideSaveReqs s) := by
  unfold State.decideSaveReqs
  with_reducible
    extract_lets +onlyGivenNames _; refine Keeps.foldl ?_ fun _ _ _ => ?_; refine Keeps.mk ?_ rfl rfl; assumption; split; apply Keeps.ite
    refine KP.of_eq (by assumption) ?_; apply State.modeRequest_keeps; assumption; apply State.answerMode_keeps
    refine KP.of_eq (by assumption) ?_; apply State.modeRequest_keeps; assumption

theorem State.loadTrims_keeps {s0 s : State} (h_s : Keeps s0 s) : Keeps s0 (State.loadTrims s) := by
  unfold State.loadTrims
  with_reducible
    extract_lets +onlyGivenNames _; extract_lets +onlyGivenNames _; extract_lets +onlyGivenNames _; extract_lets +onlyGivenNames _
    extract_lets +onlyGivenNames _; extract_lets +onlyGivenNames y; refine (fun _ : Keeps s0 y => ?_) ?_; clear_value y
    refine Keeps.foldl ?_ fun _ _ _ => ?_; assumption; apply State.log_keeps; assumption; unfold y; refine Keeps.mk ?_ rfl rfl; assumption

theorem State.resetLdMasks_keeps {s0 s : State} (h_s : Keeps s0 s) : Keeps s0 (State.resetLdMasks s) := by
  unfold State.resetLdMasks
  with_reducible
    refine Keeps.foldl ?_ fun _ _ _ => ?_; assumption; extract_lets +onlyGivenNames _; refine Keeps.foldl ?_ fun _ _ _ => ?_; assumption
    apply State.setRegAt_keeps; assumption

theorem State.bootStart_keeps {s0 s : State} {straps : Straps} {cause : Nat} (h_s : Keeps s0 s) : Keeps s0
    (State.bootStart s straps cause) := by
  unfold State.bootStart
  with_reducible
    extract_lets +onlyGivenNames _; extract_lets +onlyGivenNames _
    extract_lets +onlyGivenNames y; refine (fun _ : Keeps s0 y => ?_) ?_; clear_value y; extract_lets +onlyGivenNames _
    extract_lets +onlyGivenNames _; extract_lets +onlyGivenNames y; refine (fun _ : Keeps s0 y => ?_) ?_; clear_value y
    extract_lets +onlyGivenNames y; refine (fun _ : Keeps s0 y => ?_) ?_; clear_value y
    extract_lets +onlyGivenNames y; refine (fun _ : Keeps s0 y => ?_) ?_; clear_value y; refine Keeps.mk ?_ rfl rfl; assumption; unfold y
    apply State.setFld_keeps; assumption; unfold y; apply State.bootFlash_keeps; apply State.loadTrims_keeps; apply State.setFld_keeps
    assumption; unfold y; refine Keeps.mk ?_ rfl rfl; assumption; unfold y; apply State.resetLdMasks_keeps; apply State.resetPlane_keeps
    assumption

theorem State.enterBoot_keeps {s0 s : State} {t : Trigger} {straps : Straps} {cause : Nat} (h_s : Keeps s0 s) : Keeps s0
    (State.enterBoot s t straps cause) := by
  unfold State.enterBoot
  with_reducible
    apply State.setMode_keeps; apply State.bootStart_keeps; assumption

set_option maxRecDepth 10000 in
theorem State.reenter_keeps {s0 s : State} {r : LogRec} (h_s : Keeps s0 s) : KP s0 (State.reenter s r) := by
  unfold State.reenter
  split
  · next hl =>
    have hl' : s.fresh.2.evt.recs.length < 8192 := by rw [show s.fresh.2.evt = s.evt from rfl]; exact hl
    have hf : Keeps s0 s.fresh.2 := State.fresh_keeps h_s
    refine Keeps.mk' hf (fun w => ?_) id
    exact recsOk_append w hl' (emptySlots_spec hl' _).1 (emptySlots_spec hl' _).2
  · split
    · next v hv => exact Keeps.mk' h_s (fun w => recsOk_replace w (victim_mem hv) rfl) id
    · exact h_s

theorem State.imageLog_keeps {s0 s : State} (h_s : Keeps s0 s) : KP s0 (State.imageLog s) := by
  unfold State.imageLog
  with_reducible
    extract_lets +onlyGivenNames _; extract_lets +onlyGivenNames _; extract_lets +onlyGivenNames _; split; apply KP.mk; assumption
    apply KP.ite; split; extract_lets +onlyGivenNames _; apply KP.mk; refine KP.of_eq (by assumption) ?_; apply State.fresh_keeps
    assumption; apply KP.mk; assumption

theorem State.restoreLog_keeps {s0 s : State} {sramOk : Bool} (h_s : Keeps s0 s) : Keeps s0 (State.restoreLog s sramOk) := by
  unfold State.restoreLog
  with_reducible
    apply Keeps.ite; apply State.log_keeps; assumption; extract_lets +onlyGivenNames _; extract_lets +onlyGivenNames _
    extract_lets +onlyGivenNames _; split; extract_lets +onlyGivenNames _; extract_lets +onlyGivenNames _; extract_lets +onlyGivenNames _
    split; extract_lets +onlyGivenNames _; extract_lets +onlyGivenNames _; extract_lets +onlyGivenNames _
    extract_lets +onlyGivenNames y; refine (fun _ : Keeps s0 y => ?_) ?_; clear_value y; split; extract_lets +onlyGivenNames _
    extract_lets +onlyGivenNames _; extract_lets +onlyGivenNames _; extract_lets +onlyGivenNames _
    extract_lets +onlyGivenNames y; refine (fun _ : Keeps s0 y => ?_) ?_; clear_value y
    extract_lets +onlyGivenNames y; refine (fun _ : Keeps s0 y => ?_) ?_; clear_value y; apply State.log_keeps; assumption; unfold y
    refine Keeps.foldl ?_ fun _ _ _ => ?_; assumption; extract_lets +onlyGivenNames _
    extract_lets +onlyGivenNames y; refine (fun _ : Keeps s0 y => ?_) ?_; clear_value y; refine Keeps.mk ?_ rfl rfl; assumption; unfold y
    apply KP.snd; apply State.reenter_keeps; assumption; unfold y; refine Keeps.mk ?_ rfl rfl; refine KP.of_eq (by assumption) ?_
    refine KP.foldl ?_ fun _ _ _ => ?_; apply KP.mk; assumption; split; apply KP.mk; refine KP.of_eq (by assumption) ?_
    apply State.reenter_keeps; exact KP.snd (by assumption); unfold y; refine Keeps.mk' ?_ ?_ ?_; refine KP.of_eq (by assumption) ?_
    apply State.imageLog_keeps; assumption; intro _; with_unfolding_all exact recsOk_nil; intro _; assumption

theorem State.giveUpImage_keeps {s0 s : State} {b : Bool} (h_s : Keeps s0 s) : Keeps s0 (State.giveUpImage s b) := by
  unfold State.giveUpImage
  with_reducible
    extract_lets +onlyGivenNames _; extract_lets +onlyGivenNames _
    extract_lets +onlyGivenNames y; refine (fun _ : Keeps s0 y => ?_) ?_; clear_value y; apply Keeps.ite; assumption
    extract_lets +onlyGivenNames _; extract_lets +onlyGivenNames _
    extract_lets +onlyGivenNames y; refine (fun _ : Keeps s0 y => ?_) ?_; clear_value y; extract_lets +onlyGivenNames _
    extract_lets +onlyGivenNames y; refine (fun _ : Keeps s0 y => ?_) ?_; clear_value y; apply State.log_keeps; assumption; unfold y
    refine Keeps.mk ?_ rfl rfl; assumption; unfold y; refine Keeps.foldl ?_ fun _ _ _ => ?_; assumption; apply State.markDamaged_keeps
    assumption; unfold y; apply State.setImage_keeps; assumption

theorem State.checkImages_keeps {s0 s : State} {badA badB : Nat} (h_s : Keeps s0 s) : Keeps s0 (State.checkImages s badA badB) := by
  unfold State.checkImages
  with_reducible
    refine Keeps.foldl ?_ fun _ _ _ => ?_; assumption; extract_lets +onlyGivenNames _; split; split; apply State.giveUpImage_keeps
    apply State.log_keeps; assumption; assumption; apply State.giveUpImage_keeps; assumption; apply State.giveUpImage_keeps; assumption
    assumption

theorem State.applyImage_keeps {s0 s : State} {b : Bool} (h_s : Keeps s0 s) : Keeps s0 (State.applyImage s b) := by
  unfold State.applyImage
  with_reducible
    extract_lets +onlyGivenNames _; extract_lets +onlyGivenNames _; extract_lets +onlyGivenNames _
    extract_lets +onlyGivenNames y; refine (fun _ : Keeps s0 y => ?_) ?_; clear_value y; extract_lets +onlyGivenNames _
    extract_lets +onlyGivenNames y; refine (fun _ : Keeps s0 y => ?_) ?_; clear_value y
    extract_lets +onlyGivenNames y; refine (fun _ : Keeps s0 y => ?_) ?_; clear_value y; apply State.log_keeps; assumption; unfold y
    refine Keeps.foldl ?_ fun _ _ _ => ?_; apply State.setDirties_keeps; assumption; apply State.markDamaged_keeps; assumption; unfold y
    refine Keeps.foldl ?_ fun _ _ _ => ?_; assumption; apply State.setPage_keeps; assumption; unfold y; refine Keeps.mk ?_ rfl rfl
    assumption

theorem State.markRefilling_keeps {s0 s : State} (h_s : Keeps s0 s) : Keeps s0 (State.markRefilling s) := by
  unfold State.markRefilling
  with_reducible
    extract_lets +onlyGivenNames _; extract_lets +onlyGivenNames _; refine Keeps.mk ?_ rfl rfl; assumption

theorem State.noteDirtyShutdown_keeps {s0 s : State} {sealed : Bool} (h_s : Keeps s0 s) : Keeps s0 (State.noteDirtyShutdown s sealed) :=
    by
  unfold State.noteDirtyShutdown
  with_reducible
    apply Keeps.ite; refine Keeps.mk ?_ rfl rfl; assumption; assumption

theorem State.startService_keeps {s0 s : State} (h_s : Keeps s0 s) : Keeps s0 (State.startService s) := by
  unfold State.startService
  with_reducible
    extract_lets +onlyGivenNames y; refine (fun _ : Keeps s0 y => ?_) ?_; extract_lets +onlyGivenNames _
    extract_lets +onlyGivenNames y; refine (fun _ : Keeps s0 y => ?_) ?_; apply Keeps.ite; apply State.setTwinState_keeps; assumption
    assumption; unfold y; apply State.enterService_keeps; refine Keeps.mk ?_ rfl rfl; assumption; unfold y
    apply State.markRefilling_keeps; assumption

theorem State.powerOnReset_keeps {s0 s : State} {straps : Straps} (h_s : Keeps s0 s) : Keeps s0 (State.powerOnReset s straps) := by
  unfold State.powerOnReset
  extract_lets
  exact Keeps.mk' h_s (fun _ => recsOk_nil) (fun _ => rfl)

theorem execVddAonPowerOn_keeps {s0 : State} {straps : Straps} {s : State} (h_s : Keeps s0 s) : KR s0 (execVddAonPowerOn straps s) := by
  unfold execVddAonPowerOn
  with_reducible
    apply KR.next; apply Keeps.ite; apply State.powerOnReset_keeps; assumption; assumption

theorem execVddAonLost_keeps {s0 s : State} (h_s : Keeps s0 s) : KR s0 (execVddAonLost s) := by
  unfold execVddAonLost
  with_reducible
    apply KR.next; extract_lets +onlyGivenNames _; extract_lets +onlyGivenNames _
    extract_lets +onlyGivenNames y; refine (fun _ : Keeps s0 y => ?_) ?_; clear_value y; refine Keeps.mk ?_ rfl rfl; assumption; unfold y
    apply Keeps.ite; apply State.setImage_keeps; assumption; assumption

theorem execWakeSource_keeps {s0 : State} {w : WakeSource} {s : State} (h_s : Keeps s0 s) : KR s0 (execWakeSource w s) := by
  unfold execWakeSource
  with_reducible
    apply KR.next; split; extract_lets +onlyGivenNames _
    extract_lets +onlyGivenNames y; refine (fun _ : Keeps s0 y => ?_) ?_; clear_value y; apply State.wake_keeps; assumption; unfold y
    refine Keeps.mk ?_ rfl rfl; assumption; apply Keeps.ite; apply State.wake_keeps; assumption; assumption; apply State.wake_keeps
    assumption

theorem State.tryPending_keeps {s0 s : State} (h_s : Keeps s0 s) : Keeps s0 (State.tryPending s) := by
  unfold State.tryPending
  with_reducible
    apply Keeps.ite; apply State.startSequence_keeps; assumption; assumption

theorem execPendingWakeTimeout_keeps {s0 s : State} (h_s : Keeps s0 s) : KR s0 (execPendingWakeTimeout s) := by
  unfold execPendingWakeTimeout
  with_reducible
    apply KR.next; split; extract_lets +onlyGivenNames _
    extract_lets +onlyGivenNames y; refine (fun _ : Keeps s0 y => ?_) ?_; clear_value y; apply State.answerMode_keeps
    apply State.refuseMode_keeps; assumption; unfold y; refine Keeps.mk ?_ rfl rfl; assumption; assumption

theorem execRailInRange_keeps {s0 s : State} (h_s : Keeps s0 s) : KR s0 (execRailInRange s) := by
  unfold execRailInRange
  with_reducible
    apply KR.next; split; extract_lets +onlyGivenNames _
    extract_lets +onlyGivenNames y; refine (fun _ : Keeps s0 y => ?_) ?_; clear_value y; apply State.raiseRail_keeps; assumption; unfold y
    refine Keeps.mk ?_ rfl rfl; assumption; assumption

theorem execResetRelease_keeps {s0 : State} {straps : Straps} {s : State} (h_s : Keeps s0 s) : KR s0 (execResetRelease straps s) := by
  unfold execResetRelease
  with_reducible
    apply KR.next; apply Keeps.ite; extract_lets +onlyGivenNames _
    extract_lets +onlyGivenNames y; refine (fun _ : Keeps s0 y => ?_) ?_; clear_value y; apply State.enterBoot_keeps; assumption; unfold y
    refine Keeps.mk ?_ rfl rfl; assumption; assumption

theorem execPwrSeqFail_keeps {s0 : State} {us : Nat} {s : State} (h_s : Keeps s0 s) : KR s0 (execPwrSeqFail us s) := by
  unfold execPwrSeqFail
  with_reducible
    apply KR.next; split; extract_lets +onlyGivenNames y; refine (fun _ : Keeps s0 y => ?_) ?_; clear_value y
    extract_lets +onlyGivenNames _; extract_lets +onlyGivenNames y; refine (fun _ : Keeps s0 y => ?_) ?_; clear_value y
    apply State.log_keeps; assumption; unfold y; refine Keeps.mk ?_ rfl rfl; assumption; unfold y; apply State.abandonSequence_keeps
    assumption; assumption

theorem execBrdPgFall_keeps {s0 s : State} (h_s : Keeps s0 s) : KR s0 (execBrdPgFall s) := by
  unfold execBrdPgFall
  with_reducible
    apply KR.next; extract_lets +onlyGivenNames y; refine (fun _ : Keeps s0 y => ?_) ?_; clear_value y; extract_lets +onlyGivenNames _
    refine Keeps.mk ?_ rfl rfl; assumption; unfold y; apply State.abandonSequence_keeps; assumption

theorem execPwrFailNRise_keeps {s0 s : State} (h_s : Keeps s0 s) : KR s0 (execPwrFailNRise s) := by
  unfold execPwrFailNRise
  with_reducible
    apply KR.next; apply State.tryPending_keeps; refine Keeps.mk ?_ rfl rfl; assumption

theorem execMainPowerBack_keeps {s0 s : State} (h_s : Keeps s0 s) : KR s0 (execMainPowerBack s) := by
  unfold execMainPowerBack
  with_reducible
    apply KR.next; apply State.tryPending_keeps; refine Keeps.mk ?_ rfl rfl; assumption

theorem execCrystalStart_keeps {s0 s : State} (h_s : Keeps s0 s) : KR s0 (execCrystalStart s) := by
  unfold execCrystalStart
  with_reducible
    apply KR.next; refine Keeps.mk ?_ rfl rfl; assumption

theorem execVddIoLost_keeps {s0 s : State} (h_s : Keeps s0 s) : KR s0 (execVddIoLost s) := by
  unfold execVddIoLost
  with_reducible
    apply KR.next; refine Keeps.mk ?_ rfl rfl; assumption

theorem execVddIoReturn_keeps {s0 s : State} (h_s : Keeps s0 s) : KR s0 (execVddIoReturn s) := by
  unfold execVddIoReturn
  with_reducible
    apply KR.next; refine Keeps.mk ?_ rfl rfl; assumption

theorem execAvsConfirmTimeout_keeps {s0 : State} {mv sensed : Nat} {s : State} (h_s : Keeps s0 s) : KR s0
    (execAvsConfirmTimeout mv sensed s) := by
  unfold execAvsConfirmTimeout
  with_reducible
    apply KR.next; split; extract_lets +onlyGivenNames _
    extract_lets +onlyGivenNames y; refine (fun _ : Keeps s0 y => ?_) ?_; clear_value y; apply State.log_keeps; assumption; unfold y
    refine Keeps.mk ?_ rfl rfl; assumption; refine Keeps.mk ?_ rfl rfl; assumption

theorem State.mainPowerFails_keeps {s0 s : State} {t : Trigger} {straps : Straps} (h_s : Keeps s0 s) : Keeps s0
    (State.mainPowerFails s t straps) := by
  unfold State.mainPowerFails
  with_reducible
    split; apply State.abandonSequence_keeps; assumption; apply State.enterStandby_keeps; assumption; apply State.enterStandby_keeps
    assumption; apply State.enterStandby_keeps; assumption; apply State.startSave_keeps; assumption; apply State.startSave_keeps
    assumption; apply State.startSave_keeps; assumption; apply State.startSave_keeps; assumption; apply State.startSave_keeps; assumption
    apply State.startSave_keeps; assumption; assumption; assumption

theorem execPowerFail_keeps {s0 : State} {straps : Straps} {s : State} (h_s : Keeps s0 s) : KR s0 (execPowerFail straps s) := by
  unfold execPowerFail
  with_reducible
    apply KR.next; apply State.mainPowerFails_keeps; refine Keeps.mk ?_ rfl rfl; assumption

theorem execRailMonitorTrip_keeps {s0 : State} {rail : Fin 6} {out : Bool} {straps : Straps} {s : State} (h_s : Keeps s0 s) : KR s0
    (execRailMonitorTrip rail out straps s) := by
  unfold execRailMonitorTrip
  with_reducible
    apply KR.next; apply Keeps.ite; assumption; extract_lets +onlyGivenNames y; refine (fun _ : Keeps s0 y => ?_) ?_; clear_value y
    apply Keeps.ite; extract_lets +onlyGivenNames _; refine Keeps.mk ?_ rfl rfl; assumption; assumption; unfold y
    apply State.mainPowerFails_keeps; assumption

theorem State.honourReset_keeps {s0 s : State} {straps : Straps} (h_s : Keeps s0 s) : Keeps s0 (State.honourReset s straps) := by
  unfold State.honourReset
  with_reducible
    split; refine Keeps.mk ?_ rfl rfl; assumption; apply State.bootStart_keeps; assumption; apply State.enterBoot_keeps; assumption
    apply State.enterBoot_keeps; assumption; assumption

theorem execSysRstN_keeps {s0 : State} {straps : Straps} {s : State} (h_s : Keeps s0 s) : KR s0 (execSysRstN straps s) := by
  unfold execSysRstN
  with_reducible
    apply KR.next; apply Keeps.ite; assumption; extract_lets +onlyGivenNames _
    extract_lets +onlyGivenNames y; refine (fun _ : Keeps s0 y => ?_) ?_; clear_value y; apply Keeps.ite; apply State.honourReset_keeps
    assumption; apply Keeps.ite; assumption; apply State.log_keeps; refine Keeps.mk ?_ rfl rfl; assumption; unfold y
    refine Keeps.mk ?_ rfl rfl; assumption

theorem execSysRstNRelease_keeps {s0 s : State} (h_s : Keeps s0 s) : KR s0 (execSysRstNRelease s) := by
  unfold execSysRstNRelease
  with_reducible
    apply KR.next; refine Keeps.mk ?_ rfl rfl; assumption

theorem execHeldResetApply_keeps {s0 : State} {straps : Straps} {s : State} (h_s : Keeps s0 s) : KR s0 (execHeldResetApply straps s) :=
    by
  unfold execHeldResetApply
  with_reducible
    apply KR.next; apply Keeps.ite; apply State.honourReset_keeps; refine Keeps.mk ?_ rfl rfl; assumption; assumption

theorem execSoft_keeps {s0 : State} {who : Writer} {straps : Straps} {s : State} (h_s : Keeps s0 s) : KR s0 (execSoft who straps s) :=
    by
  unfold execSoft
  with_reducible
    apply KR.next; split; apply State.enterBoot_keeps; assumption; apply State.enterBoot_keeps; assumption; assumption
    apply State.reject_keeps; assumption

theorem execTrstN_keeps {s0 s : State} (h_s : Keeps s0 s) : KR s0 (execTrstN s) := by
  unfold execTrstN
  with_reducible
    apply KR.next; refine Keeps.mk ?_ rfl rfl; assumption

theorem execMaintenanceExit_keeps {s0 : State} {straps : Straps} {s : State} (h_s : Keeps s0 s) : KR s0 (execMaintenanceExit straps s)
    := by
  unfold execMaintenanceExit
  with_reducible
    apply KR.next; apply Keeps.ite; apply State.enterBoot_keeps; assumption; assumption

theorem execRecoveryReset_keeps {s0 : State} {straps : Straps} {s : State} (h_s : Keeps s0 s) : KR s0 (execRecoveryReset straps s) := by
  unfold execRecoveryReset
  with_reducible
    apply KR.next; apply Keeps.ite; apply State.enterBoot_keeps; assumption; assumption

theorem State.setTimebase_keeps {s0 s : State} {on : Bool} {off : Int} (h_s : Keeps s0 s) : Keeps s0 (State.setTimebase s on off) := by
  unfold State.setTimebase
  with_reducible
    apply Keeps.ite; assumption; extract_lets +onlyGivenNames _; apply State.log_keeps; refine Keeps.mk ?_ rfl rfl; assumption

theorem execTimebaseLock_keeps {s0 : State} {off : Int} {time : Nat} {s : State} (h_s : Keeps s0 s) : KR s0
    (execTimebaseLock off time s) := by
  unfold execTimebaseLock
  with_reducible
    apply KR.next; extract_lets +onlyGivenNames y; refine (fun _ : Keeps s0 y => ?_) ?_; apply Keeps.ite; apply State.resumeSession_keeps
    assumption; assumption; unfold y; apply State.setTimebase_keeps; refine Keeps.mk ?_ rfl rfl; assumption

theorem execTimebaseUnlock_keeps {s0 : State} {off : Int} {s : State} (h_s : Keeps s0 s) : KR s0 (execTimebaseUnlock off s) := by
  unfold execTimebaseUnlock
  with_reducible
    apply KR.next; apply State.setTimebase_keeps; assumption

theorem execColdBootTrainStart_keeps {s0 s : State} (h_s : Keeps s0 s) : KR s0 (execColdBootTrainStart s) := by
  unfold execColdBootTrainStart
  with_reducible
    apply KR.next; split; apply Keeps.ite; extract_lets +onlyGivenNames _
    extract_lets +onlyGivenNames y; refine (fun _ : Keeps s0 y => ?_) ?_; clear_value y; apply State.log_keeps; assumption; unfold y
    refine Keeps.mk ?_ rfl rfl; assumption; assumption; assumption

theorem State.admitStack_keeps {s0 s : State} {clash : Fin 3} (h_s : Keeps s0 s) : Keeps s0 (State.admitStack s clash) := by
  unfold State.admitStack
  with_reducible
    extract_lets +onlyGivenNames _; extract_lets +onlyGivenNames _; extract_lets +onlyGivenNames _
    extract_lets +onlyGivenNames y; refine (fun _ : Keeps s0 y => ?_) ?_; clear_value y; apply Keeps.ite; assumption
    apply State.log_keeps; assumption; unfold y; refine Keeps.mk ?_ rfl rfl; assumption

theorem State.endBoot_keeps {s0 s : State} {badA badB : Fin 3} (h_s : Keeps s0 s) : Keeps s0 (State.endBoot s badA badB) := by
  unfold State.endBoot
  with_reducible
    apply Keeps.ite; apply State.setMode_keeps; apply State.ethLinksDown_keeps; refine Keeps.mk ?_ rfl rfl; assumption
    extract_lets +onlyGivenNames y; refine (fun _ : Keeps s0 y => ?_) ?_; clear_value y; extract_lets +onlyGivenNames _
    extract_lets +onlyGivenNames y; refine (fun _ : Keeps s0 y => ?_) ?_; clear_value y; apply Keeps.ite; apply State.setMode_keeps
    assumption; apply State.startService_keeps; assumption; unfold y; apply State.noteDirtyShutdown_keeps; assumption; unfold y
    apply State.checkImages_keeps; assumption

theorem execBootChecksDone_keeps {s0 : State} {failA failB : Option (Fin 7)} {badA badB : Fin 3} {sramOk coreA coreB coreS : Bool}
    {clash : Fin 3} {s : State} (h_s : Keeps s0 s) : KR s0 (execBootChecksDone failA failB badA badB sramOk coreA coreB coreS clash s)
    := by
  unfold execBootChecksDone
  with_reducible
    apply KR.next; apply Keeps.ite; assumption; split; extract_lets +onlyGivenNames _
    extract_lets +onlyGivenNames y; refine (fun _ : Keeps s0 y => ?_) ?_; clear_value y
    extract_lets +onlyGivenNames y; refine (fun _ : Keeps s0 y => ?_) ?_; clear_value y; extract_lets +onlyGivenNames _
    extract_lets +onlyGivenNames y; refine (fun _ : Keeps s0 y => ?_) ?_; clear_value y; apply Keeps.ite; apply State.setMode_keeps
    apply State.ethLinksDown_keeps; refine Keeps.mk ?_ rfl rfl; assumption; split; apply State.setMode_keeps
    apply State.ethLinksDown_keeps; refine KP.of_eq (by assumption) ?_; apply State.selectImage_keeps; assumption
    apply State.endBoot_keeps; refine KP.of_eq (by assumption) ?_; apply State.selectImage_keeps; assumption; unfold y
    refine Keeps.mk ?_ rfl rfl; assumption; unfold y; apply State.admitStack_keeps; apply State.restoreLog_keeps; assumption; unfold y
    refine Keeps.mk ?_ rfl rfl; assumption

theorem execRestoreApplied_keeps {s0 s : State} (h_s : Keeps s0 s) : KR s0 (execRestoreApplied s) := by
  unfold execRestoreApplied
  with_reducible
    apply KR.next; apply Keeps.ite; apply State.startService_keeps; refine Keeps.foldl ?_ fun _ _ _ => ?_; assumption
    apply State.applyImage_keeps; assumption; assumption

theorem execQuiesceEnter_keeps {s0 s : State} (h_s : Keeps s0 s) : KR s0 (execQuiesceEnter s) := by
  unfold execQuiesceEnter
  with_reducible
    apply KR.next; apply Keeps.ite; apply State.setMode_keeps; assumption; assumption

theorem State.requestMode_keeps {s0 s : State} {target : Nat} {ask : ModeAsk} {c : Instr} (h_s : Keeps s0 s) : Keeps s0
    (State.requestMode s target ask c) := by
  unfold State.requestMode
  with_reducible
    extract_lets +onlyGivenNames f400; split; unfold f400; apply Keeps.ite; apply Keeps.ite; apply State.askMode_keeps; assumption
    assumption; apply Keeps.ite; apply State.askMode_keeps; assumption; apply State.request_keeps; assumption; intro _ _
    apply State.askMode_keeps; assumption; unfold f400; apply Keeps.ite; apply Keeps.ite; apply State.askMode_keeps; assumption
    assumption; apply Keeps.ite; apply State.askMode_keeps; assumption; apply State.request_keeps; assumption; intro _ _
    apply State.askMode_keeps; assumption; apply State.askMode_keeps; assumption

theorem execModeReqDrain_keeps {s0 : State} {ask : ModeAsk} {s : State} (h_s : Keeps s0 s) : KR s0 (execModeReqDrain ask s) := by
  unfold execModeReqDrain
  with_reducible
    apply KR.next; apply State.requestMode_keeps; assumption

theorem execModeReqDrainCancel_keeps {s0 : State} {ask : ModeAsk} {s : State} (h_s : Keeps s0 s) : KR s0 (execModeReqDrainCancel ask s)
    := by
  unfold execModeReqDrainCancel
  with_reducible
    apply KR.next; apply State.requestMode_keeps; assumption

theorem execModeReqMaintenance_keeps {s0 : State} {ask : ModeAsk} {s : State} (h_s : Keeps s0 s) : KR s0 (execModeReqMaintenance ask s)
    := by
  unfold execModeReqMaintenance
  with_reducible
    apply KR.next; apply State.requestMode_keeps; assumption

theorem execModeReqWake_keeps {s0 : State} {ask : ModeAsk} {s : State} (h_s : Keeps s0 s) : KR s0 (execModeReqWake ask s) := by
  unfold execModeReqWake
  with_reducible
    apply KR.next; apply State.requestMode_keeps; assumption

theorem execModeReqOther_keeps {s0 : State} {target : Fin 16} {ask : ModeAsk} {s : State} (h_s : Keeps s0 s) : KR s0
    (execModeReqOther target ask s) := by
  unfold execModeReqOther
  with_reducible
    apply KR.next; apply State.requestMode_keeps; assumption

theorem execDrainDone_keeps {s0 : State} {straps : Straps} {s : State} (h_s : Keeps s0 s) : KR s0 (execDrainDone straps s) := by
  unfold execDrainDone
  with_reducible
    apply KR.next; apply Keeps.ite; extract_lets +onlyGivenNames _; extract_lets +onlyGivenNames _; extract_lets +onlyGivenNames _
    extract_lets +onlyGivenNames _; extract_lets +onlyGivenNames _
    extract_lets +onlyGivenNames y; refine (fun _ : Keeps s0 y => ?_) ?_; clear_value y; apply Keeps.ite; apply State.setMode_keeps
    apply State.ethLinksDown_keeps; assumption; apply State.enterStandby_keeps; assumption; unfold y; refine Keeps.mk ?_ rfl rfl
    assumption; assumption

theorem State.setPlan_keeps {s0 s : State} {p : Plan} (h_s : Keeps s0 s) : Keeps s0 (State.setPlan s p) := by
  unfold State.setPlan
  with_reducible
    refine Keeps.mk ?_ rfl rfl; assumption

theorem State.promote_keeps {s0 s : State} {stream k : Nat} {pin : Bool} (h_s : Keeps s0 s) : KP s0 (State.promote s stream k pin) := by
  unfold State.promote
  with_reducible
    split; apply KP.mk; assumption; extract_lets +onlyGivenNames _
    extract_lets +onlyGivenNames y; refine (fun _ : Keeps s0 y => ?_) ?_; clear_value y; extract_lets +onlyGivenNames _; apply KP.ite
    apply KP.mk; assumption; apply KP.ite; apply KP.mk; apply State.logLim_keeps; apply State.bump_keeps; assumption; apply KP.mk
    apply State.setPage_keeps; assumption; unfold y; apply Keeps.ite; split; refine KP.of_eq (by assumption) ?_
    apply State.placePage_keeps; assumption; refine Keeps.mk ?_ rfl rfl; refine KP.of_eq (by assumption) ?_; apply State.placePage_keeps
    assumption; apply State.clearIntent_keeps; assumption

theorem State.unpin255_keeps {s0 s : State} {k : Nat} (h_s : Keeps s0 s) : Keeps s0 (State.unpin255 s k) := by
  unfold State.unpin255
  with_reducible
    extract_lets +onlyGivenNames _; apply Keeps.ite; apply State.setPage_keeps; assumption; assumption

theorem State.beginPages_keeps {s0 s : State} {x : Stream} {layer : Nat} {e : PlanEntry} (h_s : Keeps s0 s) : Keeps s0
    (State.beginPages s x layer e) := by
  unfold State.beginPages
  with_reducible
    refine Keeps.foldl ?_ fun _ _ _ => ?_; assumption; extract_lets +onlyGivenNames _; split; apply Keeps.ite; split
    apply State.setStream_keeps; refine KP.of_eq (by assumption) ?_; apply State.promote_keeps; assumption
    refine KP.of_eq (by assumption) ?_; apply State.promote_keeps; assumption; refine KP.of_eq (by assumption) ?_
    apply State.promote_keeps; assumption

theorem State.stage_keeps {s0 s : State} {p : Plan} {x : Stream} (h_s : Keeps s0 s) : Keeps s0 (State.stage s p x) := by
  unfold State.stage
  with_reducible
    extract_lets +onlyGivenNames _; extract_lets +onlyGivenNames _; extract_lets +onlyGivenNames _; extract_lets +onlyGivenNames _
    extract_lets +onlyGivenNames y; refine (fun _ : Keeps s0 y => ?_) ?_; clear_value y; refine Keeps.foldl ?_ fun _ _ _ => ?_; assumption
    extract_lets +onlyGivenNames _; apply Keeps.ite; apply State.beginPages_keeps; assumption; assumption; unfold y
    apply State.setStream_keeps; assumption

theorem State.stagePlan_keeps {s0 s : State} {slot : Nat} (h_s : Keeps s0 s) : Keeps s0 (State.stagePlan s slot) := by
  unfold State.stagePlan
  with_reducible
    split; assumption; refine Keeps.foldl ?_ fun _ _ _ => ?_; assumption; apply State.stage_keeps; assumption

theorem State.windowLine_keeps {s0 s : State} {l : Nat} {x : Line} (h_s : Keeps s0 s) : Keeps s0 (State.windowLine s l x) := by
  unfold State.windowLine
  with_reducible
    extract_lets +onlyGivenNames _; extract_lets +onlyGivenNames _
    extract_lets +onlyGivenNames y; refine (fun _ : Keeps s0 y => ?_) ?_; clear_value y; apply State.setLine_keeps; assumption; unfold y
    apply Keeps.ite; apply State.setPage_keeps; assumption; assumption

theorem State.writeReady_keeps {s0 s : State} {p : Plan} {x : Stream} {last : Nat} (h_s : Keeps s0 s) : Keeps s0
    (State.writeReady s p x last) := by
  unfold State.writeReady
  with_reducible
    extract_lets +onlyGivenNames _; extract_lets +onlyGivenNames _; apply State.windowLine_keeps; assumption

theorem State.serveWindow_keeps {s0 s : State} {i : Nat} (h_s : Keeps s0 s) : Keeps s0 (State.serveWindow s i) := by
  unfold State.serveWindow
  with_reducible
    extract_lets +onlyGivenNames _; extract_lets +onlyGivenNames _; extract_lets +onlyGivenNames _; extract_lets +onlyGivenNames _
    extract_lets +onlyGivenNames y; refine (fun _ : Keeps s0 y => ?_) ?_; clear_value y; apply State.serveAgain_keeps; assumption
    unfold y; refine Keeps.mk ?_ rfl rfl; assumption

theorem State.entryPlaced_keeps {s0 s : State} {p : Plan} {x : Stream} {layer j : Nat} (h_s : Keeps s0 s) : Keeps s0
    (State.entryPlaced s p x layer j) := by
  unfold State.entryPlaced
  with_reducible
    extract_lets +onlyGivenNames _; extract_lets +onlyGivenNames _; extract_lets +onlyGivenNames _; split
    extract_lets +onlyGivenNames y; refine (fun _ : Keeps s0 y => ?_) ?_; clear_value y
    extract_lets +onlyGivenNames y; refine (fun _ : Keeps s0 y => ?_) ?_; clear_value y
    extract_lets +onlyGivenNames y; refine (fun _ : Keeps s0 y => ?_) ?_; clear_value y; apply Keeps.ite; split; apply Keeps.ite
    apply State.setPlan_keeps; apply State.endOp_keeps; assumption; assumption; assumption; assumption; unfold y
    apply State.serveWindow_keeps; apply State.stage_keeps; assumption; unfold y; apply Keeps.ite; apply State.writeReady_keeps
    assumption; assumption; unfold y; apply State.setStream_keeps; refine KP.of_eq (by assumption) ?_; split; apply KP.ite; apply KP.mk
    apply State.log_keeps; assumption; apply KP.mk; assumption; apply KP.mk; assumption

theorem State.endPlan_keeps {s0 s : State} {p : Plan} {st : Status} (h_s : Keeps s0 s) : Keeps s0 (State.endPlan s p st) := by
  unfold State.endPlan
  with_reducible
    extract_lets +onlyGivenNames y; refine (fun _ : Keeps s0 y => ?_) ?_; clear_value y
    extract_lets +onlyGivenNames y; refine (fun _ : Keeps s0 y => ?_) ?_; clear_value y; split; apply Keeps.ite; apply Keeps.ite
    apply State.endCancelled_keeps; assumption; apply State.endOp_keeps; assumption; assumption; assumption; unfold y
    apply State.serveWindow_keeps; apply State.setPlan_keeps; assumption; unfold y; refine Keeps.foldl ?_ fun _ _ _ => ?_; assumption
    extract_lets +onlyGivenNames y; refine (fun _ : Keeps s0 y => ?_) ?_; clear_value y; apply State.setStream_keeps; assumption; unfold y
    refine Keeps.foldl ?_ fun _ _ _ => ?_; assumption; apply State.unpin_keeps; assumption

theorem execTilePlaced_keeps {s0 : State} {stream layer entry : Nat} {bad : List Nat} {s : State} (h_s : Keeps s0 s) : KR s0
    (execTilePlaced stream layer entry bad s) := by
  unfold execTilePlaced
  with_reducible
    apply KR.next; split; assumption; split; assumption; apply Keeps.ite; assumption; extract_lets +onlyGivenNames _
    extract_lets +onlyGivenNames _; apply Keeps.ite; apply Keeps.ite; assumption; apply State.entryPlaced_keeps; assumption
    extract_lets +onlyGivenNames _; extract_lets +onlyGivenNames _; extract_lets +onlyGivenNames _; extract_lets +onlyGivenNames _
    extract_lets +onlyGivenNames y; refine (fun _ : Keeps s0 y => ?_) ?_; clear_value y
    extract_lets +onlyGivenNames y; refine (fun _ : Keeps s0 y => ?_) ?_; clear_value y; apply State.entryPlaced_keeps; assumption
    unfold y; apply Keeps.ite; assumption; apply State.log_keeps; assumption; unfold y; refine Keeps.foldl ?_ fun _ _ _ => ?_; assumption
    apply State.windowLine_keeps; assumption

theorem execReleaseLineWrite_keeps {s0 : State} {plan : Fin 64} {ms : Fin 32} {v : BitVec 32} {s : State} (h_s : Keeps s0 s) : KR s0
    (execReleaseLineWrite plan ms v s) := by
  unfold execReleaseLineWrite
  with_reducible
    apply KR.next; split; assumption; extract_lets +onlyGivenNames _; split; apply Keeps.ite; apply State.stagePlan_keeps
    apply State.takeRelease_keeps; assumption; assumption; assumption

theorem execPlanLoad_keeps {s0 : State} {d : Desc} {s : State} (h_s : Keeps s0 s) : KR s0 (execPlanLoad d s) := by
  unfold execPlanLoad
  with_reducible
    apply KR.next; apply State.take_keeps; assumption; intro _ _; extract_lets +onlyGivenNames _; extract_lets +onlyGivenNames _
    extract_lets +onlyGivenNames _; apply Keeps.ite; apply State.complete_keeps; assumption; apply Keeps.ite; apply State.complete_keeps
    assumption; split; apply State.complete_keeps; assumption; extract_lets +onlyGivenNames _; extract_lets +onlyGivenNames _
    extract_lets +onlyGivenNames _; extract_lets +onlyGivenNames _; split; apply Keeps.ite; apply State.complete_keeps; assumption
    extract_lets +onlyGivenNames _; extract_lets +onlyGivenNames _
    extract_lets +onlyGivenNames y; refine (fun _ : Keeps s0 y => ?_) ?_; clear_value y; apply State.complete_keeps; apply State.log_keeps
    assumption; unfold y; refine Keeps.mk ?_ rfl rfl; assumption; apply State.complete_keeps; assumption

theorem State.startStream_keeps {s0 s : State} {p : Plan} {x : Stream} {base : BitVec 32} (h_s : Keeps s0 s) : Keeps s0
    (State.startStream s p x base) := by
  unfold State.startStream
  with_reducible
    extract_lets +onlyGivenNames _; split; extract_lets +onlyGivenNames _; extract_lets +onlyGivenNames _; apply State.windowLine_keeps
    apply State.writeReady_keeps; apply State.setStream_keeps; refine KP.of_eq (by assumption) ?_; apply State.fresh_keeps; assumption

theorem execPlanStart_keeps {s0 : State} {d : Desc} {s : State} (h_s : Keeps s0 s) : KR s0 (execPlanStart d s) := by
  unfold execPlanStart
  with_reducible
    apply KR.next; apply State.take_keeps; assumption; intro _ _; extract_lets +onlyGivenNames _; apply Keeps.ite
    apply State.complete_keeps; assumption; split; apply State.complete_keeps; assumption; apply Keeps.ite; apply State.complete_keeps
    assumption; split; apply State.complete_keeps; apply State.keyAbsent_keeps; assumption; extract_lets +onlyGivenNames _
    extract_lets +onlyGivenNames y; refine (fun _ : Keeps s0 y => ?_) ?_; clear_value y
    extract_lets +onlyGivenNames y; refine (fun _ : Keeps s0 y => ?_) ?_; clear_value y
    extract_lets +onlyGivenNames y; refine (fun _ : Keeps s0 y => ?_) ?_; clear_value y
    extract_lets +onlyGivenNames y; refine (fun _ : Keeps s0 y => ?_) ?_; clear_value y; apply State.stagePlan_keeps; assumption; unfold y
    refine Keeps.foldl ?_ fun _ _ _ => ?_; assumption; apply State.startStream_keeps; assumption; unfold y; apply State.setPlan_keeps
    assumption; unfold y; apply State.activity_keeps; apply State.log_keeps; assumption; unfold y; apply State.startOp_keeps; assumption

theorem execPlanStop_keeps {s0 : State} {d : Desc} {s : State} (h_s : Keeps s0 s) : KR s0 (execPlanStop d s) := by
  unfold execPlanStop
  with_reducible
    apply KR.next; apply State.take_keeps; assumption; intro _ _; split; apply State.complete_keeps; assumption; apply Keeps.ite
    apply State.complete_keeps; assumption; extract_lets +onlyGivenNames _
    extract_lets +onlyGivenNames y; refine (fun _ : Keeps s0 y => ?_) ?_; clear_value y; apply State.activity_keeps
    apply State.setPlan_keeps; assumption; unfold y; apply State.startOp_keeps; assumption

theorem execPlanStopped_keeps {s0 : State} {slot : Fin 64} {s : State} (h_s : Keeps s0 s) : KR s0 (execPlanStopped slot s) := by
  unfold execPlanStopped
  with_reducible
    apply KR.next; split; assumption; split; assumption; apply Keeps.ite; assumption; extract_lets +onlyGivenNames _
    extract_lets +onlyGivenNames y; refine (fun _ : Keeps s0 y => ?_) ?_; clear_value y; extract_lets +onlyGivenNames _
    extract_lets +onlyGivenNames y; refine (fun _ : Keeps s0 y => ?_) ?_; clear_value y; apply Keeps.ite; refine Keeps.mk ?_ rfl rfl
    assumption; assumption; unfold y; split; apply State.endOp_keeps; assumption; assumption; unfold y; apply State.log_keeps
    apply State.endPlan_keeps; assumption

theorem State.placeObject_keeps {s0 s : State} {d : Desc} {action : Nat} {act : LongOp → Nat → Nat → State → State} (h_s : Keeps s0 s)
    (h_act : ∀ a0 a1 a2 a3, Keeps s0 a3 → Keeps s0 (act a0 a1 a2 a3)) : Keeps s0 (State.placeObject s d action act) := by
  unfold State.placeObject
  with_reducible
    apply State.take_keeps; assumption; intro _ _; extract_lets +onlyGivenNames _; extract_lets +onlyGivenNames _
    extract_lets +onlyGivenNames _; extract_lets +onlyGivenNames _
    extract_lets +onlyGivenNames y; refine (fun _ : Keeps s0 y => ?_) ?_; clear_value y; extract_lets +onlyGivenNames _; apply Keeps.ite
    apply State.complete_keeps; assumption; split; apply State.complete_keeps; assumption; apply Keeps.ite; apply State.complete_keeps
    assumption; apply Keeps.ite; apply State.complete_keeps; assumption; apply Keeps.ite; apply State.complete_keeps; assumption
    extract_lets +onlyGivenNames _; extract_lets +onlyGivenNames y; refine (fun _ : Keeps s0 y => ?_) ?_; clear_value y; split
    apply h_act; assumption; assumption; unfold y; apply State.activity_keeps; apply State.startOp_keeps; assumption; unfold y
    apply Keeps.ite; apply State.log_keeps; refine Keeps.mk ?_ rfl rfl; assumption; assumption

theorem State.promoteObject_keeps {s0 s : State} {o : LongOp} {page n : Nat} {pin : Bool} (h_s : Keeps s0 s) : Keeps s0
    (State.promoteObject s o page n pin) := by
  unfold State.promoteObject
  with_reducible
    refine Keeps.foldl ?_ fun _ _ _ => ?_; assumption; split; split; apply Keeps.ite; apply State.setOp_keeps
    refine KP.of_eq (by assumption) ?_; apply State.promote_keeps; assumption; refine KP.of_eq (by assumption) ?_
    apply State.promote_keeps; assumption; refine KP.of_eq (by assumption) ?_; apply State.promote_keeps; assumption

theorem execObjectPlacePromote_keeps {s0 : State} {d : Desc} {s : State} (h_s : Keeps s0 s) : KR s0 (execObjectPlacePromote d s) := by
  unfold execObjectPlacePromote
  with_reducible
    apply KR.next; apply State.placeObject_keeps; assumption; intro _ _ _ _ _; apply State.promoteObject_keeps; assumption

theorem execObjectPlacePromotePin_keeps {s0 : State} {d : Desc} {s : State} (h_s : Keeps s0 s) : KR s0 (execObjectPlacePromotePin d s)
    := by
  unfold execObjectPlacePromotePin
  with_reducible
    apply KR.next; apply State.placeObject_keeps; assumption; intro _ _ _ _ _; apply State.promoteObject_keeps; assumption

theorem execObjectPlaceUnpin_keeps {s0 : State} {d : Desc} {s : State} (h_s : Keeps s0 s) : KR s0 (execObjectPlaceUnpin d s) := by
  unfold execObjectPlaceUnpin
  with_reducible
    apply KR.next; apply State.placeObject_keeps; assumption; intro _ _ _ _ _; apply State.endOp_keeps
    refine Keeps.foldl ?_ fun _ _ _ => ?_; assumption; apply State.unpin255_keeps; assumption

theorem execObjectPlaceDemote_keeps {s0 : State} {d : Desc} {s : State} (h_s : Keeps s0 s) : KR s0 (execObjectPlaceDemote d s) := by
  unfold execObjectPlaceDemote
  with_reducible
    apply KR.next; apply State.placeObject_keeps; assumption; intro _ _ _ _ _; refine Keeps.foldl ?_ fun _ _ _ => ?_; assumption
    apply State.startWriteback_keeps; apply State.unpin255_keeps; assumption

theorem execNap1Enter_keeps {s0 : State} {ch : ChId} {s : State} (h_s : Keeps s0 s) : KR s0 (execNap1Enter ch s) := by
  unfold execNap1Enter
  with_reducible
    apply KR.next; extract_lets +onlyGivenNames _; apply Keeps.ite; apply State.setChState_keeps; assumption; assumption

theorem execNap2Enter_keeps {s0 : State} {ch : ChId} {s : State} (h_s : Keeps s0 s) : KR s0 (execNap2Enter ch s) := by
  unfold execNap2Enter
  with_reducible
    apply KR.next; extract_lets +onlyGivenNames _; apply Keeps.ite; apply State.setChState_keeps; apply State.setCh_keeps; assumption
    assumption

theorem execPasrEnter_keeps {s0 : State} {ch : ChId} {rank : Fin 16} {s : State} (h_s : Keeps s0 s) : KR s0 (execPasrEnter ch rank s) :=
    by
  unfold execPasrEnter
  with_reducible
    apply KR.next; extract_lets +onlyGivenNames _; extract_lets +onlyGivenNames _; apply Keeps.ite; extract_lets +onlyGivenNames _
    extract_lets +onlyGivenNames y; refine (fun _ : Keeps s0 y => ?_) ?_; clear_value y
    extract_lets +onlyGivenNames y; refine (fun _ : Keeps s0 y => ?_) ?_; clear_value y; apply Keeps.ite; assumption
    apply State.setChState_keeps; assumption; unfold y; apply State.setCh_keeps; assumption; unfold y
    refine Keeps.foldl ?_ fun _ _ _ => ?_; assumption; apply State.evictClean_keeps; assumption; assumption

theorem execPasrDupRewriteDone_keeps {s0 : State} {ch : ChId} {s : State} (h_s : Keeps s0 s) : KR s0 (execPasrDupRewriteDone ch s) := by
  unfold execPasrDupRewriteDone
  with_reducible
    apply KR.next; extract_lets +onlyGivenNames _; apply Keeps.ite; apply State.setCh_keeps; assumption; assumption

theorem execChannelWake_keeps {s0 : State} {ch : ChId} {s : State} (h_s : Keeps s0 s) : KR s0 (execChannelWake ch s) := by
  unfold execChannelWake
  with_reducible
    apply KR.next; extract_lets +onlyGivenNames _; split; apply State.setCh_keeps; assumption; apply State.setCh_keeps; assumption
    apply State.setCh_keeps; assumption; assumption

theorem State.settleWarm_keeps {s0 s : State} (h_s : Keeps s0 s) : Keeps s0 (State.settleWarm s) := by
  unfold State.settleWarm
  with_reducible
    apply Keeps.ite; assumption; extract_lets +onlyGivenNames f398; apply State.freeImages_keeps; refine Keeps.foldl ?_ fun _ _ _ => ?_
    assumption; unfold f398; extract_lets +onlyGivenNames _; apply Keeps.ite; apply State.setImage_keeps; assumption; assumption

theorem State.loseToImage_keeps {s0 s : State} {n : Nat} (h_s : Keeps s0 s) : Keeps s0 (State.loseToImage s n) := by
  unfold State.loseToImage
  with_reducible
    extract_lets +onlyGivenNames _; refine Keeps.foldl ?_ fun _ _ _ => ?_; assumption; apply State.setPage_keeps; assumption

theorem execChannelWakeDone_keeps {s0 : State} {ch : ChId} {ok : Bool} {s : State} (h_s : Keeps s0 s) : KR s0
    (execChannelWakeDone ch ok s) := by
  unfold execChannelWakeDone
  with_reducible
    apply KR.next; extract_lets +onlyGivenNames _; extract_lets +onlyGivenNames _; apply Keeps.ite; assumption; apply Keeps.ite
    extract_lets +onlyGivenNames y; refine (fun _ : Keeps s0 y => ?_) ?_; clear_value y; extract_lets +onlyGivenNames _
    extract_lets +onlyGivenNames y; refine (fun _ : Keeps s0 y => ?_) ?_; clear_value y; apply State.settleWarm_keeps
    apply State.closeChannel_keeps; apply State.chErr_keeps; assumption; unfold y; apply Keeps.ite; apply State.loseToImage_keeps
    assumption; assumption; unfold y; apply State.setCh_keeps; assumption; apply Keeps.ite
    extract_lets +onlyGivenNames y; refine (fun _ : Keeps s0 y => ?_) ?_; clear_value y; apply State.settleWarm_keeps; apply Keeps.ite
    assumption; apply State.setChState_keeps; assumption; unfold y; apply State.setCh_keeps; assumption
    extract_lets +onlyGivenNames y; refine (fun _ : Keeps s0 y => ?_) ?_; clear_value y; extract_lets +onlyGivenNames _
    extract_lets +onlyGivenNames y; refine (fun _ : Keeps s0 y => ?_) ?_; clear_value y; apply State.settleWarm_keeps
    apply State.releaseHeld_keeps; apply State.setChState_keeps; assumption; unfold y; refine Keeps.mk ?_ rfl rfl; assumption; unfold y
    apply State.setCh_keeps; assumption

theorem State.earlyWake_keeps {s0 s : State} (h_s : Keeps s0 s) : Keeps s0 (State.earlyWake s) := by
  unfold State.earlyWake
  with_reducible
    extract_lets +onlyGivenNames _; extract_lets +onlyGivenNames y; refine (fun _ : Keeps s0 y => ?_) ?_; clear_value y
    refine Keeps.foldl ?_ fun _ _ _ => ?_; assumption; extract_lets +onlyGivenNames _; apply Keeps.ite; apply State.setCh_keeps
    assumption; assumption; unfold y; refine Keeps.mk ?_ rfl rfl; assumption

theorem execEarlyWake_keeps {s0 : State} {port : PortId} {link : LinkId} {s : State} (h_s : Keeps s0 s) : KR s0
    (execEarlyWake port link s) := by
  unfold execEarlyWake
  with_reducible
    apply KR.next; extract_lets +onlyGivenNames _; apply Keeps.ite; apply State.earlyWake_keeps; apply State.activity_keeps
    apply State.setLink_keeps; assumption; assumption

theorem execQuiesceExit_keeps {s0 s : State} (h_s : Keeps s0 s) : KR s0 (execQuiesceExit s) := by
  unfold execQuiesceExit
  with_reducible
    apply KR.next; apply Keeps.ite; apply State.earlyWake_keeps; apply State.activity_keeps; assumption; assumption

theorem execLaybyLend_keeps {s0 : State} {ch : ChId} {s : State} (h_s : Keeps s0 s) : KR s0 (execLaybyLend ch s) := by
  unfold execLaybyLend
  with_reducible
    apply KR.next; extract_lets +onlyGivenNames _; extract_lets +onlyGivenNames _; split; extract_lets +onlyGivenNames _; apply Keeps.ite
    assumption; extract_lets +onlyGivenNames _; refine Keeps.mk ?_ rfl rfl; assumption; extract_lets +onlyGivenNames _; apply Keeps.ite
    assumption; extract_lets +onlyGivenNames _; refine Keeps.mk ?_ rfl rfl; assumption; extract_lets +onlyGivenNames _; apply Keeps.ite
    assumption; extract_lets +onlyGivenNames _; refine Keeps.mk ?_ rfl rfl; assumption; assumption

theorem execLaybyRevokeDone_keeps {s0 : State} {ch : ChId} {pages : List Nat} {others : Nat} {s : State} (h_s : Keeps s0 s) : KR s0
    (execLaybyRevokeDone ch pages others s) := by
  unfold execLaybyRevokeDone
  with_reducible
    apply KR.next; extract_lets +onlyGivenNames _; apply Keeps.ite; assumption; extract_lets +onlyGivenNames _
    extract_lets +onlyGivenNames _; extract_lets +onlyGivenNames y; refine (fun _ : Keeps s0 y => ?_) ?_; clear_value y
    refine Keeps.mk ?_ rfl rfl; assumption; unfold y; apply State.addFld_keeps; assumption

theorem execCwClockStop_keeps {s0 : State} {cw : CwId} {s : State} (h_s : Keeps s0 s) : KR s0 (execCwClockStop cw s) := by
  unfold execCwClockStop
  with_reducible
    apply KR.next; extract_lets +onlyGivenNames _; extract_lets +onlyGivenNames _; extract_lets +onlyGivenNames _
    extract_lets +onlyGivenNames _; extract_lets +onlyGivenNames _; apply Keeps.ite; refine Keeps.mk ?_ rfl rfl; assumption; assumption

theorem execJunctionClockStop_keeps {s0 s : State} (h_s : Keeps s0 s) : KR s0 (execJunctionClockStop s) := by
  unfold execJunctionClockStop
  with_reducible
    apply KR.next; extract_lets +onlyGivenNames _; apply Keeps.ite; refine Keeps.mk ?_ rfl rfl; assumption; assumption

theorem execLinkL1Entry_keeps {s0 : State} {port : PortId} {link : LinkId} {l12 : Bool} {s : State} (h_s : Keeps s0 s) : KR s0
    (execLinkL1Entry port link l12 s) := by
  unfold execLinkL1Entry
  with_reducible
    apply KR.next; extract_lets +onlyGivenNames _; apply Keeps.ite; apply State.setLink_keeps; assumption; assumption

end Sys2Proof.Laws
end

