-- ==== Sys2Proof/Laws/KeepsFrames.lean ====
section
/-!
SUPPORT. What the operations and commands of DRAM, save steps, energy, sample frames and the control complex keep (`Keeps`).
-/
namespace Sys2Proof.Laws

open Machine Safety

set_option Elab.async false

theorem State.trainChannel_keeps {s0 s : State} {n : Nat} {a b : Option DimmSpd} {pass : Bool} {timing : List Word}
    {fits : State → List DimmSpd → Bool} (h_s : Keeps s0 s) : KP s0 (State.trainChannel s n a b pass timing fits) := by
  unfold State.trainChannel
  with_reducible
    split; split; apply KP.mk; assumption; apply KP.ite; apply KP.mk; apply State.log_keeps; apply State.chErr_keeps; assumption
    apply KP.ite; apply KP.mk; assumption; apply KP.mk; apply State.adoptDimms_keeps; assumption; apply KP.mk; assumption; apply KP.mk
    apply State.refuseDimms_keeps; assumption

theorem execInitialTrainingDone_keeps {s0 : State} {ch : ChId} {a b : Option DimmSpd} {pass : Bool} {timing : List Word} {s : State}
    (h_s : Keeps s0 s) : KR s0 (execInitialTrainingDone ch a b pass timing s) := by
  unfold execInitialTrainingDone
  with_reducible
    apply KR.next; extract_lets +onlyGivenNames _; apply Keeps.ite; assumption; split; apply State.setChState_keeps
    refine KP.of_eq (by assumption) ?_; apply State.trainChannel_keeps; assumption; refine KP.of_eq (by assumption) ?_
    apply State.trainChannel_keeps; assumption

theorem State.startRetrain_keeps {s0 s : State} {n cause : Nat} (h_s : Keeps s0 s) : Keeps s0 (State.startRetrain s n cause) := by
  unfold State.startRetrain
  with_reducible
    extract_lets +onlyGivenNames _; extract_lets +onlyGivenNames _; apply Keeps.ite; assumption; extract_lets +onlyGivenNames _
    extract_lets +onlyGivenNames y; refine (fun _ : Keeps s0 y => ?_) ?_; clear_value y
    extract_lets +onlyGivenNames y; refine (fun _ : Keeps s0 y => ?_) ?_; clear_value y
    extract_lets +onlyGivenNames y; refine (fun _ : Keeps s0 y => ?_) ?_; clear_value y; extract_lets +onlyGivenNames _
    extract_lets +onlyGivenNames _; extract_lets +onlyGivenNames y; refine (fun _ : Keeps s0 y => ?_) ?_; clear_value y
    extract_lets +onlyGivenNames y; refine (fun _ : Keeps s0 y => ?_) ?_; clear_value y; apply Keeps.ite; apply State.releaseHeld_keeps
    assumption; assumption; unfold y; apply State.setChState_keeps; assumption; unfold y; apply State.setCh_keeps; assumption; unfold y
    apply State.applyTiming_keeps; assumption; unfold y; apply Keeps.ite; apply State.setChState_keeps; assumption; assumption; unfold y
    apply State.setCh_keeps; assumption

theorem execFullRetrainStart_keeps {s0 : State} {ch : ChId} {why : RetrainWhy} {s : State} (h_s : Keeps s0 s) : KR s0
    (execFullRetrainStart ch why s) := by
  unfold execFullRetrainStart
  with_reducible
    apply KR.next; extract_lets +onlyGivenNames _; extract_lets +onlyGivenNames _; extract_lets +onlyGivenNames _; apply Keeps.ite
    assumption; apply Keeps.ite; apply Keeps.ite; apply State.closeChannel_keeps; apply State.chErr_keeps; assumption; assumption; split
    apply Keeps.ite; apply State.startRetrain_keeps; assumption; assumption; apply Keeps.ite; assumption; apply State.startRetrain_keeps
    apply State.chErr_keeps; assumption; apply Keeps.ite; apply State.startRetrain_keeps; apply State.chErr_keeps; assumption; assumption
    apply State.startRetrain_keeps; apply State.chErr_keeps; assumption; apply State.startRetrain_keeps; assumption
    apply State.startRetrain_keeps; assumption; apply State.startRetrain_keeps; assumption

theorem execChRetrainRequest_keeps {s0 : State} {ch : ChId} {s : State} (h_s : Keeps s0 s) : KR s0 (execChRetrainRequest ch s) := by
  unfold execChRetrainRequest
  with_reducible
    apply KR.next; split; assumption; assumption; apply State.setFld_keeps; assumption

theorem execChTimCommit_keeps {s0 : State} {ch : ChId} {who : Writer} {s : State} (h_s : Keeps s0 s) : KR s0 (execChTimCommit ch who s)
    := by
  unfold execChTimCommit
  with_reducible
    apply KR.next; apply Keeps.ite; assumption; apply State.setCh_keeps; apply State.setFld_keeps; assumption

theorem State.afterRetrain_keeps {s0 s : State} {n : Nat} {bad : List Nat} (h_s : Keeps s0 s) : Keeps s0 (State.afterRetrain s n bad) :=
    by
  unfold State.afterRetrain
  with_reducible
    extract_lets +onlyGivenNames _; extract_lets +onlyGivenNames _
    extract_lets +onlyGivenNames y; refine (fun _ : Keeps s0 y => ?_) ?_; clear_value y; refine Keeps.foldl ?_ fun _ _ _ => ?_; assumption
    split; apply State.deliver_keeps; assumption; apply Keeps.ite; apply State.serveRead_keeps; assumption; apply Keeps.ite
    apply State.twinRead_keeps; apply State.setCh_keeps; assumption; apply Keeps.ite; apply KP.snd; apply State.recoverLine_keeps
    assumption; apply State.deliver_keeps; assumption; unfold y; apply State.setCh_keeps; assumption

theorem execRetrainDone_keeps {s0 : State} {ch : ChId} {bad : List Nat} {s : State} (h_s : Keeps s0 s) : KR s0
    (execRetrainDone ch bad s) := by
  unfold execRetrainDone
  with_reducible
    apply KR.next; extract_lets +onlyGivenNames _; extract_lets +onlyGivenNames _; apply Keeps.ite; assumption
    extract_lets +onlyGivenNames _; extract_lets +onlyGivenNames _; extract_lets +onlyGivenNames _
    extract_lets +onlyGivenNames y; refine (fun _ : Keeps s0 y => ?_) ?_; clear_value y; extract_lets +onlyGivenNames _
    extract_lets +onlyGivenNames y; refine (fun _ : Keeps s0 y => ?_) ?_; clear_value y
    extract_lets +onlyGivenNames y; refine (fun _ : Keeps s0 y => ?_) ?_; clear_value y
    extract_lets +onlyGivenNames y; refine (fun _ : Keeps s0 y => ?_) ?_; clear_value y
    extract_lets +onlyGivenNames y; refine (fun _ : Keeps s0 y => ?_) ?_; clear_value y
    extract_lets +onlyGivenNames y; refine (fun _ : Keeps s0 y => ?_) ?_; clear_value y; extract_lets +onlyGivenNames _
    extract_lets +onlyGivenNames y; refine (fun _ : Keeps s0 y => ?_) ?_; clear_value y; apply State.afterRetrain_keeps
    apply State.serveAgain_keeps; assumption; unfold y; apply State.log_keeps; assumption; unfold y; apply State.setChState_keeps
    assumption; unfold y; apply State.setFld_keeps; apply State.bump_keeps; assumption; unfold y; apply State.setFld_keeps; assumption
    unfold y; apply State.setFld_keeps; assumption; unfold y; refine Keeps.mk ?_ rfl rfl; assumption; unfold y; apply State.setCh_keeps
    assumption

theorem execRetrainBoundExpiry_keeps {s0 : State} {ch : ChId} {sub : Bool} {code : Nat} {lanes : BitVec 20} {s : State}
    (h_s : Keeps s0 s) : KR s0 (execRetrainBoundExpiry ch sub code lanes s) := by
  unfold execRetrainBoundExpiry
  with_reducible
    apply KR.next; extract_lets +onlyGivenNames _; apply Keeps.ite; assumption; extract_lets +onlyGivenNames _
    extract_lets +onlyGivenNames y; refine (fun _ : Keeps s0 y => ?_) ?_; clear_value y; apply State.releaseHeld_keeps; assumption
    unfold y; apply State.closeChannel_keeps; apply State.chErr_keeps; assumption

theorem execDriftTrack_keeps {s0 : State} {ch : ChId} {ps : Int} {s : State} (h_s : Keeps s0 s) : KR s0 (execDriftTrack ch ps s) := by
  unfold execDriftTrack
  with_reducible
    apply KR.next; extract_lets +onlyGivenNames _; apply Keeps.ite; apply State.setCh_keeps; assumption; assumption

theorem State.escalate_keeps {s0 s : State} {n sub : Nat} {a : AlertSeries} (h_s : Keeps s0 s) : Keeps s0 (State.escalate s n sub a) :=
    by
  unfold State.escalate
  with_reducible
    extract_lets +onlyGivenNames _; extract_lets +onlyGivenNames y; refine (fun _ : Keeps s0 y => ?_) ?_; clear_value y
    extract_lets +onlyGivenNames y; refine (fun _ : Keeps s0 y => ?_) ?_; clear_value y; apply State.startRetrain_keeps
    apply State.log_keeps; assumption; unfold y; apply State.chErr_keeps; apply State.bump_keeps; assumption; unfold y
    apply State.setCh_keeps; assumption

theorem execCaAlert_keeps {s0 : State} {ch : ChId} {sub : Bool} {s : State} (h_s : Keeps s0 s) : KR s0 (execCaAlert ch sub s) := by
  unfold execCaAlert
  with_reducible
    apply KR.next; extract_lets +onlyGivenNames _; extract_lets +onlyGivenNames _; extract_lets +onlyGivenNames _
    extract_lets +onlyGivenNames f396; split; apply State.closeChannel_keeps; unfold f396; apply State.logLim_keeps
    apply State.chErr_keeps; apply State.bump_keeps; assumption; split; apply State.setCh_keeps; unfold f396; apply State.logLim_keeps
    apply State.chErr_keeps; apply State.bump_keeps; assumption; apply Keeps.ite; assumption; extract_lets +onlyGivenNames _
    apply Keeps.ite; apply State.escalate_keeps; unfold f396; apply State.logLim_keeps; apply State.chErr_keeps; apply State.bump_keeps
    assumption; extract_lets +onlyGivenNames y; refine (fun _ : Keeps s0 y => ?_) ?_; clear_value y; apply State.setCh_keeps; assumption
    unfold y; unfold f396; apply State.logLim_keeps; apply State.chErr_keeps; apply State.bump_keeps; assumption; split
    apply State.setCh_keeps; unfold f396; apply State.logLim_keeps; apply State.chErr_keeps; apply State.bump_keeps; assumption
    apply Keeps.ite; assumption; extract_lets +onlyGivenNames _; apply Keeps.ite; apply State.escalate_keeps; unfold f396
    apply State.logLim_keeps; apply State.chErr_keeps; apply State.bump_keeps; assumption
    extract_lets +onlyGivenNames y; refine (fun _ : Keeps s0 y => ?_) ?_; clear_value y; apply State.setCh_keeps; assumption; unfold y
    unfold f396; apply State.logLim_keeps; apply State.chErr_keeps; apply State.bump_keeps; assumption; assumption

theorem execCaAlertEnd_keeps {s0 : State} {ch : ChId} {sub : Bool} {replayed : Nat} {s : State} (h_s : Keeps s0 s) : KR s0
    (execCaAlertEnd ch sub replayed s) := by
  unfold execCaAlertEnd
  with_reducible
    apply KR.next; extract_lets +onlyGivenNames _; extract_lets +onlyGivenNames _; extract_lets +onlyGivenNames _; apply Keeps.ite
    extract_lets +onlyGivenNames y; refine (fun _ : Keeps s0 y => ?_) ?_; clear_value y; apply State.mergeLim_keeps; assumption; unfold y
    apply State.setCh_keeps; assumption; assumption

theorem execReplayTimeout_keeps {s0 : State} {ch : ChId} {sub : Bool} {s : State} (h_s : Keeps s0 s) : KR s0
    (execReplayTimeout ch sub s) := by
  unfold execReplayTimeout
  with_reducible
    apply KR.next; extract_lets +onlyGivenNames _; split; apply State.escalate_keeps; assumption; assumption

theorem execRefreshDue_keeps {s0 : State} {ch : ChId} {rank : Fin 16} {s : State} (h_s : Keeps s0 s) : KR s0 (execRefreshDue ch rank s)
    := by
  unfold execRefreshDue
  with_reducible
    apply KR.next; extract_lets +onlyGivenNames _; split; apply Keeps.ite; apply State.setCh_keeps; assumption; assumption
    apply Keeps.ite; apply State.setCh_keeps; assumption; assumption; apply Keeps.ite; apply State.setCh_keeps; assumption; assumption
    assumption

theorem execDimmThermPoll_keeps {s0 : State} {ch : ChId} {t0 t1 : Fin 256} {mr : Fin 3} {s : State} (h_s : Keeps s0 s) : KR s0
    (execDimmThermPoll ch t0 t1 mr s) := by
  unfold execDimmThermPoll
  with_reducible
    apply KR.next; extract_lets +onlyGivenNames _; extract_lets +onlyGivenNames _; split; assumption; assumption
    extract_lets +onlyGivenNames _; extract_lets +onlyGivenNames _; extract_lets +onlyGivenNames _
    extract_lets +onlyGivenNames y; refine (fun _ : Keeps s0 y => ?_) ?_; clear_value y; extract_lets +onlyGivenNames _; apply Keeps.ite
    apply State.log_keeps; apply State.chErr_keeps; assumption; apply Keeps.ite; apply State.log_keeps; assumption; assumption; unfold y
    apply State.setCh_keeps; assumption

theorem State.issue_keeps {s0 s : State} {n : Nat} {x : DramCmd} (h_s : Keeps s0 s) : Keeps s0 (State.issue s n x) := by
  unfold State.issue
  with_reducible
    extract_lets +onlyGivenNames _; split; extract_lets +onlyGivenNames _; apply State.setCh_keeps; assumption
    extract_lets +onlyGivenNames _; apply State.setCh_keeps; assumption; apply State.setCh_keeps; assumption
    extract_lets +onlyGivenNames _; apply State.setCh_keeps; assumption; apply State.setCh_keeps; assumption

theorem execCommandSlot_keeps {s0 : State} {ch : ChId} {sub : Bool} {deny : List DramCmd} {s : State} (h_s : Keeps s0 s) : KR s0
    (execCommandSlot ch sub deny s) := by
  unfold execCommandSlot
  with_reducible
    apply KR.next; extract_lets +onlyGivenNames _; extract_lets +onlyGivenNames _; extract_lets +onlyGivenNames _; apply Keeps.ite
    assumption; extract_lets +onlyGivenNames _; extract_lets +onlyGivenNames y; refine (fun _ : Keeps s0 y => ?_) ?_; clear_value y
    extract_lets +onlyGivenNames y; refine (fun _ : Keeps s0 y => ?_) ?_; clear_value y; apply Keeps.ite; assumption
    apply State.setCh_keeps; assumption; unfold y; split; apply State.issue_keeps; assumption; assumption; unfold y
    apply State.setCh_keeps; assumption

theorem execRebuildChunk_keeps {s0 : State} {ch : ChId} {twin : List (Nat × LineData)} {s : State} (h_s : Keeps s0 s) : KR s0
    (execRebuildChunk ch twin s) := by
  unfold execRebuildChunk
  with_reducible
    apply KR.next; extract_lets +onlyGivenNames _; apply Keeps.ite; assumption; split; apply State.releaseHeld_keeps
    apply State.rebuildChunk_keeps; assumption; apply State.rebuildEnds_keeps; assumption

theorem execRebuildTwinWaitExpiry_keeps {s0 : State} {ch : ChId} {s : State} (h_s : Keeps s0 s) : KR s0 (execRebuildTwinWaitExpiry ch s)
    := by
  unfold execRebuildTwinWaitExpiry
  with_reducible
    apply KR.next; extract_lets +onlyGivenNames _; apply Keeps.ite; apply State.releaseHeld_keeps; apply State.setCh_keeps; assumption
    assumption

theorem execEvacuateChannel_keeps {s0 : State} {d : Desc} {s : State} (h_s : Keeps s0 s) : KR s0 (execEvacuateChannel d s) := by
  unfold execEvacuateChannel
  with_reducible
    apply KR.next; apply State.take_keeps; assumption; intro _ _; extract_lets +onlyGivenNames _; extract_lets +onlyGivenNames _
    apply Keeps.ite; apply State.complete_keeps; assumption; split; extract_lets +onlyGivenNames _; apply Keeps.ite
    apply State.complete_keeps; assumption; extract_lets +onlyGivenNames _; extract_lets +onlyGivenNames _
    extract_lets +onlyGivenNames y; refine (fun _ : Keeps s0 y => ?_) ?_; clear_value y; extract_lets +onlyGivenNames _
    extract_lets +onlyGivenNames y; refine (fun _ : Keeps s0 y => ?_) ?_; clear_value y
    extract_lets +onlyGivenNames y; refine (fun _ : Keeps s0 y => ?_) ?_; clear_value y; apply State.releaseHeld_keeps
    apply State.activity_keeps; apply State.setChState_keeps; assumption; unfold y; apply Keeps.ite; assumption
    apply State.setChState_keeps; assumption; unfold y; apply State.setCh_keeps; assumption; unfold y; apply State.startOp_keeps
    assumption; extract_lets +onlyGivenNames _; apply Keeps.ite; apply State.complete_keeps; assumption; extract_lets +onlyGivenNames _
    extract_lets +onlyGivenNames _; extract_lets +onlyGivenNames y; refine (fun _ : Keeps s0 y => ?_) ?_; clear_value y
    extract_lets +onlyGivenNames _; extract_lets +onlyGivenNames y; refine (fun _ : Keeps s0 y => ?_) ?_; clear_value y
    extract_lets +onlyGivenNames y; refine (fun _ : Keeps s0 y => ?_) ?_; clear_value y; apply State.releaseHeld_keeps
    apply State.activity_keeps; apply State.setChState_keeps; assumption; unfold y; apply Keeps.ite; assumption
    apply State.setChState_keeps; assumption; unfold y; apply State.setCh_keeps; assumption; unfold y; apply State.startOp_keeps
    assumption; extract_lets +onlyGivenNames _; apply Keeps.ite; apply State.complete_keeps; assumption; extract_lets +onlyGivenNames _
    extract_lets +onlyGivenNames _; extract_lets +onlyGivenNames y; refine (fun _ : Keeps s0 y => ?_) ?_; clear_value y
    extract_lets +onlyGivenNames _; extract_lets +onlyGivenNames y; refine (fun _ : Keeps s0 y => ?_) ?_; clear_value y
    extract_lets +onlyGivenNames y; refine (fun _ : Keeps s0 y => ?_) ?_; clear_value y; apply State.releaseHeld_keeps
    apply State.activity_keeps; apply State.setChState_keeps; assumption; unfold y; apply Keeps.ite; assumption
    apply State.setChState_keeps; assumption; unfold y; apply State.setCh_keeps; assumption; unfold y; apply State.startOp_keeps
    assumption; extract_lets +onlyGivenNames _; apply Keeps.ite; apply State.complete_keeps; assumption; extract_lets +onlyGivenNames _
    extract_lets +onlyGivenNames _; extract_lets +onlyGivenNames y; refine (fun _ : Keeps s0 y => ?_) ?_; clear_value y
    extract_lets +onlyGivenNames _; extract_lets +onlyGivenNames y; refine (fun _ : Keeps s0 y => ?_) ?_; clear_value y
    extract_lets +onlyGivenNames y; refine (fun _ : Keeps s0 y => ?_) ?_; clear_value y; apply State.releaseHeld_keeps
    apply State.activity_keeps; apply State.setChState_keeps; assumption; unfold y; apply Keeps.ite; assumption
    apply State.setChState_keeps; assumption; unfold y; apply State.setCh_keeps; assumption; unfold y; apply State.startOp_keeps
    assumption; apply State.complete_keeps; assumption

theorem execEvacDone_keeps {s0 : State} {ch : ChId} {s : State} (h_s : Keeps s0 s) : KR s0 (execEvacDone ch s) := by
  unfold execEvacDone
  with_reducible
    apply KR.next; extract_lets +onlyGivenNames _; extract_lets +onlyGivenNames _; split; assumption; apply Keeps.ite; assumption
    extract_lets +onlyGivenNames _; extract_lets +onlyGivenNames _; extract_lets +onlyGivenNames _
    extract_lets +onlyGivenNames y; refine (fun _ : Keeps s0 y => ?_) ?_; clear_value y
    extract_lets +onlyGivenNames y; refine (fun _ : Keeps s0 y => ?_) ?_; clear_value y; extract_lets +onlyGivenNames _
    extract_lets +onlyGivenNames y; refine (fun _ : Keeps s0 y => ?_) ?_; clear_value y
    extract_lets +onlyGivenNames y; refine (fun _ : Keeps s0 y => ?_) ?_; clear_value y; apply State.endOp_keeps; apply State.log_keeps
    assumption; unfold y; apply State.setChState_keeps; assumption; unfold y; apply State.setCh_keeps; assumption; unfold y
    apply Keeps.ite; assumption; apply State.commit_keeps; assumption; unfold y; apply State.rehome_keeps; assumption

theorem execChPwrWrite_keeps {s0 : State} {ch : ChId} {v : Bool} {who : Writer} {s : State} (h_s : Keeps s0 s) : KR s0
    (execChPwrWrite ch v who s) := by
  unfold execChPwrWrite
  with_reducible
    apply KR.next; extract_lets +onlyGivenNames _; extract_lets +onlyGivenNames _; apply Keeps.ite; apply State.reject_keeps; assumption
    extract_lets +onlyGivenNames y; refine (fun _ : Keeps s0 y => ?_) ?_; clear_value y; apply Keeps.ite; apply State.reeval_keeps
    apply State.retryShares_keeps; apply State.rebuildEnds_keeps; apply State.setChState_keeps; assumption; assumption; unfold y
    apply State.setCh_keeps; apply State.setFld_keeps; assumption

theorem execReadmit_keeps {s0 : State} {ch : ChId} {a b : Option DimmSpd} {pass : Bool} {timing : List Word} {who : Writer} {s : State}
    (h_s : Keeps s0 s) : KR s0 (execReadmit ch a b pass timing who s) := by
  unfold execReadmit
  with_reducible
    apply KR.next; extract_lets +onlyGivenNames _; extract_lets +onlyGivenNames _; apply Keeps.ite; apply State.reject_keeps; assumption
    split; refine KP.of_eq (by assumption) ?_; apply State.trainChannel_keeps; assumption; extract_lets +onlyGivenNames _
    extract_lets +onlyGivenNames _; extract_lets +onlyGivenNames _
    extract_lets +onlyGivenNames y; refine (fun _ : Keeps s0 y => ?_) ?_; clear_value y; extract_lets +onlyGivenNames _
    extract_lets +onlyGivenNames y; refine (fun _ : Keeps s0 y => ?_) ?_; clear_value y; extract_lets +onlyGivenNames _
    extract_lets +onlyGivenNames _; extract_lets +onlyGivenNames y; refine (fun _ : Keeps s0 y => ?_) ?_; clear_value y
    extract_lets +onlyGivenNames y; refine (fun _ : Keeps s0 y => ?_) ?_; clear_value y; apply State.reeval_keeps
    apply State.retryShares_keeps; apply State.releaseHeld_keeps; assumption; unfold y; apply State.setChState_keeps
    apply State.setFld_keeps; assumption; unfold y; refine Keeps.mk ?_ rfl rfl; assumption; unfold y; apply State.setCh_keeps; assumption
    unfold y; apply State.setCh_keeps; refine KP.of_eq (by assumption) ?_; apply State.trainChannel_keeps; assumption

theorem execReadmitted_keeps {s0 : State} {ch : ChId} {s : State} (h_s : Keeps s0 s) : KR s0 (execReadmitted ch s) := by
  unfold execReadmitted
  with_reducible
    apply KR.next; extract_lets +onlyGivenNames _; extract_lets +onlyGivenNames _; apply Keeps.ite; assumption
    extract_lets +onlyGivenNames _; extract_lets +onlyGivenNames y; refine (fun _ : Keeps s0 y => ?_) ?_; clear_value y
    extract_lets +onlyGivenNames y; refine (fun _ : Keeps s0 y => ?_) ?_; clear_value y; apply State.retryShares_keeps
    apply State.log_keeps; apply State.setFld_keeps; assumption; unfold y; apply Keeps.ite; assumption; apply State.commit_keeps
    assumption; unfold y; apply State.setCh_keeps; assumption

theorem execMarkClear_keeps {s0 : State} {ch : ChId} {rank : Fin 16} {sub : Bool} {s : State} (h_s : Keeps s0 s) : KR s0
    (execMarkClear ch rank sub s) := by
  unfold execMarkClear
  with_reducible
    apply KR.next; apply State.clearMark_keeps; assumption

theorem execSaveIntentProgrammed_keeps {s0 s : State} (h_s : Keeps s0 s) : KR s0 (execSaveIntentProgrammed s) := by
  unfold execSaveIntentProgrammed
  with_reducible
    apply KR.next; apply Keeps.ite; assumption; extract_lets +onlyGivenNames _; extract_lets +onlyGivenNames _
    extract_lets +onlyGivenNames y; refine (fun _ : Keeps s0 y => ?_) ?_; clear_value y; refine Keeps.mk ?_ rfl rfl; assumption; unfold y
    apply State.setImage_keeps; assumption

theorem execTwinFlushCutoff_keeps {s0 s : State} (h_s : Keeps s0 s) : KR s0 (execTwinFlushCutoff s) := by
  unfold execTwinFlushCutoff
  with_reducible
    apply KR.next; apply Keeps.ite; apply State.cutFlush_keeps; assumption; assumption

theorem execSaveStreamDone_keeps {s0 : State} {bad : List Nat} {s : State} (h_s : Keeps s0 s) : KR s0 (execSaveStreamDone bad s) := by
  unfold execSaveStreamDone
  with_reducible
    apply KR.next; apply Keeps.ite; assumption; extract_lets +onlyGivenNames _; extract_lets +onlyGivenNames _
    extract_lets +onlyGivenNames _; extract_lets +onlyGivenNames _; extract_lets +onlyGivenNames _
    extract_lets +onlyGivenNames y; refine (fun _ : Keeps s0 y => ?_) ?_; clear_value y; extract_lets +onlyGivenNames f391
    extract_lets +onlyGivenNames y; refine (fun _ : Keeps s0 y => ?_) ?_; clear_value y; refine Keeps.mk ?_ rfl rfl; assumption; unfold y
    refine Keeps.foldl ?_ fun _ _ _ => ?_; assumption; unfold f391; extract_lets +onlyGivenNames _; apply Keeps.ite
    apply State.setPage_keeps; assumption; assumption; unfold y; apply State.setImage_keeps; assumption

theorem execSaveMetadataDone_keeps {s0 s : State} (h_s : Keeps s0 s) : KR s0 (execSaveMetadataDone s) := by
  unfold execSaveMetadataDone
  with_reducible
    apply KR.next; apply Keeps.ite; assumption; extract_lets +onlyGivenNames y; refine (fun _ : Keeps s0 y => ?_) ?_; clear_value y
    extract_lets +onlyGivenNames _; extract_lets +onlyGivenNames _
    extract_lets +onlyGivenNames y; refine (fun _ : Keeps s0 y => ?_) ?_; clear_value y; refine Keeps.mk ?_ rfl rfl; assumption; unfold y
    apply State.setImage_keeps; assumption; unfold y; apply State.cutFlush_keeps; assumption

theorem State.countCycles_keeps {s0 s : State} (h_s : Keeps s0 s) : Keeps s0 (State.countCycles s) := by
  unfold State.countCycles
  with_reducible
    extract_lets +onlyGivenNames _; refine Keeps.mk ?_ rfl rfl; assumption

theorem State.warmReturn_keeps {s0 s : State} {us : Nat} (h_s : Keeps s0 s) : Keeps s0 (State.warmReturn s us) := by
  unfold State.warmReturn
  with_reducible
    extract_lets +onlyGivenNames _; extract_lets +onlyGivenNames _
    extract_lets +onlyGivenNames y; refine (fun _ : Keeps s0 y => ?_) ?_; clear_value y
    extract_lets +onlyGivenNames y; refine (fun _ : Keeps s0 y => ?_) ?_; clear_value y; extract_lets +onlyGivenNames _
    extract_lets +onlyGivenNames y; refine (fun _ : Keeps s0 y => ?_) ?_; clear_value y
    extract_lets +onlyGivenNames y; refine (fun _ : Keeps s0 y => ?_) ?_; clear_value y
    extract_lets +onlyGivenNames y; refine (fun _ : Keeps s0 y => ?_) ?_; clear_value y; extract_lets +onlyGivenNames f392
    apply State.settleWarm_keeps; refine Keeps.foldl ?_ fun _ _ _ => ?_; assumption; unfold f392; extract_lets +onlyGivenNames _; split
    assumption; assumption; apply State.setChState_keeps; apply State.setCh_keeps; assumption; unfold y
    refine Keeps.foldl ?_ fun _ _ _ => ?_; assumption; apply State.endPlan_keeps; assumption; unfold y; apply State.log_keeps
    apply State.enterService_keeps; assumption; unfold y; refine Keeps.mk ?_ rfl rfl; assumption; unfold y
    refine Keeps.foldl ?_ fun _ _ _ => ?_; assumption; apply State.setPage_keeps; assumption; unfold y; apply State.setImage_keeps
    assumption

theorem execSaveSealed_keeps {s0 : State} {straps : Straps} {s : State} (h_s : Keeps s0 s) : KR s0 (execSaveSealed straps s) := by
  unfold execSaveSealed
  with_reducible
    apply KR.next; apply Keeps.ite; assumption; extract_lets +onlyGivenNames _; extract_lets +onlyGivenNames _
    extract_lets +onlyGivenNames _; extract_lets +onlyGivenNames y; refine (fun _ : Keeps s0 y => ?_) ?_
    extract_lets +onlyGivenNames y; refine (fun _ : Keeps s0 y => ?_) ?_; extract_lets +onlyGivenNames _
    extract_lets +onlyGivenNames y; refine (fun _ : Keeps s0 y => ?_) ?_
    extract_lets +onlyGivenNames y; refine (fun _ : Keeps s0 y => ?_) ?_; clear_value y; apply State.decideSaveReqs_keeps; assumption
    unfold y; apply Keeps.ite; apply State.warmReturn_keeps; assumption; apply Keeps.ite; apply State.enterBoot_keeps; assumption
    apply State.enterStandby_keeps; assumption; unfold y; refine Keeps.mk ?_ rfl rfl; assumption; unfold y; apply State.countCycles_keeps
    apply State.log_keeps; assumption; unfold y; apply State.setImage_keeps; assumption

theorem State.setSensor_keeps {s0 s : State} {i : Nat} {x : Sensor} (h_s : Keeps s0 s) : Keeps s0 (State.setSensor s i x) := by
  unfold State.setSensor
  with_reducible
    refine Keeps.mk ?_ rfl rfl; assumption

theorem State.setPack_keeps {s0 s : State} {p : Nat} {x : Pack} (h_s : Keeps s0 s) : Keeps s0 (State.setPack s p x) := by
  unfold State.setPack
  with_reducible
    refine Keeps.mk ?_ rfl rfl; assumption

theorem State.setPackState_keeps {s0 s : State} {p : Nat} {st : PackState} (h_s : Keeps s0 s) : Keeps s0 (State.setPackState s p st) :=
    by
  unfold State.setPackState
  with_reducible
    extract_lets +onlyGivenNames _; extract_lets +onlyGivenNames _; apply State.sensorChange_keeps; apply State.log_keeps
    apply State.setPack_keeps; assumption

theorem State.planReduce_keeps {s0 s : State} {packs : List Nat} {image : Nat} {mbps : Option Nat} (h_s : Keeps s0 s) : Keeps s0
    (State.planReduce s packs image mbps) := by
  unfold State.planReduce
  with_reducible
    split; extract_lets +onlyGivenNames _; refine Keeps.mk ?_ rfl rfl; assumption

theorem State.declChanged_keeps {s0 s : State} (h_s : Keeps s0 s) : Keeps s0 (State.declChanged s) := by
  unfold State.declChanged
  with_reducible
    apply Keeps.ite; assumption; apply Keeps.ite; apply State.planReduce_keeps; assumption; assumption

theorem State.protectAgain_keeps {s0 s : State} (h_s : Keeps s0 s) : Keeps s0 (State.protectAgain s) := by
  unfold State.protectAgain
  with_reducible
    apply Keeps.ite; extract_lets +onlyGivenNames _; refine Keeps.mk ?_ rfl rfl; assumption; assumption

theorem State.decideGuard_keeps {s0 s : State} (h_s : Keeps s0 s) : Keeps s0 (State.decideGuard s) := by
  unfold State.decideGuard
  with_reducible
    extract_lets +onlyGivenNames _; extract_lets +onlyGivenNames _; extract_lets +onlyGivenNames _; extract_lets +onlyGivenNames _
    extract_lets +onlyGivenNames y; refine (fun _ : Keeps s0 y => ?_) ?_; clear_value y; extract_lets +onlyGivenNames _
    extract_lets +onlyGivenNames y; refine (fun _ : Keeps s0 y => ?_) ?_; clear_value y
    extract_lets +onlyGivenNames y; refine (fun _ : Keeps s0 y => ?_) ?_; clear_value y
    extract_lets +onlyGivenNames y; refine (fun _ : Keeps s0 y => ?_) ?_; clear_value y
    extract_lets +onlyGivenNames y; refine (fun _ : Keeps s0 y => ?_) ?_; clear_value y; apply State.protectAgain_keeps; assumption
    unfold y; apply Keeps.ite; assumption; apply Keeps.ite; apply State.releaseThrough_keeps; assumption; assumption; unfold y
    apply State.reeval_keeps; apply State.stackSensor_keeps; apply State.sensorChange_keeps; assumption; unfold y; apply State.log_keeps
    assumption; unfold y; refine Keeps.mk ?_ rfl rfl; assumption; unfold y; refine Keeps.mk ?_ rfl rfl; assumption

theorem State.decideStallRisk_keeps {s0 s : State} (h_s : Keeps s0 s) : Keeps s0 (State.decideStallRisk s) := by
  unfold State.decideStallRisk
  with_reducible
    extract_lets +onlyGivenNames _; extract_lets +onlyGivenNames _; extract_lets +onlyGivenNames _
    extract_lets +onlyGivenNames y; refine (fun _ : Keeps s0 y => ?_) ?_; clear_value y; extract_lets +onlyGivenNames _
    extract_lets +onlyGivenNames _; extract_lets +onlyGivenNames y; refine (fun _ : Keeps s0 y => ?_) ?_; clear_value y; apply Keeps.ite
    apply State.log_keeps; assumption; assumption; unfold y; refine Keeps.mk ?_ rfl rfl; assumption; unfold y; refine Keeps.mk ?_ rfl rfl
    assumption

theorem State.setCeiling_keeps {s0 s : State} {c : Nat} (h_s : Keeps s0 s) : Keeps s0 (State.setCeiling s c) := by
  unfold State.setCeiling
  with_reducible
    extract_lets +onlyGivenNames _; extract_lets +onlyGivenNames _
    extract_lets +onlyGivenNames y; refine (fun _ : Keeps s0 y => ?_) ?_; clear_value y; extract_lets +onlyGivenNames _
    extract_lets +onlyGivenNames y; refine (fun _ : Keeps s0 y => ?_) ?_; clear_value y; apply Keeps.ite
    refine Keeps.repeat ?_ fun _ _ => ?_; assumption; apply State.releaseOne_keeps; assumption; assumption; unfold y; apply Keeps.ite
    apply State.log_keeps; assumption; assumption; unfold y; refine Keeps.mk ?_ rfl rfl; assumption

theorem State.plannedDone_keeps {s0 s : State} (h_s : Keeps s0 s) : Keeps s0 (State.plannedDone s) := by
  unfold State.plannedDone
  with_reducible
    refine Keeps.foldl ?_ fun _ _ _ => ?_; assumption; extract_lets +onlyGivenNames _; split
    extract_lets +onlyGivenNames y; refine (fun _ : Keeps s0 y => ?_) ?_; clear_value y; split; apply State.endOp_keeps; assumption
    assumption; unfold y; apply State.setPackState_keeps; apply State.setPack_keeps; assumption; apply Keeps.ite
    apply State.setPack_keeps; assumption; assumption

theorem State.decideCeiling_keeps {s0 s : State} (h_s : Keeps s0 s) : Keeps s0 (State.decideCeiling s) := by
  unfold State.decideCeiling
  with_reducible
    extract_lets +onlyGivenNames _; extract_lets +onlyGivenNames f399; split; unfold f399; apply Keeps.ite; apply Keeps.ite
    apply State.setCeiling_keeps; refine Keeps.mk ?_ rfl rfl; assumption; refine Keeps.mk ?_ rfl rfl; refine Keeps.mk ?_ rfl rfl
    assumption; extract_lets +onlyGivenNames _; extract_lets +onlyGivenNames _; apply Keeps.ite; apply State.setCeiling_keeps
    refine Keeps.mk ?_ rfl rfl; assumption; refine Keeps.mk ?_ rfl rfl; refine Keeps.mk ?_ rfl rfl; assumption
    extract_lets +onlyGivenNames _; apply Keeps.ite; extract_lets +onlyGivenNames _
    extract_lets +onlyGivenNames y; refine (fun _ : Keeps s0 y => ?_) ?_; clear_value y; apply State.plannedDone_keeps; apply Keeps.ite
    apply State.setCeiling_keeps; assumption; unfold f399; apply Keeps.ite; apply Keeps.ite; apply State.setCeiling_keeps; assumption
    refine Keeps.mk ?_ rfl rfl; assumption; extract_lets +onlyGivenNames _; apply Keeps.ite; apply State.setCeiling_keeps; assumption
    refine Keeps.mk ?_ rfl rfl; assumption; unfold y; refine Keeps.mk ?_ rfl rfl; assumption
    extract_lets +onlyGivenNames y; refine (fun _ : Keeps s0 y => ?_) ?_; clear_value y; refine Keeps.mk ?_ rfl rfl; assumption; unfold y
    unfold f399; apply Keeps.ite; apply Keeps.ite; apply State.setCeiling_keeps; assumption; refine Keeps.mk ?_ rfl rfl; assumption
    extract_lets +onlyGivenNames _; apply Keeps.ite; apply State.setCeiling_keeps; assumption; refine Keeps.mk ?_ rfl rfl; assumption

theorem State.startPackTest_keeps {s0 s : State} {p : Nat} (h_s : Keeps s0 s) : Keeps s0 (State.startPackTest s p) := by
  unfold State.startPackTest
  with_reducible
    extract_lets +onlyGivenNames _; apply Keeps.ite; assumption; apply Keeps.ite; apply State.setPack_keeps; assumption
    extract_lets +onlyGivenNames y; refine (fun _ : Keeps s0 y => ?_) ?_; clear_value y; extract_lets +onlyGivenNames _; apply Keeps.ite
    apply State.log_keeps; apply State.setPack_keeps; assumption
    extract_lets +onlyGivenNames y; refine (fun _ : Keeps s0 y => ?_) ?_; clear_value y; extract_lets +onlyGivenNames _
    extract_lets +onlyGivenNames y; refine (fun _ : Keeps s0 y => ?_) ?_; clear_value y; apply State.planReduce_keeps; assumption
    unfold y; apply State.setPack_keeps; assumption; unfold y; apply State.setPackState_keeps; assumption; unfold y
    apply State.setPack_keeps; assumption

theorem State.abandonTest_keeps {s0 s : State} {p : Nat} (h_s : Keeps s0 s) : Keeps s0 (State.abandonTest s p) := by
  unfold State.abandonTest
  with_reducible
    extract_lets +onlyGivenNames _; apply Keeps.ite; assumption; apply State.log_keeps; apply State.setPack_keeps; assumption

theorem State.checkPacks_keeps {s0 s : State} (h_s : Keeps s0 s) : Keeps s0 (State.checkPacks s) := by
  unfold State.checkPacks
  with_reducible
    refine Keeps.foldl ?_ fun _ _ _ => ?_; assumption; extract_lets +onlyGivenNames _; apply Keeps.ite; assumption; split; apply Keeps.ite
    apply State.setPackState_keeps; assumption; apply Keeps.ite; apply State.startPackTest_keeps; assumption; assumption; apply Keeps.ite
    apply State.startPackTest_keeps; assumption; assumption; assumption

theorem State.measureEnergy_keeps {s0 s : State} (h_s : Keeps s0 s) : Keeps s0 (State.measureEnergy s) := by
  unfold State.measureEnergy
  with_reducible
    extract_lets +onlyGivenNames _; extract_lets +onlyGivenNames _
    extract_lets +onlyGivenNames y; refine (fun _ : Keeps s0 y => ?_) ?_; clear_value y; extract_lets +onlyGivenNames _
    refine Keeps.mk ?_ rfl rfl; assumption; unfold y; refine Keeps.foldl ?_ fun _ _ _ => ?_; assumption; extract_lets +onlyGivenNames _
    apply Keeps.ite; assumption; extract_lets +onlyGivenNames _; apply State.setPack_keeps; assumption

theorem State.recompute_keeps {s0 s : State} {i : Nat} {t : Int} (h_s : Keeps s0 s) : Keeps s0 (State.recompute s i t) := by
  unfold State.recompute
  with_reducible
    split; apply State.setSensor_keeps; assumption

theorem State.publish_keeps {s0 s : State} {raw : List (Nat × Int)} (h_s : Keeps s0 s) : Keeps s0 (State.publish s raw) := by
  unfold State.publish
  with_reducible
    extract_lets +onlyGivenNames y; refine (fun _ : Keeps s0 y => ?_) ?_; clear_value y
    extract_lets +onlyGivenNames y; refine (fun _ : Keeps s0 y => ?_) ?_; clear_value y; extract_lets +onlyGivenNames f398
    extract_lets +onlyGivenNames y; refine (fun _ : Keeps s0 y => ?_) ?_; clear_value y; apply Keeps.ite
    extract_lets +onlyGivenNames y; refine (fun _ : Keeps s0 y => ?_) ?_; clear_value y; refine Keeps.mk ?_ rfl rfl; assumption; unfold y
    refine Keeps.foldl ?_ fun _ _ _ => ?_; assumption; apply State.recompute_keeps; assumption; assumption; unfold y
    refine Keeps.foldl ?_ fun _ _ _ => ?_; assumption; unfold f398; extract_lets +onlyGivenNames _; extract_lets +onlyGivenNames _
    extract_lets +onlyGivenNames _; apply Keeps.ite; apply State.setSensor_keeps; assumption; apply Keeps.ite; apply State.recompute_keeps
    apply State.setSensor_keeps; assumption; extract_lets +onlyGivenNames _; apply State.setSensor_keeps; assumption; unfold y
    apply Keeps.ite; refine Keeps.foldl ?_ fun _ _ _ => ?_; assumption; apply State.setSensor_keeps; assumption; assumption; unfold y
    assumption

theorem State.thermalChecks_keeps {s0 s : State} {i : Nat} (h_s : Keeps s0 s) : Keeps s0 (State.thermalChecks s i) := by
  unfold State.thermalChecks
  with_reducible
    extract_lets +onlyGivenNames _; extract_lets +onlyGivenNames _; extract_lets +onlyGivenNames _; extract_lets +onlyGivenNames _
    extract_lets +onlyGivenNames y; refine (fun _ : Keeps s0 y => ?_) ?_; clear_value y; extract_lets +onlyGivenNames f395
    extract_lets +onlyGivenNames y; refine (fun _ : Keeps s0 y => ?_) ?_; clear_value y
    extract_lets +onlyGivenNames y; refine (fun _ : Keeps s0 y => ?_) ?_; clear_value y; extract_lets +onlyGivenNames _
    extract_lets +onlyGivenNames y; refine (fun _ : Keeps s0 y => ?_) ?_; clear_value y; apply Keeps.ite
    extract_lets +onlyGivenNames y; refine (fun _ : Keeps s0 y => ?_) ?_; clear_value y; apply Keeps.ite; refine Keeps.mk ?_ rfl rfl
    assumption; apply KP.snd; apply State.modeRequest_keeps; assumption; unfold y; apply State.log_keeps; assumption; assumption; unfold y
    apply Keeps.ite; refine Keeps.mk ?_ rfl rfl; assumption; assumption; unfold y; apply Keeps.ite; apply State.log_keeps; unfold f395
    apply State.platformEvent_keeps; assumption; assumption; unfold y; apply Keeps.ite; apply State.log_keeps; unfold f395
    apply State.platformEvent_keeps; assumption; assumption; unfold y; apply State.setSensor_keeps; assumption

theorem State.railChecks_keeps {s0 s : State} {i : Nat} (h_s : Keeps s0 s) : Keeps s0 (State.railChecks s i) := by
  unfold State.railChecks
  with_reducible
    split; assumption; extract_lets +onlyGivenNames _; extract_lets +onlyGivenNames _
    extract_lets +onlyGivenNames y; refine (fun _ : Keeps s0 y => ?_) ?_; clear_value y; apply Keeps.ite; assumption
    apply State.log_keeps; apply State.platformEvent_keeps; assumption; unfold y; apply State.setSensor_keeps; assumption

theorem State.checkThresholds_keeps {s0 s : State} {is_ : List Nat} (h_s : Keeps s0 s) : Keeps s0 (State.checkThresholds s is_) := by
  unfold State.checkThresholds
  with_reducible
    extract_lets +onlyGivenNames y; refine (fun _ : Keeps s0 y => ?_) ?_; clear_value y
    extract_lets +onlyGivenNames y; refine (fun _ : Keeps s0 y => ?_) ?_; clear_value y; apply Keeps.ite; refine Keeps.mk ?_ rfl rfl
    assumption; assumption; unfold y; refine Keeps.foldl ?_ fun _ _ _ => ?_; assumption; apply State.railChecks_keeps; assumption
    unfold y; refine Keeps.foldl ?_ fun _ _ _ => ?_; assumption; apply State.thermalChecks_keeps; assumption

theorem State.applyTrims_keeps {s0 s : State} (h_s : Keeps s0 s) : Keeps s0 (State.applyTrims s) := by
  unfold State.applyTrims
  with_reducible
    extract_lets +onlyGivenNames _; extract_lets +onlyGivenNames _
    extract_lets +onlyGivenNames y; refine (fun _ : Keeps s0 y => ?_) ?_; clear_value y; extract_lets +onlyGivenNames _
    extract_lets +onlyGivenNames y; refine (fun _ : Keeps s0 y => ?_) ?_; clear_value y
    extract_lets +onlyGivenNames y; refine (fun _ : Keeps s0 y => ?_) ?_; clear_value y; apply State.log_keeps; assumption; unfold y
    refine Keeps.foldl ?_ fun _ _ _ => ?_; assumption; apply Keeps.ite; apply State.setSensor_keeps; assumption; assumption; unfold y
    refine Keeps.foldl ?_ fun _ _ _ => ?_; assumption; apply State.setSensor_keeps; assumption; unfold y; refine Keeps.mk ?_ rfl rfl
    assumption

theorem execTrimCommit_keeps {s0 s : State} (h_s : Keeps s0 s) : KR s0 (execTrimCommit s) := by
  unfold execTrimCommit
  with_reducible
    apply KR.next; apply Keeps.ite; apply State.applyTrims_keeps; assumption; refine Keeps.mk ?_ rfl rfl; assumption

theorem execTrimReload_keeps {s0 s : State} (h_s : Keeps s0 s) : KR s0 (execTrimReload s) := by
  unfold execTrimReload
  with_reducible
    apply KR.next; extract_lets +onlyGivenNames _; refine Keeps.mk ?_ rfl rfl; assumption

theorem execSampleFrame_keeps {s0 : State} {raw : List (Nat × Int)} {s : State} (h_s : Keeps s0 s) : KR s0 (execSampleFrame raw s) := by
  unfold execSampleFrame
  with_reducible
    apply KR.next; extract_lets +onlyGivenNames _; apply Keeps.ite; assumption; extract_lets +onlyGivenNames _
    extract_lets +onlyGivenNames y; refine (fun _ : Keeps s0 y => ?_) ?_; clear_value y
    extract_lets +onlyGivenNames y; refine (fun _ : Keeps s0 y => ?_) ?_; clear_value y; apply Keeps.ite; assumption
    apply State.decideStallRisk_keeps; apply State.decideGuard_keeps; apply State.decideCeiling_keeps; apply State.measureEnergy_keeps
    apply State.checkPacks_keeps; assumption; unfold y; apply State.checkThresholds_keeps; apply State.publish_keeps; assumption; unfold y
    apply Keeps.ite; apply State.applyTrims_keeps; assumption; assumption

theorem execPackInsert_keeps {s0 : State} {p : PackNo} {s : State} (h_s : Keeps s0 s) : KR s0 (execPackInsert p s) := by
  unfold execPackInsert
  with_reducible
    apply KR.next; apply Keeps.ite; apply State.setPackState_keeps; apply State.setPack_keeps; assumption; assumption

theorem execPackIdentifyDone_keeps {s0 : State} {p : PackNo} {id : Option PackId} {s : State} (h_s : Keeps s0 s) : KR s0
    (execPackIdentifyDone p id s) := by
  unfold execPackIdentifyDone
  with_reducible
    apply KR.next; extract_lets +onlyGivenNames _; apply Keeps.ite; assumption; extract_lets +onlyGivenNames f396; split; unfold f396
    apply State.setPackState_keeps; apply State.log_keeps; assumption; extract_lets +onlyGivenNames _
    extract_lets +onlyGivenNames y; refine (fun _ : Keeps s0 y => ?_) ?_; clear_value y; apply Keeps.ite; apply State.setPackState_keeps
    apply State.log_keeps; assumption; apply Keeps.ite; apply State.setPackState_keeps; apply State.log_keeps; assumption
    apply State.setPackState_keeps; assumption; unfold y; apply State.setPack_keeps; assumption

theorem execPackRemove_keeps {s0 : State} {p : PackNo} {s : State} (h_s : Keeps s0 s) : KR s0 (execPackRemove p s) := by
  unfold execPackRemove
  with_reducible
    apply KR.next; extract_lets +onlyGivenNames _; extract_lets +onlyGivenNames _; apply Keeps.ite; assumption
    extract_lets +onlyGivenNames y; refine (fun _ : Keeps s0 y => ?_) ?_; clear_value y; split; apply State.endCancelled_keeps; assumption
    assumption; unfold y; apply State.setPack_keeps; apply State.setPackState_keeps; assumption

theorem execPackTestRequest_keeps {s0 : State} {p : PackNo} {s : State} (h_s : Keeps s0 s) : KR s0 (execPackTestRequest p s) := by
  unfold execPackTestRequest
  with_reducible
    apply KR.next; extract_lets +onlyGivenNames _; apply Keeps.ite; assumption; apply State.startPackTest_keeps; apply State.setPack_keeps
    assumption

theorem execPackTestScheduled_keeps {s0 : State} {p : PackNo} {s : State} (h_s : Keeps s0 s) : KR s0 (execPackTestScheduled p s) := by
  unfold execPackTestScheduled
  with_reducible
    apply KR.next; apply Keeps.ite; apply State.startPackTest_keeps; assumption; assumption

theorem execPackTestRetry_keeps {s0 : State} {p : PackNo} {s : State} (h_s : Keeps s0 s) : KR s0 (execPackTestRetry p s) := by
  unfold execPackTestRetry
  with_reducible
    apply KR.next; apply Keeps.ite; apply State.startPackTest_keeps; assumption; assumption

theorem execPackTestDone_keeps {s0 : State} {p : PackNo} {v0 v1 v2 us : Nat} {s : State} (h_s : Keeps s0 s) : KR s0
    (execPackTestDone p v0 v1 v2 us s) := by
  unfold execPackTestDone
  with_reducible
    apply KR.next; extract_lets +onlyGivenNames _; extract_lets +onlyGivenNames _; apply Keeps.ite; assumption
    extract_lets +onlyGivenNames _; extract_lets +onlyGivenNames _; extract_lets +onlyGivenNames _; extract_lets +onlyGivenNames _
    extract_lets +onlyGivenNames _; extract_lets +onlyGivenNames y; refine (fun _ : Keeps s0 y => ?_) ?_; clear_value y
    extract_lets +onlyGivenNames y; refine (fun _ : Keeps s0 y => ?_) ?_; clear_value y; apply State.setPackState_keeps; assumption
    unfold y; apply State.log_keeps; assumption; unfold y; apply State.setPack_keeps; assumption

theorem execPackRelease_keeps {s0 : State} {d : Desc} {s : State} (h_s : Keeps s0 s) : KR s0 (execPackRelease d s) := by
  unfold execPackRelease
  with_reducible
    apply KR.next; apply State.take_keeps; assumption; intro _ _; extract_lets +onlyGivenNames _; extract_lets +onlyGivenNames _; split
    apply State.complete_keeps; assumption; apply State.complete_keeps; assumption; apply State.complete_keeps
    apply State.setPackState_keeps; assumption; apply State.complete_keeps; apply State.setPackState_keeps; assumption
    apply State.complete_keeps; apply State.setPackState_keeps; assumption; apply Keeps.ite; apply State.complete_keeps; assumption
    extract_lets +onlyGivenNames _; extract_lets +onlyGivenNames y; refine (fun _ : Keeps s0 y => ?_) ?_; clear_value y
    extract_lets +onlyGivenNames _; extract_lets +onlyGivenNames _; extract_lets +onlyGivenNames _; apply Keeps.ite
    apply State.complete_keeps; assumption; extract_lets +onlyGivenNames y; refine (fun _ : Keeps s0 y => ?_) ?_; clear_value y
    extract_lets +onlyGivenNames _; extract_lets +onlyGivenNames y; refine (fun _ : Keeps s0 y => ?_) ?_; clear_value y
    apply State.planReduce_keeps; apply State.startOp_keeps; assumption; unfold y; apply State.setPack_keeps; assumption; unfold y
    apply State.abandonTest_keeps; assumption; unfold y; apply State.setPack_keeps; assumption; apply Keeps.ite
    apply State.complete_keeps; assumption; extract_lets +onlyGivenNames _
    extract_lets +onlyGivenNames y; refine (fun _ : Keeps s0 y => ?_) ?_; clear_value y; extract_lets +onlyGivenNames _
    extract_lets +onlyGivenNames _; extract_lets +onlyGivenNames _; apply Keeps.ite; apply State.complete_keeps; assumption
    extract_lets +onlyGivenNames y; refine (fun _ : Keeps s0 y => ?_) ?_; clear_value y; extract_lets +onlyGivenNames _
    extract_lets +onlyGivenNames y; refine (fun _ : Keeps s0 y => ?_) ?_; clear_value y; apply State.planReduce_keeps
    apply State.startOp_keeps; assumption; unfold y; apply State.setPack_keeps; assumption; unfold y; apply State.abandonTest_keeps
    assumption; unfold y; apply State.setPack_keeps; assumption; apply Keeps.ite; apply State.complete_keeps; assumption
    extract_lets +onlyGivenNames _; extract_lets +onlyGivenNames y; refine (fun _ : Keeps s0 y => ?_) ?_; clear_value y
    extract_lets +onlyGivenNames _; extract_lets +onlyGivenNames _; extract_lets +onlyGivenNames _; apply Keeps.ite
    apply State.complete_keeps; assumption; extract_lets +onlyGivenNames y; refine (fun _ : Keeps s0 y => ?_) ?_; clear_value y
    extract_lets +onlyGivenNames _; extract_lets +onlyGivenNames y; refine (fun _ : Keeps s0 y => ?_) ?_; clear_value y
    apply State.planReduce_keeps; apply State.startOp_keeps; assumption; unfold y; apply State.setPack_keeps; assumption; unfold y
    apply State.abandonTest_keeps; assumption; unfold y; apply State.setPack_keeps; assumption

theorem State.setCc_keeps {s0 s : State} {c : Cc} (h_s : Keeps s0 s) : Keeps s0 (State.setCc s c) := by
  unfold State.setCc
  with_reducible
    refine Keeps.mk ?_ rfl rfl; assumption

theorem State.logMismatch_keeps {s0 s : State} (h_s : Keeps s0 s) : Keeps s0 (State.logMismatch s) := by
  unfold State.logMismatch
  with_reducible
    split; apply State.setCc_keeps; apply State.log_keeps; assumption; assumption

theorem execCcMismatch_keeps {s0 : State} {ecc : Bool} {clocks : Nat} {s : State} (h_s : Keeps s0 s) : KR s0
    (execCcMismatch ecc clocks s) := by
  unfold execCcMismatch
  with_reducible
    apply KR.next; extract_lets +onlyGivenNames _; extract_lets +onlyGivenNames _; apply Keeps.ite; assumption
    extract_lets +onlyGivenNames _; apply Keeps.ite; apply State.setCc_keeps; assumption; apply Keeps.ite; apply State.setCc_keeps
    assumption; apply State.setCc_keeps; assumption

theorem execCcSwitchover_keeps {s0 : State} {gap replay suppressed : Nat} {s : State} (h_s : Keeps s0 s) : KR s0
    (execCcSwitchover gap replay suppressed s) := by
  unfold execCcSwitchover
  with_reducible
    apply KR.next; split; extract_lets +onlyGivenNames _; extract_lets +onlyGivenNames _
    extract_lets +onlyGivenNames y; refine (fun _ : Keeps s0 y => ?_) ?_; clear_value y; apply State.log_keeps
    apply State.logMismatch_keeps; assumption; unfold y; apply State.setCc_keeps; assumption; assumption

theorem execCcShortSelftestDone_keeps {s0 : State} {passA passB passS : Bool} {s : State} (h_s : Keeps s0 s) : KR s0
    (execCcShortSelftestDone passA passB passS s) := by
  unfold execCcShortSelftestDone
  with_reducible
    apply KR.next; apply Keeps.ite; assumption; extract_lets +onlyGivenNames _; extract_lets +onlyGivenNames _
    extract_lets +onlyGivenNames _; split; apply State.setCc_keeps; assumption; apply State.logMismatch_keeps; apply State.setCc_keeps
    assumption

theorem execCcSelftest_keeps {s0 : State} {passA passB passS : Bool} {pause : Nat} {s : State} (h_s : Keeps s0 s) : KR s0
    (execCcSelftest passA passB passS pause s) := by
  unfold execCcSelftest
  with_reducible
    apply KR.next; extract_lets +onlyGivenNames _; apply Keeps.ite; assumption; extract_lets +onlyGivenNames _
    extract_lets +onlyGivenNames _; extract_lets +onlyGivenNames _; extract_lets +onlyGivenNames _
    extract_lets +onlyGivenNames y; refine (fun _ : Keeps s0 y => ?_) ?_; clear_value y
    extract_lets +onlyGivenNames y; refine (fun _ : Keeps s0 y => ?_) ?_; clear_value y; clear_value *; split; apply State.log_keeps
    assumption; assumption; apply State.log_keeps; assumption; unfold y; refine Keeps.foldl ?_ fun _ _ _ => ?_; assumption
    apply State.log_keeps; assumption; unfold y; apply State.setCc_keeps; assumption

theorem execStandbySelftestRound_keeps {s0 : State} {pass : Bool} {s : State} (h_s : Keeps s0 s) : KR s0
    (execStandbySelftestRound pass s) := by
  unfold execStandbySelftestRound
  with_reducible
    apply KR.next; split; assumption; apply Keeps.ite; assumption; apply Keeps.ite; apply State.setCc_keeps; assumption
    extract_lets +onlyGivenNames _; extract_lets +onlyGivenNames _; extract_lets +onlyGivenNames _; extract_lets +onlyGivenNames _
    extract_lets +onlyGivenNames y; refine (fun _ : Keeps s0 y => ?_) ?_; clear_value y; apply Keeps.ite; apply State.log_keeps
    assumption; assumption; unfold y; apply State.log_keeps; apply State.setCc_keeps; assumption

theorem execCheckpoint_keeps {s0 s : State} (h_s : Keeps s0 s) : KR s0 (execCheckpoint s) := by
  unfold execCheckpoint
  with_reducible
    apply KR.next; apply Keeps.ite; assumption; extract_lets +onlyGivenNames _
    extract_lets +onlyGivenNames y; refine (fun _ : Keeps s0 y => ?_) ?_; clear_value y; apply Keeps.ite; apply State.setCc_keeps
    assumption; assumption; unfold y; apply State.setCc_keeps; assumption

theorem execForceSwitch_keeps {s0 : State} {who : Writer} {s : State} (h_s : Keeps s0 s) : KR s0 (execForceSwitch who s) := by
  unfold execForceSwitch
  with_reducible
    apply KR.next; apply Keeps.ite; apply State.reject_keeps; assumption; apply State.setCc_keeps; assumption

theorem State.wdtAct_keeps {s0 s : State} {cause : Nat} {ckptOk : Bool} (h_s : Keeps s0 s) : Keeps s0 (State.wdtAct s cause ckptOk) :=
    by
  unfold State.wdtAct
  with_reducible
    extract_lets +onlyGivenNames _; extract_lets +onlyGivenNames _; extract_lets +onlyGivenNames _
    extract_lets +onlyGivenNames y; refine (fun _ : Keeps s0 y => ?_) ?_; clear_value y
    extract_lets +onlyGivenNames y; refine (fun _ : Keeps s0 y => ?_) ?_; clear_value y; apply State.countStart_keeps
    apply State.log_keeps; assumption; unfold y; refine Keeps.mk ?_ rfl rfl; assumption; unfold y; apply State.setCc_keeps; assumption

theorem State.wdtExpire_keeps {s0 s : State} {cause : Nat} {ckptOk : Bool} (h_s : Keeps s0 s) : Keeps s0
    (State.wdtExpire s cause ckptOk) := by
  unfold State.wdtExpire
  with_reducible
    apply Keeps.ite; assumption; apply Keeps.ite; apply State.setCc_keeps; assumption; apply State.wdtAct_keeps; assumption

theorem State.wdtResume_keeps {s0 s : State} (h_s : Keeps s0 s) : Keeps s0 (State.wdtResume s) := by
  unfold State.wdtResume
  with_reducible
    split; apply Keeps.ite; assumption; apply State.wdtAct_keeps; apply State.log_keeps; assumption; assumption

theorem execWdtKick_keeps {s0 : State} {key : BitVec 16} {ckptOk : Bool} {s : State} (h_s : Keeps s0 s) : KR s0
    (execWdtKick key ckptOk s) := by
  unfold execWdtKick
  with_reducible
    apply KR.next; apply Keeps.ite; assumption; apply Keeps.ite; apply State.setCc_keeps; assumption; apply Keeps.ite
    extract_lets +onlyGivenNames _; extract_lets +onlyGivenNames y; refine (fun _ : Keeps s0 y => ?_) ?_; clear_value y
    extract_lets +onlyGivenNames _; extract_lets +onlyGivenNames _; apply Keeps.ite; apply State.wdtExpire_keeps; assumption
    apply Keeps.ite; apply State.setCc_keeps; assumption; assumption; unfold y; apply State.setCc_keeps; assumption
    apply State.setCc_keeps; assumption

theorem execWdtExpire_keeps {s0 : State} {ckptOk : Bool} {s : State} (h_s : Keeps s0 s) : KR s0 (execWdtExpire ckptOk s) := by
  unfold execWdtExpire
  with_reducible
    apply KR.next; apply State.wdtExpire_keeps; assumption

theorem State.coldRestart_keeps {s0 s : State} (h_s : Keeps s0 s) : Keeps s0 (State.coldRestart s) := by
  unfold State.coldRestart
  with_reducible
    extract_lets +onlyGivenNames _; extract_lets +onlyGivenNames _
    extract_lets +onlyGivenNames y; refine (fun _ : Keeps s0 y => ?_) ?_; clear_value y
    extract_lets +onlyGivenNames y; refine (fun _ : Keeps s0 y => ?_) ?_; clear_value y; extract_lets +onlyGivenNames _
    extract_lets +onlyGivenNames _; extract_lets +onlyGivenNames y; refine (fun _ : Keeps s0 y => ?_) ?_; clear_value y
    extract_lets +onlyGivenNames y; refine (fun _ : Keeps s0 y => ?_) ?_; clear_value y; apply State.resumeSession_keeps; assumption
    unfold y; refine Keeps.foldl ?_ fun _ _ _ => ?_; assumption; apply State.endPlan_keeps; assumption; unfold y
    refine Keeps.mk ?_ rfl rfl; assumption; unfold y; refine Keeps.foldl ?_ fun _ _ _ => ?_; refine Keeps.mk ?_ rfl rfl; assumption; split
    apply State.emit_keeps; assumption; assumption; unfold y; refine Keeps.foldl ?_ fun _ _ _ => ?_; assumption; split
    apply State.emit_keeps; assumption; assumption

theorem execCcRestartDone_keeps {s0 : State} {coreA coreB coreS : Bool} {badA badB : Option (Fin 7)} {s : State} (h_s : Keeps s0 s) : KR
    s0 (execCcRestartDone coreA coreB coreS badA badB s) := by
  unfold execCcRestartDone
  with_reducible
    apply KR.next; split; extract_lets +onlyGivenNames _; extract_lets +onlyGivenNames _; extract_lets +onlyGivenNames _
    extract_lets +onlyGivenNames y; refine (fun _ : Keeps s0 y => ?_) ?_; clear_value y
    extract_lets +onlyGivenNames y; refine (fun _ : Keeps s0 y => ?_) ?_; clear_value y
    extract_lets +onlyGivenNames y; refine (fun _ : Keeps s0 y => ?_) ?_; clear_value y
    extract_lets +onlyGivenNames y; refine (fun _ : Keeps s0 y => ?_) ?_; clear_value y; split; extract_lets +onlyGivenNames _
    apply State.setCc_keeps; assumption; unfold y; apply Keeps.ite; apply KP.snd; apply State.selectImage_keeps; assumption; assumption
    unfold y; apply Keeps.ite; apply State.coldRestart_keeps; assumption; assumption; unfold y; apply State.completeErases_keeps
    assumption; unfold y; refine Keeps.mk ?_ rfl rfl; assumption; extract_lets +onlyGivenNames _; extract_lets +onlyGivenNames _
    extract_lets +onlyGivenNames _; extract_lets +onlyGivenNames y; refine (fun _ : Keeps s0 y => ?_) ?_; clear_value y
    extract_lets +onlyGivenNames y; refine (fun _ : Keeps s0 y => ?_) ?_; clear_value y
    extract_lets +onlyGivenNames y; refine (fun _ : Keeps s0 y => ?_) ?_; clear_value y
    extract_lets +onlyGivenNames y; refine (fun _ : Keeps s0 y => ?_) ?_; clear_value y; split; extract_lets +onlyGivenNames _
    apply State.setCc_keeps; assumption; unfold y; apply Keeps.ite; apply KP.snd; apply State.selectImage_keeps; assumption; assumption
    unfold y; apply Keeps.ite; apply State.coldRestart_keeps; assumption; assumption; unfold y; apply State.completeErases_keeps
    assumption; unfold y; refine Keeps.mk ?_ rfl rfl; assumption; assumption

end Sys2Proof.Laws
end

