-- ==== Sys2Proof/Laws/KeepsUnits.lean ====
section
/-!
SUPPORT. What the operations and commands of code flash, events, security, tests and NAND commands keep (`Keeps`).
-/
namespace Sys2Proof.Laws

open Machine Safety

set_option Elab.async false

theorem State.flashAnswer_keeps {s0 s : State} {st : Status} (h_s : Keeps s0 s) : Keeps s0 (State.flashAnswer s st) := by
  unfold State.flashAnswer
  with_reducible
    apply State.emit_keeps; assumption

theorem State.reprogram_keeps {s0 s : State} {off : Nat} (h_s : Keeps s0 s) : Keeps s0 (State.reprogram s off) := by
  unfold State.reprogram
  with_reducible
    apply State.flashAnswer_keeps; apply State.log_keeps; apply State.bump_keeps; assumption

theorem State.bankConflict_keeps {s0 s : State} {bank : Nat} (h_s : Keeps s0 s) : Keeps s0 (State.bankConflict s bank) := by
  unfold State.bankConflict
  with_reducible
    apply State.flashAnswer_keeps; apply State.logLim_keeps; apply State.bump_keeps; assumption

theorem State.beginFlash_keeps {s0 s : State} {o : FlashOp} (h_s : Keeps s0 s) : Keeps s0 (State.beginFlash s o) := by
  unfold State.beginFlash
  with_reducible
    extract_lets +onlyGivenNames _; apply Keeps.ite; refine Keeps.mk ?_ rfl rfl; assumption; split; apply State.reprogram_keeps
    assumption; extract_lets +onlyGivenNames y; refine (fun _ : Keeps s0 y => ?_) ?_; clear_value y; refine Keeps.mk ?_ rfl rfl
    assumption; unfold y; apply Keeps.ite; apply State.mark_keeps; assumption; assumption

theorem State.startFlash_keeps {s0 s : State} (h_s : Keeps s0 s) : Keeps s0 (State.startFlash s) := by
  unfold State.startFlash
  with_reducible
    refine Keeps.foldl ?_ fun _ _ _ => ?_; refine Keeps.mk ?_ rfl rfl; assumption; apply State.beginFlash_keeps; assumption

theorem execFlashProgram_keeps {s0 : State} {off : Nat} {words : List (BitVec 256)} {s : State} (h_s : Keeps s0 s) : KR s0
    (execFlashProgram off words s) := by
  unfold execFlashProgram
  with_reducible
    apply KR.next; extract_lets +onlyGivenNames _; extract_lets +onlyGivenNames _; apply Keeps.ite; apply State.flashAnswer_keeps
    assumption; apply Keeps.ite; apply State.flashAnswer_keeps; assumption; apply Keeps.ite; apply State.flashAnswer_keeps
    refine Keeps.mk ?_ rfl rfl; assumption; apply Keeps.ite; apply State.bankConflict_keeps; assumption; split
    apply State.reprogram_keeps; assumption; apply State.beginFlash_keeps; apply State.flashAnswer_keeps; assumption

theorem execFlashErase_keeps {s0 : State} {off sectors : Nat} {s : State} (h_s : Keeps s0 s) : KR s0 (execFlashErase off sectors s) :=
    by
  unfold execFlashErase
  with_reducible
    apply KR.next; extract_lets +onlyGivenNames _; apply Keeps.ite; apply State.flashAnswer_keeps; assumption; apply Keeps.ite
    apply State.flashAnswer_keeps; assumption; apply Keeps.ite; apply State.flashAnswer_keeps; refine Keeps.mk ?_ rfl rfl; assumption
    apply Keeps.ite; apply State.bankConflict_keeps; assumption; apply Keeps.ite; apply State.flashAnswer_keeps; assumption
    apply State.beginFlash_keeps; apply State.flashAnswer_keeps; assumption

theorem State.pulse_keeps {s0 s : State} {o : FlashOp} (h_s : Keeps s0 s) : KQ s0 (State.pulse s o) := by
  unfold State.pulse
  with_reducible
    apply KQ.ite; extract_lets +onlyGivenNames _; extract_lets +onlyGivenNames y; refine (fun _ : Keeps s0 y => ?_) ?_; clear_value y
    extract_lets +onlyGivenNames _; apply KQ.ite; apply KQ.mk; assumption; apply KQ.mk; apply State.mark_keeps; assumption; unfold y
    apply State.mark_keeps; apply State.eraseRange_keeps; assumption; extract_lets +onlyGivenNames _
    extract_lets +onlyGivenNames y; refine (fun _ : Keeps s0 y => ?_) ?_; clear_value y; apply KQ.ite; apply KQ.mk; assumption
    apply KQ.mk; assumption; unfold y; refine Keeps.foldl ?_ fun _ _ _ => ?_; assumption; apply State.putFlash_keeps; assumption

theorem State.setFlashOp_keeps {s0 s : State} {o : FlashOp} {x : Option FlashOp} (h_s : Keeps s0 s) : Keeps s0 (State.setFlashOp s o x)
    := by
  unfold State.setFlashOp
  with_reducible
    refine Keeps.mk ?_ rfl rfl; assumption

theorem execFlashPulseDone_keeps {s0 : State} {bank : Fin 2} {how : PulseEnd} {s : State} (h_s : Keeps s0 s) : KR s0
    (execFlashPulseDone bank how s) := by
  unfold execFlashPulseDone
  with_reducible
    apply KR.next; split; assumption; extract_lets +onlyGivenNames y; refine (fun _ : Keeps s0 y => ?_) ?_; clear_value y; split
    apply State.startFlash_keeps; assumption; apply Keeps.ite; assumption; apply State.wdtAct_keeps; apply State.log_keeps; assumption
    unfold y; split; assumption; apply State.setFlashOp_keeps; apply State.bump_keeps; assumption; split; apply State.setFlashOp_keeps
    refine KQ.of_eq (by assumption) ?_; apply State.pulse_keeps; assumption

theorem execFlashOpResume_keeps {s0 : State} {bank : Fin 2} {s : State} (h_s : Keeps s0 s) : KR s0 (execFlashOpResume bank s) := by
  unfold execFlashOpResume
  with_reducible
    apply KR.next; split; split; apply Keeps.ite; assumption; apply State.setFlashOp_keeps; assumption; assumption; assumption

theorem execFlsEraseStarved_keeps {s0 : State} {bank : Fin 2} {s : State} (h_s : Keeps s0 s) : KR s0 (execFlsEraseStarved bank s) := by
  unfold execFlsEraseStarved
  with_reducible
    apply KR.next; split; extract_lets +onlyGivenNames _; apply State.log_keeps; apply State.setFlashOp_keeps; assumption; assumption

theorem execFlsBrownout_keeps {s0 s : State} (h_s : Keeps s0 s) : KR s0 (execFlsBrownout s) := by
  unfold execFlsBrownout
  with_reducible
    apply KR.next; apply Keeps.ite; assumption; apply State.log_keeps; refine Keeps.mk ?_ rfl rfl; assumption

theorem execRecordPortWrite_keeps {s0 s : State} (h_s : Keeps s0 s) : KR s0 (execRecordPortWrite s) := by
  unfold execRecordPortWrite
  apply KR.next
  split
  · exact h_s
  · refine Keeps.ite h_s ?_
    split
    · next t _ r _ =>
      have hp : Keeps s0 (({ s with portQueue := t } : State).portWrite false (codeWord (r.words.map BitVec.toNat))).2 :=
        State.portWrite_keeps (Keeps.mk h_s rfl rfl)
      exact Keeps.ite (Keeps.mk' hp (recsOk_map fun r => by split <;> rfl) id) hp
    · next w _ =>
      have hp : KP s0 (s.portWrite true w) := State.portWrite_keeps h_s
      split
      · exact Keeps.mk (KP.of_eq (by assumption) hp) rfl rfl
      · exact h_s

theorem execSessionEraseDone_keeps {s0 s : State} (h_s : Keeps s0 s) : KR s0 (execSessionEraseDone s) := by
  unfold execSessionEraseDone
  with_reducible
    apply KR.next; extract_lets +onlyGivenNames _; apply Keeps.ite; assumption; extract_lets +onlyGivenNames _
    extract_lets +onlyGivenNames _; extract_lets +onlyGivenNames _; extract_lets +onlyGivenNames _; apply State.startFlash_keeps
    apply State.askData_keeps; apply State.openSession_keeps; apply State.eraseRange_keeps; refine Keeps.mk ?_ rfl rfl; assumption

theorem State.offerBlock_keeps {s0 s : State} (h_s : Keeps s0 s) : Keeps s0 (State.offerBlock s) := by
  unfold State.offerBlock
  with_reducible
    extract_lets +onlyGivenNames _; extract_lets +onlyGivenNames _; apply Keeps.ite; assumption; extract_lets +onlyGivenNames _
    apply State.queueCtrl_keeps; assumption

theorem execVerifyDone_keeps {s0 : State} {ecdsa mldsa : Bool} {badDigest : Option Nat} {s : State} (h_s : Keeps s0 s) : KR s0
    (execVerifyDone ecdsa mldsa badDigest s) := by
  unfold execVerifyDone
  with_reducible
    apply KR.next; extract_lets +onlyGivenNames _; extract_lets +onlyGivenNames f398; apply Keeps.ite; assumption; split; unfold f398
    apply Keeps.ite; apply State.emit_keeps; apply State.log_keeps; apply State.sigFail_keeps; apply State.setSess_keeps; assumption
    apply State.log_keeps; apply State.sigFail_keeps; apply State.setSess_keeps; assumption; extract_lets +onlyGivenNames _
    extract_lets +onlyGivenNames _; extract_lets +onlyGivenNames y; refine (fun _ : Keeps s0 y => ?_) ?_; clear_value y
    extract_lets +onlyGivenNames y; refine (fun _ : Keeps s0 y => ?_) ?_; clear_value y; apply Keeps.ite; apply State.offerBlock_keeps
    assumption; assumption; unfold y; unfold f398; apply Keeps.ite; apply State.emit_keeps; apply Keeps.ite; apply State.emit_keeps
    apply State.sessRecord_keeps; assumption; apply State.sessRecord_keeps; assumption; apply Keeps.ite; apply State.emit_keeps
    apply State.sessRecord_keeps; assumption; apply State.sessRecord_keeps; assumption; unfold y; apply State.setSess_keeps
    apply State.setSlot_keeps; assumption

theorem execAbort_keeps {s0 : State} {who : Writer} {s : State} (h_s : Keeps s0 s) : KR s0 (execAbort who s) := by
  unfold execAbort
  with_reducible
    apply KR.next; extract_lets +onlyGivenNames _; apply Keeps.ite; apply State.reject_keeps; assumption; apply Keeps.ite
    apply State.abortSession_keeps; assumption; assumption

theorem execSessionIdleTimeout_keeps {s0 s : State} (h_s : Keeps s0 s) : KR s0 (execSessionIdleTimeout s) := by
  unfold execSessionIdleTimeout
  with_reducible
    apply KR.next; apply Keeps.ite; apply State.abortSession_keeps; assumption; assumption

theorem execUpdBlock_keeps {s0 : State} {member : Fin 6} {off : BitVec 32} {bytes : List Byte} {s : State} (h_s : Keeps s0 s) : KR s0
    (execUpdBlock member off bytes s) := by
  unfold execUpdBlock
  with_reducible
    apply KR.next; apply Keeps.ite; apply State.tellMembers_keeps; assumption; split; extract_lets +onlyGivenNames _
    extract_lets +onlyGivenNames y; refine (fun _ : Keeps s0 y => ?_) ?_; clear_value y; apply State.tellMembers_keeps; assumption
    unfold y; apply Keeps.ite; apply KP.snd; apply State.endTransfer_keeps; refine KP.of_eq (by assumption) ?_
    apply State.sourceBlock_keeps; assumption; refine KP.of_eq (by assumption) ?_; apply State.sourceBlock_keeps; assumption

theorem execUpdStatus_keeps {s0 : State} {st off : Nat} {busy : Bool} {s : State} (h_s : Keeps s0 s) : KR s0
    (execUpdStatus st off busy s) := by
  unfold execUpdStatus
  with_reducible
    apply KR.next; extract_lets +onlyGivenNames _; apply Keeps.ite; assumption; apply Keeps.ite; apply State.setSess_keeps; assumption
    extract_lets +onlyGivenNames y; refine (fun _ : Keeps s0 y => ?_) ?_; clear_value y; apply Keeps.ite; apply State.offerBlock_keeps
    assumption; assumption; unfold y; apply State.setSess_keeps; assumption

theorem execTwinOfferRetry_keeps {s0 s : State} (h_s : Keeps s0 s) : KR s0 (execTwinOfferRetry s) := by
  unfold execTwinOfferRetry
  with_reducible
    apply KR.next; apply Keeps.ite; apply State.offerBlock_keeps; assumption; assumption

theorem State.schedule_keeps {s0 s : State} (h_s : Keeps s0 s) : Keeps s0 (State.schedule s) := by
  unfold State.schedule
  with_reducible
    extract_lets +onlyGivenNames _; apply Keeps.ite; extract_lets +onlyGivenNames y; refine (fun _ : Keeps s0 y => ?_) ?_; clear_value y
    apply State.log_keeps; assumption; unfold y; apply State.sessRecord_keeps; apply State.setSess_keeps; assumption; assumption

theorem State.requestActivation_keeps {s0 s : State} {t : Nat} (h_s : Keeps s0 s) : KP s0 (State.requestActivation s t) := by
  unfold State.requestActivation
  with_reducible
    extract_lets +onlyGivenNames _; extract_lets +onlyGivenNames _; extract_lets +onlyGivenNames f398; apply KP.ite; unfold f398
    apply KP.mk; apply State.actRefused_keeps; assumption; apply KP.ite; unfold f398; apply KP.mk; apply State.actRefused_keeps
    assumption; apply KP.ite; unfold f398; apply KP.mk; apply State.actRefused_keeps; assumption; apply KP.ite; unfold f398; apply KP.mk
    apply State.actRefused_keeps; assumption; apply KP.ite; split; unfold f398; apply KP.mk; apply State.actRefused_keeps
    refine KP.of_eq (by assumption) ?_; apply State.fresh_keeps; assumption; extract_lets +onlyGivenNames _
    extract_lets +onlyGivenNames y; refine (fun _ : Keeps s0 y => ?_) ?_; clear_value y; extract_lets +onlyGivenNames _; apply KP.mk
    apply State.schedule_keeps; apply State.tellMembers_keeps; assumption; unfold y; apply State.setSess_keeps; assumption

theorem State.requestOffline_keeps {s0 s : State} (h_s : Keeps s0 s) : KP s0 (State.requestOffline s) := by
  unfold State.requestOffline
  with_reducible
    extract_lets +onlyGivenNames _; apply KP.ite; apply KP.mk; apply State.setSess_keeps; assumption; apply KP.mk
    apply State.actRefused_keeps; assumption

theorem execActPropose_keeps {s0 : State} {member : Fin 6} {t : Nat} {ver : Word} {level : Fin 16} {floor : Word} {s : State}
    (h_s : Keeps s0 s) : KR s0 (execActPropose member t ver level floor s) := by
  unfold execActPropose
  with_reducible
    apply KR.next; extract_lets +onlyGivenNames _; extract_lets +onlyGivenNames _; apply Keeps.ite; apply State.tellMembers_keeps
    assumption; extract_lets +onlyGivenNames _; extract_lets +onlyGivenNames y; refine (fun _ : Keeps s0 y => ?_) ?_; clear_value y
    extract_lets +onlyGivenNames y; refine (fun _ : Keeps s0 y => ?_) ?_; clear_value y; apply State.schedule_keeps
    apply State.tellMembers_keeps; assumption; unfold y; apply Keeps.ite; apply State.tellMembers_keeps; assumption; assumption; unfold y
    apply State.setSess_keeps; assumption

theorem State.groupRefuses_keeps {s0 s : State} {member reason : Nat} (h_s : Keeps s0 s) : Keeps s0 (State.groupRefuses s member reason)
    := by
  unfold State.groupRefuses
  with_reducible
    extract_lets +onlyGivenNames _; apply State.actRefused_keeps; apply State.tellMembers_keeps; assumption

theorem execActVote_keeps {s0 : State} {member : Fin 6} {yes : Bool} {reason : Nat} {s : State} (h_s : Keeps s0 s) : KR s0
    (execActVote member yes reason s) := by
  unfold execActVote
  with_reducible
    apply KR.next; extract_lets +onlyGivenNames _; apply Keeps.ite; assumption; apply Keeps.ite; apply State.schedule_keeps
    apply State.setSess_keeps; assumption; apply State.groupRefuses_keeps; assumption

theorem execActVoteDeadline_keeps {s0 s : State} (h_s : Keeps s0 s) : KR s0 (execActVoteDeadline s) := by
  unfold execActVoteDeadline
  with_reducible
    apply KR.next; extract_lets +onlyGivenNames _; apply Keeps.ite; assumption; split; apply State.groupRefuses_keeps; assumption
    assumption

theorem execActivationTime_keeps {s0 s : State} (h_s : Keeps s0 s) : KR s0 (execActivationTime s) := by
  unfold execActivationTime
  with_reducible
    apply KR.next; extract_lets +onlyGivenNames _; apply Keeps.ite; apply State.sessRecord_keeps; apply State.setSess_keeps; assumption
    assumption

theorem State.setBttLevel_keeps {s0 s : State} {n : Nat} (h_s : Keeps s0 s) : Keeps s0 (State.setBttLevel s n) := by
  unfold State.setBttLevel
  with_reducible
    apply Keeps.ite; assumption; extract_lets +onlyGivenNames _; extract_lets +onlyGivenNames y; refine (fun _ : Keeps s0 y => ?_) ?_
    apply Keeps.ite; apply State.setTwinState_keeps; assumption; apply Keeps.ite; apply State.leaveUp_keeps; apply State.log_keeps
    assumption; assumption; unfold y; refine Keeps.mk ?_ rfl rfl; assumption

theorem execUpdComponentSwap_keeps {s0 : State} {stop : Nat} {ok : Bool} {s : State} (h_s : Keeps s0 s) : KR s0
    (execUpdComponentSwap stop ok s) := by
  unfold execUpdComponentSwap
  with_reducible
    apply KR.next; extract_lets +onlyGivenNames _; apply Keeps.ite; assumption; extract_lets +onlyGivenNames _; split
    extract_lets +onlyGivenNames y; refine (fun _ : Keeps s0 y => ?_) ?_; clear_value y; apply Keeps.ite; apply State.setBttLevel_keeps
    assumption; apply Keeps.ite; assumption; apply Keeps.ite; apply Keeps.ite; apply State.startTrial_keeps; assumption
    apply State.revert_keeps; assumption; refine Keeps.mk ?_ rfl rfl; assumption; unfold y; apply State.log_keeps
    apply State.setSess_keeps; assumption

theorem execConfirm_keeps {s0 : State} {who : Writer} {s : State} (h_s : Keeps s0 s) : KR s0 (execConfirm who s) := by
  unfold execConfirm
  with_reducible
    apply KR.next; apply Keeps.ite; apply State.reject_keeps; assumption; apply Keeps.ite; apply State.confirm_keeps; assumption
    assumption

theorem State.autoConfirm_keeps {s0 s : State} (h_s : Keeps s0 s) : Keeps s0 (State.autoConfirm s) := by
  unfold State.autoConfirm
  with_reducible
    extract_lets +onlyGivenNames _; extract_lets +onlyGivenNames _; apply Keeps.ite; apply State.confirm_keeps; assumption; assumption

theorem execTrialSElapsed_keeps {s0 s : State} (h_s : Keeps s0 s) : KR s0 (execTrialSElapsed s) := by
  unfold execTrialSElapsed
  with_reducible
    apply KR.next; extract_lets +onlyGivenNames _; apply Keeps.ite; assumption; apply State.autoConfirm_keeps
    apply State.tellMembers_keeps; apply State.setSess_keeps; assumption

theorem execActOutcome_keeps {s0 : State} {member : Fin 6} {what : TrialOutcome} {s : State} (h_s : Keeps s0 s) : KR s0
    (execActOutcome member what s) := by
  unfold execActOutcome
  with_reducible
    apply KR.next; extract_lets +onlyGivenNames _; apply Keeps.ite; assumption; split; apply Keeps.ite; apply State.revert_keeps
    assumption; assumption; apply State.autoConfirm_keeps; apply State.setSess_keeps; assumption

theorem execRevert_keeps {s0 : State} {who : Writer} {s : State} (h_s : Keeps s0 s) : KR s0 (execRevert who s) := by
  unfold execRevert
  with_reducible
    apply KR.next; extract_lets +onlyGivenNames _; apply Keeps.ite; apply State.reject_keeps; assumption; apply Keeps.ite
    apply State.revert_keeps; assumption; assumption

theorem execConfirmSExpiry_keeps {s0 s : State} (h_s : Keeps s0 s) : KR s0 (execConfirmSExpiry s) := by
  unfold execConfirmSExpiry
  with_reducible
    apply KR.next; extract_lets +onlyGivenNames _; apply Keeps.ite; apply State.revert_keeps; assumption; apply Keeps.ite
    apply State.actRefused_keeps; apply State.setSess_keeps; assumption; assumption

theorem execRevertDone_keeps {s0 s : State} (h_s : Keeps s0 s) : KR s0 (execRevertDone s) := by
  unfold execRevertDone
  with_reducible
    apply KR.next; apply Keeps.ite; apply State.endSession_keeps; assumption; assumption

theorem execEvtAck_keeps {s0 : State} {seq : BitVec 32} {s : State} (h_s : Keeps s0 s) : KR s0 (execEvtAck seq s) := by
  unfold execEvtAck
  exact KR.next (Keeps.mk' h_s (recsOk_map fun r => by split <;> rfl) id)

theorem execEventLimitIntervalEnd_keeps {s0 : State} {code : BitVec 16} {key : Nat} {s : State} (h_s : Keeps s0 s) : KR s0
    (execEventLimitIntervalEnd code key s) := by
  unfold execEventLimitIntervalEnd
  with_reducible
    apply KR.next; extract_lets +onlyGivenNames _; split; assumption; extract_lets +onlyGivenNames _
    extract_lets +onlyGivenNames y; refine (fun _ : Keeps s0 y => ?_) ?_; clear_value y; apply State.place_keeps; assumption; unfold y
    refine Keeps.mk ?_ rfl rfl; assumption

theorem execCfgRejectWindowEnd_keeps {s0 s : State} (h_s : Keeps s0 s) : KR s0 (execCfgRejectWindowEnd s) := by
  unfold execCfgRejectWindowEnd
  with_reducible
    apply KR.next; split; assumption; extract_lets +onlyGivenNames _
    extract_lets +onlyGivenNames y; refine (fun _ : Keeps s0 y => ?_) ?_; clear_value y; split; assumption; apply State.place_keeps
    assumption; unfold y; refine Keeps.mk ?_ rfl rfl; assumption

theorem execEvtSlotCheckFail_keeps {s0 : State} {slot : Fin 8192} {s : State} (h_s : Keeps s0 s) : KR s0 (execEvtSlotCheckFail slot s)
    := by
  unfold execEvtSlotCheckFail
  with_reducible
    apply KR.next; apply State.bump_keeps; refine Keeps.mk' ?_ ?_ ?_; assumption; intro _
    with_unfolding_all exact recsOk_filter (by assumption); intro _; assumption

theorem execErrClear_keeps {s0 : State} {reg : ErrReg} {s : State} (h_s : Keeps s0 s) : KR s0 (execErrClear reg s) := by
  unfold execErrClear
  with_reducible
    apply KR.next; split; apply State.setFld_keeps; apply State.setFld_keeps; apply State.setFld_keeps; assumption
    apply State.setFld_keeps; apply State.setFld_keeps; apply State.setFld_keeps; assumption; apply State.setFld_keeps
    apply State.setFld_keeps; apply State.setFld_keeps; assumption

theorem State.cwErr_keeps {s0 s : State} {c code : Nat} (h_s : Keeps s0 s) : Keeps s0 (State.cwErr s c code) := by
  unfold State.cwErr
  with_reducible
    apply State.noteErr_keeps; assumption

theorem State.setJct_keeps {s0 s : State} {k : Nat} {x : JctLink} (h_s : Keeps s0 s) : Keeps s0 (State.setJct s k x) := by
  unfold State.setJct
  with_reducible
    refine Keeps.mk ?_ rfl rfl; assumption

theorem execJunctionError_keeps {s0 : State} {link : Fin 8} {s : State} (h_s : Keeps s0 s) : KR s0 (execJunctionError link s) := by
  unfold execJunctionError
  with_reducible
    apply KR.next; extract_lets +onlyGivenNames _; apply Keeps.ite; assumption; extract_lets +onlyGivenNames _
    extract_lets +onlyGivenNames _; extract_lets +onlyGivenNames y; refine (fun _ : Keeps s0 y => ?_) ?_; clear_value y
    extract_lets +onlyGivenNames _; apply Keeps.ite; extract_lets +onlyGivenNames y; refine (fun _ : Keeps s0 y => ?_) ?_; clear_value y
    apply Keeps.ite; apply State.cwErr_keeps; assumption; assumption; unfold y; apply State.setJct_keeps; assumption
    apply State.setJct_keeps; assumption; unfold y; apply Keeps.ite; apply State.cwErr_keeps; assumption; assumption

theorem execJctRetrainDone_keeps {s0 : State} {link : Fin 8} {errored : Bool} {spares0 spares1 : Fin 3} {s : State} (h_s : Keeps s0 s) :
    KR s0 (execJctRetrainDone link errored spares0 spares1 s) := by
  unfold execJctRetrainDone
  with_reducible
    apply KR.next; extract_lets +onlyGivenNames _; apply Keeps.ite; assumption; apply Keeps.ite; apply State.setJct_keeps; assumption
    extract_lets +onlyGivenNames _; extract_lets +onlyGivenNames y; refine (fun _ : Keeps s0 y => ?_) ?_; clear_value y; apply Keeps.ite
    assumption; extract_lets +onlyGivenNames y; refine (fun _ : Keeps s0 y => ?_) ?_; clear_value y; extract_lets +onlyGivenNames f388
    unfold f388; apply Keeps.ite; apply State.log_keeps; apply State.cwErr_keeps; apply Keeps.ite; apply State.log_keeps
    apply State.cwErr_keeps; assumption; assumption; apply Keeps.ite; apply State.log_keeps; apply State.cwErr_keeps; assumption
    assumption; unfold y; apply State.log_keeps; assumption; unfold y; apply State.setJct_keeps; assumption

theorem execTagqInvalidate_keeps {s0 : State} {quarter : CwId} {s : State} (h_s : Keeps s0 s) : KR s0 (execTagqInvalidate quarter s) :=
    by
  unfold execTagqInvalidate
  with_reducible
    apply KR.next; apply State.logLim_keeps; apply State.cwErr_keeps; assumption

theorem execTierEngineFault_keeps {s0 : State} {cw : CwId} {s : State} (h_s : Keeps s0 s) : KR s0 (execTierEngineFault cw s) := by
  unfold execTierEngineFault
  with_reducible
    apply KR.next; extract_lets +onlyGivenNames _; extract_lets +onlyGivenNames _; extract_lets +onlyGivenNames _
    extract_lets +onlyGivenNames _; extract_lets +onlyGivenNames _
    extract_lets +onlyGivenNames y; refine (fun _ : Keeps s0 y => ?_) ?_; clear_value y; apply Keeps.ite; apply State.log_keeps
    apply State.cwErr_keeps; assumption; assumption; unfold y; apply State.cwErr_keeps; refine Keeps.mk ?_ rfl rfl; assumption

theorem execArbCommit_keeps {s0 : State} {cw : CwId} {who : Writer} {s : State} (h_s : Keeps s0 s) : KR s0 (execArbCommit cw who s) :=
    by
  unfold execArbCommit
  with_reducible
    apply KR.next; extract_lets +onlyGivenNames _; extract_lets +onlyGivenNames _; extract_lets +onlyGivenNames _
    extract_lets +onlyGivenNames _; apply Keeps.ite; assumption; apply Keeps.ite; apply State.reject_keeps; apply State.setFld_keeps
    assumption; extract_lets +onlyGivenNames _; extract_lets +onlyGivenNames _
    extract_lets +onlyGivenNames y; refine (fun _ : Keeps s0 y => ?_) ?_; clear_value y
    extract_lets +onlyGivenNames y; refine (fun _ : Keeps s0 y => ?_) ?_; clear_value y
    extract_lets +onlyGivenNames y; refine (fun _ : Keeps s0 y => ?_) ?_; clear_value y; apply State.log_keeps; assumption; unfold y
    apply State.setFld_keeps; apply State.setFld_keeps; assumption; unfold y; refine Keeps.foldl ?_ fun _ _ _ => ?_; assumption
    apply State.setRegAt_keeps; assumption; unfold y; refine Keeps.mk ?_ rfl rfl; assumption

theorem execSlotTableSwap_keeps {s0 : State} {ch : ChId} {s : State} (h_s : Keeps s0 s) : KR s0 (execSlotTableSwap ch s) := by
  unfold execSlotTableSwap
  with_reducible
    apply KR.next; split; refine Keeps.mk ?_ rfl rfl; assumption; refine Keeps.mk ?_ rfl rfl; assumption; assumption

theorem State.keyLoadChecks_keeps {s0 s : State} {d : Desc} {bad : Bool} {then_ : State → State} (h_s : Keeps s0 s)
    (h_then_ : ∀ a0, Keeps s0 a0 → Keeps s0 (then_ a0)) : Keeps s0 (State.keyLoadChecks s d bad then_) := by
  unfold State.keyLoadChecks
  with_reducible
    apply Keeps.ite; apply State.complete_keeps; assumption; apply Keeps.ite; apply State.complete_keeps; assumption; apply Keeps.ite
    apply State.complete_keeps; assumption; apply h_then_; assumption

theorem State.eraseKey_keeps {s0 s : State} {d : Desc} (h_s : Keeps s0 s) : Keeps s0 (State.eraseKey s d) := by
  unfold State.eraseKey
  with_reducible
    apply State.keyLoadChecks_keeps; assumption; intro _ _; extract_lets +onlyGivenNames _; extract_lets +onlyGivenNames _
    extract_lets +onlyGivenNames _; apply State.complete_keeps; apply State.log_keeps; apply State.setKeySlot_keeps; assumption

theorem execKeyLoad_keeps {s0 : State} {d : Desc} {key : WrappedKey} {s : State} (h_s : Keeps s0 s) : KR s0 (execKeyLoad d key s) := by
  unfold execKeyLoad
  with_reducible
    apply KR.next; apply State.take_keeps; assumption; intro _ _; extract_lets +onlyGivenNames _; extract_lets +onlyGivenNames _
    apply Keeps.ite; apply State.eraseKey_keeps; assumption; apply State.keyLoadChecks_keeps; assumption; intro _ _; split
    extract_lets +onlyGivenNames _; extract_lets +onlyGivenNames _; apply State.complete_keeps; apply State.log_keeps
    apply State.setKeySlot_keeps; assumption; apply State.complete_keeps; assumption

theorem execKeyLoadErase_keeps {s0 : State} {d : Desc} {s : State} (h_s : Keeps s0 s) : KR s0 (execKeyLoadErase d s) := by
  unfold execKeyLoadErase
  with_reducible
    apply KR.next; apply State.take_keeps; assumption; intro _ _; apply Keeps.ite; apply State.eraseKey_keeps; assumption
    apply State.complete_keeps; assumption

theorem execKeyRotate_keeps {s0 : State} {d : Desc} {s : State} (h_s : Keeps s0 s) : KR s0 (execKeyRotate d s) := by
  unfold execKeyRotate
  with_reducible
    apply KR.next; apply State.take_keeps; assumption; intro _ _; extract_lets +onlyGivenNames _; extract_lets +onlyGivenNames _
    extract_lets +onlyGivenNames _; apply Keeps.ite; apply State.complete_keeps; assumption; apply Keeps.ite; apply State.complete_keeps
    apply State.keyAbsent_keeps; assumption; apply Keeps.ite; apply State.complete_keeps; assumption; apply Keeps.ite
    apply State.complete_keeps; assumption; apply Keeps.ite; apply State.complete_keeps; assumption; extract_lets +onlyGivenNames _
    apply State.startOp_keeps; refine Keeps.mk ?_ rfl rfl; assumption

theorem State.setRotation_keeps {s0 s : State} {t : Rotation} (h_s : Keeps s0 s) : Keeps s0 (State.setRotation s t) := by
  unfold State.setRotation
  with_reducible
    refine Keeps.mk ?_ rfl rfl; assumption

theorem State.rotatePage_keeps {s0 s : State} {t : Rotation} {k : Nat} (h_s : Keeps s0 s) : KP s0 (State.rotatePage s t k) := by
  unfold State.rotatePage
  with_reducible
    extract_lets +onlyGivenNames _; extract_lets +onlyGivenNames _; extract_lets +onlyGivenNames _; extract_lets +onlyGivenNames _
    extract_lets +onlyGivenNames _; extract_lets +onlyGivenNames _; apply KP.ite; split; apply KP.mk; apply State.countPrograms_keeps
    apply State.programHome_keeps; refine KOP.of_eq (by assumption) ?_; apply State.allocHome_keeps; assumption; apply KP.mk; assumption
    apply KP.mk; assumption

theorem State.rotateStep_keeps {s0 s : State} {o : LongOp} {i : Nat} (h_s : Keeps s0 s) : Keeps s0 (State.rotateStep s o i) := by
  unfold State.rotateStep
  with_reducible
    split; assumption; extract_lets +onlyGivenNames _; extract_lets +onlyGivenNames _; extract_lets +onlyGivenNames _; apply Keeps.ite
    assumption; extract_lets +onlyGivenNames _; split; apply State.setOp_keeps; apply State.setRotation_keeps
    refine KP.of_eq (by assumption) ?_; refine KP.foldl ?_ fun _ _ _ => ?_; apply KP.mk; assumption; split; apply KP.mk
    refine KP.of_eq (by assumption) ?_; apply State.rotatePage_keeps; exact KP.snd (by assumption)

theorem execRotateDone_keeps {s0 : State} {region : Fin 4096} {s : State} (h_s : Keeps s0 s) : KR s0 (execRotateDone region s) := by
  unfold execRotateDone
  with_reducible
    apply KR.next; extract_lets +onlyGivenNames _; split; assumption; extract_lets +onlyGivenNames _; apply Keeps.ite; assumption
    extract_lets +onlyGivenNames y; refine (fun _ : Keeps s0 y => ?_) ?_; clear_value y; apply Keeps.ite; assumption
    extract_lets +onlyGivenNames _; extract_lets +onlyGivenNames y; refine (fun _ : Keeps s0 y => ?_) ?_; clear_value y
    extract_lets +onlyGivenNames y; refine (fun _ : Keeps s0 y => ?_) ?_; clear_value y; split; apply State.endOp_keeps; assumption
    assumption; unfold y; apply State.log_keeps; assumption; unfold y; refine Keeps.mk ?_ rfl rfl; assumption; unfold y; apply Keeps.ite
    assumption; apply State.commit_keeps; apply State.setRotation_keeps; assumption

theorem State.spdm_keeps {s0 s : State} {t : SpdmTransport} {cmd : Nat} {ok : Bool} {payload : List Nat} (h_s : Keeps s0 s) : Keeps s0
    (State.spdm s t cmd ok payload) := by
  unfold State.spdm
  with_reducible
    apply State.emit_keeps; assumption

theorem State.loadStored_keeps {s0 s : State} (h_s : Keeps s0 s) : KP s0 (State.loadStored s) := by
  unfold State.loadStored
  with_reducible
    extract_lets +onlyGivenNames _; apply KP.mk; refine Keeps.mk ?_ rfl rfl; assumption

theorem State.unlockFail_keeps {s0 s : State} (h_s : Keeps s0 s) : Keeps s0 (State.unlockFail s) := by
  unfold State.unlockFail
  with_reducible
    extract_lets +onlyGivenNames _; extract_lets +onlyGivenNames _; apply State.log_keeps; refine Keeps.mk ?_ rfl rfl; assumption

theorem execSetHkek_keeps {s0 : State} {t : SpdmTransport} {hkek : BitVec 256} {auth : Bool} {s : State} (h_s : Keeps s0 s) : KR s0
    (execSetHkek t hkek auth s) := by
  unfold execSetHkek
  with_reducible
    apply KR.next; apply State.request_keeps; assumption; intro _ _; apply Keeps.ite; apply State.spdm_keeps; assumption; split
    extract_lets +onlyGivenNames _; extract_lets +onlyGivenNames y; refine (fun _ : Keeps s0 y => ?_) ?_; clear_value y
    apply State.spdm_keeps; apply State.setStore_keeps; assumption; unfold y; refine Keeps.mk ?_ rfl rfl; assumption; apply Keeps.ite
    apply State.spdm_keeps; apply State.unlockFail_keeps; assumption; apply Keeps.ite; apply State.spdm_keeps; assumption; split
    extract_lets +onlyGivenNames _; extract_lets +onlyGivenNames y; refine (fun _ : Keeps s0 y => ?_) ?_; clear_value y
    apply State.spdm_keeps; apply State.log_keeps; assumption; unfold y; apply State.setStore_keeps; refine Keeps.mk ?_ rfl rfl
    refine KP.of_eq (by assumption) ?_; apply State.loadStored_keeps; assumption

theorem execSetHkekReplace_keeps {s0 : State} {t : SpdmTransport} {hkek : BitVec 256} {auth : Bool} {s : State} (h_s : Keeps s0 s) : KR
    s0 (execSetHkekReplace t hkek auth s) := by
  unfold execSetHkekReplace
  with_reducible
    apply KR.next; apply State.request_keeps; assumption; intro _ _; apply Keeps.ite; apply State.spdm_keeps; assumption
    apply State.spdm_keeps; refine Keeps.mk ?_ rfl rfl; assumption

theorem State.zeroise_keeps {s0 s : State} {st : StoreState} (h_s : Keeps s0 s) : Keeps s0 (State.zeroise s st) := by
  unfold State.zeroise
  with_reducible
    extract_lets +onlyGivenNames y; refine (fun _ : Keeps s0 y => ?_) ?_; clear_value y; extract_lets +onlyGivenNames _
    extract_lets +onlyGivenNames _; extract_lets +onlyGivenNames y; refine (fun _ : Keeps s0 y => ?_) ?_; clear_value y
    extract_lets +onlyGivenNames y; refine (fun _ : Keeps s0 y => ?_) ?_; clear_value y; apply Keeps.ite; split; apply State.leaveUp_keeps
    refine KP.of_eq (by assumption) ?_; apply State.fresh_keeps; assumption; assumption; unfold y; refine Keeps.foldl ?_ fun _ _ _ => ?_
    assumption; extract_lets +onlyGivenNames _; apply Keeps.ite; apply State.log_keeps; apply State.setLink_keeps; assumption; assumption
    unfold y; refine Keeps.mk ?_ rfl rfl; assumption; unfold y; apply State.lockStore_keeps; assumption

theorem execAlarmZeroise_keeps {s0 : State} {source : Fin 4} {writes : List Nat} {reads : Nat} {s : State} (h_s : Keeps s0 s) : KR s0
    (execAlarmZeroise source writes reads s) := by
  unfold execAlarmZeroise
  with_reducible
    apply KR.next; apply Keeps.ite; assumption; extract_lets +onlyGivenNames _; extract_lets +onlyGivenNames _
    extract_lets +onlyGivenNames _; extract_lets +onlyGivenNames _
    extract_lets +onlyGivenNames y; refine (fun _ : Keeps s0 y => ?_) ?_; clear_value y
    extract_lets +onlyGivenNames y; refine (fun _ : Keeps s0 y => ?_) ?_; clear_value y
    extract_lets +onlyGivenNames y; refine (fun _ : Keeps s0 y => ?_) ?_; clear_value y; apply State.log_keeps; assumption; unfold y
    refine Keeps.foldl ?_ fun _ _ _ => ?_; assumption; split; apply State.markDamaged_keeps; apply State.setLine_keeps; assumption
    assumption; unfold y; apply State.zeroise_keeps; assumption; unfold y; refine Keeps.mk ?_ rfl rfl; assumption

theorem execAlarmClear_keeps {s0 : State} {bits absent : BitVec 4} {s : State} (h_s : Keeps s0 s) : KR s0 (execAlarmClear bits absent s)
    := by
  unfold execAlarmClear
  with_reducible
    apply KR.next; extract_lets +onlyGivenNames _; extract_lets +onlyGivenNames _; extract_lets +onlyGivenNames _
    extract_lets +onlyGivenNames y; refine (fun _ : Keeps s0 y => ?_) ?_; extract_lets +onlyGivenNames _
    extract_lets +onlyGivenNames y; refine (fun _ : Keeps s0 y => ?_) ?_; apply Keeps.ite; apply State.setStore_keeps; assumption
    assumption; unfold y; apply Keeps.ite; refine Keeps.mk ?_ rfl rfl; assumption; assumption; unfold y; refine Keeps.mk ?_ rfl rfl
    assumption

theorem execEntropyFail_keeps {s0 : State} {test : Fin 3} {s : State} (h_s : Keeps s0 s) : KR s0 (execEntropyFail test s) := by
  unfold execEntropyFail
  with_reducible
    apply KR.next; apply Keeps.ite; apply State.log_keeps; refine Keeps.mk ?_ rfl rfl; assumption; assumption

theorem execMaskDegraded_keeps {s0 : State} {paths : Nat} {s : State} (h_s : Keeps s0 s) : KR s0 (execMaskDegraded paths s) := by
  unfold execMaskDegraded
  with_reducible
    apply KR.next; apply Keeps.ite; assumption; apply State.log_keeps; refine Keeps.mk ?_ rfl rfl; assumption

theorem execEntropyRecover_keeps {s0 s : State} (h_s : Keeps s0 s) : KR s0 (execEntropyRecover s) := by
  unfold execEntropyRecover
  with_reducible
    apply KR.next; refine Keeps.mk ?_ rfl rfl; assumption

theorem execDrbgReseed_keeps {s0 s : State} (h_s : Keeps s0 s) : KR s0 (execDrbgReseed s) := by
  unfold execDrbgReseed
  with_reducible
    apply KR.next; apply Keeps.ite; refine Keeps.mk ?_ rfl rfl; assumption; assumption

theorem execSpdmGetMeasurements_keeps {s0 : State} {t : SpdmTransport} {index : Fin 9} {auth : Bool} {s : State} (h_s : Keeps s0 s) : KR
    s0 (execSpdmGetMeasurements t index auth s) := by
  unfold execSpdmGetMeasurements
  with_reducible
    apply KR.next; apply State.request_keeps; assumption; intro _ _; apply Keeps.ite; apply State.spdm_keeps; assumption
    apply State.spdm_keeps; apply State.log_keeps; assumption

theorem execSpdmKeyExchange_keeps {s0 : State} {t : SpdmTransport} {auth keyManager : Bool} {s : State} (h_s : Keeps s0 s) : KR s0
    (execSpdmKeyExchange t auth keyManager s) := by
  unfold execSpdmKeyExchange
  with_reducible
    apply KR.next; apply State.request_keeps; assumption; intro _ _; split; apply Keeps.ite; apply State.spdm_keeps; assumption
    apply Keeps.ite; apply State.spdm_keeps; apply State.log_keeps; assumption; extract_lets +onlyGivenNames _
    extract_lets +onlyGivenNames _; extract_lets +onlyGivenNames y; refine (fun _ : Keeps s0 y => ?_) ?_; clear_value y
    apply State.spdm_keeps; assumption; unfold y; split; refine Keeps.mk ?_ rfl rfl; assumption; refine Keeps.mk ?_ rfl rfl; assumption
    refine Keeps.mk ?_ rfl rfl; assumption

theorem State.setPatrol_keeps {s0 s : State} {n : Nat} {x : Patrol} (h_s : Keeps s0 s) : Keeps s0 (State.setPatrol s n x) := by
  unfold State.setPatrol
  with_reducible
    refine Keeps.mk ?_ rfl rfl; assumption

theorem State.patrolDecode_keeps {s0 s : State} {n addr : Nat} {errs : List Nat} (h_s : Keeps s0 s) : KP s0
    (State.patrolDecode s n addr errs) := by
  unfold State.patrolDecode
  with_reducible
    extract_lets +onlyGivenNames _; extract_lets +onlyGivenNames _; extract_lets +onlyGivenNames _; extract_lets +onlyGivenNames _; split
    apply KP.ite; apply KP.mk; assumption; split; apply KP.mk; refine KP.of_eq (by assumption) ?_; apply State.decodeLine_keeps
    assumption; apply KP.mk; apply State.startRetrain_keeps; apply State.holdRead_keeps; refine KP.of_eq (by assumption) ?_
    apply State.decodeLine_keeps; assumption; split; apply KP.mk; assumption; apply KP.mk; assumption; apply KP.mk
    apply State.countCorrected_keeps; assumption; apply KP.mk; apply State.trialHit_keeps; apply State.bump_keeps; apply State.bump_keeps
    assumption; apply KP.mk; apply State.startRetrain_keeps; apply State.countUncorrectable_keeps; assumption

theorem execPatrolRead_keeps {s0 : State} {ch : ChId} {errs : List (Fin 40)} {s : State} (h_s : Keeps s0 s) : KR s0
    (execPatrolRead ch errs s) := by
  unfold execPatrolRead
  with_reducible
    apply KR.next; extract_lets +onlyGivenNames _; apply Keeps.ite; assumption; extract_lets +onlyGivenNames _
    extract_lets +onlyGivenNames _; split; extract_lets +onlyGivenNames _; apply Keeps.ite
    extract_lets +onlyGivenNames y; refine (fun _ : Keeps s0 y => ?_) ?_; clear_value y; apply State.log_keeps; assumption; unfold y
    apply State.setPatrol_keeps; refine KP.of_eq (by assumption) ?_; apply KP.ite; apply KP.mk; assumption; apply State.patrolDecode_keeps
    assumption; extract_lets +onlyGivenNames _; extract_lets +onlyGivenNames y; refine (fun _ : Keeps s0 y => ?_) ?_; clear_value y
    apply Keeps.ite; apply State.log_keeps; assumption; assumption; unfold y; apply State.setPatrol_keeps
    refine KP.of_eq (by assumption) ?_; apply KP.ite; apply KP.mk; assumption; apply State.patrolDecode_keeps; assumption

theorem execPatrolWake_keeps {s0 : State} {ch : ChId} {s : State} (h_s : Keeps s0 s) : KR s0 (execPatrolWake ch s) := by
  unfold execPatrolWake
  with_reducible
    apply KR.ite; apply execChannelWake_keeps; assumption; apply KR.next; assumption

theorem State.retireSlot_keeps {s0 s : State} {n slot : Nat} (h_s : Keeps s0 s) : Keeps s0 (State.retireSlot s n slot) := by
  unfold State.retireSlot
  with_reducible
    extract_lets +onlyGivenNames _; apply Keeps.ite; assumption; extract_lets +onlyGivenNames _
    extract_lets +onlyGivenNames y; refine (fun _ : Keeps s0 y => ?_) ?_; clear_value y; extract_lets +onlyGivenNames _
    apply State.log_keeps; assumption; unfold y; refine Keeps.mk ?_ rfl rfl; assumption

theorem execLaybyMarchSlot_keeps {s0 : State} {ch : ChId} {pass : Bool} {s : State} (h_s : Keeps s0 s) : KR s0
    (execLaybyMarchSlot ch pass s) := by
  unfold execLaybyMarchSlot
  with_reducible
    apply KR.next; extract_lets +onlyGivenNames _; apply Keeps.ite; assumption; extract_lets +onlyGivenNames _
    extract_lets +onlyGivenNames _; extract_lets +onlyGivenNames y; refine (fun _ : Keeps s0 y => ?_) ?_; clear_value y; apply Keeps.ite
    assumption; apply State.retireSlot_keeps; assumption; unfold y; refine Keeps.mk ?_ rfl rfl; assumption

theorem execDisturbPatrolRead_keeps {s0 : State} {nf : NfId} {die block : Nat} {step : Fin 13} {best : Fin 11} {s : State}
    (h_s : Keeps s0 s) : KR s0 (execDisturbPatrolRead nf die block step best s) := by
  unfold execDisturbPatrolRead
  with_reducible
    apply KR.next; extract_lets +onlyGivenNames _; extract_lets +onlyGivenNames _; extract_lets +onlyGivenNames _; apply Keeps.ite
    assumption; extract_lets +onlyGivenNames _; extract_lets +onlyGivenNames _
    extract_lets +onlyGivenNames y; refine (fun _ : Keeps s0 y => ?_) ?_; clear_value y
    extract_lets +onlyGivenNames y; refine (fun _ : Keeps s0 y => ?_) ?_; clear_value y; apply Keeps.ite; extract_lets +onlyGivenNames _
    apply State.log_keeps; apply State.nfErr_keeps; apply State.bump_keeps; assumption; extract_lets +onlyGivenNames _
    extract_lets +onlyGivenNames _; extract_lets +onlyGivenNames y; refine (fun _ : Keeps s0 y => ?_) ?_; clear_value y
    extract_lets +onlyGivenNames _; extract_lets +onlyGivenNames _; extract_lets +onlyGivenNames _
    extract_lets +onlyGivenNames y; refine (fun _ : Keeps s0 y => ?_) ?_; clear_value y; apply Keeps.ite; apply State.logLim_keeps
    assumption; assumption; unfold y; refine Keeps.mk ?_ rfl rfl; assumption; unfold y; apply State.setBlock_keeps; assumption; unfold y
    apply Keeps.ite; apply State.logLim_keeps; apply State.bump_keeps; assumption; assumption; unfold y; apply State.addFld_keeps
    assumption

theorem execEyeScanStart_keeps {s0 : State} {lane : Fin 160} {s : State} (h_s : Keeps s0 s) : KR s0 (execEyeScanStart lane s) := by
  unfold execEyeScanStart
  with_reducible
    apply KR.next; apply Keeps.ite; refine Keeps.mk ?_ rfl rfl; assumption; assumption

theorem execEyeScanDone_keeps {s0 : State} {lane : Fin 160} {height width : Nat} {kept : Bool} {s : State} (h_s : Keeps s0 s) : KR s0
    (execEyeScanDone lane height width kept s) := by
  unfold execEyeScanDone
  with_reducible
    apply KR.next; extract_lets +onlyGivenNames _; apply Keeps.ite; assumption; extract_lets +onlyGivenNames _
    extract_lets +onlyGivenNames _; extract_lets +onlyGivenNames y; refine (fun _ : Keeps s0 y => ?_) ?_; clear_value y; apply Keeps.ite
    assumption; extract_lets +onlyGivenNames _; extract_lets +onlyGivenNames _; extract_lets +onlyGivenNames _
    extract_lets +onlyGivenNames y; refine (fun _ : Keeps s0 y => ?_) ?_; clear_value y; apply Keeps.ite; apply State.log_keeps
    assumption; assumption; unfold y; refine Keeps.mk ?_ rfl rfl; assumption; unfold y; refine Keeps.mk ?_ rfl rfl; assumption

theorem State.tapLoad_keeps {s0 s : State} {op : Nat} {maint : Bool} {then_ : State → State} (h_s : Keeps s0 s)
    (h_then_ : ∀ a0, Keeps s0 a0 → Keeps s0 (then_ a0)) : Keeps s0 (State.tapLoad s op maint then_) := by
  unfold State.tapLoad
  with_reducible
    apply Keeps.ite; apply State.log_keeps; refine Keeps.mk ?_ rfl rfl; assumption; apply h_then_; refine Keeps.mk ?_ rfl rfl; assumption

theorem execIdcode_keeps {s0 s : State} (h_s : Keeps s0 s) : KR s0 (execIdcode s) := by
  unfold execIdcode
  with_reducible
    apply KR.next; apply State.tapLoad_keeps; assumption; intro _ _; apply State.emit_keeps; assumption

theorem execSamplePreload_keeps {s0 : State} {pins : Nat} {s : State} (h_s : Keeps s0 s) : KR s0 (execSamplePreload pins s) := by
  unfold execSamplePreload
  with_reducible
    apply KR.next; apply State.tapLoad_keeps; assumption; intro _ _; apply State.emit_keeps; assumption

theorem execExtest_keeps {s0 : State} {pins : Nat} {s : State} (h_s : Keeps s0 s) : KR s0 (execExtest pins s) := by
  unfold execExtest
  with_reducible
    apply KR.next; apply State.tapLoad_keeps; assumption; intro _ _; apply State.emit_keeps; assumption

theorem execExtestPulse_keeps {s0 : State} {pins : Nat} {s : State} (h_s : Keeps s0 s) : KR s0 (execExtestPulse pins s) := by
  unfold execExtestPulse
  with_reducible
    apply KR.next; apply State.tapLoad_keeps; assumption; intro _ _; apply State.emit_keeps; assumption

theorem execExtestTrain_keeps {s0 : State} {pins : Nat} {s : State} (h_s : Keeps s0 s) : KR s0 (execExtestTrain pins s) := by
  unfold execExtestTrain
  with_reducible
    apply KR.next; apply State.tapLoad_keeps; assumption; intro _ _; apply State.emit_keeps; assumption

theorem execClamp_keeps {s0 s : State} (h_s : Keeps s0 s) : KR s0 (execClamp s) := by
  unfold execClamp
  with_reducible
    apply KR.next; apply State.tapLoad_keeps; assumption; intro _ _; unfold id; assumption

theorem execHighz_keeps {s0 s : State} (h_s : Keeps s0 s) : KR s0 (execHighz s) := by
  unfold execHighz
  with_reducible
    apply KR.next; apply State.tapLoad_keeps; assumption; intro _ _; unfold id; assumption

theorem execMbist_keeps {s0 s : State} (h_s : Keeps s0 s) : KR s0 (execMbist s) := by
  unfold execMbist
  with_reducible
    apply KR.next; apply State.tapLoad_keeps; assumption; intro _ _; apply State.setFld_keeps; refine Keeps.mk ?_ rfl rfl; assumption

theorem execScan_keeps {s0 s : State} (h_s : Keeps s0 s) : KR s0 (execScan s) := by
  unfold execScan
  with_reducible
    apply KR.next; apply State.tapLoad_keeps; assumption; intro _ _
    extract_lets +onlyGivenNames y; refine (fun _ : Keeps s0 y => ?_) ?_; clear_value y; refine Keeps.mk' ?_ ?_ ?_; assumption; intro _
    assumption; intro _; with_unfolding_all rfl; unfold y; apply State.zeroise_keeps; assumption

theorem execBypass_keeps {s0 s : State} (h_s : Keeps s0 s) : KR s0 (execBypass s) := by
  unfold execBypass
  with_reducible
    apply KR.next; apply State.tapLoad_keeps; assumption; intro _ _; unfold id; assumption

theorem execBistStart_keeps {s0 : State} {who : Writer} {s : State} (h_s : Keeps s0 s) : KR s0 (execBistStart who s) := by
  unfold execBistStart
  with_reducible
    apply KR.next; apply Keeps.ite; apply State.reject_keeps; assumption; apply State.setFld_keeps; refine Keeps.mk ?_ rfl rfl; assumption

theorem execBistDone_keeps {s0 : State} {slots : List (ChId × Fin 1024)} {tagq : BitVec 4} {staging queues ckpt : Bool} {s : State}
    (h_s : Keeps s0 s) : KR s0 (execBistDone slots tagq staging queues ckpt s) := by
  unfold execBistDone
  with_reducible
    apply KR.next; apply Keeps.ite; assumption; extract_lets +onlyGivenNames _; extract_lets +onlyGivenNames _
    extract_lets +onlyGivenNames y; refine (fun _ : Keeps s0 y => ?_) ?_; clear_value y; refine Keeps.foldl ?_ fun _ _ _ => ?_; assumption
    apply State.retireSlot_keeps; assumption; unfold y; apply State.setRegAt_keeps; apply State.setFld_keeps; refine Keeps.mk ?_ rfl rfl
    assumption

theorem execModuleInsert_keeps {s0 : State} {m : Fin 4} {x : NandModule} {s : State} (h_s : Keeps s0 s) : KR s0 (execModuleInsert m x s)
    := by
  unfold execModuleInsert
  with_reducible
    apply KR.next; apply Keeps.ite; assumption; extract_lets +onlyGivenNames _
    extract_lets +onlyGivenNames y; refine (fun _ : Keeps s0 y => ?_) ?_; clear_value y; extract_lets +onlyGivenNames _; split; split
    extract_lets +onlyGivenNames y; refine (fun _ : Keeps s0 y => ?_) ?_; clear_value y; apply State.log_keeps; assumption; unfold y
    refine Keeps.foldl ?_ fun _ _ _ => ?_; refine KP.of_eq (by assumption) ?_; apply State.fresh_keeps; assumption
    apply State.nfErr_keeps; assumption; extract_lets +onlyGivenNames _; extract_lets +onlyGivenNames _; extract_lets +onlyGivenNames _
    extract_lets +onlyGivenNames y; refine (fun _ : Keeps s0 y => ?_) ?_; clear_value y; refine Keeps.foldl ?_ fun _ _ _ => ?_; assumption
    apply State.setNf_keeps; assumption; unfold y; refine Keeps.mk ?_ rfl rfl; assumption; unfold y; refine Keeps.mk ?_ rfl rfl
    assumption

theorem State.noteShrunk_keeps {s0 s : State} {before : Nat × Nat} (h_s : Keeps s0 s) : Keeps s0 (State.noteShrunk s before) := by
  unfold State.noteShrunk
  with_reducible
    extract_lets +onlyGivenNames _; extract_lets +onlyGivenNames y; refine (fun _ : Keeps s0 y => ?_) ?_; clear_value y; apply Keeps.ite
    apply State.log_keeps; assumption; assumption; unfold y; apply Keeps.ite; apply State.log_keeps; assumption; assumption

theorem State.addRehearsal_keeps {s0 s : State} {mbps : Nat} (h_s : Keeps s0 s) : Keeps s0 (State.addRehearsal s mbps) := by
  unfold State.addRehearsal
  with_reducible
    extract_lets +onlyGivenNames _; refine Keeps.mk ?_ rfl rfl; assumption

theorem State.leaveServing_keeps {s0 s : State} {n : Nat} {st : NfState} {err : Nat} (h_s : Keeps s0 s) : Keeps s0
    (State.leaveServing s n st err) := by
  unfold State.leaveServing
  with_reducible
    extract_lets +onlyGivenNames _; extract_lets +onlyGivenNames _
    extract_lets +onlyGivenNames y; refine (fun _ : Keeps s0 y => ?_) ?_; clear_value y
    extract_lets +onlyGivenNames y; refine (fun _ : Keeps s0 y => ?_) ?_; clear_value y; apply State.noteShrunk_keeps; assumption
    unfold y; apply Keeps.ite; assumption; apply State.addRehearsal_keeps; assumption; unfold y; apply State.setNfState_keeps; assumption

theorem execNandIoTrainingDone_keeps {s0 : State} {nf : NfId} {pass : Bool} {io : Fin 4} {rate : Fin 9} {s : State} (h_s : Keeps s0 s) :
    KR s0 (execNandIoTrainingDone nf pass io rate s) := by
  unfold execNandIoTrainingDone
  with_reducible
    apply KR.next; extract_lets +onlyGivenNames _; extract_lets +onlyGivenNames _; apply Keeps.ite; assumption; apply Keeps.ite
    extract_lets +onlyGivenNames y; refine (fun _ : Keeps s0 y => ?_) ?_; clear_value y; apply Keeps.ite; apply State.setNfState_keeps
    assumption; assumption; unfold y; apply State.setNf_keeps; assumption
    extract_lets +onlyGivenNames y; refine (fun _ : Keeps s0 y => ?_) ?_; clear_value y; apply Keeps.ite; assumption; split
    apply State.leaveServing_keeps; assumption; apply State.setNfState_keeps; assumption; assumption; unfold y; apply State.nfErr_keeps
    apply State.setNf_keeps; assumption

theorem execEvacuateModule_keeps {s0 : State} {d : Desc} {s : State} (h_s : Keeps s0 s) : KR s0 (execEvacuateModule d s) := by
  unfold execEvacuateModule
  with_reducible
    apply KR.next; apply State.take_keeps; assumption; intro _ _; extract_lets +onlyGivenNames _; extract_lets +onlyGivenNames _
    extract_lets +onlyGivenNames _; apply Keeps.ite; apply State.complete_keeps; assumption; apply Keeps.ite; apply State.complete_keeps
    assumption; extract_lets +onlyGivenNames _; extract_lets +onlyGivenNames _; apply Keeps.ite; apply State.complete_keeps; assumption
    extract_lets +onlyGivenNames _; extract_lets +onlyGivenNames _; extract_lets +onlyGivenNames _
    extract_lets +onlyGivenNames y; refine (fun _ : Keeps s0 y => ?_) ?_; clear_value y
    extract_lets +onlyGivenNames y; refine (fun _ : Keeps s0 y => ?_) ?_; clear_value y; apply State.planReduce_keeps; assumption
    unfold y; refine Keeps.foldl ?_ fun _ _ _ => ?_; assumption; apply State.leaveServing_keeps; assumption; unfold y
    apply State.startOp_keeps; assumption

theorem execModuleEvacDone_keeps {s0 : State} {m : Fin 4} {s : State} (h_s : Keeps s0 s) : KR s0 (execModuleEvacDone m s) := by
  unfold execModuleEvacDone
  with_reducible
    apply KR.next; split; assumption; apply Keeps.ite; assumption
    extract_lets +onlyGivenNames y; refine (fun _ : Keeps s0 y => ?_) ?_; clear_value y; apply State.endOp_keeps; assumption; unfold y
    refine Keeps.foldl ?_ fun _ _ _ => ?_; assumption; apply State.setNfState_keeps; assumption

theorem State.rebuildLost_keeps {s0 s : State} (h_s : Keeps s0 s) : Keeps s0 (State.rebuildLost s) := by
  unfold State.rebuildLost
  with_reducible
    refine Keeps.foldl ?_ fun _ _ _ => ?_; assumption; split; apply Keeps.ite; refine Keeps.foldl ?_ fun _ _ _ => ?_; assumption
    apply State.twinRead_keeps; assumption; assumption; assumption

theorem State.dropPrograms_keeps {s0 s : State} {m : Nat} (h_s : Keeps s0 s) : Keeps s0 (State.dropPrograms s m) := by
  unfold State.dropPrograms
  with_reducible
    extract_lets +onlyGivenNames _; extract_lets +onlyGivenNames _; extract_lets +onlyGivenNames _; extract_lets +onlyGivenNames _
    extract_lets +onlyGivenNames y; refine (fun _ : Keeps s0 y => ?_) ?_; clear_value y; refine Keeps.foldl ?_ fun _ _ _ => ?_; assumption
    extract_lets +onlyGivenNames _; apply Keeps.ite; apply State.setPage_keeps; assumption; assumption; unfold y
    refine Keeps.mk ?_ rfl rfl; assumption

theorem State.loseImagePage_keeps {s0 s : State} {k : Nat} (h_s : Keeps s0 s) : Keeps s0 (State.loseImagePage s k) := by
  unfold State.loseImagePage
  with_reducible
    extract_lets +onlyGivenNames y; refine (fun _ : Keeps s0 y => ?_) ?_; clear_value y; extract_lets +onlyGivenNames _
    extract_lets +onlyGivenNames y; refine (fun _ : Keeps s0 y => ?_) ?_; clear_value y; split; apply State.markDamaged_keeps; assumption
    assumption; unfold y; apply Keeps.ite; apply State.setPage_keeps; assumption; assumption; unfold y; apply State.dropFromImages_keeps
    assumption

theorem execModuleRemove_keeps {s0 : State} {m : Fin 4} {image : List Nat} {s : State} (h_s : Keeps s0 s) : KR s0
    (execModuleRemove m image s) := by
  unfold execModuleRemove
  with_reducible
    apply KR.next; extract_lets +onlyGivenNames _; apply Keeps.ite; assumption; extract_lets +onlyGivenNames _
    extract_lets +onlyGivenNames f395; extract_lets +onlyGivenNames _
    extract_lets +onlyGivenNames y; refine (fun _ : Keeps s0 y => ?_) ?_; clear_value y; extract_lets +onlyGivenNames _
    extract_lets +onlyGivenNames y; refine (fun _ : Keeps s0 y => ?_) ?_; clear_value y; apply Keeps.ite; unfold f395
    extract_lets +onlyGivenNames y; refine (fun _ : Keeps s0 y => ?_) ?_; clear_value y
    extract_lets +onlyGivenNames y; refine (fun _ : Keeps s0 y => ?_) ?_; clear_value y; extract_lets +onlyGivenNames _
    refine Keeps.mk ?_ rfl rfl; assumption; unfold y; refine Keeps.foldl ?_ fun _ _ _ => ?_; assumption; apply State.setNf_keeps
    assumption; unfold y; refine Keeps.foldl ?_ fun _ _ _ => ?_; assumption; apply Keeps.ite; assumption; apply State.setNfState_keeps
    assumption; extract_lets +onlyGivenNames y; refine (fun _ : Keeps s0 y => ?_) ?_; clear_value y
    extract_lets +onlyGivenNames y; refine (fun _ : Keeps s0 y => ?_) ?_; clear_value y; extract_lets +onlyGivenNames _
    extract_lets +onlyGivenNames _; extract_lets +onlyGivenNames _
    extract_lets +onlyGivenNames y; refine (fun _ : Keeps s0 y => ?_) ?_; clear_value y
    extract_lets +onlyGivenNames y; refine (fun _ : Keeps s0 y => ?_) ?_; clear_value y
    extract_lets +onlyGivenNames y; refine (fun _ : Keeps s0 y => ?_) ?_; clear_value y
    extract_lets +onlyGivenNames y; refine (fun _ : Keeps s0 y => ?_) ?_; clear_value y; apply State.rebuildLost_keeps
    apply State.log_keeps; assumption; unfold y; split; apply State.endCancelled_keeps; assumption; assumption; unfold y
    apply State.freeImages_keeps; assumption; unfold y; refine Keeps.foldl ?_ fun _ _ _ => ?_; assumption; apply State.loseImagePage_keeps
    assumption; unfold y; refine Keeps.foldl ?_ fun _ _ _ => ?_; assumption; apply State.markDamaged_keeps; assumption; unfold y
    unfold f395; extract_lets +onlyGivenNames y; refine (fun _ : Keeps s0 y => ?_) ?_; clear_value y
    extract_lets +onlyGivenNames y; refine (fun _ : Keeps s0 y => ?_) ?_; clear_value y; extract_lets +onlyGivenNames _
    refine Keeps.mk ?_ rfl rfl; assumption; unfold y; refine Keeps.foldl ?_ fun _ _ _ => ?_; assumption; apply State.setNf_keeps
    assumption; unfold y; refine Keeps.foldl ?_ fun _ _ _ => ?_; assumption; apply Keeps.ite; assumption; apply State.setNfState_keeps
    assumption; unfold y; refine Keeps.foldl ?_ fun _ _ _ => ?_; assumption; apply Keeps.ite; apply State.leaveServing_keeps; assumption
    apply State.setNfState_keeps; assumption; unfold y; refine Keeps.mk ?_ rfl rfl; assumption; unfold y; apply State.dropPrograms_keeps
    assumption

theorem State.clearBlock_keeps {s0 s : State} {ch die b : Nat} (h_s : Keeps s0 s) : Keeps s0 (State.clearBlock s ch die b) := by
  unfold State.clearBlock
  with_reducible
    extract_lets +onlyGivenNames y; refine (fun _ : Keeps s0 y => ?_) ?_; clear_value y; apply Keeps.ite; apply State.startErase_keeps
    assumption; assumption; unfold y; apply State.movePages_keeps; assumption

theorem execRefreshMove_keeps {s0 : State} {nf : NfId} {die : Fin 32} {block : Fin 16384} {s : State} (h_s : Keeps s0 s) : KR s0
    (execRefreshMove nf die block s) := by
  unfold execRefreshMove
  with_reducible
    apply KR.next; extract_lets +onlyGivenNames _; extract_lets +onlyGivenNames _; apply Keeps.ite; assumption
    extract_lets +onlyGivenNames y; refine (fun _ : Keeps s0 y => ?_) ?_; clear_value y; apply Keeps.ite; apply State.retireBlock_keeps
    assumption; apply State.clearBlock_keeps; assumption; unfold y; apply State.setBlock_keeps; assumption

theorem execGarbageCollect_keeps {s0 : State} {nf : NfId} {die : Fin 32} {s : State} (h_s : Keeps s0 s) : KR s0
    (execGarbageCollect nf die s) := by
  unfold execGarbageCollect
  with_reducible
    apply KR.next; apply Keeps.ite; assumption; extract_lets +onlyGivenNames _; extract_lets +onlyGivenNames _; clear_value *; split
    apply Keeps.ite; apply State.clearBlock_keeps; assumption; assumption; assumption

theorem State.setErase_keeps {s0 s : State} {e : NandErase} (h_s : Keeps s0 s) : Keeps s0 (State.setErase s e) := by
  unfold State.setErase
  with_reducible
    refine Keeps.mk ?_ rfl rfl; assumption

theorem execNandEraseDone_keeps {s0 : State} {nf : NfId} {die : Fin 32} {block : Fin 16384} {pass : Bool} {s : State} (h_s : Keeps s0 s)
    : KR s0 (execNandEraseDone nf die block pass s) := by
  unfold execNandEraseDone
  with_reducible
    apply KR.next; split; assumption; apply Keeps.ite; assumption; extract_lets +onlyGivenNames _; extract_lets +onlyGivenNames _
    extract_lets +onlyGivenNames y; refine (fun _ : Keeps s0 y => ?_) ?_; extract_lets +onlyGivenNames _; apply Keeps.ite
    extract_lets +onlyGivenNames _; extract_lets +onlyGivenNames _; apply State.checkPool_keeps; apply State.setBlock_keeps; assumption
    extract_lets +onlyGivenNames y; refine (fun _ : Keeps s0 y => ?_) ?_; clear_value y; apply State.noteShrunk_keeps
    apply State.checkPool_keeps; apply State.log_keeps; apply State.nfErr_keeps; assumption; unfold y; apply State.setBlock_keeps
    assumption; unfold y; refine Keeps.mk ?_ rfl rfl; assumption

theorem State.resumeErase_keeps {s0 s : State} {e : NandErase} (h_s : Keeps s0 s) : Keeps s0 (State.resumeErase s e) := by
  unfold State.resumeErase
  with_reducible
    apply State.setErase_keeps; assumption

theorem execEraseResume_keeps {s0 : State} {nf : NfId} {die : Fin 32} {s : State} (h_s : Keeps s0 s) : KR s0 (execEraseResume nf die s)
    := by
  unfold execEraseResume
  with_reducible
    apply KR.next; apply Keeps.ite; assumption; refine Keeps.foldl ?_ fun _ _ _ => ?_; assumption; apply State.resumeErase_keeps
    assumption

theorem execEraseStarved_keeps {s0 : State} {nf : NfId} {die : Fin 32} {block : Fin 16384} {s : State} (h_s : Keeps s0 s) : KR s0
    (execEraseStarved nf die block s) := by
  unfold execEraseStarved
  with_reducible
    apply KR.next; split; assumption; apply Keeps.ite; assumption; extract_lets +onlyGivenNames _; apply State.logLim_keeps
    apply State.bump_keeps; apply State.setErase_keeps; assumption

theorem execEraseGuardExpiry_keeps {s0 : State} {nf : NfId} {die : Fin 32} {block : Fin 16384} {s : State} (h_s : Keeps s0 s) : KR s0
    (execEraseGuardExpiry nf die block s) := by
  unfold execEraseGuardExpiry
  with_reducible
    apply KR.next; extract_lets +onlyGivenNames _; split; assumption; apply Keeps.ite; assumption; apply State.resumeErase_keeps
    assumption

theorem execWearLevelMove_keeps {s0 : State} {nf : NfId} {s : State} (h_s : Keeps s0 s) : KR s0 (execWearLevelMove nf s) := by
  unfold execWearLevelMove
  with_reducible
    apply KR.next; split; apply Keeps.ite; assumption; extract_lets +onlyGivenNames _; split; apply State.clearBlock_keeps
    apply State.setBlock_keeps; assumption; assumption

theorem execMapCheckpoint_keeps {s0 s : State} (h_s : Keeps s0 s) : KR s0 (execMapCheckpoint s) := by
  unfold execMapCheckpoint
  with_reducible
    apply KR.next; apply Keeps.ite; assumption; extract_lets +onlyGivenNames y; refine (fun _ : Keeps s0 y => ?_) ?_; clear_value y
    extract_lets +onlyGivenNames _; refine Keeps.mk ?_ rfl rfl; assumption; unfold y; apply State.countPrograms_keeps; assumption

theorem execMapReplay_keeps {s0 : State} {us : Nat} {s : State} (h_s : Keeps s0 s) : KR s0 (execMapReplay us s) := by
  unfold execMapReplay
  with_reducible
    apply KR.next; apply Keeps.ite; assumption; apply State.log_keeps; assumption

theorem execSaveRehearsal_keeps {s0 s : State} (h_s : Keeps s0 s) : KR s0 (execSaveRehearsal s) := by
  unfold execSaveRehearsal
  with_reducible
    apply KR.next; apply Keeps.ite; assumption; refine Keeps.mk ?_ rfl rfl; assumption

theorem execSaveRehearsalDone_keeps {s0 : State} {mbps : BitVec 24} {s : State} (h_s : Keeps s0 s) : KR s0
    (execSaveRehearsalDone mbps s) := by
  unfold execSaveRehearsalDone
  with_reducible
    apply KR.next; apply Keeps.ite; assumption; extract_lets +onlyGivenNames y; refine (fun _ : Keeps s0 y => ?_) ?_; clear_value y
    extract_lets +onlyGivenNames _; extract_lets +onlyGivenNames _
    extract_lets +onlyGivenNames y; refine (fun _ : Keeps s0 y => ?_) ?_; clear_value y; refine Keeps.mk ?_ rfl rfl; assumption; unfold y
    apply Keeps.ite; apply State.setImage_keeps; assumption; assumption; unfold y; apply State.addRehearsal_keeps; assumption

theorem execSaveImageErase_keeps {s0 : State} {image : Bool} {s : State} (h_s : Keeps s0 s) : KR s0 (execSaveImageErase image s) := by
  unfold execSaveImageErase
  with_reducible
    apply KR.next; extract_lets +onlyGivenNames _; apply Keeps.ite; assumption; split
    extract_lets +onlyGivenNames y; refine (fun _ : Keeps s0 y => ?_) ?_; clear_value y; refine Keeps.mk ?_ rfl rfl; assumption; unfold y
    apply State.setImage_keeps; assumption

theorem execEnduranceOver_keeps {s0 s : State} (h_s : Keeps s0 s) : KR s0 (execEnduranceOver s) := by
  unfold execEnduranceOver
  with_reducible
    apply KR.next; extract_lets +onlyGivenNames y; refine (fun _ : Keeps s0 y => ?_) ?_; clear_value y; apply Keeps.ite; assumption
    apply State.log_keeps; refine Keeps.mk ?_ rfl rfl; assumption; unfold y; apply State.takeTokens_keeps; assumption

theorem execNandBrownout_keeps {s0 : State} {rail : Fin 2} {blocked : Nat} {s : State} (h_s : Keeps s0 s) : KR s0
    (execNandBrownout rail blocked s) := by
  unfold execNandBrownout
  with_reducible
    apply KR.next; apply Keeps.ite; assumption; extract_lets +onlyGivenNames _; extract_lets +onlyGivenNames _
    extract_lets +onlyGivenNames y; refine (fun _ : Keeps s0 y => ?_) ?_; clear_value y; apply Keeps.ite; apply State.log_keeps
    refine Keeps.foldl ?_ fun _ _ _ => ?_; assumption; apply State.nfErr_keeps; assumption; assumption; unfold y
    refine Keeps.mk ?_ rfl rfl; assumption

theorem execNandBrownoutEnd_keeps {s0 : State} {rail : Fin 2} {s : State} (h_s : Keeps s0 s) : KR s0 (execNandBrownoutEnd rail s) := by
  unfold execNandBrownoutEnd
  with_reducible
    apply KR.next; refine Keeps.mk ?_ rfl rfl; assumption

end Sys2Proof.Laws
end

