-- ==== Sys2Proof/Laws/KeepsLinks.lean ====
section
/-!
SUPPORT. What the operations and commands of the twin link, fences, ports and RDMA keep (`Keeps`).
-/
namespace Sys2Proof.Laws

open Machine Safety

set_option Elab.async false

theorem State.bttSend_keeps {s0 s : State} {path type : Nat} {fields : List Nat} (h_s : Keeps s0 s) : Keeps s0
    (State.bttSend s path type fields) := by
  unfold State.bttSend
  with_reducible
    extract_lets +onlyGivenNames y; refine (fun _ : Keeps s0 y => ?_) ?_; clear_value y; refine Keeps.mk ?_ rfl rfl; assumption; unfold y
    apply State.emit_keeps; assumption

theorem State.rxNoted_keeps {s0 s : State} {h : BttHdr} (h_s : Keeps s0 s) : Keeps s0 (State.rxNoted s h) := by
  unfold State.rxNoted
  with_reducible
    extract_lets +onlyGivenNames _; extract_lets +onlyGivenNames _
    extract_lets +onlyGivenNames y; refine (fun _ : Keeps s0 y => ?_) ?_; clear_value y; extract_lets +onlyGivenNames _
    extract_lets +onlyGivenNames y; refine (fun _ : Keeps s0 y => ?_) ?_; clear_value y; apply Keeps.ite; assumption
    apply State.log_keeps; refine Keeps.mk ?_ rfl rfl; assumption; unfold y; refine Keeps.mk ?_ rfl rfl; assumption; unfold y
    apply Keeps.ite; assumption; refine Keeps.mk ?_ rfl rfl; assumption

theorem State.rxPacket_keeps {s0 s : State} {h : BttHdr} {body : State → State} (h_s : Keeps s0 s)
    (h_body : ∀ a0, Keeps s0 a0 → Keeps s0 (body a0)) : Keeps s0 (State.rxPacket s h body) := by
  unfold State.rxPacket
  with_reducible
    extract_lets +onlyGivenNames _; apply Keeps.ite; assumption; apply Keeps.ite; apply State.bttSend_keeps; apply State.logLim_keeps
    apply State.bump_keeps; assumption; extract_lets +onlyGivenNames y; refine (fun _ : Keeps s0 y => ?_) ?_; clear_value y
    apply Keeps.ite; apply State.bump_keeps; assumption; apply h_body; assumption; unfold y; apply State.rxNoted_keeps; assumption

theorem State.rxComplete_keeps {s0 s : State} {st q : Nat} (h_s : Keeps s0 s) : Keeps s0 (State.rxComplete s st q) := by
  unfold State.rxComplete
  with_reducible
    extract_lets +onlyGivenNames _; extract_lets +onlyGivenNames _; refine Keeps.mk ?_ rfl rfl; assumption

theorem State.returnUnit_keeps {s0 s : State} {path cls n : Nat} (h_s : Keeps s0 s) : Keeps s0 (State.returnUnit s path cls n) := by
  unfold State.returnUnit
  with_reducible
    extract_lets +onlyGivenNames _; refine Keeps.mk ?_ rfl rfl; assumption

theorem State.rxWindow_keeps {s0 s : State} {path st q : Nat} {body : State → State} (h_s : Keeps s0 s)
    (h_body : ∀ a0, Keeps s0 a0 → Keeps s0 (body a0)) : Keeps s0 (State.rxWindow s path st q body) := by
  unfold State.rxWindow
  with_reducible
    apply Keeps.ite; apply State.bttAck_keeps; apply State.bump_keeps; assumption; apply Keeps.ite; apply State.bump_keeps; assumption
    apply h_body; assumption

theorem State.rxCtrl_keeps {s0 s : State} {h : BttHdr} {body : State → State} (h_s : Keeps s0 s)
    (h_body : ∀ a0, Keeps s0 a0 → Keeps s0 (body a0)) : Keeps s0 (State.rxCtrl s h body) := by
  unfold State.rxCtrl
  with_reducible
    apply State.rxPacket_keeps; assumption; intro _ _; apply State.rxWindow_keeps; apply State.activity_keeps; assumption; intro _ _
    apply State.bttAck_keeps; apply h_body; apply State.returnUnit_keeps; apply State.rxComplete_keeps; assumption

theorem State.takeLines_keeps {s0 s : State} {p : BttPkt} {m : InMsg} {new : List Nat} (h_s : Keeps s0 s) : Keeps s0
    (State.takeLines s p m new) := by
  unfold State.takeLines
  with_reducible
    extract_lets +onlyGivenNames _; extract_lets +onlyGivenNames _; extract_lets +onlyGivenNames _; extract_lets +onlyGivenNames _
    extract_lets +onlyGivenNames y; refine (fun _ : Keeps s0 y => ?_) ?_; clear_value y; apply Keeps.ite; extract_lets +onlyGivenNames _
    extract_lets +onlyGivenNames y; refine (fun _ : Keeps s0 y => ?_) ?_; clear_value y; apply State.bttFlushed_keeps
    apply State.bttAck_keeps; apply State.rxComplete_keeps; assumption; unfold y; apply Keeps.ite; refine Keeps.mk ?_ rfl rfl; assumption
    assumption; assumption; unfold y; refine Keeps.mk ?_ rfl rfl; assumption

theorem execBttData_keeps {s0 : State} {p : BttPkt} {s : State} (h_s : Keeps s0 s) : KR s0 (execBttData p s) := by
  unfold execBttData
  with_reducible
    apply KR.next; apply State.rxPacket_keeps; assumption; intro _ _; apply State.rxWindow_keeps; apply State.activity_keeps; assumption
    intro _ _; extract_lets +onlyGivenNames _; extract_lets +onlyGivenNames _; extract_lets +onlyGivenNames _
    extract_lets +onlyGivenNames y; refine (fun _ : Keeps s0 y => ?_) ?_; clear_value y; split; assumption; extract_lets +onlyGivenNames _
    split; apply State.takeLines_keeps; assumption; apply State.queueCtrl_keeps; assumption; apply Keeps.ite; apply State.queueCtrl_keeps
    assumption; apply Keeps.ite; assumption; extract_lets +onlyGivenNames _
    extract_lets +onlyGivenNames y; refine (fun _ : Keeps s0 y => ?_) ?_; clear_value y; extract_lets +onlyGivenNames _
    extract_lets +onlyGivenNames y; refine (fun _ : Keeps s0 y => ?_) ?_; clear_value y
    extract_lets +onlyGivenNames y; refine (fun _ : Keeps s0 y => ?_) ?_; clear_value y; extract_lets +onlyGivenNames _
    refine Keeps.foldl ?_ fun _ _ _ => ?_; assumption; extract_lets +onlyGivenNames _; extract_lets +onlyGivenNames _
    apply State.storeWrite_keeps; assumption; unfold y; apply State.takeLines_keeps; assumption; unfold y; refine Keeps.mk ?_ rfl rfl
    assumption; unfold y; apply State.returnUnit_keeps; assumption; unfold y; refine Keeps.mk ?_ rfl rfl; assumption

theorem State.finishTwin_keeps {s0 s : State} {req : Requester} (h_s : Keeps s0 s) : Keeps s0 (State.finishTwin s req) := by
  unfold State.finishTwin
  with_reducible
    apply Keeps.ite; assumption; extract_lets +onlyGivenNames _; apply State.finishWrite_keeps; refine Keeps.mk ?_ rfl rfl; assumption

theorem State.rangePlaced_keeps {s0 s : State} {k : Nat} (h_s : Keeps s0 s) : Keeps s0 (State.rangePlaced s k) := by
  unfold State.rangePlaced
  with_reducible
    extract_lets +onlyGivenNames _; extract_lets +onlyGivenNames _; extract_lets +onlyGivenNames _; extract_lets +onlyGivenNames _
    extract_lets +onlyGivenNames y; refine (fun _ : Keeps s0 y => ?_) ?_; clear_value y; refine Keeps.foldl ?_ fun _ _ _ => ?_; assumption
    apply State.finishTwin_keeps; assumption; unfold y; refine Keeps.mk ?_ rfl rfl; assumption

theorem State.startResync_keeps {s0 s : State} (h_s : Keeps s0 s) : Keeps s0 (State.startResync s) := by
  unfold State.startResync
  with_reducible
    apply Keeps.ite; apply State.log_keeps; refine Keeps.mk ?_ rfl rfl; assumption; assumption

theorem State.queueFlush_keeps {s0 s : State} {st : Nat} (h_s : Keeps s0 s) : Keeps s0 (State.queueFlush s st) := by
  unfold State.queueFlush
  with_reducible
    apply State.queueMsg_keeps; assumption

theorem State.endResync_keeps {s0 s : State} (h_s : Keeps s0 s) : Keeps s0 (State.endResync s) := by
  unfold State.endResync
  with_reducible
    split; assumption; apply Keeps.ite; apply Keeps.ite; refine Keeps.foldl ?_ fun _ _ _ => ?_; refine Keeps.mk ?_ rfl rfl; assumption
    apply State.queueFlush_keeps; assumption; assumption; apply Keeps.ite; assumption; extract_lets +onlyGivenNames _
    extract_lets +onlyGivenNames y; refine (fun _ : Keeps s0 y => ?_) ?_
    extract_lets +onlyGivenNames y; refine (fun _ : Keeps s0 y => ?_) ?_; apply Keeps.ite; apply State.reeval_keeps; assumption
    apply State.startResync_keeps; assumption; unfold y; apply State.log_keeps; assumption; unfold y; refine Keeps.mk ?_ rfl rfl
    assumption

theorem execBttAck_keeps {s0 : State} {h : BttHdr} {placed : BitVec 64} {sack : BitVec 32} {holes : BitVec 16} {s : State}
    (h_s : Keeps s0 s) : KR s0 (execBttAck h placed sack holes s) := by
  unfold execBttAck
  with_reducible
    apply KR.next; apply State.rxPacket_keeps; assumption; intro _ _; extract_lets +onlyGivenNames _; extract_lets +onlyGivenNames _
    extract_lets +onlyGivenNames _; extract_lets +onlyGivenNames _; extract_lets +onlyGivenNames _
    extract_lets +onlyGivenNames y; refine (fun _ : Keeps s0 y => ?_) ?_; clear_value y; extract_lets +onlyGivenNames _
    extract_lets +onlyGivenNames _; extract_lets +onlyGivenNames _; extract_lets +onlyGivenNames _; extract_lets +onlyGivenNames _
    extract_lets +onlyGivenNames _; extract_lets +onlyGivenNames _; extract_lets +onlyGivenNames _; extract_lets +onlyGivenNames _
    extract_lets +onlyGivenNames _; extract_lets +onlyGivenNames y; refine (fun _ : Keeps s0 y => ?_) ?_; clear_value y
    extract_lets +onlyGivenNames y; refine (fun _ : Keeps s0 y => ?_) ?_; clear_value y
    extract_lets +onlyGivenNames y; refine (fun _ : Keeps s0 y => ?_) ?_; clear_value y; apply State.startResync_keeps
    apply State.endResync_keeps; assumption; unfold y; refine Keeps.foldl ?_ fun _ _ _ => ?_; assumption; apply State.rangePlaced_keeps
    assumption; unfold y; refine Keeps.foldl ?_ fun _ _ _ => ?_; assumption; apply State.finishTwin_keeps; assumption; unfold y
    refine Keeps.mk ?_ rfl rfl; assumption; unfold y; apply Keeps.ite; assumption; apply State.logLim_keeps; apply State.addFld_keeps
    assumption

theorem State.sendMsg_keeps {s0 s : State} {m : OutMsg} {retx : Bool} (h_s : Keeps s0 s) : Keeps s0 (State.sendMsg s m retx) := by
  unfold State.sendMsg
  with_reducible
    extract_lets +onlyGivenNames _; apply Keeps.ite; apply State.stopLink_keeps; assumption; split; assumption
    extract_lets +onlyGivenNames _; apply Keeps.ite; refine Keeps.mk ?_ rfl rfl; refine KO.of_eq (by assumption) ?_
    apply State.sendPackets_keeps; assumption; refine Keeps.mk ?_ rfl rfl; refine KO.of_eq (by assumption) ?_
    apply State.sendPackets_keeps; assumption

theorem State.resend_keeps {s0 s : State} {m : OutMsg} (h_s : Keeps s0 s) : Keeps s0 (State.resend s m) := by
  unfold State.resend
  with_reducible
    apply Keeps.ite; assumption; apply State.sendMsg_keeps; apply State.bump_keeps; assumption

theorem execBttNak_keeps {s0 : State} {h : BttHdr} {s : State} (h_s : Keeps s0 s) : KR s0 (execBttNak h s) := by
  unfold execBttNak
  with_reducible
    apply KR.next; apply State.rxPacket_keeps; assumption; intro _ _; split; apply State.resend_keeps; assumption; assumption

theorem execBttCredit_keeps {s0 : State} {h : BttHdr} {l0 l1 l2 l3 : BitVec 16} {s : State} (h_s : Keeps s0 s) : KR s0
    (execBttCredit h l0 l1 l2 l3 s) := by
  unfold execBttCredit
  with_reducible
    apply KR.next; apply State.rxPacket_keeps; assumption; intro _ _; extract_lets +onlyGivenNames _
    refine Keeps.foldl ?_ fun _ _ _ => ?_; assumption; extract_lets +onlyGivenNames _; extract_lets +onlyGivenNames _
    extract_lets +onlyGivenNames _; apply Keeps.ite; refine Keeps.mk ?_ rfl rfl; assumption; assumption

theorem execBttKeepalive_keeps {s0 : State} {h : BttHdr} {s : State} (h_s : Keeps s0 s) : KR s0 (execBttKeepalive h s) := by
  unfold execBttKeepalive
  with_reducible
    apply KR.next; apply State.rxPacket_keeps; assumption; intro _ _; assumption

theorem execBttReadReq_keeps {s0 : State} {h : BttHdr} {line : BitVec 42} {total : BitVec 11} {s : State} (h_s : Keeps s0 s) : KR s0
    (execBttReadReq h line total s) := by
  unfold execBttReadReq
  with_reducible
    apply KR.next; apply State.rxPacket_keeps; assumption; intro _ _; apply State.rxWindow_keeps; apply State.activity_keeps; assumption
    intro _ _; extract_lets +onlyGivenNames _; extract_lets +onlyGivenNames y; refine (fun _ : Keeps s0 y => ?_) ?_; clear_value y
    extract_lets +onlyGivenNames _; extract_lets +onlyGivenNames y; refine (fun _ : Keeps s0 y => ?_) ?_; clear_value y
    apply State.bttAck_keeps; assumption; unfold y; apply State.queueMsg_keeps; assumption; unfold y; apply State.rxComplete_keeps
    assumption

theorem State.recovered_keeps {s0 s : State} {rd : Option PendingRead} {l outcome : Nat} (h_s : Keeps s0 s) : Keeps s0
    (State.recovered s rd l outcome) := by
  unfold State.recovered
  with_reducible
    split; assumption; extract_lets +onlyGivenNames _; split; apply State.waybillEvent_keeps; assumption; apply Keeps.ite; assumption
    split; apply State.waybillEvent_keeps; assumption

theorem State.fillServed_keeps {s0 s : State} {k : Nat} (h_s : Keeps s0 s) : Keeps s0 (State.fillServed s k) := by
  unfold State.fillServed
  with_reducible
    apply Keeps.ite; assumption; split; assumption; extract_lets +onlyGivenNames _; apply State.fillEnds_keeps; assumption

theorem State.homeRebuilt_keeps {s0 s : State} {k : Nat} (h_s : Keeps s0 s) : Keeps s0 (State.homeRebuilt s k) := by
  unfold State.homeRebuilt
  with_reducible
    apply Keeps.ite; assumption; split; apply State.countPrograms_keeps; apply State.setMap_keeps; refine KOP.of_eq (by assumption) ?_
    apply State.allocHome_keeps; assumption; assumption

theorem State.twinFails_keeps {s0 s : State} {t : TwinRead} (h_s : Keeps s0 s) : Keeps s0 (State.twinFails s t) := by
  unfold State.twinFails
  with_reducible
    extract_lets +onlyGivenNames _; extract_lets +onlyGivenNames y; refine (fun _ : Keeps s0 y => ?_) ?_; extract_lets +onlyGivenNames _
    split; extract_lets +onlyGivenNames _; extract_lets +onlyGivenNames y; refine (fun _ : Keeps s0 y => ?_) ?_; apply Keeps.ite
    apply State.holdRead_keeps; assumption; apply State.deliver_keeps; assumption; unfold y; apply State.setCh_keeps; assumption; split
    apply State.markDamaged_keeps; apply State.mergeEnds_keeps; apply State.waybillEvent_keeps; assumption; assumption; split
    extract_lets +onlyGivenNames _; extract_lets +onlyGivenNames _
    extract_lets +onlyGivenNames y; refine (fun _ : Keeps s0 y => ?_) ?_; clear_value y; apply State.fillFailed_keeps; assumption
    unfold y; refine Keeps.mk ?_ rfl rfl; assumption; assumption; split
    extract_lets +onlyGivenNames y; refine (fun _ : Keeps s0 y => ?_) ?_; clear_value y; split; apply State.deliver_keeps; assumption
    assumption; unfold y; apply State.poisonStored_keeps; apply State.recovered_keeps; assumption; assumption; refine Keeps.mk ?_ rfl rfl
    assumption; unfold y; refine Keeps.mk ?_ rfl rfl; assumption

theorem State.twinServed_keeps {s0 s : State} {t : TwinRead} {x : Line} (h_s : Keeps s0 s) : Keeps s0 (State.twinServed s t x) := by
  unfold State.twinServed
  with_reducible
    extract_lets +onlyGivenNames _; apply Keeps.ite; apply State.twinFails_keeps; assumption; extract_lets +onlyGivenNames _
    extract_lets +onlyGivenNames y; refine (fun _ : Keeps s0 y => ?_) ?_; clear_value y; split; extract_lets +onlyGivenNames _
    extract_lets +onlyGivenNames y; refine (fun _ : Keeps s0 y => ?_) ?_; clear_value y; apply State.deliver_keeps; assumption; unfold y
    apply State.setCh_keeps; assumption; split; apply State.mergeEnds_keeps; apply State.waybillEvent_keeps; assumption; assumption
    apply State.fillServed_keeps; refine Keeps.mk ?_ rfl rfl; assumption
    extract_lets +onlyGivenNames y; refine (fun _ : Keeps s0 y => ?_) ?_; clear_value y; split; apply State.deliver_keeps; assumption
    assumption; unfold y; apply State.recovered_keeps; apply State.setLine_keeps; assumption; apply Keeps.ite
    apply State.homeRebuilt_keeps; apply State.setHome_keeps; assumption; assumption; unfold y; refine Keeps.mk ?_ rfl rfl; assumption

theorem execBttReadResp_keeps {s0 : State} {p : BttPkt} {s : State} (h_s : Keeps s0 s) : KR s0 (execBttReadResp p s) := by
  unfold execBttReadResp
  with_reducible
    apply KR.next; apply State.rxPacket_keeps; assumption; intro _ _; apply State.rxWindow_keeps; apply State.activity_keeps; assumption
    intro _ _; split; assumption; extract_lets +onlyGivenNames _
    extract_lets +onlyGivenNames y; refine (fun _ : Keeps s0 y => ?_) ?_; clear_value y; refine Keeps.foldl ?_ fun _ _ _ => ?_; assumption
    extract_lets +onlyGivenNames _; extract_lets +onlyGivenNames _; extract_lets +onlyGivenNames _
    extract_lets +onlyGivenNames y; refine (fun _ : Keeps s0 y => ?_) ?_; clear_value y
    extract_lets +onlyGivenNames y; refine (fun _ : Keeps s0 y => ?_) ?_; clear_value y; refine Keeps.foldl ?_ fun _ _ _ => ?_; assumption
    apply State.twinServed_keeps; assumption; unfold y; refine Keeps.foldl ?_ fun _ _ _ => ?_; assumption; split; apply State.logLim_keeps
    assumption; assumption; unfold y; refine Keeps.mk ?_ rfl rfl; assumption; unfold y; apply State.takeLines_keeps
    apply State.returnUnit_keeps; assumption

theorem execTwinReadTimeout_keeps {s0 : State} {line : Nat} {s : State} (h_s : Keeps s0 s) : KR s0 (execTwinReadTimeout line s) := by
  unfold execTwinReadTimeout
  with_reducible
    apply KR.next; refine Keeps.foldl ?_ fun _ _ _ => ?_; assumption; apply State.twinFails_keeps; assumption

theorem State.flushFences_keeps {s0 s : State} {st : Nat} {ids : List Nat} (h_s : Keeps s0 s) : Keeps s0 (State.flushFences s st ids) :=
    by
  unfold State.flushFences
  with_reducible
    extract_lets +onlyGivenNames _; extract_lets +onlyGivenNames _; apply Keeps.ite; apply State.queueFlush_keeps; assumption; assumption

theorem State.formConvoy_keeps {s0 s : State} {st : Nat} {cs : List TwinCopy} (h_s : Keeps s0 s) : Keeps s0 (State.formConvoy s st cs)
    := by
  unfold State.formConvoy
  with_reducible
    split; assumption; extract_lets +onlyGivenNames _; extract_lets +onlyGivenNames _
    extract_lets +onlyGivenNames y; refine (fun _ : Keeps s0 y => ?_) ?_; clear_value y; apply State.flushFences_keeps
    apply State.queueMsg_keeps; assumption; unfold y; refine Keeps.mk ?_ rfl rfl; assumption

theorem execConvoySend_keeps {s0 : State} {st : Fin 16} {bad : List Nat} {ctrBad : Bool} {s : State} (h_s : Keeps s0 s) : KR s0
    (execConvoySend st bad ctrBad s) := by
  unfold execConvoySend
  with_reducible
    apply KR.next; apply Keeps.ite; assumption; apply Keeps.ite; apply State.stopLink_keeps; assumption; extract_lets +onlyGivenNames _
    extract_lets +onlyGivenNames f393; apply Keeps.ite; unfold f393; split; apply Keeps.ite; apply State.sendMsg_keeps; assumption
    assumption; assumption; apply Keeps.ite; assumption; extract_lets +onlyGivenNames _; extract_lets +onlyGivenNames _; apply Keeps.ite
    unfold f393; split; apply Keeps.ite; apply State.sendMsg_keeps; apply State.formConvoy_keeps; assumption; apply State.formConvoy_keeps
    assumption; apply State.formConvoy_keeps; assumption; extract_lets +onlyGivenNames _; extract_lets +onlyGivenNames _
    extract_lets +onlyGivenNames y; refine (fun _ : Keeps s0 y => ?_) ?_; clear_value y
    extract_lets +onlyGivenNames y; refine (fun _ : Keeps s0 y => ?_) ?_; clear_value y; apply State.dropCopies_keeps; assumption
    unfold y; refine Keeps.foldl ?_ fun _ _ _ => ?_; assumption; split; apply State.waybillEvent_keeps; assumption; assumption; unfold y
    refine Keeps.mk ?_ rfl rfl; assumption

theorem State.abandon_keeps {s0 s : State} {st upto : Nat} {all : Bool} (h_s : Keeps s0 s) : Keeps s0 (State.abandon s st upto all) :=
    by
  unfold State.abandon
  with_reducible
    extract_lets +onlyGivenNames _; extract_lets +onlyGivenNames _; extract_lets +onlyGivenNames _; extract_lets +onlyGivenNames _
    extract_lets +onlyGivenNames _; extract_lets +onlyGivenNames _; extract_lets +onlyGivenNames _; extract_lets +onlyGivenNames _
    extract_lets +onlyGivenNames y; refine (fun _ : Keeps s0 y => ?_) ?_; clear_value y
    extract_lets +onlyGivenNames y; refine (fun _ : Keeps s0 y => ?_) ?_; clear_value y; apply State.setDirties_keeps
    apply State.dropCopies_keeps; assumption; unfold y; apply Keeps.ite; apply State.queueCtrl_keeps; assumption; assumption; unfold y
    refine Keeps.mk ?_ rfl rfl; assumption

theorem execRetxTimer_keeps {s0 : State} {st : Fin 16} {seq : BitVec 64} {s : State} (h_s : Keeps s0 s) : KR s0 (execRetxTimer st seq s)
    := by
  unfold execRetxTimer
  with_reducible
    apply KR.next; split; assumption; apply Keeps.ite; assumption; apply State.resend_keeps; assumption

theorem execRetxAbandon_keeps {s0 : State} {st : Fin 16} {seq : BitVec 64} {s : State} (h_s : Keeps s0 s) : KR s0
    (execRetxAbandon st seq s) := by
  unfold execRetxAbandon
  with_reducible
    apply KR.next; split; assumption; apply Keeps.ite; assumption; extract_lets +onlyGivenNames _
    extract_lets +onlyGivenNames y; refine (fun _ : Keeps s0 y => ?_) ?_; clear_value y; apply State.log_keeps; assumption; unfold y
    apply State.abandon_keeps; apply State.bump_keeps; assumption

theorem execKeepaliveTimer_keeps {s0 : State} {path : Fin 4} {s : State} (h_s : Keeps s0 s) : KR s0 (execKeepaliveTimer path s) := by
  unfold execKeepaliveTimer
  with_reducible
    apply KR.next; apply Keeps.ite; assumption; extract_lets +onlyGivenNames y; refine (fun _ : Keeps s0 y => ?_) ?_; clear_value y
    apply Keeps.ite; assumption; extract_lets +onlyGivenNames _
    extract_lets +onlyGivenNames y; refine (fun _ : Keeps s0 y => ?_) ?_; clear_value y; refine Keeps.foldl ?_ fun _ _ _ => ?_; assumption
    apply State.bttSend_keeps; assumption; unfold y; refine Keeps.mk ?_ rfl rfl; assumption; unfold y; apply State.bttSend_keeps
    assumption

theorem execPathDead_keeps {s0 : State} {path : Fin 4} {mtu : Bool} {s : State} (h_s : Keeps s0 s) : KR s0 (execPathDead path mtu s) :=
    by
  unfold execPathDead
  with_reducible
    apply KR.next; extract_lets +onlyGivenNames _; apply Keeps.ite; assumption; extract_lets +onlyGivenNames _
    extract_lets +onlyGivenNames y; refine (fun _ : Keeps s0 y => ?_) ?_; clear_value y; apply State.log_keeps; assumption; unfold y
    refine Keeps.mk ?_ rfl rfl; assumption

theorem execLinkAbsentTimeout_keeps {s0 s : State} (h_s : Keeps s0 s) : KR s0 (execLinkAbsentTimeout s) := by
  unfold execLinkAbsentTimeout
  with_reducible
    apply KR.next; apply Keeps.ite; apply State.leaveUp_keeps; assumption; assumption

theorem State.sendHello_keeps {s0 s : State} (h_s : Keeps s0 s) : Keeps s0 (State.sendHello s) := by
  unfold State.sendHello
  with_reducible
    extract_lets +onlyGivenNames _; extract_lets +onlyGivenNames _; refine Keeps.foldl ?_ fun _ _ _ => ?_; assumption
    extract_lets +onlyGivenNames _; extract_lets +onlyGivenNames _
    extract_lets +onlyGivenNames y; refine (fun _ : Keeps s0 y => ?_) ?_; clear_value y; refine Keeps.foldl ?_ fun _ _ _ => ?_; assumption
    apply State.bttSend_keeps; assumption; unfold y; refine Keeps.mk ?_ rfl rfl; assumption

theorem execHelloTimer_keeps {s0 s : State} (h_s : Keeps s0 s) : KR s0 (execHelloTimer s) := by
  unfold execHelloTimer
  with_reducible
    apply KR.next; apply Keeps.ite; apply State.sendHello_keeps; assumption; assumption

theorem State.refuseCopy_keeps {s0 s : State} {primary : Nat} {st : Status} (h_s : Keeps s0 s) : Keeps s0
    (State.refuseCopy s primary st) := by
  unfold State.refuseCopy
  with_reducible
    apply State.queueCtrl_keeps; assumption

theorem State.createCopy_keeps {s0 s : State} {base size key primary : Nat} (h_s : Keeps s0 s) : Keeps s0
    (State.createCopy s base size key primary) := by
  unfold State.createCopy
  with_reducible
    extract_lets +onlyGivenNames _; apply Keeps.ite; apply State.refuseCopy_keeps; assumption; split; apply State.refuseCopy_keeps
    assumption; apply Keeps.ite; apply State.refuseCopy_keeps; assumption; apply Keeps.ite; apply State.refuseCopy_keeps
    apply State.keyAbsent_keeps; assumption; extract_lets +onlyGivenNames _; extract_lets +onlyGivenNames _
    extract_lets +onlyGivenNames _; extract_lets +onlyGivenNames y; refine (fun _ : Keeps s0 y => ?_) ?_; clear_value y
    apply State.startRgnOp_keeps; assumption; unfold y; apply State.setCopyInfo_keeps; assumption

theorem State.destroyCopy_keeps {s0 s : State} {i : Nat} {r : Region} (h_s : Keeps s0 s) : Keeps s0 (State.destroyCopy s i r) := by
  unfold State.destroyCopy
  with_reducible
    apply Keeps.ite; assumption; extract_lets +onlyGivenNames _
    extract_lets +onlyGivenNames y; refine (fun _ : Keeps s0 y => ?_) ?_; clear_value y; apply State.startRgnOp_keeps; assumption
    unfold y; apply State.setCopyInfo_keeps; apply State.cancelRegionOps_keeps; assumption

theorem State.modifyCopy_keeps {s0 s : State} {i : Nat} {r : Region} {size key primary : Nat} (h_s : Keeps s0 s) : Keeps s0
    (State.modifyCopy s i r size key primary) := by
  unfold State.modifyCopy
  with_reducible
    extract_lets +onlyGivenNames _; extract_lets +onlyGivenNames _; apply Keeps.ite; apply Keeps.ite; apply State.refuseCopy_keeps
    assumption; apply Keeps.ite; apply State.refuseCopy_keeps; assumption; apply Keeps.ite; apply State.refuseCopy_keeps; assumption
    apply State.startRgnOp_keeps; assumption; apply Keeps.ite; apply Keeps.ite; apply State.refuseCopy_keeps; apply State.keyAbsent_keeps
    assumption; apply Keeps.ite; apply State.refuseCopy_keeps; assumption; extract_lets +onlyGivenNames _; apply State.startOp_keeps
    refine Keeps.mk ?_ rfl rfl; assumption; assumption

theorem execCopyCreate_keeps {s0 : State} {h : BttHdr} {base size : BitVec 27} {key index : BitVec 12} {s : State} (h_s : Keeps s0 s) :
    KR s0 (execCopyCreate h base size key index s) := by
  unfold execCopyCreate
  with_reducible
    apply KR.next; apply State.rxCtrl_keeps; assumption; intro _ _; split; apply State.modifyCopy_keeps; assumption
    apply State.createCopy_keeps; assumption

theorem execCopyModify_keeps {s0 : State} {h : BttHdr} {base size : BitVec 27} {key index : BitVec 12} {s : State} (h_s : Keeps s0 s) :
    KR s0 (execCopyModify h base size key index s) := by
  unfold execCopyModify
  with_reducible
    apply KR.next; apply State.rxCtrl_keeps; assumption; intro _ _; split; apply State.modifyCopy_keeps; assumption
    apply State.createCopy_keeps; assumption

theorem execCopyDestroy_keeps {s0 : State} {h : BttHdr} {index : BitVec 12} {s : State} (h_s : Keeps s0 s) : KR s0
    (execCopyDestroy h index s) := by
  unfold execCopyDestroy
  with_reducible
    apply KR.next; apply State.rxCtrl_keeps; assumption; intro _ _; split; apply State.destroyCopy_keeps; assumption; assumption

theorem State.copyFails_keeps {s0 s : State} {i : Nat} (h_s : Keeps s0 s) : Keeps s0 (State.copyFails s i) := by
  unfold State.copyFails
  with_reducible
    extract_lets +onlyGivenNames _; apply Keeps.ite; apply State.setDirties_keeps; refine Keeps.mk ?_ rfl rfl; assumption; assumption

theorem execCopyRefused_keeps {s0 : State} {h : BttHdr} {region : BitVec 12} {status : BitVec 8} {s : State} (h_s : Keeps s0 s) : KR s0
    (execCopyRefused h region status s) := by
  unfold execCopyRefused
  with_reducible
    apply KR.next; apply State.rxCtrl_keeps; assumption; intro _ _; apply State.copyFails_keeps; apply State.log_keeps; assumption

theorem execCopyMissing_keeps {s0 : State} {h : BttHdr} {dpa : BitVec 48} {s : State} (h_s : Keeps s0 s) : KR s0
    (execCopyMissing h dpa s) := by
  unfold execCopyMissing
  with_reducible
    apply KR.next; apply State.rxCtrl_keeps; assumption; intro _ _; split; apply State.copyFails_keeps; apply State.log_keeps; assumption
    assumption

theorem State.resolveSplit_keeps {s0 s : State} {i : Nat} {r : Region} {e : HelloEntry} (h_s : Keeps s0 s) : Keeps s0
    (State.resolveSplit s i r e) := by
  unfold State.resolveSplit
  with_reducible
    extract_lets +onlyGivenNames _; apply Keeps.ite; apply State.log_keeps; assumption; apply Keeps.ite; apply State.log_keeps
    apply State.setDirties_keeps; assumption; extract_lets +onlyGivenNames _; extract_lets +onlyGivenNames _
    extract_lets +onlyGivenNames y; refine (fun _ : Keeps s0 y => ?_) ?_; clear_value y; extract_lets +onlyGivenNames _
    extract_lets +onlyGivenNames y; refine (fun _ : Keeps s0 y => ?_) ?_; clear_value y
    extract_lets +onlyGivenNames y; refine (fun _ : Keeps s0 y => ?_) ?_; clear_value y; apply State.reeval_keeps; apply State.log_keeps
    assumption; unfold y; apply State.commit_keeps; assumption; unfold y; apply State.setCopyInfo_keeps; assumption; unfold y
    refine Keeps.mk ?_ rfl rfl; assumption

theorem State.reconcile_keeps {s0 s : State} {es : List HelloEntry} (h_s : Keeps s0 s) : Keeps s0 (State.reconcile s es) := by
  unfold State.reconcile
  with_reducible
    extract_lets +onlyGivenNames _; extract_lets +onlyGivenNames y; refine (fun _ : Keeps s0 y => ?_) ?_; clear_value y
    refine Keeps.foldl ?_ fun _ _ _ => ?_; assumption; split; apply State.resolveSplit_keeps; assumption; split
    apply State.modifyCopy_keeps; assumption; apply State.createCopy_keeps; assumption; unfold y; refine Keeps.foldl ?_ fun _ _ _ => ?_
    assumption; apply State.destroyCopy_keeps; assumption

theorem State.takeBases_keeps {s0 s : State} {bases : List (BitVec 64)} (h_s : Keeps s0 s) : Keeps s0 (State.takeBases s bases) := by
  unfold State.takeBases
  with_reducible
    refine Keeps.foldl ?_ fun _ _ _ => ?_; assumption; extract_lets +onlyGivenNames _; extract_lets +onlyGivenNames _; apply Keeps.ite
    assumption; refine Keeps.mk ?_ rfl rfl; assumption

theorem State.linkUp_keeps {s0 s : State} {cause : Nat} (h_s : Keeps s0 s) : Keeps s0 (State.linkUp s cause) := by
  unfold State.linkUp
  with_reducible
    extract_lets +onlyGivenNames _; extract_lets +onlyGivenNames y; refine (fun _ : Keeps s0 y => ?_) ?_; clear_value y
    apply State.rebuildLost_keeps; apply State.startResync_keeps; apply State.setTwinState_keeps; assumption; unfold y
    refine Keeps.mk ?_ rfl rfl; assumption

theorem execHello_keeps {s0 : State} {h : BttHdr} {m : HelloMsg} {s : State} (h_s : Keeps s0 s) : KR s0 (execHello h m s) := by
  unfold execHello
  with_reducible
    apply KR.next; apply State.rxPacket_keeps; assumption; intro _ _; extract_lets +onlyGivenNames _
    extract_lets +onlyGivenNames y; refine (fun _ : Keeps s0 y => ?_) ?_
    extract_lets +onlyGivenNames y; refine (fun _ : Keeps s0 y => ?_) ?_; extract_lets +onlyGivenNames _
    extract_lets +onlyGivenNames y; refine (fun _ : Keeps s0 y => ?_) ?_; apply Keeps.ite; extract_lets +onlyGivenNames _
    extract_lets +onlyGivenNames y; refine (fun _ : Keeps s0 y => ?_) ?_; apply Keeps.ite; apply State.log_keeps
    apply State.setTwinState_keeps; assumption; assumption; unfold y; refine Keeps.mk ?_ rfl rfl; assumption; apply Keeps.ite; assumption
    extract_lets +onlyGivenNames _; extract_lets +onlyGivenNames _
    extract_lets +onlyGivenNames y; refine (fun _ : Keeps s0 y => ?_) ?_; clear_value y; split; apply State.reconcile_keeps
    apply State.linkUp_keeps; apply State.sendHello_keeps; apply State.setTwinState_keeps; assumption; apply State.reconcile_keeps
    apply State.linkUp_keeps; apply State.sendHello_keeps; assumption; apply State.reconcile_keeps; apply State.sendHello_keeps
    assumption; assumption; unfold y; refine Keeps.mk ?_ rfl rfl; assumption; unfold y; refine Keeps.mk ?_ rfl rfl; assumption; unfold y
    apply Keeps.ite; assumption; apply State.rxComplete_keeps; assumption; unfold y; apply State.takeBases_keeps; assumption

theorem execLinkEnable_keeps {s0 : State} {en : Bool} {s : State} (h_s : Keeps s0 s) : KR s0 (execLinkEnable en s) := by
  unfold execLinkEnable
  with_reducible
    apply KR.next; extract_lets +onlyGivenNames y; refine (fun _ : Keeps s0 y => ?_) ?_; clear_value y; apply Keeps.ite
    apply State.leaveUp_keeps; assumption; apply Keeps.ite; assumption; split; apply State.setTwinState_keeps; assumption
    apply State.setTwinState_keeps; assumption; assumption; unfold y; apply State.setFld_keeps; assumption

theorem execLinkRekey_keeps {s0 s : State} (h_s : Keeps s0 s) : KR s0 (execLinkRekey s) := by
  unfold execLinkRekey
  with_reducible
    apply KR.next; apply Keeps.ite; assumption; extract_lets +onlyGivenNames _
    extract_lets +onlyGivenNames y; refine (fun _ : Keeps s0 y => ?_) ?_
    extract_lets +onlyGivenNames y; refine (fun _ : Keeps s0 y => ?_) ?_; apply Keeps.ite; apply State.linkUp_keeps; assumption
    assumption; unfold y; apply State.log_keeps; assumption; unfold y; refine Keeps.mk ?_ rfl rfl; assumption

theorem execPreviousEpochExpiry_keeps {s0 s : State} (h_s : Keeps s0 s) : KR s0 (execPreviousEpochExpiry s) := by
  unfold execPreviousEpochExpiry
  with_reducible
    apply KR.next; refine Keeps.mk ?_ rfl rfl; assumption

theorem execWindowAdvance_keeps {s0 : State} {h : BttHdr} {st : Fin 16} {base : BitVec 64} {s : State} (h_s : Keeps s0 s) : KR s0
    (execWindowAdvance h st base s) := by
  unfold execWindowAdvance
  with_reducible
    apply KR.next; apply State.rxCtrl_keeps; assumption; intro _ _; extract_lets +onlyGivenNames _; apply Keeps.ite; assumption
    extract_lets +onlyGivenNames _; extract_lets +onlyGivenNames y; refine (fun _ : Keeps s0 y => ?_) ?_; clear_value y
    apply State.bttAck_keeps; assumption; unfold y; refine Keeps.mk ?_ rfl rfl; assumption

theorem State.lagFires_keeps {s0 s : State} (h_s : Keeps s0 s) : Keeps s0 (State.lagFires s) := by
  unfold State.lagFires
  with_reducible
    split; extract_lets +onlyGivenNames _; extract_lets +onlyGivenNames _; extract_lets +onlyGivenNames _
    extract_lets +onlyGivenNames y; refine (fun _ : Keeps s0 y => ?_) ?_; clear_value y
    extract_lets +onlyGivenNames y; refine (fun _ : Keeps s0 y => ?_) ?_; clear_value y
    extract_lets +onlyGivenNames y; refine (fun _ : Keeps s0 y => ?_) ?_; clear_value y; apply State.logLim_keeps; assumption; unfold y
    apply State.dropCopies_keeps; assumption; unfold y; refine Keeps.foldl ?_ fun _ _ _ => ?_; assumption; apply State.abandon_keeps
    assumption; unfold y; refine Keeps.mk ?_ rfl rfl; assumption

theorem execLagExceeded_keeps {s0 s : State} (h_s : Keeps s0 s) : KR s0 (execLagExceeded s) := by
  unfold execLagExceeded
  with_reducible
    apply KR.next; split; apply Keeps.ite; assumption; apply State.lagFires_keeps; assumption

theorem execSyncTimeout_keeps {s0 s : State} (h_s : Keeps s0 s) : KR s0 (execSyncTimeout s) := by
  unfold execSyncTimeout
  with_reducible
    apply KR.next; extract_lets +onlyGivenNames _; extract_lets +onlyGivenNames _; extract_lets +onlyGivenNames _
    extract_lets +onlyGivenNames _; extract_lets +onlyGivenNames _; extract_lets +onlyGivenNames _; extract_lets +onlyGivenNames _
    apply Keeps.ite; assumption; extract_lets +onlyGivenNames _
    extract_lets +onlyGivenNames y; refine (fun _ : Keeps s0 y => ?_) ?_; clear_value y
    extract_lets +onlyGivenNames y; refine (fun _ : Keeps s0 y => ?_) ?_; clear_value y
    extract_lets +onlyGivenNames y; refine (fun _ : Keeps s0 y => ?_) ?_; clear_value y
    extract_lets +onlyGivenNames y; refine (fun _ : Keeps s0 y => ?_) ?_; clear_value y; extract_lets +onlyGivenNames _
    apply State.logLim_keeps; assumption; unfold y; refine Keeps.foldl ?_ fun _ _ _ => ?_; assumption; extract_lets +onlyGivenNames _
    apply Keeps.ite; assumption; apply State.abandon_keeps; assumption; unfold y; apply State.dropCopies_keeps; assumption; unfold y
    refine Keeps.foldl ?_ fun _ _ _ => ?_; assumption; apply State.finishLocal_keeps; assumption; unfold y; refine Keeps.mk ?_ rfl rfl
    assumption

theorem execResyncRangeStart_keeps {s0 s : State} (h_s : Keeps s0 s) : KR s0 (execResyncRangeStart s) := by
  unfold execResyncRangeStart
  with_reducible
    apply KR.next; extract_lets +onlyGivenNames y; refine (fun _ : Keeps s0 y => ?_) ?_; clear_value y; split; assumption; apply Keeps.ite
    apply State.endResync_keeps; assumption; extract_lets +onlyGivenNames _; split; apply State.endResync_keeps; assumption
    extract_lets +onlyGivenNames _; extract_lets +onlyGivenNames y; refine (fun _ : Keeps s0 y => ?_) ?_; clear_value y
    extract_lets +onlyGivenNames _; extract_lets +onlyGivenNames _; refine Keeps.foldl ?_ fun _ _ _ => ?_; assumption
    extract_lets +onlyGivenNames _; apply State.queueMsg_keeps; assumption; unfold y; refine Keeps.mk ?_ rfl rfl; assumption; unfold y
    apply State.startResync_keeps; assumption

theorem State.startMirrorFence_keeps {s0 s : State} {region : Option Nat} {src : CmdSrc} (h_s : Keeps s0 s) : Keeps s0
    (State.startMirrorFence s region src) := by
  unfold State.startMirrorFence
  with_reducible
    extract_lets +onlyGivenNames _; extract_lets +onlyGivenNames _; extract_lets +onlyGivenNames _; extract_lets +onlyGivenNames _
    extract_lets +onlyGivenNames _; extract_lets +onlyGivenNames _; extract_lets +onlyGivenNames _; extract_lets +onlyGivenNames _
    extract_lets +onlyGivenNames y; refine (fun _ : Keeps s0 y => ?_) ?_; clear_value y; extract_lets +onlyGivenNames _
    refine Keeps.foldl ?_ fun _ _ _ => ?_; assumption; apply State.flushFences_keeps; assumption; unfold y; refine Keeps.mk ?_ rfl rfl
    assumption

theorem State.promoteInfo_keeps {s0 s : State} {i : Nat} {planned : Bool} (h_s : Keeps s0 s) : Keeps s0 (State.promoteInfo s i planned)
    := by
  unfold State.promoteInfo
  with_reducible
    extract_lets +onlyGivenNames _; extract_lets +onlyGivenNames y; refine (fun _ : Keeps s0 y => ?_) ?_; clear_value y
    apply State.log_keeps; assumption; unfold y; apply State.setCopyInfo_keeps; assumption

theorem execPromoteTwin_keeps {s0 : State} {d : Desc} {s : State} (h_s : Keeps s0 s) : KR s0 (execPromoteTwin d s) := by
  unfold execPromoteTwin
  with_reducible
    apply KR.next; apply State.take_keeps; assumption; intro _ _; extract_lets +onlyGivenNames _; extract_lets +onlyGivenNames _
    extract_lets +onlyGivenNames _; apply Keeps.ite; apply State.complete_keeps; assumption; apply Keeps.ite; apply State.complete_keeps
    assumption; apply Keeps.ite; apply State.complete_keeps; assumption; apply Keeps.ite; apply State.complete_keeps; assumption
    apply Keeps.ite; refine Keeps.foldl ?_ fun _ _ _ => ?_; assumption; apply State.queueCtrl_keeps; refine Keeps.mk ?_ rfl rfl
    assumption; extract_lets +onlyGivenNames _; extract_lets +onlyGivenNames _
    extract_lets +onlyGivenNames y; refine (fun _ : Keeps s0 y => ?_) ?_; clear_value y; clear_value *; split; assumption
    apply State.startRgnOp_keeps; assumption; unfold y; refine Keeps.foldl ?_ fun _ _ _ => ?_; assumption; apply State.promoteInfo_keeps
    assumption

theorem execPromoteReq_keeps {s0 : State} {h : BttHdr} {region copy : BitVec 12} {s : State} (h_s : Keeps s0 s) : KR s0
    (execPromoteReq h region copy s) := by
  unfold execPromoteReq
  with_reducible
    apply KR.next; apply State.rxCtrl_keeps; assumption; intro _ _; extract_lets +onlyGivenNames _; extract_lets +onlyGivenNames _
    apply Keeps.ite; apply State.queueCtrl_keeps; assumption; extract_lets +onlyGivenNames _
    extract_lets +onlyGivenNames y; refine (fun _ : Keeps s0 y => ?_) ?_; clear_value y; extract_lets +onlyGivenNames _
    extract_lets +onlyGivenNames y; refine (fun _ : Keeps s0 y => ?_) ?_; clear_value y; refine Keeps.mk ?_ rfl rfl; assumption; unfold y
    apply State.setCopyInfo_keeps; assumption; unfold y; apply State.startMirrorFence_keeps; assumption

theorem State.demote_keeps {s0 s : State} {i : Nat} (h_s : Keeps s0 s) : Keeps s0 (State.demote s i) := by
  unfold State.demote
  with_reducible
    extract_lets +onlyGivenNames _; apply Keeps.ite; apply State.queueCtrl_keeps; assumption; extract_lets +onlyGivenNames _
    extract_lets +onlyGivenNames y; refine (fun _ : Keeps s0 y => ?_) ?_; clear_value y; extract_lets +onlyGivenNames _
    extract_lets +onlyGivenNames y; refine (fun _ : Keeps s0 y => ?_) ?_; clear_value y
    extract_lets +onlyGivenNames y; refine (fun _ : Keeps s0 y => ?_) ?_; clear_value y; apply State.queueCtrl_keeps; assumption; unfold y
    apply State.startRgnOp_keeps; assumption; unfold y; apply State.setCopyInfo_keeps; assumption; unfold y; refine Keeps.mk ?_ rfl rfl
    assumption

theorem execPromoteAck_keeps {s0 : State} {h : BttHdr} {region : BitVec 12} {ok : Bool} {mirror : Fin 3} {s : State} (h_s : Keeps s0 s)
    : KR s0 (execPromoteAck h region ok mirror s) := by
  unfold execPromoteAck
  with_reducible
    apply KR.next; apply State.rxCtrl_keeps; assumption; intro _ _; split; assumption; apply Keeps.ite; extract_lets +onlyGivenNames _
    extract_lets +onlyGivenNames y; refine (fun _ : Keeps s0 y => ?_) ?_; clear_value y; apply State.complete_keeps; assumption; unfold y
    refine Keeps.mk ?_ rfl rfl; assumption; extract_lets +onlyGivenNames _; extract_lets +onlyGivenNames _; extract_lets +onlyGivenNames _
    extract_lets +onlyGivenNames y; refine (fun _ : Keeps s0 y => ?_) ?_; clear_value y; extract_lets +onlyGivenNames _
    extract_lets +onlyGivenNames _; extract_lets +onlyGivenNames y; refine (fun _ : Keeps s0 y => ?_) ?_; clear_value y
    extract_lets +onlyGivenNames _; apply State.startRgnOp_keeps; assumption; unfold y; apply State.promoteInfo_keeps; assumption
    unfold y; refine Keeps.mk ?_ rfl rfl; assumption

theorem State.addFence_keeps {s0 s : State} {f : Fence} (h_s : Keeps s0 s) : Keeps s0 (State.addFence s f) := by
  unfold State.addFence
  with_reducible
    refine Keeps.mk ?_ rfl rfl; assumption

theorem State.dropFence_keeps {s0 s : State} {id : Nat} (h_s : Keeps s0 s) : Keeps s0 (State.dropFence s id) := by
  unfold State.dropFence
  with_reducible
    refine Keeps.mk ?_ rfl rfl; assumption

theorem execFencePersist_keeps {s0 : State} {d : Desc} {s : State} (h_s : Keeps s0 s) : KR s0 (execFencePersist d s) := by
  unfold execFencePersist
  with_reducible
    apply KR.next; apply State.take_keeps; assumption; intro _ _; apply Keeps.ite; apply State.complete_keeps; assumption
    apply State.addFence_keeps; assumption

theorem execFencePersistDone_keeps {s0 : State} {id : Nat} {s : State} (h_s : Keeps s0 s) : KR s0 (execFencePersistDone id s) := by
  unfold execFencePersistDone
  with_reducible
    apply KR.next; split; apply Keeps.ite; apply State.complete_keeps; apply State.dropFence_keeps; assumption; assumption; assumption

theorem execFenceMirror_keeps {s0 : State} {d : Desc} {s : State} (h_s : Keeps s0 s) : KR s0 (execFenceMirror d s) := by
  unfold execFenceMirror
  with_reducible
    apply KR.next; apply State.take_keeps; assumption; intro _ _; apply Keeps.ite; apply State.complete_keeps; assumption; apply Keeps.ite
    apply State.complete_keeps; assumption; extract_lets +onlyGivenNames _; apply State.startMirrorFence_keeps; apply State.startOp_keeps
    assumption

theorem execFenceMirrorDone_keeps {s0 : State} {id : Nat} {s : State} (h_s : Keeps s0 s) : KR s0 (execFenceMirrorDone id s) := by
  unfold execFenceMirrorDone
  with_reducible
    apply KR.next; split; assumption; apply Keeps.ite; assumption; split
    extract_lets +onlyGivenNames y; refine (fun _ : Keeps s0 y => ?_) ?_; clear_value y; apply State.demote_keeps
    refine Keeps.mk ?_ rfl rfl; assumption; unfold y; apply State.dropFence_keeps; assumption; split; apply State.endOp_keeps
    apply State.dropFence_keeps; assumption; split; apply State.complete_keeps; apply State.dropFence_keeps; assumption; assumption

theorem execFenceTier_keeps {s0 : State} {d : Desc} {s : State} (h_s : Keeps s0 s) : KR s0 (execFenceTier d s) := by
  unfold execFenceTier
  with_reducible
    apply KR.next; apply State.take_keeps; assumption; intro _ _; apply Keeps.ite; apply State.complete_keeps; assumption
    extract_lets +onlyGivenNames _; extract_lets +onlyGivenNames _; extract_lets +onlyGivenNames _
    extract_lets +onlyGivenNames y; refine (fun _ : Keeps s0 y => ?_) ?_; clear_value y; split; apply State.setOp_keeps; assumption
    assumption; unfold y; apply State.addFence_keeps; apply State.startOp_keeps; assumption

theorem execFenceTierDone_keeps {s0 : State} {id : Nat} {s : State} (h_s : Keeps s0 s) : KR s0 (execFenceTierDone id s) := by
  unfold execFenceTierDone
  with_reducible
    apply KR.next; split; apply Keeps.ite; apply State.endOp_keeps; apply State.dropFence_keeps; assumption; assumption; assumption

theorem execGpfPhase1_keeps {s0 : State} {port : PortId} {link : LinkId} {s : State} (h_s : Keeps s0 s) : KR s0
    (execGpfPhase1 port link s) := by
  unfold execGpfPhase1
  with_reducible
    apply KR.next; apply Keeps.ite; apply State.emit_keeps; assumption; assumption

theorem execGpfPhase2_keeps {s0 : State} {port : PortId} {link : LinkId} {s : State} (h_s : Keeps s0 s) : KR s0
    (execGpfPhase2 port link s) := by
  unfold execGpfPhase2
  with_reducible
    apply KR.next; apply Keeps.ite; assumption; extract_lets +onlyGivenNames _; extract_lets +onlyGivenNames _; refine Keeps.mk ?_ rfl rfl
    assumption

theorem execGpfPhase2Done_keeps {s0 : State} {port : PortId} {link : LinkId} {s : State} (h_s : Keeps s0 s) : KR s0
    (execGpfPhase2Done port link s) := by
  unfold execGpfPhase2Done
  with_reducible
    apply KR.next; split; assumption; extract_lets +onlyGivenNames _; apply Keeps.ite; assumption; extract_lets +onlyGivenNames _
    extract_lets +onlyGivenNames y; refine (fun _ : Keeps s0 y => ?_) ?_; clear_value y; apply State.emit_keeps; assumption; unfold y
    refine Keeps.mk ?_ rfl rfl; assumption

theorem State.dropRequests_keeps {s0 s : State} {p : Nat} {ld : Nat → Bool} (h_s : Keeps s0 s) : Keeps s0 (State.dropRequests s p ld) :=
    by
  unfold State.dropRequests
  with_reducible
    extract_lets +onlyGivenNames _; extract_lets +onlyGivenNames _; extract_lets +onlyGivenNames _
    extract_lets +onlyGivenNames y; refine (fun _ : Keeps s0 y => ?_) ?_; clear_value y; extract_lets +onlyGivenNames _
    extract_lets +onlyGivenNames _; refine Keeps.mk ?_ rfl rfl; assumption; unfold y; apply State.renameWriters_keeps; assumption

theorem execCxlLinkUp_keeps {s0 : State} {port : PortId} {link : LinkId} {width : Fin 17} {rate : Fin 7} {ver : Fin 5} {flit256 : Bool}
    {s : State} (h_s : Keeps s0 s) : KR s0 (execCxlLinkUp port link width rate ver flit256 s) := by
  unfold execCxlLinkUp
  with_reducible
    apply KR.next; extract_lets +onlyGivenNames _; extract_lets +onlyGivenNames _; extract_lets +onlyGivenNames _; apply Keeps.ite
    assumption; extract_lets +onlyGivenNames _; extract_lets +onlyGivenNames _
    extract_lets +onlyGivenNames y; refine (fun _ : Keeps s0 y => ?_) ?_; clear_value y; apply Keeps.ite; apply State.log_keeps
    assumption; assumption; unfold y; apply State.log_keeps; apply State.setLink_keeps; assumption

theorem State.linkDown_keeps {s0 s : State} {p l : Nat} (h_s : Keeps s0 s) : Keeps s0 (State.linkDown s p l) := by
  unfold State.linkDown
  with_reducible
    extract_lets +onlyGivenNames _; apply Keeps.ite; assumption
    extract_lets +onlyGivenNames y; refine (fun _ : Keeps s0 y => ?_) ?_; clear_value y; extract_lets +onlyGivenNames _
    extract_lets +onlyGivenNames y; refine (fun _ : Keeps s0 y => ?_) ?_; clear_value y; extract_lets +onlyGivenNames _
    extract_lets +onlyGivenNames y; refine (fun _ : Keeps s0 y => ?_) ?_; clear_value y; apply State.log_keeps; assumption; unfold y
    apply State.setLink_keeps; assumption; unfold y; refine Keeps.mk ?_ rfl rfl; assumption; unfold y; apply State.dropRequests_keeps
    assumption

theorem execCxlLinkDown_keeps {s0 : State} {port : PortId} {link : LinkId} {s : State} (h_s : Keeps s0 s) : KR s0
    (execCxlLinkDown port link s) := by
  unfold execCxlLinkDown
  with_reducible
    apply KR.next; apply State.linkDown_keeps; assumption

theorem State.resetDecoders_keeps {s0 s : State} {p : Nat} {lds : List Nat} (h_s : Keeps s0 s) : Keeps s0 (State.resetDecoders s p lds)
    := by
  unfold State.resetDecoders
  with_reducible
    refine Keeps.mk ?_ rfl rfl; assumption

theorem State.clearViral_keeps {s0 s : State} {p l : Nat} (h_s : Keeps s0 s) : Keeps s0 (State.clearViral s p l) := by
  unfold State.clearViral
  with_reducible
    apply State.setLink_keeps; assumption

theorem execCxlHotReset_keeps {s0 : State} {port : PortId} {link : LinkId} {s : State} (h_s : Keeps s0 s) : KR s0
    (execCxlHotReset port link s) := by
  unfold execCxlHotReset
  with_reducible
    apply KR.next; extract_lets +onlyGivenNames _; extract_lets +onlyGivenNames _; extract_lets +onlyGivenNames _; apply Keeps.ite
    assumption; extract_lets +onlyGivenNames y; refine (fun _ : Keeps s0 y => ?_) ?_; clear_value y; refine Keeps.foldl ?_ fun _ _ _ => ?_
    assumption; apply State.log_keeps; assumption; unfold y; apply State.clearViral_keeps; apply State.resetDecoders_keeps
    apply State.dropRequests_keeps; assumption

theorem execCxlReset_keeps {s0 : State} {port : PortId} {ld : Fin 16} {s : State} (h_s : Keeps s0 s) : KR s0 (execCxlReset port ld s) :=
    by
  unfold execCxlReset
  with_reducible
    apply KR.next; extract_lets +onlyGivenNames _; apply Keeps.ite; assumption
    extract_lets +onlyGivenNames y; refine (fun _ : Keeps s0 y => ?_) ?_; clear_value y; apply State.log_keeps; assumption; unfold y
    apply State.clearViral_keeps; apply State.resetDecoders_keeps; apply State.dropRequests_keeps; assumption

theorem execPerstAssert_keeps {s0 : State} {port : PortId} {s : State} (h_s : Keeps s0 s) : KR s0 (execPerstAssert port s) := by
  unfold execPerstAssert
  with_reducible
    apply KR.next; extract_lets +onlyGivenNames _; apply Keeps.ite; assumption; extract_lets +onlyGivenNames _
    extract_lets +onlyGivenNames y; refine (fun _ : Keeps s0 y => ?_) ?_; clear_value y
    extract_lets +onlyGivenNames y; refine (fun _ : Keeps s0 y => ?_) ?_; clear_value y; apply State.resetDecoders_keeps; assumption
    unfold y; refine Keeps.foldl ?_ fun _ _ _ => ?_; assumption; apply State.clearViral_keeps; apply State.linkDown_keeps; assumption
    unfold y; refine Keeps.mk ?_ rfl rfl; assumption

theorem execPerstRelease_keeps {s0 : State} {port : PortId} {s : State} (h_s : Keeps s0 s) : KR s0 (execPerstRelease port s) := by
  unfold execPerstRelease
  with_reducible
    apply KR.next; refine Keeps.mk ?_ rfl rfl; assumption

theorem execViralReceived_keeps {s0 : State} {port : PortId} {link : LinkId} {s : State} (h_s : Keeps s0 s) : KR s0
    (execViralReceived port link s) := by
  unfold execViralReceived
  with_reducible
    apply KR.next; extract_lets +onlyGivenNames _; extract_lets +onlyGivenNames _; extract_lets +onlyGivenNames _; apply Keeps.ite
    assumption; apply State.log_keeps; apply State.setLink_keeps; assumption

theorem execViralSent_keeps {s0 : State} {port : PortId} {link : LinkId} {unit : Word} {s : State} (h_s : Keeps s0 s) : KR s0
    (execViralSent port link unit s) := by
  unfold execViralSent
  with_reducible
    apply KR.next; extract_lets +onlyGivenNames _; extract_lets +onlyGivenNames _; extract_lets +onlyGivenNames _; apply Keeps.ite
    assumption; apply State.log_keeps; apply State.setLink_keeps; assumption

theorem execIdeKmKSetGo_keeps {s0 : State} {port : PortId} {link : LinkId} {stream : IdeStream} {s : State} (h_s : Keeps s0 s) : KR s0
    (execIdeKmKSetGo port link stream s) := by
  unfold execIdeKmKSetGo
  with_reducible
    apply KR.next; extract_lets +onlyGivenNames _; extract_lets +onlyGivenNames _; extract_lets +onlyGivenNames _; apply Keeps.ite
    assumption; split; apply State.setLink_keeps; assumption; refine Keeps.mk ?_ rfl rfl; assumption

theorem execIdeRekeyDue_keeps {s0 : State} {port : PortId} {link : LinkId} {stream : IdeStream} {s : State} (h_s : Keeps s0 s) : KR s0
    (execIdeRekeyDue port link stream s) := by
  unfold execIdeRekeyDue
  with_reducible
    apply KR.next; apply Keeps.ite; apply State.log_keeps; assumption; assumption

theorem execIdeCounterLimit_keeps {s0 : State} {port : PortId} {link : LinkId} {stream : IdeStream} {s : State} (h_s : Keeps s0 s) : KR
    s0 (execIdeCounterLimit port link stream s) := by
  unfold execIdeCounterLimit
  with_reducible
    apply KR.next; extract_lets +onlyGivenNames _; extract_lets +onlyGivenNames _; extract_lets +onlyGivenNames _; apply Keeps.ite
    assumption; extract_lets +onlyGivenNames _; extract_lets +onlyGivenNames y; refine (fun _ : Keeps s0 y => ?_) ?_; clear_value y
    apply State.log_keeps; apply State.log_keeps; assumption; unfold y; split; apply State.setLink_keeps; assumption
    refine Keeps.mk ?_ rfl rfl; assumption

theorem execEthLinkUp_keeps {s0 : State} {eth : CwId} {s : State} (h_s : Keeps s0 s) : KR s0 (execEthLinkUp eth s) := by
  unfold execEthLinkUp
  with_reducible
    apply KR.next; extract_lets +onlyGivenNames _; apply Keeps.ite; assumption; refine Keeps.mk ?_ rfl rfl; assumption

theorem State.ethDown_keeps {s0 s : State} {e : Nat} (h_s : Keeps s0 s) : Keeps s0 (State.ethDown s e) := by
  unfold State.ethDown
  with_reducible
    extract_lets +onlyGivenNames _; refine Keeps.mk ?_ rfl rfl; assumption

theorem execEthLinkDown_keeps {s0 : State} {eth : CwId} {s : State} (h_s : Keeps s0 s) : KR s0 (execEthLinkDown eth s) := by
  unfold execEthLinkDown
  with_reducible
    apply KR.next; apply State.ethDown_keeps; assumption

theorem execRailFault_keeps {s0 : State} {rail : Fin 6} {s : State} (h_s : Keeps s0 s) : KR s0 (execRailFault rail s) := by
  unfold execRailFault
  with_reducible
    apply KR.next; extract_lets +onlyGivenNames _; apply Keeps.ite; assumption; extract_lets +onlyGivenNames _
    extract_lets +onlyGivenNames _; extract_lets +onlyGivenNames y; refine (fun _ : Keeps s0 y => ?_) ?_; clear_value y; apply Keeps.ite
    extract_lets +onlyGivenNames y; refine (fun _ : Keeps s0 y => ?_) ?_; clear_value y; refine Keeps.foldl ?_ fun _ _ _ => ?_; assumption
    apply State.ethDown_keeps; assumption; unfold y; refine Keeps.foldl ?_ fun _ _ _ => ?_; assumption; apply State.linkDown_keeps
    assumption; assumption; unfold y; apply State.log_keeps; refine Keeps.mk ?_ rfl rfl; assumption

theorem execRailReturn_keeps {s0 : State} {rail : Fin 6} {s : State} (h_s : Keeps s0 s) : KR s0 (execRailReturn rail s) := by
  unfold execRailReturn
  with_reducible
    apply KR.next; extract_lets +onlyGivenNames _; apply Keeps.ite; assumption; extract_lets +onlyGivenNames _
    extract_lets +onlyGivenNames _; extract_lets +onlyGivenNames _; extract_lets +onlyGivenNames _
    extract_lets +onlyGivenNames y; refine (fun _ : Keeps s0 y => ?_) ?_; clear_value y
    extract_lets +onlyGivenNames y; refine (fun _ : Keeps s0 y => ?_) ?_; clear_value y; apply Keeps.ite; apply State.startFlash_keeps
    refine Keeps.mk ?_ rfl rfl; assumption; assumption; unfold y; apply Keeps.ite; apply State.log_keeps; assumption; assumption; unfold y
    refine Keeps.mk ?_ rfl rfl; assumption

theorem execRefclkLost_keeps {s0 : State} {ref : Fin 7} {s : State} (h_s : Keeps s0 s) : KR s0 (execRefclkLost ref s) := by
  unfold execRefclkLost
  with_reducible
    apply KR.next; extract_lets +onlyGivenNames _; apply Keeps.ite; assumption; extract_lets +onlyGivenNames _
    extract_lets +onlyGivenNames y; refine (fun _ : Keeps s0 y => ?_) ?_; clear_value y
    extract_lets +onlyGivenNames y; refine (fun _ : Keeps s0 y => ?_) ?_; clear_value y; apply Keeps.ite
    refine Keeps.foldl ?_ fun _ _ _ => ?_; assumption; apply State.linkDown_keeps; assumption; apply Keeps.ite; apply State.ethDown_keeps
    apply State.ethDown_keeps; assumption; assumption; unfold y; apply State.log_keeps; assumption; unfold y; refine Keeps.mk ?_ rfl rfl
    assumption

theorem execRefclkReturn_keeps {s0 : State} {ref : Fin 7} {s : State} (h_s : Keeps s0 s) : KR s0 (execRefclkReturn ref s) := by
  unfold execRefclkReturn
  with_reducible
    apply KR.next; extract_lets +onlyGivenNames _; apply Keeps.ite; assumption; extract_lets +onlyGivenNames _
    extract_lets +onlyGivenNames _; extract_lets +onlyGivenNames y; refine (fun _ : Keeps s0 y => ?_) ?_; clear_value y; apply Keeps.ite
    apply State.log_keeps; assumption; assumption; unfold y; refine Keeps.mk ?_ rfl rfl; assumption

theorem State.congested_keeps {s0 s : State} {q : Nat} {ce : Bool} (h_s : Keeps s0 s) : Keeps s0 (State.congested s q ce) := by
  unfold State.congested
  with_reducible
    extract_lets +onlyGivenNames _; extract_lets +onlyGivenNames _; apply Keeps.ite; apply State.rdmaSend_keeps; apply State.bump_keeps
    apply State.setQp_keeps; assumption; assumption

theorem State.rdmaPacket_keeps {s0 s : State} {h : RdmaHdr} {body : Nat → State → State} (h_s : Keeps s0 s)
    (h_body : ∀ a0 a1, Keeps s0 a1 → Keeps s0 (body a0 a1)) : Keeps s0 (State.rdmaPacket s h body) := by
  unfold State.rdmaPacket
  with_reducible
    extract_lets +onlyGivenNames _; apply Keeps.ite; assumption; apply Keeps.ite; apply State.bump_keeps; assumption; apply h_body
    apply State.congested_keeps; apply State.activity_keeps; assumption

theorem State.nakInvalid_keeps {s0 s : State} {q psn : Nat} (h_s : Keeps s0 s) : Keeps s0 (State.nakInvalid s q psn) := by
  unfold State.nakInvalid
  with_reducible
    apply State.qpError_keeps; apply State.rdmaNak_keeps; assumption

theorem State.rdmaOrder_keeps {s0 s : State} {q psn n : Nat} {new dup : State → State} (h_s : Keeps s0 s)
    (h_new : ∀ a0, Keeps s0 a0 → Keeps s0 (new a0)) (h_dup : ∀ a0, Keeps s0 a0 → Keeps s0 (dup a0)) : Keeps s0
    (State.rdmaOrder s q psn n new dup) := by
  unfold State.rdmaOrder
  with_reducible
    extract_lets +onlyGivenNames _; apply Keeps.ite; apply h_new; apply State.setQp_keeps; assumption; apply Keeps.ite
    apply State.rdmaNak_keeps; assumption; apply h_dup; apply State.bump_keeps; assumption

theorem State.accessFails_keeps {s0 s : State} {q psn : Nat} {rkey : Word} (h_s : Keeps s0 s) : Keeps s0
    (State.accessFails s q psn rkey) := by
  unfold State.accessFails
  with_reducible
    extract_lets +onlyGivenNames _; extract_lets +onlyGivenNames _
    extract_lets +onlyGivenNames y; refine (fun _ : Keeps s0 y => ?_) ?_; clear_value y
    extract_lets +onlyGivenNames y; refine (fun _ : Keeps s0 y => ?_) ?_; clear_value y
    extract_lets +onlyGivenNames y; refine (fun _ : Keeps s0 y => ?_) ?_; clear_value y; apply State.qpError_keeps; assumption; unfold y
    apply State.logLim_keeps; assumption; unfold y; apply Keeps.ite; apply State.keyAbsent_keeps; assumption; assumption; unfold y
    apply State.rdmaNak_keeps; assumption

theorem State.rdmaStore_keeps {s0 s : State} {cw l : Nat} {data : LineData} {be : BitVec 64} {req : Requester} (h_s : Keeps s0 s) :
    Keeps s0 (State.rdmaStore s cw l data be req) := by
  unfold State.rdmaStore
  with_reducible
    split; apply State.storeWrite_keeps; assumption; apply State.finishWrite_keeps; assumption

theorem State.addPend_keeps {s0 s : State} {q : Nat} {e : QpPend} (h_s : Keeps s0 s) : Keeps s0 (State.addPend s q e) := by
  unfold State.addPend
  with_reducible
    extract_lets +onlyGivenNames _; apply State.setQp_keeps; assumption

theorem State.rdmaWriteBytes_keeps {s0 s : State} {q psn dpa : Nat} {bs : List Byte} {last : Bool} (h_s : Keeps s0 s) : Keeps s0
    (State.rdmaWriteBytes s q psn dpa bs last) := by
  unfold State.rdmaWriteBytes
  with_reducible
    extract_lets +onlyGivenNames _; extract_lets +onlyGivenNames _
    extract_lets +onlyGivenNames y; refine (fun _ : Keeps s0 y => ?_) ?_; clear_value y
    extract_lets +onlyGivenNames y; refine (fun _ : Keeps s0 y => ?_) ?_; clear_value y; apply State.answerPend_keeps; assumption
    unfold y; refine Keeps.foldl ?_ fun _ _ _ => ?_; assumption; apply State.rdmaStore_keeps; assumption; unfold y
    apply State.addPend_keeps; assumption

theorem execRdmaWrite_keeps {s0 : State} {h : RdmaHdr} {reth : Option RdmaReth} {last : Bool} {bytes : List Byte} {s : State}
    (h_s : Keeps s0 s) : KR s0 (execRdmaWrite h reth last bytes s) := by
  unfold execRdmaWrite
  with_reducible
    apply KR.next; extract_lets +onlyGivenNames _; apply Keeps.ite; assumption; apply State.rdmaPacket_keeps; assumption; intro _ _ _
    apply State.rdmaOrder_keeps; assumption; intro _ _; extract_lets +onlyGivenNames _; extract_lets +onlyGivenNames _; split
    apply Keeps.ite; apply State.nakInvalid_keeps; assumption; apply Keeps.ite; apply State.answerPend_keeps; apply State.addPend_keeps
    assumption; split; apply State.accessFails_keeps; assumption
    extract_lets +onlyGivenNames y; refine (fun _ : Keeps s0 y => ?_) ?_; clear_value y; apply State.rdmaWriteBytes_keeps; assumption
    unfold y; apply Keeps.ite; assumption; apply State.setQp_keeps; assumption; apply Keeps.ite; apply State.nakInvalid_keeps; assumption
    extract_lets +onlyGivenNames y; refine (fun _ : Keeps s0 y => ?_) ?_; clear_value y; apply State.rdmaWriteBytes_keeps; assumption
    unfold y; apply State.setQp_keeps; assumption; apply State.nakInvalid_keeps; assumption; intro _ _; apply Keeps.ite; assumption
    apply State.rdmaSend_keeps; assumption

theorem State.rdmaReadLines_keeps {s0 s : State} {q psn dpa len : Nat} {errs : List (Nat × List Nat)} {wbBad : List Nat}
    (h_s : Keeps s0 s) : Keeps s0 (State.rdmaReadLines s q psn dpa len errs wbBad) := by
  unfold State.rdmaReadLines
  with_reducible
    apply Keeps.ite; apply State.rdmaSend_keeps; assumption; extract_lets +onlyGivenNames _; extract_lets +onlyGivenNames _
    extract_lets +onlyGivenNames _; extract_lets +onlyGivenNames y; refine (fun _ : Keeps s0 y => ?_) ?_; clear_value y
    refine Keeps.foldl ?_ fun _ _ _ => ?_; assumption; extract_lets +onlyGivenNames _; extract_lets +onlyGivenNames _; split
    apply Keeps.ite; assumption; apply State.serveRead_keeps; assumption; assumption; unfold y; apply State.setQp_keeps; assumption

theorem execRdmaRead_keeps {s0 : State} {h : RdmaHdr} {r : RdmaReth} {errs : List (Nat × List (Fin 40))} {wbBad : List Nat} {s : State}
    (h_s : Keeps s0 s) : KR s0 (execRdmaRead h r errs wbBad s) := by
  unfold execRdmaRead
  with_reducible
    apply KR.next; extract_lets +onlyGivenNames _; extract_lets +onlyGivenNames _; extract_lets +onlyGivenNames f397; split
    apply Keeps.ite; assumption; apply State.rdmaPacket_keeps; assumption; intro _ _ _; apply State.rdmaOrder_keeps; assumption; intro _ _
    unfold f397; apply Keeps.ite; apply State.nakInvalid_keeps; assumption; split; apply Keeps.ite; apply State.rdmaSend_keeps; assumption
    apply State.accessFails_keeps; assumption; apply State.rdmaReadLines_keeps; assumption; intro _ _; unfold f397; apply Keeps.ite
    apply State.nakInvalid_keeps; assumption; split; apply Keeps.ite; apply State.rdmaSend_keeps; assumption
    apply State.accessFails_keeps; assumption; apply State.rdmaReadLines_keeps; assumption; apply State.rdmaPacket_keeps; assumption
    intro _ _ _; apply State.rdmaOrder_keeps; assumption; intro _ _; unfold f397; apply Keeps.ite; apply State.nakInvalid_keeps
    assumption; split; apply Keeps.ite; apply State.rdmaSend_keeps; assumption; apply State.accessFails_keeps; assumption
    apply State.rdmaReadLines_keeps; assumption; intro _ _; unfold f397; apply Keeps.ite; apply State.nakInvalid_keeps; assumption; split
    apply Keeps.ite; apply State.rdmaSend_keeps; assumption; apply State.accessFails_keeps; assumption; apply State.rdmaReadLines_keeps
    assumption

theorem State.rdmaAtomic_keeps {s0 s : State} {q psn : Nat} {rkey : Word} {va right : Nat} {cache : Bool}
    {f : BitVec 64 → Option (BitVec 64)} (h_s : Keeps s0 s) : Keeps s0 (State.rdmaAtomic s q psn rkey va right cache f) := by
  unfold State.rdmaAtomic
  with_reducible
    apply Keeps.ite; apply State.nakInvalid_keeps; assumption; split; apply State.accessFails_keeps; assumption
    extract_lets +onlyGivenNames _; extract_lets +onlyGivenNames _; apply Keeps.ite; apply State.qpError_keeps; apply State.rdmaNak_keeps
    assumption; extract_lets +onlyGivenNames _; extract_lets +onlyGivenNames _; extract_lets +onlyGivenNames _
    extract_lets +onlyGivenNames y; refine (fun _ : Keeps s0 y => ?_) ?_; clear_value y; extract_lets +onlyGivenNames _; split
    apply State.answerPend_keeps; apply State.addPend_keeps; assumption
    extract_lets +onlyGivenNames y; refine (fun _ : Keeps s0 y => ?_) ?_; clear_value y; apply State.answerPend_keeps
    apply State.rdmaStore_keeps; assumption; unfold y; apply State.addPend_keeps; assumption; unfold y; apply State.setQp_keeps
    assumption

theorem State.atomicAgain_keeps {s0 s : State} {q psn : Nat} (h_s : Keeps s0 s) : Keeps s0 (State.atomicAgain s q psn) := by
  unfold State.atomicAgain
  with_reducible
    extract_lets +onlyGivenNames _; apply Keeps.ite; assumption; split; apply State.rdmaSend_keeps; assumption
    apply State.nakInvalid_keeps; apply State.log_keeps; assumption

theorem State.atomicPacket_keeps {s0 s : State} {h : RdmaHdr} {rkey : Word} {va : BitVec 64} {right : Nat} {cache : Bool}
    {f : BitVec 64 → Option (BitVec 64)} (h_s : Keeps s0 s) : Keeps s0 (State.atomicPacket s h rkey va right cache f) := by
  unfold State.atomicPacket
  with_reducible
    extract_lets +onlyGivenNames _; extract_lets +onlyGivenNames _; extract_lets +onlyGivenNames _
    extract_lets +onlyGivenNames y; refine (fun _ : Keeps s0 y => ?_) ?_; clear_value y; apply Keeps.ite; assumption; assumption; unfold y
    apply State.rdmaPacket_keeps; assumption; intro _ _ _; apply State.rdmaOrder_keeps; assumption; intro _ _
    apply State.rdmaAtomic_keeps; assumption; intro _ _; apply Keeps.ite; apply State.atomicAgain_keeps; assumption; apply Keeps.ite
    assumption; apply State.rdmaSend_keeps; assumption

theorem execCompareSwap_keeps {s0 : State} {h : RdmaHdr} {rkey : Word} {va cmp swap : BitVec 64} {s : State} (h_s : Keeps s0 s) : KR s0
    (execCompareSwap h rkey va cmp swap s) := by
  unfold execCompareSwap
  with_reducible
    apply KR.next; apply State.atomicPacket_keeps; assumption

theorem execFetchAdd_keeps {s0 : State} {h : RdmaHdr} {rkey : Word} {va add : BitVec 64} {s : State} (h_s : Keeps s0 s) : KR s0
    (execFetchAdd h rkey va add s) := by
  unfold execFetchAdd
  with_reducible
    apply KR.next; apply State.atomicPacket_keeps; assumption

theorem execAtomicWrite_keeps {s0 : State} {h : RdmaHdr} {rkey : Word} {va data : BitVec 64} {s : State} (h_s : Keeps s0 s) : KR s0
    (execAtomicWrite h rkey va data s) := by
  unfold execAtomicWrite
  with_reducible
    apply KR.next; apply State.atomicPacket_keeps; assumption

theorem State.addFlushFence_keeps {s0 s : State} {f : Fence} (h_s : Keeps s0 s) : Keeps s0 (State.addFlushFence s f) := by
  unfold State.addFlushFence
  with_reducible
    apply Keeps.ite; apply State.complete_keeps; assumption; apply State.addFence_keeps; assumption

theorem State.rdmaFlush_keeps {s0 s : State} {q psn : Nat} {persist : Bool} (h_s : Keeps s0 s) : Keeps s0
    (State.rdmaFlush s q psn persist) := by
  unfold State.rdmaFlush
  with_reducible
    extract_lets +onlyGivenNames _; extract_lets +onlyGivenNames _; extract_lets +onlyGivenNames _; extract_lets +onlyGivenNames _
    apply Keeps.ite; apply State.addFlushFence_keeps; apply State.setQp_keeps; assumption; apply Keeps.ite; apply State.rdmaNak_keeps
    assumption; extract_lets +onlyGivenNames y; refine (fun _ : Keeps s0 y => ?_) ?_; clear_value y; extract_lets +onlyGivenNames _
    extract_lets +onlyGivenNames _; extract_lets +onlyGivenNames y; refine (fun _ : Keeps s0 y => ?_) ?_; clear_value y; apply Keeps.ite
    extract_lets +onlyGivenNames _; extract_lets +onlyGivenNames y; refine (fun _ : Keeps s0 y => ?_) ?_; clear_value y
    extract_lets +onlyGivenNames _; extract_lets +onlyGivenNames _; extract_lets +onlyGivenNames _
    extract_lets +onlyGivenNames y; refine (fun _ : Keeps s0 y => ?_) ?_; clear_value y; split; apply Keeps.ite
    apply State.complete_keeps; apply State.dropFence_keeps; assumption; assumption; assumption; unfold y; refine Keeps.mk ?_ rfl rfl
    assumption; unfold y; apply State.startMirrorFence_keeps; assumption; assumption; unfold y; apply State.addFlushFence_keeps
    assumption; unfold y; apply State.setQp_keeps; assumption

theorem execRdmaFlush_keeps {s0 : State} {h : RdmaHdr} {r : RdmaReth} {persist : Bool} {s : State} (h_s : Keeps s0 s) : KR s0
    (execRdmaFlush h r persist s) := by
  unfold execRdmaFlush
  with_reducible
    apply KR.next; extract_lets +onlyGivenNames _; apply State.rdmaPacket_keeps; assumption; intro _ _ _
    extract_lets +onlyGivenNames f393; apply State.rdmaOrder_keeps; assumption; intro _ _; unfold f393; apply Keeps.ite
    apply State.nakInvalid_keeps; assumption; split; apply State.accessFails_keeps; assumption; apply State.rdmaFlush_keeps; assumption
    intro _ _; apply Keeps.ite; assumption; unfold f393; apply Keeps.ite; apply State.nakInvalid_keeps; assumption; split
    apply State.accessFails_keeps; assumption; apply State.rdmaFlush_keeps; assumption

theorem State.sendWrite_keeps {s0 s : State} {q : Nat} {it : QpItem} {from_ : Nat} (h_s : Keeps s0 s) : KP s0
    (State.sendWrite s q it from_) := by
  unfold State.sendWrite
  with_reducible
    extract_lets +onlyGivenNames _; extract_lets +onlyGivenNames _; refine KP.foldl ?_ fun _ _ _ => ?_; apply KP.mk; assumption
    apply KP.ite; assumption; extract_lets +onlyGivenNames _; extract_lets +onlyGivenNames _; extract_lets +onlyGivenNames _; apply KP.ite
    apply KP.mk; exact KP.snd (by assumption); apply KP.mk; apply State.rdmaSend_keeps; exact KP.snd (by assumption)

theorem State.sendItem_keeps {s0 s : State} {q : Nat} {it : QpItem} {from_ : Nat} (h_s : Keeps s0 s) : KP s0
    (State.sendItem s q it from_) := by
  unfold State.sendItem
  with_reducible
    split; apply State.sendWrite_keeps; assumption; extract_lets +onlyGivenNames _; apply KP.mk; apply State.rdmaSend_keeps; assumption
    apply KP.mk; apply State.rdmaSend_keeps; assumption; apply KP.mk; assumption

theorem State.startItem_keeps {s0 s : State} {q i : Nat} {it : QpItem} (h_s : Keeps s0 s) : Keeps s0 (State.startItem s q i it) := by
  unfold State.startItem
  with_reducible
    extract_lets +onlyGivenNames _; extract_lets +onlyGivenNames _; extract_lets +onlyGivenNames _; extract_lets +onlyGivenNames _
    extract_lets +onlyGivenNames _; extract_lets +onlyGivenNames _
    extract_lets +onlyGivenNames y; refine (fun _ : Keeps s0 y => ?_) ?_; clear_value y; split; apply State.qpError_keeps
    refine KP.of_eq (by assumption) ?_; apply State.sendItem_keeps; assumption; apply Keeps.ite; refine KP.of_eq (by assumption) ?_
    apply State.sendItem_keeps; assumption; refine Keeps.foldl ?_ fun _ _ _ => ?_; refine KP.of_eq (by assumption) ?_
    apply State.sendItem_keeps; assumption; extract_lets +onlyGivenNames _; split; apply State.serveRead_keeps; assumption; assumption
    unfold y; apply State.setQp_keeps; assumption

theorem State.pump_keeps {s0 : State} {q x1 x2 : Nat} {x3 : State} (h_x3 : Keeps s0 x3) : Keeps s0 (State.pump q x1 x2 x3) := by
  unfold State.pump
  with_reducible
    split; assumption; extract_lets +onlyGivenNames _; split; assumption; apply Keeps.ite; assumption; apply Keeps.ite
    apply State.pump_keeps; assumption; apply Keeps.ite; apply Keeps.ite; assumption; apply Keeps.ite; apply State.pump_keeps
    apply State.endItem_keeps; apply State.setQp_keeps; assumption; apply State.setQp_keeps; assumption; apply Keeps.ite; assumption
    apply State.pump_keeps; apply State.startItem_keeps; assumption

theorem State.pumpQueue_keeps {s0 s : State} {q : Nat} (h_s : Keeps s0 s) : Keeps s0 (State.pumpQueue s q) := by
  unfold State.pumpQueue
  with_reducible
    apply State.pump_keeps; assumption

theorem State.pumpWatchers_keeps {s0 s : State} {q : Nat} (h_s : Keeps s0 s) : Keeps s0 (State.pumpWatchers s q) := by
  unfold State.pumpWatchers
  with_reducible
    extract_lets +onlyGivenNames _; refine Keeps.foldl ?_ fun _ _ _ => ?_; assumption; apply State.pumpQueue_keeps; assumption

theorem State.retireItems_keeps {s0 : State} {q x1 : Nat} {x2 : State} (h_x2 : Keeps s0 x2) : Keeps s0 (State.retireItems q x1 x2) := by
  unfold State.retireItems
  with_reducible
    split; assumption; extract_lets +onlyGivenNames _; split; apply Keeps.ite
    extract_lets +onlyGivenNames y; refine (fun _ : Keeps s0 y => ?_) ?_; clear_value y; extract_lets +onlyGivenNames _
    extract_lets +onlyGivenNames y; refine (fun _ : Keeps s0 y => ?_) ?_; clear_value y; apply State.retireItems_keeps
    apply State.endItem_keeps; assumption; unfold y; split; apply Keeps.ite; extract_lets +onlyGivenNames _; refine Keeps.mk ?_ rfl rfl
    assumption; assumption; assumption; unfold y; apply State.setQp_keeps; assumption; assumption; assumption

theorem State.retire_keeps {s0 s : State} {q : Nat} (h_s : Keeps s0 s) : Keeps s0 (State.retire s q) := by
  unfold State.retire
  with_reducible
    extract_lets +onlyGivenNames y; refine (fun _ : Keeps s0 y => ?_) ?_; clear_value y; apply State.pumpWatchers_keeps
    apply State.pumpQueue_keeps; assumption; unfold y; apply State.retireItems_keeps; assumption

theorem execRdmaResponse_keeps {s0 : State} {h : RdmaHdr} {resp : RdmaResponse} {s : State} (h_s : Keeps s0 s) : KR s0
    (execRdmaResponse h resp s) := by
  unfold execRdmaResponse
  with_reducible
    apply KR.next; extract_lets +onlyGivenNames _; split; apply State.rdmaPacket_keeps; assumption; intro _ _ _
    extract_lets +onlyGivenNames _; apply State.retire_keeps; apply State.setQp_keeps; assumption; apply State.rdmaPacket_keeps
    assumption; intro _ _ _; extract_lets +onlyGivenNames _; extract_lets +onlyGivenNames _; extract_lets +onlyGivenNames _
    apply State.retire_keeps; apply State.setQp_keeps; assumption; apply Keeps.ite; assumption; apply State.rdmaPacket_keeps; assumption
    intro _ _ _; extract_lets +onlyGivenNames _; extract_lets +onlyGivenNames _; split; assumption; extract_lets +onlyGivenNames _
    extract_lets +onlyGivenNames _; extract_lets +onlyGivenNames _; extract_lets +onlyGivenNames _
    extract_lets +onlyGivenNames y; refine (fun _ : Keeps s0 y => ?_) ?_; clear_value y
    extract_lets +onlyGivenNames y; refine (fun _ : Keeps s0 y => ?_) ?_; clear_value y; apply State.retire_keeps; assumption; unfold y
    refine Keeps.foldl ?_ fun _ _ _ => ?_; assumption; apply State.rdmaStore_keeps; assumption; unfold y; apply State.setQp_keeps
    assumption

theorem execRdmaNakReceived_keeps {s0 : State} {h : RdmaHdr} {nak : RdmaNak} {s : State} (h_s : Keeps s0 s) : KR s0
    (execRdmaNakReceived h nak s) := by
  unfold execRdmaNakReceived
  with_reducible
    apply KR.next; extract_lets +onlyGivenNames _; apply State.rdmaPacket_keeps; assumption; intro _ _ _; extract_lets +onlyGivenNames _
    extract_lets +onlyGivenNames y; refine (fun _ : Keeps s0 y => ?_) ?_; clear_value y
    extract_lets +onlyGivenNames y; refine (fun _ : Keeps s0 y => ?_) ?_; clear_value y; extract_lets +onlyGivenNames _; split
    apply State.pumpQueue_keeps; assumption; split; apply State.qpError_keeps; assumption; apply State.qpError_keeps; assumption
    extract_lets +onlyGivenNames _; refine Keeps.foldl ?_ fun _ _ _ => ?_; assumption; apply Keeps.ite; extract_lets +onlyGivenNames _
    apply Keeps.ite; apply KP.snd; apply State.sendItem_keeps; assumption; apply KP.snd; apply State.sendItem_keeps; assumption
    assumption; unfold y; apply State.retireItems_keeps; assumption; unfold y; apply State.setQp_keeps; assumption

theorem execAckTimeout_keeps {s0 : State} {qp : Fin 8192} {s : State} (h_s : Keeps s0 s) : KR s0 (execAckTimeout qp s) := by
  unfold execAckTimeout
  with_reducible
    apply KR.next; extract_lets +onlyGivenNames _; extract_lets +onlyGivenNames _; apply Keeps.ite; assumption; split; assumption
    apply Keeps.ite; extract_lets +onlyGivenNames y; refine (fun _ : Keeps s0 y => ?_) ?_; clear_value y
    refine Keeps.foldl ?_ fun _ _ _ => ?_; assumption; apply Keeps.ite; apply KP.snd; apply State.sendItem_keeps; assumption; assumption
    unfold y; apply State.setQp_keeps; assumption; apply State.qpError_keeps; assumption

theorem State.postItem_keeps {s0 s : State} {q : Nat} {it : QpItem} (h_s : Keeps s0 s) : Keeps s0 (State.postItem s q it) := by
  unfold State.postItem
  with_reducible
    extract_lets +onlyGivenNames _; apply State.pumpQueue_keeps; apply State.spillPushed_keeps; apply State.setQp_keeps; assumption

theorem execGateSet_keeps {s0 : State} {d : Desc} {s : State} (h_s : Keeps s0 s) : KR s0 (execGateSet d s) := by
  unfold execGateSet
  with_reducible
    apply KR.next; apply State.take_keeps; assumption; intro _ _; extract_lets +onlyGivenNames _; extract_lets +onlyGivenNames _
    apply Keeps.ite; apply State.complete_keeps; assumption; apply Keeps.ite; apply State.complete_keeps; assumption; apply Keeps.ite
    apply State.spillRefused_keeps; apply State.complete_keeps; assumption; apply Keeps.ite; apply State.complete_keeps; assumption
    apply State.postItem_keeps; assumption

theorem execGateExpired_keeps {s0 : State} {qp : Fin 8192} {s : State} (h_s : Keeps s0 s) : KR s0 (execGateExpired qp s) := by
  unfold execGateExpired
  with_reducible
    apply KR.next; extract_lets +onlyGivenNames _; extract_lets +onlyGivenNames _; split; apply Keeps.ite; assumption
    extract_lets +onlyGivenNames _; extract_lets +onlyGivenNames y; refine (fun _ : Keeps s0 y => ?_) ?_; clear_value y
    extract_lets +onlyGivenNames y; refine (fun _ : Keeps s0 y => ?_) ?_; clear_value y; apply State.pumpQueue_keeps
    apply State.log_keeps; assumption; unfold y; refine Keeps.foldl ?_ fun _ _ _ => ?_; assumption; apply State.endItem_keeps; assumption
    unfold y; apply State.endItem_keeps; apply State.setQp_keeps; assumption; assumption

theorem execCnpReceived_keeps {s0 : State} {h : RdmaHdr} {s : State} (h_s : Keeps s0 s) : KR s0 (execCnpReceived h s) := by
  unfold execCnpReceived
  with_reducible
    apply KR.next; apply State.rdmaPacket_keeps; assumption; intro _ _ _
    extract_lets +onlyGivenNames y; refine (fun _ : Keeps s0 y => ?_) ?_; clear_value y; extract_lets +onlyGivenNames _
    extract_lets +onlyGivenNames _; apply State.setQp_keeps; assumption; unfold y; apply State.bump_keeps; assumption

theorem execRateTimer_keeps {s0 : State} {qp : Fin 8192} {s : State} (h_s : Keeps s0 s) : KR s0 (execRateTimer qp s) := by
  unfold execRateTimer
  with_reducible
    apply KR.next; extract_lets +onlyGivenNames _; extract_lets +onlyGivenNames _; apply Keeps.ite; assumption
    extract_lets +onlyGivenNames _; extract_lets +onlyGivenNames _; apply State.setQp_keeps; assumption

theorem execPfcPauseReceived_keeps {s0 : State} {eth : CwId} {prio : Fin 8} {on : Bool} {s : State} (h_s : Keeps s0 s) : KR s0
    (execPfcPauseReceived eth prio on s) := by
  unfold execPfcPauseReceived
  with_reducible
    apply KR.next; apply Keeps.ite; assumption; extract_lets +onlyGivenNames _; extract_lets +onlyGivenNames _
    extract_lets +onlyGivenNames y; refine (fun _ : Keeps s0 y => ?_) ?_; clear_value y; apply Keeps.ite; assumption
    refine Keeps.foldl ?_ fun _ _ _ => ?_; assumption; apply State.pumpQueue_keeps; assumption; unfold y; refine Keeps.mk ?_ rfl rfl
    assumption

theorem execQpStateRts_keeps {s0 : State} {qp : Fin 8192} {who : Writer} {s : State} (h_s : Keeps s0 s) : KR s0
    (execQpStateRts qp who s) := by
  unfold execQpStateRts
  with_reducible
    apply KR.next; extract_lets +onlyGivenNames _; extract_lets +onlyGivenNames _; split; assumption; apply Keeps.ite
    apply State.setQp_keeps; assumption; apply State.reject_keeps; assumption; apply State.reject_keeps; assumption

theorem execQpStateError_keeps {s0 : State} {qp : Fin 8192} {who : Writer} {s : State} (h_s : Keeps s0 s) : KR s0
    (execQpStateError qp who s) := by
  unfold execQpStateError
  with_reducible
    apply KR.next; extract_lets +onlyGivenNames _; split; apply State.qpError_keeps; assumption; assumption; apply State.reject_keeps
    assumption

theorem execQpStateReset_keeps {s0 : State} {qp : Fin 8192} {who : Writer} {s : State} (h_s : Keeps s0 s) : KR s0
    (execQpStateReset qp who s) := by
  unfold execQpStateReset
  with_reducible
    apply KR.next; extract_lets +onlyGivenNames _; split; apply State.stopQp_keeps; assumption; apply State.stopQp_keeps; assumption
    assumption; apply State.reject_keeps; assumption

theorem execQpResetDone_keeps {s0 : State} {qp : Fin 8192} {s : State} (h_s : Keeps s0 s) : KR s0 (execQpResetDone qp s) := by
  unfold execQpResetDone
  with_reducible
    apply KR.next; extract_lets +onlyGivenNames _; extract_lets +onlyGivenNames _; apply Keeps.ite; apply State.setQp_keeps; assumption
    assumption

theorem execMkeyValidSet_keeps {s0 : State} {key : Fin 16384} {on : Bool} {s : State} (h_s : Keeps s0 s) : KR s0
    (execMkeyValidSet key on s) := by
  unfold execMkeyValidSet
  with_reducible
    apply KR.next; extract_lets +onlyGivenNames _; extract_lets +onlyGivenNames _; extract_lets +onlyGivenNames _
    extract_lets +onlyGivenNames _; extract_lets +onlyGivenNames _; extract_lets +onlyGivenNames _; refine Keeps.mk ?_ rfl rfl; assumption

end Sys2Proof.Laws
end

