-- ==== Sys2Proof/Laws/KeepsHost.lean ====
section
/-!
SUPPORT. What the operations and commands of long operations, stacks, registers, management and mailboxes keep (`Keeps`).
-/
namespace Sys2Proof.Laws

open Machine Safety

set_option Elab.async false

theorem State.onRange_keeps {s0 s : State} {d : Desc} {dpa len : Nat} {act : State → State} (h_s : Keeps s0 s)
    (h_act : ∀ a0, Keeps s0 a0 → Keeps s0 (act a0)) : Keeps s0 (State.onRange s d dpa len act) := by
  unfold State.onRange
  with_reducible
    split; apply State.complete_keeps; assumption; apply Keeps.ite; apply h_act; assumption; apply State.complete_keeps
    apply State.keyAbsent_keeps; assumption

theorem execCopyLocal_keeps {s0 : State} {d : Desc} {s : State} (h_s : Keeps s0 s) : KR s0 (execCopyLocal d s) := by
  unfold execCopyLocal
  with_reducible
    apply KR.next; apply State.take_keeps; assumption; intro _ _; extract_lets +onlyGivenNames _; extract_lets +onlyGivenNames _
    extract_lets +onlyGivenNames _; apply Keeps.ite; apply State.complete_keeps; assumption; apply State.onRange_keeps; assumption
    intro _ _; apply State.onRange_keeps; assumption; intro _ _; apply State.startOp_keeps; assumption

theorem State.postCopy_keeps {s0 s : State} {d : Desc} {kind : ItemKind} (h_s : Keeps s0 s) : Keeps s0 (State.postCopy s d kind) := by
  unfold State.postCopy
  with_reducible
    extract_lets +onlyGivenNames _; extract_lets +onlyGivenNames _; extract_lets +onlyGivenNames _; extract_lets +onlyGivenNames _
    extract_lets +onlyGivenNames _; extract_lets +onlyGivenNames _; extract_lets +onlyGivenNames f394; apply Keeps.ite
    apply State.complete_keeps; assumption; apply Keeps.ite; unfold f394; apply Keeps.ite; apply State.spillRefused_keeps
    apply State.complete_keeps; assumption; apply Keeps.ite; apply State.complete_keeps; assumption; extract_lets +onlyGivenNames _
    extract_lets +onlyGivenNames _; apply State.postItem_keeps; apply State.startOp_keeps; assumption; apply Keeps.ite
    apply State.complete_keeps; assumption; apply State.onRange_keeps; assumption; intro _ _; unfold f394; apply Keeps.ite
    apply State.spillRefused_keeps; apply State.complete_keeps; assumption; apply Keeps.ite; apply State.complete_keeps; assumption
    extract_lets +onlyGivenNames _; extract_lets +onlyGivenNames _; apply State.postItem_keeps; apply State.startOp_keeps; assumption

theorem execCopyRemoteWrite_keeps {s0 : State} {d : Desc} {s : State} (h_s : Keeps s0 s) : KR s0 (execCopyRemoteWrite d s) := by
  unfold execCopyRemoteWrite
  with_reducible
    apply KR.next; apply State.take_keeps; assumption; intro _ _; apply State.postCopy_keeps; assumption

theorem execCopyRemoteRead_keeps {s0 : State} {d : Desc} {s : State} (h_s : Keeps s0 s) : KR s0 (execCopyRemoteRead d s) := by
  unfold execCopyRemoteRead
  with_reducible
    apply KR.next; apply State.take_keeps; assumption; intro _ _; apply State.postCopy_keeps; assumption

theorem execCopyRemoteFlush_keeps {s0 : State} {d : Desc} {s : State} (h_s : Keeps s0 s) : KR s0 (execCopyRemoteFlush d s) := by
  unfold execCopyRemoteFlush
  with_reducible
    apply KR.next; apply State.take_keeps; assumption; intro _ _; apply State.postCopy_keeps; assumption

theorem execFill_keeps {s0 : State} {d : Desc} {s : State} (h_s : Keeps s0 s) : KR s0 (execFill d s) := by
  unfold execFill
  with_reducible
    apply KR.next; apply State.take_keeps; assumption; intro _ _; extract_lets +onlyGivenNames _; extract_lets +onlyGivenNames _
    apply Keeps.ite; apply State.complete_keeps; assumption; apply State.onRange_keeps; assumption; intro _ _; apply State.startOp_keeps
    assumption

theorem execMigrate_keeps {s0 : State} {d : Desc} {s : State} (h_s : Keeps s0 s) : KR s0 (execMigrate d s) := by
  unfold execMigrate
  with_reducible
    apply KR.next; apply State.take_keeps; assumption; intro _ _; apply State.onRegion_keeps; assumption; intro _
    extract_lets +onlyGivenNames _; extract_lets +onlyGivenNames _; extract_lets +onlyGivenNames _; apply Keeps.ite
    apply State.complete_keeps; assumption; apply Keeps.ite; apply State.complete_keeps; assumption; apply Keeps.ite
    apply State.complete_keeps; assumption; split; apply State.complete_keeps; assumption; apply State.startOp_keeps; assumption

theorem State.opWrite_keeps {s0 s : State} {slot l : Nat} {x : Line} (h_s : Keeps s0 s) : Keeps s0 (State.opWrite s slot l x) := by
  unfold State.opWrite
  with_reducible
    split; extract_lets +onlyGivenNames _; apply State.storeWrite_keeps; assumption; apply State.finishWrite_keeps; assumption

theorem State.opRead_keeps {s0 s : State} {slot l : Nat} {errs : List Nat} {bad : Bool} (h_s : Keeps s0 s) : KP s0
    (State.opRead s slot l errs bad) := by
  unfold State.opRead
  with_reducible
    split; apply KP.mk; assumption; split; apply KP.ite; apply KP.mk; apply State.setOp_keeps; assumption; apply KP.mk
    apply State.setOp_keeps; assumption; apply KP.ite; apply KP.mk; assumption; apply KP.mk; apply State.setOp_keeps; assumption
    extract_lets +onlyGivenNames y; refine (fun _ : Keeps s0 y => ?_) ?_; clear_value y
    extract_lets +onlyGivenNames y; refine (fun _ : Keeps s0 y => ?_) ?_; clear_value y; split; split; apply KP.mk
    apply State.setOp_keeps; assumption; apply KP.mk; assumption; apply KP.mk; assumption; unfold y; split; apply State.serveRead_keeps
    assumption; apply State.deliver_keeps; assumption; unfold y; apply State.setOp_keeps; assumption

theorem State.issueLines_keeps {s0 s : State} {o : LongOp} {n : Nat} {dst : Nat → Nat} {src : Nat → State → Option Line × State}
    (h_s : Keeps s0 s) (h_src : ∀ a0 a1, Keeps s0 a1 → KP s0 (src a0 a1)) : Keeps s0 (State.issueLines s o n dst src) := by
  unfold State.issueLines
  with_reducible
    apply KP.snd; refine KP.foldl ?_ fun _ _ _ => ?_; apply KP.mk; assumption; extract_lets +onlyGivenNames _; apply KP.ite; assumption
    apply KP.ite; apply KP.mk; exact KP.snd (by assumption); split; apply KP.mk; refine KP.of_eq (by assumption) ?_; apply h_src
    exact KP.snd (by assumption); extract_lets +onlyGivenNames y; refine (fun _ : Keeps s0 y => ?_) ?_; clear_value y; apply KP.mk
    apply State.opWrite_keeps; assumption; unfold y; split; apply State.setOp_keeps; refine KP.of_eq (by assumption) ?_; apply h_src
    exact KP.snd (by assumption); refine KP.of_eq (by assumption) ?_; apply h_src; exact KP.snd (by assumption)

theorem State.endLines_keeps {s0 s : State} {slot n : Nat} (h_s : Keeps s0 s) : Keeps s0 (State.endLines s slot n) := by
  unfold State.endLines
  with_reducible
    split; apply Keeps.ite; apply State.endOp_keeps; assumption; assumption; assumption

theorem State.rehomePage_keeps {s0 s : State} {r : Region} {k : Nat} (h_s : Keeps s0 s) : Keeps s0 (State.rehomePage s r k) := by
  unfold State.rehomePage
  with_reducible
    extract_lets +onlyGivenNames _; extract_lets +onlyGivenNames _; apply Keeps.ite; apply State.setPage_keeps; assumption
    apply Keeps.ite; apply State.evictClean_keeps; assumption; extract_lets +onlyGivenNames _; extract_lets +onlyGivenNames _; split
    apply State.enterSet_keeps; apply State.setPage_keeps; refine KP.of_eq (by assumption) ?_; apply State.chooseWay_keeps
    apply State.setPage_keeps; assumption; extract_lets +onlyGivenNames _; apply State.enterSet_keeps; apply State.setPage_keeps
    apply State.evictClean_keeps; refine KP.of_eq (by assumption) ?_; apply State.chooseWay_keeps; apply State.setPage_keeps; assumption
    extract_lets +onlyGivenNames y; refine (fun _ : Keeps s0 y => ?_) ?_; clear_value y; apply Keeps.ite; apply State.releaseOne_keeps
    assumption; assumption; unfold y; split; apply State.pageHome_keeps; apply State.programHome_keeps
    refine KOP.of_eq (by assumption) ?_; apply State.allocHome_keeps; refine KP.of_eq (by assumption) ?_; apply State.chooseWay_keeps
    apply State.setPage_keeps; assumption; refine Keeps.foldl ?_ fun _ _ _ => ?_; refine KP.of_eq (by assumption) ?_
    apply State.chooseWay_keeps; apply State.setPage_keeps; assumption; apply State.setHome_keeps; assumption

theorem State.migrateEnds_keeps {s0 s : State} {slot i : Nat} {cls : RgnClass} {place f n : Nat} (h_s : Keeps s0 s) : Keeps s0
    (State.migrateEnds s slot i cls place f n) := by
  unfold State.migrateEnds
  with_reducible
    extract_lets +onlyGivenNames _; split; assumption; apply Keeps.ite; assumption; extract_lets +onlyGivenNames _
    extract_lets +onlyGivenNames y; refine (fun _ : Keeps s0 y => ?_) ?_; clear_value y; extract_lets +onlyGivenNames _
    refine Keeps.foldl ?_ fun _ _ _ => ?_; assumption; apply State.rehomePage_keeps; assumption; unfold y; apply State.commitEdge_keeps
    apply State.setOp_keeps; assumption

theorem State.persistStep_keeps {s0 s : State} {o : LongOp} {i : Nat} (h_s : Keeps s0 s) : Keeps s0 (State.persistStep s o i) := by
  unfold State.persistStep
  with_reducible
    extract_lets +onlyGivenNames _; extract_lets +onlyGivenNames _; extract_lets +onlyGivenNames _; split
    extract_lets +onlyGivenNames y; refine (fun _ : Keeps s0 y => ?_) ?_; clear_value y; apply Keeps.ite; assumption
    apply State.setOp_keeps; assumption; unfold y; apply Keeps.ite; apply State.startWriteback_keeps; assumption; assumption
    apply Keeps.ite; assumption; apply Keeps.ite; assumption; apply Keeps.ite; apply State.commitEdge_keeps; apply State.setOp_keeps
    assumption; clear_value *; split; apply State.startWriteback_keeps; assumption; assumption

theorem execSanitize_keeps {s0 : State} {d : Desc} {s : State} (h_s : Keeps s0 s) : KR s0 (execSanitize d s) := by
  unfold execSanitize
  with_reducible
    apply KR.next; extract_lets +onlyGivenNames _; extract_lets +onlyGivenNames _; apply State.take_keeps; assumption; intro _ _
    apply Keeps.ite; apply State.complete_keeps; assumption; apply Keeps.ite; apply State.complete_keeps; assumption
    apply State.startOp_keeps; assumption

theorem State.freshLine_keeps {s0 s : State} (h_s : Keeps s0 s) : KP s0 (State.freshLine s) := by
  unfold State.freshLine
  with_reducible
    split; split; apply KP.mk; refine KP.of_eq (by assumption) ?_; apply State.fresh_keeps; refine KP.of_eq (by assumption) ?_
    apply State.fresh_keeps; assumption

theorem State.freshLines_keeps {s0 s : State} {xs : List (Nat × Line)} (h_s : Keeps s0 s) : KP s0 (State.freshLines s xs) := by
  unfold State.freshLines
  with_reducible
    refine KP.foldl ?_ fun _ _ _ => ?_; apply KP.mk; assumption; split; apply KP.mk; refine KP.of_eq (by assumption) ?_
    apply State.freshLine_keeps; exact KP.snd (by assumption)

theorem State.sanitizeStep_keeps {s0 s : State} {o : LongOp} (h_s : Keeps s0 s) : Keeps s0 (State.sanitizeStep s o) := by
  unfold State.sanitizeStep
  with_reducible
    split; extract_lets +onlyGivenNames y; refine (fun _ : Keeps s0 y => ?_) ?_; clear_value y; apply State.setOp_keeps; assumption
    unfold y; refine Keeps.foldl ?_ fun _ _ _ => ?_; assumption; split; apply State.setHome_keeps; refine KP.of_eq (by assumption) ?_
    apply State.freshLine_keeps; assumption; split; extract_lets +onlyGivenNames y; refine (fun _ : Keeps s0 y => ?_) ?_; clear_value y
    extract_lets +onlyGivenNames y; refine (fun _ : Keeps s0 y => ?_) ?_; clear_value y; apply State.endOp_keeps; assumption; unfold y
    refine Keeps.foldl ?_ fun _ _ _ => ?_; assumption; split; split; apply State.setImage_keeps; refine KP.of_eq (by assumption) ?_
    apply State.freshLines_keeps; refine KP.of_eq (by assumption) ?_; apply State.freshLines_keeps; assumption; unfold y
    refine Keeps.foldl ?_ fun _ _ _ => ?_; refine KP.of_eq (by assumption) ?_; apply State.freshLines_keeps; assumption
    apply State.setLine_keeps; assumption

theorem execScrubRegion_keeps {s0 : State} {d : Desc} {s : State} (h_s : Keeps s0 s) : KR s0 (execScrubRegion d s) := by
  unfold execScrubRegion
  with_reducible
    apply KR.next; apply State.take_keeps; assumption; intro _ _; apply Keeps.ite; apply State.complete_keeps; assumption
    extract_lets +onlyGivenNames _; apply State.startOp_keeps; assumption

theorem State.scrubUnit_keeps {s0 s : State} {unit : Nat} {repair : Bool} {errs : List (Nat × List (Fin 40))} {bad : List Nat}
    (h_s : Keeps s0 s) : KP s0 (State.scrubUnit s unit repair errs bad) := by
  unfold State.scrubUnit
  with_reducible
    extract_lets +onlyGivenNames _; extract_lets +onlyGivenNames _; split; apply KP.mk; refine KP.of_eq (by assumption) ?_
    refine KP.foldl ?_ fun _ _ _ => ?_; apply KP.mk; assumption
    extract_lets +onlyGivenNames y; refine (fun _ : Keeps s0 y => ?_) ?_; clear_value y; extract_lets +onlyGivenNames _; split
    extract_lets +onlyGivenNames _; apply KP.ite; assumption; split; apply KP.mk; refine KP.of_eq (by assumption) ?_
    apply State.decodeWith_keeps; assumption; apply KP.mk; apply State.startRetrain_keeps; apply State.holdRead_keeps
    refine KP.of_eq (by assumption) ?_; apply State.decodeWith_keeps; assumption; extract_lets +onlyGivenNames _; apply KP.ite; assumption
    split; apply KP.mk; refine KP.of_eq (by assumption) ?_; apply State.decodeWith_keeps; assumption; apply KP.mk
    apply State.startRetrain_keeps; apply State.holdRead_keeps; refine KP.of_eq (by assumption) ?_; apply State.decodeWith_keeps
    assumption; extract_lets +onlyGivenNames _; apply KP.ite; assumption; split; apply KP.mk; refine KP.of_eq (by assumption) ?_
    apply State.decodeWith_keeps; assumption; apply KP.mk; apply State.startRetrain_keeps; apply State.holdRead_keeps
    refine KP.of_eq (by assumption) ?_; apply State.decodeWith_keeps; assumption; assumption; unfold y; exact KP.snd (by assumption)

theorem State.scrubStep_keeps {s0 s : State} {o : LongOp} {region : Nat} {all repair : Bool} {errs : List (Nat × List (Fin 40))}
    {bad : List Nat} (h_s : Keeps s0 s) : Keeps s0 (State.scrubStep s o region all repair errs bad) := by
  unfold State.scrubStep
  with_reducible
    split; apply State.endOp_keeps; assumption; split; extract_lets +onlyGivenNames _; apply Keeps.ite; apply State.endOp_keeps
    refine KP.of_eq (by assumption) ?_; apply State.scrubUnit_keeps; assumption; apply State.setOp_keeps
    refine KP.of_eq (by assumption) ?_; apply State.scrubUnit_keeps; assumption

theorem State.scanStep_keeps {s0 s : State} {o : LongOp} {line lines port ld : Nat} {errs : List (Nat × List (Fin 40))} {bad : List Nat}
    (h_s : Keeps s0 s) : Keeps s0 (State.scanStep s o line lines port ld errs bad) := by
  unfold State.scanStep
  with_reducible
    extract_lets +onlyGivenNames _; extract_lets +onlyGivenNames _; extract_lets +onlyGivenNames _; split; extract_lets +onlyGivenNames _
    extract_lets +onlyGivenNames y; refine (fun _ : Keeps s0 y => ?_) ?_; clear_value y; extract_lets +onlyGivenNames _; apply Keeps.ite
    apply State.endOp_keeps; assumption; apply State.setOp_keeps; assumption; unfold y; apply State.setLd_keeps
    refine KP.of_eq (by assumption) ?_; apply State.scrubUnit_keeps; assumption

theorem State.evacStep_keeps {s0 s : State} {o : LongOp} {n : Nat} (h_s : Keeps s0 s) : Keeps s0 (State.evacStep s o n) := by
  unfold State.evacStep
  with_reducible
    split; apply Keeps.ite; apply State.setOp_keeps; apply State.setShare_keeps; assumption; assumption; assumption

theorem State.evacModuleStep_keeps {s0 s : State} {o : LongOp} {m : Nat} (h_s : Keeps s0 s) : Keeps s0 (State.evacModuleStep s o m) :=
    by
  unfold State.evacModuleStep
  with_reducible
    split; assumption; extract_lets +onlyGivenNames _; extract_lets +onlyGivenNames y; refine (fun _ : Keeps s0 y => ?_) ?_; clear_value y
    extract_lets +onlyGivenNames _; apply State.setOp_keeps; assumption; unfold y; apply State.clearBlock_keeps; assumption

theorem State.placeStep_keeps {s0 s : State} {o : LongOp} {page n action : Nat} (h_s : Keeps s0 s) : Keeps s0
    (State.placeStep s o page n action) := by
  unfold State.placeStep
  with_reducible
    extract_lets +onlyGivenNames y; refine (fun _ : Keeps s0 y => ?_) ?_; clear_value y; extract_lets +onlyGivenNames _; apply Keeps.ite
    apply State.endOp_keeps; assumption; apply State.setOp_keeps; assumption; unfold y; apply Keeps.ite
    refine Keeps.foldl ?_ fun _ _ _ => ?_; assumption; apply State.startWriteback_keeps; assumption; assumption

theorem State.unplan_keeps {s0 s : State} {f : Planned → Planned} (h_s : Keeps s0 s) : Keeps s0 (State.unplan s f) := by
  unfold State.unplan
  with_reducible
    split; assumption; extract_lets +onlyGivenNames _; extract_lets +onlyGivenNames _; refine Keeps.mk ?_ rfl rfl; assumption

theorem State.cancelNow_keeps {s0 s : State} {o : LongOp} (h_s : Keeps s0 s) : Keeps s0 (State.cancelNow s o) := by
  unfold State.cancelNow
  with_reducible
    extract_lets +onlyGivenNames _; split; apply Keeps.ite; apply State.endOp_keeps; assumption; apply State.endCancelled_keeps
    assumption; apply Keeps.ite; apply State.endOp_keeps; assumption; apply State.endCancelled_keeps; assumption
    apply State.endCancelled_keeps; apply State.dropFence_keeps; assumption; apply State.endCancelled_keeps; apply State.dropFence_keeps
    assumption; apply Keeps.ite; assumption; extract_lets +onlyGivenNames _; apply State.pumpQueue_keeps; apply State.endCancelled_keeps
    apply State.setQp_keeps; assumption; extract_lets +onlyGivenNames _
    extract_lets +onlyGivenNames y; refine (fun _ : Keeps s0 y => ?_) ?_; clear_value y; apply State.endCancelled_keeps
    apply State.setChState_keeps; assumption; unfold y; apply State.setCh_keeps; assumption
    extract_lets +onlyGivenNames y; refine (fun _ : Keeps s0 y => ?_) ?_; clear_value y; apply State.endCancelled_keeps
    apply State.unplan_keeps; assumption; unfold y; refine Keeps.foldl ?_ fun _ _ _ => ?_; assumption; apply State.setNfState_keeps
    assumption; split; apply Keeps.ite; assumption; apply State.setPlan_keeps; assumption; apply State.endCancelled_keeps; assumption
    extract_lets +onlyGivenNames _; extract_lets +onlyGivenNames y; refine (fun _ : Keeps s0 y => ?_) ?_; clear_value y
    apply State.endCancelled_keeps; apply State.unplan_keeps; assumption; unfold y; apply State.setPack_keeps; assumption
    apply State.endCancelled_keeps; assumption; apply State.endCancelled_keeps; assumption; apply State.endCancelled_keeps; assumption
    apply State.endCancelled_keeps; assumption; apply State.endCancelled_keeps; assumption; assumption; assumption; assumption

theorem State.suspendNow_keeps {s0 s : State} {o : LongOp} (h_s : Keeps s0 s) : Keeps s0 (State.suspendNow s o) := by
  unfold State.suspendNow
  with_reducible
    apply Keeps.ite; refine Keeps.foldl ?_ fun _ _ _ => ?_; apply State.setOp_keeps; assumption; apply State.complete_keeps; assumption
    extract_lets +onlyGivenNames y; refine (fun _ : Keeps s0 y => ?_) ?_; clear_value y
    extract_lets +onlyGivenNames y; refine (fun _ : Keeps s0 y => ?_) ?_; clear_value y
    extract_lets +onlyGivenNames y; refine (fun _ : Keeps s0 y => ?_) ?_; clear_value y; split; apply State.stagePlan_keeps; assumption
    assumption; unfold y; refine Keeps.foldl ?_ fun _ _ _ => ?_; assumption; apply State.complete_keeps; assumption; unfold y
    apply State.record_keeps; assumption; unfold y; apply State.setOp_keeps; assumption

theorem execOpCancel_keeps {s0 : State} {d : Desc} {s : State} (h_s : Keeps s0 s) : KR s0 (execOpCancel d s) := by
  unfold execOpCancel
  with_reducible
    apply KR.next; apply State.take_keeps; assumption; intro _ _; split; apply State.complete_keeps; assumption; apply Keeps.ite
    apply State.complete_keeps; assumption; apply Keeps.ite; apply State.complete_keeps; assumption; apply Keeps.ite
    apply State.complete_keeps; assumption; extract_lets +onlyGivenNames _; extract_lets +onlyGivenNames _
    extract_lets +onlyGivenNames y; refine (fun _ : Keeps s0 y => ?_) ?_; clear_value y; apply Keeps.ite; apply State.cancelNow_keeps
    assumption; assumption; unfold y; apply State.setOp_keeps; assumption

theorem State.stepOp_keeps {s0 s : State} {o : LongOp} {errs : List (Nat × List (Fin 40))} {bad : List Nat} (h_s : Keeps s0 s) : Keeps
    s0 (State.stepOp s o errs bad) := by
  unfold State.stepOp
  with_reducible
    split; apply State.endLines_keeps; apply State.issueLines_keeps; assumption; intro _ _ _; apply State.opRead_keeps; assumption
    extract_lets +onlyGivenNames _; apply State.endLines_keeps; apply State.issueLines_keeps; assumption; intro _ _ _; apply KP.mk
    assumption; apply State.retire_keeps; assumption; extract_lets +onlyGivenNames _; extract_lets +onlyGivenNames _
    extract_lets +onlyGivenNames _; extract_lets +onlyGivenNames y; refine (fun _ : Keeps s0 y => ?_) ?_; clear_value y
    apply State.migrateEnds_keeps; assumption; unfold y; apply State.issueLines_keeps; assumption; intro _ _ _; apply State.opRead_keeps
    assumption; apply State.evacStep_keeps; assumption; apply State.evacModuleStep_keeps; assumption; apply State.stagePlan_keeps
    assumption; apply State.placeStep_keeps; assumption; apply State.persistStep_keeps; assumption; apply State.rotateStep_keeps
    assumption; apply State.sanitizeStep_keeps; assumption; apply State.scrubStep_keeps; assumption; apply State.scanStep_keeps
    assumption; assumption; assumption; assumption; assumption

theorem execLongOpStep_keeps {s0 : State} {slot : Fin 1024} {errs : List (Nat × List (Fin 40))} {bad : List Nat} {s : State}
    (h_s : Keeps s0 s) : KR s0 (execLongOpStep slot errs bad s) := by
  unfold execLongOpStep
  with_reducible
    apply KR.next; split; assumption; apply Keeps.ite; assumption; split; apply Keeps.ite; apply State.endOp_keeps; assumption; assumption
    assumption; apply Keeps.ite; apply State.cancelNow_keeps; assumption; assumption; apply Keeps.ite; apply State.stepOp_keeps
    assumption; apply Keeps.ite; apply State.suspendNow_keeps; assumption; assumption

theorem State.resetQueue_keeps {s0 s : State} {kind inst : Nat} (h_s : Keeps s0 s) : KP s0 (State.resetQueue s kind inst) := by
  unfold State.resetQueue
  with_reducible
    split; extract_lets +onlyGivenNames _; extract_lets +onlyGivenNames _
    extract_lets +onlyGivenNames y; refine (fun _ : Keeps s0 y => ?_) ?_; clear_value y; extract_lets +onlyGivenNames _
    extract_lets +onlyGivenNames y; refine (fun _ : Keeps s0 y => ?_) ?_; clear_value y; apply KP.mk
    refine Keeps.foldl ?_ fun _ _ _ => ?_; assumption; apply State.complete_keeps; assumption; unfold y; apply State.setRing_keeps
    assumption; unfold y; apply State.tearOpen_keeps; assumption; extract_lets +onlyGivenNames _
    extract_lets +onlyGivenNames y; refine (fun _ : Keeps s0 y => ?_) ?_; clear_value y; apply KP.mk
    refine Keeps.foldl ?_ fun _ _ _ => ?_; assumption; apply State.endItem_keeps; assumption; unfold y; apply State.setQp_keeps
    assumption; apply KP.mk; apply State.lagFires_keeps; assumption; apply KP.mk; assumption

theorem execSqPointerMismatch_keeps {s0 : State} {kind : Fin 16} {inst : Fin 8192} {s : State} (h_s : Keeps s0 s) : KR s0
    (execSqPointerMismatch kind inst s) := by
  unfold execSqPointerMismatch
  with_reducible
    apply KR.next; extract_lets +onlyGivenNames _; extract_lets +onlyGivenNames _; apply Keeps.ite; assumption; apply Keeps.ite; split
    extract_lets +onlyGivenNames _; extract_lets +onlyGivenNames y; refine (fun _ : Keeps s0 y => ?_) ?_; clear_value y
    apply State.log_keeps; apply State.bump_keeps; assumption; unfold y; apply Keeps.ite; refine Keeps.mk ?_ rfl rfl
    refine KP.of_eq (by assumption) ?_; apply State.resetQueue_keeps; assumption; refine KP.of_eq (by assumption) ?_
    apply State.resetQueue_keeps; assumption; apply State.log_keeps; apply State.bump_keeps; assumption

theorem State.setLive_keeps {s0 s : State} {live : BitVec 4} (h_s : Keeps s0 s) : Keeps s0 (State.setLive s live) := by
  unfold State.setLive
  with_reducible
    extract_lets +onlyGivenNames _; extract_lets +onlyGivenNames _
    extract_lets +onlyGivenNames y; refine (fun _ : Keeps s0 y => ?_) ?_; clear_value y; refine Keeps.foldl ?_ fun _ _ _ => ?_; assumption
    apply Keeps.ite; apply State.log_keeps; assumption; apply Keeps.ite; apply State.log_keeps; assumption; assumption; unfold y
    refine Keeps.mk ?_ rfl rfl; assumption

theorem State.setMaster_keeps {s0 s : State} {m cause : Nat} (h_s : Keeps s0 s) : Keeps s0 (State.setMaster s m cause) := by
  unfold State.setMaster
  with_reducible
    extract_lets +onlyGivenNames _; extract_lets +onlyGivenNames _; extract_lets +onlyGivenNames _
    extract_lets +onlyGivenNames y; refine (fun _ : Keeps s0 y => ?_) ?_; clear_value y; apply State.log_keeps; assumption; unfold y
    refine Keeps.mk ?_ rfl rfl; assumption

theorem State.resumeRegionCmds_keeps {s0 s : State} (h_s : Keeps s0 s) : Keeps s0 (State.resumeRegionCmds s) := by
  unfold State.resumeRegionCmds
  with_reducible
    extract_lets +onlyGivenNames _; extract_lets +onlyGivenNames _
    extract_lets +onlyGivenNames y; refine (fun _ : Keeps s0 y => ?_) ?_; clear_value y; refine Keeps.foldl ?_ fun _ _ _ => ?_; assumption
    apply Keeps.ite; apply createRegion_keeps; assumption; apply resizeRegion_keeps; assumption; unfold y; refine Keeps.mk ?_ rfl rfl
    assumption

theorem State.takeReport_keeps {s0 s : State} {r : MemberReport} (h_s : Keeps s0 s) : Keeps s0 (State.takeReport s r) := by
  unfold State.takeReport
  with_reducible
    extract_lets +onlyGivenNames _; extract_lets +onlyGivenNames _; extract_lets +onlyGivenNames _
    extract_lets +onlyGivenNames y; refine (fun _ : Keeps s0 y => ?_) ?_; clear_value y
    extract_lets +onlyGivenNames y; refine (fun _ : Keeps s0 y => ?_) ?_; clear_value y; apply Keeps.ite; assumption
    apply State.sensorChange_keeps; assumption; unfold y; apply Keeps.ite; assumption; apply State.sensorChange_keeps; assumption
    unfold y; refine Keeps.mk ?_ rfl rfl; assumption

theorem execHeartbeatSend_keeps {s0 : State} {reports : List MemberReport} {s : State} (h_s : Keeps s0 s) : KR s0
    (execHeartbeatSend reports s) := by
  unfold execHeartbeatSend
  with_reducible
    apply KR.next; extract_lets +onlyGivenNames _; apply Keeps.ite; assumption; extract_lets +onlyGivenNames _
    extract_lets +onlyGivenNames y; refine (fun _ : Keeps s0 y => ?_) ?_; clear_value y
    extract_lets +onlyGivenNames y; refine (fun _ : Keeps s0 y => ?_) ?_; clear_value y; extract_lets +onlyGivenNames _
    extract_lets +onlyGivenNames _; extract_lets +onlyGivenNames _; extract_lets +onlyGivenNames _; extract_lets +onlyGivenNames _
    extract_lets +onlyGivenNames y; refine (fun _ : Keeps s0 y => ?_) ?_; clear_value y; extract_lets +onlyGivenNames _
    extract_lets +onlyGivenNames y; refine (fun _ : Keeps s0 y => ?_) ?_; clear_value y; refine Keeps.foldl ?_ fun _ _ _ => ?_; assumption
    apply State.takeReport_keeps; assumption; unfold y; refine Keeps.mk ?_ rfl rfl; assumption; unfold y; apply State.setLive_keeps
    refine Keeps.mk ?_ rfl rfl; assumption; unfold y; apply State.emit_keeps; assumption; unfold y; apply Keeps.ite; assumption
    apply State.setMaster_keeps; assumption

theorem execHeartbeatReceive_keeps {s0 : State} {member : Fin 4} {live : BitVec 4} {handback : Bool} {s : State} (h_s : Keeps s0 s) : KR
    s0 (execHeartbeatReceive member live handback s) := by
  unfold execHeartbeatReceive
  with_reducible
    apply KR.next; extract_lets +onlyGivenNames _; apply Keeps.ite; assumption; extract_lets +onlyGivenNames _
    extract_lets +onlyGivenNames y; refine (fun _ : Keeps s0 y => ?_) ?_; clear_value y
    extract_lets +onlyGivenNames y; refine (fun _ : Keeps s0 y => ?_) ?_; clear_value y
    extract_lets +onlyGivenNames y; refine (fun _ : Keeps s0 y => ?_) ?_; clear_value y; apply State.resumeRegionCmds_keeps
    apply State.emit_keeps; assumption; unfold y; apply State.setLive_keeps; assumption; unfold y; apply Keeps.ite
    apply State.setMaster_keeps; assumption; apply Keeps.ite; apply State.setMaster_keeps; assumption; assumption; unfold y
    refine Keeps.mk ?_ rfl rfl; assumption

theorem execStackElection_keeps {s0 : State} {ranges : List StackRegion} {s : State} (h_s : Keeps s0 s) : KR s0
    (execStackElection ranges s) := by
  unfold execStackElection
  with_reducible
    apply KR.next; extract_lets +onlyGivenNames _; extract_lets +onlyGivenNames _; apply Keeps.ite; assumption
    extract_lets +onlyGivenNames y; refine (fun _ : Keeps s0 y => ?_) ?_; clear_value y
    extract_lets +onlyGivenNames y; refine (fun _ : Keeps s0 y => ?_) ?_; clear_value y; extract_lets +onlyGivenNames _
    extract_lets +onlyGivenNames y; refine (fun _ : Keeps s0 y => ?_) ?_; clear_value y; apply State.resumeRegionCmds_keeps
    apply State.emit_keeps; assumption; unfold y; refine Keeps.mk ?_ rfl rfl; assumption; unfold y; apply State.setLive_keeps; assumption
    unfold y; apply State.setMaster_keeps; assumption

theorem execHandback_keeps {s0 : State} {who : Writer} {received : Bool} {s : State} (h_s : Keeps s0 s) : KR s0
    (execHandback who received s) := by
  unfold execHandback
  with_reducible
    apply KR.next; extract_lets +onlyGivenNames _; apply Keeps.ite; apply Keeps.ite; apply State.resumeRegionCmds_keeps
    apply State.setMaster_keeps; assumption; assumption; split; apply Keeps.ite; apply State.emit_keeps; apply State.setMaster_keeps
    assumption; apply State.reject_keeps; assumption; apply State.reject_keeps; assumption

theorem execStackRangeCheck_keeps {s0 : State} {x : StackRegion} {index : Fin 4096} {s : State} (h_s : Keeps s0 s) : KR s0
    (execStackRangeCheck x index s) := by
  unfold execStackRangeCheck
  with_reducible
    apply KR.next; extract_lets +onlyGivenNames _; apply Keeps.ite; assumption; extract_lets +onlyGivenNames f396; apply Keeps.ite
    unfold f396; refine Keeps.mk ?_ rfl rfl; assumption; split; apply State.emit_keeps; apply State.log_keeps; assumption
    apply State.emit_keeps; unfold f396; refine Keeps.mk ?_ rfl rfl; assumption

theorem execElectionCommandTimeout_keeps {s0 s : State} (h_s : Keeps s0 s) : KR s0 (execElectionCommandTimeout s) := by
  unfold execElectionCommandTimeout
  with_reducible
    apply KR.next; apply Keeps.ite; assumption; refine Keeps.foldl ?_ fun _ _ _ => ?_; refine Keeps.mk ?_ rfl rfl; assumption
    apply State.complete_keeps; assumption

theorem State.after_keeps {s0 s : State} {x1 : Res} (h_s : Keeps s0 s) (h_x1 : KR s0 x1) : Keeps s0 (State.after s x1) := by
  unfold State.after
  with_reducible
    split; exact KR.get (by assumption); assumption

theorem State.clearKept_keeps {s0 s : State} {r : RegName} {i : Nat} {v : Word} (h_s : Keeps s0 s) : Keeps s0 (State.clearKept s r i v)
    := by
  unfold State.clearKept
  with_reducible
    split; refine Keeps.mk ?_ rfl rfl; assumption; refine Keeps.mk ?_ rfl rfl; assumption; apply State.setCc_keeps; assumption
    refine Keeps.mk ?_ rfl rfl; assumption; refine Keeps.mk ?_ rfl rfl; assumption; assumption

theorem State.readWord_keeps {s0 s : State} {bmc : Bool} {off : Nat} (h_s : Keeps s0 s) : KP s0 (State.readWord s bmc off) := by
  unfold State.readWord
  with_reducible
    split; apply KP.mk; apply State.bump_keeps; assumption; extract_lets +onlyGivenNames _; extract_lets +onlyGivenNames _
    extract_lets +onlyGivenNames y; refine (fun _ : Keeps s0 y => ?_) ?_; clear_value y; apply KP.ite; apply KP.mk; assumption
    apply KP.mk; apply State.clearKept_keeps; refine Keeps.foldl ?_ fun _ _ _ => ?_; assumption; apply State.setFld_keeps; assumption
    unfold y; split; refine Keeps.mk ?_ rfl rfl; assumption; refine Keeps.mk ?_ rfl rfl; assumption; assumption

theorem State.readBar_keeps {s0 s : State} {bmc : Bool} {off bytes : Nat} (h_s : Keeps s0 s) : KP s0 (State.readBar s bmc off bytes) :=
    by
  unfold State.readBar
  with_reducible
    apply KP.ite; split; split; apply KP.mk; refine KP.of_eq (by assumption) ?_; apply State.readWord_keeps
    refine KP.of_eq (by assumption) ?_; apply State.readWord_keeps; assumption; apply KP.ite; split; apply KP.mk
    refine KP.of_eq (by assumption) ?_; apply State.readWord_keeps; assumption; apply KP.mk; apply State.bump_keeps; assumption

theorem execCounterReadClear_keeps {s0 : State} {bmc : Bool} {off : BitVec 26} {bytes : Fin 9} {s : State} (h_s : Keeps s0 s) : KR s0
    (execCounterReadClear bmc off bytes s) := by
  unfold execCounterReadClear
  with_reducible
    apply KR.next; apply Keeps.ite; assumption; split; apply State.emit_keeps; refine KP.of_eq (by assumption) ?_
    apply State.readBar_keeps; assumption

theorem State.storeWord_keeps {s0 s : State} {bmc : Bool} {r : RegName} {i j w : Nat} {v : Word} (h_s : Keeps s0 s) : Keeps s0
    (State.storeWord s bmc r i j w v) := by
  unfold State.storeWord
  with_reducible
    split; refine Keeps.mk ?_ rfl rfl; assumption; refine Keeps.mk ?_ rfl rfl; assumption; extract_lets +onlyGivenNames _
    apply State.setQp_keeps; assumption; extract_lets +onlyGivenNames _; extract_lets +onlyGivenNames _; refine Keeps.mk ?_ rfl rfl
    assumption; extract_lets +onlyGivenNames _; apply State.setRegAt_keeps; assumption; apply State.declChanged_keeps
    apply State.setRegAt_keeps; assumption; apply State.declChanged_keeps; apply State.setRegAt_keeps; assumption
    extract_lets +onlyGivenNames y; refine (fun _ : Keeps s0 y => ?_) ?_; clear_value y; apply Keeps.ite; apply State.log_keeps
    refine Keeps.mk ?_ rfl rfl; assumption; assumption; unfold y; apply State.setRegAt_keeps; assumption; apply Keeps.ite
    refine Keeps.mk ?_ rfl rfl; assumption; apply State.setRegAt_keeps; assumption

theorem State.setLock_keeps {s0 s : State} {setter : Nat} (h_s : Keeps s0 s) : Keeps s0 (State.setLock s setter) := by
  unfold State.setLock
  with_reducible
    apply Keeps.ite; assumption; apply State.setFld_keeps; apply State.setFld_keeps; assumption

theorem State.goMode_keeps {s0 s : State} {bmc : Bool} (h_s : Keeps s0 s) : Keeps s0 (State.goMode s bmc) := by
  unfold State.goMode
  with_reducible
    extract_lets +onlyGivenNames _; extract_lets +onlyGivenNames _; apply Keeps.ite; refine Keeps.mk ?_ rfl rfl; assumption; split
    apply State.answerMode_keeps; refine KP.of_eq (by assumption) ?_; apply State.modeRequest_keeps; assumption

theorem State.drive_keeps {s0 s : State} {who : Writer} {f : Field} {i v : Nat} (h_s : Keeps s0 s) : Keeps s0 (State.drive s who f i v)
    := by
  unfold State.drive
  with_reducible
    extract_lets +onlyGivenNames _; extract_lets +onlyGivenNames _; apply Keeps.ite; apply State.after_keeps; assumption
    apply execChPwrWrite_keeps; assumption; apply Keeps.ite; split; apply State.after_keeps; assumption; apply execQpStateReset_keeps
    assumption; apply State.after_keeps; assumption; apply execQpStateRts_keeps; assumption; apply State.after_keeps; assumption
    apply execQpStateError_keeps; assumption; apply Keeps.ite; apply State.after_keeps; assumption; apply execMkeyValidSet_keeps
    assumption; apply Keeps.ite; apply Keeps.ite; apply State.after_keeps; assumption; apply execRingEnable_keeps; assumption
    apply State.after_keeps; assumption; apply execRingDisable_keeps; assumption; apply Keeps.ite; apply State.after_keeps; assumption
    apply execLinkEnable_keeps; assumption; assumption

theorem State.action_keeps {s0 s : State} {who : Writer} {env : RegEnv} {f : Field} {i j : Nat} (h_s : Keeps s0 s) : Keeps s0
    (State.action s who env f i j) := by
  unfold State.action
  with_reducible
    extract_lets +onlyGivenNames _; split; apply State.goMode_keeps; assumption; apply State.after_keeps; assumption
    apply execForceSwitch_keeps; assumption; apply State.after_keeps; assumption; apply execBistStart_keeps; assumption
    apply State.after_keeps; assumption; apply execHandback_keeps; assumption; apply State.after_keeps; assumption; apply execSoft_keeps
    assumption; apply State.after_keeps; assumption; apply execChTimCommit_keeps; assumption; apply Keeps.ite; apply State.after_keeps
    assumption; apply execChRetrainRequest_keeps; assumption; apply State.after_keeps; assumption; apply execReadmit_keeps; assumption
    apply State.after_keeps; assumption; apply execErrClear_keeps; assumption; apply State.after_keeps; assumption
    apply execErrClear_keeps; assumption; apply State.after_keeps; assumption; apply execErrClear_keeps; assumption
    apply State.after_keeps; assumption; apply execMarkClear_keeps; assumption; apply State.after_keeps; assumption
    apply execRingFlush_keeps; assumption; apply State.after_keeps; assumption; apply execArbCommit_keeps; assumption
    apply State.setFld_keeps; assumption; apply State.after_keeps; assumption; apply execPackTestRequest_keeps; assumption
    apply Keeps.ite; apply State.after_keeps; assumption; apply execTrimCommit_keeps; assumption; apply State.after_keeps; assumption
    apply execTrimReload_keeps; assumption; apply Keeps.ite; apply State.after_keeps; assumption; apply execConfirm_keeps; assumption
    apply Keeps.ite; apply State.after_keeps; assumption; apply execAbort_keeps; assumption; apply State.after_keeps; assumption
    apply execRevert_keeps; assumption; assumption

theorem State.writeFields_keeps {s0 s : State} {who : Writer} {r : RegName} {i j w : Nat} {v mask : Word} (h_s : Keeps s0 s) : KP s0
    (State.writeFields s who r i j w v mask) := by
  unfold State.writeFields
  with_reducible
    extract_lets +onlyGivenNames _; extract_lets +onlyGivenNames _; extract_lets +onlyGivenNames _; extract_lets +onlyGivenNames _
    extract_lets +onlyGivenNames _; extract_lets +onlyGivenNames _; extract_lets +onlyGivenNames _; extract_lets +onlyGivenNames _
    extract_lets +onlyGivenNames y; refine (fun _ : Keeps s0 y => ?_) ?_; clear_value y; extract_lets +onlyGivenNames _; split
    apply KP.mk; apply State.reject_keeps; assumption; extract_lets +onlyGivenNames y; refine (fun _ : Keeps s0 y => ?_) ?_; clear_value y
    apply KP.mk; refine Keeps.foldl ?_ fun _ _ _ => ?_; assumption; apply State.drive_keeps; assumption; unfold y; apply Keeps.ite
    assumption; apply State.storeWord_keeps; assumption; unfold y; clear_value *; split; apply State.reject_keeps; assumption; assumption

theorem State.writeWord_keeps {s0 s : State} {who : Writer} {off : Nat} {v mask : Word} {env : RegEnv} (h_s : Keeps s0 s) : Keeps s0
    (State.writeWord s who off v mask env) := by
  unfold State.writeWord
  with_reducible
    extract_lets +onlyGivenNames _; split; apply State.bump_keeps; assumption; extract_lets +onlyGivenNames _; split
    apply State.after_keeps; assumption; apply execRingSqDb_keeps; assumption; apply State.after_keeps; assumption
    apply execRingCqDb_keeps; assumption; apply Keeps.ite; apply State.after_keeps; assumption; apply execRingPush_keeps; assumption
    apply Keeps.ite; apply State.after_keeps; assumption; apply execRingPushCommit_keeps; assumption; apply State.after_keeps; assumption
    apply execRingPushContinue_keeps; assumption; apply State.after_keeps; assumption; apply execEvtAck_keeps; assumption; assumption
    apply Keeps.ite; assumption; apply State.after_keeps; assumption; apply execAlarmClear_keeps; assumption; apply Keeps.ite; assumption
    apply Keeps.ite; apply Keeps.ite; assumption; apply State.after_keeps; assumption; apply execPoolValidSet_keeps; assumption
    apply Keeps.ite; apply State.after_keeps; assumption; apply execPartitionValidSet_keeps; assumption
    extract_lets +onlyGivenNames y; refine (fun _ : Keeps s0 y => ?_) ?_; clear_value y; extract_lets +onlyGivenNames _; split
    refine KP.of_eq (by assumption) ?_; apply State.writeFields_keeps; assumption; refine Keeps.foldl ?_ fun _ _ _ => ?_
    refine KP.of_eq (by assumption) ?_; apply State.writeFields_keeps; assumption; apply State.action_keeps; assumption; unfold y
    apply Keeps.ite; apply State.setLock_keeps; assumption; assumption

theorem State.writeBar_keeps {s0 s : State} {who : Writer} {off bytes : Nat} {v : BitVec 64} {env : RegEnv} (h_s : Keeps s0 s) : Keeps
    s0 (State.writeBar s who off bytes v env) := by
  unfold State.writeBar
  with_reducible
    extract_lets +onlyGivenNames _; apply Keeps.ite; apply State.writeWord_keeps; assumption; apply Keeps.ite; apply State.writeWord_keeps
    apply State.writeWord_keeps; assumption; apply State.bump_keeps; assumption

theorem execRegisterWrite_keeps {s0 : State} {who : Writer} {off : BitVec 26} {bytes : Fin 9} {v : BitVec 64} {env : RegEnv} {s : State}
    (h_s : Keeps s0 s) : KR s0 (execRegisterWrite who off bytes v env s) := by
  unfold execRegisterWrite
  with_reducible
    apply KR.next; extract_lets +onlyGivenNames _; apply Keeps.ite; assumption; apply State.writeBar_keeps; assumption

theorem execUnlistedAccess_keeps {s0 : State} {bmc write : Bool} {off : BitVec 26} {wide : Bool} {s : State} (h_s : Keeps s0 s) : KR s0
    (execUnlistedAccess bmc write off wide s) := by
  unfold execUnlistedAccess
  with_reducible
    apply KR.next; extract_lets +onlyGivenNames _; apply Keeps.ite; assumption
    extract_lets +onlyGivenNames y; refine (fun _ : Keeps s0 y => ?_) ?_; clear_value y; apply Keeps.ite; assumption
    apply State.emit_keeps; assumption; unfold y; apply State.addFld_keeps; assumption

theorem execGlbLockSet_keeps {s0 : State} {bmc : Bool} {s : State} (h_s : Keeps s0 s) : KR s0 (execGlbLockSet bmc s) := by
  unfold execGlbLockSet
  with_reducible
    apply KR.next; apply Keeps.ite; assumption; apply State.setLock_keeps; assumption

theorem execAutoLock_keeps {s0 s : State} (h_s : Keeps s0 s) : KR s0 (execAutoLock s) := by
  unfold execAutoLock
  with_reducible
    apply KR.next; extract_lets +onlyGivenNames _; split; apply Keeps.ite; assumption; apply State.setLock_keeps; assumption; assumption

theorem State.answer_keeps {s0 s : State} {bus : Fin 2} {type cmd cc : Nat} {payload : List Nat} (h_s : Keeps s0 s) : Keeps s0
    (State.answer s bus type cmd cc payload) := by
  unfold State.answer
  with_reducible
    apply State.emit_keeps; assumption

theorem State.managed_keeps {s0 s : State} {bus : Fin 2} {type cmd : Nat} {c : Instr} {k : State → State} (h_s : Keeps s0 s)
    (h_k : ∀ a0, Keeps s0 a0 → Keeps s0 (k a0)) : Keeps s0 (State.managed s bus type cmd c k) := by
  unfold State.managed
  with_reducible
    apply Keeps.ite; assumption; apply State.request_keeps; assumption; intro _ _; apply h_k; assumption

theorem State.island_keeps {s0 s : State} {k : State → State} (h_s : Keeps s0 s) (h_k : ∀ a0, Keeps s0 a0 → Keeps s0 (k a0)) : Keeps s0
    (State.island s k) := by
  unfold State.island
  with_reducible
    apply Keeps.ite; apply h_k; assumption; assumption

theorem execSetEndpointId_keeps {s0 : State} {bus : Fin 2} {eid : BitVec 8} {s : State} (h_s : Keeps s0 s) : KR s0
    (execSetEndpointId bus eid s) := by
  unfold execSetEndpointId
  with_reducible
    apply KR.next; apply State.island_keeps; assumption; intro _ _; apply Keeps.ite; apply State.answer_keeps; assumption
    extract_lets +onlyGivenNames _; extract_lets +onlyGivenNames _
    extract_lets +onlyGivenNames y; refine (fun _ : Keeps s0 y => ?_) ?_; clear_value y
    extract_lets +onlyGivenNames y; refine (fun _ : Keeps s0 y => ?_) ?_; clear_value y; apply State.answer_keeps; assumption; unfold y
    apply Keeps.ite; apply State.log_keeps; assumption; assumption; unfold y; refine Keeps.mk ?_ rfl rfl; assumption

theorem execGetEndpointId_keeps {s0 : State} {bus : Fin 2} {s : State} (h_s : Keeps s0 s) : KR s0 (execGetEndpointId bus s) := by
  unfold execGetEndpointId
  with_reducible
    apply KR.next; apply State.island_keeps; assumption; intro _ _; apply State.answer_keeps; assumption

theorem execGetMctpVersion_keeps {s0 : State} {bus : Fin 2} {s : State} (h_s : Keeps s0 s) : KR s0 (execGetMctpVersion bus s) := by
  unfold execGetMctpVersion
  with_reducible
    apply KR.next; apply State.island_keeps; assumption; intro _ _; apply State.answer_keeps; assumption

theorem execGetMessageTypeSupport_keeps {s0 : State} {bus : Fin 2} {s : State} (h_s : Keeps s0 s) : KR s0
    (execGetMessageTypeSupport bus s) := by
  unfold execGetMessageTypeSupport
  with_reducible
    apply KR.next; apply State.island_keeps; assumption; intro _ _; apply State.answer_keeps; assumption

theorem State.setBus_keeps {s0 s : State} {bus : Fin 2} {i3c : Bool} {cause : Nat} (h_s : Keeps s0 s) : Keeps s0
    (State.setBus s bus i3c cause) := by
  unfold State.setBus
  with_reducible
    apply Keeps.ite; assumption; apply State.log_keeps; refine Keeps.mk ?_ rfl rfl; assumption

theorem execI3cAddressAssign_keeps {s0 : State} {bus : Fin 2} {setdasa : Option (BitVec 7)} {s : State} (h_s : Keeps s0 s) : KR s0
    (execI3cAddressAssign bus setdasa s) := by
  unfold execI3cAddressAssign
  with_reducible
    apply KR.next; split; apply Keeps.ite; apply State.setBus_keeps; assumption; assumption; apply State.setBus_keeps; assumption

theorem execI3cRstdaa_keeps {s0 : State} {bus : Fin 2} {s : State} (h_s : Keeps s0 s) : KR s0 (execI3cRstdaa bus s) := by
  unfold execI3cRstdaa
  with_reducible
    apply KR.next; apply State.setBus_keeps; assumption

theorem execI3cBusErrorTimeout_keeps {s0 : State} {bus : Fin 2} {s : State} (h_s : Keeps s0 s) : KR s0 (execI3cBusErrorTimeout bus s) :=
    by
  unfold execI3cBusErrorTimeout
  with_reducible
    apply KR.next; apply State.setBus_keeps; assumption

theorem readWords_keeps {s0 s : State} {off x2 : Nat} (h_s : Keeps s0 s) : KP s0 (readWords s off x2) := by
  unfold readWords
  with_reducible
    split; apply KP.mk; assumption; split; split; apply KP.mk; refine KP.of_eq (by assumption) ?_; apply readWords_keeps
    refine KP.of_eq (by assumption) ?_; apply State.readWord_keeps; assumption

theorem execRegRead_keeps {s0 : State} {bus : Fin 2} {off : BitVec 26} {count : Fin 16} {s : State} (h_s : Keeps s0 s) : KR s0
    (execRegRead bus off count s) := by
  unfold execRegRead
  with_reducible
    apply KR.next; extract_lets +onlyGivenNames _; extract_lets +onlyGivenNames f398; apply Keeps.ite; apply State.island_keeps
    assumption; intro _ _; unfold f398; apply Keeps.ite; apply State.answer_keeps; assumption; split; apply State.answer_keeps
    refine KP.of_eq (by assumption) ?_; apply readWords_keeps; assumption; apply State.managed_keeps; assumption; intro _ _; unfold f398
    apply Keeps.ite; apply State.answer_keeps; assumption; split; apply State.answer_keeps; refine KP.of_eq (by assumption) ?_
    apply readWords_keeps; assumption

theorem execRegWrite_keeps {s0 : State} {bus : Fin 2} {off : BitVec 26} {v mask : Word} {env : RegEnv} {s : State} (h_s : Keeps s0 s) :
    KR s0 (execRegWrite bus off v mask env s) := by
  unfold execRegWrite
  with_reducible
    apply KR.next; apply State.managed_keeps; assumption; intro _ _; apply Keeps.ite; apply State.answer_keeps; assumption
    apply Keeps.ite; apply State.answer_keeps; assumption; apply State.answer_keeps; apply State.writeWord_keeps; assumption

theorem execEvtRead_keeps {s0 : State} {bus : Fin 2} {first : Fin 8192} {count : Fin 8} {s : State} (h_s : Keeps s0 s) : KR s0
    (execEvtRead bus first count s) := by
  unfold execEvtRead
  with_reducible
    apply KR.next; apply State.island_keeps; assumption; intro _ _; extract_lets +onlyGivenNames _; apply Keeps.ite
    apply State.answer_keeps; assumption; apply State.answer_keeps; assumption

theorem execSetEventReceiver_keeps {s0 : State} {bus : Fin 2} {enable : Bool} {s : State} (h_s : Keeps s0 s) : KR s0
    (execSetEventReceiver bus enable s) := by
  unfold execSetEventReceiver
  with_reducible
    apply KR.next; apply State.managed_keeps; assumption; intro _ _; apply State.answer_keeps; refine Keeps.mk ?_ rfl rfl; assumption

theorem execPlatformEventAck_keeps {s0 s : State} (h_s : Keeps s0 s) : KR s0 (execPlatformEventAck s) := by
  unfold execPlatformEventAck
  with_reducible
    apply KR.next; apply Keeps.ite; refine Keeps.mk ?_ rfl rfl; assumption; assumption

theorem State.atStack_keeps {s0 s : State} {stack : Bool} {k : State → State} (h_s : Keeps s0 s)
    (h_k : ∀ a0, Keeps s0 a0 → Keeps s0 (k a0)) : Keeps s0 (State.atStack s stack k) := by
  unfold State.atStack
  with_reducible
    apply Keeps.ite; assumption; apply h_k; assumption

theorem execGetPdr_keeps {s0 : State} {bus : Fin 2} {stack : Bool} {handle : BitVec 32} {s : State} (h_s : Keeps s0 s) : KR s0
    (execGetPdr bus stack handle s) := by
  unfold execGetPdr
  with_reducible
    apply KR.next; apply State.managed_keeps; assumption; intro _ _; apply State.atStack_keeps; assumption; intro _ _
    extract_lets +onlyGivenNames _; extract_lets +onlyGivenNames _; split; apply State.answer_keeps; assumption; apply State.answer_keeps
    assumption

theorem execGetSensorReading_keeps {s0 : State} {bus : Fin 2} {id : BitVec 16} {s : State} (h_s : Keeps s0 s) : KR s0
    (execGetSensorReading bus id s) := by
  unfold execGetSensorReading
  with_reducible
    apply KR.next; apply State.managed_keeps; assumption; intro _ _; split; apply State.answer_keeps; assumption; apply State.answer_keeps
    assumption; apply State.answer_keeps; assumption

theorem execGetStateSensorReadings_keeps {s0 : State} {bus : Fin 2} {stack : Bool} {id : BitVec 16} {s : State} (h_s : Keeps s0 s) : KR
    s0 (execGetStateSensorReadings bus stack id s) := by
  unfold execGetStateSensorReadings
  with_reducible
    apply KR.next; apply State.managed_keeps; assumption; intro _ _; apply State.atStack_keeps; assumption; intro _ _; split
    apply State.answer_keeps; assumption; apply State.answer_keeps; assumption; apply State.answer_keeps; assumption

theorem execSetStateEffecterStates_keeps {s0 : State} {bus : Fin 2} {id : BitVec 16} {v : Fin 16} {s : State} (h_s : Keeps s0 s) : KR s0
    (execSetStateEffecterStates bus id v s) := by
  unfold execSetStateEffecterStates
  with_reducible
    apply KR.next; extract_lets +onlyGivenNames _; apply Keeps.ite; apply State.requestMode_keeps; assumption; apply State.managed_keeps
    assumption; intro _ _; apply Keeps.ite; extract_lets +onlyGivenNames _; split; extract_lets +onlyGivenNames _
    apply State.answer_keeps; refine KP.of_eq (by assumption) ?_; apply State.writeFields_keeps; assumption; apply State.answer_keeps
    assumption

theorem execRequestUpdate_keeps {s0 : State} {bus : Fin 2} {len : BitVec 24} {s : State} (h_s : Keeps s0 s) : KR s0
    (execRequestUpdate bus len s) := by
  unfold execRequestUpdate
  with_reducible
    apply KR.next; apply State.managed_keeps; assumption; intro _ _; apply Keeps.ite; apply State.answer_keeps; assumption
    extract_lets +onlyGivenNames _; extract_lets +onlyGivenNames y; refine (fun _ : Keeps s0 y => ?_) ?_; clear_value y; split
    apply State.answer_keeps; refine KP.of_eq (by assumption) ?_; apply State.askSession_keeps; assumption; apply State.askData_keeps
    apply State.answer_keeps; refine KP.of_eq (by assumption) ?_; apply State.askSession_keeps; assumption; unfold y
    refine Keeps.mk ?_ rfl rfl; assumption

theorem execRequestFirmwareData_keeps {s0 : State} {off : BitVec 24} {bytes : List Byte} {s : State} (h_s : Keeps s0 s) : KR s0
    (execRequestFirmwareData off bytes s) := by
  unfold execRequestFirmwareData
  with_reducible
    apply KR.next; apply Keeps.ite; assumption; apply State.request_keeps; assumption; intro _ _; extract_lets +onlyGivenNames _
    apply Keeps.ite; assumption; split; apply State.emit_keeps; refine KP.of_eq (by assumption) ?_; apply State.takeBlock_keeps
    assumption; apply State.askData_keeps; refine KP.of_eq (by assumption) ?_; apply State.takeBlock_keeps; assumption

theorem execActivateFirmware_keeps {s0 : State} {bus : Fin 2} {selfContained : Bool} {time : BitVec 64} {s : State} (h_s : Keeps s0 s) :
    KR s0 (execActivateFirmware bus selfContained time s) := by
  unfold execActivateFirmware
  with_reducible
    apply KR.next; apply State.managed_keeps; assumption; intro _ _; apply Keeps.ite; apply State.answer_keeps; assumption
    extract_lets +onlyGivenNames _; split; apply State.answer_keeps; refine KP.of_eq (by assumption) ?_; apply KP.ite
    apply State.requestActivation_keeps; assumption; apply State.requestOffline_keeps; assumption

theorem execCancelUpdate_keeps {s0 : State} {bus : Fin 2} {s : State} (h_s : Keeps s0 s) : KR s0 (execCancelUpdate bus s) := by
  unfold execCancelUpdate
  with_reducible
    apply KR.next; apply State.managed_keeps; assumption; intro _ _; extract_lets +onlyGivenNames _; apply Keeps.ite
    apply State.answer_keeps; assumption; apply Keeps.ite; apply State.answer_keeps; apply State.abortSession_keeps; assumption
    apply State.answer_keeps; assumption

theorem execGetStatus_keeps {s0 : State} {bus : Fin 2} {s : State} (h_s : Keeps s0 s) : KR s0 (execGetStatus bus s) := by
  unfold execGetStatus
  with_reducible
    apply KR.next; apply State.managed_keeps; assumption; intro _ _; apply State.answer_keeps; assumption

theorem execGetFirmwareParameters_keeps {s0 : State} {bus : Fin 2} {s : State} (h_s : Keeps s0 s) : KR s0
    (execGetFirmwareParameters bus s) := by
  unfold execGetFirmwareParameters
  with_reducible
    apply KR.next; apply State.managed_keeps; assumption; intro _ _; extract_lets +onlyGivenNames _; apply State.answer_keeps; assumption

theorem State.reply_keeps {s0 s : State} {p : PortId} {ld : Fin 20} {op rc : Nat} {payload : List Nat} (h_s : Keeps s0 s) : Keeps s0
    (State.reply s p ld op rc payload) := by
  unfold State.reply
  with_reducible
    apply State.emit_keeps; assumption

theorem State.mailbox_keeps {s0 s : State} {p : PortId} {ld : Fin 20} {op : Nat} {set : MboxSet} {c : Instr} {k : State → State}
    (h_s : Keeps s0 s) (h_k : ∀ a0, Keeps s0 a0 → Keeps s0 (k a0)) : Keeps s0 (State.mailbox s p ld op set c k) := by
  unfold State.mailbox
  with_reducible
    apply Keeps.ite; assumption; apply State.request_keeps; assumption; intro _ _; apply Keeps.ite; apply h_k; assumption
    apply State.reply_keeps; assumption

theorem State.updLd_keeps {s0 s : State} {p : PortId} {ld : Fin 20} {f : Ld → Ld} (h_s : Keeps s0 s) : Keeps s0 (State.updLd s p ld f)
    := by
  unfold State.updLd
  with_reducible
    apply State.setLd_keeps; assumption

theorem execGetEventRecords_keeps {s0 : State} {port : PortId} {ld : Fin 20} {log : Fin 5} {s : State} (h_s : Keeps s0 s) : KR s0
    (execGetEventRecords port ld log s) := by
  unfold execGetEventRecords
  with_reducible
    apply KR.next; apply State.mailbox_keeps; assumption; intro _ _; extract_lets +onlyGivenNames _; extract_lets +onlyGivenNames _
    apply State.reply_keeps; assumption

theorem execClearEventRecords_keeps {s0 : State} {port : PortId} {ld : Fin 20} {log : Fin 5} {all : Bool} {handles : List Nat}
    {s : State} (h_s : Keeps s0 s) : KR s0 (execClearEventRecords port ld log all handles s) := by
  unfold execClearEventRecords
  with_reducible
    apply KR.next; apply State.mailbox_keeps; assumption; intro _ _; extract_lets +onlyGivenNames _; extract_lets +onlyGivenNames _
    apply Keeps.ite; apply State.reply_keeps; assumption; apply State.reply_keeps; apply State.updLd_keeps; assumption

theorem execGetEventInterruptPolicy_keeps {s0 : State} {port : PortId} {ld : Fin 20} {s : State} (h_s : Keeps s0 s) : KR s0
    (execGetEventInterruptPolicy port ld s) := by
  unfold execGetEventInterruptPolicy
  with_reducible
    apply KR.next; apply State.mailbox_keeps; assumption; intro _ _; apply State.reply_keeps; assumption

theorem execSetEventInterruptPolicy_keeps {s0 : State} {port : PortId} {ld : Fin 20} {policy : Vector (BitVec 8) 5} {s : State}
    (h_s : Keeps s0 s) : KR s0 (execSetEventInterruptPolicy port ld policy s) := by
  unfold execSetEventInterruptPolicy
  with_reducible
    apply KR.next; apply State.mailbox_keeps; assumption; intro _ _; extract_lets +onlyGivenNames _; apply Keeps.ite
    apply State.reply_keeps; assumption; apply State.reply_keeps; apply State.updLd_keeps; assumption

theorem execGetFwInfo_keeps {s0 : State} {port : PortId} {ld : Fin 20} {s : State} (h_s : Keeps s0 s) : KR s0 (execGetFwInfo port ld s)
    := by
  unfold execGetFwInfo
  with_reducible
    apply KR.next; apply State.mailbox_keeps; assumption; intro _ _; extract_lets +onlyGivenNames _; apply State.reply_keeps; assumption

theorem execTransferFw_keeps {s0 : State} {port : PortId} {ld : Fin 20} {action : FwAction} {slot : Fin 2} {off : BitVec 24}
    {bytes : List Byte} {s : State} (h_s : Keeps s0 s) : KR s0 (execTransferFw port ld action slot off bytes s) := by
  unfold execTransferFw
  with_reducible
    apply KR.next; apply State.mailbox_keeps; assumption; intro _ _; extract_lets +onlyGivenNames f395; extract_lets +onlyGivenNames _
    extract_lets +onlyGivenNames f393; apply Keeps.ite; unfold f395; apply State.reply_keeps; assumption; apply Keeps.ite; unfold f395
    apply State.reply_keeps; assumption; split; unfold f395; apply State.reply_keeps; apply KP.snd; unfold f393; apply KP.ite
    apply State.endTransfer_keeps; apply KP.snd; apply State.sourceBlock_keeps; assumption; apply State.sourceBlock_keeps; assumption
    unfold f395; apply State.reply_keeps; apply KP.snd; apply State.sourceBlock_keeps; assumption; unfold f395; apply State.reply_keeps
    apply KP.snd; apply State.sourceBlock_keeps; assumption; unfold f395; apply State.reply_keeps; apply KP.snd; unfold f393; apply KP.ite
    apply State.endTransfer_keeps; apply KP.snd; apply KP.ite; apply KP.mk; assumption; apply State.sourceBlock_keeps; assumption
    apply KP.ite; apply KP.mk; assumption; apply State.sourceBlock_keeps; assumption; unfold f395; apply State.reply_keeps; apply KP.snd
    apply KP.ite; apply KP.mk; apply State.abortSession_keeps; assumption; apply KP.mk; assumption

theorem execActivateFw_keeps {s0 : State} {port : PortId} {ld : Fin 20} {online : Bool} {slot : Fin 2} {s : State} (h_s : Keeps s0 s) :
    KR s0 (execActivateFw port ld online slot s) := by
  unfold execActivateFw
  with_reducible
    apply KR.next; apply State.mailbox_keeps; assumption; intro _ _; extract_lets +onlyGivenNames _; extract_lets +onlyGivenNames _; split
    apply State.reply_keeps; refine KP.of_eq (by assumption) ?_; apply KP.ite; apply KP.mk; assumption; apply KP.ite; apply KP.mk
    assumption; apply KP.ite; apply State.requestActivation_keeps; assumption; apply State.requestOffline_keeps; assumption

theorem execGetTimestamp_keeps {s0 : State} {port : PortId} {ld : Fin 20} {s : State} (h_s : Keeps s0 s) : KR s0
    (execGetTimestamp port ld s) := by
  unfold execGetTimestamp
  with_reducible
    apply KR.next; apply State.mailbox_keeps; assumption; intro _ _; apply State.reply_keeps; assumption

theorem execSetTimestamp_keeps {s0 : State} {port : PortId} {ld : Fin 20} {t : BitVec 64} {s : State} (h_s : Keeps s0 s) : KR s0
    (execSetTimestamp port ld t s) := by
  unfold execSetTimestamp
  with_reducible
    apply KR.next; apply State.mailbox_keeps; assumption; intro _ _; extract_lets +onlyGivenNames _
    extract_lets +onlyGivenNames y; refine (fun _ : Keeps s0 y => ?_) ?_; clear_value y; apply State.reply_keeps; assumption; unfold y
    apply Keeps.ite; assumption; refine Keeps.mk ?_ rfl rfl; assumption

theorem execGetSupportedLogs_keeps {s0 : State} {port : PortId} {ld : Fin 20} {s : State} (h_s : Keeps s0 s) : KR s0
    (execGetSupportedLogs port ld s) := by
  unfold execGetSupportedLogs
  with_reducible
    apply KR.next; apply State.mailbox_keeps; assumption; intro _ _; apply State.reply_keeps; assumption

theorem execGetLog_keeps {s0 : State} {port : PortId} {ld : Fin 20} {vendor : Bool} {off len : BitVec 32} {s : State} (h_s : Keeps s0 s)
    : KR s0 (execGetLog port ld vendor off len s) := by
  unfold execGetLog
  with_reducible
    apply KR.next; apply State.mailbox_keeps; assumption; intro _ _; extract_lets +onlyGivenNames _; apply Keeps.ite
    apply State.reply_keeps; assumption; extract_lets +onlyGivenNames _; apply Keeps.ite; apply State.reply_keeps; assumption; split
    apply State.reply_keeps; refine KP.of_eq (by assumption) ?_; apply State.fresh_keeps; assumption

theorem execIdentifyMemoryDevice_keeps {s0 : State} {port : PortId} {ld : Fin 20} {s : State} (h_s : Keeps s0 s) : KR s0
    (execIdentifyMemoryDevice port ld s) := by
  unfold execIdentifyMemoryDevice
  with_reducible
    apply KR.next; apply State.mailbox_keeps; assumption; intro _ _; apply State.reply_keeps; assumption

theorem execGetPartitionInfo_keeps {s0 : State} {port : PortId} {ld : Fin 20} {s : State} (h_s : Keeps s0 s) : KR s0
    (execGetPartitionInfo port ld s) := by
  unfold execGetPartitionInfo
  with_reducible
    apply KR.next; apply State.mailbox_keeps; assumption; intro _ _; apply State.reply_keeps; assumption

theorem execSetPartitionInfo_keeps {s0 : State} {port : PortId} {ld : Fin 20} {s : State} (h_s : Keeps s0 s) : KR s0
    (execSetPartitionInfo port ld s) := by
  unfold execSetPartitionInfo
  with_reducible
    apply KR.next; apply State.mailbox_keeps; assumption; intro _ _; apply State.reply_keeps; assumption

theorem execGetHealthInfo_keeps {s0 : State} {port : PortId} {ld : Fin 20} {s : State} (h_s : Keeps s0 s) : KR s0
    (execGetHealthInfo port ld s) := by
  unfold execGetHealthInfo
  with_reducible
    apply KR.next; apply State.mailbox_keeps; assumption; intro _ _; extract_lets +onlyGivenNames _; extract_lets +onlyGivenNames _
    extract_lets +onlyGivenNames _; extract_lets +onlyGivenNames _; apply State.reply_keeps; assumption

theorem execGetAlertConfiguration_keeps {s0 : State} {port : PortId} {ld : Fin 20} {s : State} (h_s : Keeps s0 s) : KR s0
    (execGetAlertConfiguration port ld s) := by
  unfold execGetAlertConfiguration
  with_reducible
    apply KR.next; apply State.mailbox_keeps; assumption; intro _ _; apply State.reply_keeps; assumption

theorem execSetAlertConfiguration_keeps {s0 : State} {port : PortId} {ld : Fin 20} {words : List Nat} {s : State} (h_s : Keeps s0 s) :
    KR s0 (execSetAlertConfiguration port ld words s) := by
  unfold execSetAlertConfiguration
  with_reducible
    apply KR.next; apply State.mailbox_keeps; assumption; intro _ _; apply State.reply_keeps; apply State.updLd_keeps; assumption

theorem execGetShutdownState_keeps {s0 : State} {port : PortId} {ld : Fin 20} {s : State} (h_s : Keeps s0 s) : KR s0
    (execGetShutdownState port ld s) := by
  unfold execGetShutdownState
  with_reducible
    apply KR.next; apply State.mailbox_keeps; assumption; intro _ _; apply State.reply_keeps; assumption

theorem execSetShutdownState_keeps {s0 : State} {port : PortId} {ld : Fin 20} {dirty : Bool} {s : State} (h_s : Keeps s0 s) : KR s0
    (execSetShutdownState port ld dirty s) := by
  unfold execSetShutdownState
  with_reducible
    apply KR.next; apply State.mailbox_keeps; assumption; intro _ _; apply State.reply_keeps; refine Keeps.mk ?_ rfl rfl; assumption

theorem execGetPoisonList_keeps {s0 : State} {port : PortId} {ld : Fin 20} {dpa : BitVec 48} {lines : Nat} {s : State}
    (h_s : Keeps s0 s) : KR s0 (execGetPoisonList port ld dpa lines s) := by
  unfold execGetPoisonList
  with_reducible
    apply KR.next; apply State.mailbox_keeps; assumption; intro _ _; extract_lets +onlyGivenNames _; extract_lets +onlyGivenNames _
    apply State.reply_keeps; assumption

theorem execInjectPoison_keeps {s0 : State} {port : PortId} {ld : Fin 20} {dpa : BitVec 48} {s : State} (h_s : Keeps s0 s) : KR s0
    (execInjectPoison port ld dpa s) := by
  unfold execInjectPoison
  with_reducible
    apply KR.next; apply State.mailbox_keeps; assumption; intro _ _; extract_lets +onlyGivenNames _; apply Keeps.ite
    apply State.reply_keeps; assumption; split; apply State.reply_keeps; assumption; apply Keeps.ite; apply State.reply_keeps; assumption
    extract_lets +onlyGivenNames y; refine (fun _ : Keeps s0 y => ?_) ?_; clear_value y; extract_lets +onlyGivenNames _
    extract_lets +onlyGivenNames y; refine (fun _ : Keeps s0 y => ?_) ?_; clear_value y; apply State.reply_keeps
    apply State.storeWrite_keeps; assumption; unfold y; refine Keeps.mk ?_ rfl rfl; assumption; unfold y; apply State.activity_keeps
    assumption

theorem execClearPoison_keeps {s0 : State} {port : PortId} {ld : Fin 20} {dpa : BitVec 48} {data : LineData} {s : State}
    (h_s : Keeps s0 s) : KR s0 (execClearPoison port ld dpa data s) := by
  unfold execClearPoison
  with_reducible
    apply KR.next; apply State.mailbox_keeps; assumption; intro _ _; apply Keeps.ite; apply State.reply_keeps; assumption; split
    apply State.reply_keeps; assumption; extract_lets +onlyGivenNames y; refine (fun _ : Keeps s0 y => ?_) ?_; clear_value y
    apply State.reply_keeps; apply State.storeWrite_keeps; assumption; unfold y; apply State.activity_keeps; assumption

theorem execGetScanMediaCapabilities_keeps {s0 : State} {port : PortId} {ld : Fin 20} {dpa : BitVec 48} {lines : Nat} {s : State}
    (h_s : Keeps s0 s) : KR s0 (execGetScanMediaCapabilities port ld dpa lines s) := by
  unfold execGetScanMediaCapabilities
  with_reducible
    apply KR.next; apply State.mailbox_keeps; assumption; intro _ _; apply Keeps.ite; apply State.reply_keeps; assumption; split
    apply State.reply_keeps; refine KP.of_eq (by assumption) ?_; apply State.fresh_keeps; assumption

theorem State.background_keeps {s0 s : State} {p : PortId} {ld : Fin 20} {op : Nat} {kind : OpKind} {total : Option Nat}
    (h_s : Keeps s0 s) : Keeps s0 (State.background s p ld op kind total) := by
  unfold State.background
  with_reducible
    extract_lets +onlyGivenNames _; split; extract_lets +onlyGivenNames y; refine (fun _ : Keeps s0 y => ?_) ?_; clear_value y
    apply State.reply_keeps; apply State.updLd_keeps; assumption; unfold y; apply State.startOp_keeps; assumption; apply State.reply_keeps
    assumption

theorem execScanMedia_keeps {s0 : State} {port : PortId} {ld : Fin 20} {dpa : BitVec 48} {lines : Nat} {s : State} (h_s : Keeps s0 s) :
    KR s0 (execScanMedia port ld dpa lines s) := by
  unfold execScanMedia
  with_reducible
    apply KR.next; apply State.mailbox_keeps; assumption; intro _ _; apply Keeps.ite; apply State.reply_keeps; assumption; apply Keeps.ite
    apply State.reply_keeps; assumption; apply Keeps.ite; apply State.reply_keeps; assumption
    extract_lets +onlyGivenNames y; refine (fun _ : Keeps s0 y => ?_) ?_; clear_value y; apply State.background_keeps; assumption
    unfold y; apply State.updLd_keeps; assumption

theorem execGetScanMediaResults_keeps {s0 : State} {port : PortId} {ld : Fin 20} {s : State} (h_s : Keeps s0 s) : KR s0
    (execGetScanMediaResults port ld s) := by
  unfold execGetScanMediaResults
  with_reducible
    apply KR.next; apply State.mailbox_keeps; assumption; intro _ _; apply State.reply_keeps; assumption

theorem State.mboxSanitize_keeps {s0 s : State} {p : PortId} {ld : Fin 20} {op : Nat} {secure : Bool} (h_s : Keeps s0 s) : Keeps s0
    (State.mboxSanitize s p ld op secure) := by
  unfold State.mboxSanitize
  with_reducible
    extract_lets +onlyGivenNames _; apply Keeps.ite; apply State.reply_keeps; assumption; apply State.background_keeps; assumption

theorem execMboxSanitize_keeps {s0 : State} {port : PortId} {ld : Fin 20} {s : State} (h_s : Keeps s0 s) : KR s0
    (execMboxSanitize port ld s) := by
  unfold execMboxSanitize
  with_reducible
    apply KR.next; apply State.mailbox_keeps; assumption; intro _ _; apply State.mboxSanitize_keeps; assumption

theorem execSecureErase_keeps {s0 : State} {port : PortId} {ld : Fin 20} {s : State} (h_s : Keeps s0 s) : KR s0
    (execSecureErase port ld s) := by
  unfold execSecureErase
  with_reducible
    apply KR.next; apply State.mailbox_keeps; assumption; intro _ _; apply State.mboxSanitize_keeps; assumption

theorem execRequestAbortBackgroundOp_keeps {s0 : State} {port : PortId} {ld : Fin 20} {s : State} (h_s : Keeps s0 s) : KR s0
    (execRequestAbortBackgroundOp port ld s) := by
  unfold execRequestAbortBackgroundOp
  with_reducible
    apply KR.next; apply State.mailbox_keeps; assumption; intro _ _; split; apply State.reply_keeps; assumption; apply Keeps.ite
    apply State.reply_keeps; assumption; extract_lets +onlyGivenNames _
    extract_lets +onlyGivenNames y; refine (fun _ : Keeps s0 y => ?_) ?_; clear_value y; apply Keeps.ite; apply State.cancelNow_keeps
    assumption; assumption; unfold y; apply State.reply_keeps; apply State.setOp_keeps; assumption

theorem State.dynamic_keeps {s0 s : State} {p : PortId} {ld : Fin 20} {op : Nat} {k : State → State} (h_s : Keeps s0 s)
    (h_k : ∀ a0, Keeps s0 a0 → Keeps s0 (k a0)) : Keeps s0 (State.dynamic s p ld op k) := by
  unfold State.dynamic
  with_reducible
    apply Keeps.ite; apply h_k; assumption; apply State.reply_keeps; assumption

theorem execGetDynamicCapacityConfig_keeps {s0 : State} {port : PortId} {ld : Fin 20} {s : State} (h_s : Keeps s0 s) : KR s0
    (execGetDynamicCapacityConfig port ld s) := by
  unfold execGetDynamicCapacityConfig
  with_reducible
    apply KR.next; apply State.mailbox_keeps; assumption; intro _ _; apply State.dynamic_keeps; assumption; intro _ _
    apply State.reply_keeps; assumption

theorem execGetDynamicCapacityExtentList_keeps {s0 : State} {port : PortId} {ld : Fin 20} {s : State} (h_s : Keeps s0 s) : KR s0
    (execGetDynamicCapacityExtentList port ld s) := by
  unfold execGetDynamicCapacityExtentList
  with_reducible
    apply KR.next; apply State.mailbox_keeps; assumption; intro _ _; apply State.dynamic_keeps; assumption; intro _ _
    extract_lets +onlyGivenNames _; apply State.reply_keeps; assumption

theorem State.declineAdd_keeps {s0 s : State} {p ld i : Nat} (h_s : Keeps s0 s) : Keeps s0 (State.declineAdd s p ld i) := by
  unfold State.declineAdd
  with_reducible
    extract_lets +onlyGivenNames _; extract_lets +onlyGivenNames y; refine (fun _ : Keeps s0 y => ?_) ?_; clear_value y
    apply State.log_keeps; assumption; unfold y; apply State.setLd_keeps; assumption

theorem execAddDynamicCapacityResponse_keeps {s0 : State} {port : PortId} {ld : Fin 20} {accepted : List (Fin 4096)} {s : State}
    (h_s : Keeps s0 s) : KR s0 (execAddDynamicCapacityResponse port ld accepted s) := by
  unfold execAddDynamicCapacityResponse
  with_reducible
    apply KR.next; apply State.mailbox_keeps; assumption; intro _ _; apply State.dynamic_keeps; assumption; intro _ _
    extract_lets +onlyGivenNames _; extract_lets +onlyGivenNames _
    extract_lets +onlyGivenNames y; refine (fun _ : Keeps s0 y => ?_) ?_; clear_value y; apply State.reply_keeps; assumption; unfold y
    apply Keeps.ite; apply State.updLd_keeps; assumption; split; apply State.declineAdd_keeps; assumption; assumption

theorem execDcAddTimeout_keeps {s0 : State} {port : PortId} {ld : Fin 16} {region : Fin 4096} {s : State} (h_s : Keeps s0 s) : KR s0
    (execDcAddTimeout port ld region s) := by
  unfold execDcAddTimeout
  with_reducible
    apply KR.next; extract_lets +onlyGivenNames _; apply Keeps.ite; apply State.declineAdd_keeps; assumption; assumption

theorem execReleaseDynamicCapacity_keeps {s0 : State} {port : PortId} {ld : Fin 20} {s : State} (h_s : Keeps s0 s) : KR s0
    (execReleaseDynamicCapacity port ld s) := by
  unfold execReleaseDynamicCapacity
  with_reducible
    apply KR.next; apply State.mailbox_keeps; assumption; intro _ _; apply State.dynamic_keeps; assumption; intro _ _
    apply State.reply_keeps; assumption

theorem execGetLsa_keeps {s0 : State} {port : PortId} {ld : Fin 20} {s : State} (h_s : Keeps s0 s) : KR s0 (execGetLsa port ld s) := by
  unfold execGetLsa
  with_reducible
    apply KR.next; apply State.mailbox_keeps; assumption; intro _ _; apply State.reply_keeps; assumption

theorem execSetLsa_keeps {s0 : State} {port : PortId} {ld : Fin 20} {s : State} (h_s : Keeps s0 s) : KR s0 (execSetLsa port ld s) := by
  unfold execSetLsa
  with_reducible
    apply KR.next; apply State.mailbox_keeps; assumption; intro _ _; apply State.reply_keeps; assumption

theorem State.fabric_keeps {s0 s : State} {p : PortId} {link : LinkId} {op : Nat} {c : Instr}
    {k : State → (Nat → List Nat → State → State) → State} (h_s : Keeps s0 s)
    (h_k : ∀ a0 f, Keeps s0 a0 → (∀ a1 a2 a3, Keeps s0 a3 → Keeps s0 (f a1 a2 a3)) → Keeps s0 (k a0 f)) : Keeps s0
    (State.fabric s p link op c k) := by
  unfold State.fabric
  with_reducible
    apply Keeps.ite; assumption; apply State.request_keeps; assumption; intro _ _; extract_lets +onlyGivenNames f394; apply Keeps.ite
    apply h_k; assumption; intro _ _ _ _; unfold f394; apply State.emit_keeps; assumption; unfold f394; apply State.emit_keeps; assumption

theorem execGetLdInfo_keeps {s0 : State} {port : PortId} {link : LinkId} {s : State} (h_s : Keeps s0 s) : KR s0
    (execGetLdInfo port link s) := by
  unfold execGetLdInfo
  with_reducible
    apply KR.next; apply State.fabric_keeps; assumption; intro a0 f h h_f; apply h_f; assumption

theorem execGetLdAllocations_keeps {s0 : State} {port : PortId} {link : LinkId} {s : State} (h_s : Keeps s0 s) : KR s0
    (execGetLdAllocations port link s) := by
  unfold execGetLdAllocations
  with_reducible
    apply KR.next; apply State.fabric_keeps; assumption; intro a0 f h h_f; apply h_f; assumption

theorem execSetLdAllocations_keeps {s0 : State} {port : PortId} {link : LinkId} {s : State} (h_s : Keeps s0 s) : KR s0
    (execSetLdAllocations port link s) := by
  unfold execSetLdAllocations
  with_reducible
    apply KR.next; apply State.fabric_keeps; assumption; intro a0 f h h_f; apply h_f; assumption

theorem execGetQosStatus_keeps {s0 : State} {port : PortId} {link : LinkId} {s : State} (h_s : Keeps s0 s) : KR s0
    (execGetQosStatus port link s) := by
  unfold execGetQosStatus
  with_reducible
    apply KR.next; apply State.fabric_keeps; assumption; intro a0 f h h_f; split; apply h_f; refine KP.of_eq (by assumption) ?_
    apply State.fresh_keeps; assumption

theorem execGetMultiHeadedInfo_keeps {s0 : State} {port : PortId} {link : LinkId} {s : State} (h_s : Keeps s0 s) : KR s0
    (execGetMultiHeadedInfo port link s) := by
  unfold execGetMultiHeadedInfo
  with_reducible
    apply KR.next; apply State.fabric_keeps; assumption; intro a0 f h h_f; apply Keeps.ite; apply h_f; assumption; apply h_f; assumption

theorem execCdatTableAccess_keeps {s0 : State} {port : PortId} {ld : Fin 16} {s : State} (h_s : Keeps s0 s) : KR s0
    (execCdatTableAccess port ld s) := by
  unfold execCdatTableAccess
  with_reducible
    apply KR.next; apply Keeps.ite; assumption; apply State.request_keeps; assumption; intro _ _; split; extract_lets +onlyGivenNames _
    extract_lets +onlyGivenNames _; apply State.emit_keeps; refine KP.of_eq (by assumption) ?_; apply State.fresh_keeps; assumption

end Sys2Proof.Laws
end

