-- ==== Sys2Proof/Laws/Line.lean ====
section
/-!
SUPPORT. The waybill of a line (R179, R183).
-/
namespace Sys2Proof.Laws

open Machine

/-- Repeating a function once more, taken first. -/
theorem repeat_succ {α : Type} (f : α → α) (n : Nat) (a : α) : (n + 1).repeat f a = n.repeat f (f a) := by
  induction n with
  | zero => rfl
  | succ n ih => rw [Nat.repeat, ih, Nat.repeat]

/-- One more zero byte, taken first. -/
theorem zeros_succ (w : Word) (n : Nat) : zeros w (n + 1) = zeros (crcByte w 0) n := repeat_succ _ n w

/-- Zero bytes through the CRC are the shortcut for zero bytes. -/
theorem feed_replicate_zero (w : Word) (n : Nat) : feed w (List.replicate n 0) = zeros w n := by
  induction n generalizing w with
  | zero => rfl
  | succ n ih => rw [List.replicate_succ, show feed w (0 :: List.replicate n 0) = feed (crcByte w 0) (List.replicate n 0) from rfl, ih,
      zeros_succ]

/-- The bytes of the zero line. -/
theorem lineBytes_zero : lineBytes 0#512 = List.replicate 64 0 := by decide +kernel

/-- The zero line passes its check at every line index. -/
@[simp] theorem zeroLine_checks (l : Nat) : (zeroLine l).checks l = true := by
  have h : waybill l 0 = wbBase l := by
    rw [waybill, show lineBytes 0 = _ from lineBytes_zero, feed_replicate_zero, wbBase]
  show (false || waybill l 0 == wbBase l) = true
  rw [h]; simp

/-- A line that enters with its waybill passes its check. -/
@[simp] theorem mkLine_checks (l : Nat) (d : LineData) : (mkLine l d).checks l = true := by
  simp [Line.checks, mkLine]

/-- A poisoned line is not checked. -/
@[simp] theorem poisonLine_checks (l : Nat) : poisonLine.checks l = true := rfl

end Sys2Proof.Laws
end

