-- ==== Sys2Proof/Laws/Memory.lean ====
section
/-!
SUPPORT. The tier 1 memory and the homes: a read after a write, and that each write keeps the canonical form.
-/
namespace Sys2Proof.Laws

open Machine Safety

variable {s : State}

/-- Noting a poisoned line leaves the tiers as they were. -/
@[simp] theorem listPoison_tier (l src : Nat) : (s.listPoison l src).tier = s.tier := by
  unfold State.listPoison
  repeat' split
  all_goals rfl

/-- A write of a line writes it in tier 1. -/
theorem setLine_dram (l src : Nat) (x : Line) : (s.setLine l x src).tier.dram = Sparse.set zeroLine s.tier.dram l x := by
  unfold State.setLine
  dsimp only
  split
  · rw [listPoison_tier]
  · rfl

/-- A line of tier 1 after a write of one. -/
theorem line_setLine (h : Sparse.wf zeroLine s.tier.dram = true) (l m src : Nat) (x : Line) :
    (s.setLine l x src).line m = if m = l then x else s.line m := by
  unfold State.line
  rw [setLine_dram, get_set h]

/-- A write of a line keeps the canonical form of tier 1. -/
theorem setLine_wf (h : Sparse.wf zeroLine s.tier.dram = true) (l src : Nat) (x : Line) :
    Sparse.wf zeroLine (s.setLine l x src).tier.dram = true := by
  rw [setLine_dram]
  exact wf_set h

/-- A home line after a write of one, on a page that is not lost. -/
theorem homeLine_setHome (h : Sparse.wf zeroLine s.nand.home = true) (l m : Nat) (x : Line) (hm : s.nand.lost.contains (m / 64) = false) :
    (s.setHome l x).homeLine m = if m = l then x else s.homeLine m := by
  have e : (s.setHome l x).nand.lost.contains (m / 64) = false := hm
  unfold State.homeLine
  rw [e, hm]
  exact get_set h

/-- A write of a home keeps the canonical form of the homes. -/
theorem setHome_wf (h : Sparse.wf zeroLine s.nand.home = true) (l : Nat) (x : Line) :
    Sparse.wf zeroLine (s.setHome l x).nand.home = true := wf_set h

/-- Both memories have the form at reset. -/
theorem reset_wf : Sparse.wf zeroLine State.reset.tier.dram = true ∧ Sparse.wf zeroLine State.reset.nand.home = true := ⟨rfl, rfl⟩

end Sys2Proof.Laws
end

