-- ==== Sys2Proof/Laws/Runs.lean ====
section
/-!
SUPPORT. What the conditions of Safety come to: each is met when one Bool is, and what the shared operation of a family then does.
-/
namespace Sys2Proof.Laws

open Machine Safety

/-- A pair with a known first part. -/
theorem pair_of {α β : Type} {p : α × β} {a : α} (h : p.1 = a) : p = (a, p.2) := by rw [← h]

/-- A descriptor runs where its checks pass (R314, R319, R320, R324). -/
theorem runs_of {s : State} {d : Desc} {g : Nat}
    (h : (s.ringTakes d.ring.val && ! (d.ordered && s.ringBusy d.ring.val) && opcodes.contains d.opcode.toNat &&
      Nat.testBit ((s.dequeue d).activity.fld RING_GROUPS_GROUPS d.ring.val) g && ((s.dequeue d).activity.mc.mode != .maintenance)) = true) :
    descRuns s d g (s.dequeue d).activity := by
  simp only [Bool.and_eq_true, Bool.not_eq_true'] at h
  obtain ⟨⟨⟨⟨h1, h2⟩, h3⟩, h4⟩, h5⟩ := h
  exact ⟨h1, h2, h3, rfl, h4, by simpa using h5⟩

/-- A long operation runs where besides a handle is free (R326). -/
theorem long_of {s : State} {d : Desc} {g : Nat}
    (h : (s.ringTakes d.ring.val && ! (d.ordered && s.ringBusy d.ring.val) && opcodes.contains d.opcode.toNat &&
      Nat.testBit ((s.dequeue d).activity.fld RING_GROUPS_GROUPS d.ring.val) g && ((s.dequeue d).activity.mc.mode != .maintenance) &&
      (s.dequeue d).activity.freeOpSlot.isSome) = true) :
    longRuns s d g (s.dequeue d).activity := by
  rw [Bool.and_eq_true] at h
  exact ⟨runs_of h.1, h.2⟩

/-- A command that takes no handle acts where its descriptor runs. -/
theorem take_run {s t : State} {d : Desc} {g : Nat} (m : Bool) (body : State → State) (h : descRuns s d g t) :
    s.take d g m false body = body t := by
  obtain ⟨h1, h2, h3, rfl, h5, h6⟩ := h
  have : ((s.dequeue d).activity.mc.mode == Mode.maintenance) = false := by simpa using h6
  simp only [State.take, h1, h2, h3, h5, this, Bool.not_true, Bool.or_false, Bool.false_and, Bool.false_eq_true, ↓reduceIte]

/-- A long operation acts where its descriptor runs and a handle is free. -/
theorem take_long {s t : State} {d : Desc} {g : Nat} (m l : Bool) (body : State → State) (h : longRuns s d g t) :
    s.take d g m l body = body t := by
  obtain ⟨⟨h1, h2, h3, rfl, h5, h6⟩, h7⟩ := h
  have : ((s.dequeue d).activity.mc.mode == Mode.maintenance) = false := by simpa using h6
  have h8 : (s.dequeue d).activity.freeOpSlot.isNone = false := by
    cases h : (s.dequeue d).activity.freeOpSlot <;> simp_all
  simp only [State.take, h1, h2, h3, h5, h8, this, Bool.not_true, Bool.or_false, Bool.false_and, Bool.and_false, Bool.false_eq_true,
    ↓reduceIte]

/-- The command that runs in MAINTENANCE acts there too. -/
theorem take_maint {s t : State} {d : Desc} {g : Nat} (l : Bool) (body : State → State) (h1 : s.ringTakes d.ring.val = true)
    (h2 : (d.ordered && s.ringBusy d.ring.val) = false) (h3 : opcodes.contains d.opcode.toNat = true) (h4 : t = (s.dequeue d).activity)
    (h5 : Nat.testBit (t.fld RING_GROUPS_GROUPS d.ring.val) g = true) (h7 : t.freeOpSlot.isSome = true) :
    s.take d g true l body = body t := by
  subst h4
  have h8 : (s.dequeue d).activity.freeOpSlot.isNone = false := by
    cases h : (s.dequeue d).activity.freeOpSlot <;> simp_all
  simp only [State.take, h1, h2, h3, h5, h8, Bool.not_true, Bool.or_false, Bool.and_false, Bool.false_eq_true, ↓reduceIte]

/-- An RDMA packet acts where its checks pass (R291, R299). -/
theorem packet_of {s : State} {h : RdmaHdr} {q : Nat}
    (e : (s.mc.mode.serving && h.qpn.toNat == q + 0x400 && decide (q < 8192) && (s.qp q).st == .rts &&
      (s.fld RDMA_CTL_PORT_EN).testBit (s.qp q).port) = true) : packetRuns s h q (s.activity.congested q h.ce) := by
  simp only [Bool.and_eq_true, beq_iff_eq, decide_eq_true_eq] at e
  obtain ⟨⟨⟨⟨h1, h2⟩, h3⟩, h4⟩, h5⟩ := e
  exact ⟨h1, h2, h3, h4, h5, rfl⟩

/-- A request acts where besides its sequence number is the expected one (R296). -/
theorem request_of {s : State} {h : RdmaHdr} {q n : Nat}
    (e : (s.mc.mode.serving && h.qpn.toNat == q + 0x400 && decide (q < 8192) && (s.qp q).st == .rts &&
      (s.fld RDMA_CTL_PORT_EN).testBit (s.qp q).port) = true)
    (e2 : h.psn.toNat = ((s.activity.congested q h.ce).qp q).rqPsn) :
    requestRuns s h q n ((s.activity.congested q h.ce).setQp q (((s.activity.congested q h.ce).qp q).setRq (h.psn.toNat + n))) :=
  ⟨_, packet_of e, e2, rfl⟩

/-- A packet that runs is handed to its meaning with its queue pair. -/
theorem rdmaPacket_runs {s t : State} {h : RdmaHdr} {q : Nat} (body : Nat → State → State) (hp : packetRuns s h q t) :
    s.rdmaPacket h body = body q t := by
  obtain ⟨h1, h2, h3, h4, h5, rfl⟩ := hp
  have : h.qpn.toNat - 0x400 = q := by omega
  simp only [State.rdmaPacket, this, h1, h4, h5]
  rw [if_neg (by simp), if_neg]
  simp; omega

/-- A request that runs is carried out, not answered as out of order. -/
theorem rdmaOrder_runs {s u : State} {h : RdmaHdr} {q n : Nat} (hp : requestRuns s h q n u) :
    ∃ t, packetRuns s h q t ∧ ∀ a b, t.rdmaOrder q h.psn.toNat n a b = a u := by
  obtain ⟨t, hp, h1, rfl⟩ := hp
  exact ⟨t, hp, fun a b => by simp [State.rdmaOrder, h1]⟩

/-- A packet of the twin link is taken where its checks pass (R27, R234, R236). -/
theorem taken_of {s : State} {h : BttHdr}
    (e : (s.bttOpen && s.flag BTT_PATH_CFG_VALID h.path.val && h.tagOk && ! s.epochStale h.epoch && h.hdrOk) = true) :
    bttTaken s h (s.rxNoted h) := by
  simp only [Bool.and_eq_true, Bool.not_eq_true'] at e
  obtain ⟨⟨⟨⟨h1, h2⟩, h3⟩, h4⟩, h5⟩ := e
  exact ⟨h1, h2, h3, h4, h5, rfl⟩

/-- Its message is new where it is neither a duplicate nor past the window (R242). -/
theorem new_of {s : State} {h : BttHdr} {st : Nat}
    (e : (s.bttOpen && s.flag BTT_PATH_CFG_VALID h.path.val && h.tagOk && ! s.epochStale h.epoch && h.hdrOk) = true)
    (e2 : (! (s.rxNoted h).activity.rxDup st h.seq.toNat &&
      decide (h.seq.toNat < (s.rxNoted h).activity.rxBase st + 65536)) = true) :
    bttNew s h st (s.rxNoted h).activity := by
  simp only [Bool.and_eq_true, Bool.not_eq_true', decide_eq_true_eq] at e2
  exact ⟨_, taken_of e, rfl, e2.1, e2.2⟩

/-- A new CTRL message takes effect with its ACK to follow (R240, R242). -/
theorem ctrl_of {s : State} {h : BttHdr}
    (e : (s.bttOpen && s.flag BTT_PATH_CFG_VALID h.path.val && h.tagOk && ! s.epochStale h.epoch && h.hdrOk) = true)
    (e2 : (! (s.rxNoted h).activity.rxDup 12 h.seq.toNat &&
      decide (h.seq.toNat < (s.rxNoted h).activity.rxBase 12 + 65536)) = true) :
    ctrlTaken s h (((s.rxNoted h).activity.rxComplete 12 h.seq.toNat).returnUnit h.path.val 3 1) :=
  ⟨_, new_of e e2, rfl⟩

/-- A taken packet is handed to its meaning. -/
theorem rxPacket_taken {s t : State} {h : BttHdr} (body : State → State) (hp : bttTaken s h t) : s.rxPacket h body = body t := by
  obtain ⟨h1, h2, h3, h4, h5, rfl⟩ := hp
  simp [State.rxPacket, h1, h2, h3, h4, h5]

/-- A new message is handed on, not answered as a duplicate or dropped. -/
theorem rxWindow_new {s u : State} {h : BttHdr} {st : Nat} (hp : bttNew s h st u) :
    ∃ t, bttTaken s h t ∧ ∀ p b, t.activity.rxWindow p st h.seq.toNat b = b u := by
  obtain ⟨t, h0, rfl, h1, h2⟩ := hp
  refine ⟨t, h0, fun p b => ?_⟩
  simp only [State.rxWindow, h1]
  rw [if_neg (by simp), if_neg (by omega)]

/-- A new CTRL message takes effect once and is acknowledged. -/
theorem rxCtrl_taken {s v : State} {h : BttHdr} (body : State → State) (hp : ctrlTaken s h v) :
    s.rxCtrl h body = (body v).bttAck h.path.val 12 := by
  obtain ⟨u, h0, rfl⟩ := hp
  obtain ⟨t, h1, h2⟩ := rxWindow_new h0
  simp [State.rxCtrl, rxPacket_taken _ h1, h2]

/-- A management message is answered at once (R377, R480). -/
theorem managed_runs {s : State} (h : managed s) (b ty cmd c) (k : State → State) : s.managed b ty cmd c k = k s := by
  obtain ⟨h1, h2, h3⟩ := h
  simp [State.managed, State.request, h1, h2, h3]

/-- A mailbox command is executed at once (R266, R268, R377). -/
theorem mailbox_runs {s : State} {p : PortId} {ld : Fin 20} {set : MboxSet} (h : mailboxRuns s p ld set) (op c) (k : State → State) :
    s.mailbox p ld op set c k = k s := by
  obtain ⟨h1, h2, h3, h4⟩ := h
  simp [State.mailbox, State.request, h1, h2, h3, h4]

end Sys2Proof.Laws
end

