-- ==== Sys2Proof/Laws/State.lean ====
section
/-!
SUPPORT. What each update of one part of the state leaves as it was: one lemma for each other field.
-/
namespace Sys2Proof.Machine

variable (s : State)

/-! ## setCh writes chans only -/

@[simp] theorem State.setCh_pending (n : Nat) (c : Channel) : (s.setCh n c).pending = s.pending := rfl
@[simp] theorem State.setCh_timeNs (n : Nat) (c : Channel) : (s.setCh n c).timeNs = s.timeNs := rfl
@[simp] theorem State.setCh_freeCtr (n : Nat) (c : Channel) : (s.setCh n c).freeCtr = s.freeCtr := rfl
@[simp] theorem State.setCh_outs (n : Nat) (c : Channel) : (s.setCh n c).outs = s.outs := rfl
@[simp] theorem State.setCh_regs (n : Nat) (c : Channel) : (s.setCh n c).regs = s.regs := rfl
@[simp] theorem State.setCh_evt (n : Nat) (c : Channel) : (s.setCh n c).evt = s.evt := rfl
@[simp] theorem State.setCh_portQueue (n : Nat) (c : Channel) : (s.setCh n c).portQueue = s.portQueue := rfl
@[simp] theorem State.setCh_mc (n : Nat) (c : Channel) : (s.setCh n c).mc = s.mc := rfl
@[simp] theorem State.setCh_pw (n : Nat) (c : Channel) : (s.setCh n c).pw = s.pw := rfl
@[simp] theorem State.setCh_clk (n : Nat) (c : Channel) : (s.setCh n c).clk = s.clk := rfl
@[simp] theorem State.setCh_rgn (n : Nat) (c : Channel) : (s.setCh n c).rgn = s.rgn := rfl
@[simp] theorem State.setCh_per (n : Nat) (c : Channel) : (s.setCh n c).per = s.per := rfl
@[simp] theorem State.setCh_tier (n : Nat) (c : Channel) : (s.setCh n c).tier = s.tier := rfl
@[simp] theorem State.setCh_rings (n : Nat) (c : Channel) : (s.setCh n c).rings = s.rings := rfl
@[simp] theorem State.setCh_nand (n : Nat) (c : Channel) : (s.setCh n c).nand = s.nand := rfl
@[simp] theorem State.setCh_twin (n : Nat) (c : Channel) : (s.setCh n c).twin = s.twin := rfl
@[simp] theorem State.setCh_ports (n : Nat) (c : Channel) : (s.setCh n c).ports = s.ports := rfl
@[simp] theorem State.setCh_rdma (n : Nat) (c : Channel) : (s.setCh n c).rdma = s.rdma := rfl
@[simp] theorem State.setCh_mgmt (n : Nat) (c : Channel) : (s.setCh n c).mgmt = s.mgmt := rfl
@[simp] theorem State.setCh_buffered (n : Nat) (c : Channel) : (s.setCh n c).buffered = s.buffered := rfl
@[simp] theorem State.setCh_sec (n : Nat) (c : Channel) : (s.setCh n c).sec = s.sec := rfl
@[simp] theorem State.setCh_stk (n : Nat) (c : Channel) : (s.setCh n c).stk = s.stk := rfl
@[simp] theorem State.setCh_cc (n : Nat) (c : Channel) : (s.setCh n c).cc = s.cc := rfl
@[simp] theorem State.setCh_arb (n : Nat) (c : Channel) : (s.setCh n c).arb = s.arb := rfl
@[simp] theorem State.setCh_flash (n : Nat) (c : Channel) : (s.setCh n c).flash = s.flash := rfl
@[simp] theorem State.setCh_jct (n : Nat) (c : Channel) : (s.setCh n c).jct = s.jct := rfl
@[simp] theorem State.setCh_hub (n : Nat) (c : Channel) : (s.setCh n c).hub = s.hub := rfl
@[simp] theorem State.setCh_tests (n : Nat) (c : Channel) : (s.setCh n c).tests = s.tests := rfl
@[simp] theorem State.setCh_regu (n : Nat) (c : Channel) : (s.setCh n c).regu = s.regu := rfl

/-! ## setLink writes ports only -/

@[simp] theorem State.setLink_pending (p l : Nat) (x : CxlLink) : (s.setLink p l x).pending = s.pending := rfl
@[simp] theorem State.setLink_timeNs (p l : Nat) (x : CxlLink) : (s.setLink p l x).timeNs = s.timeNs := rfl
@[simp] theorem State.setLink_freeCtr (p l : Nat) (x : CxlLink) : (s.setLink p l x).freeCtr = s.freeCtr := rfl
@[simp] theorem State.setLink_outs (p l : Nat) (x : CxlLink) : (s.setLink p l x).outs = s.outs := rfl
@[simp] theorem State.setLink_regs (p l : Nat) (x : CxlLink) : (s.setLink p l x).regs = s.regs := rfl
@[simp] theorem State.setLink_evt (p l : Nat) (x : CxlLink) : (s.setLink p l x).evt = s.evt := rfl
@[simp] theorem State.setLink_portQueue (p l : Nat) (x : CxlLink) : (s.setLink p l x).portQueue = s.portQueue := rfl
@[simp] theorem State.setLink_mc (p l : Nat) (x : CxlLink) : (s.setLink p l x).mc = s.mc := rfl
@[simp] theorem State.setLink_pw (p l : Nat) (x : CxlLink) : (s.setLink p l x).pw = s.pw := rfl
@[simp] theorem State.setLink_clk (p l : Nat) (x : CxlLink) : (s.setLink p l x).clk = s.clk := rfl
@[simp] theorem State.setLink_rgn (p l : Nat) (x : CxlLink) : (s.setLink p l x).rgn = s.rgn := rfl
@[simp] theorem State.setLink_per (p l : Nat) (x : CxlLink) : (s.setLink p l x).per = s.per := rfl
@[simp] theorem State.setLink_tier (p l : Nat) (x : CxlLink) : (s.setLink p l x).tier = s.tier := rfl
@[simp] theorem State.setLink_rings (p l : Nat) (x : CxlLink) : (s.setLink p l x).rings = s.rings := rfl
@[simp] theorem State.setLink_nand (p l : Nat) (x : CxlLink) : (s.setLink p l x).nand = s.nand := rfl
@[simp] theorem State.setLink_chans (p l : Nat) (x : CxlLink) : (s.setLink p l x).chans = s.chans := rfl
@[simp] theorem State.setLink_twin (p l : Nat) (x : CxlLink) : (s.setLink p l x).twin = s.twin := rfl
@[simp] theorem State.setLink_rdma (p l : Nat) (x : CxlLink) : (s.setLink p l x).rdma = s.rdma := rfl
@[simp] theorem State.setLink_mgmt (p l : Nat) (x : CxlLink) : (s.setLink p l x).mgmt = s.mgmt := rfl
@[simp] theorem State.setLink_buffered (p l : Nat) (x : CxlLink) : (s.setLink p l x).buffered = s.buffered := rfl
@[simp] theorem State.setLink_sec (p l : Nat) (x : CxlLink) : (s.setLink p l x).sec = s.sec := rfl
@[simp] theorem State.setLink_stk (p l : Nat) (x : CxlLink) : (s.setLink p l x).stk = s.stk := rfl
@[simp] theorem State.setLink_cc (p l : Nat) (x : CxlLink) : (s.setLink p l x).cc = s.cc := rfl
@[simp] theorem State.setLink_arb (p l : Nat) (x : CxlLink) : (s.setLink p l x).arb = s.arb := rfl
@[simp] theorem State.setLink_flash (p l : Nat) (x : CxlLink) : (s.setLink p l x).flash = s.flash := rfl
@[simp] theorem State.setLink_jct (p l : Nat) (x : CxlLink) : (s.setLink p l x).jct = s.jct := rfl
@[simp] theorem State.setLink_hub (p l : Nat) (x : CxlLink) : (s.setLink p l x).hub = s.hub := rfl
@[simp] theorem State.setLink_tests (p l : Nat) (x : CxlLink) : (s.setLink p l x).tests = s.tests := rfl
@[simp] theorem State.setLink_regu (p l : Nat) (x : CxlLink) : (s.setLink p l x).regu = s.regu := rfl

/-! ## setLd writes ports only -/

@[simp] theorem State.setLd_pending (p ld : Nat) (x : Ld) : (s.setLd p ld x).pending = s.pending := rfl
@[simp] theorem State.setLd_timeNs (p ld : Nat) (x : Ld) : (s.setLd p ld x).timeNs = s.timeNs := rfl
@[simp] theorem State.setLd_freeCtr (p ld : Nat) (x : Ld) : (s.setLd p ld x).freeCtr = s.freeCtr := rfl
@[simp] theorem State.setLd_outs (p ld : Nat) (x : Ld) : (s.setLd p ld x).outs = s.outs := rfl
@[simp] theorem State.setLd_regs (p ld : Nat) (x : Ld) : (s.setLd p ld x).regs = s.regs := rfl
@[simp] theorem State.setLd_evt (p ld : Nat) (x : Ld) : (s.setLd p ld x).evt = s.evt := rfl
@[simp] theorem State.setLd_portQueue (p ld : Nat) (x : Ld) : (s.setLd p ld x).portQueue = s.portQueue := rfl
@[simp] theorem State.setLd_mc (p ld : Nat) (x : Ld) : (s.setLd p ld x).mc = s.mc := rfl
@[simp] theorem State.setLd_pw (p ld : Nat) (x : Ld) : (s.setLd p ld x).pw = s.pw := rfl
@[simp] theorem State.setLd_clk (p ld : Nat) (x : Ld) : (s.setLd p ld x).clk = s.clk := rfl
@[simp] theorem State.setLd_rgn (p ld : Nat) (x : Ld) : (s.setLd p ld x).rgn = s.rgn := rfl
@[simp] theorem State.setLd_per (p ld : Nat) (x : Ld) : (s.setLd p ld x).per = s.per := rfl
@[simp] theorem State.setLd_tier (p ld : Nat) (x : Ld) : (s.setLd p ld x).tier = s.tier := rfl
@[simp] theorem State.setLd_rings (p ld : Nat) (x : Ld) : (s.setLd p ld x).rings = s.rings := rfl
@[simp] theorem State.setLd_nand (p ld : Nat) (x : Ld) : (s.setLd p ld x).nand = s.nand := rfl
@[simp] theorem State.setLd_chans (p ld : Nat) (x : Ld) : (s.setLd p ld x).chans = s.chans := rfl
@[simp] theorem State.setLd_twin (p ld : Nat) (x : Ld) : (s.setLd p ld x).twin = s.twin := rfl
@[simp] theorem State.setLd_rdma (p ld : Nat) (x : Ld) : (s.setLd p ld x).rdma = s.rdma := rfl
@[simp] theorem State.setLd_mgmt (p ld : Nat) (x : Ld) : (s.setLd p ld x).mgmt = s.mgmt := rfl
@[simp] theorem State.setLd_buffered (p ld : Nat) (x : Ld) : (s.setLd p ld x).buffered = s.buffered := rfl
@[simp] theorem State.setLd_sec (p ld : Nat) (x : Ld) : (s.setLd p ld x).sec = s.sec := rfl
@[simp] theorem State.setLd_stk (p ld : Nat) (x : Ld) : (s.setLd p ld x).stk = s.stk := rfl
@[simp] theorem State.setLd_cc (p ld : Nat) (x : Ld) : (s.setLd p ld x).cc = s.cc := rfl
@[simp] theorem State.setLd_arb (p ld : Nat) (x : Ld) : (s.setLd p ld x).arb = s.arb := rfl
@[simp] theorem State.setLd_flash (p ld : Nat) (x : Ld) : (s.setLd p ld x).flash = s.flash := rfl
@[simp] theorem State.setLd_jct (p ld : Nat) (x : Ld) : (s.setLd p ld x).jct = s.jct := rfl
@[simp] theorem State.setLd_hub (p ld : Nat) (x : Ld) : (s.setLd p ld x).hub = s.hub := rfl
@[simp] theorem State.setLd_tests (p ld : Nat) (x : Ld) : (s.setLd p ld x).tests = s.tests := rfl
@[simp] theorem State.setLd_regu (p ld : Nat) (x : Ld) : (s.setLd p ld x).regu = s.regu := rfl

/-! ## setQp writes rdma only -/

@[simp] theorem State.setQp_pending (q : Nat) (x : Qp) : (s.setQp q x).pending = s.pending := rfl
@[simp] theorem State.setQp_timeNs (q : Nat) (x : Qp) : (s.setQp q x).timeNs = s.timeNs := rfl
@[simp] theorem State.setQp_freeCtr (q : Nat) (x : Qp) : (s.setQp q x).freeCtr = s.freeCtr := rfl
@[simp] theorem State.setQp_outs (q : Nat) (x : Qp) : (s.setQp q x).outs = s.outs := rfl
@[simp] theorem State.setQp_regs (q : Nat) (x : Qp) : (s.setQp q x).regs = s.regs := rfl
@[simp] theorem State.setQp_evt (q : Nat) (x : Qp) : (s.setQp q x).evt = s.evt := rfl
@[simp] theorem State.setQp_portQueue (q : Nat) (x : Qp) : (s.setQp q x).portQueue = s.portQueue := rfl
@[simp] theorem State.setQp_mc (q : Nat) (x : Qp) : (s.setQp q x).mc = s.mc := rfl
@[simp] theorem State.setQp_pw (q : Nat) (x : Qp) : (s.setQp q x).pw = s.pw := rfl
@[simp] theorem State.setQp_clk (q : Nat) (x : Qp) : (s.setQp q x).clk = s.clk := rfl
@[simp] theorem State.setQp_rgn (q : Nat) (x : Qp) : (s.setQp q x).rgn = s.rgn := rfl
@[simp] theorem State.setQp_per (q : Nat) (x : Qp) : (s.setQp q x).per = s.per := rfl
@[simp] theorem State.setQp_tier (q : Nat) (x : Qp) : (s.setQp q x).tier = s.tier := rfl
@[simp] theorem State.setQp_rings (q : Nat) (x : Qp) : (s.setQp q x).rings = s.rings := rfl
@[simp] theorem State.setQp_nand (q : Nat) (x : Qp) : (s.setQp q x).nand = s.nand := rfl
@[simp] theorem State.setQp_chans (q : Nat) (x : Qp) : (s.setQp q x).chans = s.chans := rfl
@[simp] theorem State.setQp_twin (q : Nat) (x : Qp) : (s.setQp q x).twin = s.twin := rfl
@[simp] theorem State.setQp_ports (q : Nat) (x : Qp) : (s.setQp q x).ports = s.ports := rfl
@[simp] theorem State.setQp_mgmt (q : Nat) (x : Qp) : (s.setQp q x).mgmt = s.mgmt := rfl
@[simp] theorem State.setQp_buffered (q : Nat) (x : Qp) : (s.setQp q x).buffered = s.buffered := rfl
@[simp] theorem State.setQp_sec (q : Nat) (x : Qp) : (s.setQp q x).sec = s.sec := rfl
@[simp] theorem State.setQp_stk (q : Nat) (x : Qp) : (s.setQp q x).stk = s.stk := rfl
@[simp] theorem State.setQp_cc (q : Nat) (x : Qp) : (s.setQp q x).cc = s.cc := rfl
@[simp] theorem State.setQp_arb (q : Nat) (x : Qp) : (s.setQp q x).arb = s.arb := rfl
@[simp] theorem State.setQp_flash (q : Nat) (x : Qp) : (s.setQp q x).flash = s.flash := rfl
@[simp] theorem State.setQp_jct (q : Nat) (x : Qp) : (s.setQp q x).jct = s.jct := rfl
@[simp] theorem State.setQp_hub (q : Nat) (x : Qp) : (s.setQp q x).hub = s.hub := rfl
@[simp] theorem State.setQp_tests (q : Nat) (x : Qp) : (s.setQp q x).tests = s.tests := rfl
@[simp] theorem State.setQp_regu (q : Nat) (x : Qp) : (s.setQp q x).regu = s.regu := rfl

/-! ## emit writes outs only -/

@[simp] theorem State.emit_pending (o : Out) : (s.emit o).pending = s.pending := rfl
@[simp] theorem State.emit_timeNs (o : Out) : (s.emit o).timeNs = s.timeNs := rfl
@[simp] theorem State.emit_freeCtr (o : Out) : (s.emit o).freeCtr = s.freeCtr := rfl
@[simp] theorem State.emit_regs (o : Out) : (s.emit o).regs = s.regs := rfl
@[simp] theorem State.emit_evt (o : Out) : (s.emit o).evt = s.evt := rfl
@[simp] theorem State.emit_portQueue (o : Out) : (s.emit o).portQueue = s.portQueue := rfl
@[simp] theorem State.emit_mc (o : Out) : (s.emit o).mc = s.mc := rfl
@[simp] theorem State.emit_pw (o : Out) : (s.emit o).pw = s.pw := rfl
@[simp] theorem State.emit_clk (o : Out) : (s.emit o).clk = s.clk := rfl
@[simp] theorem State.emit_rgn (o : Out) : (s.emit o).rgn = s.rgn := rfl
@[simp] theorem State.emit_per (o : Out) : (s.emit o).per = s.per := rfl
@[simp] theorem State.emit_tier (o : Out) : (s.emit o).tier = s.tier := rfl
@[simp] theorem State.emit_rings (o : Out) : (s.emit o).rings = s.rings := rfl
@[simp] theorem State.emit_nand (o : Out) : (s.emit o).nand = s.nand := rfl
@[simp] theorem State.emit_chans (o : Out) : (s.emit o).chans = s.chans := rfl
@[simp] theorem State.emit_twin (o : Out) : (s.emit o).twin = s.twin := rfl
@[simp] theorem State.emit_ports (o : Out) : (s.emit o).ports = s.ports := rfl
@[simp] theorem State.emit_rdma (o : Out) : (s.emit o).rdma = s.rdma := rfl
@[simp] theorem State.emit_mgmt (o : Out) : (s.emit o).mgmt = s.mgmt := rfl
@[simp] theorem State.emit_buffered (o : Out) : (s.emit o).buffered = s.buffered := rfl
@[simp] theorem State.emit_sec (o : Out) : (s.emit o).sec = s.sec := rfl
@[simp] theorem State.emit_stk (o : Out) : (s.emit o).stk = s.stk := rfl
@[simp] theorem State.emit_cc (o : Out) : (s.emit o).cc = s.cc := rfl
@[simp] theorem State.emit_arb (o : Out) : (s.emit o).arb = s.arb := rfl
@[simp] theorem State.emit_flash (o : Out) : (s.emit o).flash = s.flash := rfl
@[simp] theorem State.emit_jct (o : Out) : (s.emit o).jct = s.jct := rfl
@[simp] theorem State.emit_hub (o : Out) : (s.emit o).hub = s.hub := rfl
@[simp] theorem State.emit_tests (o : Out) : (s.emit o).tests = s.tests := rfl
@[simp] theorem State.emit_regu (o : Out) : (s.emit o).regu = s.regu := rfl

/-! ## emitAll writes outs only -/

@[simp] theorem State.emitAll_pending (os : List Out) : (s.emitAll os).pending = s.pending := rfl
@[simp] theorem State.emitAll_timeNs (os : List Out) : (s.emitAll os).timeNs = s.timeNs := rfl
@[simp] theorem State.emitAll_freeCtr (os : List Out) : (s.emitAll os).freeCtr = s.freeCtr := rfl
@[simp] theorem State.emitAll_regs (os : List Out) : (s.emitAll os).regs = s.regs := rfl
@[simp] theorem State.emitAll_evt (os : List Out) : (s.emitAll os).evt = s.evt := rfl
@[simp] theorem State.emitAll_portQueue (os : List Out) : (s.emitAll os).portQueue = s.portQueue := rfl
@[simp] theorem State.emitAll_mc (os : List Out) : (s.emitAll os).mc = s.mc := rfl
@[simp] theorem State.emitAll_pw (os : List Out) : (s.emitAll os).pw = s.pw := rfl
@[simp] theorem State.emitAll_clk (os : List Out) : (s.emitAll os).clk = s.clk := rfl
@[simp] theorem State.emitAll_rgn (os : List Out) : (s.emitAll os).rgn = s.rgn := rfl
@[simp] theorem State.emitAll_per (os : List Out) : (s.emitAll os).per = s.per := rfl
@[simp] theorem State.emitAll_tier (os : List Out) : (s.emitAll os).tier = s.tier := rfl
@[simp] theorem State.emitAll_rings (os : List Out) : (s.emitAll os).rings = s.rings := rfl
@[simp] theorem State.emitAll_nand (os : List Out) : (s.emitAll os).nand = s.nand := rfl
@[simp] theorem State.emitAll_chans (os : List Out) : (s.emitAll os).chans = s.chans := rfl
@[simp] theorem State.emitAll_twin (os : List Out) : (s.emitAll os).twin = s.twin := rfl
@[simp] theorem State.emitAll_ports (os : List Out) : (s.emitAll os).ports = s.ports := rfl
@[simp] theorem State.emitAll_rdma (os : List Out) : (s.emitAll os).rdma = s.rdma := rfl
@[simp] theorem State.emitAll_mgmt (os : List Out) : (s.emitAll os).mgmt = s.mgmt := rfl
@[simp] theorem State.emitAll_buffered (os : List Out) : (s.emitAll os).buffered = s.buffered := rfl
@[simp] theorem State.emitAll_sec (os : List Out) : (s.emitAll os).sec = s.sec := rfl
@[simp] theorem State.emitAll_stk (os : List Out) : (s.emitAll os).stk = s.stk := rfl
@[simp] theorem State.emitAll_cc (os : List Out) : (s.emitAll os).cc = s.cc := rfl
@[simp] theorem State.emitAll_arb (os : List Out) : (s.emitAll os).arb = s.arb := rfl
@[simp] theorem State.emitAll_flash (os : List Out) : (s.emitAll os).flash = s.flash := rfl
@[simp] theorem State.emitAll_jct (os : List Out) : (s.emitAll os).jct = s.jct := rfl
@[simp] theorem State.emitAll_hub (os : List Out) : (s.emitAll os).hub = s.hub := rfl
@[simp] theorem State.emitAll_tests (os : List Out) : (s.emitAll os).tests = s.tests := rfl
@[simp] theorem State.emitAll_regu (os : List Out) : (s.emitAll os).regu = s.regu := rfl

/-! ## setFld writes regs only -/

@[simp] theorem State.setFld_pending (f : Field) (v i j : Nat) : (s.setFld f v i j).pending = s.pending := rfl
@[simp] theorem State.setFld_timeNs (f : Field) (v i j : Nat) : (s.setFld f v i j).timeNs = s.timeNs := rfl
@[simp] theorem State.setFld_freeCtr (f : Field) (v i j : Nat) : (s.setFld f v i j).freeCtr = s.freeCtr := rfl
@[simp] theorem State.setFld_outs (f : Field) (v i j : Nat) : (s.setFld f v i j).outs = s.outs := rfl
@[simp] theorem State.setFld_evt (f : Field) (v i j : Nat) : (s.setFld f v i j).evt = s.evt := rfl
@[simp] theorem State.setFld_portQueue (f : Field) (v i j : Nat) : (s.setFld f v i j).portQueue = s.portQueue := rfl
@[simp] theorem State.setFld_mc (f : Field) (v i j : Nat) : (s.setFld f v i j).mc = s.mc := rfl
@[simp] theorem State.setFld_pw (f : Field) (v i j : Nat) : (s.setFld f v i j).pw = s.pw := rfl
@[simp] theorem State.setFld_clk (f : Field) (v i j : Nat) : (s.setFld f v i j).clk = s.clk := rfl
@[simp] theorem State.setFld_rgn (f : Field) (v i j : Nat) : (s.setFld f v i j).rgn = s.rgn := rfl
@[simp] theorem State.setFld_per (f : Field) (v i j : Nat) : (s.setFld f v i j).per = s.per := rfl
@[simp] theorem State.setFld_tier (f : Field) (v i j : Nat) : (s.setFld f v i j).tier = s.tier := rfl
@[simp] theorem State.setFld_rings (f : Field) (v i j : Nat) : (s.setFld f v i j).rings = s.rings := rfl
@[simp] theorem State.setFld_nand (f : Field) (v i j : Nat) : (s.setFld f v i j).nand = s.nand := rfl
@[simp] theorem State.setFld_chans (f : Field) (v i j : Nat) : (s.setFld f v i j).chans = s.chans := rfl
@[simp] theorem State.setFld_twin (f : Field) (v i j : Nat) : (s.setFld f v i j).twin = s.twin := rfl
@[simp] theorem State.setFld_ports (f : Field) (v i j : Nat) : (s.setFld f v i j).ports = s.ports := rfl
@[simp] theorem State.setFld_rdma (f : Field) (v i j : Nat) : (s.setFld f v i j).rdma = s.rdma := rfl
@[simp] theorem State.setFld_mgmt (f : Field) (v i j : Nat) : (s.setFld f v i j).mgmt = s.mgmt := rfl
@[simp] theorem State.setFld_buffered (f : Field) (v i j : Nat) : (s.setFld f v i j).buffered = s.buffered := rfl
@[simp] theorem State.setFld_sec (f : Field) (v i j : Nat) : (s.setFld f v i j).sec = s.sec := rfl
@[simp] theorem State.setFld_stk (f : Field) (v i j : Nat) : (s.setFld f v i j).stk = s.stk := rfl
@[simp] theorem State.setFld_cc (f : Field) (v i j : Nat) : (s.setFld f v i j).cc = s.cc := rfl
@[simp] theorem State.setFld_arb (f : Field) (v i j : Nat) : (s.setFld f v i j).arb = s.arb := rfl
@[simp] theorem State.setFld_flash (f : Field) (v i j : Nat) : (s.setFld f v i j).flash = s.flash := rfl
@[simp] theorem State.setFld_jct (f : Field) (v i j : Nat) : (s.setFld f v i j).jct = s.jct := rfl
@[simp] theorem State.setFld_hub (f : Field) (v i j : Nat) : (s.setFld f v i j).hub = s.hub := rfl
@[simp] theorem State.setFld_tests (f : Field) (v i j : Nat) : (s.setFld f v i j).tests = s.tests := rfl
@[simp] theorem State.setFld_regu (f : Field) (v i j : Nat) : (s.setFld f v i j).regu = s.regu := rfl

/-! ## addFld writes regs only -/

@[simp] theorem State.addFld_pending (f : Field) (n i j : Nat) : (s.addFld f n i j).pending = s.pending := rfl
@[simp] theorem State.addFld_timeNs (f : Field) (n i j : Nat) : (s.addFld f n i j).timeNs = s.timeNs := rfl
@[simp] theorem State.addFld_freeCtr (f : Field) (n i j : Nat) : (s.addFld f n i j).freeCtr = s.freeCtr := rfl
@[simp] theorem State.addFld_outs (f : Field) (n i j : Nat) : (s.addFld f n i j).outs = s.outs := rfl
@[simp] theorem State.addFld_evt (f : Field) (n i j : Nat) : (s.addFld f n i j).evt = s.evt := rfl
@[simp] theorem State.addFld_portQueue (f : Field) (n i j : Nat) : (s.addFld f n i j).portQueue = s.portQueue := rfl
@[simp] theorem State.addFld_mc (f : Field) (n i j : Nat) : (s.addFld f n i j).mc = s.mc := rfl
@[simp] theorem State.addFld_pw (f : Field) (n i j : Nat) : (s.addFld f n i j).pw = s.pw := rfl
@[simp] theorem State.addFld_clk (f : Field) (n i j : Nat) : (s.addFld f n i j).clk = s.clk := rfl
@[simp] theorem State.addFld_rgn (f : Field) (n i j : Nat) : (s.addFld f n i j).rgn = s.rgn := rfl
@[simp] theorem State.addFld_per (f : Field) (n i j : Nat) : (s.addFld f n i j).per = s.per := rfl
@[simp] theorem State.addFld_tier (f : Field) (n i j : Nat) : (s.addFld f n i j).tier = s.tier := rfl
@[simp] theorem State.addFld_rings (f : Field) (n i j : Nat) : (s.addFld f n i j).rings = s.rings := rfl
@[simp] theorem State.addFld_nand (f : Field) (n i j : Nat) : (s.addFld f n i j).nand = s.nand := rfl
@[simp] theorem State.addFld_chans (f : Field) (n i j : Nat) : (s.addFld f n i j).chans = s.chans := rfl
@[simp] theorem State.addFld_twin (f : Field) (n i j : Nat) : (s.addFld f n i j).twin = s.twin := rfl
@[simp] theorem State.addFld_ports (f : Field) (n i j : Nat) : (s.addFld f n i j).ports = s.ports := rfl
@[simp] theorem State.addFld_rdma (f : Field) (n i j : Nat) : (s.addFld f n i j).rdma = s.rdma := rfl
@[simp] theorem State.addFld_mgmt (f : Field) (n i j : Nat) : (s.addFld f n i j).mgmt = s.mgmt := rfl
@[simp] theorem State.addFld_buffered (f : Field) (n i j : Nat) : (s.addFld f n i j).buffered = s.buffered := rfl
@[simp] theorem State.addFld_sec (f : Field) (n i j : Nat) : (s.addFld f n i j).sec = s.sec := rfl
@[simp] theorem State.addFld_stk (f : Field) (n i j : Nat) : (s.addFld f n i j).stk = s.stk := rfl
@[simp] theorem State.addFld_cc (f : Field) (n i j : Nat) : (s.addFld f n i j).cc = s.cc := rfl
@[simp] theorem State.addFld_arb (f : Field) (n i j : Nat) : (s.addFld f n i j).arb = s.arb := rfl
@[simp] theorem State.addFld_flash (f : Field) (n i j : Nat) : (s.addFld f n i j).flash = s.flash := rfl
@[simp] theorem State.addFld_jct (f : Field) (n i j : Nat) : (s.addFld f n i j).jct = s.jct := rfl
@[simp] theorem State.addFld_hub (f : Field) (n i j : Nat) : (s.addFld f n i j).hub = s.hub := rfl
@[simp] theorem State.addFld_tests (f : Field) (n i j : Nat) : (s.addFld f n i j).tests = s.tests := rfl
@[simp] theorem State.addFld_regu (f : Field) (n i j : Nat) : (s.addFld f n i j).regu = s.regu := rfl

/-! ## bump writes regs only -/

@[simp] theorem State.bump_pending (f : Field) (i j : Nat) : (s.bump f i j).pending = s.pending := rfl
@[simp] theorem State.bump_timeNs (f : Field) (i j : Nat) : (s.bump f i j).timeNs = s.timeNs := rfl
@[simp] theorem State.bump_freeCtr (f : Field) (i j : Nat) : (s.bump f i j).freeCtr = s.freeCtr := rfl
@[simp] theorem State.bump_outs (f : Field) (i j : Nat) : (s.bump f i j).outs = s.outs := rfl
@[simp] theorem State.bump_evt (f : Field) (i j : Nat) : (s.bump f i j).evt = s.evt := rfl
@[simp] theorem State.bump_portQueue (f : Field) (i j : Nat) : (s.bump f i j).portQueue = s.portQueue := rfl
@[simp] theorem State.bump_mc (f : Field) (i j : Nat) : (s.bump f i j).mc = s.mc := rfl
@[simp] theorem State.bump_pw (f : Field) (i j : Nat) : (s.bump f i j).pw = s.pw := rfl
@[simp] theorem State.bump_clk (f : Field) (i j : Nat) : (s.bump f i j).clk = s.clk := rfl
@[simp] theorem State.bump_rgn (f : Field) (i j : Nat) : (s.bump f i j).rgn = s.rgn := rfl
@[simp] theorem State.bump_per (f : Field) (i j : Nat) : (s.bump f i j).per = s.per := rfl
@[simp] theorem State.bump_tier (f : Field) (i j : Nat) : (s.bump f i j).tier = s.tier := rfl
@[simp] theorem State.bump_rings (f : Field) (i j : Nat) : (s.bump f i j).rings = s.rings := rfl
@[simp] theorem State.bump_nand (f : Field) (i j : Nat) : (s.bump f i j).nand = s.nand := rfl
@[simp] theorem State.bump_chans (f : Field) (i j : Nat) : (s.bump f i j).chans = s.chans := rfl
@[simp] theorem State.bump_twin (f : Field) (i j : Nat) : (s.bump f i j).twin = s.twin := rfl
@[simp] theorem State.bump_ports (f : Field) (i j : Nat) : (s.bump f i j).ports = s.ports := rfl
@[simp] theorem State.bump_rdma (f : Field) (i j : Nat) : (s.bump f i j).rdma = s.rdma := rfl
@[simp] theorem State.bump_mgmt (f : Field) (i j : Nat) : (s.bump f i j).mgmt = s.mgmt := rfl
@[simp] theorem State.bump_buffered (f : Field) (i j : Nat) : (s.bump f i j).buffered = s.buffered := rfl
@[simp] theorem State.bump_sec (f : Field) (i j : Nat) : (s.bump f i j).sec = s.sec := rfl
@[simp] theorem State.bump_stk (f : Field) (i j : Nat) : (s.bump f i j).stk = s.stk := rfl
@[simp] theorem State.bump_cc (f : Field) (i j : Nat) : (s.bump f i j).cc = s.cc := rfl
@[simp] theorem State.bump_arb (f : Field) (i j : Nat) : (s.bump f i j).arb = s.arb := rfl
@[simp] theorem State.bump_flash (f : Field) (i j : Nat) : (s.bump f i j).flash = s.flash := rfl
@[simp] theorem State.bump_jct (f : Field) (i j : Nat) : (s.bump f i j).jct = s.jct := rfl
@[simp] theorem State.bump_hub (f : Field) (i j : Nat) : (s.bump f i j).hub = s.hub := rfl
@[simp] theorem State.bump_tests (f : Field) (i j : Nat) : (s.bump f i j).tests = s.tests := rfl
@[simp] theorem State.bump_regu (f : Field) (i j : Nat) : (s.bump f i j).regu = s.regu := rfl

/-! ## setRing writes rings only -/

@[simp] theorem State.setRing_pending (r : Nat) (x : Ring) : (s.setRing r x).pending = s.pending := rfl
@[simp] theorem State.setRing_timeNs (r : Nat) (x : Ring) : (s.setRing r x).timeNs = s.timeNs := rfl
@[simp] theorem State.setRing_freeCtr (r : Nat) (x : Ring) : (s.setRing r x).freeCtr = s.freeCtr := rfl
@[simp] theorem State.setRing_outs (r : Nat) (x : Ring) : (s.setRing r x).outs = s.outs := rfl
@[simp] theorem State.setRing_regs (r : Nat) (x : Ring) : (s.setRing r x).regs = s.regs := rfl
@[simp] theorem State.setRing_evt (r : Nat) (x : Ring) : (s.setRing r x).evt = s.evt := rfl
@[simp] theorem State.setRing_portQueue (r : Nat) (x : Ring) : (s.setRing r x).portQueue = s.portQueue := rfl
@[simp] theorem State.setRing_mc (r : Nat) (x : Ring) : (s.setRing r x).mc = s.mc := rfl
@[simp] theorem State.setRing_pw (r : Nat) (x : Ring) : (s.setRing r x).pw = s.pw := rfl
@[simp] theorem State.setRing_clk (r : Nat) (x : Ring) : (s.setRing r x).clk = s.clk := rfl
@[simp] theorem State.setRing_rgn (r : Nat) (x : Ring) : (s.setRing r x).rgn = s.rgn := rfl
@[simp] theorem State.setRing_per (r : Nat) (x : Ring) : (s.setRing r x).per = s.per := rfl
@[simp] theorem State.setRing_tier (r : Nat) (x : Ring) : (s.setRing r x).tier = s.tier := rfl
@[simp] theorem State.setRing_nand (r : Nat) (x : Ring) : (s.setRing r x).nand = s.nand := rfl
@[simp] theorem State.setRing_chans (r : Nat) (x : Ring) : (s.setRing r x).chans = s.chans := rfl
@[simp] theorem State.setRing_twin (r : Nat) (x : Ring) : (s.setRing r x).twin = s.twin := rfl
@[simp] theorem State.setRing_ports (r : Nat) (x : Ring) : (s.setRing r x).ports = s.ports := rfl
@[simp] theorem State.setRing_rdma (r : Nat) (x : Ring) : (s.setRing r x).rdma = s.rdma := rfl
@[simp] theorem State.setRing_mgmt (r : Nat) (x : Ring) : (s.setRing r x).mgmt = s.mgmt := rfl
@[simp] theorem State.setRing_buffered (r : Nat) (x : Ring) : (s.setRing r x).buffered = s.buffered := rfl
@[simp] theorem State.setRing_sec (r : Nat) (x : Ring) : (s.setRing r x).sec = s.sec := rfl
@[simp] theorem State.setRing_stk (r : Nat) (x : Ring) : (s.setRing r x).stk = s.stk := rfl
@[simp] theorem State.setRing_cc (r : Nat) (x : Ring) : (s.setRing r x).cc = s.cc := rfl
@[simp] theorem State.setRing_arb (r : Nat) (x : Ring) : (s.setRing r x).arb = s.arb := rfl
@[simp] theorem State.setRing_flash (r : Nat) (x : Ring) : (s.setRing r x).flash = s.flash := rfl
@[simp] theorem State.setRing_jct (r : Nat) (x : Ring) : (s.setRing r x).jct = s.jct := rfl
@[simp] theorem State.setRing_hub (r : Nat) (x : Ring) : (s.setRing r x).hub = s.hub := rfl
@[simp] theorem State.setRing_tests (r : Nat) (x : Ring) : (s.setRing r x).tests = s.tests := rfl
@[simp] theorem State.setRing_regu (r : Nat) (x : Ring) : (s.setRing r x).regu = s.regu := rfl

/-! ## setPage writes tier only -/

@[simp] theorem State.setPage_pending (k : Nat) (p : Page) : (s.setPage k p).pending = s.pending := rfl
@[simp] theorem State.setPage_timeNs (k : Nat) (p : Page) : (s.setPage k p).timeNs = s.timeNs := rfl
@[simp] theorem State.setPage_freeCtr (k : Nat) (p : Page) : (s.setPage k p).freeCtr = s.freeCtr := rfl
@[simp] theorem State.setPage_outs (k : Nat) (p : Page) : (s.setPage k p).outs = s.outs := rfl
@[simp] theorem State.setPage_regs (k : Nat) (p : Page) : (s.setPage k p).regs = s.regs := rfl
@[simp] theorem State.setPage_evt (k : Nat) (p : Page) : (s.setPage k p).evt = s.evt := rfl
@[simp] theorem State.setPage_portQueue (k : Nat) (p : Page) : (s.setPage k p).portQueue = s.portQueue := rfl
@[simp] theorem State.setPage_mc (k : Nat) (p : Page) : (s.setPage k p).mc = s.mc := rfl
@[simp] theorem State.setPage_pw (k : Nat) (p : Page) : (s.setPage k p).pw = s.pw := rfl
@[simp] theorem State.setPage_clk (k : Nat) (p : Page) : (s.setPage k p).clk = s.clk := rfl
@[simp] theorem State.setPage_rgn (k : Nat) (p : Page) : (s.setPage k p).rgn = s.rgn := rfl
@[simp] theorem State.setPage_per (k : Nat) (p : Page) : (s.setPage k p).per = s.per := rfl
@[simp] theorem State.setPage_rings (k : Nat) (p : Page) : (s.setPage k p).rings = s.rings := rfl
@[simp] theorem State.setPage_nand (k : Nat) (p : Page) : (s.setPage k p).nand = s.nand := rfl
@[simp] theorem State.setPage_chans (k : Nat) (p : Page) : (s.setPage k p).chans = s.chans := rfl
@[simp] theorem State.setPage_twin (k : Nat) (p : Page) : (s.setPage k p).twin = s.twin := rfl
@[simp] theorem State.setPage_ports (k : Nat) (p : Page) : (s.setPage k p).ports = s.ports := rfl
@[simp] theorem State.setPage_rdma (k : Nat) (p : Page) : (s.setPage k p).rdma = s.rdma := rfl
@[simp] theorem State.setPage_mgmt (k : Nat) (p : Page) : (s.setPage k p).mgmt = s.mgmt := rfl
@[simp] theorem State.setPage_buffered (k : Nat) (p : Page) : (s.setPage k p).buffered = s.buffered := rfl
@[simp] theorem State.setPage_sec (k : Nat) (p : Page) : (s.setPage k p).sec = s.sec := rfl
@[simp] theorem State.setPage_stk (k : Nat) (p : Page) : (s.setPage k p).stk = s.stk := rfl
@[simp] theorem State.setPage_cc (k : Nat) (p : Page) : (s.setPage k p).cc = s.cc := rfl
@[simp] theorem State.setPage_arb (k : Nat) (p : Page) : (s.setPage k p).arb = s.arb := rfl
@[simp] theorem State.setPage_flash (k : Nat) (p : Page) : (s.setPage k p).flash = s.flash := rfl
@[simp] theorem State.setPage_jct (k : Nat) (p : Page) : (s.setPage k p).jct = s.jct := rfl
@[simp] theorem State.setPage_hub (k : Nat) (p : Page) : (s.setPage k p).hub = s.hub := rfl
@[simp] theorem State.setPage_tests (k : Nat) (p : Page) : (s.setPage k p).tests = s.tests := rfl
@[simp] theorem State.setPage_regu (k : Nat) (p : Page) : (s.setPage k p).regu = s.regu := rfl

/-! ## setHome writes nand only -/

@[simp] theorem State.setHome_pending (l : Nat) (x : Line) : (s.setHome l x).pending = s.pending := rfl
@[simp] theorem State.setHome_timeNs (l : Nat) (x : Line) : (s.setHome l x).timeNs = s.timeNs := rfl
@[simp] theorem State.setHome_freeCtr (l : Nat) (x : Line) : (s.setHome l x).freeCtr = s.freeCtr := rfl
@[simp] theorem State.setHome_outs (l : Nat) (x : Line) : (s.setHome l x).outs = s.outs := rfl
@[simp] theorem State.setHome_regs (l : Nat) (x : Line) : (s.setHome l x).regs = s.regs := rfl
@[simp] theorem State.setHome_evt (l : Nat) (x : Line) : (s.setHome l x).evt = s.evt := rfl
@[simp] theorem State.setHome_portQueue (l : Nat) (x : Line) : (s.setHome l x).portQueue = s.portQueue := rfl
@[simp] theorem State.setHome_mc (l : Nat) (x : Line) : (s.setHome l x).mc = s.mc := rfl
@[simp] theorem State.setHome_pw (l : Nat) (x : Line) : (s.setHome l x).pw = s.pw := rfl
@[simp] theorem State.setHome_clk (l : Nat) (x : Line) : (s.setHome l x).clk = s.clk := rfl
@[simp] theorem State.setHome_rgn (l : Nat) (x : Line) : (s.setHome l x).rgn = s.rgn := rfl
@[simp] theorem State.setHome_per (l : Nat) (x : Line) : (s.setHome l x).per = s.per := rfl
@[simp] theorem State.setHome_tier (l : Nat) (x : Line) : (s.setHome l x).tier = s.tier := rfl
@[simp] theorem State.setHome_rings (l : Nat) (x : Line) : (s.setHome l x).rings = s.rings := rfl
@[simp] theorem State.setHome_chans (l : Nat) (x : Line) : (s.setHome l x).chans = s.chans := rfl
@[simp] theorem State.setHome_twin (l : Nat) (x : Line) : (s.setHome l x).twin = s.twin := rfl
@[simp] theorem State.setHome_ports (l : Nat) (x : Line) : (s.setHome l x).ports = s.ports := rfl
@[simp] theorem State.setHome_rdma (l : Nat) (x : Line) : (s.setHome l x).rdma = s.rdma := rfl
@[simp] theorem State.setHome_mgmt (l : Nat) (x : Line) : (s.setHome l x).mgmt = s.mgmt := rfl
@[simp] theorem State.setHome_buffered (l : Nat) (x : Line) : (s.setHome l x).buffered = s.buffered := rfl
@[simp] theorem State.setHome_sec (l : Nat) (x : Line) : (s.setHome l x).sec = s.sec := rfl
@[simp] theorem State.setHome_stk (l : Nat) (x : Line) : (s.setHome l x).stk = s.stk := rfl
@[simp] theorem State.setHome_cc (l : Nat) (x : Line) : (s.setHome l x).cc = s.cc := rfl
@[simp] theorem State.setHome_arb (l : Nat) (x : Line) : (s.setHome l x).arb = s.arb := rfl
@[simp] theorem State.setHome_flash (l : Nat) (x : Line) : (s.setHome l x).flash = s.flash := rfl
@[simp] theorem State.setHome_jct (l : Nat) (x : Line) : (s.setHome l x).jct = s.jct := rfl
@[simp] theorem State.setHome_hub (l : Nat) (x : Line) : (s.setHome l x).hub = s.hub := rfl
@[simp] theorem State.setHome_tests (l : Nat) (x : Line) : (s.setHome l x).tests = s.tests := rfl
@[simp] theorem State.setHome_regu (l : Nat) (x : Line) : (s.setHome l x).regu = s.regu := rfl

/-! ## setKeySlot writes sec only -/

@[simp] theorem State.setKeySlot_pending (k : Nat) (x : KeySlot) : (s.setKeySlot k x).pending = s.pending := rfl
@[simp] theorem State.setKeySlot_timeNs (k : Nat) (x : KeySlot) : (s.setKeySlot k x).timeNs = s.timeNs := rfl
@[simp] theorem State.setKeySlot_freeCtr (k : Nat) (x : KeySlot) : (s.setKeySlot k x).freeCtr = s.freeCtr := rfl
@[simp] theorem State.setKeySlot_outs (k : Nat) (x : KeySlot) : (s.setKeySlot k x).outs = s.outs := rfl
@[simp] theorem State.setKeySlot_regs (k : Nat) (x : KeySlot) : (s.setKeySlot k x).regs = s.regs := rfl
@[simp] theorem State.setKeySlot_evt (k : Nat) (x : KeySlot) : (s.setKeySlot k x).evt = s.evt := rfl
@[simp] theorem State.setKeySlot_portQueue (k : Nat) (x : KeySlot) : (s.setKeySlot k x).portQueue = s.portQueue := rfl
@[simp] theorem State.setKeySlot_mc (k : Nat) (x : KeySlot) : (s.setKeySlot k x).mc = s.mc := rfl
@[simp] theorem State.setKeySlot_pw (k : Nat) (x : KeySlot) : (s.setKeySlot k x).pw = s.pw := rfl
@[simp] theorem State.setKeySlot_clk (k : Nat) (x : KeySlot) : (s.setKeySlot k x).clk = s.clk := rfl
@[simp] theorem State.setKeySlot_rgn (k : Nat) (x : KeySlot) : (s.setKeySlot k x).rgn = s.rgn := rfl
@[simp] theorem State.setKeySlot_per (k : Nat) (x : KeySlot) : (s.setKeySlot k x).per = s.per := rfl
@[simp] theorem State.setKeySlot_tier (k : Nat) (x : KeySlot) : (s.setKeySlot k x).tier = s.tier := rfl
@[simp] theorem State.setKeySlot_rings (k : Nat) (x : KeySlot) : (s.setKeySlot k x).rings = s.rings := rfl
@[simp] theorem State.setKeySlot_nand (k : Nat) (x : KeySlot) : (s.setKeySlot k x).nand = s.nand := rfl
@[simp] theorem State.setKeySlot_chans (k : Nat) (x : KeySlot) : (s.setKeySlot k x).chans = s.chans := rfl
@[simp] theorem State.setKeySlot_twin (k : Nat) (x : KeySlot) : (s.setKeySlot k x).twin = s.twin := rfl
@[simp] theorem State.setKeySlot_ports (k : Nat) (x : KeySlot) : (s.setKeySlot k x).ports = s.ports := rfl
@[simp] theorem State.setKeySlot_rdma (k : Nat) (x : KeySlot) : (s.setKeySlot k x).rdma = s.rdma := rfl
@[simp] theorem State.setKeySlot_mgmt (k : Nat) (x : KeySlot) : (s.setKeySlot k x).mgmt = s.mgmt := rfl
@[simp] theorem State.setKeySlot_buffered (k : Nat) (x : KeySlot) : (s.setKeySlot k x).buffered = s.buffered := rfl
@[simp] theorem State.setKeySlot_stk (k : Nat) (x : KeySlot) : (s.setKeySlot k x).stk = s.stk := rfl
@[simp] theorem State.setKeySlot_cc (k : Nat) (x : KeySlot) : (s.setKeySlot k x).cc = s.cc := rfl
@[simp] theorem State.setKeySlot_arb (k : Nat) (x : KeySlot) : (s.setKeySlot k x).arb = s.arb := rfl
@[simp] theorem State.setKeySlot_flash (k : Nat) (x : KeySlot) : (s.setKeySlot k x).flash = s.flash := rfl
@[simp] theorem State.setKeySlot_jct (k : Nat) (x : KeySlot) : (s.setKeySlot k x).jct = s.jct := rfl
@[simp] theorem State.setKeySlot_hub (k : Nat) (x : KeySlot) : (s.setKeySlot k x).hub = s.hub := rfl
@[simp] theorem State.setKeySlot_tests (k : Nat) (x : KeySlot) : (s.setKeySlot k x).tests = s.tests := rfl
@[simp] theorem State.setKeySlot_regu (k : Nat) (x : KeySlot) : (s.setKeySlot k x).regu = s.regu := rfl

/-! ## A free value only advances the counter -/

@[simp] theorem State.fresh_pending : s.fresh.2.pending = s.pending := rfl
@[simp] theorem State.fresh_timeNs : s.fresh.2.timeNs = s.timeNs := rfl
@[simp] theorem State.fresh_outs : s.fresh.2.outs = s.outs := rfl
@[simp] theorem State.fresh_regs : s.fresh.2.regs = s.regs := rfl
@[simp] theorem State.fresh_evt : s.fresh.2.evt = s.evt := rfl
@[simp] theorem State.fresh_portQueue : s.fresh.2.portQueue = s.portQueue := rfl
@[simp] theorem State.fresh_mc : s.fresh.2.mc = s.mc := rfl
@[simp] theorem State.fresh_pw : s.fresh.2.pw = s.pw := rfl
@[simp] theorem State.fresh_clk : s.fresh.2.clk = s.clk := rfl
@[simp] theorem State.fresh_rgn : s.fresh.2.rgn = s.rgn := rfl
@[simp] theorem State.fresh_per : s.fresh.2.per = s.per := rfl
@[simp] theorem State.fresh_tier : s.fresh.2.tier = s.tier := rfl
@[simp] theorem State.fresh_rings : s.fresh.2.rings = s.rings := rfl
@[simp] theorem State.fresh_nand : s.fresh.2.nand = s.nand := rfl
@[simp] theorem State.fresh_chans : s.fresh.2.chans = s.chans := rfl
@[simp] theorem State.fresh_twin : s.fresh.2.twin = s.twin := rfl
@[simp] theorem State.fresh_ports : s.fresh.2.ports = s.ports := rfl
@[simp] theorem State.fresh_rdma : s.fresh.2.rdma = s.rdma := rfl
@[simp] theorem State.fresh_mgmt : s.fresh.2.mgmt = s.mgmt := rfl
@[simp] theorem State.fresh_buffered : s.fresh.2.buffered = s.buffered := rfl
@[simp] theorem State.fresh_sec : s.fresh.2.sec = s.sec := rfl
@[simp] theorem State.fresh_stk : s.fresh.2.stk = s.stk := rfl
@[simp] theorem State.fresh_cc : s.fresh.2.cc = s.cc := rfl
@[simp] theorem State.fresh_arb : s.fresh.2.arb = s.arb := rfl
@[simp] theorem State.fresh_flash : s.fresh.2.flash = s.flash := rfl
@[simp] theorem State.fresh_jct : s.fresh.2.jct = s.jct := rfl
@[simp] theorem State.fresh_hub : s.fresh.2.hub = s.hub := rfl
@[simp] theorem State.fresh_tests : s.fresh.2.tests = s.tests := rfl
@[simp] theorem State.fresh_regu : s.fresh.2.regu = s.regu := rfl

/-! ## What an update writes -/

@[simp] theorem State.fresh_freeCtr : s.fresh.2.freeCtr = s.freeCtr + 1 := rfl
@[simp] theorem State.emit_outs (o : Out) : (s.emit o).outs = s.outs ++ [o] := rfl
@[simp] theorem State.setPage_dram (k : Nat) (p : Page) : (s.setPage k p).tier.dram = s.tier.dram := rfl

end Sys2Proof.Machine
end

