-- ==== Sys2Proof/Tests/Slice0.lean ====
section
/-!
SUPPORT. The model's own tests: well-formedness, the worked examples of the spec, and for each statement with conditions states and
operands that meet them.
-/
namespace Sys2Proof.Tests

open Machine Safety Laws

set_option Elab.async false

/-- The controller out of reset, in a mode. -/
def at_ (m : Mode) : State := { State.reset with mc := { ModeCtl.reset with mode := m } }

/-- In SERVICE. -/
def svc : State := at_ .service

/-- Ring 0 enabled. -/
def ring0 (s : State) : State := s.setFld RING_CTL_ENABLE 1 0

/-- In SERVICE with ring 0 enabled. -/
def run : State := ring0 svc

/-- A descriptor of ring 0. -/
def dsc (op : BitVec 8) (ws : List Word) : Desc := ⟨0, op, false, false, 7, ws⟩

/-- A command source of ring 0. -/
def src0 : CmdSrc := .ring 0 7 0x02 false

/-- A running long operation with handle 0. -/
def opRun (k : OpKind) : LongOp := ⟨0, 0, .running, k, src0, 0, none, 0, [], [], none⟩

/-- A state with one long operation. -/
def withOp (o : LongOp) (s : State) : State := { s with rings := { s.rings with ops := [o] } }

/-- A persistent region of 4 MiB at DPA 0, mirrored not at all. -/
def rgn0 : Region := { Region.empty with valid := true, persist := true, size := 2 }

/-- A state with one region, number 0, and key slot 0 loaded. -/
def withRgn (r : Region) (s : State) : State :=
  { s with rgn := { s.rgn with table := [(0, r)] }, sec := { s.sec with slots := [(0, { KeySlot.empty with st := .loaded })] } }

/-- A state with pool 0 valid over 8 GiB of each channel of control wafer 0. -/
def pool0 (s : State) : State :=
  { ((s.setFld RGN_POOL_CFG_VALID 1 0).setFld RGN_POOL_BAND_SIZE_GIB 8 0) with rgn := { s.rgn with limitGib := 16 } }

/-- A queue pair in RTS. -/
def qpRts (requester : Bool) : Qp := { Qp.reset with st := .rts, ctx := [if requester then 0x07000044#32 else 0x07000040#32, 0x0E000000#32, 0, 0, 0, 0, 0, 0] }

/-- A fill that its last step ends. -/
def opFill : LongOp := { opRun (.fill 0 64 0) with done := 64, param := 64 }

/-- A fence that waits for nothing any more. -/
def fence (k : FenceKind) : Fence := ⟨0, k, none, [], [], [], src0⟩

/-- A state with one fence. -/
def withFence (k : FenceKind) (s : State) : State := { s with per := { s.per with fences := [fence k] } }

/-- A state whose CXL link 0 of port 0 runs CXL 3.x. -/
def link0 (s : State) : State := s.setLink 0 0 ⟨true, 8, 6, 3, true, false, 0, [], false, .l0, 0xFFFF⟩

/-- A state in a guard state. -/
def guarded (g : Guard) (s : State) : State := { s with per := { s.per with guard := g } }

/-- A state with the twin link up. -/
def twinOn (s : State) : State := { s with twin := { s.twin with link := .up } }

/-- A region operation at a stage. -/
def rgnOp (st : RgnOpStage) : RgnOp := ⟨.modify, 0, 0, 2, ⟨[(0, rgn0)], [], []⟩, st, src0, 0, rgn0⟩

/-- A state whose old epoch drains, with commits that wait for it. -/
def draining (cs : List Commit) (s : State) : State := { s with rgn := { s.rgn with draining := true, waiting := cs } }

/-- A state whose control wafer 0 has four serving channels of 64 GiB. -/
def chans0 (s : State) : State := (List.range 4).foldl (fun s n => s.setCh n { s.ch n with st := .active, capGib := 64 }) s

/-- A power-supply state. -/
def pw (m : Mode) (p : Power) : State := { at_ m with pw := p }

/-- Straps at a boot. -/
def str0 : Straps := ⟨0, true, true⟩

/-- A save at a step, its image being written to area A. -/
def saveAt_ (st : SaveStep) : State :=
  { at_ .save with per := { Persist.reset with saveStep := st, imageA := { Image.empty with st := .writing } } }

/-- A state with channel 0 changed. -/
def ch0 (s : State) (f : Channel → Channel) : State := s.setCh 0 (f (s.ch 0))

/-- A state whose channel 0 is in a channel state. -/
def chIs (st : ChState) (s : State) : State := ch0 s fun c => { c with st := st }

/-- A state whose CXL link 0 of port 0 is up in L1.1. -/
def linkL1 (s : State) : State := s.setLink 0 0 { CxlLink.down with up := true, pm := .l11 }

/-- A DDR5 RDIMM of one rank and 32 GiB. -/
def spd : DimmSpd := ⟨true, 1, true, true, true, 1, 1, 1, 32, [3], 3, 2, 11, 16, 7, []⟩

/-- A share of pool 0 that a rebuild moves to channel 4. -/
def share0 : Share := ⟨0, 0, some (4, 0), 0, [], 2, false⟩

/-- A state with the control complex changed. -/
def ccIs (c : Cc) : State := { svc with cc := c }

/-- A state with the code flash changed. -/
def flashIs (f : Flash) : State := { svc with flash := f }

/-- A program and an erase of bank 0 in progress. -/
def fop (erase : Bool) (susp : Option Nat) : FlashOp := ⟨0, erase, 0x440000, [0], 1, susp, 0, false⟩

/-- A log record. -/
def rec0 (seq : BitVec 32) (sev : Sev) (acked : Bool) : LogRec := ⟨0, seq, 0, 0x8010, sev, 0x6B, acked, false, false, false, false, 0, 0, 0, 0⟩

/-- A state with a firmware session. -/
def sess (x : Session) : State := flashIs { Flash.reset with sess := x }

/-- Eight words as one flash word. -/
def word8 (ws : List Nat) : FlashWord := ⟨false, BitVec.ofNat 256 ((ws.zipIdx.map fun e => e.1 * 2 ^ (32 * e.2)).sum)⟩

/-- The components of a firmware bundle, by type and instance (R408). -/
def parts : List (Nat × Nat) :=
  (1, 0) :: ((List.range 16).map fun i => (2, i)) ++ ((List.range 32).map fun i => (3, i)) ++ [(4, 0), (5, 0)]

/-- A firmware bundle in slot 1 with 51 components of 32 bytes, for mask revision 0 and every ROM revision, with security version 0. -/
def bundle1 : List (Nat × FlashWord) :=
  (0x80000, word8 [0x4D414E46, 1 + 51 * 2 ^ 16, 0x8000, 7, 0, 2, 0, 0]) :: (0x80001, word8 [0x6000]) ::
    parts.zipIdx.map fun e => (0x80002 + 2 * e.2, word8 [e.1.1 + e.1.2 * 2 ^ 8, 0, 0x1000 + 32 * e.2, 32])

/-- A verified session of a group with member 1. -/
def sessOk : Session := { Session.idle with st := .verified, members := [1] }

/-- A factory trim set in the flash, whose other words read as erased. -/
def trims (k : Nat) : Nat × FlashWord :=
  ((4 + k) * 0x200 + 10, word8 [(crc32c (List.replicate 288 255)).toNat])

/-- A pack identity that passes its check: 9 kJ rated, tested on day 1. -/
def packId : PackId := ⟨7, 50, 1, 900, 3, 400000, 50, 1, true⟩

/-- A state whose pack 0 is in a state. -/
def packIs (x : Pack) (s : State) : State := s.setPack 0 x

/-- A die of a module the controller takes: ONFI 5.1, TLC of 1 Tbit, 4 planes. -/
def die0 : DieParam := ⟨true, 51, 3, 2400, 1, 1024, 16384, 2208, 4, 1024, 1000, true, 128, 3000⟩

/-- A state whose NAND channel 0 serves. -/
def nf0 (x : NandCh) (s : State) : State := { s with nand := { s.nand with chans := [(0, x)] } }

/-- A state whose NAND channel 0 has one working die. -/
def oneDie : State := nf0 { NandCh.absent with dies := 8, st := .serving, failed := [4, 8, 12, 16, 20, 24, 28] } svc

/-- A state with some blocks. -/
def withBlocks (bs : List (Nat × NandBlock)) (s : State) : State := { s with nand := { s.nand with blocks := bs } }

/-- A state with one erase, of block 3 of die 0 of channel 0. -/
def withErase (e : NandErase) (s : State) : State := { s with nand := { s.nand with erases := [e] } }

/-- A plan that is loaded in slot 0, with one stream of two layers. -/
def plan0 : Plan := ⟨0, ⟨128, 0, 100, 1, 0, [⟨2, false, 0, 0, 1, 0⟩], [⟨0, 1, 1⟩], [⟨1, 0, 0, 0x400000, 0, 0, 0, 0⟩]⟩, 0, false, none, none⟩

/-- Its stream, with the entry in flight. -/
def str1 : Stream := ⟨0, 0, 0, .staging, 0, 0, 0, 0, 0, [], [(0, 0)], [], none, 0⟩

/-- A state with a plan and its stream. -/
def withPlan (p : Plan) (x : List Stream) (s : State) : State := { s with tier := { s.tier with plans := [p], streams := x } }

/-- Sixteen words as a line of memory. -/
def line16 (ws : List Nat) : Line := ⟨BitVec.ofNat 512 ((ws.zipIdx.map fun e => e.1 * 2 ^ (32 * e.2)).sum), 0, false⟩

/-- A plan image of 128 bytes in a resident region at DPA 0x600000, beside a scratch window and a streamed source. -/
def planMem : State :=
  { run with
    rgn := { run.rgn with table := [(0, { Region.empty with valid := true, cls := .scratch, size := 2 }),
      (1, { Region.empty with valid := true, cls := .streamed, base := 2, size := 1 }),
      (2, { Region.empty with valid := true, base := 3, size := 1 })] }
    nand := { run.nand with home := [
      (0x18000, line16 [0x52504C4E, 1, 128, 0, 100, 1, 0, 1, 1, 80, 96, 0, 0, 0, 0, 0x1216c377]),
      (0x18001, line16 [2, 0, 1, 0, 0, 1 + 2 ^ 16, 0, 0, 1, 0x400000, 0, 1])] } }

/-- A cached region 0. -/
def cached0 : Region := { rgn0 with cls := .cached }

/-- A register write's surroundings. -/
def env0 : RegEnv := ⟨str0, none, none, true, [], [], 0⟩

/-- A wrapped key for slot 5 that opens. -/
def key5 : WrappedKey := ⟨0x4B455931, 1, 1, 0, 0, 5, some (true, 1, 2)⟩

/-- A state with the security changed. -/
def secIs (x : Security) (s : State) : State := { s with sec := x }

/-- A rotation of region 0 that has passed its last step. -/
def rot0 : Rotation := ⟨0, 0, 1, 2, [], 0, 0, true⟩

/-- A seated member of a stack of two, at a position, with a master. -/
def stack2 (pos : BitVec 2) (master : Nat) (live : BitVec 4) : State :=
  { run.setFld GLB_STACK_CFG_SIZE_M1 1 with
    pw := { run.pw with strapStackId := pos }
    stk := { run.stk with seated := true, master := master, live := live } }

/-- A range of member 1. -/
def range1 (key : Nat) : StackRegion := ⟨1, 0, 2, .resident, true, .none, key⟩

/-- In SERVICE with CXL link 0 of port 0 up, 256 MiB decoded to DPA 0, and region 0 bound to LD 0 of the port. -/
def mem0 : State :=
  let s := link0 (withRgn { rgn0 with ownerSet := 1 } svc)
  { s with rgn := { s.rgn with sets := [(1, 1)], hdm := [(0, ⟨0, 0x10000000, 1, 8, 0, true, false, false⟩)] } }

/-- A write that waits in control wafer 0. -/
def adm0 : AdmWrite := ⟨0, 0, 5, 1, false, .host 0 0 7, 0, 0, 0⟩

/-- A read of line 0. -/
def read0 : PendingRead := ⟨.host 0 0 7, 0, 0, false, false, 0⟩

/-- A state whose NAND channel 0 has one working die with open blocks 3 and 4. -/
def home0 (s : State) : State :=
  { s with nand := { s.nand with chans := oneDie.nand.chans,
                                 blocks := [(3, { NandBlock.fresh with state := .opened }), (4, { NandBlock.fresh with state := .opened })] } }

/-- Region 0 with page 0 dirty. -/
def dirty0 : State := (home0 (withRgn rgn0 svc)).setPage 0 { Page.empty with st := .dirty }

/-- The place the next program of that die takes. -/
def loc0 : HomeLoc := ⟨0, 0, 3, 0⟩

/-- A program and a fill of page 0. -/
def wb0 : WriteBack := ⟨0, [], false, loc0⟩
def fill0 (step : Nat) : Fill := ⟨0, none, 0, step, [], false, false, []⟩
def wt0 (on : Bool) : WriteThrough := ⟨0, [], [], on, [], 0, false, if on then some loc0 else none, false⟩

/-- States with one of them. -/
def withWb (s : State) : State := { s with tier := { s.tier with wbs := [wb0] } }
def withFill (n : Nat) (s : State) : State := { s with tier := { s.tier with fills := [fill0 n] } }
def withWt (on : Bool) (s : State) : State := { s with per := { s.per with wts := [wt0 on] } }

/-- Queue pair 0 in RTS with port 0 enabled, and memory key 0 that grants everything on region 0. -/
def rdma0 (x : Qp) : State :=
  let s := (withRgn { rgn0 with persist := false } svc).setFld RDMA_CTL_PORT_EN 1
  { s with rdma := { s.rdma with qps := [(0, x)], keys := [(0, [0x1F#32, 0, 0, 0, 0, 0, 1024, 0])] } }

/-- A packet for queue pair 0. -/
def hdr0 : RdmaHdr := ⟨0x400, 0, false⟩

/-- An item of a queue pair that has left its queue and waits for its answer. -/
def item0 (k : ItemKind) : QpItem := ⟨k, 0, 0, 64, 0, 0, false, 1, 5, none, true, 0, 1, src0⟩

/-- A queue pair ready for RTS: a partner and an address. -/
def qpGood : Qp := { Qp.reset with ctx := [0x07000044#32, 0x0E000001#32, 0, 0, 1, 0, 0, 0] }

/-- A state whose twin link is in a state, with a session and path 0 valid. -/
def twinIs (l : TwinState) (s : State) : State :=
  let s := s.setFld BTT_PATH_CFG_VALID 1 0
  { s with twin := { s.twin with link := l, session := true } }

/-- Region 0 as the copy of region 3 of the twin. -/
def copy0 (s : State) : State := { withRgn rgn0 s with twin := { s.twin with copies := [(0, ⟨true, 3, false, 1⟩)] } }

/-- A data packet of one line, and a header of a stream. -/
def pkt (q : BitVec 64) : BttPkt := ⟨0, true, true, 0, 0, q, 0, 1, 0, false, false, none, 0, [5]⟩
def bh (st : Fin 16) (q : BitVec 64) : BttHdr := ⟨0, true, true, 0, st, q⟩

/-- A message that has been sent. -/
def omsg (st : Nat) (k : MsgKind) : OutMsg := ⟨st, 1, k, 0, 1, [], none, [], false, 0, 0, none, false, none, []⟩

/-- A state with the twin changed. -/
def withTwin (f : Twin → Twin) (s : State) : State := { s with twin := f s.twin }

/-- A read at the twin. -/
def tread : TwinRead := ⟨0, 0, .home 0⟩

/-- A copy that waits to be sent. -/
def tcopy (sync : Bool) (req : Requester) : TwinCopy := ⟨0, 0, zeroLine 0, none, sync, req, 0⟩

/-- A promotion that asks the twin. -/
def prom0 : Promote := ⟨0, 0, src0⟩

/-- In SERVICE with the management pins powered. -/
def mng : State := { svc with pw := { svc.pw with ioOk := true } }

/-- A firmware session of the BMC. -/
def bmcSess (st : SessState) : State := { mng with flash := { Flash.reset with sess := { Session.idle with st := st, source := 2 } } }

/-- In SERVICE with the mailbox of LD 0 of port 0 there. -/
def mbx : State := link0 svc

/-! ## Well-formedness: one ill-formed term for each check -/

theorem test_wf_form : Instr.wf (.regionModifySize (dsc 0x12 [0, 4, 0, 0, 0, 0, 0, 0, 0, 0, 0, 0, 0, 0])) = true ∧
    Instr.wf (.regionModifySize (dsc 0x12 [0, 8, 0, 0, 0, 0, 0, 0, 0, 0, 0, 0, 0, 0])) = false := by decide

theorem test_wf_opcode : Instr.wf (.regionCreate (dsc 0x11 (List.replicate 14 0))) = false := by decide

theorem test_wf_words : Instr.wf (.regionCreate (dsc 0x10 (List.replicate 13 0))) = false := by decide

/-- R323: an opcode that R324 does not list takes the row NOP; a listed one does not. -/
theorem test_wf_unlisted : Instr.wf (.nop (dsc 0x7F (List.replicate 14 0))) = true ∧
    Instr.wf (.nop (dsc 0x10 (List.replicate 14 0))) = false := by decide

theorem test_wf_width : Instr.wf (.counterReadClear false 0 3) = false := by decide

theorem test_wf_fetch : Instr.wf (.descriptorFetch 0 [[0, 1]] false) = false := by decide

theorem test_wf_timing : Instr.wf (.initialTrainingDone 0 none none true [0, 0]) = false := by decide

/-! ## Worked examples of the spec -/

/-- Chapter 03, worked example: HPA 0x0123_4567_89C0 behind decoder 0 of P5 (two ways, 256 B, base 0x0080_0000_0000). -/
theorem test_hdm_example :
    hdmDecode [⟨0x010000000000, 0x020000000000, 2, 8, 0x008000000000, true, false, false⟩] true 0x0123456789C0 = some 0x0091A2B3C4C0 := by
  decide +kernel

/-- Chapter 20, worked example: offset 0x3_5000 behind eight ways at 4 KiB. -/
theorem test_stack_offset : hdmOffset 0x35000 8 12 = 0x6000 := by decide +kernel

/-- R48, its form for 3, 6 and 12 ways: granules 4 and 7 behind three ways are the second and the third of their members. -/
theorem test_three_ways : hdmOffset 0x440 3 8 = 0x140 ∧ hdmOffset 0x740 3 8 = 0x240 := by decide +kernel

/-- Chapter 03, worked example: pool 2 spans sixteen channels from 64 GiB with a 1 KiB grain; FRAME_BASE 0x0040_0000. -/
theorem test_pool_example :
    poolMap (List.range 16) (64 * 2 ^ 30) 1024 (0x400000 * 4096 + 0x1A2B3C4C0) = (1, ⟨1, 0x105A2B3CC0⟩) := by decide +kernel

/-- Chapter 03, worked example: the reset CH_AMAP with the subchannel bit and the bank hash. -/
theorem test_amap_example : Amap.split ⟨2, 1, 3, 2, 7, 1, 18, true⟩ 0x105A2B3CC0 = ⟨0, 4, 3, 0x330, 1, 0x105A2⟩ := by decide +kernel

/-- Chapter 03, worked example: CH_AMAP holds those widths at reset. -/
theorem test_amap_reset : State.reset.amap 5 = ⟨2, 1, 3, 2, 7, 1, 18, true⟩ := by decide +kernel

/-- Chapter 04, worked example: 3,217.0 J at 80 %, 2,000 W, 88,400 MB/s and 517.98 GiB of image; then without pack 3. -/
theorem test_ceiling_example :
    ceilingOf 32170 80 512 2000 88400 (518 * 2 ^ 30) = 27739384 ∧ ceilingOf 24460 80 512 2000 88400 (518 * 2 ^ 30) = 21083486 := by
  decide +kernel

/-- Chapter 18, worked example: 0.650 F from 53.80 V, from 49.72 V, and from V_FULL 54.0 V, to their floors. -/
theorem test_pack_example : energyDj 650000 5380000 1360000 = 8805 ∧ energyDj 650000 4972000 1360000 = 7433 ∧
    energyDj 650000 5400000 1200000 = 9009 := by decide +kernel

/-- Chapter 24, worked example: CH_TIM3 of channel 9, NF_EC_DATA of NAND channel 17, RING_CQ_DB of ring 3, the remote address of path 2. -/
theorem test_offset_example : RegName.offset .CH_TIM3 9 0 0 = 0x0190010C ∧ RegName.offset .NF_EC_DATA 17 0 0 = 0x02110034 ∧
    RegName.offset .RING_CQ_DB 3 0 0 = 0x00303004 ∧ RegName.offset .BTT_PATH_REMOTE_IP 2 0 0 = 0x005001A0 := by decide +kernel

/-- Chapter 09, worked example: line 0x1_0048_D000 of an ASYNC region goes in stream 5, with OFFSET and range inside 2 MiB. -/
theorem test_stream_example : streamOf 1 0x10048D000 = 5 ∧ lineRange 0x10048D000 = lineRange (0x10048D000 + 767) := by decide +kernel

/-- Chapter 05, worked example: READY 0x0000_0000 is after 0xFFFF_FFFF in serial order. -/
theorem test_serial_example : serialGe 0 0xFFFFFFFF = true ∧ serialGe 0xFFFFFFFF 0 = false := by decide

/-- The COPY of 1 GiB of chapter 12's worked example after 10 ms at 40 GB/s: slot 37, GEN 5, 6,250,000 of its lines. -/
def copyExample : LongOp := ⟨37, 5, .running, .copyLocal 0 0 16777216, src0, 6250000, some 16777216, 0, [], [], none⟩

/-- Chapter 12, worked example: the handle is 0x1425, and OP_QUERY answers PARAM 0x129. -/
theorem test_query_example : copyExample.handle = 0x1425 ∧ copyExample.st.code + copyExample.pct * 8 = 0x129 := by decide +kernel

/-! ## The conditions of the statements are met -/

/-- The conditions of `RingDoorbellsAndPushes` are met. -/
theorem witness_RingDoorbellsAndPushes :
    (∃ (r : Fin 256) (v : BitVec 16) (s : State), s.mc.mode ≠ .quiescent ∧ circOk (s.sqSize r.val) (s.ringAt r.val).sqTail (s.ringAt
      r.val).head v.toNat = true) ∧
    (∃ (r : Fin 256) (v : BitVec 16) (s : State), v.toNat < s.cqSize r.val ∧ (v.toNat + s.cqSize r.val - (s.ringAt r.val).cqHead) %
      s.cqSize r.val ≤ ((s.ringAt r.val).cqTail + s.cqSize r.val - (s.ringAt r.val).cqHead) % s.cqSize r.val) ∧
    (∃ (r : Fin 256) (s : State), s.flag RING_CTL_PUSH_EN r.val = true ∧ (s.ringAt r.val).openItem = none) ∧
    (∃ (r : Fin 256) (ws : List Word) (s : State), s.flag RING_CTL_PUSH_EN r.val = true ∧ (s.ringAt r.val).openItem = some ws ∧
      ws.length < 15) ∧
    (∃ (r : Fin 256) (ws : List Word) (s : State), s.flag RING_CTL_PUSH_EN r.val = true ∧ (s.ringAt r.val).openItem = some ws ∧
      (s.ringAt r.val).pushedCnt < 4096 ∧ (s.ringAt r.val).queue.length < 64) ∧
    (∃ (r : Fin 256) (s : State), s.fld RING_COAL_COAL_CNT r.val ≠ 0 ∧ (s.ringAt r.val).sinceIrq ≠ 0) :=
  ⟨⟨0, 63, svc, by decide +kernel⟩,
   ⟨0, 63, svc.setRing 0 { Ring.empty with cqTail := 63 }, by decide +kernel⟩,
   ⟨255, svc.setFld RING_CTL_PUSH_EN 1 255, by decide +kernel⟩,
   ⟨0, List.replicate 14 1#32, (svc.setFld RING_CTL_PUSH_EN 1 0).setRing 0
     { Ring.empty with openItem := some (List.replicate 14 1#32) }, by decide +kernel⟩,
   ⟨0, List.replicate 15 1#32, (svc.setFld RING_CTL_PUSH_EN 1 0).setRing 0
     { Ring.empty with openItem := some (List.replicate 15 1#32), pushedCnt := 4095 }, by decide +kernel⟩,
   ⟨0, (svc.setFld RING_COAL_COAL_CNT 8 0).setRing 0 { Ring.empty with sinceIrq := 1 }, by decide +kernel⟩⟩

/-- The conditions of `RingLife` are met. -/
theorem witness_RingLife :
    (∃ (r : Fin 256) (s : State), s.flag RING_CTL_ENABLE r.val = false ∧ (s.regAt .RING_SQ_BASE r.val 0 0).toNat % 4096 = 0 ∧ (s.regAt
      .RING_CQ_BASE r.val 0 0).toNat % 4096 = 0 ∧ 6 ≤ s.fld RING_CFG_SQ_LOG2 r.val ∧ s.fld RING_CFG_SQ_LOG2 r.val ≤ 16 ∧ 6 ≤ s.fld
      RING_CFG_CQ_LOG2 r.val ∧ s.fld RING_CFG_CQ_LOG2 r.val ≤ 16) ∧
    (∃ (r : Fin 256) (descs : List (List Word)) (s : State), s.flag RING_CTL_ENABLE r.val = true ∧ (s.ringAt r.val).halted = false ∧
      (s.ringAt r.val).fetched + descs.length ≤ 32 ∧ descs.length + (s.ringAt r.val).fetched ≤ ((s.ringAt r.val).sqTail + s.sqSize
      r.val - (s.ringAt r.val).head) % s.sqSize r.val) ∧
    (∃ (r : Fin 256) (c : CqRec) (rest : List CqRec) (s : State), (s.ringAt r.val).recs = c :: rest ∧ (s.ringAt r.val).halted = false
      ∧ ((s.ringAt r.val).cqTail + 1) % s.cqSize r.val ≠ (s.ringAt r.val).cqHead ∧ c.irq = false ∧ s.fld RING_COAL_COAL_CNT r.val = 0) ∧
    (∃ (r : Fin 256) (s : State), (s.ringAt r.val).openItem = none ∧ (s.ringAt r.val).queue = []) :=
  ⟨⟨0, svc, by decide +kernel⟩,
   ⟨0, [List.replicate 16 1#32], run.setRing 0 { Ring.empty with sqTail := 1 }, by decide +kernel⟩,
   ⟨0, ⟨7, .ok, false, true, 1, 0, 0, false⟩, [], run.setRing 0 { Ring.empty with recs := [⟨7, .ok, false, true, 1, 0, 0, false⟩] },
     by decide +kernel⟩,
   ⟨0, run, by decide +kernel⟩⟩

/-- The conditions of `LongOperationCommands` are met. -/
theorem witness_LongOperationCommands :
    (∃ (d : Desc) (s t : State), descRuns s d 0 t) ∧
    (∃ (d : Desc) (o : LongOp) (s t : State), descRuns s d 0 t ∧ t.opOf (d.word 2).toNat = some o ∧ o.st = .running ∧
      o.kind.suspendable = true ∧ t.opStarted o = false) ∧
    (∃ (d : Desc) (o : LongOp) (s t : State), descRuns s d 0 t ∧ t.opOf (d.word 2).toNat = some o ∧ o.st = .suspended) ∧
    (∃ (d : Desc) (o : LongOp) (s t : State), descRuns s d 0 t ∧ t.opOf (d.word 2).toNat = some o ∧ d.bits 3 0 0 = 0) ∧
    (∃ (d : Desc) (o : LongOp) (s t : State), descRuns s d 0 t ∧ t.opOf (d.word 2).toNat = some o ∧ o.st = .running ∧
      o.kind.cancellable = true ∧ t.opStarted o = false ∧ (∀ id, o.kind ≠ .fenceMirror id) ∧ (∀ id, o.kind ≠ .fenceTier id) ∧ (∀ p,
      o.kind ≠ .packRelease p)) ∧
    (∃ (slot : Fin 1024) (a n : Nat) (w : Word) (o : LongOp) (s : State), s.opAt slot.val = some o ∧ o.kind = .fill a n w ∧ o.slot =
      slot.val ∧ o.st = .running ∧ o.suspendBy = [] ∧ o.param = n ∧ o.done = n ∧ s.opsRun o.kind = true) :=
  ⟨⟨dsc 1 [], run, _, runs_of (by decide +kernel)⟩,
   ⟨dsc 0x40 [0], opRun (.fill 0 64 0), withOp (opRun (.fill 0 64 0)) run, _, runs_of (by decide +kernel), by decide +kernel⟩,
   ⟨dsc 0x41 [0], { opRun (.fill 0 64 0) with st := .suspended }, withOp { opRun (.fill 0 64 0) with st := .suspended } run, _,
     runs_of (by decide +kernel), by decide +kernel⟩,
   ⟨dsc 0x43 [0], opRun (.fill 0 64 0), withOp (opRun (.fill 0 64 0)) run, _, runs_of (by decide +kernel), by decide +kernel⟩,
   ⟨dsc 0x42 [0], opRun (.fill 0 64 0), withOp (opRun (.fill 0 64 0)) run, _, runs_of (by decide +kernel), by decide +kernel, rfl,
     rfl, by decide +kernel, nofun, nofun, nofun⟩,
   ⟨0, 0, 64, 0, opFill, withOp opFill run, by decide +kernel⟩⟩

/-- The conditions of `CopyFillAndMigrate` are met. -/
theorem witness_CopyFillAndMigrate :
    (∃ (d : Desc) (i j : Nat) (r q : Region) (s t : State), longRuns s d 1 t ∧ lengthOk (d.word 3).toNat = true ∧ d.dpa 4 % 64 = 0 ∧
      d.dpa 6 % 64 = 0 ∧ overlap (d.dpa 4) (d.word 3).toNat (d.dpa 6) (d.word 3).toNat = false ∧ t.regionOfRange (d.dpa 4) (d.word
      3).toNat = some (i, r) ∧ t.keysLoaded i r = true ∧ t.regionOfRange (d.dpa 6) (d.word 3).toNat = some (j, q) ∧ t.keysLoaded j q =
      true) ∧
    (∃ (d : Desc) (i : Nat) (r : Region) (s t : State), longRuns s d 1 t ∧ lengthOk (d.word 4).toNat = true ∧ d.dpa 2 % 64 = 0 ∧
      t.regionOfRange (d.dpa 2) (d.word 4).toNat = some (i, r) ∧ t.keysLoaded i r = true) ∧
    (∃ (d : Desc) (i : Nat) (r : Region) (s t : State), longRuns s d 1 t ∧ lengthOk (d.word 3).toNat = true ∧ (t.qp (d.bits 2 28
      16)).isReq = true ∧ (t.qp (d.bits 2 28 16)).st = .rts ∧ t.itemsFull (d.bits 2 28 16) = false ∧ d.dpa 4 % 64 = 0 ∧
      t.regionOfRange (d.dpa 4) (d.word 3).toNat = some (i, r) ∧ t.keysLoaded i r = true) ∧
    (∃ (d : Desc) (s t : State), longRuns s d 1 t ∧ lengthOk (d.word 3).toNat = true ∧ (t.qp (d.bits 2 28 16)).isReq = true ∧ (t.qp
      (d.bits 2 28 16)).st = .rts ∧ t.itemsFull (d.bits 2 28 16) = false) ∧
    (∃ (d : Desc) (f : Nat) (r : Region) (s t : State), longRuns s d 2 t ∧ t.shadowRegion d.rgnIdx = r ∧ r.valid = true ∧ t.reserved
      r.base.toNat r.size.toNat = false ∧ d.bits 3 1 0 = 0 ∧ r.cls = .cached ∧ t.placeValid .resident (d.bits 3 7 4) = true ∧
      t.planHolds d.rgnIdx = false ∧ t.lowestRun (d.bits 3 7 4) (r.size.toNat * 512) = some f) ∧
    (∃ (d : Desc) (s t : State), s.ringTakes d.ring.val = true ∧ (d.ordered && s.ringBusy d.ring.val) = false ∧ opcodes.contains
      d.opcode.toNat = true ∧ t = (s.dequeue d).activity ∧ Nat.testBit (t.fld RING_GROUPS_GROUPS d.ring.val) 5 = true ∧ s.mc.mode =
      .maintenance ∧ t.mc.mode = .maintenance ∧ t.freeOpSlot.isSome = true ∧ t.rings.ops = []) ∧
    (∃ (d : Desc) (i : Nat) (s t : State), longRuns s d 5 t ∧ d.selector = some i ∧ (t.region i).valid = true) :=
  ⟨⟨dsc 0x20 [0, 64, 0, 0, 64, 0], 0, 0, rgn0, rgn0, withRgn rgn0 run, _, long_of (by decide +kernel), by decide +kernel⟩,
   ⟨dsc 0x21 [0, 0, 64, 0xABCD], 0, rgn0, withRgn rgn0 run, _, long_of (by decide +kernel), by decide +kernel⟩,
   ⟨dsc 0x20 [1, 64, 0, 0, 0, 0, 0], 0, rgn0, (withRgn rgn0 run).setQp 0 (qpRts true), _, long_of (by decide +kernel),
     by decide +kernel⟩,
   ⟨dsc 0x20 [3, 64, 0, 0, 0, 0, 0], run.setQp 0 (qpRts true), _, long_of (by decide +kernel), by decide +kernel⟩,
   ⟨dsc 0x22 [0, 0], 0, { rgn0 with cls := .cached }, pool0 (withRgn { rgn0 with cls := .cached } run), _, long_of
     (by decide +kernel), by decide +kernel⟩,
   ⟨dsc 0x70 [0], ring0 (at_ .maintenance), _, by decide +kernel, by decide +kernel, by decide +kernel, rfl, by decide +kernel⟩,
   ⟨dsc 0x71 [0, 0], 0, withRgn rgn0 run, _, long_of (by decide +kernel), by decide +kernel⟩⟩

/-- The conditions of `FencesWaitAndEnd` are met. -/
theorem witness_FencesWaitAndEnd :
    (∃ (d : Desc) (s t : State), descRuns s d 1 t ∧ t.selects d.selector = true ∧ t.per.guard ≠ .unarmed) ∧
    (∃ (d : Desc) (s t : State), descRuns s d 1 t ∧ t.selects d.selector = true ∧ t.per.guard = .unarmed) ∧
    (∃ (id : Nat) (f : Fence) (s : State), s.fenceAt id .persist = some f ∧ f.pages = [] ∧ f.lines = [] ∧ f.writes = []) ∧
    (∃ (d : Desc) (s t : State), longRuns s d 1 t ∧ t.selects d.selector = true ∧ t.twinUp = true) ∧
    (∃ (d : Desc) (s t : State), longRuns s d 1 t ∧ t.selects d.selector = true ∧ t.twinUp = false) ∧
    (∃ (id : Nat) (f : Fence) (o : LongOp) (s : State), s.fenceAt id .mirror = some f ∧ f.pages = [] ∧ f.lines = [] ∧ f.writes = [] ∧
      (s.twin.demotes.find? fun e => e.1 == id) = none ∧ (s.rings.ops.find? fun o => o.kind == .fenceMirror id && o.st == .running) =
      some o) ∧
    (∃ (d : Desc) (o : LongOp) (ps : List Nat) (s t u : State), longRuns s d 1 t ∧ t.selects d.selector = true ∧ ps =
      ((t.tier.pages.filter fun e => e.2.counted).map Prod.fst).filter (t.selectedPage d.selector) ∧ u = (t.startOp (.fenceTier
      t.nextFence) d.src none).addFence ⟨t.nextFence, .tier, d.selector, ps, [], [], d.src⟩ ∧ u.opAt t.nextOpSlot = some o) ∧
    (∃ (id : Nat) (f : Fence) (o : LongOp) (s : State), s.fenceAt id .tier = some f ∧ f.pages = [] ∧ f.lines = [] ∧ f.writes = [] ∧
      (s.rings.ops.find? fun o => o.kind == .fenceTier id && o.st == .running) = some o) ∧
    (∃ (p : PortId) (l : LinkId) (s : State), (s.linkAt p.val l.val).up = true ∧ 2 ≤ (s.linkAt p.val l.val).ver) ∧
    (∃ (p : PortId) (l : LinkId) (s : State), (s.linkAt p.val l.val).up = true ∧ 2 ≤ (s.linkAt p.val l.val).ver ∧ s.per.guard =
      .unarmed) ∧
    (∃ (p : PortId) (l : LinkId) (f : Fence) (a b : Nat) (s : State), (s.per.gpf.find? fun e => e.1 == p.val && e.2.1 == l.val) = some
      (a, b, f) ∧ f.pages = [] ∧ f.lines = [] ∧ f.writes = []) :=
  ⟨⟨dsc 2 [0x80000000#32], guarded .thin run, _, runs_of (by decide +kernel), by decide +kernel⟩,
   ⟨dsc 2 [0x80000000#32], run, _, runs_of (by decide +kernel), by decide +kernel⟩,
   ⟨0, fence .persist, withFence .persist run, by decide +kernel⟩,
   ⟨dsc 3 [0x80000000#32], twinOn run, _, long_of (by decide +kernel), by decide +kernel⟩,
   ⟨dsc 3 [0x80000000#32], run, _, long_of (by decide +kernel), by decide +kernel⟩,
   ⟨0, fence .mirror, opRun (.fenceMirror 0), withOp (opRun (.fenceMirror 0)) (withFence .mirror run), by decide +kernel⟩,
   ⟨dsc 4 [0x80000000#32], ⟨0, 0, .running, .fenceTier 0, .ring 0 7 4 false, 0, none, 0, [], [], none⟩, _, run, _, _, long_of
     (by decide +kernel), by decide +kernel, rfl, rfl, by decide +kernel⟩,
   ⟨0, fence .tier, opRun (.fenceTier 0), withOp (opRun (.fenceTier 0)) (withFence .tier run), by decide +kernel⟩,
   ⟨0, 0, link0 svc, by decide +kernel⟩,
   ⟨0, 0, link0 svc, by decide +kernel⟩,
   ⟨0, 0, fence .gpf, 0, 0, { svc with per := { svc.per with gpf := [(0, 0, fence .gpf)] } }, by decide +kernel⟩⟩

/-- The conditions of `RegionCommandsStart` are met. -/
theorem witness_RegionCommandsStart :
    (∃ (d : Desc) (i fb : Nat) (m : Mirror) (s t : State), descRuns s d 2 t ∧ t.mc.mode ≠ .drain ∧ mirrorOf (d.bits 2 7 6) = some m ∧
      d.bits 2 4 3 = 0 ∧ attrsOk .resident (d.bits 2 5 5 = 1) m = true ∧ d.bits 4 26 0 ≠ 0 ∧ d.bits 3 26 0 + d.bits 4 26 0 ≤
      t.rgn.limitGib.toNat * 512 ∧ t.flag RGN_POOL_CFG_VALID (d.bits 5 23 20) = true ∧ t.overlapsRegion (d.bits 3 26 0) (d.bits 4 26
      0) none = false ∧ t.reserved (d.bits 3 26 0) (d.bits 4 26 0) = false ∧ t.electing = false ∧ ((List.range 4096).find? fun i => !
      (t.shadowRegion i).valid) = some i ∧ t.lowestRun (d.bits 5 23 20) (d.bits 4 26 0 * 512) = some fb ∧ t.keyLoaded (d.bits 5 11 0)
      = true ∧ t.inStack = false) ∧
    (∃ (d : Desc) (r : Region) (s t : State), descRuns s d 2 t ∧ regionFree t d r ∧ t.planHolds d.rgnIdx = false) ∧
    (∃ (d : Desc) (r : Region) (m : Mirror) (s t : State), descRuns s d 2 t ∧ regionFree t d r ∧ d.changeBit 0 = true ∧ mirrorOf
      (d.bits 4 1 0) = some m ∧ r.persist = true ∧ m ≠ r.mirror) ∧
    (∃ (d : Desc) (r : Region) (s t : State), descRuns s d 2 t ∧ regionFree t d r ∧ d.changeBit 1 = true ∧ d.bits 4 2 2 = 0 ∧
      r.persist = true ∧ r.mirror = .none) ∧
    (∃ (d : Desc) (r : Region) (s t : State), longRuns s d 2 t ∧ regionFree t d r ∧ d.changeBit 1 = true ∧ d.bits 4 2 2 = 1 ∧
      r.persist = false ∧ r.cls ≠ .scratch ∧ s.shadowRegion d.rgnIdx = r) ∧
    (∃ (d : Desc) (r : Region) (s t : State), descRuns s d 2 t ∧ regionFree t d r ∧ d.changeBit 2 = true ∧ d.bits 5 26 0 ≠ 0 ∧ d.bits
      5 26 0 < r.size.toNat) ∧
    (∃ (d : Desc) (r : Region) (s t : State), descRuns s d 2 t ∧ regionFree t d r ∧ d.changeBit 3 = true ∧ r.cls = .scratch) ∧
    (∃ (d : Desc) (r : Region) (s t : State), descRuns s d 2 t ∧ regionFree t d r ∧ d.changeBit 4 = true ∧ r.damaged = true) ∧
    (∃ (d : Desc) (r : Region) (k : Nat) (s t : State), descRuns s d 2 t ∧ regionFree t d r ∧ t.isCopy d.rgnIdx = false ∧ ownerCount
      d.ownerBits ≤ 1 ∧ setIndex t.shadowSets d.ownerBits = some k ∧ k ≠ 0) :=
  ⟨⟨dsc 0x10 [0x20, 0, 8192, 0], 0, 0, .none, pool0 (withRgn Region.empty run), _, runs_of (by decide +kernel), by decide +kernel⟩,
   ⟨dsc 0x11 [0], rgn0, withRgn rgn0 run, _, runs_of (by decide +kernel), by unfold regionFree; decide +kernel, by decide +kernel⟩,
   ⟨dsc 0x12 [0, 1, 1], rgn0, .async, withRgn rgn0 run, _, runs_of (by decide +kernel), by unfold regionFree; decide +kernel,
     by decide +kernel⟩,
   ⟨dsc 0x12 [0, 2, 0], rgn0, withRgn rgn0 run, _, runs_of (by decide +kernel), by unfold regionFree; decide +kernel,
     by decide +kernel⟩,
   ⟨dsc 0x12 [0, 2, 4], { rgn0 with persist := false }, withRgn { rgn0 with persist := false } run, _, long_of (by decide +kernel),
     by unfold regionFree; decide +kernel, by decide +kernel⟩,
   ⟨dsc 0x12 [0, 4, 0, 1], rgn0, withRgn rgn0 run, _, runs_of (by decide +kernel), by unfold regionFree; decide +kernel,
     by decide +kernel⟩,
   ⟨dsc 0x12 [0, 8], { rgn0 with persist := false, cls := .scratch }, withRgn { rgn0 with persist := false, cls := .scratch } run, _,
     runs_of (by decide +kernel), by unfold regionFree; decide +kernel, by decide +kernel⟩,
   ⟨dsc 0x12 [0, 16], { rgn0 with damaged := true }, withRgn { rgn0 with damaged := true } run, _, runs_of (by decide +kernel),
     by unfold regionFree; decide +kernel, by decide +kernel⟩,
   ⟨dsc 0x13 [0, 0, 1, 0, 0, 0], rgn0, 1, withRgn rgn0 run, _, runs_of (by decide +kernel), by unfold regionFree; decide +kernel,
     by decide +kernel⟩⟩

/-- The conditions of `RegionCommitsAndDecoders` are met. -/
theorem witness_RegionCommitsAndDecoders :
    (∃ (o : RgnOp) (s : State), s.rgn.draining = false ∧ (s.rgn.ops.find? fun o => o.stage == .waitCommit) = some o ∧ o.kind ≠
      .destroy) ∧
    (∃ (s : State), s.rgn.draining = true ∧ s.oldInFlight = false ∧ s.rgn.waiting = [] ∧ (∀ o ∈ s.rgn.ops, o.stage ≠ .waitDrain)) ∧
    (∃ (c : Commit) (cs : List Commit) (s : State), s.rgn.draining = true ∧ s.oldInFlight = false ∧ s.rgn.waiting = c :: cs ∧ (∀ o ∈
      s.rgn.ops, o.stage ≠ .waitDrain)) ∧
    (∃ (p : PortId) (ld : Fin 16) (size : BitVec 52) (ways ig : Nat) (skip : BitVec 48) (s : State), ((s.hdmAt p.val ld.val
      0).committed && (s.hdmAt p.val ld.val 0).locked) = false ∧ waysPow2 ways = true ∧ 8 ≤ ig ∧ ig ≤ 14 ∧ size.toNat % (2 ^ 28 *
      ways) = 0 ∧ skip.toNat % 2 ^ 28 = 0) ∧
    (∃ (p : Fin 16) (w : Word) (s : State), w &&& 0x3FF#32 ||| 1#32 ≠ s.regAt .RGN_POOL_CFG p.val 0 0 &&& 0x3FF#32 ∧ s.poolRefs p.val
      = 0 ∧ s.poolCheck p.val (w &&& 0x3FF#32 ||| 1#32) (s.regAt .RGN_POOL_BAND p.val 0 0) = none) ∧
    (∃ (q : Fin 16) (w : Word) (s : State), s.partUsed q.val = false ∧ s.partCheck q.val (w &&& 0x3FFFF#32 ||| 1#32) = none) :=
  ⟨⟨rgnOp .waitCommit, { svc with rgn := { svc.rgn with ops := [rgnOp .waitCommit] } }, by decide +kernel⟩,
   ⟨draining [] svc, by decide +kernel⟩,
   ⟨⟨[], [], []⟩, [], draining [⟨[], [], []⟩] svc, by decide +kernel⟩,
   ⟨0, 0, 0x10000000#52, 1, 8, 0, svc, by decide +kernel⟩,
   ⟨0, 0x180#32, chans0 (svc.setFld RGN_POOL_BAND_SIZE_GIB 64 0), by decide +kernel⟩,
   ⟨0, 0x100#32, (pool0 svc).setFld TIER_PART_TAG_FRAME 4096 0, by decide +kernel⟩⟩

/-- The conditions of `ModeRequestsAndChanges` are met. -/
theorem witness_ModeRequestsAndChanges :
    (∃ (s : State), s.mc.mode = .service) ∧
    (∃ (s : State), s.mc.mode = .drain) ∧
    (∃ (s : State), s.mc.mode = .service) ∧
    (∃ (s : State), s.mc.mode = .recovery) ∧
    (∃ (s : State), s.mc.mode = .standby ∧ s.pw.ioOk = true ∧ s.sequencing = false ∧ s.pw.brdPg = true ∧ s.pw.pwrFailN = true ∧
      s.pw.pendingWake = none) ∧
    (∃ (n : Fin 16) (s : State), s.mc.mode = .service ∧ 0xC ≤ n.val) ∧
    (∃ (s : State), s.mc.mode = .service ∧ s.flag GLB_SLEEP_CTL_QUIESCENT_EN = true ∧ s.quiet = true) ∧
    (∃ (low : Int) (s : State), s.pw.cold = some low ∧ s.mc.mode = .boot) ∧
    (∃ (s : State), s.mc.mode = .restore) ∧
    (∃ (s : State), s.mc.mode = .drain ∧ s.drained = true ∧ s.mc.drainMaint = true) ∧
    (∃ (s : State), s.mc.mode = .drain ∧ s.drained = true ∧ s.mc.drainMaint = false) ∧
    (∃ (fa fb : Option (Fin 7)) (clash : Fin 3) (ok : Bool) (k : Nat) (s u w v : State), s.mc.mode = .boot ∧ s.pw.cold = none ∧ u =
      (({ s with cc := { s.cc with roleA := .pair, roleB := .pair, roleS := .standby, gap := .none } }).restoreLog ok).admitStack
      clash ∧ w = { u with rgn := { u.rgn with limitGib := BitVec.ofNat 18 u.dpaLimit } } ∧ w.pw.strapRecovery = false ∧ w.selectImage
      (fa.map Fin.val) (fb.map Fin.val) 3 = (some k, v)) ∧
    (∃ (clash : Fin 3) (ok : Bool) (s u w : State), s.mc.mode = .boot ∧ s.pw.cold = none ∧ u =
      (({ s with cc := { s.cc with roleA := .pair, roleB := .pair, roleS := .standby, gap := .none } }).restoreLog ok).admitStack
      clash ∧ w = { u with rgn := { u.rgn with limitGib := BitVec.ofNat 18 u.dpaLimit } } ∧ w.pw.strapRecovery = true) :=
  ⟨⟨svc, by decide +kernel⟩,
   ⟨at_ .drain, by decide +kernel⟩,
   ⟨svc, by decide +kernel⟩,
   ⟨at_ .recovery, by decide +kernel⟩,
   ⟨{ at_ .standby with pw := { Power.reset with ioOk := true, brdPg := true } }, by decide +kernel⟩,
   ⟨0xC, svc, by decide +kernel⟩,
   ⟨(List.range 16).foldl (fun s n => s.setCh n { s.ch n with st := .nap2 }) svc, by decide +kernel⟩,
   ⟨-41, { at_ .boot with pw := { Power.reset with cold := some (-41) } }, by decide +kernel⟩,
   ⟨at_ .restore, by decide +kernel⟩,
   ⟨{ at_ .drain with mc := { ModeCtl.reset with mode := .drain, drainMaint := true } }, by decide +kernel⟩,
   ⟨at_ .drain, by decide +kernel⟩,
   ⟨none, none, 0, true, 0, at_ .boot, _, _, _, by decide +kernel, by decide +kernel, rfl, rfl, by decide +kernel, pair_of
     (by decide +kernel)⟩,
   ⟨0, true, { at_ .boot with pw := { Power.reset with strapRecovery := true } }, _, _, by decide +kernel, by decide +kernel, rfl,
     rfl, by decide +kernel⟩⟩

/-- The conditions of `PowerSequence` are met. -/
theorem witness_PowerSequence :
    (∃ (s : State), s.mc.mode = .off) ∧
    (∃ (s : State), s.mc.mode ≠ .save) ∧
    (∃ (s : State), s.mc.mode = .standby ∧ s.sequencing = false ∧ s.pw.pwrFailN = true ∧ s.pw.pendingWake = none) ∧
    (∃ (s : State), s.mc.mode = .standby ∧ s.sequencing = false ∧ s.pw.brdPg = false) ∧
    (∃ (s : State), s.pw.pendingWake = some (.mgmt .itself)) ∧
    (∃ (r : Fin 6) (s : State), s.pw.seqRail = some r) ∧
    (∃ (s : State), s.mc.mode = .standby ∧ s.pw.seqReady = true) ∧
    (∃ (r : Fin 6) (s : State), s.pw.seqRail = some r) ∧
    (∃ (s : State), s.sequencing = false) ∧
    (∃ (s : State), s.pw.pendingWake = none) ∧
    (∃ (s : State), s.mc.mode ≠ .standby) ∧
    (∃ (s : State), s.pw.avsReq = none) ∧
    (∃ (r : Nat) (s : State), s.pw.avsReq = some r) :=
  ⟨⟨at_ .off, by decide +kernel⟩,
   ⟨svc, by decide +kernel⟩,
   ⟨at_ .standby, by decide +kernel⟩,
   ⟨at_ .standby, by decide +kernel⟩,
   ⟨pw .standby { Power.reset with pendingWake := some (.mgmt .itself) }, by decide +kernel⟩,
   ⟨5, pw .standby { Power.reset with seqRail := some 5 }, by decide +kernel⟩,
   ⟨pw .standby { Power.reset with seqReady := true }, by decide +kernel⟩,
   ⟨5, pw .standby { Power.reset with seqRail := some 5 }, by decide +kernel⟩,
   ⟨svc, by decide +kernel⟩,
   ⟨at_ .standby, by decide +kernel⟩,
   ⟨at_ .save, by decide +kernel⟩,
   ⟨svc, by decide +kernel⟩,
   ⟨760, pw .service { Power.reset with avsReq := some 760 }, by decide +kernel⟩⟩

/-- The conditions of `PowerLossAndResets` are met. -/
theorem witness_PowerLossAndResets :
    (∃ (s : State), s.mc.mode = .service) ∧
    (∃ (s : State), s.mc.mode = .maintenance) ∧
    (∃ (s : State), s.mc.mode = .service ∧ s.pw.railEn.getLsbD 0 = true) ∧
    (∃ (s : State), s.mc.mode = .service ∧ s.pw.rstHeld = false) ∧
    (∃ (s : State), s.mc.mode = .maintenance) ∧
    (∃ (s : State), s.mc.mode = .maintenance ∧ s.pw.rstHeld = true) ∧
    (∃ (s : State), s.mc.mode = .maintenance) ∧
    (∃ (s : State), s.mc.mode = .service) ∧
    (∃ (s : State), s.mc.mode = .maintenance ∧ s.regAt .GLB_BIST_STAT 0 0 0 >>> 16 = 0) ∧
    (∃ (s : State), s.mc.mode = .recovery) ∧
    (∃ (s : State), s.clk.tbLock = false ∧ s.flash.sess.st = .idle) ∧
    (∃ (s : State), s.clk.tbLock = true) :=
  ⟨⟨svc, by decide +kernel⟩,
   ⟨at_ .maintenance, by decide +kernel⟩,
   ⟨pw .service { Power.reset with railEn := 1 }, by decide +kernel⟩,
   ⟨svc, by decide +kernel⟩,
   ⟨at_ .maintenance, by decide +kernel⟩,
   ⟨pw .maintenance { Power.reset with rstHeld := true }, by decide +kernel⟩,
   ⟨at_ .maintenance, by decide +kernel⟩,
   ⟨svc, by decide +kernel⟩,
   ⟨at_ .maintenance, by decide +kernel⟩,
   ⟨at_ .recovery, by decide +kernel⟩,
   ⟨svc, by decide +kernel⟩,
   ⟨{ svc with clk := { svc.clk with tbLock := true } }, by decide +kernel⟩⟩

/-- The conditions of `SaveSteps` are met. -/
theorem witness_SaveSteps :
    (∃ (s : State), s.saveAt .landed = true ∧ s.saving = true ∧ s.nandPowered = true) ∧
    (∃ (s : State), s.mc.mode = .save ∧ s.per.flushCut = true) ∧
    (∃ (s : State), s.mc.mode = .save ∧ s.per.flushCut = false) ∧
    (∃ (s : State), s.saveAt .streaming = true ∧ s.saving = true ∧ s.nandPowered = true ∧ s.tier.wbs = []) ∧
    (∃ (s : State), s.saveAt .streamed = true ∧ s.saving = true ∧ s.nandPowered = true) ∧
    (∃ (s : State), s.saveAt .metadata = true ∧ s.saving = true ∧ s.nandPowered = true ∧ s.pw.mainBack = false) :=
  ⟨⟨saveAt_ .landed, by decide +kernel⟩,
   ⟨{ at_ .save with per := { Persist.reset with flushCut := true } }, by decide +kernel⟩,
   ⟨saveAt_ .streaming, by decide +kernel⟩,
   ⟨saveAt_ .streaming, by decide +kernel⟩,
   ⟨saveAt_ .streamed, by decide +kernel⟩,
   ⟨saveAt_ .metadata, by decide +kernel⟩⟩

/-- The conditions of `SleepAndWake` are met. -/
theorem witness_SleepAndWake :
    (∃ (ch : ChId) (s : State), (s.ch ch.val).st = .active ∧ s.flag GLB_SLEEP_CTL_NAP_EN = true ∧ s.mc.mode ≠ .save ∧ (s.ch
      ch.val).idle = true ∧ (s.ch ch.val).waking = false ∧ s.writesBackOn ch.val = false) ∧
    (∃ (ch : ChId) (s : State), (s.ch ch.val).st = .nap1 ∧ (s.ch ch.val).waking = false ∧ (s.ch ch.val).held = [] ∧ (s.ch ch.val).wq =
      [] ∧ s.mc.mode ≠ .save ∧ (s.ch ch.val).released = 0) ∧
    (∃ (ch : ChId) (rank : Fin 16) (s : State), (s.ch ch.val).st = .nap2 ∧ (s.ch ch.val).waking = false ∧ s.flag GLB_SLEEP_CTL_PASR_EN
      = true ∧ rank.val < s.ranks ch.val ∧ s.rankHolds ch.val rank.val = false ∧ s.dupsInPlace ch.val = true ∧ s.tier.pages = []) ∧
    (∃ (ch : ChId) (s : State), (s.ch ch.val).dupInvalid = true) ∧
    (∃ (ch : ChId) (s : State), (s.ch ch.val).st = .nap2 ∧ (s.ch ch.val).waking = false) ∧
    (∃ (ch : ChId) (s : State), (s.ch ch.val).st.asleep = true ∧ (s.ch ch.val).waking = true ∧ (s.ch ch.val).early = false) ∧
    (∃ (p : PortId) (l : LinkId) (s : State), (s.linkAt p.val l.val).up = true ∧ (s.linkAt p.val l.val).pm = .l11) ∧
    (∃ (s : State), s.mc.mode = .quiescent) ∧
    (∃ (ch : ChId) (s : State), (s.ch ch.val).st = .nap2 ∧ s.flag TIER_LAYBY_CTL_LEND_EN = true ∧ (s.ch ch.val).waking = false ∧
      s.tier.lent = [] ∧ s.tests.retired = []) ∧
    (∃ (ch : ChId) (n : Nat) (s : State), s.tier.lent = [(ch.val, n)] ∧ s.tier.fills = []) ∧
    (∃ (cw : CwId) (s : State), (∀ i, i < 4 → (s.ch (4 * cw.val + i)).st = .nap2 ∧ (s.ch (4 * cw.val + i)).waking = false) ∧
      s.ports.links = [] ∧ s.tier.fills = [] ∧ s.tier.wbs = [] ∧ s.tier.streams = []) ∧
    (∃ (s : State), s.clk.cwClock = 0 ∧ s.twin.msgs = [] ∧ s.twin.queued = [] ∧ s.twin.reads = [] ∧ s.twin.syncq = [] ∧ s.twin.backlog
      = [] ∧ s.twin.inMsgs = [] ∧ s.twin.resync = none ∧ s.rdma.qps = []) ∧
    (∃ (p : PortId) (l : LinkId) (s : State), (s.linkAt p.val l.val).up = true ∧ s.mc.mode.serving = true ∧ s.entriesUsed p.val l.val
      = 0) :=
  ⟨⟨0, chIs .active svc, by decide +kernel⟩,
   ⟨0, chIs .nap1 svc, by decide +kernel⟩,
   ⟨0, 0, chIs .nap2 (svc.setFld GLB_SLEEP_CTL_PASR_EN 1), by decide +kernel⟩,
   ⟨0, ch0 svc fun c => { c with dupInvalid := true }, by decide +kernel⟩,
   ⟨0, chIs .nap2 svc, by decide +kernel⟩,
   ⟨0, ch0 svc fun c => { c with st := .nap2, waking := true }, by decide +kernel⟩,
   ⟨0, 0, linkL1 svc, by decide +kernel⟩,
   ⟨at_ .quiescent, by decide +kernel⟩,
   ⟨0, chIs .nap2 svc, by decide +kernel⟩,
   ⟨0, 64, { svc with tier := { svc.tier with lent := [(0, 64)] } }, by decide +kernel⟩,
   ⟨0, (List.range 4).foldl (fun s n => s.setCh n { s.ch n with st := .nap2 }) svc, by decide +kernel⟩,
   ⟨svc, by decide +kernel⟩,
   ⟨0, 0, linkL1 svc, by decide +kernel⟩⟩

/-- The conditions of `ChannelTrainingAndAlerts` are met. -/
theorem witness_ChannelTrainingAndAlerts :
    (∃ (ch : ChId) (a : DimmSpd) (rate : Nat) (s : State), s.mc.mode = .boot ∧ s.pw.cold = none ∧ (s.ch ch.val).st = .offline ∧
      dimmRefusals (some a) none = [] ∧ s.trainRate ch.val a.typ [a] = some rate) ∧
    (∃ (ch : ChId) (s : State), (s.ch ch.val).st = .active ∧ s.mc.mode ≠ .save ∧ s.flag CH_CTL_RETRAIN ch.val = true) ∧
    (∃ (ch : ChId) (s : State), (s.ch ch.val).st = .active ∧ s.mc.mode ≠ .save) ∧
    (∃ (ch : ChId) (s : State), (s.ch ch.val).st = .active) ∧
    (∃ (ch : ChId) (s : State), s.flag CH_TIM_COMMIT_COMMIT ch.val = false) ∧
    (∃ (ch : ChId) (s : State), (s.ch ch.val).st = .retraining ∧ (s.ch ch.val).twinReads = [] ∧ (s.ch ch.val).held = [] ∧ s.twin.reads
      = []) ∧
    (∃ (ch : ChId) (s : State), (s.ch ch.val).st = .retraining) ∧
    (∃ (ch : ChId) (s : State), (s.ch ch.val).st = .active ∧ (s.ch ch.val).typ = 1) ∧
    (∃ (ch : ChId) (s u : State), (s.ch ch.val).st = .active ∧ (s.ch ch.val).alerts = [] ∧ u = ((s.bump CH_CAPAR_ALERTS ch.val).chErr
      ch.val 1).logLim 0x1002 ch.val .notice (srcCh ch.val) (ch.val, 1, 0, 0)) ∧
    (∃ (ch : ChId) (a : AlertSeries) (s : State), (s.ch ch.val).alerts = [a] ∧ a.sub = 0 ∧ a.asserted = true) ∧
    (∃ (ch : ChId) (a : AlertSeries) (s : State), ((s.ch ch.val).alerts.find? fun a => a.sub == 0) = some a) ∧
    (∃ (ch : ChId) (rank : Fin 16) (s : State), (s.ch ch.val).st = .active ∧ rank.val < s.ranks ch.val ∧ (s.ch
      ch.val).released.getLsbD rank.val = false) ∧
    (∃ (ch : ChId) (t0 : Fin 256) (s : State), (s.ch ch.val).st = .active ∧ (s.ch ch.val).dimm1.present = false ∧ 95 < t0.val ∧ (s.ch
      ch.val).throttle = false) :=
  ⟨⟨0, spd, 3, at_ .boot, by decide +kernel⟩,
   ⟨0, (chIs .active svc).setFld CH_CTL_RETRAIN 1 0, by decide +kernel⟩,
   ⟨0, chIs .active svc, by decide +kernel⟩,
   ⟨0, chIs .active svc, by decide +kernel⟩,
   ⟨0, svc, by decide +kernel⟩,
   ⟨0, chIs .retraining svc, by decide +kernel⟩,
   ⟨0, chIs .retraining svc, by decide +kernel⟩,
   ⟨0, ch0 svc fun c => { c with st := .active, typ := 1 }, by decide +kernel⟩,
   ⟨0, chIs .active svc, _, by decide +kernel, by decide +kernel, rfl⟩,
   ⟨0, ⟨0, true, 0, 0⟩, ch0 svc fun c => { c with alerts := [⟨0, true, 0, 0⟩] }, by decide +kernel⟩,
   ⟨0, ⟨0, true, 8, 0⟩, ch0 svc fun c => { c with alerts := [⟨0, true, 8, 0⟩] }, by decide +kernel⟩,
   ⟨0, 0, chIs .active svc, by decide +kernel⟩,
   ⟨0, 96, chIs .active svc, by decide +kernel⟩⟩

/-- The conditions of `ChannelServiceAndRebuild` are met. -/
theorem witness_ChannelServiceAndRebuild :
    (∃ (ch : ChId) (s : State), (s.ch ch.val).st = .active ∧ (s.ch ch.val).alerts = [] ∧ s.fld CH_SCHED_WR_HI ch.val ≤ (s.ch
      ch.val).wq.length ∧ (s.ch ch.val).wq ≠ []) ∧
    (∃ (ch : ChId) (x : Share) (k : Nat) (s : State), (s.ch ch.val).work = .rebuild ∧ s.nextChunk ch.val = some (x, k)) ∧
    (∃ (ch : ChId) (s : State), (s.ch ch.val).work = .rebuild ∧ s.twinUp = false) ∧
    (∃ (d : Desc) (s t u : State), longRuns s d 5 t ∧ t.rings.ops = [] ∧ (t.ch (d.bits 2 3 0)).st = .active ∧ (t.planShares (d.bits 2
      3 0) (t.sharesOn (d.bits 2 3 0))) = [] ∧ u = t.startOp (.evacChannel (d.bits 2 3 0)) d.src (some 0)) ∧
    (∃ (ch : ChId) (o : LongOp) (s u : State), (s.rings.ops.find? fun o => o.kind == .evacChannel ch.val && o.st == .running) = some o
      ∧ (s.ch ch.val).st = .evacuating ∧ (s.ch ch.val).work = .evacuate ∧ (s.ch ch.val).shares = [] ∧ u = s.rehome ch.val) ∧
    (∃ (ch : ChId) (s : State), (s.ch ch.val).st = .active) ∧
    (∃ (ch : ChId) (a : DimmSpd) (rate : Nat) (tim : List Word) (s : State), (s.ch ch.val).st = .offline ∧ s.flag CH_CTL_PWR ch.val =
      true ∧ dimmRefusals (some a) none = [] ∧ s.trainRate ch.val a.typ [a] = some rate ∧ s.readmitFits ch.val [a] = true ∧
      ((s.adoptDimms ch.val rate (some a) none tim).ch ch.val).work ≠ .rebuild) ∧
    (∃ (ch : ChId) (s : State), s.flag CH_CTL_READMIT ch.val = true ∧ (s.ch ch.val).work = .copyBack ∧ (∀ p, p < 16 → s.flag
      RGN_POOL_CFG_VALID p = false)) :=
  ⟨⟨0, ch0 (svc.setFld CH_SCHED_WR_HI 16 0) fun c =>
     { c with st := .active, wq := List.replicate 16 ⟨0, 0, 0, 0, 0, 0, 0, false, false, false⟩ }, by decide +kernel⟩,
   ⟨0, share0, 0, ch0 svc fun c => { c with st := .closed, work := .rebuild, shares := [share0] }, by decide +kernel⟩,
   ⟨0, ch0 svc fun c => { c with work := .rebuild }, by decide +kernel⟩,
   ⟨dsc 0x23 [0], chIs .active run, _, _, long_of (by decide +kernel), by decide +kernel, by decide +kernel, by decide +kernel, rfl⟩,
   ⟨0, opRun (.evacChannel 0), withOp (opRun (.evacChannel 0)) (ch0 svc fun c => { c with st := .evacuating, work := .evacuate }), _,
     by decide +kernel, by decide +kernel, by decide +kernel, by decide +kernel, rfl⟩,
   ⟨0, chIs .active svc, by decide +kernel⟩,
   ⟨0, spd, 3, [], svc.setFld CH_CTL_PWR 1 0, by decide +kernel⟩,
   ⟨0, ch0 (svc.setFld CH_CTL_READMIT 1 0) fun c => { c with work := .copyBack }, by decide +kernel⟩⟩

/-- The conditions of `ControlComplex` are met. -/
theorem witness_ControlComplex :
    (∃ (s : State), s.ccRuns = true ∧ s.cc.roleA = .pair ∧ s.cc.roleB = .pair ∧ s.cc.roleS = .standby) ∧
    (∃ (k n : Nat) (s : State), s.cc.gap = .switchover ∧ s.cc.roleA = .pair ∧ s.cc.roleB = .pair ∧ s.cc.roleS = .standby ∧
      s.cc.mismatch = some (k, n)) ∧
    (∃ (s : State), s.cc.gap = .shortTest ∧ s.cc.roleA = .pair ∧ s.cc.roleB = .pair ∧ s.cc.roleS = .faulted ∧ s.cc.mismatch = none) ∧
    (∃ (s : State), s.cc.testing = [0] ∧ s.ccRuns = true) ∧
    (∃ (s : State), s.cc.roleS = .standby ∧ s.cc.roleA ≠ .standby ∧ s.cc.roleB ≠ .standby ∧ s.mc.mode.testsStandby = true ∧ s.ccRuns =
      true) ∧
    (∃ (s : State), s.ccRuns = true ∧ s.cc.force = false) ∧
    (∃ (s : State), s.ccRuns = true ∧ s.cc.force = true ∧ s.cc.roleS = .standby) ∧
    (∃ (s : State), s.cc.roleS = .standby) ∧
    (∃ (s : State), s.ccRuns = true ∧ s.wdtRuns = true) ∧
    (∃ (s : State), s.ccRuns = true ∧ s.wdtRuns = true ∧ s.cc.kickHalf = true ∧ s.fld GLB_WDT_CFG_PERIOD_MS * 10 ^ 6 * s.fld
      GLB_WDT_CFG_WIN_PCT / 100 ≤ s.timeNs - s.cc.lastKick ∧ s.timeNs - s.cc.lastKick < s.fld GLB_WDT_CFG_PERIOD_MS * 10 ^ 6) ∧
    (∃ (s : State), s.wdtRuns = true ∧ s.cc.deferred = none ∧ s.flashPulse = false) ∧
    (∃ (s : State), s.cc.gap = .warm ∧ s.flash.sess.st = .idle ∧ s.flash.ops = [] ∧ s.flash.waiting = []) :=
  ⟨⟨svc, by decide +kernel⟩,
   ⟨1, 9, ccIs { Cc.reset with gap := .switchover, mismatch := some (1, 9) }, by decide +kernel⟩,
   ⟨ccIs { Cc.reset with gap := .shortTest, roleS := .faulted }, by decide +kernel⟩,
   ⟨ccIs { Cc.reset with testing := [0] }, by decide +kernel⟩,
   ⟨svc, by decide +kernel⟩,
   ⟨svc, by decide +kernel⟩,
   ⟨ccIs { Cc.reset with force := true }, by decide +kernel⟩,
   ⟨svc, by decide +kernel⟩,
   ⟨svc, by decide +kernel⟩,
   ⟨{ ccIs { Cc.reset with kickHalf := true } with timeNs := 12500000 }, by decide +kernel⟩,
   ⟨svc, by decide +kernel⟩,
   ⟨ccIs { Cc.reset with gap := .warm }, by decide +kernel⟩⟩

/-- The conditions of `CodeFlash` are met. -/
theorem witness_CodeFlash :
    (∃ (off : Nat) (ws : List (BitVec 256)) (s : State), ws ≠ [] ∧ off % 32 = 0 ∧ off + 32 * ws.length ≤ flashBytes ∧ inGolden off =
      false ∧ inGolden (off + 32 * ws.length - 1) = false ∧ ¬ (off < 0x40000 ∧ 0x440000 ≤ off + 32 * ws.length - 1) ∧ inConfig off =
      false ∧ inConfig (off + 32 * ws.length - 1) = false ∧ flashBank off ≠ s.flash.execBank ∧ flashBank (off + 32 * ws.length - 1) ≠
      s.flash.execBank ∧ s.writtenWord off ws.length = none) ∧
    (∃ (off n : Nat) (s : State), n ≠ 0 ∧ off % sectorBytes off = 0 ∧ off + sectorsBytes off n ≤ flashBytes ∧ (sectorsOf off n).any
      inGolden = false ∧ (sectorsOf off n).any inConfig = false ∧ ((sectorsOf off n).any fun x => flashBank x == s.flash.execBank) =
      false ∧ (sectorsOf off n).all s.mayErase = true) ∧
    (∃ (bank : Fin 2) (o : FlashOp) (s : State), (s.flash.ops.find? fun o => o.bank == bank.val && o.suspended.isNone) = some o ∧
      s.cc.deferred = none ∧ (s.pulse o).1.cc.deferred = none) ∧
    (∃ (bank : Fin 2) (o : FlashOp) (t : Nat) (s : State), (s.flash.ops.find? fun o => o.bank == bank.val) = some o ∧ o.suspended =
      some t ∧ s.flashLow = false ∧ s.cc.deferred = none) ∧
    (∃ (bank : Fin 2) (o : FlashOp) (s : State), (s.flash.ops.find? fun o => o.bank == bank.val && o.erase && ! o.starved) = some o ∧
      o.suspended = none) ∧
    (∃ (s : State), s.flash.brownout = false) ∧
    (∃ (r : LogRec) (rest : List PortItem) (u : State) (s : State), s.portQueue = .evt r :: rest ∧ s.flashLow = false ∧
      ({ s with portQueue := rest } : State).portWrite false (codeWord (r.words.map BitVec.toNat)) = (true, u)) ∧
    (∃ (s : State), s.flash.sess.st = .erasing ∧ s.flash.ops = [] ∧ s.flash.marked = []) :=
  ⟨⟨0x440000, [5], svc, by decide +kernel⟩,
   ⟨0x440000, 1, svc, by decide +kernel⟩,
   ⟨0, fop false none, flashIs { Flash.reset with ops := [fop false none] }, by decide +kernel⟩,
   ⟨0, fop false (some 4), 4, flashIs { Flash.reset with ops := [fop false (some 4)] }, by decide +kernel⟩,
   ⟨0, fop true none, flashIs { Flash.reset with ops := [fop true none] }, by decide +kernel⟩,
   ⟨svc, by decide +kernel⟩,
   ⟨rec0 0 .critical false, [], _, { svc with portQueue := [.evt (rec0 0 .critical false)] }, by decide +kernel, by decide +kernel,
     pair_of (by decide +kernel)⟩,
   ⟨sess { Session.idle with st := .erasing }, by decide +kernel⟩⟩

/-- The conditions of `FirmwareSession` are met. -/
theorem witness_FirmwareSession :
    (∃ (e m : Bool) (bad : Option Nat) (c k : Nat) (s : State), s.flash.sess.st = .verifying ∧ s.flash.sess.source = 1 ∧ s.verify
      s.flash.sess.target e m bad = some (c, k)) ∧
    (∃ (e m : Bool) (bad : Option Nat) (s : State), s.flash.sess.st = .verifying ∧ s.flash.sess.source = 1 ∧ s.verify
      s.flash.sess.target e m bad = none ∧ s.flag FLS_UPD_CTL_PUSH_TWIN = false) ∧
    (∃ (who : Writer) (s : State), s.notOwner who = false ∧ s.flash.sess.st = .verified) ∧
    (∃ (s : State), s.flash.sess.st = .opened) ∧
    (∃ (off : BitVec 32) (bytes : List Byte) (u : State) (s : State), bytes ≠ [] ∧ bytes.length ≤ 32768 ∧ s.sourceBlock 3 off.toNat
      bytes = (.ok, u) ∧ u.flash.sess.st = .opened ∧ u.flash.sess.off < u.flash.sess.len) ∧
    (∃ (s : State), s.flash.sess.st = .verified ∧ s.flash.sess.twinTakes ≠ 0) ∧
    (∃ (s : State), s.flash.sess.st = .verified ∧ s.flash.sess.twinTakes = 1) :=
  ⟨⟨true, true, none, 1, 0, sess { Session.idle with st := .verifying, source := 1, target := 1 }, by decide +kernel⟩,
   ⟨true, true, none, flashIs
     { Flash.reset with sess := { Session.idle with st := .verifying, source := 1, target := 1 }, words := bundle1 },
     by decide +kernel⟩,
   ⟨.host, sess { Session.idle with st := .verified, source := 1 }, by decide +kernel⟩,
   ⟨sess { Session.idle with st := .opened }, by decide +kernel⟩,
   ⟨0, List.replicate 64 1, _, sess { Session.idle with st := .opened, source := 3 }, by decide +kernel, by decide +kernel, pair_of
     (by decide +kernel), by decide +kernel⟩,
   ⟨sess { Session.idle with st := .verified, twinTakes := 1 }, by decide +kernel⟩,
   ⟨sess { Session.idle with st := .verified, twinTakes := 1 }, by decide +kernel⟩⟩

/-- The conditions of `UpdateActivation` are met. -/
theorem witness_UpdateActivation :
    (∃ (m : Fin 6) (ver floor : Word) (lvl : Fin 16) (s : State), m.val = 1 ∧ s.voteOn ver.toNat lvl.val floor.toNat = 0) ∧
    (∃ (ver floor : Word) (lvl : Fin 16) (s : State), s.voteOn ver.toNat lvl.val floor.toNat ≠ 0) ∧
    (∃ (m : Fin 6) (s : State), s.flash.sess.members.contains m.val = true ∧ s.flash.sess.st = .verified ∧ s.flash.sess.yes.contains
      m.val = false) ∧
    (∃ (m : Fin 6) (s : State), s.flash.sess.members.contains m.val = true ∧ s.flash.sess.st = .verified) ∧
    (∃ (m : Nat) (ms : List Nat) (s : State), s.flash.sess.st = .verified ∧ (s.flash.sess.members.filter fun m => !
      s.flash.sess.yes.contains m) = m :: ms) ∧
    (∃ (s : State), s.flash.sess.st = .scheduled ∧ s.flash.sess.waitTime = false) ∧
    (∃ (s : State), s.flash.sess.st = .activating ∧ s.flash.sess.swapped = 0 ∧ s.mc.mode ≠ .save) ∧
    (∃ (who : Writer) (s : State), s.notOwner who = false ∧ s.flash.sess.st = .trial) ∧
    (∃ (s : State), s.flash.sess.st = .trial ∧ s.flash.sess.sentHealthy = false) ∧
    (∃ (m : Fin 6) (s : State), s.flash.sess.members.contains m.val = true ∧ s.flash.sess.st = .trial) ∧
    (∃ (who : Writer) (s : State), s.notOwner who = false ∧ s.flash.sess.st = .trial) ∧
    (∃ (s : State), s.flash.sess.st = .trial) ∧
    (∃ (s : State), s.flash.sess.st = .reverting) :=
  ⟨⟨1, 0xFFFFFFFF#32, 0, 0, { sess sessOk with clk := { svc.clk with tbLock := true } }, by decide +kernel⟩,
   ⟨0, 0, 0, svc, by decide +kernel⟩,
   ⟨1, sess sessOk, by decide +kernel⟩,
   ⟨1, sess sessOk, by decide +kernel⟩,
   ⟨1, [], sess sessOk, by decide +kernel⟩,
   ⟨sess { sessOk with st := .scheduled }, by decide +kernel⟩,
   ⟨sess { sessOk with st := .activating }, by decide +kernel⟩,
   ⟨.host, sess { sessOk with st := .trial }, by decide +kernel⟩,
   ⟨sess { sessOk with st := .trial }, by decide +kernel⟩,
   ⟨1, sess { sessOk with st := .trial }, by decide +kernel⟩,
   ⟨.host, sess { sessOk with st := .trial }, by decide +kernel⟩,
   ⟨sess { sessOk with st := .trial }, by decide +kernel⟩,
   ⟨sess { sessOk with st := .reverting }, by decide +kernel⟩⟩

/-- The conditions of `EventLogAndJunctions` are met. -/
theorem witness_EventLogAndJunctions :
    (∃ (code : BitVec 16) (key : Nat) (l : Limiter) (s : State), (s.evt.limiters.find? fun (l : Limiter) => l.code == code.toNat &&
      l.key == key) = some l) ∧
    (∃ (n t off val w6 d : Nat) (s : State), s.evt.rejects = some ⟨n, some (t, off, val, w6, d)⟩) ∧
    (∃ (k : Fin 8) (s : State), 4 ≤ k.val ∧ (s.jctLink k.val).training = false ∧ (s.jctLink k.val).errs = []) ∧
    (∃ (k : Fin 8) (s : State), 4 ≤ k.val ∧ (s.jctLink k.val).training = true) ∧
    (∃ (s : State), s.tier.fills = [] ∧ s.tier.restarts = []) ∧
    (∃ (c : CwId) (s : State), s.arbBusy c.val = false ∧ (tableOwners ((List.range 8).map fun w => s.regAt .ARB_SHADOW c.val 0
      w)).contains 0xF = true) ∧
    (∃ (c : CwId) (sh : List Word) (s u v : State), s.arbBusy c.val = false ∧ sh = ((List.range 8).map fun w => s.regAt .ARB_SHADOW
      c.val 0 w) ∧ (tableOwners sh).contains 0xF = false ∧ 8 ≤ (tableOwners sh).countP (· == 0xB) ∧ u =
      { s with arb := { s.arb with oldTable := (s.arb.oldTable.filter fun e => e.1 / 4 != c.val) ++ ((List.range 4).map (4 * c.val + ·)).map fun n => (n, s.slotTable n) } }
      ∧ v = ((List.range 8).zip sh).foldl (fun (s : State) (e : Nat × Word) => s.setRegAt .ARB_ACTIVE c.val 0 e.1 e.2) u) ∧
    (∃ (ch : ChId) (s : State), (s.ch ch.val).st = .active) :=
  ⟨⟨0x8041, 0, ⟨0x8041, 0, .error, 0x78, 0, 1, 0, 0, 0⟩,
     { svc with evt := { svc.evt with limiters := [⟨0x8041, 0, .error, 0x78, 0, 1, 0, 0, 0⟩] } }, by decide +kernel⟩,
   ⟨101, 0, 0, 1, 0x11, 0, { svc with evt := { svc.evt with rejects := some ⟨101, some (0, 0, 1, 0x11, 0)⟩ } }, by decide +kernel⟩,
   ⟨4, svc, by decide +kernel⟩,
   ⟨7, svc.setJct 7 { JctLink.reset with training := true }, by decide +kernel⟩,
   ⟨svc, by decide +kernel⟩,
   ⟨0, svc.setRegAt .ARB_SHADOW 0 0 0 0xFFFFFFFF#32, by decide +kernel⟩,
   ⟨0, List.replicate 8 0xBBBBBBBB#32, (List.range 8).foldl (fun s w => s.setRegAt .ARB_SHADOW 0 0 w 0xBBBBBBBB#32) svc, _, _,
     by decide +kernel, by decide +kernel, by decide +kernel, by decide +kernel, rfl, rfl⟩,
   ⟨0, chIs .active svc, by decide +kernel⟩⟩

set_option maxRecDepth 100000 in
/-- The conditions of `SensorsAndPacks` are met. -/
theorem witness_SensorsAndPacks :
    (∃ (s : State), s.mc.mode = .standby) ∧
    (∃ (s : State), s.mc.mode ≠ .standby) ∧
    (∃ (a b c : List Word) (s : State), s.factorySet 0 = some a ∧ s.factorySet 1 = some b ∧ s.factorySet 2 = some c) ∧
    (∃ (s u : State), s.mc.mode = .service ∧ s.hub.commit = false ∧ u = (s.publish []).checkThresholds []) ∧
    (∃ (p : PackNo) (s : State), (s.pack p.val).st = .absent) ∧
    (∃ (p : PackNo) (x : PackId) (s t : State), (s.pack p.val).st = .identifying ∧ s.pw.ioOk = true ∧ x.crcOk = true ∧ x.ratedJ ≠ 0 ∧
      t = s.setPack p.val { s.pack p.val with id := x } ∧ t.packTested p.val = true ∧ t.packWorn p.val = false) ∧
    (∃ (p : PackNo) (s : State), (s.pack p.val).st = .identifying ∧ s.pw.ioOk = true) ∧
    (∃ (p : PackNo) (s : State), (s.pack p.val).st = .healthy ∧ (s.pack p.val).release = none) ∧
    (∃ (p : PackNo) (s : State), (s.pack p.val).st = .healthy) ∧
    (∃ (p : PackNo) (s : State), s.flag GLB_IST_CTL_PACK_EN = true ∧ s.mc.mode = .service ∧ s.hub.hot = false ∧ (s.pack p.val).st =
      .healthy) ∧
    (∃ (p : PackNo) (t : Nat) (s : State), (s.pack p.val).retryAt = some t ∧ (s.pack p.val).st = .healthy) ∧
    (∃ (p : PackNo) (v0 v1 v2 us c esr : Nat) (s u : State), (s.pack p.val).test = .loaded ∧ v2 < v1 ∧ esr = (v0 - v1) * 200 / max 1
      (s.fld SNS_PACK_CFG_I_TEST) ∧ c = 1000 * max 1 (s.fld SNS_PACK_CFG_I_TEST) * us / (2 * (v1 - v2)) ∧ u = (s.setPack p.val
      { s.pack p.val with id := { (s.pack p.val).id with cUf := c, esr := esr, testDay := s.today, cycles := (s.pack p.val).id.cycles + 1 }, test := .none, req := false, testedAt := s.timeNs }).log
      0x9011 .info srcPacks p.val c esr 0) ∧
    (∃ (d : Desc) (s t : State), longRuns s d 5 t ∧ (t.pack (d.bits 2 1 0)).st = .endOfLife) :=
  ⟨⟨at_ .standby, by decide +kernel⟩,
   ⟨svc, by decide +kernel⟩,
   ⟨_, _, _, flashIs { Flash.reset with words := [trims 0, trims 1, trims 2] }, Option.eq_some_of_isSome (by decide +kernel),
     Option.eq_some_of_isSome (by decide +kernel), Option.eq_some_of_isSome (by decide +kernel)⟩,
   ⟨svc, _, by decide +kernel, by decide +kernel, rfl⟩,
   ⟨0, svc, by decide +kernel⟩,
   ⟨0, packId, packIs { Pack.absent with st := .identifying } { svc with pw := { svc.pw with ioOk := true } }, _, by decide +kernel,
     by decide +kernel, by decide +kernel, by decide +kernel, rfl, by decide +kernel⟩,
   ⟨0, packIs { Pack.absent with st := .identifying } { svc with pw := { svc.pw with ioOk := true } }, by decide +kernel⟩,
   ⟨0, packIs { Pack.absent with st := .healthy } svc, by decide +kernel⟩,
   ⟨0, packIs { Pack.absent with st := .healthy } svc, by decide +kernel⟩,
   ⟨0, packIs { Pack.absent with st := .healthy } (svc.setFld GLB_IST_CTL_PACK_EN 1), by decide +kernel⟩,
   ⟨0, 0, packIs { Pack.absent with st := .healthy, retryAt := some 0 } svc, by decide +kernel⟩,
   ⟨0, 540, 530, 490, 1000000, _, _, packIs { Pack.absent with st := .testing, test := .loaded } svc, _, by decide +kernel,
     by decide +kernel, rfl, rfl, rfl⟩,
   ⟨dsc 0x73 [0], packIs { Pack.absent with st := .endOfLife } run, _, long_of (by decide +kernel), by decide +kernel⟩⟩

/-- The conditions of `NandModules` are met. -/
theorem witness_NandModules :
    (∃ (m : Fin 4) (x : NandModule) (s u : State), s.nand.modules.getLsbD m.val = false ∧ x.refusal s.nand.geom = none ∧ x.blocks = []
      ∧ u =
      { s with nand := { s.nand with modules := s.nand.modules ||| BitVec.twoPow 4 m.val, geom := some (s.nand.geom.getD (x.die 0 0).geom), inited := s.nand.inited ||| BitVec.twoPow 4 m.val } }) ∧
    (∃ (n : NfId) (s : State), (s.nf n.val).dies ≠ 0 ∧ (s.nf n.val).st = .absent) ∧
    (∃ (d : Desc) (n : Nat) (ns : List Nat) (s t u : State), longRuns s d 5 t ∧ t.rings.ops = [] ∧ t.nand.map = [] ∧ ((moduleChans
      (d.bits 2 1 0)).filter fun n => (t.nf n).st == .serving) = n :: ns ∧ u = t.startOp (.evacModule (d.bits 2 1 0)) d.src (some 0)) ∧
    (∃ (m : Fin 4) (o : LongOp) (s : State), (s.rings.ops.find? fun o => o.kind == .evacModule m.val && o.st == .running) = some o ∧
      s.homesOn m.val = []) ∧
    (∃ (m : Fin 4) (s : State), s.nand.modules.getLsbD m.val = true ∧ (∀ n, (s.nf n) = NandCh.absent) ∧ s.tier.wbs = [] ∧ s.per.wts =
      [] ∧ s.nand.erases = [] ∧ s.nand.map = [] ∧ s.nand.home = [] ∧ s.nand.chans = []) :=
  ⟨⟨0, ⟨0, die0, [], true, []⟩, svc, _, by decide +kernel, by decide +kernel, by decide +kernel, rfl⟩,
   ⟨0, nf0 { NandCh.absent with dies := 8 } svc, by decide +kernel⟩,
   ⟨dsc 0x24 [0], 0, [], nf0 { NandCh.absent with dies := 8, st := .serving } run, _, _, long_of (by decide +kernel),
     by decide +kernel, by decide +kernel, by decide +kernel, rfl⟩,
   ⟨0, opRun (.evacModule 0), withOp (opRun (.evacModule 0)) svc, by decide +kernel⟩,
   ⟨0, { svc with nand := { svc.nand with modules := 1 } }, by decide +kernel, fun _ => rfl, by decide +kernel⟩⟩

/-- The conditions of `NandHousekeeping` are met. -/
theorem witness_NandHousekeeping :
    (∃ (n : NfId) (die : Fin 32) (b : Fin 16384) (t0 t1 : Nat) (s : State), s.nandPowered = true ∧ (s.block n.val die.val b.val).deep
      = [t0, t1] ∧ s.timeNs ≤ t0 + 3600 * 10 ^ 9 ∧ s.timeNs ≤ t1 + 3600 * 10 ^ 9 ∧ (s.block n.val die.val b.val).status = 0 ∧ (s.block
      n.val die.val b.val).moves = 0) ∧
    (∃ (n : NfId) (die : Fin 32) (b : Nat) (x : NandBlock) (s : State), s.nandPowered = true ∧ ((s.listedBlocks n.val die.val).filter
      fun e => s.blockUse n.val die.val e.1 == 0 && e.2.status == 0 && e.2.state == .closed) = [(b, x)] ∧ (s.validOn n.val die.val
      b).length < s.blockWords) ∧
    (∃ (n : NfId) (die : Fin 32) (b : Fin 16384) (e : NandErase) (s u : State), s.eraseOf n.val die.val b.val = some e ∧ e.suspended =
      none ∧ s.peRated = 0 ∧ u =
      { s with nand := { s.nand with erases := s.nand.erases.filter fun (x : NandErase) => ! (x.ch == n.val && x.die == die.val && x.block == b.val) } }) ∧
    (∃ (n : NfId) (die : Fin 32) (s : State), s.dieReads n.val die.val = false ∧ s.nandPowered = true) ∧
    (∃ (n : NfId) (die : Fin 32) (b : Fin 16384) (e : NandErase) (s : State), s.eraseOf n.val die.val b.val = some e ∧ e.starved =
      false ∧ 10 ^ 9 < s.suspendedFor e) ∧
    (∃ (n : NfId) (die : Fin 32) (b : Fin 16384) (e : NandErase) (s : State), s.eraseOf n.val die.val b.val = some e ∧ e.guarded =
      false ∧ s.fld NF_ERASE_CTL_ERASE_GUARD_MS n.val ≠ 0 ∧ s.fld NF_ERASE_CTL_ERASE_GUARD_MS n.val * 10 ^ 6 ≤ s.suspendedFor e ∧
      s.nandPowered = true) ∧
    (∃ (n : NfId) (lo hi d b : Nat) (x : NandBlock) (rest : List (Nat × NandBlock)) (s : State), s.ecSum n.val = (lo, hi) ∧ s.fld
      NF_WL_CTL_WL_DELTA n.val < hi - lo ∧ s.nandPowered = true ∧ s.diesOf n.val = [d] ∧ s.listedBlocks n.val d = (b, x) :: rest ∧
      s.blockUse n.val d b = 0 ∧ x.status = 0 ∧ x.ec = lo ∧ x.state = .closed) ∧
    (∃ (s u : State), 65536 ≤ s.nand.sinceCkpt ∧ s.nandPowered = true ∧ s.servingNf ≠ [] ∧ u = s.countPrograms 0
      s.nand.mapDirty.length) ∧
    (∃ (s : State), s.mc.mode = .boot ∧ s.per.clean = none) ∧
    (∃ (s : State), s.per.rehRunning = false ∧ s.nandPowered = true ∧ s.mc.mode = .service ∧ s.imageFree false = true) ∧
    (∃ (w : BitVec 24) (s u : State), s.per.rehRunning = true ∧ u = s.addRehearsal w.toNat ∧ s.mc.mode = .save) ∧
    (∃ (s u : State), (s.image false).st = .erasing ∧ s.nandPowered = true ∧ u = s.setImage false { s.image false with st := .free }) ∧
    (∃ (s u : State), u = s.takeTokens 0 ∧ u.debt ≠ 0 ∧ u.nand.overAt = none) ∧
    (∃ (r : Fin 2) (s u : State), s.nand.brownout = 0 ∧ s.nandPowered = true ∧ u =
      { s with nand := { s.nand with brownout := BitVec.twoPow 2 r.val } }) :=
  ⟨⟨0, 0, 3, 0, 0, withBlocks [(3, { NandBlock.fresh with deep := [0, 0] })] { svc with timeNs := 3600 * 10 ^ 9 }, by decide +kernel⟩,
   ⟨0, 0, 3, { NandBlock.fresh with state := .closed },
     { svc with nand := { svc.nand with blocks := [(3, { NandBlock.fresh with state := .closed })], geom := some { die0.geom with slcWords := 0 } } },
     by decide +kernel⟩,
   ⟨0, 0, 3, ⟨0, 0, 3, none, 0, false, false⟩, withErase ⟨0, 0, 3, none, 0, false, false⟩ svc, _, by decide +kernel,
     by decide +kernel, by decide +kernel, rfl⟩,
   ⟨0, 0, svc, by decide +kernel⟩,
   ⟨0, 0, 3, ⟨0, 0, 3, some 0, 0, false, false⟩, withErase ⟨0, 0, 3, some 0, 0, false, false⟩ { svc with timeNs := 10 ^ 9 + 1 },
     by decide +kernel⟩,
   ⟨0, 0, 3, ⟨0, 0, 3, some 0, 0, false, false⟩, withErase ⟨0, 0, 3, some 0, 0, false, false⟩
     { svc.setFld NF_ERASE_CTL_ERASE_GUARD_MS 10 0 with timeNs := 10 ^ 7 }, by decide +kernel⟩,
   ⟨0, 0, 201, 0, 3, { NandBlock.fresh with state := .closed }, [(4, { NandBlock.fresh with ec := 201 })], withBlocks [(3,
     { NandBlock.fresh with state := .closed }), (4, { NandBlock.fresh with ec := 201 })] oneDie, by decide +kernel⟩,
   ⟨{ oneDie with nand := { oneDie.nand with sinceCkpt := 65536 } }, _, by decide +kernel, by decide +kernel, by decide +kernel, rfl⟩,
   ⟨at_ .boot, by decide +kernel⟩,
   ⟨oneDie, by decide +kernel⟩,
   ⟨7, { at_ .save with per := { Persist.reset with rehRunning := true } }, _, by decide +kernel, rfl, by decide +kernel⟩,
   ⟨{ svc with per := { svc.per with imageA := { Image.empty with st := .erasing } } }, _, by decide +kernel, by decide +kernel, rfl⟩,
   ⟨{ svc.setFld NF_ENDUR_CTL_DWB_TARGET_GIB 1 with nand := { svc.nand with tokens := -5 } }, _, rfl, by decide +kernel⟩,
   ⟨0, svc, _, by decide +kernel, by decide +kernel, rfl⟩⟩

set_option maxRecDepth 100000 in
/-- The conditions of `PlansAndObjects` are met. -/
theorem witness_PlansAndObjects :
    (∃ (n layer entry : Nat) (x : Stream) (p : Plan) (s : State), (s.tier.streams.find? fun x => x.number == n) = some x ∧ s.planAt
      x.plan = some p ∧ s.mc.mode.serving = true ∧ p.started = true ∧ x.inflight.contains (layer, entry) = true ∧ (p.image.entryOf
      x.idx layer entry).kind = 1 ∧ (p.image.entryOf x.idx layer entry).pitch = 0) ∧
    (∃ (k : Fin 64) (ms : Fin 32) (x : Stream) (p : Plan) (s : State), s.planAt k.val = some p ∧ (s.tier.streams.find? fun x => x.plan
      == p.slot && (p.image.streams.getD x.idx ⟨2, false, 0, 0, 1, 0⟩).msIndex == ms.val) = some x ∧ p.started = true ∧
      s.mc.mode.serving = true) ∧
    (∃ (d : Desc) (f : Nat) (s t u : State), descRuns s d 3 t ∧ t.mc.mode = .service ∧ (t.regionOfRange (d.dpa 2) 64).isSome = true ∧
      (t.regionOfRange (d.dpa 2) (d.word 4).toNat).isSome = true ∧ t.planFault (d.dpa 2) (d.word 4).toNat = none ∧ t.tier.plans = [] ∧
      t.tier.streams = [] ∧ t.freeStreams (t.readPlan (d.dpa 2)).streams.length = some f ∧ (t.readPlan (d.dpa 2)).length ≤ 2 ^ 28 ∧ u
      =
      { t with tier := { t.tier with plans := [Plan.mk 0 (t.readPlan (d.dpa 2)) f false none none], streams := (List.range (t.readPlan (d.dpa 2)).streams.length).map fun i => ⟨f + i, 0, i, .idle, 0, 0, 0, 0, 0, [], [], [], none, 0⟩ } }) ∧
    (∃ (d : Desc) (p : Plan) (s t u : State), longRuns s d 3 t ∧ t.mc.mode = .service ∧ t.planAt (d.bits 2 5 0) = some p ∧ p.started =
      false ∧ (∀ q ∈ t.tier.plans, q.started = false) ∧ (∀ k ∈ t.planKeys p.image, t.keyLoaded k = true) ∧ u = (((t.startOp
      (.planStart p.slot) d.src none).log 0x6011 .info (srcTier 0) p.slot (d.word 3).toNat).activity).setPlan
      { p with started := true, startOp := some t.nextOpSlot }) ∧
    (∃ (d : Desc) (p : Plan) (s t : State), longRuns s d 3 t ∧ t.planAt (d.bits 2 5 0) = some p ∧ p.stopBy = none) ∧
    (∃ (k : Fin 64) (p : Plan) (c : CmdSrc) (s u : State), s.planAt k.val = some p ∧ p.stopBy = some (c, false) ∧ p.startOp = none ∧
      (∀ x ∈ s.streamsOf p.slot, x.inflight = []) ∧ u = (s.endPlan p .ok).log 0x6012 .info (srcTier 0) p.slot 0 ∧ u.rings.ops = []) ∧
    (∃ (d : Desc) (i : Nat) (r : Region) (o : LongOp) (s t u : State), longRuns s d 3 t ∧ d.word 6 = 0 ∧ d.dpa 2 % 4096 = 0 ∧ 1 ≤
      (d.word 4).toNat ∧ (d.word 4).toNat ≤ 1048576 ∧ t.regionOfRange (d.dpa 2) ((d.word 4).toNat * 4096) = some (i, r) ∧ r.cls =
      .cached ∧ t.rings.ops = [] ∧ t.mc.mode = .service ∧ u = (t.startOp (.objectPlace (d.dpa 2 / 4096) (d.word 4).toNat 0) d.src
      (some (d.word 4).toNat)).activity ∧ u.opAt t.nextOpSlot = some o) ∧
    (∃ (d : Desc) (i : Nat) (r : Region) (o : LongOp) (s t u : State), longRuns s d 3 t ∧ d.word 6 = 0 ∧ d.dpa 2 % 4096 = 0 ∧ 1 ≤
      (d.word 4).toNat ∧ (d.word 4).toNat ≤ 1048576 ∧ t.regionOfRange (d.dpa 2) ((d.word 4).toNat * 4096) = some (i, r) ∧ r.cls =
      .cached ∧ t.rings.ops = [] ∧ t.mc.mode = .service ∧ u = (t.startOp (.objectPlace (d.dpa 2 / 4096) (d.word 4).toNat 1) d.src
      (some (d.word 4).toNat)).activity ∧ u.opAt t.nextOpSlot = some o) ∧
    (∃ (d : Desc) (i : Nat) (r : Region) (o : LongOp) (s t u : State), longRuns s d 3 t ∧ d.word 6 = 0 ∧ d.dpa 2 % 4096 = 0 ∧ 1 ≤
      (d.word 4).toNat ∧ (d.word 4).toNat ≤ 1048576 ∧ t.regionOfRange (d.dpa 2) ((d.word 4).toNat * 4096) = some (i, r) ∧ r.cls =
      .cached ∧ t.rings.ops = [] ∧ t.mc.mode = .service ∧ u = (t.startOp (.objectPlace (d.dpa 2 / 4096) (d.word 4).toNat 2) d.src
      (some (d.word 4).toNat)).activity ∧ u.opAt t.nextOpSlot = some o) ∧
    (∃ (d : Desc) (i : Nat) (r : Region) (o : LongOp) (s t u : State), longRuns s d 3 t ∧ d.word 6 = 0 ∧ d.dpa 2 % 4096 = 0 ∧ 1 ≤
      (d.word 4).toNat ∧ (d.word 4).toNat ≤ 1048576 ∧ t.regionOfRange (d.dpa 2) ((d.word 4).toNat * 4096) = some (i, r) ∧ r.cls =
      .cached ∧ t.rings.ops = [] ∧ t.mc.mode = .service ∧ u = (t.startOp (.objectPlace (d.dpa 2 / 4096) (d.word 4).toNat 3) d.src
      (some (d.word 4).toNat)).activity ∧ u.opAt t.nextOpSlot = some o) :=
  ⟨⟨0, 0, 0, str1, { plan0 with started := true }, withPlan { plan0 with started := true } [str1] svc, by decide +kernel⟩,
   ⟨0, 0, str1, { plan0 with started := true }, withPlan { plan0 with started := true } [str1] svc, by decide +kernel⟩,
   ⟨dsc 0x30 [0x600000, 0, 128], 0, planMem, _, _, runs_of (by decide +kernel), by decide +kernel, by decide +kernel,
     by decide +kernel, by decide +kernel, by decide +kernel, by decide +kernel, by decide +kernel, by decide +kernel, rfl⟩,
   ⟨dsc 0x31 [0, 0], plan0, withRgn { rgn0 with cls := .scratch } (withPlan plan0 [] run), _, _, long_of (by decide +kernel),
     by decide +kernel, by decide +kernel, by decide +kernel, by decide +kernel, by decide +kernel, rfl⟩,
   ⟨dsc 0x32 [0], plan0, withPlan plan0 [] run, _, long_of (by decide +kernel), by decide +kernel⟩,
   ⟨0, { plan0 with stopBy := some (src0, false) }, src0, withPlan { plan0 with stopBy := some (src0, false) } [] run, _,
     by decide +kernel, by decide +kernel, by decide +kernel, by decide +kernel, rfl, by decide +kernel⟩,
   ⟨dsc 0x33 [0, 0, 1, 0, 0], 0, cached0, _, withRgn cached0 run, _, _, long_of (by decide +kernel), by decide +kernel,
     by decide +kernel, by decide +kernel, by decide +kernel, by decide +kernel, by decide +kernel, by decide +kernel,
     by decide +kernel, rfl, Option.eq_some_of_isSome (by decide +kernel)⟩,
   ⟨dsc 0x33 [0, 0, 1, 1, 0], 0, cached0, _, withRgn cached0 run, _, _, long_of (by decide +kernel), by decide +kernel,
     by decide +kernel, by decide +kernel, by decide +kernel, by decide +kernel, by decide +kernel, by decide +kernel,
     by decide +kernel, rfl, Option.eq_some_of_isSome (by decide +kernel)⟩,
   ⟨dsc 0x33 [0, 0, 1, 2, 0], 0, cached0, _, withRgn cached0 run, _, _, long_of (by decide +kernel), by decide +kernel,
     by decide +kernel, by decide +kernel, by decide +kernel, by decide +kernel, by decide +kernel, by decide +kernel,
     by decide +kernel, rfl, Option.eq_some_of_isSome (by decide +kernel)⟩,
   ⟨dsc 0x33 [0, 0, 1, 3, 0], 0, cached0, _, withRgn cached0 run, _, _, long_of (by decide +kernel), by decide +kernel,
     by decide +kernel, by decide +kernel, by decide +kernel, by decide +kernel, by decide +kernel, by decide +kernel,
     by decide +kernel, rfl, Option.eq_some_of_isSome (by decide +kernel)⟩⟩

/-- The conditions of `CxlLinks` are met. -/
theorem witness_CxlLinks :
    (∃ (p : PortId) (s : State), s.mayTrain p.val = true ∧ bifurLinks (s.bifur p.val) = 1) ∧
    (∃ (p : PortId) (l : LinkId) (s u : State), (s.linkAt p.val l.val).up = true ∧ s.mc.mode = .service ∧ u = s.dropRequests p.val
      (fun ld => s.ldLink p.val ld == l.val) ∧ u.mc.mode = .service) ∧
    (∃ (p : PortId) (l : LinkId) (s u : State), (s.linkAt p.val l.val).up = true ∧ (s.linkAt p.val l.val).lds = 0 ∧ u =
      (((s.dropRequests p.val fun ld => s.ldLink p.val ld == l.val).resetDecoders p.val (s.linkLds p.val l.val)).clearViral p.val
      l.val)) ∧
    (∃ (p : PortId) (ld : Fin 16) (s u : State), s.ldEnabled p.val ld.val = true ∧ u = (((s.dropRequests p.val fun k => k ==
      ld.val).resetDecoders p.val [ld.val]).clearViral p.val (s.ldLink p.val ld.val)) ∧ u.ldLink p.val ld.val = s.ldLink p.val ld.val) ∧
    (∃ (p : PortId) (s u : State), s.mc.mode ≠ .off ∧ u =
      { s with ports := { s.ports with perst := s.ports.perst ||| BitVec.ofNat 8 (2 ^ p.val) } }) ∧
    (∃ (p : PortId) (l : LinkId) (s : State), (s.linkAt p.val l.val).up = true ∧ (s.linkAt p.val l.val).viral = false) ∧
    (∃ (p : PortId) (l : LinkId) (s : State), (s.linkAt p.val l.val).up = true ∧ (s.linkAt p.val l.val).viral = false) :=
  ⟨⟨0, svc, by decide +kernel⟩,
   ⟨0, 0, link0 svc, _, by decide +kernel, by decide +kernel, rfl, by decide +kernel⟩,
   ⟨0, 0, linkL1 svc, _, by decide +kernel, by decide +kernel, rfl⟩,
   ⟨0, 0, link0 svc, _, by decide +kernel, rfl, by decide +kernel⟩,
   ⟨0, svc, _, by decide +kernel, rfl⟩,
   ⟨0, 0, link0 svc, by decide +kernel⟩,
   ⟨0, 0, link0 svc, by decide +kernel⟩⟩

/-- The conditions of `IdeEthernetRailsAndClocks` are met. -/
theorem witness_IdeEthernetRailsAndClocks :
    (∃ (p : PortId) (l : LinkId) (s : State), (s.linkAt p.val l.val).up = true ∧ 2 ≤ (s.linkAt p.val l.val).ver ∧ s.sec.doeSessions ≠
      0) ∧
    (∃ (p : PortId) (l : LinkId) (s : State), (s.linkAt p.val l.val).up = true) ∧
    (∃ (p : PortId) (l : LinkId) (s : State), (s.linkAt p.val l.val).up = true) ∧
    (∃ (e : CwId) (s : State), s.mc.mode = .service ∧ s.clk.refLost.getLsbD (4 + e.val / 2) = false ∧ s.pw.railFault.getLsbD 3 =
      false) ∧
    (∃ (r : Fin 6) (s : State), s.mc.mode = .service ∧ s.pw.railEn.getLsbD r.val = true ∧ s.pw.railFault.getLsbD r.val = false ∧ r.val
      ≠ 3) ∧
    (∃ (r : Fin 6) (s : State), s.mc.mode = .service ∧ s.pw.railFault.getLsbD r.val = true ∧ r.val ≠ 2) ∧
    (∃ (s : State), s.mc.mode = .service ∧ s.clk.refLost.getLsbD 6 = false) ∧
    (∃ (s : State), s.mc.mode = .service ∧ s.clk.refLost.getLsbD 6 = true) :=
  ⟨⟨0, 0, { link0 svc with sec := { svc.sec with doeSessions := 1 } }, by decide +kernel⟩,
   ⟨0, 0, link0 svc, by decide +kernel⟩,
   ⟨0, 0, link0 svc, by decide +kernel⟩,
   ⟨0, svc, by decide +kernel⟩,
   ⟨0, { svc with pw := { svc.pw with railEn := 1 } }, by decide +kernel⟩,
   ⟨0, { svc with pw := { svc.pw with railFault := 1 } }, by decide +kernel⟩,
   ⟨svc, by decide +kernel⟩,
   ⟨{ svc with clk := { svc.clk with refLost := 64 } }, by decide +kernel⟩⟩

/-- The conditions of `RegisterAccess` are met. -/
theorem witness_RegisterAccess :
    (∃ (off : BitVec 26) (v : Word) (r : RegName) (i j w : Nat) (s : State), s.hostBar = true ∧ off.toNat % 4 = 0 ∧ locateReg
      off.toNat = some (r, i, j, w) ∧ (r.fields.filter fun f => f.acc == .rc && f.word == w) = [] ∧ r ≠ .TIER_LAYBY_STAT ∧ r ≠ .NF_MAP
      ∧ v = s.view false r i j w) ∧
    (∃ (off : BitVec 26) (r : RegName) (i j w : Nat) (s : State), s.hostBar = true ∧ off.toNat % 4 = 0 ∧ locateReg off.toNat = some
      (r, i, j, w) ∧ (r.fields.filter fun f => f.acc == .rc && f.word == w) ≠ [] ∧ r ≠ .TIER_LAYBY_STAT ∧ r ≠ .NF_MAP) ∧
    (∃ (off : BitVec 26) (s : State), s.hostBar = true ∧ s.bmcBar = true ∧ s.ccRuns = true ∧ off.toNat % 4 = 0) ∧
    (∃ (off : BitVec 26) (s : State), s.hostBar = true ∧ s.bmcBar = true ∧ s.ccRuns = true ∧ off.toNat % 4 ≠ 0) ∧
    (∃ (off : BitVec 26) (s : State), s.hostBar = true ∧ locateReg (off.toNat / 4 * 4) = none) ∧
    (∃ (s : State), s.hostBar = true ∧ s.flag GLB_LOCK_LOCK = false) ∧
    (∃ (t : Nat) (s : State), s.regu.serviceAt = some t ∧ s.fld GLB_LOCK_AUTO_LOCK_MIN ≠ 0 ∧ t + s.fld GLB_LOCK_AUTO_LOCK_MIN * 60 *
      10 ^ 9 ≤ s.timeNs ∧ s.flag GLB_LOCK_LOCK = false) :=
  ⟨⟨0, _, .GLB_ID, 0, 0, 0, svc, by decide +kernel, by decide +kernel, by decide +kernel, by decide +kernel, by decide +kernel,
     by decide +kernel, rfl⟩,
   ⟨BitVec.ofNat 26 (RegName.RGN_UNMAPPED_CNT.offset 0 0 0), .RGN_UNMAPPED_CNT, 0, 0, 0, svc, by decide +kernel⟩,
   ⟨16, { svc with pw := { svc.pw with ioOk := true } }, by decide +kernel⟩,
   ⟨3, { svc with pw := { svc.pw with ioOk := true } }, by decide +kernel⟩,
   ⟨0x3FFFFFF, svc, by decide +kernel⟩,
   ⟨svc, by decide +kernel⟩,
   ⟨0, { svc.setFld GLB_LOCK_AUTO_LOCK_MIN 1 with timeNs := 60 * 10 ^ 9, regu := { svc.regu with serviceAt := some 0 } },
     by decide +kernel⟩⟩

/-- The conditions of `KeysAndHkek` are met. -/
theorem witness_KeysAndHkek :
    (∃ (d : Desc) (key : WrappedKey) (k1 k2 : BitVec 256) (x : KeySlot) (s t : State), descRuns s d 4 t ∧ (d.word 6).toNat = 124 ∧
      key.headerOk = true ∧ key.slot.toNat = d.bits 2 11 0 ∧ key.opened = some (true, k1, k2) ∧ t.sec.store = .unlocked ∧ t.keyRefs
      (d.bits 2 11 0) = 0 ∧ x = { (t.keySlot (d.bits 2 11 0)).to .loaded with key1 := k1, key2 := k2, stored := some (k1, k2) }) ∧
    (∃ (d : Desc) (x : KeySlot) (s t : State), descRuns s d 4 t ∧ d.word 6 = 0 ∧ t.sec.store = .unlocked ∧ t.keyRefs (d.bits 2 11 0) =
      0 ∧ x = { (t.keySlot (d.bits 2 11 0)).to .empty with key1 := 0, key2 := 0, stored := none }) ∧
    (∃ (d : Desc) (r : Region) (s t : State), longRuns s d 4 t ∧ t.region d.rgnIdx = r ∧ r.valid = true ∧ t.keyLoaded (d.bits 3 11 0)
      = true ∧ t.sec.rotations = [] ∧ d.bits 3 11 0 ≠ r.key.toNat) ∧
    (∃ (i : Fin 4096) (x : Rotation) (s u : State), s.rotationOf i.val = some x ∧ (s.region i.val).size.toNat ≤ x.cursor ∧ x.waiting =
      true ∧ s.inImages (s.region i.val) = false ∧ u =
      ({ s with sec := { s.sec with rotations := s.sec.rotations.filter fun y => y.region != i.val } }).log 0x7004 .notice srcSec
      i.val x.old x.new ∧ u.rings.ops = []) ∧
    (∃ (s : State), s.ccRuns = true ∧ s.buffered = [] ∧ s.sec.refusedUntil ≤ s.timeNs ∧ s.sec.store = .unprovisioned ∧ s.sec.check =
      none) ∧
    (∃ (h : BitVec 256) (s : State), s.ccRuns = true ∧ s.buffered = [] ∧ s.sec.refusedUntil ≤ s.timeNs ∧ s.sec.store = .locked ∧
      s.sec.check = some (checkValue h)) ∧
    (∃ (s : State), s.ccRuns = true ∧ s.buffered = [] ∧ s.sec.refusedUntil ≤ s.timeNs ∧ s.sec.store = .unlocked) :=
  ⟨⟨dsc 0x50 [5, 0, 0, 0, 124], key5, 1, 2, _, secIs { Security.reset with store := .unlocked } run, _, runs_of (by decide +kernel),
     by decide +kernel, by decide +kernel, by decide +kernel, by decide +kernel, by decide +kernel, by decide +kernel, rfl⟩,
   ⟨dsc 0x50 [5, 0, 0, 0, 0], _, secIs { Security.reset with store := .unlocked } run, _, runs_of (by decide +kernel),
     by decide +kernel, by decide +kernel, by decide +kernel, rfl⟩,
   ⟨dsc 0x51 [0, 1], rgn0, secIs { Security.reset with slots := [(1, { KeySlot.empty with st := .loaded })] }
     { run with rgn := { run.rgn with table := [(0, rgn0)] } }, _, long_of (by decide +kernel), by decide +kernel⟩,
   ⟨0, rot0, secIs { Security.reset with rotations := [rot0] } (withRgn rgn0 svc), _, by decide +kernel, by decide +kernel,
     by decide +kernel, by decide +kernel, rfl, by decide +kernel⟩,
   ⟨svc, by decide +kernel⟩,
   ⟨5, secIs { Security.reset with store := .locked, check := some (checkValue 5) } svc, by decide +kernel, by decide +kernel,
     by decide +kernel, by decide +kernel, rfl⟩,
   ⟨secIs { Security.reset with store := .unlocked } svc, by decide +kernel⟩⟩

/-- The conditions of `AlarmsAndAttestation` are met. -/
theorem witness_AlarmsAndAttestation :
    (∃ (k : Fin 4) (s u : State), k.val ≠ 3 ∧ s.sec.alarms ≠ 0xFFFF#16 ∧ u =
      ({ s with sec := { s.sec with latched := s.sec.latched ||| BitVec.twoPow 4 k.val, active := s.sec.active ||| BitVec.twoPow 4 k.val, alarms := s.sec.alarms + 1 } }
      : State).zeroise .hold) ∧
    (∃ (b : BitVec 4) (s : State), s.sec.latched = b ∧ b ≠ 0 ∧ s.sec.store = .hold ∧ s.sec.check = none) ∧
    (∃ (s : State), s.sec.entropyOk = true) ∧
    (∃ (s : State), s.sec.entropyOk = false ∧ s.sec.maskDegraded = false) ∧
    (∃ (s : State), s.sec.entropyOk = true) ∧
    (∃ (s : State), s.ccRuns = true ∧ s.buffered = []) ∧
    (∃ (s : State), s.ccRuns = true ∧ s.buffered = [] ∧ s.sec.entropyOk = true ∧ s.sec.doeSessions < 4) :=
  ⟨⟨0, svc, _, by decide +kernel, by decide +kernel, rfl⟩,
   ⟨1, secIs { Security.reset with latched := 1, store := .hold } svc, by decide +kernel⟩,
   ⟨secIs { Security.reset with entropyOk := true } svc, by decide +kernel⟩,
   ⟨svc, by decide +kernel⟩,
   ⟨secIs { Security.reset with entropyOk := true } svc, by decide +kernel⟩,
   ⟨svc, by decide +kernel⟩,
   ⟨secIs { Security.reset with entropyOk := true, doeSessions := 3 } svc, by decide +kernel⟩⟩

/-- The conditions of `StackService` are met. -/
theorem witness_StackService :
    (∃ (s u : State), s.stackRuns = true ∧ s.isMaster = true ∧ s.stk.seated = true ∧ s.fld GLB_STACK_CFG_SIZE_M1 = 1 ∧ s.stackPos = 0
      ∧ s.stk.missed = [] ∧ s.stk.live = 3#4 ∧ u = s.emit (.stack 0 [0])) ∧
    (∃ (m : Fin 4) (live : BitVec 4) (s u : State), s.stackRuns = true ∧ m.val ≠ s.stackPos ∧ s.stk.seated = true ∧ s.stk.master =
      m.val ∧ u = ({ s with stk := { s.stk with lastHb := s.timeNs } } : State).setLive (live ||| BitVec.twoPow 4 m.val |||
      BitVec.twoPow 4 s.stackPos)) ∧
    (∃ (s u : State), s.stackRuns = true ∧ s.isMaster = false ∧ s.stk.lastHb + (s.fld GLB_STACK_CFG_ELECT_MS + 20 * s.stackPos) *
      1000000 ≤ s.timeNs ∧ u = (s.setMaster s.stackPos 2).setLive ((s.setMaster s.stackPos 2).stk.live ||| BitVec.twoPow 4
      s.stackPos)) ∧
    (∃ (s : State), s.stackRuns = true ∧ s.isMaster = true ∧ s.stk.live.getLsbD 0 = true ∧ 0 < s.stackPos) ∧
    (∃ (x : StackRegion) (s : State), s.stackRuns = true ∧ x.member ≠ s.stackPos ∧ s.isMaster = true ∧ stackClash (s.ownRanges ++
      s.stk.ranges.filter fun r => s.stk.live.getLsbD r.member) x = none) ∧
    (∃ (x : StackRegion) (m f : Nat) (s : State), s.stackRuns = true ∧ x.member ≠ s.stackPos ∧ s.isMaster = true ∧ stackClash
      (s.ownRanges ++ s.stk.ranges.filter fun r => s.stk.live.getLsbD r.member) x = some (m, f)) ∧
    (∃ (s : State), s.stk.waiting ≠ [] ∧ s.electing = true ∧ s.stk.waitFrom + 10 ^ 9 ≤ s.timeNs) :=
  ⟨⟨stack2 0 0 3, _, by decide +kernel, by decide +kernel, by decide +kernel, by decide +kernel, by decide +kernel, by decide +kernel,
     by decide +kernel, rfl⟩,
   ⟨0, 1, stack2 1 0 3, _, by decide +kernel, by decide +kernel, by decide +kernel, by decide +kernel, rfl⟩,
   ⟨{ stack2 1 0 3 with timeNs := 120 * 10 ^ 6 }, _, by decide +kernel, by decide +kernel, by decide +kernel, rfl⟩,
   ⟨stack2 1 1 3, by decide +kernel⟩,
   ⟨range1 0, withRgn rgn0 (stack2 0 0 3), by decide +kernel⟩,
   ⟨range1 5, 0, 6, withRgn rgn0 (stack2 0 0 3), by decide +kernel⟩,
   ⟨{ stack2 1 0 3 with timeNs := 10 ^ 9, stk := { (stack2 1 0 3).stk with waiting := [dsc 0x10 []] } }, by decide +kernel⟩⟩

/-- The conditions of `HostMemoryRequests` are met. -/
theorem witness_HostMemoryRequests :
    (∃ (p : PortId) (ld : Fin 16) (a : BitVec 52) (dpa i : Nat) (r : Region) (mac : Bool) (s t : State), s.portAccepts p.val ld.val =
      true ∧ ((s.linkAt p.val (s.ldLink p.val ld.val)).ide = 1 → mac = true) ∧ t = (s.takeEntry p.val ld.val).activity ∧ (s.takeEntry
      p.val ld.val).mc.mode.serving = true ∧ t.memAccess p.val ld.val a.toNat = .allowed i r dpa) ∧
    (∃ (p : PortId) (ld : Fin 16) (a : BitVec 52) (dpa i : Nat) (r : Region) (mac : Bool) (s t : State), s.portAccepts p.val ld.val =
      true ∧ s.admFull (p.val / 2) = false ∧ ((s.linkAt p.val (s.ldLink p.val ld.val)).ide = 1 → mac = true) ∧ t = (s.takeEntry p.val
      ld.val).activity ∧ (s.takeEntry p.val ld.val).mc.mode.serving = true ∧ ((s.takeEntry p.val ld.val).linkAt p.val (s.ldLink p.val
      ld.val)).viral = false ∧ t.memAccess p.val ld.val a.toNat = .allowed i r dpa) ∧
    (∃ (p : PortId) (ld : Fin 16) (mac : Bool) (s t : State), s.portAccepts p.val ld.val = true ∧ ((s.linkAt p.val (s.ldLink p.val
      ld.val)).ide = 1 → mac = true) ∧ t = (s.takeEntry p.val ld.val).activity ∧ (s.takeEntry p.val ld.val).mc.mode.serving = true) ∧
    (∃ (p : PortId) (ld : Fin 16) (mac : Bool) (s t : State), s.portAccepts p.val ld.val = true ∧ ((s.linkAt p.val (s.ldLink p.val
      ld.val)).ide = 1 → mac = true) ∧ t = s.takeEntry p.val ld.val ∧ t.mc.mode.serving = false) ∧
    (∃ (ch : ChId) (l i : Nat) (m : Merge) (r : Region) (errs : List (Fin 40)) (s t : State), ((s.ch ch.val).merges.find? fun m =>
      m.line == l && ! m.recovering) = some m ∧ s.regionOf (64 * l) = some (i, r) ∧ (s.page (l / 64)).st ≠ .filling ∧ s.decodeLine l
      ⟨ch.val, (s.dramAddr r (64 * l) (s.page (l / 64)).way).addr⟩ (errs.map Fin.val) false = (.good, t) ∧ (t.line l).checks l = true) ∧
    (∃ (cw : CwId) (w : AdmWrite) (s t : State), (s.per.adm.find? fun w => w.cw == cw.val) = some w ∧ t =
      { s with per := { s.per with adm := s.per.adm.erase w, stallFrames := 0 } }) ∧
    (∃ (l : Nat) (rd : PendingRead) (s : State), s.tier.reads = [rd] ∧ rd.line = l ∧ s.chans = []) :=
  ⟨⟨0, 0, 0x3FFFC0#52, 0x3FFFC0, 0, { rgn0 with ownerSet := 1 }, false, mem0, _, by decide +kernel, by decide +kernel, rfl,
     by decide +kernel⟩,
   ⟨0, 0, 0x3FFFC0#52, 0x3FFFC0, 0, { rgn0 with ownerSet := 1 }, false, mem0, _, by decide +kernel, by decide +kernel,
     by decide +kernel, rfl, by decide +kernel⟩,
   ⟨0, 0, false, mem0, _, by decide +kernel, by decide +kernel, rfl, by decide +kernel⟩,
   ⟨0, 0, false, { mem0 with mc := { mem0.mc with mode := .restore } }, _, by decide +kernel, by decide +kernel, rfl,
     by decide +kernel⟩,
   ⟨0, 0, 0, ⟨0, 5, 1, .internal, false⟩, rgn0, [], ch0 (withRgn rgn0 svc) (fun c =>
     { c with merges := [⟨0, 5, 1, .internal, false⟩] }), _, by decide +kernel, by decide +kernel, by decide +kernel, pair_of
     (by decide +kernel), by decide +kernel⟩,
   ⟨0, adm0, { svc with per := { svc.per with adm := [adm0] } }, _, by decide +kernel, rfl⟩,
   ⟨0, read0, { svc with tier := { svc.tier with reads := [read0] } }, by decide +kernel⟩⟩

/-- The conditions of `WritebackAndFills` are met. -/
theorem witness_WritebackAndFills :
    (∃ (k i : Nat) (r : Region) (s : State), s.regionOf (4096 * k) = some (i, r) ∧ (s.page k).st = .dirty ∧ s.fullRate = true ∧ r.cls
      ≠ .scratch ∧ s.keysLoaded i r = true ∧ s.tier.retryOff = [] ∧ (∀ l ∈ pageLines k, (s.line l).poison = true ∨ (s.line l).checks l
      = true) ∧ (∃ w, ((s.startWriteback k false).tier.wbs.find? fun w => w.page == k) = some w) ∧ (s.tier.wbs.any fun w => w.page ==
      k) = false) ∧
    (∃ (k : Nat) (w : WriteBack) (s t : State), (s.tier.wbs.find? fun w => w.page == k) = some w ∧ t =
      (({ s with tier := { s.tier with wbs := s.tier.wbs.filter fun x => x.page != k } } : State).unpark k).programHome k w.lines
      w.loc) ∧
    (∃ (k : Nat) (w : WriteBack) (loc : HomeLoc) (s t : State), (s.tier.wbs.find? fun w => w.page == k) = some w ∧ w.failed = false ∧
      (s.programFailed w.loc 1).allocSame w.loc.ch = some (loc, t)) ∧
    (∃ (k : Nat) (w : WriteThrough) (loc : HomeLoc) (s t : State), (s.per.wts.find? fun t => t.page == k) = some w ∧ w.started = false
      ∧ (s.page k).st ≠ .filling ∧ (s.chans.any fun c => c.2.merges.any fun m => m.line / 64 == k) = false ∧ s.allocHome k
      ((s.tier.retryOff.find? fun e => e.1 == k).map Prod.snd) = some (loc, t)) ∧
    (∃ (k : Nat) (w : WriteThrough) (s : State), (s.per.wts.find? fun t => t.page == k && t.started && t.loc.isSome) = some w) ∧
    (∃ (k : Nat) (f : Fill) (s : State), (s.tier.fills.find? fun f => f.page == k) = some f ∧ ((s.regionOf (4096 * k)).any fun e => !
      s.keysLoaded e.1 e.2) = false ∧ (s.unpark k).nand.lost.contains k = false ∧ (∀ l ∈ pageLines k, ((s.unpark k).storedLine
      l).poison = true ∨ ((s.unpark k).storedLine l).checks l = true)) ∧
    (∃ (k : Nat) (f : Fill) (loc : HomeLoc) (s t : State), (s.tier.fills.find? fun f => f.page == k) = some f ∧ t = s.unpark k ∧
      t.fillLoc f = some loc) ∧
    (∃ (k : Nat) (f : Fill) (s : State), (s.tier.fills.find? fun f => f.page == k) = some f ∧ f.step = 12) ∧
    (∃ (k : Nat) (f : Fill) (s : State), (s.tier.fills.find? fun f => f.page == k) = some f ∧ f.step ≠ 12) ∧
    (∃ (k i : Nat) (r : Region) (s t : State) (f : Fill), s.regionOf (4096 * k) = some (i, r) ∧ r.refilling = true ∧ (s.page k).st =
      .filling ∧ (s.tier.fills.find? fun f => f.page == k) = some f ∧ t = s.fillEnds f s.storedLine ∧ t.unfilled r = true) ∧
    (∃ (image : Bool) (k : Nat) (loc : HomeLoc) (s t : State), (s.image image).holds k = true ∧ (s.page k).st = .invalid ∧ (s.page
      k).counted = false ∧ s.allocHome k = some (loc, t)) :=
  ⟨⟨0, 0, rgn0, dirty0, by decide +kernel, by decide +kernel, by decide +kernel, by decide +kernel, by decide +kernel,
     by decide +kernel, fun l _ => .inr (zeroLine_checks l), startWriteback_found (by decide +kernel) (by decide +kernel)
     (allocHome_one (ch := 0) (d := 0) (b := 3) (by decide +kernel) (by decide +kernel) (by decide +kernel) (by decide +kernel)),
     by decide +kernel⟩,
   ⟨0, wb0, withWb dirty0, _, by decide +kernel, rfl⟩,
   ⟨0, wb0, _, withWb dirty0, _, by decide +kernel, by decide +kernel, allocSame_one (d := 0) (b := 4) (by decide +kernel)
     (by decide +kernel)⟩,
   ⟨0, wt0 false, _, withWt false dirty0, _, by decide +kernel, by decide +kernel, by decide +kernel, by decide +kernel, allocHome_one
     (ch := 0) (d := 0) (b := 3) (by decide +kernel) (by decide +kernel) (by decide +kernel) (by decide +kernel)⟩,
   ⟨0, wt0 true, withWt true dirty0, by decide +kernel⟩,
   ⟨0, fill0 1, withFill 1 ((withRgn rgn0 svc).setPage 0 { Page.empty with st := .filling }), by decide +kernel, by decide +kernel,
     by decide +kernel, fun l _ => .inr (zeroLine_checks l)⟩,
   ⟨0, fill0 1, loc0, { withFill 1 svc with nand := { svc.nand with map := [(0, loc0)] } }, _, by decide +kernel, rfl,
     by decide +kernel⟩,
   ⟨0, fill0 12, withFill 12 svc, by decide +kernel⟩,
   ⟨0, fill0 1, withFill 1 svc, by decide +kernel⟩,
   ⟨0, 0, { rgn0 with refilling := true },
     { withFill 1 ((withRgn { rgn0 with refilling := true } svc).setPage 0 { Page.empty with st := .filling }) with nand := { svc.nand with map := [(1, loc0)] } },
     _, fill0 1, by decide +kernel, by decide +kernel, by decide +kernel, by decide +kernel, rfl, by decide +kernel⟩,
   ⟨false, 0, _, { home0 svc with per := { svc.per with imageA := { Image.empty with st := .pending, pages := [0] } } }, _,
     by decide +kernel, by decide +kernel, by decide +kernel, allocHome_one (ch := 0) (d := 0) (b := 3) (by decide +kernel)
     (by decide +kernel) (by decide +kernel) (by decide +kernel)⟩⟩

/-- The conditions of `RdmaRequests` are met. -/
theorem witness_RdmaRequests :
    (∃ (h : RdmaHdr) (r : RdmaReth) (bytes : List Byte) (q dpa : Nat) (g : Nat × Region) (s u : State), s.rdmaStalled h = false ∧
      requestRuns s h q 1 u ∧ (u.qp q).open_ = none ∧ bytes ≠ [] ∧ bytes.length = r.len.toNat ∧ bytes.length ≤ (u.qp q).mtu ∧
      u.mkeyGrants q r.rkey r.va.toNat r.len.toNat 2 = some (g.1, g.2, dpa)) ∧
    (∃ (h : RdmaHdr) (r : RdmaReth) (q dpa dpa' : Nat) (g g' : Nat × Region) (s u : State), s.mkeyGrants (h.qpn.toNat - 0x400) r.rkey
      r.va.toNat r.len.toNat 1 = some (g'.1, g'.2, dpa') ∧ s.writesAhead (h.qpn.toNat - 0x400) (dpa' / 64) (r.len.toNat / 64 + 2) =
      false ∧ requestRuns s h q ((s.qp q).packets r.len.toNat) u ∧ r.len.toNat ≤ 2 ^ 30 ∧ (u.qp q).outstanding < 64 ∧
      ((s.activity.congested q h.ce).qp q).packets r.len.toNat = (s.qp q).packets r.len.toNat ∧ u.mkeyGrants q r.rkey r.va.toNat
      r.len.toNat 1 = some (g.1, g.2, dpa)) ∧
    (∃ (h : RdmaHdr) (rkey : Word) (va x y : BitVec 64) (q l : Nat) (s u t : State), s.rdmaStalled h = false ∧ l = ((s.mkeyGrants q
      rkey va.toNat 8 3).map fun g => g.2.2 / 64).getD 0 ∧ s.writesAhead q l 1 = false ∧ requestRuns s h q 1 u ∧ t = u.rdmaAtomic q
      h.psn.toNat rkey va.toNat 3 true (fun v => if v = x then some y else none) ∧ ((t.tier.wayWrites ++ t.per.adm).any fun w => w.req
      == .rdma q h.psn.toNat l) = false) ∧
    (∃ (h : RdmaHdr) (rkey : Word) (va x : BitVec 64) (q l : Nat) (s u t : State), s.rdmaStalled h = false ∧ l = ((s.mkeyGrants q rkey
      va.toNat 8 3).map fun g => g.2.2 / 64).getD 0 ∧ s.writesAhead q l 1 = false ∧ requestRuns s h q 1 u ∧ t = u.rdmaAtomic q
      h.psn.toNat rkey va.toNat 3 true (fun v => some (v + x)) ∧ ((t.tier.wayWrites ++ t.per.adm).any fun w => w.req == .rdma q
      h.psn.toNat l) = false) ∧
    (∃ (h : RdmaHdr) (rkey : Word) (va x : BitVec 64) (q l : Nat) (s u t : State), s.rdmaStalled h = false ∧ l = ((s.mkeyGrants q rkey
      va.toNat 8 2).map fun g => g.2.2 / 64).getD 0 ∧ s.writesAhead q l 1 = false ∧ requestRuns s h q 1 u ∧ t = u.rdmaAtomic q
      h.psn.toNat rkey va.toNat 2 false (fun _ => some x) ∧ ((t.tier.wayWrites ++ t.per.adm).any fun w => w.req == .rdma q h.psn.toNat
      l) = false) ∧
    (∃ (h : RdmaHdr) (r : RdmaReth) (q : Nat) (g : Nat × Region × Nat) (s u : State), requestRuns s h q 1 u ∧ r.len.toNat ≤ 2 ^ 30 ∧
      (u.qp q).outstanding < 64 ∧ u.mkeyGrants q r.rkey r.va.toNat r.len.toNat 4 = some g) ∧
    (∃ (h : RdmaHdr) (r : RdmaReth) (bytes : List Byte) (q : Nat) (s u : State), s.rdmaStalled h = false ∧ requestRuns s h q 1 u ∧
      (u.qp q).open_ = none ∧ bytes ≠ [] ∧ bytes.length = r.len.toNat ∧ bytes.length ≤ (u.qp q).mtu ∧ u.mkeyGrants q r.rkey r.va.toNat
      r.len.toNat 2 = none) :=
  ⟨⟨hdr0, ⟨0, 0x3FFFFF, 1⟩, [5], 0, 0x3FFFFF, (0, { rgn0 with persist := false }), rdma0 (qpRts false), _, by decide +kernel,
     request_of (by decide +kernel) (by decide +kernel), by decide +kernel⟩,
   ⟨hdr0, ⟨0, 0, 64⟩, 0, 0, 0, (0, { rgn0 with persist := false }), (0, { rgn0 with persist := false }), rdma0 (qpRts false), _,
     by decide +kernel, by decide +kernel, request_of (by decide +kernel) (by decide +kernel), by decide +kernel⟩,
   ⟨hdr0, 0, 0, 0, 9, 0, 0, rdma0 (qpRts false), _, _, by decide +kernel, by decide +kernel, by decide +kernel, request_of
     (by decide +kernel) (by decide +kernel), rfl, by decide +kernel⟩,
   ⟨hdr0, 0, 0, 9, 0, 0, rdma0 (qpRts false), _, _, by decide +kernel, by decide +kernel, by decide +kernel, request_of
     (by decide +kernel) (by decide +kernel), rfl, by decide +kernel⟩,
   ⟨hdr0, 0, 0, 9, 0, 0, rdma0 (qpRts false), _, _, by decide +kernel, by decide +kernel, by decide +kernel, request_of
     (by decide +kernel) (by decide +kernel), rfl, by decide +kernel⟩,
   ⟨hdr0, ⟨0, 0, 0x400000⟩, 0, (0, { rgn0 with persist := false }, 0), rdma0 (qpRts false), _, request_of (by decide +kernel)
     (by decide +kernel), by decide +kernel⟩,
   ⟨hdr0, ⟨0, 0x400000, 1⟩, [5], 0, rdma0 (qpRts false), _, by decide +kernel, request_of (by decide +kernel) (by decide +kernel),
     by decide +kernel⟩⟩

/-- The conditions of `RdmaRequester` are met. -/
theorem witness_RdmaRequester :
    (∃ (h : RdmaHdr) (q : Nat) (s t : State), packetRuns s h q t) ∧
    (∃ (h : RdmaHdr) (q i : Nat) (s t u : State), packetRuns s h q t ∧ u = State.retireItems q (t.qp q).items.length (t.setQp q
      { t.qp q with items := ackItems ((h.psn.toNat + 2 ^ 24 - 1) % 2 ^ 24) (t.qp q).items }) ∧ ((u.qp q).items.findIdx? fun it =>
      it.started && it.left != 0) = some i) ∧
    (∃ (q : Fin 8192) (i : Nat) (it : QpItem) (s : State), (s.qp q).st = .rts ∧ s.mc.mode.serving = true ∧ ((s.qp q).items.findIdx?
      fun it => it.started && it.left != 0) = some i ∧ (s.qp q).items[i]? = some it ∧ (s.qp q).retry ≤ (s.qp q).retries) ∧
    (∃ (d : Desc) (q w : Nat) (s t : State), descRuns s d 1 t ∧ q = d.bits 2 12 0 ∧ w = d.bits 3 12 0 ∧ w ≠ q ∧ (t.qp w).isReq = true
      ∧ (t.qp q).isReq = true ∧ (t.qp w).st ≠ .reset ∧ (t.qp q).st = .rts ∧ ((t.qp w).items.any fun it => it.kind == .gate && it.watch
      == q) = false ∧ t.itemsFull q = false) ∧
    (∃ (q : Fin 8192) (it : QpItem) (rest : List QpItem) (s u : State), (s.qp q).items = it :: rest ∧ it.kind = .gate ∧ s.gateMet it =
      false ∧ it.headAt.isSome = true ∧ (∀ y ∈ rest, y.kind ≠ .gate) ∧ u = rest.foldl (fun s y => s.endItem y .cancelled) ((s.setQp q
      { s.qp q with items := [] }).endItem it .gateExpired)) ∧
    (∃ (h : RdmaHdr) (q : Nat) (s t : State) (cur : Rat), packetRuns s h q t ∧ cur = (if ((t.bump RDMA_CNP_RCV_CNT_COUNT).qp q).paced
      then ((t.bump RDMA_CNP_RCV_CNT_COUNT).qp q).current else ethRate)) ∧
    (∃ (q : Fin 8192) (s : State), (s.qp q).paced = true ∧ ((s.qp q).steps + 1) % 5 ≠ 0) ∧
    (∃ (q : Fin 8192) (s : State), (s.qp q).paced = true ∧ ((s.qp q).steps + 1) % 5 = 0) ∧
    (∃ (e : CwId) (p : Fin 8) (s : State), (s.fld RDMA_CTL_PFC_EN).testBit e.val = true ∧ s.fld RDMA_CTL_PFC_PRIO = p.val) ∧
    (∃ (q : Fin 8192) (s : State), ((s.qp q).items.findIdx? fun it => it.started && it.left != 0) = none) :=
  ⟨⟨hdr0, 0, rdma0 (qpRts true), _, packet_of (by decide +kernel)⟩,
   ⟨hdr0, 0, 0, rdma0 { qpRts true with items := [item0 .read] }, _, _, packet_of (by decide +kernel), rfl, by decide +kernel⟩,
   ⟨0, 0, item0 .read, rdma0 { qpRts true with items := [item0 .read], retries := 7 }, by decide +kernel⟩,
   ⟨dsc 0x60 [0, 1, 5], _, _, (run.setQp 0 (qpRts true)).setQp 1 (qpRts true), _, runs_of (by decide +kernel), rfl, rfl,
     by decide +kernel⟩,
   ⟨0, { item0 .gate with headAt := some 0 }, [item0 .write], svc.setQp 0
     { qpRts true with items := [{ item0 .gate with headAt := some 0 }, item0 .write] }, _, by decide +kernel, by decide +kernel,
     by decide +kernel, by decide +kernel, by decide +kernel, rfl⟩,
   ⟨hdr0, 0, rdma0 (qpRts true), _, _, packet_of (by decide +kernel), rfl⟩,
   ⟨0, svc.setQp 0 { qpRts true with paced := true }, by decide +kernel⟩,
   ⟨0, svc.setQp 0 { qpRts true with paced := true, steps := 4 }, by decide +kernel⟩,
   ⟨0, 3, svc.setFld RDMA_CTL_PFC_EN 1, by decide +kernel⟩,
   ⟨0, svc, by decide +kernel⟩⟩

/-- The conditions of `QueuePairStates` are met. -/
theorem witness_QueuePairStates :
    (∃ (q : Fin 8192) (s : State), (s.qp q).st = .reset ∧ s.qpReady q = true) ∧
    (∃ (q : Fin 8192) (s : State), (s.qp q).st = .reset ∧ s.qpReady q = false) ∧
    (∃ (q : Fin 8192) (s : State), (s.qp q).st = .rts) ∧
    (∃ (q : Fin 8192) (s : State), (s.qp q).st = .error) ∧
    (∃ (q : Fin 8192) (s : State), (s.qp q).st = .resetting) ∧
    (∃ (q : Fin 8192) (s : State), (s.qp q).st = .resetting ∧ s.qpBusy q = false) ∧
    (∃ (k : Fin 16384) (s : State) (ws : List Word), ws = Sparse.get (fun _ => keyReset) s.rdma.keys k.val) :=
  ⟨⟨8191, (svc.setRegAt .RDMA_GID 0 0 0 5).setQp 8191 qpGood, by decide +kernel⟩,
   ⟨0, svc, by decide +kernel⟩,
   ⟨0, svc.setQp 0 (qpRts true), by decide +kernel⟩,
   ⟨0, svc.setQp 0 { qpRts true with st := .error }, by decide +kernel⟩,
   ⟨0, svc.setQp 0 { qpRts true with st := .resetting }, by decide +kernel⟩,
   ⟨0, svc.setQp 0 { qpRts true with st := .resetting }, by decide +kernel⟩,
   ⟨16383, svc, _, rfl⟩⟩

/-- The conditions of `BackgroundTests` are met. -/
theorem witness_BackgroundTests :
    (∃ (ch : ChId) (errs : List (Fin 40)) (n : Nat) (s u : State) (fixed : Bool), n = ch.val ∧ s.testsRun = true ∧ s.flag
      GLB_IST_CTL_PATROL_EN = true ∧ (s.ch n).st = .active ∧ (s.patrol n).cursor + 1 < s.chLines n ∧ (s.ch n).released.getLsbD (s.dram
      ⟨n, 64 * (s.patrol n).cursor⟩).rank = false ∧ s.patrolDecode n (64 * (s.patrol n).cursor) (errs.map Fin.val) = (fixed, u) ∧
      u.chLines n = s.chLines n ∧ u.patrolLag n
      { s.patrol n with cursor := (s.patrol n).cursor + 1, fixed := (s.patrol n).fixed + fixed.toNat } ≤ (s.patrol n).behind) ∧
    (∃ (s : State), s.testsRun = true ∧ s.flag GLB_IST_CTL_PATROL_EN = true) ∧
    (∃ (ch : ChId) (s u : State), s.testsRun = true ∧ s.flag GLB_IST_CTL_MARCH_EN = true ∧ (s.tier.lent.any fun e => e.1 == ch.val) =
      false ∧ u =
      { s with tests := { s.tests with march := Sparse.set (fun _ => 0) s.tests.march ch.val ((Sparse.get (fun _ => 0) s.tests.march ch.val + 1) % 1024) } }) ∧
    (∃ (nf : NfId) (die block : Nat) (step : Fin 13) (s u : State) (b : NandBlock), s.testsRun = true ∧ s.flag GLB_IST_CTL_DISTURB_EN
      = true ∧ (s.nf nf.val).st = .serving ∧ b = s.block nf.val die block ∧ b.state ≠ .erased ∧ b.state ≠ .erasing ∧ 1 ≤ step.val ∧
      step.val < 8 ∧ u = s.addFld NF_RETRY_CNT_COUNT ((ladder b.step).findIdx (· == step.val)) nf.val) ∧
    (∃ (lane : Fin 160) (s : State), s.testsRun = true ∧ s.flag GLB_IST_CTL_EYE_EN = true ∧ s.laneUp lane.val = true ∧
      s.tests.scans.contains lane.val = false) ∧
    (∃ (lane : Fin 160) (h w : Nat) (s u : State), s.tests.scans.contains lane.val = true ∧ s.testsRun = true ∧ s.laneUp lane.val =
      true ∧ h ≤ 0x3FF ∧ w ≤ 0x3FF ∧ u =
      { s with tests := { s.tests with scans := s.tests.scans.filter (fun x => x != lane.val), eyes := (s.tests.eyes.filter fun e => e.1 != lane.val) ++ [(lane.val, (⟨h, w, s.timeNs⟩ : Eye))] } }) :=
  ⟨⟨0, [], _, ch0 (svc.setFld GLB_IST_CTL_PATROL_EN 1) (fun c => { c with st := .active, capGib := 32 }), _, false, rfl,
     by decide +kernel, by decide +kernel, by decide +kernel, by decide +kernel, by decide +kernel, pair_of (by decide +kernel),
     by decide +kernel⟩,
   ⟨svc.setFld GLB_IST_CTL_PATROL_EN 1, by decide +kernel⟩,
   ⟨0, svc.setFld GLB_IST_CTL_MARCH_EN 1, _, by decide +kernel, by decide +kernel, by decide +kernel, rfl⟩,
   ⟨0, 0, 3, 7,
     { (nf0 { NandCh.absent with st := .serving } (svc.setFld GLB_IST_CTL_DISTURB_EN 1)) with nand := { (nf0 { NandCh.absent with st := .serving } svc).nand with blocks := [(3, { NandBlock.fresh with state := .closed })] } },
     _, _, by decide +kernel, by decide +kernel, by decide +kernel, rfl, by decide +kernel, by decide +kernel, by decide +kernel,
     by decide +kernel, rfl⟩,
   ⟨0, link0 (svc.setFld GLB_IST_CTL_EYE_EN 1), by decide +kernel⟩,
   ⟨0, 0x3FF, 0x3FF, { link0 svc with tests := { svc.tests with scans := [0] } }, _, by decide +kernel, by decide +kernel,
     by decide +kernel, by decide +kernel, by decide +kernel, rfl⟩⟩

/-- The conditions of `TestAccessPort` are met. -/
theorem witness_TestAccessPort :
    (∃ (s : State), s.mc.mode ≠ .maintenance) ∧
    (∃ (s : State), s.mc.mode = .maintenance) ∧
    (∃ (s : State), s.mc.mode = .maintenance) ∧
    (∃ (s : State), s.mc.mode = .maintenance) ∧
    (∃ (s : State), s.mc.mode = .maintenance) ∧
    (∃ (s : State), s.mc.mode ≠ .maintenance) ∧
    (∃ (s : State), s.tests.bist = true) ∧
    (∃ (s : State), s.tests.bist = true) :=
  ⟨⟨svc, by decide +kernel⟩,
   ⟨at_ .maintenance, by decide +kernel⟩,
   ⟨at_ .maintenance, by decide +kernel⟩,
   ⟨at_ .maintenance, by decide +kernel⟩,
   ⟨at_ .maintenance, by decide +kernel⟩,
   ⟨svc, by decide +kernel⟩,
   ⟨{ at_ .maintenance with tests := { Tests.reset with bist := true } }, by decide +kernel⟩,
   ⟨{ at_ .maintenance with tests := { Tests.reset with bist := true } }, by decide +kernel⟩⟩

/-- The conditions of `TwinPackets` are met. -/
theorem witness_TwinPackets :
    (∃ (p : BttPkt) (st : Nat) (new : List (Nat × Line)) (m : InMsg) (i : Nat) (r : Region) (s u v : State), bttNew s p.hdr st u ∧ st
      = p.stream.val ∧ v = { u with twin := { u.twin with lastData := u.timeNs } } ∧ v.inMsg p = some m ∧ v.regionOf (64 *
      p.line.toNat) = some (i, r) ∧ p.total ≠ 0 ∧ v.isCopy i = true ∧ v.keysLoaded i r = true ∧ new = (p.items.filter fun e => !
      m.mask.contains e.1 && decide (e.1 < m.total)) ∧ new ≠ []) ∧
    (∃ (p : BttPkt) (s t : State), bttTaken s p.hdr t ∧ t.activity.rxDup p.stream.val p.seq.toNat = true) ∧
    (∃ (p : BttPkt) (s t : State), bttTaken s p.hdr t ∧ t.activity.rxDup p.stream.val p.seq.toNat = false ∧ t.activity.rxBase
      p.stream.val + 65536 ≤ p.seq.toNat) ∧
    (∃ (h : BttHdr) (s : State), s.bttOpen = true ∧ s.flag BTT_PATH_CFG_VALID h.path.val = true ∧ h.tagOk = false) ∧
    (∃ (h : BttHdr) (s t : State), bttTaken s h t) ∧
    (∃ (h : BttHdr) (s t : State) (m : OutMsg), bttTaken s h t ∧ t.outMsg h.stream.val h.seq.toNat = some m) ∧
    (∃ (h : BttHdr) (n : BitVec 16) (s t : State) (p : Nat), bttTaken s h t ∧ p = 4 * h.path.val ∧ n.toNat < 2 ^ 15 ∧ (∀ k < 4,
      Sparse.get (fun _ => 0) t.twin.txLimit (p + k) = 0)) ∧
    (∃ (h : BttHdr) (s t : State) (m : OutMsg), bttTaken s h t ∧ t.twin.msgs = [m] ∧ m.stream = h.stream.val ∧ m.kind = .ctrl ∧ m.seq
      = h.seq.toNat ∧ m.copies = [] ∧ m.range = none ∧ t.twin.abandoned = [] ∧ t.twin.advances = [] ∧ t.per.fences = []) ∧
    (∃ (h : BttHdr) (line : BitVec 42) (i : Nat) (r : Region) (s u v : State), bttNew s h h.stream.val u ∧ v = u.rxComplete
      h.stream.val h.seq.toNat ∧ v.regionOf (64 * line.toNat) = some (i, r) ∧ v.isCopy i = true ∧ v.keysLoaded i r = true) ∧
    (∃ (p : BttPkt) (x : Line) (m : InMsg) (t : TwinRead) (s u v : State), bttNew s p.hdr p.stream.val u ∧ u.inMsg p = some m ∧
      p.items = [(0, x)] ∧ m.mask = [] ∧ 0 < m.total ∧ v = (u.returnUnit p.path.val 3 1).takeLines p m [0] ∧ v.twin.lateReads = [] ∧
      (v.twin.reads.filter fun t => t.line == p.line.toNat) = [t]) ∧
    (∃ (l : Nat) (t : TwinRead) (s : State), (s.twin.reads.filter fun t => t.line == l) = [t]) :=
  ⟨⟨pkt 1, _, _, ⟨0, 1, 1, [], false⟩, 0, rgn0, copy0 (twinIs .up svc), _, _, new_of (by decide +kernel) (by decide +kernel), rfl,
     rfl, by decide +kernel, by decide +kernel, by decide +kernel, by decide +kernel, by decide +kernel, rfl, by decide +kernel⟩,
   ⟨pkt 0, twinIs .up svc, _, taken_of (by decide +kernel), by decide +kernel⟩,
   ⟨pkt 65537, twinIs .up svc, _, taken_of (by decide +kernel), by decide +kernel⟩,
   ⟨⟨0, false, true, 0, 0, 1⟩, twinIs .up svc, by decide +kernel⟩,
   ⟨bh 0 1, twinIs .up svc, _, taken_of (by decide +kernel)⟩,
   ⟨bh 0 1, withTwin (fun t => { t with msgs := [omsg 0 .data] }) (twinIs .up svc), _, omsg 0 .data, taken_of (by decide +kernel),
     by decide +kernel⟩,
   ⟨bh 0 1, 32767, twinIs .up svc, _, _, taken_of (by decide +kernel), rfl, by decide +kernel, by decide +kernel⟩,
   ⟨bh 12 1, withTwin (fun t => { t with msgs := [omsg 12 .ctrl] }) (twinIs .up svc), _, omsg 12 .ctrl, taken_of (by decide +kernel),
     by decide +kernel⟩,
   ⟨bh 8 1, 0, 0, rgn0, copy0 (twinIs .up svc), _, _, new_of (by decide +kernel) (by decide +kernel), rfl, by decide +kernel⟩,
   ⟨pkt 1, mkLine 0 5, ⟨0, 1, 1, [], false⟩, tread, withTwin (fun t => { t with reads := [tread] }) (twinIs .up svc), _, _, new_of
     (by decide +kernel) (by decide +kernel), by decide +kernel, by rfl, by decide +kernel, by decide +kernel, rfl, by decide +kernel⟩,
   ⟨0, tread, withTwin (fun t => { t with reads := [tread] }) (twinIs .up svc), by decide +kernel⟩⟩

/-- The conditions of `TwinSending` are met. -/
theorem witness_TwinSending :
    (∃ (st : Fin 16) (m : OutMsg) (s : State), s.twin.link = .up ∧ (s.twin.queued.find? fun m => m.stream == st.val) = some m ∧
      s.markOk m = true) ∧
    (∃ (st : Fin 16) (m : OutMsg) (s t : State), s.twin.link = .up ∧ (s.twin.queued.find? fun m => m.stream == st.val) = none ∧
      s.twin.msgs.countP OutMsg.onLink < 16384 ∧ ((s.nextRun st.val).filter fun c => c.be.isNone && ! c.data.poison && ! c.data.checks
      c.line) = [] ∧ t = s.formConvoy st.val (s.nextRun st.val) ∧ (t.twin.queued.find? fun m => m.stream == st.val) = some m ∧
      t.markOk m = true) ∧
    (∃ (s : State), s.twin.link = .up) ∧
    (∃ (st : Fin 16) (q : BitVec 64) (m : OutMsg) (s : State), s.outMsg st.val q.toNat = some m ∧ m.last + s.fld BTT_TIMING_RETX_US *
      1000 ≤ s.timeNs ∧ s.timeNs < m.first + s.fld BTT_TIMING_RETX_BUDGET * 1000) ∧
    (∃ (st : Fin 16) (q : BitVec 64) (m : OutMsg) (s t : State), s.outMsg st.val q.toNat = some m ∧ m.acked = false ∧ m.first + s.fld
      BTT_TIMING_RETX_BUDGET * 1000 ≤ s.timeNs ∧ t = (s.bump BTT_ABANDON_CNT_COUNT).abandon st.val q.toNat false) ∧
    (∃ (p : Fin 4) (s : State), s.twin.link = .up ∧ s.twin.pathsUp.getLsbD p = true ∧ s.twin.rxDirty = false) ∧
    (∃ (p : Fin 4) (s : State), s.twin.pathsUp.getLsbD p.val = true ∧ Sparse.get (fun _ => 0) s.twin.lastRx p.val + s.fld
      BTT_TIMING2_PATH_DEAD * 10000 ≤ s.timeNs) ∧
    (∃ (s : State), s.twin.link = .up ∧ s.twin.pathsUp = 0 ∧ s.twin.downAt + s.fld BTT_TIMING3_ABSENT_MS * 10 ^ 6 ≤ s.timeNs) ∧
    (∃ (s : State), s.twin.link = .absent ∧ s.twin.session = true) ∧
    (∃ (s : State), s.mc.mode.serving = true ∧ s.twin.link = .disabled) ∧
    (∃ (s : State), s.twin.session = true ∧ s.twin.link ≠ .stopped) ∧
    (∃ (s : State), s.asyncUnplaced ≠ [] ∧ s.fld BTT_TIMING_LAG_US ≤ s.lag.1) ∧
    (∃ (c : TwinCopy) (s t : State), s.twin.syncq = [c] ∧ s.twin.queued = [] ∧ s.twin.msgs = [] ∧ s.twin.rangeWaits = [] ∧ c.sync =
      true ∧ c.req ≠ .internal ∧ c.start + s.fld BTT_TIMING2_SYNC_LIMIT * 1000 ≤ s.timeNs ∧ t =
      ({ s with twin := { s.twin with syncq := [] } } : State).dropCopies [c]) ∧
    (∃ (k : Nat) (r : Resync) (s : State), s.twin.resync = some r ∧ s.twinUp = true ∧ r.range = none ∧ r.final = false ∧ s.twin.head =
      [] ∧ s.twin.bitmap = [k] ∧ s.twin.advances = [] ∧ s.twin.queued = [] ∧ s.twin.msgs = [] ∧ s.regionOf (k * 2 ^ 21) = none) :=
  ⟨⟨0, omsg 0 .data, withTwin (fun t => { t with queued := [omsg 0 .data] }) (twinIs .up svc), by decide +kernel⟩,
   ⟨0, _, withTwin (fun t => { t with syncq := [tcopy true .internal] }) (twinIs .up svc), _, by decide +kernel, by decide +kernel,
     by decide +kernel, by decide +kernel, rfl, rfl, by decide +kernel⟩,
   ⟨twinIs .up svc, by decide +kernel⟩,
   ⟨0, 1, omsg 0 .data, { (withTwin (fun t => { t with msgs := [omsg 0 .data] }) svc) with timeNs := 4000 }, by decide +kernel⟩,
   ⟨0, 1, omsg 0 .data, { (withTwin (fun t => { t with msgs := [omsg 0 .data] }) svc) with timeNs := 12000 }, _, by decide +kernel,
     by decide +kernel, by decide +kernel, rfl⟩,
   ⟨0, withTwin (fun t => { t with pathsUp := 1 }) (twinIs .up svc), by decide +kernel⟩,
   ⟨0, { (withTwin (fun t => { t with pathsUp := 1 }) svc) with timeNs := 100000 }, by decide +kernel⟩,
   ⟨{ (twinIs .up svc) with timeNs := 2000000 }, by decide +kernel⟩,
   ⟨twinIs .absent svc, by decide +kernel⟩,
   ⟨svc, by decide +kernel⟩,
   ⟨twinIs .up svc, by decide +kernel⟩,
   ⟨{ (withTwin (fun t => { t with backlog := [tcopy false .internal] }) svc) with timeNs := 50000 }, by decide +kernel⟩,
   ⟨tcopy true (.host 0 0 7), { (withTwin (fun t => { t with syncq := [tcopy true (.host 0 0 7)] }) svc) with timeNs := 1000000 }, _,
     by decide +kernel, by decide +kernel, by decide +kernel, by decide +kernel, by decide +kernel, by decide +kernel,
     by decide +kernel, rfl⟩,
   ⟨5, ⟨none, 0, 0, 0, false⟩, withTwin (fun t => { t with resync := some ⟨none, 0, 0, 0, false⟩, bitmap := [5] }) (twinIs .up svc),
     by decide +kernel⟩⟩

/-- The conditions of `TwinControl` are met. -/
theorem witness_TwinControl :
    (∃ (h : BttHdr) (i : BitVec 12) (s v : State), ctrlTaken s h v ∧ v.copyOf i.toNat = none) ∧
    (∃ (h : BttHdr) (i : BitVec 12) (e : Nat × Region) (s v : State), ctrlTaken s h v ∧ v.copyOf i.toNat = some e) ∧
    (∃ (h : BttHdr) (s v : State), ctrlTaken s h v) ∧
    (∃ (h : BttHdr) (a : BitVec 48) (e : Nat × Region) (s v : State), ctrlTaken s h v ∧ v.regionOf a.toNat = some e) ∧
    (∃ (h : BttHdr) (m : HelloMsg) (s t u v : State), bttTaken s h t ∧ u = t.takeBases m.bases ∧ v =
      (let w := if u.rxDup 12 h.seq.toNat then u else u.rxComplete 12 h.seq.toNat; { w with twin := { w.twin with peerLevel := m.level, helloRx := [] } })
      ∧ t.twin.helloRx = [] ∧ u.twin.helloRx = [] ∧ (if u.rxDup 12 h.seq.toNat then u else u.rxComplete 12 h.seq.toNat).twin.helloRx =
      [] ∧ levelsMeet t.bttLevel m.level.toNat = true ∧ m.more = false ∧ v.twin.link = .absent) ∧
    (∃ (h : BttHdr) (m : HelloMsg) (s t u v : State), bttTaken s h t ∧ u = t.takeBases m.bases ∧ v =
      (let w := if u.rxDup 12 h.seq.toNat then u else u.rxComplete 12 h.seq.toNat; { w with twin := { w.twin with peerLevel := m.level, helloRx := [] } })
      ∧ levelsMeet t.bttLevel m.level.toNat = false ∧ v.twin.link = .absent) ∧
    (∃ (h : BttHdr) (st : Fin 16) (b : BitVec 64) (s v : State), ctrlTaken s h v ∧ v.rxBase st.val < b.toNat) ∧
    (∃ (d : Desc) (i : Nat) (r : Region) (s t u : State), descRuns s d 2 t ∧ d.bits 3 8 8 ≠ 1 ∧ t.twinUp = false ∧ (t.rgn.table.filter
      fun e => t.isCopy e.1 && (d.selector.isNone || d.selector == some e.1)) = [(i, r)] ∧ t.setFits (d.bits 3 7 0) r = true ∧
      t.reserved r.base.toNat r.size.toNat = false ∧ u = t.promoteInfo i false) ∧
    (∃ (d : Desc) (i : Nat) (r : Region) (s t : State), descRuns s d 2 t ∧ d.bits 3 8 8 = 1 ∧ t.twinUp = true ∧ (t.rgn.table.filter
      fun e => t.isCopy e.1 && (d.selector.isNone || d.selector == some e.1)) = [(i, r)] ∧ t.setFits (d.bits 3 7 0) r = true ∧
      t.reserved r.base.toNat r.size.toNat = false) ∧
    (∃ (h : BttHdr) (i : BitVec 12) (r : Region) (s v u : State), ctrlTaken s h v ∧ v.region i.toNat = r ∧ r.valid = true ∧ r.mirror ≠
      .none ∧ r.ownerSet = 0 ∧ v.reserved r.base.toNat r.size.toNat = false ∧ u = v.startMirrorFence (some i.toNat) .internal) ∧
    (∃ (h : BttHdr) (i : BitVec 12) (p : Promote) (s v : State), ctrlTaken s h v ∧ (v.twin.promotes.find? fun p => (v.copyInfo
      p.region).primary == i.toNat) = some p) ∧
    (∃ (h : BttHdr) (i : BitVec 12) (p : Promote) (s v u : State), ctrlTaken s h v ∧ v.twin.promotes = [p] ∧ (v.copyInfo
      p.region).primary = i.toNat ∧ u = ({ v with twin := { v.twin with promotes := [], swaps := v.twin.swaps ++ [p.region] } } :
      State)) :=
  ⟨⟨bh 12 1, 3, twinIs .up svc, _, ctrl_of (by decide +kernel) (by decide +kernel), by decide +kernel⟩,
   ⟨bh 12 1, 3, (0, rgn0), copy0 (twinIs .up svc), _, ctrl_of (by decide +kernel) (by decide +kernel), by decide +kernel⟩,
   ⟨bh 12 1, twinIs .up svc, _, ctrl_of (by decide +kernel) (by decide +kernel)⟩,
   ⟨bh 12 1, 0, (0, rgn0), copy0 (twinIs .up svc), _, ctrl_of (by decide +kernel) (by decide +kernel), by decide +kernel⟩,
   ⟨bh 12 1, ⟨1, List.replicate 16 1, [], false⟩, twinIs .absent svc, _, _, _, taken_of (by decide +kernel), rfl, rfl,
     by decide +kernel⟩,
   ⟨bh 12 1, ⟨9, List.replicate 16 1, [], false⟩, twinIs .absent svc, _, _, _, taken_of (by decide +kernel), rfl, rfl,
     by decide +kernel⟩,
   ⟨bh 12 1, 0, 2, twinIs .up svc, _, ctrl_of (by decide +kernel) (by decide +kernel), by decide +kernel⟩,
   ⟨dsc 0x72 [0, 0], 0, rgn0, copy0 run, _, _, runs_of (by decide +kernel), by decide +kernel, by decide +kernel, by decide +kernel,
     by decide +kernel, by decide +kernel, rfl⟩,
   ⟨dsc 0x72 [0, 0x100], 0, rgn0, copy0 (twinIs .up run), _, runs_of (by decide +kernel), by decide +kernel⟩,
   ⟨bh 12 1, 0, { rgn0 with mirror := .sync }, withRgn { rgn0 with mirror := .sync } (twinIs .up svc), _, _, ctrl_of
     (by decide +kernel) (by decide +kernel), by decide +kernel, by decide +kernel, by decide +kernel, by decide +kernel,
     by decide +kernel, rfl⟩,
   ⟨bh 12 1, 3, prom0, withTwin (fun t => { t with promotes := [prom0] }) (copy0 (twinIs .up svc)), _, ctrl_of (by decide +kernel)
     (by decide +kernel), by decide +kernel⟩,
   ⟨bh 12 1, 3, prom0, withTwin (fun t => { t with promotes := [prom0] }) (copy0 (twinIs .up svc)), _, _, ctrl_of (by decide +kernel)
     (by decide +kernel), by decide +kernel, by decide +kernel, rfl⟩⟩

/-- The conditions of `ManagementRequests` are met. -/
theorem witness_ManagementRequests :
    (∃ (e : BitVec 8) (s : State), s.bmcBar = true ∧ e ≠ 0 ∧ e ≠ 0xFF ∧ s.mgmt.eid ≠ e) ∧
    (∃ (s : State), s.bmcBar = true) ∧
    (∃ (b : Fin 2) (s t : State), s.bmcBar = true ∧ s.mgmt.i3c.getLsbD b.val = false ∧ t =
      { s with mgmt := { s.mgmt with i3c := s.mgmt.i3c ^^^ BitVec.twoPow 2 b.val } }) ∧
    (∃ (b : Fin 2) (s t : State), s.bmcBar = true ∧ s.mgmt.i3c.getLsbD b.val = true ∧ t =
      { s with mgmt := { s.mgmt with i3c := s.mgmt.i3c ^^^ BitVec.twoPow 2 b.val } }) ∧
    (∃ (off : BitVec 26) (s : State), managed s ∧ off.toNat % 4 = 0) ∧
    (∃ (off : BitVec 26) (s : State), managed s ∧ off.toNat % 4 = 0 ∧ s.flag MGT_CTL_BMC_WRITE_EN = true ∧ bmcBarred off.toNat =
      false) ∧
    (∃ (off : BitVec 26) (s : State), managed s ∧ off.toNat % 4 = 0 ∧ (s.flag MGT_CTL_BMC_WRITE_EN = false ∨ bmcBarred off.toNat =
      true)) ∧
    (∃ (s : State), s.bmcBar = true) ∧
    (∃ (s : State), managed s) :=
  ⟨⟨9, mng, by decide +kernel⟩,
   ⟨mng, by decide +kernel⟩,
   ⟨0, mng, _, by decide +kernel, by decide +kernel, rfl⟩,
   ⟨1, { mng with mgmt := { mng.mgmt with i3c := 2 } }, _, by decide +kernel, by decide +kernel, rfl⟩,
   ⟨0x3FFFFFC, mng, by unfold managed; decide +kernel, by decide +kernel⟩,
   ⟨0, mng.setFld MGT_CTL_BMC_WRITE_EN 1, by unfold managed; decide +kernel, by decide +kernel⟩,
   ⟨0x300000, mng, by unfold managed; decide +kernel, by decide +kernel⟩,
   ⟨mng, by decide +kernel⟩,
   ⟨mng, by unfold managed; decide +kernel⟩⟩

/-- The conditions of `PldmRequests` are met. -/
theorem witness_PldmRequests :
    (∃ (h : BitVec 32) (p : Pdr) (s : State), managed s ∧ (pdrs false)[h.toNat - 1]? = some p) ∧
    (∃ (id : BitVec 16) (v : Nat) (s : State), managed s ∧ s.numeric id.toNat = some (some v)) ∧
    (∃ (id : BitVec 16) (v : Nat) (s : State), managed s ∧ s.stateSensor false id.toNat = some (some v)) ∧
    (∃ (v : Fin 16) (s : State), managed s ∧ s.mc.mode ≠ .standby ∧ v.val ∈ [0x2, 0x4, 0x7, 0xB]) ∧
    (∃ (p : Fin 8) (v : Fin 16) (s t : State), managed s ∧ v.val < 3 ∧ t = (s.writeFields .bmc .PRT_BIFUR p.val 0 0
      (PRT_BIFUR_NEXT.put 0 v.val) PRT_BIFUR_NEXT.mask).2 ∧ PRT_BIFUR_NEXT.get (t.view true .PRT_BIFUR p.val 0 0) = v.val) ∧
    (∃ (b : Fin 2) (len : BitVec 24) (s t u : State), managed s ∧ s.flash.sess.st = .idle ∧ t =
      { s with mgmt := { s.mgmt with fwBus := b.val } } ∧ t.askSession 2 len.toNat = (.ok, u)) ∧
    (∃ (off : BitVec 24) (bytes : List Byte) (s t : State), managed s ∧ s.flash.sess.source = 2 ∧ s.flash.sess.st = .opened ∧
      bytes.length ≤ 4096 ∧ s.takeBlock off.toNat bytes = (.ok, t)) ∧
    (∃ (time : BitVec 64) (s t : State), managed s ∧ s.bmcSession = true ∧ time ≠ 0 ∧ s.requestActivation time.toNat = (.ok, t)) ∧
    (∃ (s t : State), managed s ∧ s.bmcSession = true ∧ s.requestOffline = (.ok, t)) ∧
    (∃ (s : State), managed s ∧ s.bmcSession = true ∧ s.flash.sess.st = .opened) ∧
    (∃ (s : State), managed s) :=
  ⟨⟨1, _, mng, by unfold managed; decide +kernel, rfl⟩,
   ⟨1, _, mng, by unfold managed; decide +kernel, rfl⟩,
   ⟨0x100, _, mng, by unfold managed; decide +kernel, rfl⟩,
   ⟨0x7, mng, by unfold managed; decide +kernel, by decide +kernel⟩,
   ⟨7, 1, mng, _, by unfold managed; decide +kernel, by decide +kernel, rfl, by decide +kernel⟩,
   ⟨1, 64, mng, _, _, by unfold managed; decide +kernel, by decide +kernel, rfl, pair_of (by decide +kernel)⟩,
   ⟨0, List.replicate 64 1, bmcSess .opened, _, by unfold managed; decide +kernel, by decide +kernel, by decide +kernel,
     by decide +kernel, pair_of (by decide +kernel)⟩,
   ⟨10000000000, { bmcSess .verified with clk := { svc.clk with tbLock := true } }, _, by unfold managed; decide +kernel,
     by decide +kernel, by decide +kernel, pair_of (by decide +kernel)⟩,
   ⟨bmcSess .verified, _, by unfold managed; decide +kernel, by decide +kernel, pair_of (by decide +kernel)⟩,
   ⟨bmcSess .opened, by unfold managed; decide +kernel, by decide +kernel⟩,
   ⟨mng, by unfold managed; decide +kernel⟩⟩

/-- The conditions of `RequestsInGap` are met. -/
theorem witness_RequestsInGap :
    (∃ (s : State), s.bmcBar = true ∧ s.ccRuns = false ∧ s.mc.mode ≠ .off ∧ s.mc.mode ≠ .standby ∧ s.cc.gap ≠ .halted ∧ s.cc.gap ≠
      .dead ∧ s.buffered.countP (fun h => h.1.managed) < 8) ∧
    (∃ (s : State), s.bmcBar = true ∧ s.ccRuns = false ∧ s.cc.gap = .halted) ∧
    (∃ (p : PortId) (ld : Fin 20) (s : State), s.hasMailbox p.val ld.val = true ∧ s.ccRuns = false ∧ s.mc.mode ≠ .off ∧ s.mc.mode ≠
      .standby ∧ s.cc.gap ≠ .halted ∧ s.cc.gap ≠ .dead) ∧
    (∃ (p : PortId) (ld : Fin 20) (s : State), s.hasMailbox p.val ld.val = true ∧ s.ccRuns = true ∧ s.buffered = [] ∧
      s.mc.mode.permits .full = false) :=
  ⟨⟨{ mng with cc := { Cc.reset with gap := .warm } }, by decide +kernel⟩,
   ⟨{ mng with cc := { Cc.reset with gap := .halted } }, by decide +kernel⟩,
   ⟨0, 0, { link0 svc with cc := { Cc.reset with gap := .warm } }, by decide +kernel⟩,
   ⟨0, 0, { link0 svc with mc := { svc.mc with mode := .boot } }, by decide +kernel⟩⟩

/-- The conditions of `MailboxCommands` are met. -/
theorem witness_MailboxCommands :
    (∃ (p : PortId) (ld : Fin 20) (log : Fin 5) (s : State) (es : List CxlEvent), mailboxRuns s p ld .events ∧ es = (s.ldAt p.val
      ld.val).events.filter (fun e => e.log == log.val)) ∧
    (∃ (p : PortId) (ld : Fin 20) (s : State), mailboxRuns s p ld .events) ∧
    (∃ (p : PortId) (ld : Fin 20) (s : State), mailboxRuns s p ld .events) ∧
    (∃ (p : PortId) (ld : Fin 20) (v : Vector (BitVec 8) 5) (s : State), mailboxRuns s p ld .events ∧ ((v.toList.map BitVec.toNat).any
      fun x => decide (2 ≤ x % 4)) = false) ∧
    (∃ (p : PortId) (ld : Fin 20) (s : State), mailboxRuns s p ld .firmware) ∧
    (∃ (p : PortId) (ld : Fin 20) (slot : Fin 2) (off : BitVec 24) (bytes : List Byte) (s t : State), mailboxRuns s p ld .firmware ∧
      (s.flash.sess.st = .idle ∨ s.flash.sess.source = 1) ∧ slot.val ≠ s.flash.running ∧ s.sourceBlock 1 off.toNat bytes = (.ok, t)) ∧
    (∃ (p : PortId) (ld : Fin 20) (slot : Fin 2) (s t : State), mailboxRuns s p ld .firmware ∧ (s.flash.sess.st = .idle ∨
      s.flash.sess.source = 1) ∧ slot.val ≠ s.flash.running ∧ s.requestOffline = (.ok, t)) ∧
    (∃ (p : PortId) (ld : Fin 20) (s : State), mailboxRuns s p ld .identify) ∧
    (∃ (p : PortId) (ld : Fin 20) (s : State), mailboxRuns s p ld .identify ∧ s.clk.tbLock = false) ∧
    (∃ (p : PortId) (ld : Fin 20) (off : BitVec 32) (s : State), mailboxRuns s p ld .identify ∧ off.toNat % 4 = 0 ∧ off.toNat + 4 ≤
      0x40000) ∧
    (∃ (p : PortId) (ld : Fin 20) (o : LongOp) (b : Nat × Nat) (s : State), mailboxRuns s p ld .identify ∧ (s.ldAt p.val
      ld.val).background = some b ∧ s.opAt b.2 = some o ∧ o.kind.cancellable = true ∧ o.st = .running) :=
  ⟨⟨0, 0, 4, mbx, _, by unfold mailboxRuns; decide +kernel, rfl⟩,
   ⟨0, 0, mbx, by unfold mailboxRuns; decide +kernel⟩,
   ⟨7, 19, (mbx.setLink 7 3 { CxlLink.down with up := true, lds := 3 }), by unfold mailboxRuns; decide +kernel⟩,
   ⟨0, 0, #v[1, 1, 1, 1, 0], mbx, by unfold mailboxRuns; decide +kernel, by decide +kernel⟩,
   ⟨0, 0, mbx, by unfold mailboxRuns; decide +kernel⟩,
   ⟨0, 0, 1, 0, List.replicate 64 1,
     { mbx with flash := { Flash.reset with sess := { Session.idle with st := .opened, source := 1, target := 1 } } }, _,
     by unfold mailboxRuns; decide +kernel, by decide +kernel, by decide +kernel, pair_of (by decide +kernel)⟩,
   ⟨0, 0, 1, { mbx with flash := { Flash.reset with sess := { Session.idle with st := .verified, source := 1 } } }, _,
     by unfold mailboxRuns; decide +kernel, by decide +kernel, by decide +kernel, pair_of (by decide +kernel)⟩,
   ⟨0, 0, mbx, by unfold mailboxRuns; decide +kernel⟩,
   ⟨0, 0, mbx, by unfold mailboxRuns; decide +kernel, by decide +kernel⟩,
   ⟨0, 0, 0x3FFFC, mbx, by unfold mailboxRuns; decide +kernel, by decide +kernel⟩,
   ⟨0, 0, opRun (.scan 0 64 0 0), (0, 0), withOp (opRun (.scan 0 64 0 0)) (mbx.setLd 0 0 { Ld.reset with background := some (0, 0) }),
     by unfold mailboxRuns; decide +kernel, by decide +kernel⟩⟩

/-- The conditions of `MailboxMedia` are met. -/
theorem witness_MailboxMedia :
    (∃ (p : PortId) (ld : Fin 20) (s : State), mailboxRuns s p ld .health) ∧
    (∃ (p : PortId) (ld : Fin 20) (a : BitVec 48) (n : Nat) (s : State) (es : List (Nat × Nat)), mailboxRuns s p ld .full ∧ es =
      s.ports.poison.filter (fun e => decide (a.toNat / 64 ≤ e.1) && decide (e.1 < a.toNat / 64 + n))) ∧
    (∃ (p : PortId) (ld : Fin 20) (a : BitVec 48) (i : Nat) (r : Region) (s t : State), mailboxRuns s p ld .full ∧ s.mc.mode.poisons =
      true ∧ s.poisonTarget p ld a.toNat = .ok (i, r) ∧ s.ports.injected.contains (a.toNat / 64) = false ∧ s.ports.injected.length <
      16 ∧ t = { s.activity with ports := { s.activity.ports with injected := s.activity.ports.injected ++ [a.toNat / 64] } } ∧
      s.activity.ports.injected = s.ports.injected) ∧
    (∃ (p : PortId) (ld : Fin 20) (a : BitVec 48) (i : Nat) (r : Region) (s : State), mailboxRuns s p ld .full ∧ s.mc.mode.poisons =
      true ∧ s.poisonTarget p ld a.toNat = .ok (i, r)) ∧
    (∃ (p : PortId) (ld : Fin 20) (a : BitVec 48) (n : Nat) (s : State), mailboxRuns s p ld .scan ∧ a.toNat + 64 * n ≤ 2 ^ 30 *
      s.rgn.limitGib.toNat) ∧
    (∃ (p : PortId) (ld : Fin 20) (a : BitVec 48) (n k : Nat) (s t : State), mailboxRuns s p ld .scan ∧ n ≠ 0 ∧ a.toNat % 64 = 0 ∧
      a.toNat + 64 * n ≤ 2 ^ 30 * s.rgn.limitGib.toNat ∧ (s.ldAt p.val ld.val).background = none ∧ t = s.updLd p ld (fun x =>
      { x with scanned := [] }) ∧ (t.ldAt p.val ld.val).background = none ∧ t.freeOpSlot = some k) ∧
    (∃ (p : PortId) (ld : Fin 20) (s : State), mailboxRuns s p ld .scan) ∧
    (∃ (p : PortId) (ld : Fin 20) (k : Nat) (s : State), mailboxRuns s p ld .sanitize ∧ s.rings.ops = [] ∧ (s.ldAt p.val
      ld.val).background = none ∧ s.freeOpSlot = some k) :=
  ⟨⟨0, 0, mbx, by unfold mailboxRuns; decide +kernel⟩,
   ⟨0, 0, 0, 1, mbx, _, by unfold mailboxRuns; decide +kernel, rfl⟩,
   ⟨0, 0, 0, 0, { rgn0 with ownerSet := 1 }, mem0, _, by unfold mailboxRuns; decide +kernel, by decide +kernel, rfl,
     by decide +kernel, by decide +kernel, rfl, by decide +kernel⟩,
   ⟨0, 0, 0, 0, { rgn0 with ownerSet := 1 }, mem0, by unfold mailboxRuns; decide +kernel, by decide +kernel, rfl⟩,
   ⟨0, 0, 0, 0x1000000, { mbx with rgn := { mbx.rgn with limitGib := 1 } }, by unfold mailboxRuns; decide +kernel, by decide +kernel⟩,
   ⟨0, 0, 0, 0x1000000, 0, { mbx with rgn := { mbx.rgn with limitGib := 1 } }, _, by unfold mailboxRuns; decide +kernel,
     by decide +kernel, by decide +kernel, by decide +kernel, by decide +kernel, rfl, by decide +kernel⟩,
   ⟨0, 0, mbx, by unfold mailboxRuns; decide +kernel⟩,
   ⟨0, 0, 0, { mbx with mc := { mbx.mc with mode := .maintenance } }, by unfold mailboxRuns; decide +kernel, by decide +kernel⟩⟩

/-- The conditions of `DynamicCapacityAndFabric` are met. -/
theorem witness_DynamicCapacityAndFabric :
    (∃ (p : PortId) (ld : Fin 20) (s : State), mailboxRuns s p ld .full ∧ s.linkCxl3 p.val ld.val = true) ∧
    (∃ (p : PortId) (ld : Fin 20) (s : State), mailboxRuns s p ld .full ∧ s.linkCxl3 p.val ld.val = false) ∧
    (∃ (p : PortId) (ld : Fin 20) (i : Fin 4096) (s : State), mailboxRuns s p ld .full ∧ s.linkCxl3 p.val ld.val = true ∧ ((s.ldAt
      p.val ld.val).adds.any fun a => a.1 == i.val) = true ∧ (s.ldAt p.val ld.val).accepted.contains i.val = false) ∧
    (∃ (p : PortId) (ld : Fin 16) (i : Fin 4096) (t : Nat) (s : State), (i.val, t) ∈ (s.ldAt p.val ld.val).adds ∧ t + 10 ^ 10 ≤
      s.timeNs) ∧
    (∃ (p : PortId) (k : LinkId) (s : State), s.hasMailbox p.val (16 + k.val) = true ∧ s.ccRuns = true ∧ s.buffered = [] ∧
      s.mc.mode.permits .full = true) ∧
    (∃ (p : PortId) (ld : Fin 16) (s t : State) (es : List CdatEntry), s.ldEnabled p.val ld.val = true ∧ s.ccRuns = true ∧ s.buffered
      = [] ∧ t = s.fresh.2 ∧ es = t.cdat p.val ld.val s.fresh.1) :=
  ⟨⟨0, 0, mbx, by unfold mailboxRuns; decide +kernel, by decide +kernel⟩,
   ⟨0, 0, mbx.setLink 0 0 { CxlLink.down with up := true, ver := 2, lds := 1 }, by unfold mailboxRuns; decide +kernel,
     by decide +kernel⟩,
   ⟨0, 0, 4095, mbx.setLd 0 0 { Ld.reset with adds := [(4095, 0)] }, by unfold mailboxRuns; decide +kernel, by decide +kernel⟩,
   ⟨0, 15, 4095, 0, { mbx.setLd 0 15 { Ld.reset with adds := [(4095, 0)] } with timeNs := 10 ^ 10 }, by decide +kernel⟩,
   ⟨0, 0, mbx, by decide +kernel⟩,
   ⟨0, 0, mbx, _, _, by decide +kernel, by decide +kernel, by decide +kernel, rfl, rfl⟩⟩

/-- A log of 8,192 records of one severity, in order. -/
def fullLog (sev : Sev) : State :=
  { svc with evt := { svc.evt with recs := (List.range 8192).map fun i => { rec0 (BitVec.ofNat 32 i) sev false with slot := i }, nextSeq := 8192 } }

theorem fullLog_ok (sev : Sev) : logOk (fullLog sev) = true := by
  have h : ((fullLog sev).evt.recs.map LogRec.slot) = List.range 8192 := by
    simp only [fullLog, List.map_map]
    exact List.map_id'' (fun _ => rfl) _
  simp only [logOk, Bool.and_eq_true, decide_eq_true_eq, List.all_eq_true, h]
  refine ⟨⟨by simp [fullLog], fun r hr => ?_⟩, List.nodup_range⟩
  simp only [fullLog, List.mem_map, List.mem_range] at hr
  obtain ⟨i, hi, rfl⟩ := hr
  exact hi

theorem fullLog_ordered (sev : Sev) : seqsOrdered (fullLog sev) := by
  refine ⟨0, fun x hx => ?_⟩
  simp only [fullLog, List.mem_map, List.mem_range] at hx
  obtain ⟨i, hi, rfl⟩ := hx
  show (BitVec.ofNat 32 i - 0#32).toNat < 2 ^ 31
  rw [BitVec.sub_zero, BitVec.toNat_ofNat]
  omega

theorem fullLog_first (sev : Sev) : rec0 0 sev false ∈ (fullLog sev).evt.recs := by
  simp only [fullLog, List.mem_map]
  exact ⟨0, List.mem_range.mpr (by decide), rfl⟩

/-- The conditions of `IdleStep` are met. -/
theorem witness_IdleStep :
    (∃ s : State, s.pending = [] ∧ s.buffered = []) ∧ (∃ s : State, s.pending = [] ∧ s.ccRuns = false) ∧
    (∃ (s t : State) (q : ReqFrom) (c : Instr) (rest : List (ReqFrom × Instr)), s.pending = [] ∧ s.ccRuns = true ∧
      s.buffered = (q, c) :: rest ∧ exec c { s with buffered := [] } = .next t) :=
  ⟨⟨svc, by decide +kernel⟩, ⟨State.reset, by decide +kernel⟩,
   ⟨{ mng with buffered := [(.mgmt 0 1 0x51B, .getStatus 0)] }, _, _, _, _, rfl, by decide +kernel, rfl, rfl⟩⟩

/-- The conditions of `QueueIsFifo` are met. -/
theorem witness_QueueIsFifo : ∃ s t : State, (∀ c ∈ s.pending, c.wf = true) ∧ step s = .next t :=
  ⟨{ svc with pending := [.counterReadClear false 0 4, .getStatus 0] }, _, by decide +kernel, rfl⟩

/-- The conditions of `LogAndMemoryKeepTheirForm` are met. -/
theorem witness_LogAndMemoryKeepTheirForm : (∃ s t : State, logOk s = true ∧ step s = .next t) ∧
    ∃ s t : State, Sparse.wf zeroLine s.tier.dram = true ∧ step s = .next t :=
  ⟨⟨{ fullLog .info with pending := [.sysRstN str0] }, _, fullLog_ok .info, rfl⟩,
   { svc with pending := [.getStatus 0] }, _, rfl, rfl⟩

/-- The conditions of `LogPlacement` are met. -/
theorem witness_LogPlacement :
    (∃ s : State, logOk s = true ∧ s.evt.recs.length < 8192) ∧
    (∃ (s : State) (r : LogRec), logOk s = true ∧ seqsOrdered s ∧ s.evt.recs.length = 8192 ∧ ∃ x ∈ s.evt.recs, replaceable x r.sev) ∧
    (∃ (s : State) (r : LogRec), s.evt.recs.length = 8192 ∧ ∀ x ∈ s.evt.recs, ¬ replaceable x r.sev) ∧
    (∃ (s : State) (x : LogRec), logOk s = true ∧ x ∈ s.evt.recs ∧ x.sev = .critical ∧ x.acked = false) := by
  refine ⟨⟨svc, by decide +kernel⟩, ⟨fullLog .info, rec0 0 .notice false, fullLog_ok _, fullLog_ordered _, by simp [fullLog], ?_⟩,
    ⟨fullLog .critical, rec0 0 .critical false, by simp [fullLog], ?_⟩,
    ⟨fullLog .critical, rec0 0 .critical false, fullLog_ok _, fullLog_first _, rfl, rfl⟩⟩
  · exact ⟨rec0 0 .info false, fullLog_first _, by decide, by decide⟩
  · intro x hx h
    simp only [fullLog, List.mem_map] at hx
    obtain ⟨i, _, rfl⟩ := hx
    exact Bool.false_ne_true (h.2 rfl)

/-- The conditions of `WaybillsCombine` are met. -/
theorem witness_WaybillsCombine : (∃ n : Nat, n ≤ 64) ∧ ∃ (l : Nat) (x : Line), x.checks l = true ∧ x.poison = false :=
  ⟨⟨64, by decide⟩, 0, zeroLine 0, zeroLine_checks 0, rfl⟩

/-- The conditions of `RegisterOffsetsDecode` are met. -/
theorem witness_RegisterOffsetsDecode : ∃ (r : RegName) (i j w : Nat), i < r.dims.1.1 ∧ j < r.dims.2.1 ∧ w < r.words :=
  ⟨.RING_PUSH, 255, 15, 0, by decide +kernel⟩

/-- A state whose port 0 is divided. -/
def split (b : Nat) : State := { svc with ports := { svc.ports with bifur := [(0, b)] } }

/-- The conditions of `LdNumbering` are met, at the ends of each range. -/
theorem witness_LdNumbering :
    (∃ (s : State) (p ld : Nat), ld < 16 ∧ s.bifur p = 0) ∧
    ((∃ (s : State) (p ld : Nat), ld < 16 ∧ s.bifur p = 1 ∧ ld < 8) ∧ ∃ (s : State) (p ld : Nat), ld < 16 ∧ s.bifur p = 1 ∧ ¬ ld < 8) ∧
    ∃ (s : State) (p ld k : Nat), k < 4 ∧ 4 * k ≤ ld ∧ ld ≤ 4 * k + 3 ∧ s.bifur p = 2 :=
  ⟨⟨svc, 7, 15, by decide +kernel⟩, ⟨⟨split 1, 0, 7, by decide +kernel⟩, split 1, 0, 8, by decide +kernel⟩, split 2, 0, 15, 3, by decide +kernel⟩

/-- The conditions of `NoDecoderIsUnmapped` are met. -/
theorem witness_NoDecoderIsUnmapped :
    ∃ (s : State) (p ld hpa : Nat), ∀ h ∈ s.hdms p ld, h.active (s.linkCxl3 p ld) = true → h.hits hpa = false :=
  ⟨mem0, 0, 0, 0x10000000, by decide +kernel⟩

/-- The conditions of `CriticalAcknowledge` are met. -/
theorem witness_CriticalAcknowledge : ∃ (t : State) (i : Nat) (r : LogRec), t.evt.recs[i]? = some r ∧ r.acked = true :=
  ⟨{ svc with evt := { svc.evt with recs := [rec0 5 .critical true] } }, 0, rec0 5 .critical true, by decide +kernel⟩

/-- The conditions of `AlarmLeavesNoKey` are met. -/
theorem witness_AlarmLeavesNoKey :
    ∃ (src : Fin 4) (ws : List Nat) (s : State), (src.val = 3 → s.flag SEC_CTL_MESH_EN = true) ∧ ∀ l ∈ ws, (s.regionOf (64 * l)).isSome = true :=
  ⟨3, [0], (withRgn rgn0 svc).setFld SEC_CTL_MESH_EN 1, by decide +kernel⟩

/-- A volatile resident region 0 with page 0 in use. -/
def memV : State :=
  let s := mem0.setPage 0 { Page.empty with st := .clean }
  { s with rgn := { s.rgn with table := [(0, { rgn0 with ownerSet := 1, persist := false })] } }

/-- The conditions of `HostWriteStoresItsLine` are met. -/
theorem witness_HostWriteStoresItsLine :
    ∃ (p : PortId) (ld : Fin 16) (a : BitVec 52) (dpa i : Nat) (r : Region) (s t : State), s.portAccepts p.val ld.val = true ∧
      s.admFull (p.val / 2) = false ∧ (s.linkAt p.val (s.ldLink p.val ld.val)).ide ≠ 1 ∧ t = (s.takeEntry p.val ld.val).activity ∧
      (s.takeEntry p.val ld.val).mc.mode.serving = true ∧
      ((s.takeEntry p.val ld.val).linkAt p.val (s.ldLink p.val ld.val)).viral = false ∧
      t.memAccess p.val ld.val a.toNat = .allowed i r dpa ∧ r.cls = .resident ∧ r.persist = false ∧
      (t.page (dpa / 64 / 64)).st ≠ .invalid ∧ (t.page (dpa / 64 / 64)).st ≠ .filling ∧ ∀ n < 16, (t.ch n).work ≠ .rebuild :=
  ⟨0, 0, 0xFC0, 0xFC0, 0, { rgn0 with ownerSet := 1, persist := false }, memV, _, by decide +kernel, by decide +kernel,
    by decide +kernel, rfl, by decide +kernel⟩

/-- The conditions of `QueriesChangeNothing` are met. -/
theorem witness_QueriesChangeNothing : ∃ s t : State, exec (.getStatus 0) s = .next t := ⟨mng, _, rfl⟩

end Sys2Proof.Tests
end

section
/-!
The queue of waiting commands under every step, and the step itself.
-/
namespace Sys2Proof.Proofs

open Machine Safety Laws

/-- No command touches the queue: whatever it answers keeps the queue, the slots of the log and the form of the memory. -/
theorem exec_keeps {s0 s : State} (h : Keeps s0 s) (i : Instr) : KR s0 (exec i s) := by
  cases i with
  | modeReqDrain => exact execModeReqDrain_keeps h
  | modeReqDrainCancel => exact execModeReqDrainCancel_keeps h
  | modeReqMaintenance => exact execModeReqMaintenance_keeps h
  | modeReqWake => exact execModeReqWake_keeps h
  | modeReqOther => exact execModeReqOther_keeps h
  | getEventRecords => exact execGetEventRecords_keeps h
  | clearEventRecords => exact execClearEventRecords_keeps h
  | getEventInterruptPolicy => exact execGetEventInterruptPolicy_keeps h
  | setEventInterruptPolicy => exact execSetEventInterruptPolicy_keeps h
  | getFwInfo => exact execGetFwInfo_keeps h
  | transferFw => exact execTransferFw_keeps h
  | activateFw => exact execActivateFw_keeps h
  | getTimestamp => exact execGetTimestamp_keeps h
  | setTimestamp => exact execSetTimestamp_keeps h
  | getSupportedLogs => exact execGetSupportedLogs_keeps h
  | getLog => exact execGetLog_keeps h
  | identifyMemoryDevice => exact execIdentifyMemoryDevice_keeps h
  | getPartitionInfo => exact execGetPartitionInfo_keeps h
  | setPartitionInfo => exact execSetPartitionInfo_keeps h
  | getHealthInfo => exact execGetHealthInfo_keeps h
  | getAlertConfiguration => exact execGetAlertConfiguration_keeps h
  | setAlertConfiguration => exact execSetAlertConfiguration_keeps h
  | getShutdownState => exact execGetShutdownState_keeps h
  | setShutdownState => exact execSetShutdownState_keeps h
  | getPoisonList => exact execGetPoisonList_keeps h
  | injectPoison => exact execInjectPoison_keeps h
  | clearPoison => exact execClearPoison_keeps h
  | getScanMediaCapabilities => exact execGetScanMediaCapabilities_keeps h
  | scanMedia => exact execScanMedia_keeps h
  | getScanMediaResults => exact execGetScanMediaResults_keeps h
  | mboxSanitize => exact execMboxSanitize_keeps h
  | secureErase => exact execSecureErase_keeps h
  | getDynamicCapacityConfig => exact execGetDynamicCapacityConfig_keeps h
  | getDynamicCapacityExtentList => exact execGetDynamicCapacityExtentList_keeps h
  | addDynamicCapacityResponse => exact execAddDynamicCapacityResponse_keeps h
  | releaseDynamicCapacity => exact execReleaseDynamicCapacity_keeps h
  | requestAbortBackgroundOp => exact execRequestAbortBackgroundOp_keeps h
  | getLsa => exact execGetLsa_keeps h
  | setLsa => exact execSetLsa_keeps h
  | getLdInfo => exact execGetLdInfo_keeps h
  | getLdAllocations => exact execGetLdAllocations_keeps h
  | setLdAllocations => exact execSetLdAllocations_keeps h
  | getQosStatus => exact execGetQosStatus_keeps h
  | getMultiHeadedInfo => exact execGetMultiHeadedInfo_keeps h
  | cdatTableAccess => exact execCdatTableAccess_keeps h
  | setHkek => exact execSetHkek_keeps h
  | setHkekReplace => exact execSetHkekReplace_keeps h
  | spdmGetMeasurements => exact execSpdmGetMeasurements_keeps h
  | spdmKeyExchange => exact execSpdmKeyExchange_keeps h
  | regRead => exact execRegRead_keeps h
  | regWrite => exact execRegWrite_keeps h
  | setEventReceiver => exact execSetEventReceiver_keeps h
  | getPdr => exact execGetPdr_keeps h
  | getSensorReading => exact execGetSensorReading_keeps h
  | getStateSensorReadings => exact execGetStateSensorReadings_keeps h
  | setStateEffecterStates => exact execSetStateEffecterStates_keeps h
  | requestUpdate => exact execRequestUpdate_keeps h
  | requestFirmwareData => exact execRequestFirmwareData_keeps h
  | activateFirmware => exact execActivateFirmware_keeps h
  | cancelUpdate => exact execCancelUpdate_keeps h
  | getStatus => exact execGetStatus_keeps h
  | getFirmwareParameters => exact execGetFirmwareParameters_keeps h
  | vddAonPowerOn => exact execVddAonPowerOn_keeps h
  | vddAonLost => exact execVddAonLost_keeps h
  | wakeSource => exact execWakeSource_keeps h
  | pendingWakeTimeout => exact execPendingWakeTimeout_keeps h
  | railInRange => exact execRailInRange_keeps h
  | resetRelease => exact execResetRelease_keeps h
  | pwrSeqFail => exact execPwrSeqFail_keeps h
  | brdPgFall => exact execBrdPgFall_keeps h
  | powerFail => exact execPowerFail_keeps h
  | railMonitorTrip => exact execRailMonitorTrip_keeps h
  | railFault => exact execRailFault_keeps h
  | railReturn => exact execRailReturn_keeps h
  | mainPowerBack => exact execMainPowerBack_keeps h
  | avsConfirmTimeout => exact execAvsConfirmTimeout_keeps h
  | refclkLost => exact execRefclkLost_keeps h
  | refclkReturn => exact execRefclkReturn_keeps h
  | timebaseLock => exact execTimebaseLock_keeps h
  | timebaseUnlock => exact execTimebaseUnlock_keeps h
  | sysRstN => exact execSysRstN_keeps h
  | heldResetApply => exact execHeldResetApply_keeps h
  | soft => exact execSoft_keeps h
  | trstN => exact execTrstN_keeps h
  | bootChecksDone => exact execBootChecksDone_keeps h
  | coldBootTrainStart => exact execColdBootTrainStart_keeps h
  | initialTrainingDone => exact execInitialTrainingDone_keeps h
  | mapReplay => exact execMapReplay_keeps h
  | restoreApplied => exact execRestoreApplied_keeps h
  | quiesceEnter => exact execQuiesceEnter_keeps h
  | quiesceExit => exact execQuiesceExit_keeps h
  | drainDone => exact execDrainDone_keeps h
  | maintenanceExit => exact execMaintenanceExit_keeps h
  | recoveryReset => exact execRecoveryReset_keeps h
  | saveIntentProgrammed => exact execSaveIntentProgrammed_keeps h
  | twinFlushCutoff => exact execTwinFlushCutoff_keeps h
  | saveStreamDone => exact execSaveStreamDone_keeps h
  | saveMetadataDone => exact execSaveMetadataDone_keeps h
  | saveSealed => exact execSaveSealed_keeps h
  | nap1Enter => exact execNap1Enter_keeps h
  | nap2Enter => exact execNap2Enter_keeps h
  | pasrEnter => exact execPasrEnter_keeps h
  | channelWake => exact execChannelWake_keeps h
  | channelWakeDone => exact execChannelWakeDone_keeps h
  | earlyWake => exact execEarlyWake_keeps h
  | cwClockStop => exact execCwClockStop_keeps h
  | junctionClockStop => exact execJunctionClockStop_keeps h
  | pasrDupRewriteDone => exact execPasrDupRewriteDone_keeps h
  | laybyLend => exact execLaybyLend_keeps h
  | laybyRevokeDone => exact execLaybyRevokeDone_keeps h
  | regionCreate => exact execRegionCreate_keeps h
  | regionDestroy => exact execRegionDestroy_keeps h
  | regionModifyMirror => exact execRegionModifyMirror_keeps h
  | regionModifyPersist => exact execRegionModifyPersist_keeps h
  | regionModifySize => exact execRegionModifySize_keeps h
  | regionModifyRelease => exact execRegionModifyRelease_keeps h
  | regionModifyClearDamaged => exact execRegionModifyClearDamaged_keeps h
  | regionBind => exact execRegionBind_keeps h
  | rgnCommit => exact execRgnCommit_keeps h
  | epochDrainDone => exact execEpochDrainDone_keeps h
  | metadataDurable => exact execMetadataDurable_keeps h
  | poolValidSet => exact execPoolValidSet_keeps h
  | partitionValidSet => exact execPartitionValidSet_keeps h
  | hdmDecoderCommit => exact execHdmDecoderCommit_keeps h
  | cxlMemRead => exact execCxlMemRead_keeps h
  | cxlMemWrite => exact execCxlMemWrite_keeps h
  | readMergeWrite => exact execReadMergeWrite_keeps h
  | admissionRelease => exact execAdmissionRelease_keeps h
  | stallLimitExpiry => exact execStallLimitExpiry_keeps h
  | writeThroughDone => exact execWriteThroughDone_keeps h
  | writebackStart => exact execWritebackStart_keeps h
  | writebackProgramDone => exact execWritebackProgramDone_keeps h
  | nandProgramFail => exact execNandProgramFail_keeps h
  | fillDone => exact execFillDone_keeps h
  | detourTimeout => exact execDetourTimeout_keeps h
  | backgroundRefill => exact execBackgroundRefill_keeps h
  | imageMoveHome => exact execImageMoveHome_keeps h
  | sampleFrame => exact execSampleFrame_keeps h
  | fencePersist => exact execFencePersist_keeps h
  | fencePersistDone => exact execFencePersistDone_keeps h
  | fenceMirror => exact execFenceMirror_keeps h
  | fenceMirrorDone => exact execFenceMirrorDone_keeps h
  | fenceTier => exact execFenceTier_keeps h
  | fenceTierDone => exact execFenceTierDone_keeps h
  | gpfPhase1 => exact execGpfPhase1_keeps h
  | gpfPhase2 => exact execGpfPhase2_keeps h
  | gpfPhase2Done => exact execGpfPhase2Done_keeps h
  | tilePlaced => exact execTilePlaced_keeps h
  | releaseLineWrite => exact execReleaseLineWrite_keeps h
  | planLoad => exact execPlanLoad_keeps h
  | planStart => exact execPlanStart_keeps h
  | planStop => exact execPlanStop_keeps h
  | planStopped => exact execPlanStopped_keeps h
  | objectPlacePromote => exact execObjectPlacePromote_keeps h
  | objectPlacePromotePin => exact execObjectPlacePromotePin_keeps h
  | objectPlaceUnpin => exact execObjectPlaceUnpin_keeps h
  | objectPlaceDemote => exact execObjectPlaceDemote_keeps h
  | driftTrack => exact execDriftTrack_keeps h
  | fullRetrainStart => exact execFullRetrainStart_keeps h
  | chRetrainRequest => exact execChRetrainRequest_keeps h
  | chTimCommit => exact execChTimCommit_keeps h
  | retrainDone => exact execRetrainDone_keeps h
  | retrainBoundExpiry => exact execRetrainBoundExpiry_keeps h
  | rebuildChunk => exact execRebuildChunk_keeps h
  | rebuildTwinWaitExpiry => exact execRebuildTwinWaitExpiry_keeps h
  | caAlert => exact execCaAlert_keeps h
  | caAlertEnd => exact execCaAlertEnd_keeps h
  | replayTimeout => exact execReplayTimeout_keeps h
  | refreshDue => exact execRefreshDue_keeps h
  | dimmThermPoll => exact execDimmThermPoll_keeps h
  | evacuateChannel => exact execEvacuateChannel_keeps h
  | evacDone => exact execEvacDone_keeps h
  | chPwrWrite => exact execChPwrWrite_keeps h
  | readmit => exact execReadmit_keeps h
  | readmitted => exact execReadmitted_keeps h
  | errClear => exact execErrClear_keeps h
  | markClear => exact execMarkClear_keeps h
  | patrolRead => exact execPatrolRead_keeps h
  | patrolWake => exact execPatrolWake_keeps h
  | moduleInsert => exact execModuleInsert_keeps h
  | nandIoTrainingDone => exact execNandIoTrainingDone_keeps h
  | moduleRemove => exact execModuleRemove_keeps h
  | evacuateModule => exact execEvacuateModule_keeps h
  | moduleEvacDone => exact execModuleEvacDone_keeps h
  | readStepDone => exact execReadStepDone_keeps h
  | readLadderCutoff => exact execReadLadderCutoff_keeps h
  | refreshMove => exact execRefreshMove_keeps h
  | garbageCollect => exact execGarbageCollect_keeps h
  | nandEraseDone => exact execNandEraseDone_keeps h
  | eraseResume => exact execEraseResume_keeps h
  | eraseStarved => exact execEraseStarved_keeps h
  | eraseGuardExpiry => exact execEraseGuardExpiry_keeps h
  | wearLevelMove => exact execWearLevelMove_keeps h
  | mapCheckpoint => exact execMapCheckpoint_keeps h
  | saveRehearsal => exact execSaveRehearsal_keeps h
  | saveRehearsalDone => exact execSaveRehearsalDone_keeps h
  | saveImageErase => exact execSaveImageErase_keeps h
  | nandBrownout => exact execNandBrownout_keeps h
  | nandBrownoutEnd => exact execNandBrownoutEnd_keeps h
  | enduranceOver => exact execEnduranceOver_keeps h
  | bttData => exact execBttData_keeps h
  | bttAck => exact execBttAck_keeps h
  | bttNak => exact execBttNak_keeps h
  | bttCredit => exact execBttCredit_keeps h
  | bttKeepalive => exact execBttKeepalive_keeps h
  | bttReadReq => exact execBttReadReq_keeps h
  | bttReadResp => exact execBttReadResp_keeps h
  | hello => exact execHello_keeps h
  | copyCreate => exact execCopyCreate_keeps h
  | copyModify => exact execCopyModify_keeps h
  | copyDestroy => exact execCopyDestroy_keeps h
  | copyRefused => exact execCopyRefused_keeps h
  | copyMissing => exact execCopyMissing_keeps h
  | windowAdvance => exact execWindowAdvance_keeps h
  | promoteReq => exact execPromoteReq_keeps h
  | promoteAck => exact execPromoteAck_keeps h
  | convoySend => exact execConvoySend_keeps h
  | retxTimer => exact execRetxTimer_keeps h
  | retxAbandon => exact execRetxAbandon_keeps h
  | keepaliveTimer => exact execKeepaliveTimer_keeps h
  | pathDead => exact execPathDead_keeps h
  | linkAbsentTimeout => exact execLinkAbsentTimeout_keeps h
  | helloTimer => exact execHelloTimer_keeps h
  | lagExceeded => exact execLagExceeded_keeps h
  | syncTimeout => exact execSyncTimeout_keeps h
  | resyncRangeStart => exact execResyncRangeStart_keeps h
  | promoteTwin => exact execPromoteTwin_keeps h
  | linkEnable => exact execLinkEnable_keeps h
  | linkRekey => exact execLinkRekey_keeps h
  | updBlock => exact execUpdBlock_keeps h
  | updStatus => exact execUpdStatus_keeps h
  | actPropose => exact execActPropose_keeps h
  | actVote => exact execActVote_keeps h
  | actOutcome => exact execActOutcome_keeps h
  | twinOfferRetry => exact execTwinOfferRetry_keeps h
  | cxlLinkUp => exact execCxlLinkUp_keeps h
  | cxlLinkDown => exact execCxlLinkDown_keeps h
  | cxlHotReset => exact execCxlHotReset_keeps h
  | cxlReset => exact execCxlReset_keeps h
  | perstAssert => exact execPerstAssert_keeps h
  | viralReceived => exact execViralReceived_keeps h
  | viralSent => exact execViralSent_keeps h
  | ideKmKSetGo => exact execIdeKmKSetGo_keeps h
  | ideRekeyDue => exact execIdeRekeyDue_keeps h
  | ideCounterLimit => exact execIdeCounterLimit_keeps h
  | dcAddTimeout => exact execDcAddTimeout_keeps h
  | rdmaWrite => exact execRdmaWrite_keeps h
  | rdmaRead => exact execRdmaRead_keeps h
  | compareSwap => exact execCompareSwap_keeps h
  | fetchAdd => exact execFetchAdd_keeps h
  | atomicWrite => exact execAtomicWrite_keeps h
  | rdmaFlush => exact execRdmaFlush_keeps h
  | rdmaResponse => exact execRdmaResponse_keeps h
  | rdmaNakReceived => exact execRdmaNakReceived_keeps h
  | ackTimeout => exact execAckTimeout_keeps h
  | cnpReceived => exact execCnpReceived_keeps h
  | rateTimer => exact execRateTimer_keeps h
  | pfcPauseReceived => exact execPfcPauseReceived_keeps h
  | gateSet => exact execGateSet_keeps h
  | gateExpired => exact execGateExpired_keeps h
  | qpStateRts => exact execQpStateRts_keeps h
  | qpStateError => exact execQpStateError_keeps h
  | qpStateReset => exact execQpStateReset_keeps h
  | qpResetDone => exact execQpResetDone_keeps h
  | mkeyValidSet => exact execMkeyValidSet_keeps h
  | copyLocal => exact execCopyLocal_keeps h
  | copyRemoteWrite => exact execCopyRemoteWrite_keeps h
  | copyRemoteRead => exact execCopyRemoteRead_keeps h
  | copyRemoteFlush => exact execCopyRemoteFlush_keeps h
  | fill => exact execFill_keeps h
  | migrate => exact execMigrate_keeps h
  | ringSqDb => exact execRingSqDb_keeps h
  | ringCqDb => exact execRingCqDb_keeps h
  | ringPush => exact execRingPush_keeps h
  | ringPushContinue => exact execRingPushContinue_keeps h
  | ringPushCommit => exact execRingPushCommit_keeps h
  | ringFlush => exact execRingFlush_keeps h
  | ringEnable => exact execRingEnable_keeps h
  | ringDisable => exact execRingDisable_keeps h
  | descriptorFetch => exact execDescriptorFetch_keeps h
  | cqRecordWrite => exact execCqRecordWrite_keeps h
  | coalTimer => exact execCoalTimer_keeps h
  | nop => exact execNop_keeps h
  | opSuspend => exact execOpSuspend_keeps h
  | opResume => exact execOpResume_keeps h
  | opCancel => exact execOpCancel_keeps h
  | opQuery => exact execOpQuery_keeps h
  | longOpStep => exact execLongOpStep_keeps h
  | sqPointerMismatch => exact execSqPointerMismatch_keeps h
  | arbCommit => exact execArbCommit_keeps h
  | slotTableSwap => exact execSlotTableSwap_keeps h
  | keyLoad => exact execKeyLoad_keeps h
  | keyLoadErase => exact execKeyLoadErase_keeps h
  | keyRotate => exact execKeyRotate_keeps h
  | rotateDone => exact execRotateDone_keeps h
  | alarmZeroise => exact execAlarmZeroise_keeps h
  | alarmClear => exact execAlarmClear_keeps h
  | entropyFail => exact execEntropyFail_keeps h
  | maskDegraded => exact execMaskDegraded_keeps h
  | entropyRecover => exact execEntropyRecover_keeps h
  | drbgReseed => exact execDrbgReseed_keeps h
  | ccMismatch => exact execCcMismatch_keeps h
  | ccSwitchover => exact execCcSwitchover_keeps h
  | ccShortSelftestDone => exact execCcShortSelftestDone_keeps h
  | ccSelftest => exact execCcSelftest_keeps h
  | standbySelftestRound => exact execStandbySelftestRound_keeps h
  | checkpoint => exact execCheckpoint_keeps h
  | forceSwitch => exact execForceSwitch_keeps h
  | wdtKick => exact execWdtKick_keeps h
  | wdtExpire => exact execWdtExpire_keeps h
  | ccRestartDone => exact execCcRestartDone_keeps h
  | flashProgram => exact execFlashProgram_keeps h
  | flashErase => exact execFlashErase_keeps h
  | flashPulseDone => exact execFlashPulseDone_keeps h
  | flashOpResume => exact execFlashOpResume_keeps h
  | flsEraseStarved => exact execFlsEraseStarved_keeps h
  | flsBrownout => exact execFlsBrownout_keeps h
  | recordPortWrite => exact execRecordPortWrite_keeps h
  | sessionEraseDone => exact execSessionEraseDone_keeps h
  | verifyDone => exact execVerifyDone_keeps h
  | abort => exact execAbort_keeps h
  | sessionIdleTimeout => exact execSessionIdleTimeout_keeps h
  | actVoteDeadline => exact execActVoteDeadline_keeps h
  | activationTime => exact execActivationTime_keeps h
  | updComponentSwap => exact execUpdComponentSwap_keeps h
  | confirm => exact execConfirm_keeps h
  | trialSElapsed => exact execTrialSElapsed_keeps h
  | revert => exact execRevert_keeps h
  | confirmSExpiry => exact execConfirmSExpiry_keeps h
  | revertDone => exact execRevertDone_keeps h
  | evtAck => exact execEvtAck_keeps h
  | eventLimitIntervalEnd => exact execEventLimitIntervalEnd_keeps h
  | cfgRejectWindowEnd => exact execCfgRejectWindowEnd_keeps h
  | evtSlotCheckFail => exact execEvtSlotCheckFail_keeps h
  | junctionError => exact execJunctionError_keeps h
  | jctRetrainDone => exact execJctRetrainDone_keeps h
  | tagqInvalidate => exact execTagqInvalidate_keeps h
  | tierEngineFault => exact execTierEngineFault_keeps h
  | trimCommit => exact execTrimCommit_keeps h
  | trimReload => exact execTrimReload_keeps h
  | packInsert => exact execPackInsert_keeps h
  | packIdentifyDone => exact execPackIdentifyDone_keeps h
  | packRemove => exact execPackRemove_keeps h
  | packTestRequest => exact execPackTestRequest_keeps h
  | packTestScheduled => exact execPackTestScheduled_keeps h
  | packTestRetry => exact execPackTestRetry_keeps h
  | packTestDone => exact execPackTestDone_keeps h
  | packRelease => exact execPackRelease_keeps h
  | sanitize => exact execSanitize_keeps h
  | scrubRegion => exact execScrubRegion_keeps h
  | laybyMarchSlot => exact execLaybyMarchSlot_keeps h
  | disturbPatrolRead => exact execDisturbPatrolRead_keeps h
  | eyeScanStart => exact execEyeScanStart_keeps h
  | eyeScanDone => exact execEyeScanDone_keeps h
  | idcode => exact execIdcode_keeps h
  | samplePreload => exact execSamplePreload_keeps h
  | extest => exact execExtest_keeps h
  | extestPulse => exact execExtestPulse_keeps h
  | extestTrain => exact execExtestTrain_keeps h
  | clamp => exact execClamp_keeps h
  | highz => exact execHighz_keeps h
  | mbist => exact execMbist_keeps h
  | scan => exact execScan_keeps h
  | bypass => exact execBypass_keeps h
  | bistStart => exact execBistStart_keeps h
  | bistDone => exact execBistDone_keeps h
  | heartbeatSend => exact execHeartbeatSend_keeps h
  | heartbeatReceive => exact execHeartbeatReceive_keeps h
  | stackElection => exact execStackElection_keeps h
  | handback => exact execHandback_keeps h
  | stackRangeCheck => exact execStackRangeCheck_keeps h
  | electionCommandTimeout => exact execElectionCommandTimeout_keeps h
  | setEndpointId => exact execSetEndpointId_keeps h
  | getEndpointId => exact execGetEndpointId_keeps h
  | getMctpVersion => exact execGetMctpVersion_keeps h
  | getMessageTypeSupport => exact execGetMessageTypeSupport_keeps h
  | i3cAddressAssign => exact execI3cAddressAssign_keeps h
  | i3cRstdaa => exact execI3cRstdaa_keeps h
  | i3cBusErrorTimeout => exact execI3cBusErrorTimeout_keeps h
  | evtRead => exact execEvtRead_keeps h
  | platformEventAck => exact execPlatformEventAck_keeps h
  | glbLockSet => exact execGlbLockSet_keeps h
  | autoLock => exact execAutoLock_keeps h
  | counterReadClear => exact execCounterReadClear_keeps h
  | unlistedAccess => exact execUnlistedAccess_keeps h
  | registerWrite => exact execRegisterWrite_keeps h
  | commandSlot => exact execCommandSlot_keeps h
  | linkL1Entry => exact execLinkL1Entry_keeps h
  | ethLinkUp => exact execEthLinkUp_keeps h
  | ethLinkDown => exact execEthLinkDown_keeps h
  | vddIoLost => exact execVddIoLost_keeps h
  | vddIoReturn => exact execVddIoReturn_keeps h
  | pwrFailNRise => exact execPwrFailNRise_keeps h
  | sysRstNRelease => exact execSysRstNRelease_keeps h
  | perstRelease => exact execPerstRelease_keeps h
  | crystalStart => exact execCrystalStart_keeps h
  | twinReadTimeout => exact execTwinReadTimeout_keeps h
  | writeThroughStart => exact execWriteThroughStart_keeps h
  | previousEpochExpiry => exact execPreviousEpochExpiry_keeps h

/-- The idle step keeps the queue: the request it may serve waits in a buffer of an endpoint, not in the queue. -/
theorem idle_pending {s t : State} (h : s.idle = .next t) : t.pending = s.pending := by
  unfold State.idle at h
  split at h
  · next c rest _ =>
    split at h
    · cases e : exec c { s with buffered := [] } with
      | next u =>
        rw [e] at h
        cases h
        exact (exec_keeps (Keeps.refl _) c u e).1
      | fault f => rw [e] at h; cases h
      | refused f => rw [e] at h; cases h
    · cases h; rfl
  · cases h; rfl

/-- A step leaves the queue without its front command. -/
theorem step_pending {s t : State} (h : step s = .next t) : t.pending = s.pending.tail := by
  unfold step at h
  split at h
  · next c rest hq =>
    rw [hq, List.tail_cons]
    exact (exec_keeps (Keeps.refl _) c t h).1
  · next hq => rw [idle_pending h, hq, List.tail_nil]

/-- Settles O1: the step's own case for a queue with a front command. -/
theorem stepRunsFront : Obligations.StepRunsFront := fun _ _ _ => rfl

/-- Settles O49: the queue of the next state is the tail of the queue, whose commands all waited before. -/
theorem queueIsFifo : Obligations.QueueIsFifo := by
  refine ⟨fun s t h => step_pending h, fun s t hwf h c hc => hwf c ?_⟩
  rw [step_pending h] at hc
  exact List.mem_of_mem_tail hc

end Sys2Proof.Proofs
end

section
/-!
What leaves tier 1 alone: records, completions, mode changes, the copies for the twin, and what follows a write.
-/
namespace Sys2Proof.Proofs

open Machine Safety Laws

/-- Tier 1: the channels and the lines they hold. -/
def tier1 (s : State) : List (Nat × Channel) × List (Nat × Line) := (s.chans, s.tier.dram)

theorem chans_eq_of_tier1 {s t : State} (h : tier1 t = tier1 s) : t.chans = s.chans := congrArg Prod.fst h

theorem dram_eq_of_tier1 {s t : State} (h : tier1 t = tier1 s) : t.tier.dram = s.tier.dram := congrArg Prod.snd h

theorem ch_eq_of_tier1 {s t : State} (h : tier1 t = tier1 s) (n : Nat) : t.ch n = s.ch n := by
  rw [State.ch, chans_eq_of_tier1 h, State.ch]

section Frames

variable {s : State}

/-- A loop whose every turn leaves tier 1 alone does so too. -/
theorem foldl_tier1 {α : Type} {f : State → α → State} (hf : ∀ s a, tier1 (f s a) = tier1 s) (l : List α) (s : State) :
    tier1 (l.foldl f s) = tier1 s :=
  List.foldlRecOn (motive := fun t => tier1 t = tier1 s) l f rfl fun t ht a _ => (hf t a).trans ht

@[simp] theorem bump_tier1 (f : Field) (i j : Nat) : tier1 (s.bump f i j) = tier1 s := rfl

@[simp] theorem pushCxl_tier1 (p ld log kind : Nat) (x : Option LogRec) (base size : Nat) :
    tier1 (s.pushCxl p ld log kind x base size) = tier1 s := by
  unfold State.pushCxl
  dsimp only
  split <;> split <;> rfl

@[simp] theorem mirrorCxl_tier1 (r : LogRec) : tier1 (s.mirrorCxl r) = tier1 s := by
  unfold State.mirrorCxl
  dsimp only
  repeat' split
  all_goals simp [foldl_tier1]

@[simp] theorem platformEvent_tier1 (e : PlatformEvent) : tier1 (s.platformEvent e) = tier1 s := by
  unfold State.platformEvent
  split <;> rfl

@[simp] theorem mirrorEvent_tier1 (r : LogRec) : tier1 (s.mirrorEvent r) = tier1 s := by
  unfold State.mirrorEvent
  dsimp only
  split <;> simp

@[simp] theorem copyCritical_tier1 (r : LogRec) : tier1 (s.copyCritical r) = tier1 s := by
  unfold State.copyCritical
  split <;> rfl

/-- A record goes to the log, its flash copy, the hosts and the BMC, never to tier 1. -/
@[simp] theorem log_tier1 (code : Nat) (sev : Sev) (src w4 w5 w6 w7 : Nat) : tier1 (s.log code sev src w4 w5 w6 w7) = tier1 s := by
  unfold State.log State.place
  split
  · rw [mirrorEvent_tier1, copyCritical_tier1]; rfl
  · split
    · rw [mirrorEvent_tier1, copyCritical_tier1]; rfl
    · rfl

@[simp] theorem record_tier1 (src : CmdSrc) (st : Status) (param : Nat) (long final : Bool) :
    tier1 (s.record src st param long final) = tier1 s := by
  unfold State.record
  cases src with
  | ring r tag op irq => rfl
  | mailbox p ld op => dsimp only; split <;> rfl
  | rdma q psn =>
    dsimp only
    repeat' split
    all_goals rfl
  | internal => rfl

@[simp] theorem stackSensor_tier1 (base value : Nat) : tier1 (s.stackSensor base value) = tier1 s := by
  unfold State.stackSensor
  split
  · rfl
  · exact platformEvent_tier1 _

@[simp] theorem setMode_tier1 (m : Mode) (t : Trigger) : tier1 (s.setMode m t) = tier1 s := by
  unfold State.setMode
  dsimp only
  rw [log_tier1, stackSensor_tier1]
  exact platformEvent_tier1 _

@[simp] theorem setCauses_tier1 (c : BitVec 5) : tier1 { s with mc := { s.mc with causes := c } } = tier1 s := rfl

@[simp] theorem reeval_tier1 (t : Trigger) : tier1 (s.reeval t) = tier1 s := by
  unfold State.reeval
  dsimp only
  repeat' split
  all_goals simp

@[simp] theorem activity_tier1 : tier1 s.activity = tier1 s := by
  unfold State.activity State.enterService
  split
  · exact setMode_tier1 _ _
  · rfl

@[simp] theorem takeEntry_tier1 (p ld : Nat) : tier1 (s.takeEntry p ld) = tier1 s := rfl

@[simp] theorem setDirty_tier1 (k : Nat) : tier1 (s.setDirty k) = tier1 s := by
  unfold State.setDirty State.setDirties State.absorbCopies State.restartRange
  dsimp only
  rw [reeval_tier1]
  split
  · rfl
  · split <;> rfl

/-- The copy of a write goes to the twin, not to tier 1 (R229). -/
@[simp] theorem handOff_tier1 (r : Region) (req : Requester) (l : Nat) (x : Line) (be : Option (BitVec 64)) :
    tier1 (s.handOff r req l x be).2 = tier1 s := by
  unfold State.handOff
  dsimp only
  split
  · rfl
  split
  · exact setDirty_tier1 _
  repeat' split
  all_goals rfl

@[simp] theorem rotateLine_tier1 (i : Nat) (r : Region) (l : Nat) : tier1 (s.rotateLine i r l) = tier1 s := by
  unfold State.rotateLine
  repeat' split
  all_goals rfl

@[simp] theorem advanceRelease_tier1 (p : Plan) (x : Stream) : tier1 (s.advanceRelease p x) = tier1 s := by
  unfold State.advanceRelease
  exact (foldl_tier1 (f := fun (s : State) (e : Nat × Nat) => s.unpin e.2 1) (fun _ _ => rfl) _ _).trans rfl

@[simp] theorem observeRelease_tier1 (i : Nat) (r : Region) (l : Nat) : tier1 (s.observeRelease i r l) = tier1 s := by
  unfold State.observeRelease State.takeRelease
  dsimp only
  repeat' split
  all_goals simp

@[simp] theorem fenceLanded_tier1 (w : AdmWrite) (through : Bool) : tier1 (s.fenceLanded w through) = tier1 s := by
  unfold State.fenceLanded
  split
  · rfl
  · exact foldl_tier1 (fun _ _ => record_tier1 ..) _ _

/-- A host's write completes on its link (R76). -/
theorem finishWrite_host_tier1 (p ld tag : Nat) : tier1 (s.finishWrite (.host p ld tag)) = tier1 s := by
  unfold State.finishWrite
  dsimp only
  split <;> rfl

end Frames
end Sys2Proof.Proofs
end

section
/-!
A read that is given up opens no channel (R123).
-/
namespace Sys2Proof.Proofs

open Machine Safety Laws

section Channels

variable {s : State}

@[simp] theorem log_chans (code : Nat) (sev : Sev) (src w4 w5 w6 w7 : Nat) : (s.log code sev src w4 w5 w6 w7).chans = s.chans :=
  chans_eq_of_tier1 (log_tier1 ..)

/-- A work item that ends renames requesters in the channels and makes no new one. -/
theorem endItem_chans_nil (h : s.chans = []) (it : QpItem) (st : Status) : (s.endItem it st).chans = [] := by
  unfold State.endItem
  split
  · exact (chans_eq_of_tier1 (record_tier1 ..)).trans h
  · split
    · refine (chans_eq_of_tier1 ((foldl_tier1 (fun _ _ => record_tier1 ..) _ _).trans (record_tier1 ..))).trans ?_
      simp [State.detachOp, State.renameWriters, h]
    · exact h

theorem stopQp_chans_nil (h : s.chans = []) (q : Nat) (st : QpState) (bad : Option (Nat × Status)) : (s.stopQp q st bad).chans = [] := by
  unfold State.stopQp
  exact List.foldlRecOn (motive := fun t : State => t.chans = []) _ _ h fun _ ht _ _ => endItem_chans_nil ht _ _

theorem deliver_chans_nil (h : s.chans = []) (req : Requester) (l : Nat) (x : Line) : (s.deliver req l x).chans = [] := by
  unfold State.deliver
  cases req with
  | rdma q psn k =>
    dsimp only
    split
    · exact h
    · split
      · exact stopQp_chans_nil (by simpa [State.rdmaNak, State.rdmaSend] using h) q .error none
      · exact h
  | host p ld tag =>
    simp only [State.answerRead]
    split
    · exact h
    · exact h
  | _ => exact h

theorem timeOutRead_chans_nil (h : s.chans = []) (rd : PendingRead) : (s.timeOutRead rd).chans = [] :=
  deliver_chans_nil (by simpa using h) _ _ _

/-- A loop whose every turn leaves a value as it is leaves it so. -/
theorem foldl_of_fixed {α β : Type} {f : α → β → α} {a : α} (hf : ∀ b, f a b = a) (l : List β) : l.foldl f a = a := by
  induction l with
  | nil => rfl
  | cons b l ih => rw [List.foldl_cons, hf b, ih]

/-- While no channel is in use none is being rebuilt. -/
theorem work_of_chans_nil (h : s.chans = []) (n : Nat) : (s.ch n).work = .none := by
  rw [State.ch, h]
  rfl

/-- The one waiting read of a line times out; no channel holds another (R123). -/
theorem detourTimeout_one {l : Nat} {rd : PendingRead} (hr : s.tier.reads = [rd]) (hl : rd.line = l) (hc : s.chans = []) :
    exec (.detourTimeout l) s = .next (State.timeOutRead { s with tier := { s.tier with reads := [] } } rd) := by
  change execDetourTimeout l s = _
  have hw := work_of_chans_nil (timeOutRead_chans_nil (s := { s with tier := { s.tier with reads := [] } }) hc rd)
  simp only [execDetourTimeout, hr, List.filter_cons, List.filter_nil, hl, beq_self_eq_true, Bool.not_true, Bool.false_eq_true, if_true,
    if_false, List.foldl_cons, List.foldl_nil]
  exact congrArg _ (foldl_of_fixed (fun n => if_neg (by rw [hw n]; decide)) _)

end Channels
end Sys2Proof.Proofs
end

section
/-!
The requests of a host (R23, R26, R66, R270), the read-merge-write (R157) and the bounds of waiting requests (R82, R83, R123).
-/
namespace Sys2Proof.Proofs

open Machine Safety Laws

section Requests

variable {s t : State} {p : PortId} {ld : Fin 16} {a : BitVec 52} {tag i dpa : Nat} {r : Region} {mac : Bool}

/-- A request that passes its MAC check where its link asks for one has no MAC failure (R281). -/
theorem mac_passes {n : Nat} (h : n = 1 → mac = true) : ¬ (n = 1 ∧ (!mac) = true) := fun hn => by simp [h hn.1] at hn

/-- An accepted read whose access check allows it is served (R23). -/
theorem cxlMemRead_allowed {errs : List (Fin 40)} {wb : Bool} (hp : s.portAccepts p.val ld.val = true)
    (hm : (s.linkAt p.val (s.ldLink p.val ld.val)).ide = 1 → mac = true) (ht : t = (s.takeEntry p.val ld.val).activity)
    (hs : (s.takeEntry p.val ld.val).mc.mode.serving = true) (ha : t.memAccess p.val ld.val a.toNat = .allowed i r dpa) :
    exec (.cxlMemRead p ld a tag errs wb mac) s =
      .next (t.serveRead ⟨.host p.val ld.val tag, dpa / 64, t.timeNs, false, false, t.rgn.epoch⟩ i r (errs.map Fin.val) wb) := by
  subst ht
  change execCxlMemRead p ld a tag errs wb mac s = _
  simp only [execCxlMemRead, hp, if_neg (mac_passes hm), hs, ha, Bool.not_true, Bool.false_eq_true, if_false]

/-- An accepted read that fails its access check is recorded and answered with poison (R66). -/
theorem cxlMemRead_refused {errs : List (Fin 40)} {wb : Bool} {x : MemAccess} (hp : s.portAccepts p.val ld.val = true)
    (hm : (s.linkAt p.val (s.ldLink p.val ld.val)).ide = 1 → mac = true) (ht : t = (s.takeEntry p.val ld.val).activity)
    (hs : (s.takeEntry p.val ld.val).mc.mode.serving = true) (ha : t.memAccess p.val ld.val a.toNat = x)
    (hx : ∀ i r dpa, x ≠ .allowed i r dpa) :
    exec (.cxlMemRead p ld a tag errs wb mac) s =
      .next ((t.recordAccess p.val ld.val x).answerRead (.host p.val ld.val tag) 0 poisonLine) := by
  subst ht
  change execCxlMemRead p ld a tag errs wb mac s = _
  cases x with
  | allowed i r dpa => exact absurd rfl (hx i r dpa)
  | _ => simp only [execCxlMemRead, hp, if_neg (mac_passes hm), hs, ha, Bool.not_true, Bool.false_eq_true, if_false]

/-- An accepted read in a mode that does not serve is answered with poison (R270). -/
theorem cxlMemRead_not_serving {errs : List (Fin 40)} {wb : Bool} (hp : s.portAccepts p.val ld.val = true)
    (hm : (s.linkAt p.val (s.ldLink p.val ld.val)).ide = 1 → mac = true) (ht : t = s.takeEntry p.val ld.val)
    (hs : t.mc.mode.serving = false) :
    exec (.cxlMemRead p ld a tag errs wb mac) s =
      .next ((t.bump PRT_NOT_READY_CNT_COUNT p.val).answerRead (.host p.val ld.val tag) 0 poisonLine) := by
  subst ht
  change execCxlMemRead p ld a tag errs wb mac s = _
  simp only [execCxlMemRead, hp, if_neg (mac_passes hm), hs, Bool.not_true, Bool.not_false, Bool.false_eq_true, if_false, if_true]

/-- An accepted write whose access check allows it goes to admission (R26). -/
theorem cxlMemWrite_allowed {x : LineData} {be : BitVec 64} {poison : Bool} (hp : s.portAccepts p.val ld.val = true)
    (hf : s.admFull (p.val / 2) = false) (hm : (s.linkAt p.val (s.ldLink p.val ld.val)).ide = 1 → mac = true)
    (ht : t = (s.takeEntry p.val ld.val).activity) (hs : (s.takeEntry p.val ld.val).mc.mode.serving = true)
    (hv : ((s.takeEntry p.val ld.val).linkAt p.val (s.ldLink p.val ld.val)).viral = false)
    (ha : t.memAccess p.val ld.val a.toNat = .allowed i r dpa) :
    exec (.cxlMemWrite p ld a tag x be poison mac) s =
      .next (t.storeWrite (t.newWrite (p.val / 2) (dpa / 64) x be poison (.host p.val ld.val tag)) i r) := by
  subst ht
  change execCxlMemWrite p ld a tag x be poison mac s = _
  simp only [execCxlMemWrite, hp, hf, if_neg (mac_passes hm), hs, hv, ha, Bool.not_true, Bool.or_self, Bool.false_eq_true, if_false]

end Requests

/-- A merge of a line that reads good and passes its waybill check ends with the merged line (R157). -/
theorem readMergeWrite_good {s t : State} {ch : ChId} {l i : Nat} {m : Merge} {r : Region} {errs : List (Fin 40)}
    (hm : ((s.ch ch.val).merges.find? fun m => m.line == l && ! m.recovering) = some m) (hr : s.regionOf (64 * l) = some (i, r))
    (hf : (s.page (l / 64)).st ≠ .filling)
    (hd : s.decodeLine l ⟨ch.val, (s.dramAddr r (64 * l) (s.page (l / 64)).way).addr⟩ (errs.map Fin.val) false = (.good, t))
    (hc : (t.line l).checks l = true) :
    exec (.readMergeWrite ch l errs false) s = .next (t.mergeEnds ch.val l (mergeLine (t.line l) m.data m.be)) := by
  change execReadMergeWrite ch l errs false s = _
  simp [execReadMergeWrite, hm, hr, hf, hd, hc]

/-- The write of a carriageway that waited longest leaves its queue and is written through (R83). -/
theorem stallLimitExpiry_some {s : State} {cw : CwId} {w : AdmWrite} (hw : (s.per.adm.find? fun w => w.cw == cw.val) = some w) :
    exec (.stallLimitExpiry cw) s = .next ((State.stallEnds
      { s with per := { s.per with adm := s.per.adm.erase w, stallFrames := 0 } } w true).resumeWrite w true) := by
  change execStallLimitExpiry cw s = _
  simp only [execStallLimitExpiry, hw]

/-- Settles O31: each clause is one of the lemmas above; a release from the admission queues is the shared `releaseOne` itself. -/
theorem hostMemoryRequests : Obligations.HostMemoryRequests := by
  refine ⟨?read, ?write, ?refused, ?notServing, ?merge, fun s => rfl, ?stall, ?detour⟩
  case read => exact fun _ _ _ _ _ _ _ _ _ _ _ _ hp hm ht hs ha => cxlMemRead_allowed hp hm ht hs ha
  case write => exact fun _ _ _ _ _ _ _ _ _ _ _ _ _ hp hf hm ht hs hv ha => cxlMemWrite_allowed hp hf hm ht hs hv ha
  case refused =>
    intro p ld a tag dpa errs wb mac s t hp hm ht hs
    exact ⟨fun ha => cxlMemRead_refused hp hm ht hs ha (by simp), fun ha => cxlMemRead_refused hp hm ht hs ha (by simp)⟩
  case notServing => exact fun _ _ _ _ _ _ _ _ _ hp hm ht hs => cxlMemRead_not_serving hp hm ht hs
  case merge => exact fun _ _ _ _ _ _ _ _ hm hr hf hd hc => readMergeWrite_good hm hr hf hd hc
  case stall =>
    rintro cw w s t hw rfl
    exact stallLimitExpiry_some hw
  case detour => exact fun _ _ _ hr hl hc => detourTimeout_one hr hl hc

end Sys2Proof.Proofs
end

section
/-!
A full-line write of a host (R26, R66, R180): what it stores where the memory is in canonical form, and where it is not.
-/
namespace Sys2Proof.Proofs

open Machine Safety Laws

section Stores

variable {s : State}

/-- A queued write holds no content: its line is stored already (R153). -/
theorem queueWrite_dram (l : Nat) (a : ChAddr) (part repair : Bool) (owner : Nat) :
    (s.queueWrite l a part repair owner).tier.dram = s.tier.dram := by
  unfold State.queueWrite
  dsimp only
  repeat' split
  all_goals rfl

/-- A full line replaces what tier 1 holds at its index (R153). -/
theorem writeLine_full_dram {w : AdmWrite} (hb : w.be = fullBe) (hp : w.poison = false) (a : ChAddr) :
    (s.writeLine w a).tier.dram = Sparse.set zeroLine s.tier.dram w.line (mkLine w.line w.data) := by
  unfold State.writeLine
  rw [if_pos (Or.inr hb), queueWrite_dram, setLine_dram, hp]
  rfl

/-- No share is to be rebuilt where no channel is being rebuilt. -/
theorem shareAt_none (h : ∀ n < 16, (s.ch n).work ≠ .rebuild) (p o : Nat) : s.shareAt p o = none := by
  unfold State.shareAt
  exact List.findSome?_eq_none_iff.mpr fun n hn => if_neg (h n (List.mem_range.mp hn))

/-- The same of a write to its place in a pool, while no channel is being rebuilt (R37). -/
theorem writeDram_full_dram {w : AdmWrite} (hb : w.be = fullBe) (hp : w.poison = false)
    (h : ∀ n < 16, (s.ch n).work ≠ .rebuild) (r : Region) :
    (s.writeDram w r).tier.dram = Sparse.set zeroLine s.tier.dram w.line (mkLine w.line w.data) := by
  unfold State.writeDram
  simp only [shareAt_none h]
  rw [writeLine_full_dram hb hp]
  split <;> rfl

/-- The page of a RESIDENT region that is in DRAM takes a write at once (R52, R120). -/
theorem landPage_resident {w : AdmWrite} {i : Nat} {r : Region} {counts : Bool} (hr : r.cls = .resident)
    (hi : (s.page (w.line / 64)).st ≠ .invalid) (hf : (s.page (w.line / 64)).st ≠ .filling) :
    s.landPage w i r counts = (.landed, s.setPage (w.line / 64) ((s.page (w.line / 64)).written counts s.timeNs)) := by
  unfold State.landPage
  simp only [hr]

/-- A full line of a host that lands in such a page replaces its line in tier 1 (R26, R52). -/
theorem landWrite_full_dram {w : AdmWrite} {i p ld tag : Nat} {r : Region} {counts : Bool} (hq : w.req = .host p ld tag)
    (hb : w.be = fullBe) (hp : w.poison = false) (hr : r.cls = .resident) (hi : (s.page (w.line / 64)).st ≠ .invalid)
    (hf : (s.page (w.line / 64)).st ≠ .filling) (hc : ∀ n < 16, (s.ch n).work ≠ .rebuild) :
    (s.landWrite w i r counts false).tier.dram = Sparse.set zeroLine s.tier.dram w.line (mkLine w.line w.data) := by
  unfold State.landWrite
  simp only [landPage_resident hr hi hf, hq, hp, Bool.false_eq_true, if_false]
  generalize hx : State.handOff _ _ _ _ _ _ = x
  have hs : tier1 x.2 = tier1 s := hx ▸ handOff_tier1 ..
  have hw : (x.2.writeDram w r).tier.dram = Sparse.set zeroLine s.tier.dram w.line (mkLine w.line w.data) := by
    rw [writeDram_full_dram hb hp fun n hn => ch_eq_of_tier1 hs n ▸ hc n hn, dram_eq_of_tier1 hs]
  rw [← hw]
  split
  · exact dram_eq_of_tier1 (by simp)
  · exact dram_eq_of_tier1 (by simp [finishWrite_host_tier1])

end Stores

/-- A full line that a host writes to a volatile RESIDENT region replaces its line in tier 1 (R26). -/
theorem storeWrite_volatile_dram {s : State} {w : AdmWrite} {i p ld tag : Nat} {r : Region} (hq : w.req = .host p ld tag)
    (hb : w.be = fullBe) (hp : w.poison = false) (hr : r.cls = .resident) (hv : r.persist = false)
    (hi : (s.page (w.line / 64)).st ≠ .invalid) (hf : (s.page (w.line / 64)).st ≠ .filling) (hc : ∀ n < 16, (s.ch n).work ≠ .rebuild) :
    (s.storeWrite w i r).tier.dram = Sparse.set zeroLine s.tier.dram w.line (mkLine w.line w.data) := by
  unfold State.storeWrite
  simp only [hv, Bool.not_false, if_true]
  split
  · exact landWrite_full_dram hq hb hp hr hi hf hc
  · exact landWrite_full_dram hq hb hp hr hi hf hc

/-- A full-line write of a host to a valid frame of a volatile RESIDENT region stores its line and no other, where the memory is in
canonical form, as every step keeps it (`exec_keeps`). -/
theorem cxlMemWrite_volatile_line {s t : State} {p : PortId} {ld : Fin 16} {a : BitVec 52} {tag dpa i : Nat} {r : Region} {x : LineData}
    (hw : Sparse.wf zeroLine s.tier.dram = true) (ha : s.portAccepts p.val ld.val = true) (hf : s.admFull (p.val / 2) = false)
    (ht : t = (s.takeEntry p.val ld.val).activity) (hm : (s.takeEntry p.val ld.val).mc.mode.serving = true)
    (hv : ((s.takeEntry p.val ld.val).linkAt p.val (s.ldLink p.val ld.val)).viral = false)
    (hd : t.memAccess p.val ld.val a.toNat = .allowed i r dpa) (hr : r.cls = .resident) (hp : r.persist = false)
    (hi : (t.page (dpa / 64 / 64)).st ≠ .invalid) (hl : (t.page (dpa / 64 / 64)).st ≠ .filling) (hc : ∀ n < 16, (t.ch n).work ≠ .rebuild) :
    ∃ u, exec (.cxlMemWrite p ld a tag x fullBe false true) s = .next u ∧
      ∀ l, u.line l = if l = dpa / 64 then mkLine (dpa / 64) x else s.line l := by
  refine ⟨_, cxlMemWrite_allowed ha hf (fun _ => rfl) ht hm hv hd, fun l => ?_⟩
  have hs : t.tier.dram = s.tier.dram := dram_eq_of_tier1 (by rw [ht, activity_tier1, takeEntry_tier1])
  rw [State.line, storeWrite_volatile_dram rfl rfl rfl hr hp hi hl hc, hs]
  exact get_set hw

/-- A volatile RESIDENT region that hosts own and that is mapped. -/
def volatileRegion : Region := { Region.empty with valid := true, size := 2, ownerSet := 1 }

/-- A controller in SERVICE with link 0 of port 0 up, the region in use and its key loaded, whose memory lists line 64 before line 63.
Sparse maps are canonical when their keys rise (log entry 1); this one is not. -/
def unsortedMemory : State :=
  let s := State.reset.setLink 0 0 ⟨true, 8, 6, 3, true, false, 0, [], false, .l0, 0xFFFF⟩
  { s with
    mc := { s.mc with mode := .service }
    rgn := { s.rgn with table := [(0, volatileRegion)], sets := [(1, 1)], hdm := [(0, ⟨0, 0x10000000, 1, 8, 0, true, false, false⟩)] }
    sec := { s.sec with slots := [(0, { KeySlot.empty with st := .loaded })] }
    tier := { s.tier with pages := [(0, { Page.empty with st := .clean })], dram := [(64, mkLine 64 1), (63, mkLine 63 1)] } }

/-- A host's write of zeros to line 63. -/
def zeroWrite : Instr := .cxlMemWrite 0 0 0xFC0 0 0 fullBe false true

/-- The write meets line 64 first and so takes line 63 for unlisted; zeros are what an unlisted line reads as, so nothing is written
and the old line stays. -/
theorem zeroWrite_keeps_unsorted_line {u : State} (h : exec zeroWrite unsortedMemory = .next u) : u.line 63 = mkLine 63 1 := by
  cases h
  decide +kernel

/-- Refutes O59: the statement speaks of every state, also of one whose memory is not in canonical form, to which no step leads from a
canonical one. With the premise that it is canonical the statement holds (`cxlMemWrite_volatile_line`). -/
theorem not_hostWriteStoresItsLine : ¬ Obligations.HostWriteStoresItsLine := by
  intro h
  obtain ⟨u, hu, hline, -⟩ := h 0 0 0xFC0 0 0xFC0 0 volatileRegion 0 unsortedMemory _ (by decide +kernel) (by decide +kernel)
    (by decide +kernel) rfl (by decide +kernel) (by decide +kernel) (by decide +kernel) rfl rfl (by decide +kernel) (by decide +kernel)
    (by decide +kernel)
  have he : u.line 63 = mkLine 63 1 := zeroWrite_keeps_unsorted_line hu
  exact absurd (he.symm.trans hline) (by decide +kernel)

end Sys2Proof.Proofs
end

section
/-!
Mode requests of the host and the changes that BOOT, RESTORE, DRAIN and sleep make (R31, R41, R102, R525, R539).
-/
namespace Sys2Proof.Proofs

open Machine Safety Laws

section ModeRequests

variable {s : State} {ask : ModeAsk}

/-- A request of the host is decided at once, with its target in GLB_MODE_REQ, in every mode but OFF, STANDBY and SAVE (R33, R539). -/
theorem askMode_host {n : Nat} {m : Mode} {st : Status} {u : State} (hm : s.mc.mode = m)
    (hd : m ≠ .off ∧ m ≠ .standby ∧ m ≠ .save) (hx : (s.setFld GLB_MODE_REQ_TARGET n).modeRequest n .host = (st, u)) :
    s.askMode n .host = u.answerMode .host st := by
  obtain ⟨hoff, hstandby, hsave⟩ := hd
  simp [State.askMode, hm, hoff, hstandby, hsave, hx, ModeAsk.bmc]

/-- A request of the BMC in STANDBY is decided at once while VDD_IO is in range and the request leaves no wake pending (R496, R497). -/
theorem askMode_standby {n : Nat} {st : Status} {u : State} (hm : s.mc.mode = .standby) (hio : s.pw.ioOk = true)
    (hx : s.modeRequest n .bmcReg = (st, u)) (hp : u.pw.pendingWake = none) : s.askMode n .bmcReg = u.answerMode .bmcReg st := by
  simp [State.askMode, hm, hio, hx, hp, ModeAsk.bmc]

theorem modeRequest_drain (h : s.mc.mode = .service) : s.modeRequest 0x7 ask = (.ok, s.enterDrain ask.trigger false) := by
  simp [State.modeRequest, h]

theorem modeRequest_drainCancel (h : s.mc.mode = .drain) : s.modeRequest 0x4 ask =
    (.ok, ({ s with mc := { s.mc with drainMaint := false, latchedMaint := false } } : State).enterService ask.trigger) := by
  simp [State.modeRequest, h]

theorem modeRequest_maintenance (h : s.mc.mode = .service) : s.modeRequest 0xB ask = (.ok, s.enterDrain ask.trigger true) := by
  simp [State.modeRequest, h]

theorem modeRequest_maintenance_recovery (h : s.mc.mode = .recovery) :
    s.modeRequest 0xB ask = (.ok, s.setMode .maintenance ask.trigger) := by
  simp [State.modeRequest, h]

theorem modeRequest_wake (h : s.mc.mode = .standby) : s.modeRequest 0x2 .bmcReg = (.ok, s.wake (.mgmt .bmcReg)) := by
  simp [State.modeRequest, h, ModeAsk.bmc]

/-- Codes from 0xC on name no mode (R539). -/
theorem modeRequest_other {n : Nat} (h : 0xC ≤ n) : s.modeRequest n ask = (.invalid, s.refuseMode n ask.trigger .invalid) := by
  unfold State.modeRequest
  split
  case h_5 => exact if_pos h
  all_goals omega

/-- A wake with the board's power good starts the sequence (R497). -/
theorem wake_starts {w : PendingWake} (hm : s.mc.mode = .standby) (hseq : s.sequencing = false) (hb : s.pw.brdPg = true)
    (hf : s.pw.pwrFailN = true) : s.wake w = s.startSequence := by
  simp [State.wake, hm, hseq, hb, hf]

theorem raiseRail_pendingWake (k : Nat) : (s.raiseRail k).pw.pendingWake = s.pw.pendingWake := by
  unfold State.raiseRail
  split <;> rfl

/-- A sequence that starts leaves no wake pending (R497). -/
theorem startSequence_pendingWake : s.startSequence.pw.pendingWake = none := raiseRail_pendingWake _

/-- The wake that the BMC asks for starts the sequence and is answered (R497, R539). -/
theorem askMode_wake (hm : s.mc.mode = .standby) (hio : s.pw.ioOk = true) (hseq : s.sequencing = false) (hb : s.pw.brdPg = true)
    (hf : s.pw.pwrFailN = true) : s.askMode 0x2 .bmcReg = s.startSequence.answerMode .bmcReg .ok :=
  askMode_standby hm hio (by rw [modeRequest_wake hm, wake_starts hm hseq hb hf]) startSequence_pendingWake

end ModeRequests

section ModeChanges

variable {s : State}

theorem quiesceEnter_quiet (hm : s.mc.mode = .service) (hen : s.flag GLB_SLEEP_CTL_QUIESCENT_EN = true) (hq : s.quiet = true) :
    exec .quiesceEnter s = .next (s.setMode .quiescent .quiesced) :=
  congrArg Host.Outcome.next (if_pos ⟨hm, hen, hq⟩)

/-- Training starts in a BOOT that waited in the cold (R525). -/
theorem coldBootTrainStart_cold {low : Int} (hc : s.pw.cold = some low) (hm : s.mc.mode = .boot) :
    exec .coldBootTrainStart s = .next (({ s with pw := { s.pw with cold := none } }).log 0x9025 .notice srcPower
      (BitVec.ofInt 32 low).toNat ((s.timeNs - s.pw.bootAt) / 1000000) (if s.coldest < 0 then 1 else 0)) := by
  change execColdBootTrainStart s = _
  simp only [execColdBootTrainStart, hc, if_pos hm]
  rfl

theorem restoreApplied_restore (hm : s.mc.mode = .restore) :
    exec .restoreApplied s = .next (s.sealedImages.foldl (fun s b => s.applyImage b) s).startService :=
  congrArg Host.Outcome.next (if_pos hm)

/-- What a finished DRAIN makes durable (R31, R424): the twin's marks, and the clean-shutdown record with the log. -/
def drainEnd (s : State) : State :=
  { s with
    mc := { s.mc with drainMaint := false }
    twin := { s.twin with txDurable := (List.range 16).foldl (fun m st => Sparse.set (fun _ => 1) m st (s.txSeq st)) s.twin.txDurable }
    per := { s.per with clean := some s.evt.recs } }

/-- A finished DRAIN ends in MAINTENANCE or in STANDBY (R31). -/
theorem drainDone_drained {straps : Straps} (hm : s.mc.mode = .drain) (hd : s.drained = true) : exec (.drainDone straps) s =
    .next (if s.mc.drainMaint then (drainEnd s).ethLinksDown.setMode .maintenance .workDone
      else (drainEnd s).enterStandby .workDone straps) :=
  congrArg Host.Outcome.next (if_pos ⟨hm, hd⟩)

/-- The state of BOOT once the three cores passed their tests, the log is restored, the member is admitted to its stack and the capacity
is known (R372, R424, R466). -/
def bootReady (s : State) (sramOk : Bool) (clash : Fin 3) : State :=
  let c := { s with cc := { s.cc with roleA := .pair, roleB := .pair, roleS := .standby, gap := .none } }
  let u := (c.restoreLog sramOk).admitStack clash
  { u with rgn := { u.rgn with limitGib := BitVec.ofNat 18 u.dpaLimit } }

variable {fa fb : Option (Fin 7)} {ba bb clash : Fin 3} {ok : Bool}

/-- The start-up checks that end a BOOT with the recovery strap (R31). -/
theorem bootChecksDone_strap (hm : s.mc.mode = .boot) (hc : s.pw.cold = none) (hr : (bootReady s ok clash).pw.strapRecovery = true) :
    exec (.bootChecksDone fa fb ba bb ok true true true clash) s = .next ((State.ethLinksDown
      { bootReady s ok clash with flash := { (bootReady s ok clash).flash with execBank := 0 } }).setMode .recovery .recovery) :=
  congrArg Host.Outcome.next ((if_neg (by simp [hm, hc])).trans (if_pos hr))

/-- The start-up checks that find an image to run (R31, R399). -/
theorem bootChecksDone_image {k : Nat} {v : State} (hm : s.mc.mode = .boot) (hc : s.pw.cold = none)
    (hr : (bootReady s ok clash).pw.strapRecovery = false)
    (hi : (bootReady s ok clash).selectImage (fa.map Fin.val) (fb.map Fin.val) 3 = (some k, v)) :
    exec (.bootChecksDone fa fb ba bb ok true true true clash) s = .next (v.endBoot ba bb) := by
  refine congrArg Host.Outcome.next ((if_neg (by simp [hm, hc])).trans ((if_neg (ne_true_of_eq_false hr)).trans ?_))
  change (match (bootReady s ok clash).selectImage (fa.map Fin.val) (fb.map Fin.val) 3 with
    | (none, s) => s.ethLinksDown.setMode .recovery .recovery
    | (some _, s) => s.endBoot ba bb) = _
  rw [hi]

end ModeChanges

/-- Settles O9: a request is what `askMode` makes of it, by the row of the table it meets; each change is one of the lemmas above. -/
theorem modeRequestsAndChanges : Obligations.ModeRequestsAndChanges := by
  refine ⟨?drain, ?cancel, ?maintenance, ?recovery, ?wake, ?other, ?quiesce, ?cold, ?restore, ?toMaintenance,
    ?toStandby, ?image, ?strap⟩
  case drain => exact fun _ hm => congrArg Host.Outcome.next (askMode_host hm (by decide) (modeRequest_drain hm))
  case cancel => exact fun _ hm => congrArg Host.Outcome.next (askMode_host hm (by decide) (modeRequest_drainCancel hm))
  case maintenance => exact fun _ hm => congrArg Host.Outcome.next (askMode_host hm (by decide) (modeRequest_maintenance hm))
  case recovery => exact fun _ hm => congrArg Host.Outcome.next (askMode_host hm (by decide) (modeRequest_maintenance_recovery hm))
  case wake => exact fun s hm hio hseq hb hf _ => congrArg Host.Outcome.next (askMode_wake hm hio hseq hb hf)
  case other => exact fun _ _ hm hn => congrArg Host.Outcome.next (askMode_host hm (by decide) (modeRequest_other hn))
  case quiesce => exact fun _ hm hen hq => quiesceEnter_quiet hm hen hq
  case cold => exact fun _ _ hc hm => coldBootTrainStart_cold hc hm
  case restore => exact fun _ hm => restoreApplied_restore hm
  case toMaintenance => exact fun _ _ hm hd hx => (drainDone_drained hm hd).trans (congrArg Host.Outcome.next (if_pos hx))
  case toStandby => exact fun _ _ hm hd hx => (drainDone_drained hm hd).trans (congrArg Host.Outcome.next (if_neg (ne_true_of_eq_false hx)))
  case image =>
    rintro fa fb ba bb clash ok k s u w v hm hc rfl rfl hr hi
    exact bootChecksDone_image hm hc hr hi
  case strap =>
    rintro fa fb ba bb clash ok s u w hm hc rfl rfl hr
    exact bootChecksDone_strap hm hc hr

end Sys2Proof.Proofs
end

section
/-!
Sleep of the channels, their wakes, lay-by loans, clocks and CXL links (R35 to R41, R110, R111, R161, R162).
-/
namespace Sys2Proof.Proofs

open Machine Safety Laws

section Sleep

variable {s : State} {ch : ChId}

/-- An idle channel naps (R35, R38). -/
theorem nap1Enter_idle (hst : (s.ch ch.val).st = .active) (hen : s.flag GLB_SLEEP_CTL_NAP_EN = true) (hm : s.mc.mode ≠ .save)
    (hi : (s.ch ch.val).idle = true) (hw : (s.ch ch.val).waking = false) (hb : s.writesBackOn ch.val = false) :
    exec (.nap1Enter ch) s = .next (s.setChState ch.val .nap1) :=
  congrArg Host.Outcome.next (if_pos ⟨hst, hen, hm, hi, by simp [hw], by simp [hb]⟩)

/-- A channel that released no rank goes from NAP1 to NAP2 (R35). -/
theorem nap2Enter_unreleased (hst : (s.ch ch.val).st = .nap1) (hw : (s.ch ch.val).waking = false) (hh : (s.ch ch.val).held = [])
    (hq : (s.ch ch.val).wq = []) (hm : s.mc.mode ≠ .save) (hr : (s.ch ch.val).released = 0) :
    exec (.nap2Enter ch) s = .next ((s.setCh ch.val { s.ch ch.val with rows := [] }).setChState ch.val .nap2) := by
  refine congrArg Host.Outcome.next ((if_pos ⟨hst, by simp [hw], hh, hq, hm⟩).trans ?_)
  rw [if_pos hr]

/-- The first rank that qualifies takes its channel from NAP2 to PASR; with no page in tier 1 none is evicted (R36, R161). -/
theorem pasrEnter_first {rank : Fin 16} (hst : (s.ch ch.val).st = .nap2) (hw : (s.ch ch.val).waking = false)
    (hen : s.flag GLB_SLEEP_CTL_PASR_EN = true) (hrk : rank.val < s.ranks ch.val) (hh : s.rankHolds ch.val rank.val = false)
    (hd : s.dupsInPlace ch.val = true) (hp : s.tier.pages = []) :
    exec (.pasrEnter ch rank) s = .next ((s.setCh ch.val { s.ch ch.val with
      released := (s.ch ch.val).released ||| BitVec.twoPow 16 rank.val }).setChState ch.val .pasr) := by
  refine congrArg Host.Outcome.next ((if_pos ⟨.inl hst, by simp [hw], hen, hrk, by simp [hh], hd⟩).trans ?_)
  rw [hp]
  exact if_neg (by simp [hst])

/-- The duplicates of a channel are in place again (R162). -/
theorem pasrDupRewriteDone_invalid (hd : (s.ch ch.val).dupInvalid = true) :
    exec (.pasrDupRewriteDone ch) s = .next (s.setCh ch.val { s.ch ch.val with dupInvalid := false }) :=
  congrArg Host.Outcome.next (if_pos hd)

/-- A channel in NAP2 begins to wake for a request (R37). -/
theorem channelWake_nap2 (hst : (s.ch ch.val).st = .nap2) (hw : (s.ch ch.val).waking = false) :
    exec (.channelWake ch) s = .next (s.setCh ch.val { s.ch ch.val with waking := true, early := false }) := by
  change execChannelWake ch s = _
  simp only [execChannelWake, hst, hw, Bool.and_false, Bool.false_and]

/-- A channel that a request woke serves again: its rows are closed, no rank is released, and the slot table in force is its own (R37,
R162, R340). -/
theorem channelWakeDone_serves (hst : (s.ch ch.val).st.asleep = true) (hw : (s.ch ch.val).waking = true)
    (he : (s.ch ch.val).early = false) :
    exec (.channelWakeDone ch true) s = .next (let u := s.setCh ch.val { s.ch ch.val with
        waking := false, early := false, slotCtr := 0, rows := [], released := 0
        dupInvalid := (s.ch ch.val).dupInvalid || (s.ch ch.val).released != 0 }
      ((({ u with arb := { u.arb with oldTable := u.arb.oldTable.filter fun e => e.1 != ch.val } }).setChState ch.val .active).releaseHeld
        ch.val).settleWarm) :=
  congrArg Host.Outcome.next ((if_neg (by simp [hst, hw])).trans ((if_neg (by simp)).trans (if_neg (by simp [he]))))

end Sleep

section Wakes

variable {s : State}

/-- A link that leaves L1.1 starts the early wakes (R40). -/
theorem earlyWake_l11 {p : PortId} {l : LinkId} (hup : (s.linkAt p.val l.val).up = true) (hpm : (s.linkAt p.val l.val).pm = .l11) :
    exec (.earlyWake p l) s = .next (s.setLink p.val l.val { s.linkAt p.val l.val with pm := .l0 }).activity.earlyWake :=
  congrArg Host.Outcome.next (if_pos ⟨hup, .inl hpm⟩)

/-- Activity in QUIESCENT enters a serving mode (R41). -/
theorem activity_quiescent (hm : s.mc.mode = .quiescent) : s.activity = s.enterService .activity := if_pos hm

theorem quiesceExit_quiescent (hm : s.mc.mode = .quiescent) : exec .quiesceExit s = .next (s.enterService .activity).earlyWake :=
  congrArg Host.Outcome.next ((if_pos hm).trans (by rw [activity_quiescent hm]))

end Wakes

section Loans

variable {s : State} {ch : ChId}

/-- A napping channel that lost no slot lends every slot above WB_RESERVE (R110). That its slots hold no operation is the row's own
condition (log entry 47). -/
theorem laybyLend_first (hst : (s.ch ch.val).st = .nap2) (hen : s.flag TIER_LAYBY_CTL_LEND_EN = true)
    (hw : (s.ch ch.val).waking = false) (hl : s.tier.lent = []) (hr : s.tests.retired = []) :
    exec (.laybyLend ch) s = .next { s with tier := { s.tier with
      lent := Sparse.set (fun _ => 0) [] ch.val (1024 - s.fld TIER_LAYBY_CTL_WB_RESERVE) } } := by
  change execLaybyLend ch s = _
  simp [execLaybyLend, hst, hen, hw, hl, hr]

/-- The one loan ends; with no fill under way nothing is abandoned (R111). -/
theorem laybyRevokeDone_only {n : Nat} (hl : s.tier.lent = [(ch.val, n)]) (hf : s.tier.fills = []) :
    exec (.laybyRevokeDone ch [] 0) s = .next (let u := s.addFld TIER_LOAN_ABANDON_CNT_COUNT 0
      { u with tier := { u.tier with lent := [], fills := [] } }) := by
  change execLaybyRevokeDone ch [] 0 s = _
  simp [execLaybyRevokeDone, hl, hf]

end Loans

section Clocks

variable {s : State}

/-- The clock of a carriageway whose channels sleep stops, with no link and no work of the tier engine (R39). -/
theorem cwClockStop_asleep {cw : CwId} (hc : ∀ i, i < 4 → (s.ch (4 * cw.val + i)).st = .nap2 ∧ (s.ch (4 * cw.val + i)).waking = false)
    (hl : s.ports.links = []) (hf : s.tier.fills = []) (hb : s.tier.wbs = []) (hs : s.tier.streams = []) :
    exec (.cwClockStop cw) s = .next { s with clk := { s.clk with cwClock := s.clk.cwClock &&& ~~~ BitVec.twoPow 4 cw.val } } := by
  have hasleep : ((List.range 4).all fun i =>
      (s.ch (4 * cw.val + i)).st.asleep && (s.ch (4 * cw.val + i)).st != .nap1 && ! (s.ch (4 * cw.val + i)).waking) = true :=
    List.all_eq_true.mpr fun i hi => by
      obtain ⟨hst, hw⟩ := hc i (List.mem_range.mp hi)
      rw [hst, hw]
      rfl
  change execCwClockStop cw s = _
  simp only [execCwClockStop, hasleep, hl, hf, hb, hs, List.all_nil, Bool.and_self, if_true]

/-- The junction's clock stops after the carriageways' while the twin and RDMA engines have no work (R39). -/
theorem junctionClockStop_idle (hc : s.clk.cwClock = 0) (hmsgs : s.twin.msgs = []) (hqueued : s.twin.queued = [])
    (hreads : s.twin.reads = []) (hsync : s.twin.syncq = []) (hback : s.twin.backlog = [])
    (hin : s.twin.inMsgs = []) (hres : s.twin.resync = none) (hqps : s.rdma.qps = []) :
    exec .junctionClockStop s = .next { s with clk := { s.clk with jctClock := false } } :=
  congrArg Host.Outcome.next (if_pos ⟨hc, by simp [hmsgs, hqueued, hreads, hsync, hback, hin, hres, hqps]⟩)

/-- A link with no entry in use enters the state its host asks for (R39). -/
theorem linkL1Entry_unused {p : PortId} {l : LinkId} {b : Bool} (hup : (s.linkAt p.val l.val).up = true) (hm : s.mc.mode.serving = true)
    (he : s.entriesUsed p.val l.val = 0) :
    exec (.linkL1Entry p l b) s = .next (s.setLink p.val l.val { s.linkAt p.val l.val with pm := if b then .l12 else .l11 }) :=
  congrArg Host.Outcome.next (if_pos ⟨hup, hm, he⟩)

end Clocks

/-- Settles O13: each clause is one of the lemmas above. -/
theorem sleepAndWake : Obligations.SleepAndWake := by
  refine ⟨?nap1, ?nap2, ?pasr, ?dups, ?wake, ?wakeDone, ?early, ?exit, ?lend, ?revoke, ?clock, ?junction, ?l1⟩
  case nap1 => exact fun _ _ hst hen hm hi hw hb => nap1Enter_idle hst hen hm hi hw hb
  case nap2 => exact fun _ _ hst hw hh hq hm hr => nap2Enter_unreleased hst hw hh hq hm hr
  case pasr => exact fun _ _ _ hst hw hen hrk hh hd hp => pasrEnter_first hst hw hen hrk hh hd hp
  case dups => exact fun _ _ hd => pasrDupRewriteDone_invalid hd
  case wake => exact fun _ _ hst hw => channelWake_nap2 hst hw
  case wakeDone => exact fun _ _ hst hw he => channelWakeDone_serves hst hw he
  case early => exact fun _ _ _ hup hpm => earlyWake_l11 hup hpm
  case exit => exact fun _ hm => quiesceExit_quiescent hm
  case lend => exact fun _ _ hst hen hw hl hr => laybyLend_first hst hen hw hl hr
  case revoke => exact fun _ _ _ hl hf => laybyRevokeDone_only hl hf
  case clock => exact fun _ _ hc hl hf hb hs => cwClockStop_asleep hc hl hf hb hs
  case junction =>
    intro s hc hmsgs hqueued hreads hsync hback hin hres hqps
    exact junctionClockStop_idle hc hmsgs hqueued hreads hsync hback hin hres hqps
  case l1 => exact fun _ _ _ _ hup hm he => linkL1Entry_unused hup hm he

end Sys2Proof.Proofs
end

section
/-!
Region commands (R58 to R62, R324, R470): what a ring's checks and the checks of a live region come to, and each command past them.
-/
namespace Sys2Proof.Proofs

open Machine Safety Laws

section RegionCommands

variable {s t : State} {d : Desc} {r : Region}

/-- A descriptor that passes the checks of its ring reaches the checks of its own opcode (R323). -/
theorem take_of_descRuns {g : Nat} {maint long : Bool} {body : State → State} (h : descRuns s d g t)
    (hl : long = true → t.freeOpSlot.isSome = true) : s.take d g maint long body = body t := by
  obtain ⟨htakes, hfree, hop, rfl, hgroup, hmode⟩ := h
  have hslot : (long && (s.dequeue d).activity.freeOpSlot.isNone) = false := by
    cases long with
    | false => rfl
    | true => rw [Bool.true_and, Option.isNone_eq_false_iff, hl rfl]
  simp only [State.take, htakes, hfree, hop, hgroup, hslot, beq_eq_false_iff_ne.mpr hmode, Bool.not_true, Bool.or_self, Bool.false_and,
    Bool.false_eq_true, if_false]

/-- The same of a command that is no long operation. -/
theorem take_of_descRuns_short {g : Nat} {maint : Bool} {body : State → State} (h : descRuns s d g t) :
    s.take d g maint false body = body t := take_of_descRuns h nofun

/-- A command on a live region whose range nothing reserves goes on with the region's entry (R58). -/
theorem onRegion_of_regionFree {body : Region → State} (h : regionFree t d r) : t.onRegion d body = body r := by
  obtain ⟨rfl, hvalid, hfree⟩ := h
  simp [State.onRegion, hvalid, hfree]

/-- A change to what the region does not hold waits for its commit (R61). -/
theorem modify_of_ne {old new : Region} {base size : Nat} (h : new ≠ old) :
    s.modify d old new base size = s.startRgnOp .modify d.rgnIdx base size ⟨[(d.rgnIdx, new)], [], []⟩ d.src 0 := if_neg h

/-- The entry that REGION_CREATE writes for a RESIDENT region (R59): what the descriptor gives, and the run of frames found for it. -/
def residentEntry (d : Desc) (m : Mirror) (fb : Nat) (old : Region) : Region :=
  { old with
    valid := true, damaged := false, released := false, cls := .resident, persist := d.bits 2 5 5 = 1, mirror := m
    shared := d.bits 2 8 8 = 1, refilling := false, base := BitVec.ofNat 27 (d.bits 3 26 0)
    size := BitVec.ofNat 27 (d.bits 4 26 0), key := BitVec.ofNat 12 (d.bits 5 11 0), ownerSet := 0
    place := BitVec.ofNat 4 (d.bits 5 23 20), frameBase := BitVec.ofNat 31 fb }

/-- Outside a stack no range check refuses a command (R470). -/
theorem stackRefuses_of_not_inStack {i base size : Nat} (h : s.inStack = false) : s.stackRefuses i base size r = none := by
  simp [State.stackRefuses, h]

/-- REGION_CREATE of a RESIDENT region that passes every check of R59, outside a stack. -/
theorem createRegion_resident {i fb : Nat} {m : Mirror} (hmode : t.mc.mode ≠ .drain) (hm : mirrorOf (d.bits 2 7 6) = some m)
    (hcls : d.bits 2 4 3 = 0) (hattrs : attrsOk .resident (d.bits 2 5 5 = 1) m = true) (hsize : d.bits 4 26 0 ≠ 0)
    (hlimit : d.bits 3 26 0 + d.bits 4 26 0 ≤ t.rgn.limitGib.toNat * 512) (hpool : t.flag RGN_POOL_CFG_VALID (d.bits 5 23 20) = true)
    (hover : t.overlapsRegion (d.bits 3 26 0) (d.bits 4 26 0) none = false) (hres : t.reserved (d.bits 3 26 0) (d.bits 4 26 0) = false)
    (helect : t.electing = false) (hi : ((List.range 4096).find? fun i => ! (t.shadowRegion i).valid) = some i)
    (hfb : t.lowestRun (d.bits 5 23 20) (d.bits 4 26 0 * 512) = some fb) (hkey : t.keyLoaded (d.bits 5 11 0) = true)
    (hstack : t.inStack = false) :
    createRegion d t = t.startRgnOp .create i (d.bits 3 26 0) (d.bits 4 26 0) ⟨[(i, residentEntry d m fb (t.shadowRegion i))], [], []⟩
      d.src i := by
  simp [createRegion, residentEntry, rgnClassOf, State.placeValid, stackRefuses_of_not_inStack hstack, hmode, hm, hcls, hattrs, hsize,
    Nat.not_lt.mpr hlimit, hpool, hover, hres, helect, hi, hfb, hkey]

/-- REGION_DESTROY of a region that no started plan names (R62). -/
theorem regionDestroy_unplanned (h : descRuns s d 2 t) (hr : regionFree t d r) (hp : t.planHolds d.rgnIdx = false) :
    exec (.regionDestroy d) s = .next ((t.cancelRegionOps d.rgnIdx).startRgnOp .destroy d.rgnIdx r.base.toNat r.size.toNat
      ⟨[(d.rgnIdx, { Region.empty with gen := r.gen })], [], []⟩ d.src 0) := by
  refine congrArg Host.Outcome.next ((take_of_descRuns_short h).trans ((onRegion_of_regionFree hr).trans ?_))
  simp only [hp, Bool.false_eq_true, if_false]

/-- A persistent region takes another value of MIRROR (R61). -/
theorem regionModifyMirror_persistent {m : Mirror} (h : descRuns s d 2 t) (hr : regionFree t d r) (hc : d.changeBit 0 = true)
    (hm : mirrorOf (d.bits 4 1 0) = some m) (hp : r.persist = true) (hne : m ≠ r.mirror) :
    exec (.regionModifyMirror d) s = .next (t.startRgnOp .modify d.rgnIdx r.base.toNat r.size.toNat
      ⟨[(d.rgnIdx, { r with mirror := m })], [], []⟩ d.src 0) := by
  refine congrArg Host.Outcome.next ((take_of_descRuns_short h).trans ?_)
  simp only [hc, onRegion_of_regionFree hr, hm, hp, Bool.not_true, Bool.and_false, Bool.false_eq_true, if_false]
  exact modify_of_ne fun he => hne (congrArg Region.mirror he)

/-- A persistent region without a mirror becomes volatile at its commit (R61). -/
theorem regionModifyPersist_clear (h : descRuns s d 2 t) (hr : regionFree t d r) (hc : d.changeBit 1 = true) (hv : d.bits 4 2 2 = 0)
    (hp : r.persist = true) (hm : r.mirror = .none) :
    exec (.regionModifyPersist d) s = .next (t.startRgnOp .modify d.rgnIdx r.base.toNat r.size.toNat
      ⟨[(d.rgnIdx, { r with persist := false })], [], []⟩ d.src 0) := by
  refine congrArg Host.Outcome.next ((take_of_descRuns h (by simp [hv])).trans ?_)
  simp only [hc, onRegion_of_regionFree hr, hv, hp, hm]
  exact modify_of_ne fun he => by simpa [hp] using congrArg Region.persist he

/-- A volatile region that is not SCRATCH becomes persistent by a long operation over its dirty pages (R61). -/
theorem regionModifyPersist_set (h : longRuns s d 2 t) (hr : regionFree t d r) (hc : d.changeBit 1 = true) (hv : d.bits 4 2 2 = 1)
    (hp : r.persist = false) (hcls : r.cls ≠ .scratch) :
    exec (.regionModifyPersist d) s = .next (t.startOp (.persistSet d.rgnIdx) d.src (some (t.dirtyPagesOf r))) := by
  obtain ⟨hruns, hslot⟩ := h
  refine congrArg Host.Outcome.next ((take_of_descRuns hruns fun _ => hslot).trans ?_)
  simp [hc, onRegion_of_regionFree hr, hv, hp, hcls]

/-- A region shrinks at its commit, and keeps its whole range reserved until then (R58, R61). -/
theorem regionModifySize_smaller (h : descRuns s d 2 t) (hr : regionFree t d r) (hc : d.changeBit 2 = true) (h0 : d.bits 5 26 0 ≠ 0)
    (hlt : d.bits 5 26 0 < r.size.toNat) :
    exec (.regionModifySize d) s = .next (t.startRgnOp .modify d.rgnIdx r.base.toNat r.size.toNat
      ⟨[(d.rgnIdx, { r with size := BitVec.ofNat 27 (d.bits 5 26 0) })], [], []⟩ d.src 0) := by
  refine congrArg Host.Outcome.next ((take_of_descRuns_short h).trans ?_)
  simp only [resizeRegion, hc, onRegion_of_regionFree hr, h0, Nat.le_of_lt hlt, Bool.not_true, Bool.false_eq_true, if_false, if_true]
  refine modify_of_ne fun he => ?_
  have hsize : (BitVec.ofNat 27 (d.bits 5 26 0)).toNat = r.size.toNat := congrArg (fun x : Region => x.size.toNat) he
  rw [BitVec.toNat_ofNat, Nat.mod_eq_of_lt (Nat.lt_trans hlt r.size.isLt)] at hsize
  exact Nat.ne_of_lt hlt hsize

/-- A SCRATCH region is released (R52, R61). -/
theorem regionModifyRelease_scratch (h : descRuns s d 2 t) (hr : regionFree t d r) (hc : d.changeBit 3 = true) (hcls : r.cls = .scratch) :
    exec (.regionModifyRelease d) s = .next (t.startRgnOp .modify d.rgnIdx r.base.toNat r.size.toNat
      ⟨[(d.rgnIdx, { r with released := true })], [], []⟩ d.src 0) := by
  refine congrArg Host.Outcome.next ((take_of_descRuns_short h).trans ?_)
  simp [hc, onRegion_of_regionFree hr, hcls]

/-- A damaged region loses its mark at the commit (R61). -/
theorem regionModifyClearDamaged_damaged (h : descRuns s d 2 t) (hr : regionFree t d r) (hc : d.changeBit 4 = true)
    (hd : r.damaged = true) :
    exec (.regionModifyClearDamaged d) s = .next (t.startRgnOp .modify d.rgnIdx r.base.toNat r.size.toNat
      ⟨[(d.rgnIdx, { r with damaged := false })], [], []⟩ d.src 0) := by
  refine congrArg Host.Outcome.next ((take_of_descRuns_short h).trans ?_)
  simp only [hc, onRegion_of_regionFree hr, Bool.not_true, Bool.false_eq_true, if_false]
  exact modify_of_ne fun he => by simpa [hd] using congrArg Region.damaged he

/-- A region is bound to at most one LD by an owner set that is not empty (R60). -/
theorem regionBind_single {k : Nat} (h : descRuns s d 2 t) (hr : regionFree t d r) (hcopy : t.isCopy d.rgnIdx = false)
    (hone : ownerCount d.ownerBits ≤ 1) (hk : setIndex t.shadowSets d.ownerBits = some k) (h0 : k ≠ 0) :
    exec (.regionBind d) s = .next (t.startRgnOp .bind d.rgnIdx r.base.toNat r.size.toNat
      ⟨[(d.rgnIdx, { r with ownerSet := BitVec.ofNat 8 k, shared := d.bits 3 0 0 = 1 })], [(k, d.ownerBits)], []⟩ d.src k) := by
  refine congrArg Host.Outcome.next ((take_of_descRuns_short h).trans ?_)
  simp [onRegion_of_regionFree hr, hcopy, Nat.not_lt.mpr hone, hk, h0]

end RegionCommands

/-- Settles O7: each clause is one of the lemmas above. -/
theorem regionCommandsStart : Obligations.RegionCommandsStart := by
  refine ⟨?create, ?destroy, ?mirror, ?persistClear, ?persistSet, ?size, ?release, ?damaged, ?bind⟩
  case create =>
    intro d i fb m s t h hmode hm hcls hattrs hsize hlimit hpool hover hres helect hi hfb hkey hstack
    exact congrArg Host.Outcome.next ((take_of_descRuns_short h).trans
      (createRegion_resident hmode hm hcls hattrs hsize hlimit hpool hover hres helect hi hfb hkey hstack))
  case destroy => exact fun _ _ _ _ h hr hp => regionDestroy_unplanned h hr hp
  case mirror => exact fun _ _ _ _ _ h hr hc hm hp hne => regionModifyMirror_persistent h hr hc hm hp hne
  case persistClear => exact fun _ _ _ _ h hr hc hv hp hm => regionModifyPersist_clear h hr hc hv hp hm
  case persistSet => exact fun _ _ _ _ h hr hc hv hp hcls _ => regionModifyPersist_set h hr hc hv hp hcls
  case size => exact fun _ _ _ _ h hr hc h0 hlt => regionModifySize_smaller h hr hc h0 hlt
  case release => exact fun _ _ _ _ h hr hc hcls => regionModifyRelease_scratch h hr hc hcls
  case damaged => exact fun _ _ _ _ h hr hc hd => regionModifyClearDamaged_damaged h hr hc hd
  case bind => exact fun _ _ _ _ _ h hr hcopy hone hk h0 => regionBind_single h hr hcopy hone hk h0

end Sys2Proof.Proofs
end

section
/-!
Commits of region commands (R58, R63, R64), HDM decoders (R47), pools and partitions (R69, R113).
-/
namespace Sys2Proof.Proofs

open Machine Safety Laws

section Commits

variable {s : State}

/-- The oldest region command that waits makes its commit and then waits for durability, unless it destroys its region (R58, R63). -/
theorem rgnCommit_not_destroy {o : RgnOp} (hd : s.rgn.draining = false)
    (ho : (s.rgn.ops.find? fun o => o.stage == .waitCommit) = some o) (hk : o.kind ≠ .destroy) :
    exec .rgnCommit s = .next (({ s with rgn := { s.rgn with
      ops := s.rgn.ops.map fun (x : RgnOp) => if x = o then { x with stage := .waitDurable } else x } }).commitEdge o.commit) := by
  change execRgnCommit s = _
  simp [execRgnCommit, hd, ho, hk]

/-- While no destroyed region waits for its requests, none is released at the end of a drain (R62). -/
theorem filter_waitDrain {ops : List RgnOp} (h : ∀ o ∈ ops, o.stage ≠ .waitDrain) : (ops.filter fun o => o.stage == .waitDrain) = [] :=
  List.filter_eq_nil_iff.mpr fun o ho => by simpa using h o ho

/-- The older epoch has drained, and neither a destroyed region nor a commit waits (R64). -/
theorem epochDrainDone_idle (hd : s.rgn.draining = true) (hf : s.oldInFlight = false) (hw : s.rgn.waiting = [])
    (ho : ∀ o ∈ s.rgn.ops, o.stage ≠ .waitDrain) :
    exec .epochDrainDone s = .next { s with rgn := { s.rgn with draining := false } } := by
  change execEpochDrainDone s = _
  simp only [execEpochDrainDone, hd, hf, hw, filter_waitDrain ho, Bool.not_false, Bool.and_self, if_true, List.foldl_nil]

/-- The older epoch has drained, and the oldest waiting commit is made (R64). -/
theorem epochDrainDone_commits {c : Commit} {cs : List Commit} (hd : s.rgn.draining = true) (hf : s.oldInFlight = false)
    (hw : s.rgn.waiting = c :: cs) (ho : ∀ o ∈ s.rgn.ops, o.stage ≠ .waitDrain) :
    exec .epochDrainDone s = .next (({ s with rgn := { s.rgn with draining := false, waiting := cs } }).commitEdge c) := by
  change execEpochDrainDone s = _
  simp only [execEpochDrainDone, hd, hf, hw, filter_waitDrain ho, Bool.not_false, Bool.and_self, if_true, List.foldl_nil]

end Commits

section Decoders

variable {s : State}

/-- Decoder 0, which waits for no decoder below it, commits with a way count that is a power of two and values in range (R47). -/
theorem hdmDecoderCommit_first {p : PortId} {ld : Fin 16} {base size : BitVec 52} {ways ig : Nat} {skip : BitVec 48} {lock : Bool}
    (hfree : ((s.hdmAt p.val ld.val 0).committed && (s.hdmAt p.val ld.val 0).locked) = false) (hways : waysPow2 ways = true)
    (hlo : 8 ≤ ig) (hhi : ig ≤ 14) (hsize : size.toNat % (2 ^ 28 * ways) = 0) (hskip : skip.toNat % 2 ^ 28 = 0) :
    exec (.hdmDecoderCommit p ld 0 base size ways ig skip lock) s = .next { s with rgn := { s.rgn with
      hdm := Sparse.set (fun _ => Hdm.empty) s.rgn.hdm ((16 * p.val + ld.val) * 4) ⟨base, size, ways, ig, skip, true, false, lock⟩ } } := by
  refine congrArg Host.Outcome.next ((if_neg (ne_true_of_eq_false hfree)).trans ?_)
  simp only [hways, hlo, hhi, hsize, hskip, Fin.val_zero, List.range_zero, List.all_nil, decide_true, Bool.true_or, Bool.and_self,
    Bool.not_true, Bool.true_and, Nat.add_zero]

end Decoders

section Pools

variable {s : State} {w : Word} {who : Writer}

/-- New fields of a pool that nothing uses, which pass the checks, are taken (R69). -/
theorem poolValidSet_unused {p : Fin 16} (hne : w &&& 0x3FF#32 ||| 1#32 ≠ s.regAt .RGN_POOL_CFG p.val 0 0 &&& 0x3FF#32)
    (hrefs : s.poolRefs p.val = 0)
    (hcheck : s.poolCheck p.val (w &&& 0x3FF#32 ||| 1#32) (s.regAt .RGN_POOL_BAND p.val 0 0) = none) :
    exec (.poolValidSet p w who) s = .next (s.setRegAt .RGN_POOL_CFG p.val 0 0 (w &&& 0x3FF#32 ||| 1#32)) := by
  change execPoolValidSet p w who s = _
  simp only [execPoolValidSet, if_neg hne, hrefs, ne_eq, not_true_eq_false, if_false, hcheck]

/-- A partition that no region names is set up with ranges that pass the checks (R113). -/
theorem partitionValidSet_unused {q : Fin 16} (hused : s.partUsed q.val = false)
    (hcheck : s.partCheck q.val (w &&& 0x3FFFF#32 ||| 1#32) = none) :
    exec (.partitionValidSet q w who) s = .next (s.setRegAt .TIER_PART_CFG q.val 0 0 (w &&& 0x3FFFF#32 ||| 1#32)) := by
  change execPartitionValidSet q w who s = _
  simp only [execPartitionValidSet, hused, hcheck, Bool.false_eq_true, if_false]

end Pools

/-- Settles O8: each clause is one of the lemmas above; METADATA_DURABLE has no condition and is the model's own equation. -/
theorem regionCommitsAndDecoders : Obligations.RegionCommitsAndDecoders := by
  refine ⟨?commit, ?drained, ?waiting, fun s => rfl, ?decoder, ?pool, ?partition⟩
  case commit => exact fun _ _ hd ho hk => rgnCommit_not_destroy hd ho hk
  case drained => exact fun _ hd hf hw ho => epochDrainDone_idle hd hf hw ho
  case waiting => exact fun _ _ _ hd hf hw ho => epochDrainDone_commits hd hf hw ho
  case decoder => exact fun _ _ _ _ _ _ _ _ _ hfree hways hlo hhi hsize hskip => hdmDecoderCommit_first hfree hways hlo hhi hsize hskip
  case pool => exact fun _ _ _ _ hne hrefs hcheck => poolValidSet_unused hne hrefs hcheck
  case partition => exact fun _ _ _ _ hused hcheck => partitionValidSet_unused hused hcheck

end Sys2Proof.Proofs
end

section
/-!
The logical devices of a port (R55) and the decoding of a host address (R48, R49).
-/
namespace Sys2Proof.Proofs

open Machine Safety Laws

/-- Each link of a port carries an equal run of its 16 LDs (R55). -/
theorem ldLink_of_lt {s : State} {p ld : Nat} (h : ld < 16) : s.ldLink p ld = ld / (16 / bifurLinks (s.bifur p)) := if_pos h

/-- Settles O54: the run is of 16 LDs with one link, of 8 with two, of 4 with four. -/
theorem ldNumbering : Obligations.LdNumbering := by
  refine ⟨?one, ?two, ?four, fun s r p ld => rfl⟩
  case one =>
    intro s p ld hld hb
    rw [ldLink_of_lt hld, hb]
    exact Nat.div_eq_of_lt hld
  case two =>
    intro s p ld hld hb
    rw [ldLink_of_lt hld, hb]
    change ld / 8 = _
    split <;> omega
  case four =>
    intro s p ld k hk hlo hhi hb
    rw [ldLink_of_lt (by omega), hb]
    change ld / 4 = k
    omega

/-- An address that no committed decoder covers has no DPA (R49). -/
theorem hdmDecode_eq_none {hs : List Hdm} {cxl3 : Bool} {hpa : Nat} (h : ∀ x ∈ hs, x.active cxl3 = true → x.hits hpa = false) :
    hdmDecode hs cxl3 hpa = none := by
  have hidx : (hs.findIdx? fun x => x.active cxl3 && x.hits hpa) = none :=
    List.findIdx?_eq_none_iff.mpr fun x hx => Bool.and_eq_false_imp.mpr (h x hx)
  simp only [hdmDecode, hidx]

/-- Settles O55: such a request has no DPA, and the access checks find it unmapped. -/
theorem noDecoderIsUnmapped : Obligations.NoDecoderIsUnmapped := by
  intro s p ld hpa h
  refine ⟨0, ?_⟩
  simp only [State.memAccess, hdmDecode_eq_none h]

end Sys2Proof.Proofs
end

section
/-!
Fences and the flush of a host (R92 to R94, R247): what a fence waits for when it is taken, and how one that waits for nothing ends.
-/
namespace Sys2Proof.Proofs

open Machine Safety Laws

section Fences

variable {s t : State} {d : Desc} {id : Nat} {f : Fence}

/-- A fence with nothing left on its lists is over. -/
theorem met_of_nil (hp : f.pages = []) (hl : f.lines = []) (hw : f.writes = []) : f.met = true := by
  simp only [Fence.met, hp, hl, hw, beq_self_eq_true, Bool.and_self]

/-- While the guard is not UNARMED a persist fence waits for nothing: DRAM is persistent (R92). -/
theorem persistFence_armed (h : s.per.guard ≠ .unarmed) (k : FenceKind) (sel : Option Nat) (src : CmdSrc) :
    s.persistFence k id sel src = ⟨id, k, sel, [], [], [], src⟩ := if_pos h

/-- In UNARMED it waits for the pages that count and for the local programs of writes that the twin has completed (R92). -/
theorem persistFence_unarmed (h : s.per.guard = .unarmed) (k : FenceKind) (sel : Option Nat) (src : CmdSrc) :
    s.persistFence k id sel src = ⟨id, k, sel, ((s.tier.pages.filter fun e => e.2.counted).map Prod.fst).filter (s.selectedPage sel), [],
      ((s.per.wts.filter WriteThrough.twinDone).map WriteThrough.page).filter (s.selectedPage sel), src⟩ := if_neg fun hne => hne h

/-- FENCE_PERSIST of a region that exists adds its fence (R92). -/
theorem fencePersist_adds (h : descRuns s d 1 t) (hsel : t.selects d.selector = true) :
    exec (.fencePersist d) s = .next (t.addFence (t.persistFence .persist t.nextFence d.selector d.src)) := by
  refine congrArg Host.Outcome.next ((take_of_descRuns_short h).trans ?_)
  simp only [hsel, Bool.not_true, Bool.false_eq_true, if_false]

theorem fencePersistDone_met (hf : s.fenceAt id .persist = some f) (hmet : f.met = true) :
    exec (.fencePersistDone id) s = .next ((s.dropFence id).complete f.src .ok) := by
  change execFencePersistDone id s = _
  simp only [execFencePersistDone, hf, hmet, if_true]

/-- FENCE_MIRROR past the checks it shares with the other commands (R247). -/
theorem fenceMirror_selected (h : longRuns s d 1 t) (hsel : t.selects d.selector = true) :
    exec (.fenceMirror d) s = .next (if t.twinUp = true
      then (t.startOp (.fenceMirror t.nextFence) d.src none).startMirrorFence d.selector d.src
      else t.complete d.src .partnerAbsent) := by
  obtain ⟨hruns, hslot⟩ := h
  refine congrArg Host.Outcome.next ((take_of_descRuns hruns fun _ => hslot).trans ?_)
  cases t.twinUp with
  | true => simp only [hsel, Bool.not_true, Bool.false_eq_true, if_false, if_true]
  | false => simp only [hsel, Bool.not_true, Bool.not_false, Bool.false_eq_true, if_false, if_true]

/-- The fence of a FENCE_MIRROR that runs, and of no planned promotion, ends the operation (R247). -/
theorem fenceMirrorDone_met {o : LongOp} (hf : s.fenceAt id .mirror = some f) (hmet : f.met = true)
    (hd : (s.twin.demotes.find? fun e => e.1 == id) = none)
    (ho : (s.rings.ops.find? fun o => o.kind == .fenceMirror id && o.st == .running) = some o) :
    exec (.fenceMirrorDone id) s = .next ((s.dropFence id).endOp o .ok 0) := by
  change execFenceMirrorDone id s = _
  simp only [execFenceMirrorDone, hf, hmet, hd, ho, Bool.not_true, Bool.false_eq_true, if_false]

/-- FENCE_TIER adds a fence over the pages that count, and its operation keeps their number for PARAM (R93). -/
theorem fenceTier_selected {o : LongOp} {ps : List Nat} {u : State} (h : longRuns s d 1 t) (hsel : t.selects d.selector = true)
    (hps : ps = ((t.tier.pages.filter fun e => e.2.counted).map Prod.fst).filter (t.selectedPage d.selector))
    (hu : u = (t.startOp (.fenceTier t.nextFence) d.src none).addFence ⟨t.nextFence, .tier, d.selector, ps, [], [], d.src⟩)
    (ho : u.opAt t.nextOpSlot = some o) : exec (.fenceTier d) s = .next (u.setOp { o with param := ps.length }) := by
  obtain ⟨hruns, hslot⟩ := h
  subst hps hu
  refine congrArg Host.Outcome.next ((take_of_descRuns hruns fun _ => hslot).trans ?_)
  simp only [hsel, ho, Bool.not_true, Bool.false_eq_true, if_false]

theorem fenceTierDone_met {o : LongOp} (hf : s.fenceAt id .tier = some f) (hmet : f.met = true)
    (ho : (s.rings.ops.find? fun o => o.kind == .fenceTier id && o.st == .running) = some o) :
    exec (.fenceTierDone id) s = .next ((s.dropFence id).endOp o .ok o.param) := by
  change execFenceTierDone id s = _
  simp only [execFenceTierDone, hf, hmet, ho, if_true]

end Fences

section Flush

variable {s : State} {p : PortId} {l : LinkId}

theorem hasGpf_of_up (hup : (s.linkAt p.val l.val).up = true) (hv : 2 ≤ (s.linkAt p.val l.val).ver) : s.hasGpf p l = true := by
  simp only [State.hasGpf, hup, hv, decide_true, Bool.and_self]

/-- Phase 1 has no work and is answered at once (R94; log entry 75). -/
theorem gpfPhase1_hasGpf (h : s.hasGpf p l = true) : exec (.gpfPhase1 p l) s = .next (s.emit (.gpfDone p.val l.val 1)) :=
  congrArg Host.Outcome.next (if_pos h)

/-- In UNARMED phase 2 waits as a persist fence over every region does (R94). -/
theorem gpfPhase2_unarmed (h : s.hasGpf p l = true) (hg : s.per.guard = .unarmed) :
    exec (.gpfPhase2 p l) s = .next { s with per := { s.per with
      gpf := s.per.gpf ++ [(p.val, l.val, s.persistFence .gpf 0 none .internal)] } } := by
  change execGpfPhase2 p l s = _
  simp only [execGpfPhase2, h, hg, Bool.not_true, Bool.false_eq_true, if_false, if_true]

theorem gpfPhase2Done_met {f : Fence} {a b : Nat}
    (hf : (s.per.gpf.find? fun e => e.1 == p.val && e.2.1 == l.val) = some (a, b, f)) (hp : f.pages = []) (hl : f.lines = [])
    (hw : f.writes = []) :
    exec (.gpfPhase2Done p l) s = .next (({ s with per := { s.per with
      gpf := s.per.gpf.filter fun e => ! (e.1 == p.val && e.2.1 == l.val) } }).emit (.gpfDone p.val l.val 2)) := by
  change execGpfPhase2Done p l s = _
  simp [execGpfPhase2Done, hf, hp, hl, hw]

end Flush

/-- Settles O6: each clause is one of the lemmas above; the two forms of FENCE_PERSIST differ in the fence they add. -/
theorem fencesWaitAndEnd : Obligations.FencesWaitAndEnd := by
  refine ⟨?armed, ?unarmed, ?persistDone, ?mirrorUp, ?mirrorAbsent, ?mirrorDone, ?tier, ?tierDone, ?phase1, ?phase2, ?phase2Done⟩
  case armed =>
    intro d s t h hsel hg
    rw [fencePersist_adds h hsel, persistFence_armed hg, State.addFence]
  case unarmed =>
    intro d s t h hsel hg
    rw [fencePersist_adds h hsel, persistFence_unarmed hg, State.addFence]
  case persistDone => exact fun _ _ _ hf hp hl hw => fencePersistDone_met hf (met_of_nil hp hl hw)
  case mirrorUp => exact fun _ _ _ h hsel hup => (fenceMirror_selected h hsel).trans (congrArg Host.Outcome.next (if_pos hup))
  case mirrorAbsent =>
    exact fun _ _ _ h hsel hup => (fenceMirror_selected h hsel).trans (congrArg Host.Outcome.next (if_neg (ne_true_of_eq_false hup)))
  case mirrorDone => exact fun _ _ _ _ hf hp hl hw hd ho => fenceMirrorDone_met hf (met_of_nil hp hl hw) hd ho
  case tier => exact fun _ _ _ _ _ _ h hsel hps hu ho => fenceTier_selected h hsel hps hu ho
  case tierDone => exact fun _ _ _ _ hf hp hl hw ho => fenceTierDone_met hf (met_of_nil hp hl hw) ho
  case phase1 => exact fun _ _ _ hup hv => gpfPhase1_hasGpf (hasGpf_of_up hup hv)
  case phase2 => exact fun _ _ _ hup hv hg => gpfPhase2_unarmed (hasGpf_of_up hup hv) hg
  case phase2Done => exact fun _ _ _ _ _ _ hf hp hl hw => gpfPhase2Done_met hf hp hl hw

end Sys2Proof.Proofs
end

section
/-!
The steps of a power-loss save (R96 to R100), and the parts of the state that a record of the event log leaves alone.
-/
namespace Sys2Proof.Proofs

open Machine Safety Laws

/-- A state without the parts that a record may change: the log itself, its counters and free choices, the copies for the flash, the
hosts and the BMC, and what is sent. -/
def besideLog (s : State) : State :=
  { s with freeCtr := 0, outs := [], regs := [], evt := State.reset.evt, portQueue := [], ports := State.reset.ports,
           mgmt := State.reset.mgmt }

section BesideLog

variable {s : State}

theorem pushCxl_besideLog (p ld log kind : Nat) (x : Option LogRec) (base size : Nat) :
    besideLog (s.pushCxl p ld log kind x base size) = besideLog s := by
  unfold State.pushCxl
  dsimp only
  split <;> split <;> rfl

theorem mirrorCxl_besideLog (r : LogRec) : besideLog (s.mirrorCxl r) = besideLog s := by
  have hfold (l : List (Nat × Nat)) (kind base : Nat) (s : State) :
      besideLog (l.foldl (fun s x => s.pushCxl x.1 x.2 r.sev.code kind (some r) base 0) s) = besideLog s :=
    List.foldlRecOn (motive := fun t => besideLog t = besideLog s) l _ rfl fun _ ht _ _ => (pushCxl_besideLog ..).trans ht
  unfold State.mirrorCxl
  dsimp only
  split
  · split
    · exact hfold ..
    · rw [hfold, hfold]
  · exact hfold ..

theorem platformEvent_besideLog (e : PlatformEvent) : besideLog (s.platformEvent e) = besideLog s := by
  unfold State.platformEvent
  split <;> rfl

theorem mirrorEvent_besideLog (r : LogRec) : besideLog (s.mirrorEvent r) = besideLog s := by
  unfold State.mirrorEvent
  dsimp only
  split
  · rw [platformEvent_besideLog, mirrorCxl_besideLog]
  · exact mirrorCxl_besideLog r

theorem copyCritical_besideLog (r : LogRec) : besideLog (s.copyCritical r) = besideLog s := by
  unfold State.copyCritical
  split <;> rfl

/-- A record is placed, copied and sent, or it is dropped and counted (R417, R418); nothing else of the state changes. -/
theorem log_besideLog (code : Nat) (sev : Sev) (src w4 w5 w6 w7 : Nat) : besideLog (s.log code sev src w4 w5 w6 w7) = besideLog s := by
  unfold State.log State.place
  split
  · rw [mirrorEvent_besideLog, copyCritical_besideLog]; rfl
  · split
    · rw [mirrorEvent_besideLog, copyCritical_besideLog]; rfl
    · rfl

@[simp] theorem log_per (code : Nat) (sev : Sev) (src w4 w5 w6 w7 : Nat) : (s.log code sev src w4 w5 w6 w7).per = s.per :=
  (congrArg State.per (log_besideLog (s := s) code sev src w4 w5 w6 w7) :)

@[simp] theorem log_pw (code : Nat) (sev : Sev) (src w4 w5 w6 w7 : Nat) : (s.log code sev src w4 w5 w6 w7).pw = s.pw :=
  (congrArg State.pw (log_besideLog (s := s) code sev src w4 w5 w6 w7) :)

end BesideLog

section Images

variable {s : State} {b : Bool} {x : Image}

@[simp] theorem setImage_image : (s.setImage b x).image b = x := by cases b <;> rfl

@[simp] theorem setImage_tier : (s.setImage b x).tier = s.tier := by cases b <;> rfl

@[simp] theorem setImage_pw : (s.setImage b x).pw = s.pw := by cases b <;> rfl

end Images

section SaveSteps

variable {s : State}

theorem saveIntentProgrammed_landed (hat : s.saveAt .landed = true) (hsave : s.saving = true) (hn : s.nandPowered = true) :
    exec .saveIntentProgrammed s = .next (let u := s.setImage s.per.saveImage { s.image s.per.saveImage with
        intentOk := true, count := s.atRisk
        map := (s.countedPages.filterMap fun k => (s.regionOf (4096 * k)).map Prod.fst).eraseDups }
      { u with per := { u.per with saveStep := .streaming } }) :=
  congrArg Host.Outcome.next (if_neg (by simp [hat, hsave, hn]))

/-- In SAVE the cutoff is `cutFlush` (R96), which leaves the link ABSENT with cause 3 (log entry 21). -/
theorem twinFlushCutoff_save (hm : s.mc.mode = .save) : exec .twinFlushCutoff s = .next s.cutFlush :=
  congrArg Host.Outcome.next (if_pos hm)

/-- A flush is cut off once. -/
theorem cutFlush_of_cut (h : s.per.flushCut = true) : s.cutFlush = s := if_pos h

/-- After the cutoff the flush is cut off, whether it was before or not. -/
theorem cutFlush_flushCut : s.cutFlush.per.flushCut = true := by
  unfold State.cutFlush
  split
  · assumption
  · rfl

/-- With no write-back to abandon the end of the stream is a step of the save alone (R97). -/
theorem streamed_of_wbs_nil (h : s.tier.wbs = []) (back : State → WriteBack → State) :
    (let u := s.tier.wbs.foldl back s;
      { u with tier := { u.tier with wbs := [] }, per := { u.per with saveStep := .streamed } }) =
      { s with per := { s.per with saveStep := .streamed } } := by
  have hfold : s.tier.wbs.foldl back s = s := by rw [h, List.foldl_nil]
  rw [hfold, ← h]

/-- The stream ends with every line read and no write-back to abandon (R95, R97). -/
theorem saveStreamDone_clean (hat : s.saveAt .streaming = true) (hsave : s.saving = true) (hn : s.nandPowered = true)
    (hw : s.tier.wbs = []) :
    exec (.saveStreamDone []) s = .next (let x := s.image s.per.saveImage
      let u := s.setImage s.per.saveImage { x with
        pages := s.countedPages
        lines := (s.countedPages.flatMap pageLines).filterMap fun l => if s.line l = zeroLine l then none else some (l, s.line l)
        damaged := [], summaries := (s.countedPages.length + (x.recs.length + 50) / 51 + 1021) / 1022 }
      { u with per := { u.per with saveStep := .streamed } }) := by
  have hwbs (x : Image) : (s.setImage s.per.saveImage x).tier.wbs = [] := by rw [setImage_tier, hw]
  exact congrArg Host.Outcome.next ((if_neg (by simp [hat, hsave, hn])).trans (streamed_of_wbs_nil (hwbs _) _))

theorem saveMetadataDone_streamed (hat : s.saveAt .streamed = true) (hsave : s.saving = true) (hn : s.nandPowered = true) :
    exec .saveMetadataDone s = .next (let c := s.cutFlush
      let other := c.image (! c.per.saveImage)
      let u := c.setImage c.per.saveImage { c.image c.per.saveImage with
        table := c.rgn.table, sets := c.rgn.sets, epoch := c.rgn.epoch, bitmap := c.twin.bitmap, log := c.evt.recs
        predSeq := if other.st = .pending then other.seq else 0 }
      { u with per := { u.per with saveStep := .metadata } }) :=
  congrArg Host.Outcome.next (if_neg (by simp [hat, hsave, hn]))

/-- The state once the seal record is programmed (R96): the image is pending and sealed, the save is logged, and each pack that
contributed counts a cycle. -/
def sealedSave (s : State) : State :=
  let x := s.image s.per.saveImage
  let t := s.setImage s.per.saveImage { x with sealedOk := true, st := .pending, sealWarm := ! s.pw.vddqExcursion }
  let u := (t.log 0x5011 .notice srcPersist x.seq.toNat x.pages.length ((s.timeNs - s.per.saveStart) / 1000)).countCycles
  { u with per := { u.per with saveStep := .done, lastResult := 1 } }

theorem sealedSave_image : (sealedSave s).image s.per.saveImage =
    { s.image s.per.saveImage with sealedOk := true, st := .pending, sealWarm := ! s.pw.vddqExcursion } := by
  unfold sealedSave State.image State.countCycles
  simp only [log_per]
  exact setImage_image

theorem sealedSave_pw : (sealedSave s).pw = s.pw := by
  unfold sealedSave State.countCycles
  simp only [log_pw, setImage_pw]

/-- Without main power the sealed save ends in STANDBY, and the requests that arrived in SAVE are then decided (R31, R33). -/
theorem saveSealed_standby {straps : Straps} (hat : s.saveAt .metadata = true) (hsave : s.saving = true) (hn : s.nandPowered = true)
    (hb : s.pw.mainBack = false) :
    exec (.saveSealed straps) s = .next ((sealedSave s).enterStandby .workDone straps).decideSaveReqs := by
  have hback : ¬ (sealedSave s).pw.mainBack = true := by rw [sealedSave_pw, hb]; exact Bool.false_ne_true
  refine congrArg Host.Outcome.next ((if_neg (by simp [hat, hsave, hn])).trans (congrArg State.decideSaveReqs ?_))
  exact (if_neg fun h => hback h.1).trans (if_neg hback)

end SaveSteps

/-- Settles O12: each clause is one of the lemmas above. -/
theorem saveSteps : Obligations.SaveSteps := by
  refine ⟨?intent, ?cutBefore, ?cut, ?stream, ?metadata, ?sealed⟩
  case intent => exact fun _ hat hsave hn => saveIntentProgrammed_landed hat hsave hn
  case cutBefore => exact fun _ hm hc => (twinFlushCutoff_save hm).trans (congrArg Host.Outcome.next (cutFlush_of_cut hc))
  case cut => exact fun _ hm _ => ⟨twinFlushCutoff_save hm, cutFlush_flushCut⟩
  case stream => exact fun _ hat hsave hn hw => saveStreamDone_clean hat hsave hn hw
  case metadata => exact fun _ hat hsave hn => saveMetadataDone_streamed hat hsave hn
  case sealed =>
    intro straps s hat hsave hn hb
    exact ⟨sealedSave s, saveSealed_standby hat hsave hn hb, congrArg Image.st sealedSave_image, congrArg Image.sealedOk sealedSave_image,
      rfl, rfl⟩

end Sys2Proof.Proofs
end

section
/-!
Write-back, write-through, fills and the read steps (R79, R81, R103, R104, R120, R121, R211, R212, R214).
-/
namespace Sys2Proof.Proofs

open Machine Safety Laws

section Lines

variable {s : State}

/-- Lines that carry poison or pass their waybill check need no recovery (R184). -/
theorem filter_bad_eq_nil {ls : List Nat} {x : Nat → Line} (h : ∀ l ∈ ls, (x l).poison = true ∨ (x l).checks l = true) :
    (ls.filter fun l => ! (x l).poison && (([] : List Nat).contains l || ! (x l).checks l)) = [] :=
  List.filter_eq_nil_iff.mpr fun l hl => by
    cases h l hl with
    | inl hp => simp [hp]
    | inr hc => simp [hc]

end Lines

section WriteBacks

variable {s : State} {k i : Nat} {r : Region}

/-- A DIRTY page whose lines are all good and that no channel has failed starts its write-back (R81). -/
theorem beginWriteback_good (hr : s.regionOf (4096 * k) = some (i, r)) (hst : (s.page k).st = .dirty) (hrate : s.fullRate = true)
    (hcls : r.cls ≠ .scratch) (hkey : s.keysLoaded i r = true) (hoff : s.tier.retryOff = [])
    (hl : ∀ l ∈ pageLines k, (s.line l).poison = true ∨ (s.line l).checks l = true) :
    s.beginWriteback k [] = s.startWriteback k false := by
  have hbad := filter_bad_eq_nil hl
  simp only [State.beginWriteback, hr, hoff, hbad]
  simp [hst, hrate, hcls, hkey]

/-- The request of a write-back that wins the bus is not parked (R349). -/
theorem writebackStart_won {w : WriteBack} (hnew : ((s.beginWriteback k []).tier.wbs.find? fun w => w.page == k) = some w)
    (hold : (s.tier.wbs.any fun w => w.page == k) = false) :
    exec (.writebackStart k [] .won) s = .next (s.beginWriteback k []) := by
  change execWritebackStart k [] .won s = _
  simp only [execWritebackStart, hnew, hold, State.park]

theorem writebackProgramDone_some {w : WriteBack} {t : State} (hw : (s.tier.wbs.find? fun w => w.page == k) = some w)
    (ht : t = (({ s with tier := { s.tier with wbs := s.tier.wbs.filter fun x => x.page != k } } : State).unpark k).programHome
      k w.lines w.loc) :
    exec (.writebackProgramDone k) s = .next ((if (t.page k).st = .writingBack then t.pageHome k else t).afterWriteback k) := by
  subst ht
  change execWritebackProgramDone k s = _
  simp only [execWritebackProgramDone, hw]

/-- The first failure of a page's program moves it to another place of the same channel (R214). -/
theorem nandProgramFail_first {w : WriteBack} {loc : HomeLoc} {t : State} (hw : (s.tier.wbs.find? fun w => w.page == k) = some w)
    (hf : w.failed = false) (ha : (s.programFailed w.loc 1).allocSame w.loc.ch = some (loc, t)) :
    exec (.nandProgramFail k) s = .next { t with tier := { t.tier with
      wbs := t.tier.wbs.map fun (x : WriteBack) => if x.page = k then { x with failed := true, loc := loc } else x } } := by
  change execNandProgramFail k s = _
  simp only [execNandProgramFail, hw, hf, ha, Bool.false_eq_true, if_false]

end WriteBacks

section WriteThroughs

variable {s : State} {k : Nat} {w : WriteThrough}

/-- The lines gathered for a page that is neither filled nor merged get a home and are programmed (R79). -/
theorem writeThroughStart_free {loc : HomeLoc} {t : State} (hw : (s.per.wts.find? fun t => t.page == k) = some w) (hs : w.started = false)
    (hf : (s.page k).st ≠ .filling) (hm : (s.chans.any fun c => c.2.merges.any fun m => m.line / 64 == k) = false)
    (ha : s.allocHome k ((s.tier.retryOff.find? fun e => e.1 == k).map Prod.snd) = some (loc, t)) :
    exec (.writeThroughStart k) s = .next { t with per := { t.per with
      wts := t.per.wts.map fun (x : WriteThrough) => if x = w then { x with started := true, loc := some loc } else x } } := by
  change execWriteThroughStart k s = _
  simp [execWriteThroughStart, hw, hs, hf, hm, ha]

theorem writeThroughDone_some (hw : (s.per.wts.find? fun t => t.page == k && t.started && t.loc.isSome) = some w) :
    exec (.writeThroughDone k) s = .next (s.throughDone k w) := by
  change execWriteThroughDone k s = _
  simp only [execWriteThroughDone, hw]

end WriteThroughs

section Fills

variable {s : State} {k : Nat} {f : Fill}

/-- A fill whose codeword and lines are all good ends with what NAND stores (R121). -/
theorem fillDone_good (hf : (s.tier.fills.find? fun f => f.page == k) = some f)
    (hkeys : ((s.regionOf (4096 * k)).any fun e => ! s.keysLoaded e.1 e.2) = false) (hlost : (s.unpark k).nand.lost.contains k = false)
    (hl : ∀ l ∈ pageLines k, ((s.unpark k).storedLine l).poison = true ∨ ((s.unpark k).storedLine l).checks l = true) :
    exec (.fillDone k []) s = .next ((s.unpark k).fillEnds f (s.unpark k).storedLine) := by
  have hbad := filter_bad_eq_nil hl
  change execFillDone k [] s = _
  simp only [execFillDone, hf, hkeys, hlost, hbad, Bool.false_eq_true, and_false, if_false, if_true]

/-- The block of a fill remembers the step that decoded, and by its time each step from 8 on (R211, R213). -/
theorem readStepDone_pass {loc : HomeLoc} {best : Fin 11} (hf : (s.tier.fills.find? fun f => f.page == k) = some f)
    (hloc : (s.unpark k).fillLoc f = some loc) :
    exec (.readStepDone k true best .won) s = .next (let t := s.unpark k
      t.setBlock loc.ch loc.die loc.block { t.block loc.ch loc.die loc.block with
        step := if f.step = 12 then best.val + 1 else f.step
        deep := ((t.block loc.ch loc.die loc.block).deep.filter fun x => decide (t.timeNs < x + 3600 * 10 ^ 9)) ++
          (if 8 ≤ f.step then [t.timeNs] else []) }) := by
  change execReadStepDone k true best .won s = _
  by_cases h8 : 8 ≤ f.step
  · simp only [execReadStepDone, hf, hloc, h8, if_true]
  · simp only [execReadStepDone, hf, hloc, h8, if_true, if_false, List.append_nil]

/-- Step 12 is the last one: where it does not decode, the codeword is uncorrectable (R212). -/
theorem readStepDone_last {best : Fin 11} {b : BusUse} (hf : (s.tier.fills.find? fun f => f.page == k) = some f) (h12 : f.step = 12) :
    exec (.readStepDone k false best b) s = .next ((s.unpark k).ladderFails f) := by
  change execReadStepDone k false best b s = _
  simp only [execReadStepDone, hf, h12, Bool.false_eq_true, if_false, if_true]

/-- At the cutoff step 12 is given up, and any other step is the last hard one (R212). -/
theorem readLadderCutoff_some (hf : (s.tier.fills.find? fun f => f.page == k) = some f) :
    exec (.readLadderCutoff k) s = .next (if f.step = 12 then s.ladderFails f
      else { s with tier := { s.tier with
        fills := s.tier.fills.map fun (x : Fill) => if x.page = k then { x with cut := true } else x } }) := by
  change execReadLadderCutoff k s = _
  simp only [execReadLadderCutoff, hf]

/-- A frame whose fill runs is refilled; while others wait for their content the region goes on REFILLING (R103). -/
theorem backgroundRefill_filling {i : Nat} {r : Region} (hr : s.regionOf (4096 * k) = some (i, r)) (hre : r.refilling = true)
    (hst : (s.page k).st = .filling) (hf : (s.tier.fills.find? fun f => f.page == k) = some f)
    (hu : (s.fillEnds f s.storedLine).unfilled r = true) :
    exec (.backgroundRefill k []) s = .next (s.fillEnds f s.storedLine) := by
  change execBackgroundRefill k [] s = _
  simp [execBackgroundRefill, hr, hre, hst, hf, hu]

end Fills

/-- A page that only an image holds is programmed home as it is stored (R104). -/
theorem imageMoveHome_invalid {s t : State} {image : Bool} {k : Nat} {loc : HomeLoc} (hx : (s.image image).holds k = true)
    (hst : (s.page k).st = .invalid) (hc : (s.page k).counted = false) (ha : s.allocHome k = some (loc, t)) :
    exec (.imageMoveHome image k) s = .next ((t.programHome k ((pageLines k).map t.storedLine) loc).pageHome k) := by
  change execImageMoveHome image k s = _
  simp [execImageMoveHome, hx, hst, hc, ha]

/-- Settles O32: each clause is one of the lemmas above; a write-back that starts is in the list its request is looked up in. -/
theorem writebackAndFills : Obligations.WritebackAndFills := by
  refine ⟨?start, ?done, ?failed, ?throughStart, ?throughDone, ?fill, ?pass, ?last, ?cut, ?refill, ?moveHome⟩
  case start =>
    intro k i r s hr hst hrate hcls hkey hoff hl hnew hold
    have hbegin := beginWriteback_good hr hst hrate hcls hkey hoff hl
    obtain ⟨w, hw⟩ := hnew
    rw [← hbegin] at hw ⊢
    exact writebackStart_won hw hold
  case done => exact fun _ _ _ _ hw ht => writebackProgramDone_some hw ht
  case failed => exact fun _ _ _ _ _ hw hf ha => nandProgramFail_first hw hf ha
  case throughStart => exact fun _ _ _ _ _ hw hs hf hm ha => writeThroughStart_free hw hs hf hm ha
  case throughDone => exact fun _ _ _ hw => writeThroughDone_some hw
  case fill => exact fun _ _ _ hf hkeys hlost hl => fillDone_good hf hkeys hlost hl
  case pass =>
    rintro k f loc best s t hf rfl hloc
    exact readStepDone_pass hf hloc
  case last =>
    intro k f best b s hf h12
    exact ⟨readStepDone_last hf h12, (readLadderCutoff_some hf).trans (congrArg Host.Outcome.next (if_pos h12))⟩
  case cut => exact fun _ _ _ hf h12 => (readLadderCutoff_some hf).trans (congrArg Host.Outcome.next (if_neg h12))
  case refill =>
    rintro k i r s t f hr hre hst hf rfl hu
    exact backgroundRefill_filling hr hre hst hf hu
  case moveHome => exact fun _ _ _ _ _ hx hst hc ha => imageMoveHome_invalid hx hst hc ha

end Sys2Proof.Proofs
end

section
/-!
Training, retraining, alerts and temperature of the DRAM channels (R141 to R144, R158, R160, R163 to R169).
-/
namespace Sys2Proof.Proofs

open Machine Safety Laws

section Training

variable {s : State} {ch : ChId} {a : DimmSpd} {rate : Nat} {tim : List Word}

/-- A channel with one accepted DIMM whose population fits is trained at the rate of its SPD (R141, R143). -/
theorem trainChannel_accepted {n : Nat} {fits : State → List DimmSpd → Bool} (hok : dimmRefusals (some a) none = [])
    (hrate : s.trainRate n a.typ [a] = some rate) (hfits : fits s [a] = true) :
    s.trainChannel n (some a) none true tim fits = (true, s.adoptDimms n rate (some a) none tim) := by
  simp [State.trainChannel, hok, hrate, hfits]

/-- A channel that trains at BOOT becomes ACTIVE (R149). -/
theorem initialTrainingDone_accepted (hm : s.mc.mode = .boot) (hc : s.pw.cold = none) (hst : (s.ch ch.val).st = .offline)
    (hok : dimmRefusals (some a) none = []) (hrate : s.trainRate ch.val a.typ [a] = some rate) :
    exec (.initialTrainingDone ch (some a) none true tim) s =
      .next ((s.adoptDimms ch.val rate (some a) none tim).setChState ch.val .active) := by
  refine congrArg Host.Outcome.next ((if_neg (by simp [hm, hc, hst])).trans ?_)
  rw [trainChannel_accepted hok hrate rfl]

end Training

section Retraining

variable {s : State} {ch : ChId}

/-- An ACTIVE channel retrains on the request of CH_CTL.RETRAIN (R166). -/
theorem fullRetrainStart_request (hst : (s.ch ch.val).st = .active) (hm : s.mc.mode ≠ .save)
    (hr : s.flag CH_CTL_RETRAIN ch.val = true) : exec (.fullRetrainStart ch .request) s = .next (s.startRetrain ch.val 0) :=
  congrArg Host.Outcome.next ((if_neg (by simp [hst, hm])).trans ((if_neg (by simp [hst])).trans (if_pos (.inl hr))))

/-- Loss of PLL lock is an error of the channel and retrains it (R166, R177). -/
theorem fullRetrainStart_pllLost (hst : (s.ch ch.val).st = .active) (hm : s.mc.mode ≠ .save) :
    exec (.fullRetrainStart ch .pllLost) s = .next ((s.chErr ch.val 6).startRetrain ch.val 6) :=
  congrArg Host.Outcome.next ((if_neg (by simp [hst, hm])).trans (if_neg (by simp [hst])))

theorem chRetrainRequest_active (hst : (s.ch ch.val).st = .active) :
    exec (.chRetrainRequest ch) s = .next (s.setFld CH_CTL_RETRAIN 1 ch.val) := by
  change execChRetrainRequest ch s = _
  simp only [execChRetrainRequest, hst]

/-- A commit that finds none pending waits for the next full retraining (R158). -/
theorem chTimCommit_none_pending {who : Writer} (hc : s.flag CH_TIM_COMMIT_COMMIT ch.val = false) :
    exec (.chTimCommit ch who) s = .next ((s.setFld CH_TIM_COMMIT_COMMIT 1 ch.val).setCh ch.val { s.ch ch.val with timBy := who }) :=
  congrArg Host.Outcome.next (if_neg (by simp [hc]))

/-- With no read out at the twin, the end of a retraining leaves the twin link alone, and no read of the channel is served twice (R167). -/
theorem retrainDone_no_twinReads (hst : (s.ch ch.val).st = .retraining) (hl : (s.ch ch.val).twinReads = []) (ht : s.twin.reads = []) :
    exec (.retrainDone ch []) s = .next (((((((((s.setCh ch.val { s.ch ch.val with twinReads := [], drift := 0, slotCtr := 0 }).setFld
      CH_CTL_RETRAIN 0 ch.val).setFld CH_TRAIN_STAT_LAST_TRIGGER (s.ch ch.val).retrainCause ch.val).bump CH_TRAIN_STAT_FULL_COUNT ch.val).setFld
      CH_TRAIN_STAT_LAST_NS (min 0xFFFF ((s.timeNs - (s.ch ch.val).retrainStart) / 10)) ch.val).setChState ch.val (s.ch ch.val).resumeTo).log
      0x1004 (if (s.ch ch.val).retrainCause = 0 ∨ (s.ch ch.val).retrainCause = 5 then .info else .notice) (srcCh ch.val) ch.val
      (s.ch ch.val).retrainCause (s.timeNs - (s.ch ch.val).retrainStart)).afterRetrain ch.val [])) := by
  refine congrArg Host.Outcome.next ((if_neg (not_not_intro hst)).trans ?_)
  have htwin : ({ s.twin with reads := [], lateReads := s.twin.lateReads } : Twin) = s.twin := by rw [← ht]
  simp only [hl, State.setCh_twin, ht, List.filter_nil, List.append_nil, htwin]
  rfl

/-- A second error, here an uncorrectable one, closes a channel that retrains (R168, R170). -/
theorem retrainBoundExpiry_uncorrectable {sub : Bool} {lanes : BitVec 20} (hst : (s.ch ch.val).st = .retraining) :
    exec (.retrainBoundExpiry ch sub 3 lanes) s =
      .next (((s.chErr ch.val 3).closeChannel ch.val (if sub then 1 else 0) 3 lanes.toNat).releaseHeld ch.val) :=
  congrArg Host.Outcome.next (if_neg (not_not_intro hst))

/-- The strobe delays of an ACTIVE DDR5 channel follow the drift (R166). -/
theorem driftTrack_active {ps : Int} (hst : (s.ch ch.val).st = .active) (ht : (s.ch ch.val).typ = 1) :
    exec (.driftTrack ch ps) s = .next (s.setCh ch.val { s.ch ch.val with drift := (s.ch ch.val).drift + ps }) :=
  congrArg Host.Outcome.next (if_pos ⟨hst, ht⟩)

end Retraining

section Alerts

variable {s : State} {ch : ChId} {a : AlertSeries}

/-- The first alert of subchannel 0 begins a series (R163). -/
theorem caAlert_first {u : State} (hst : (s.ch ch.val).st = .active) (ha : (s.ch ch.val).alerts = [])
    (hu : u = ((s.bump CH_CAPAR_ALERTS ch.val).chErr ch.val 1).logLim 0x1002 ch.val .notice (srcCh ch.val) (ch.val, 1, 0, 0)) :
    exec (.caAlert ch false) s = .next (u.setCh ch.val { u.ch ch.val with alerts := [⟨0, true, 0, s.timeNs⟩] }) := by
  subst hu
  change execCaAlert ch false s = _
  simp only [execCaAlert, hst, ha, List.find?_nil]
  rfl

/-- The end of the one alert precharges the ranks of its subchannel and counts the commands replayed (R163). -/
theorem caAlertEnd_one {n : Nat} (ha : (s.ch ch.val).alerts = [a]) (hsub : a.sub = 0) (has : a.asserted = true) :
    exec (.caAlertEnd ch false n) s = .next ((s.setCh ch.val { s.ch ch.val with
      alerts := [{ a with asserted := false }], rows := (s.ch ch.val).rows.filter fun e => e.1 / 512 != 0 }).mergeLim 0x1002 ch.val
        fun l => { l with w6 := l.w6 + n }) := by
  change execCaAlertEnd ch false n s = _
  simp [execCaAlertEnd, ha, hsub, has]

/-- A series that is not over in time escalates to full retraining (R164). -/
theorem replayTimeout_series (ha : ((s.ch ch.val).alerts.find? fun a => a.sub == 0) = some a) :
    exec (.replayTimeout ch false) s = .next (s.escalate ch.val 0 a) := by
  change execReplayTimeout ch false s = _
  simp only [execReplayTimeout, Bool.false_eq_true, if_false, ha]

end Alerts

section RefreshAndTemperature

variable {s : State} {ch : ChId}

/-- A rank that is not released owes one refresh more (R159), also past its limit (log entry 95). -/
theorem refreshDue_active {rank : Fin 16} (hst : (s.ch ch.val).st = .active) (hrk : rank.val < s.ranks ch.val)
    (hr : (s.ch ch.val).released.getLsbD rank.val = false) :
    exec (.refreshDue ch rank) s = .next (s.setCh ch.val { s.ch ch.val with
      refDue := Sparse.modify (fun _ => (0 : Int)) (s.ch ch.val).refDue rank.val (· + 1) }) := by
  change execRefreshDue ch rank s = _
  simp only [execRefreshDue, hst, hrk, hr, Bool.not_false, and_self, if_true]

/-- Above 95 °C the refresh factor has code 2 (R160). -/
theorem tempFactor_hot {t : Nat} (h : 95 < t) : tempFactor t = 2 := by
  rw [tempFactor, if_neg (by omega), if_neg (by omega)]

/-- A channel with one DIMM that becomes hotter than 95 °C is throttled, and the error is logged once (R160, R177). -/
theorem dimmThermPoll_hot {t0 t1 : Fin 256} (hst : (s.ch ch.val).st = .active) (hone : (s.ch ch.val).dimm1.present = false)
    (hhot : 95 < t0.val) (hth : (s.ch ch.val).throttle = false) :
    exec (.dimmThermPoll ch t0 t1 0) s = .next (((s.setCh ch.val { s.ch ch.val with
      temp0 := t0.val, temp1 := 0, factor := 2, throttle := true }).chErr ch.val 0x0A).log 0x1009 .error (srcCh ch.val) ch.val t0.val 2) := by
  have hfactor : max (tempFactor t0.val) (tempFactor 0) = 2 := by rw [tempFactor_hot hhot]; rfl
  change execDimmThermPoll ch t0 t1 0 s = _
  simp [execDimmThermPoll, hst, hone, hth, hfactor]

end RefreshAndTemperature

/-- Settles O14: each clause is one of the lemmas above. -/
theorem channelTrainingAndAlerts : Obligations.ChannelTrainingAndAlerts := by
  refine ⟨?training, ?request, ?pllLost, ?retrain, ?commit, ?done, ?bound, ?drift, ?alert, ?alertEnd, ?replay, ?refresh, ?therm⟩
  case training => exact fun _ _ _ _ _ hm hc hst hok hrate => initialTrainingDone_accepted hm hc hst hok hrate
  case request => exact fun _ _ hst hm hr => fullRetrainStart_request hst hm hr
  case pllLost => exact fun _ _ hst hm => fullRetrainStart_pllLost hst hm
  case retrain => exact fun _ _ hst => chRetrainRequest_active hst
  case commit => exact fun _ _ _ hc => chTimCommit_none_pending hc
  case done => exact fun _ _ hst hl _ ht => retrainDone_no_twinReads hst hl ht
  case bound => exact fun _ _ _ _ hst => retrainBoundExpiry_uncorrectable hst
  case drift => exact fun _ _ _ hst ht => driftTrack_active hst ht
  case alert => exact fun _ _ _ hst ha hu => caAlert_first hst ha hu
  case alertEnd => exact fun _ _ _ _ ha hsub has => caAlertEnd_one ha hsub has
  case replay => exact fun _ _ _ ha => replayTimeout_series ha
  case refresh => exact fun _ _ _ hst hrk hr => refreshDue_active hst hrk hr
  case therm => exact fun _ _ _ _ hst hone hhot hth => dimmThermPoll_hot hst hone hhot hth

end Sys2Proof.Proofs
end

section
/-!
Command slots, rebuild, evacuation, power and re-admission of the DRAM channels, and their device marks (R145, R154, R171 to R176, R199).
-/
namespace Sys2Proof.Proofs

open Machine Safety Laws

section Slots

variable {s : State} {ch : ChId}

/-- A slot of subchannel 1 at the high mark of the write queue drains it, and the first candidate that RFM does not hold back is issued
(R154, R158). The slot counter advances with the other subchannel (log entry 49). -/
theorem commandSlot_drains {u : State} (hst : (s.ch ch.val).st = .active) (ha : (s.ch ch.val).alerts = [])
    (hhi : s.fld CH_SCHED_WR_HI ch.val ≤ (s.ch ch.val).wq.length) (hq : (s.ch ch.val).wq ≠ [])
    (hu : u = s.setCh ch.val { s.ch ch.val with draining := true, alerts := [] }) :
    exec (.commandSlot ch true []) s =
      .next (((u.candidates ch.val 1).find? fun x => ! u.actHeld ch.val x).elim u (u.issue ch.val)) := by
  have hdrain : ((s.ch ch.val).wq != []) = true := bne_iff_ne.mpr hq
  subst hu
  refine congrArg Host.Outcome.next ((if_neg (by simp [hst, ha])).trans ?_)
  simp only [if_true, ha, hhi, true_or, hdrain, List.filter_nil, List.contains_nil, Bool.not_false, Bool.true_and]
  split
  next x hx => rw [hx, Option.elim_some]
  next hx => rw [hx, Option.elim_none]

end Slots

section Rebuild

variable {s : State} {ch : ChId}

/-- The next chunk is rebuilt, and the reads that waited for it are served (R171). -/
theorem rebuildChunk_next {x : Share} {k : Nat} (hw : (s.ch ch.val).work = .rebuild) (hn : s.nextChunk ch.val = some (x, k)) :
    exec (.rebuildChunk ch []) s = .next ((s.rebuildChunk ch.val x k []).releaseHeld ch.val) := by
  refine congrArg Host.Outcome.next ((if_neg (not_not_intro hw)).trans ?_)
  rw [hn]

/-- A rebuild stops waiting for a twin that stays absent (R172). -/
theorem rebuildTwinWaitExpiry_absent (hw : (s.ch ch.val).work = .rebuild) (ht : s.twinUp = false) :
    exec (.rebuildTwinWaitExpiry ch) s = .next ((s.setCh ch.val { s.ch ch.val with twinGone := true }).releaseHeld ch.val) :=
  congrArg Host.Outcome.next (if_pos ⟨hw, by simp [ht]⟩)

end Rebuild

section Evacuation

/-- An ACTIVE channel with no share to move starts its evacuation with nothing to copy (R175). -/
theorem evacuateChannel_no_shares {d : Desc} {s t u : State} (hrun : longRuns s d 5 t) (hops : t.rings.ops = [])
    (hst : (t.ch (d.bits 2 3 0)).st = .active) (hplan : (t.planShares (d.bits 2 3 0) (t.sharesOn (d.bits 2 3 0))) = [])
    (hu : u = t.startOp (.evacChannel (d.bits 2 3 0)) d.src (some 0)) :
    exec (.evacuateChannel d) s = .next ((((u.setCh (d.bits 2 3 0) { t.ch (d.bits 2 3 0) with
      waking := false, early := false, released := 0
      dupInvalid := (t.ch (d.bits 2 3 0)).dupInvalid || (t.ch (d.bits 2 3 0)).released != 0, work := .evacuate, shares := [] }).setChState
        (d.bits 2 3 0) .evacuating).activity).releaseHeld (d.bits 2 3 0)) := by
  change execEvacuateChannel d s = _
  rw [hu, execEvacuateChannel, take_long true true _ hrun]
  simp only [hops, hst, hplan, List.any_nil, List.map_nil, List.sum_nil, Bool.false_eq_true, if_false, if_true]

/-- An evacuation that had no share to move commits no remap: its channel is OFFLINE and its operation ends (R148, R175). -/
theorem evacDone_no_shares {ch : ChId} {o : LongOp} {s u : State}
    (ho : (s.rings.ops.find? fun o => o.kind == .evacChannel ch.val && o.st == .running) = some o)
    (hst : (s.ch ch.val).st = .evacuating) (hw : (s.ch ch.val).work = .evacuate) (hsh : (s.ch ch.val).shares = [])
    (hu : u = s.rehome ch.val) :
    exec (.evacDone ch) s = .next ((((u.setCh ch.val { u.ch ch.val with
      work := .none, shares := [], wq := [], rows := [], inOrder := [], refDue := [], alerts := [] }).setChState ch.val .offline).log
        0x100A .notice (srcCh ch.val) ch.val 0 0).endOp o .ok 0) := by
  have hremaps : planRemaps [] = [] := rfl
  have hmask : (List.range 16).foldl (fun m _ => m) 0 = 0 := foldl_of_fixed (fun _ => rfl) _
  subst hu
  change execEvacDone ch s = _
  simp only [execEvacDone, ho, hst, hw, hsh, List.map_nil, List.sum_nil, List.any_nil, Bool.false_eq_true, if_false, hmask, hremaps,
    ne_eq, not_true_eq_false, or_self, if_true]

end Evacuation

section Power

variable {s : State} {ch : ChId} {who : Writer}

theorem chPwrWrite_on :
    exec (.chPwrWrite ch true who) s = .next ((s.setFld CH_CTL_PWR 1 ch.val).setCh ch.val { s.ch ch.val with pwrEn := true }) :=
  congrArg Host.Outcome.next ((if_neg (by simp)).trans (if_neg (by simp)))

/-- An ACTIVE channel keeps its power: the write is refused (R145). -/
theorem chPwrWrite_off_active (hst : (s.ch ch.val).st = .active) :
    exec (.chPwrWrite ch false who) s = .next (s.reject (RegName.offset .CH_CTL ch.val 0 0) 0 1 who) :=
  congrArg Host.Outcome.next (if_pos (by simp [hst]))

end Power

section Readmission

variable {s : State} {ch : ChId}

/-- A re-admitted channel that no rebuild waits for copies its shares back and serves (R173, R176). -/
theorem readmit_copyBack {a : DimmSpd} {rate : Nat} {tim : List Word} {who : Writer} (hst : (s.ch ch.val).st = .offline)
    (hp : s.flag CH_CTL_PWR ch.val = true) (hok : dimmRefusals (some a) none = []) (hrate : s.trainRate ch.val a.typ [a] = some rate)
    (hfits : s.readmitFits ch.val [a] = true) (hw : ((s.adoptDimms ch.val rate (some a) none tim).ch ch.val).work ≠ .rebuild) :
    exec (.readmit ch (some a) none true tim who) s = .next (
      let v := s.adoptDimms ch.val rate (some a) none tim
      let w := v.setCh ch.val { v.ch ch.val with
        work := .copyBack, shares := [], noSpace := false, partner := (ch.val + 4) % 16, slotCtr := 0, temp0 := 0, temp1 := 0
        factor := 0, throttle := false, drift := 0, refDue := [], raa := [] }
      let x := w.setCh ((ch.val + 12) % 16) { w.ch ((ch.val + 12) % 16) with partner := ch.val }
      let y := { x with tests := { x.tests with
        patrols := Sparse.set (fun _ => Patrol.reset) x.tests.patrols ch.val { Patrol.reset with start := x.timeNs } } }
      ((((y.setFld CH_CTL_READMIT 1 ch.val).setChState ch.val .active).releaseHeld ch.val).retryShares).reeval .cause) := by
  have hpending : (((s.adoptDimms ch.val rate (some a) none tim).ch ch.val).work == .rebuild) = false := beq_eq_false_iff_ne.mpr hw
  refine congrArg Host.Outcome.next ((if_neg (by simp [hst, hp])).trans ?_)
  rw [trainChannel_accepted (fits := fun s ds => s.readmitFits ch.val ds) hok hrate hfits]
  simp only [hpending, Bool.false_eq_true, if_false]

/-- The copy-back of a channel that no pool names ends without a commit (R176). -/
theorem readmitted_no_pool (hr : s.flag CH_CTL_READMIT ch.val = true) (hw : (s.ch ch.val).work = .copyBack)
    (hpool : ∀ p, p < 16 → s.flag RGN_POOL_CFG_VALID p = false) :
    exec (.readmitted ch) s = .next ((((s.setCh ch.val { s.ch ch.val with work := .none, shares := [] }).setFld CH_CTL_READMIT 0 ch.val).log
      0x100B .notice (srcCh ch.val) ch.val (s.ch ch.val).rate).retryShares) := by
  refine congrArg Host.Outcome.next ((if_neg (by simp [hr, hw])).trans ?_)
  refine congrArg (fun t => (((State.setFld t CH_CTL_READMIT 0 ch.val).log _ _ _ _ _).retryShares)) (if_pos ?_)
  exact List.flatMap_eq_nil_iff.mpr fun p hp => if_neg (by simp [hpool p (List.mem_range.mp hp)])

end Readmission

/-- Settles O15: each clause is one of the lemmas above; MARK_CLEAR has no condition and is the model's own equation. -/
theorem channelServiceAndRebuild : Obligations.ChannelServiceAndRebuild := by
  refine ⟨?slot, ?chunk, ?twinWait, ?evacuate, ?evacDone, ?powerOn, ?powerOff, ?readmit, ?readmitted, ?mark⟩
  case slot =>
    intro ch s hst ha hhi hq
    refine (commandSlot_drains hst ha hhi hq rfl).trans (congrArg Host.Outcome.next ?_)
    dsimp only
    split
    next x hx => rw [hx, Option.elim_some]
    next hx => rw [hx, Option.elim_none]
  case chunk => exact fun _ _ _ _ hw hn => rebuildChunk_next hw hn
  case twinWait => exact fun _ _ hw ht => rebuildTwinWaitExpiry_absent hw ht
  case evacuate => exact fun _ _ _ _ hrun hops hst hplan hu => evacuateChannel_no_shares hrun hops hst hplan hu
  case evacDone => exact fun _ _ _ _ ho hst hw hsh hu => evacDone_no_shares ho hst hw hsh hu
  case powerOn => exact fun _ _ _ => chPwrWrite_on
  case powerOff => exact fun _ _ _ hst => chPwrWrite_off_active hst
  case readmit => exact fun _ _ _ _ _ _ hst hp hok hrate hfits hw => readmit_copyBack hst hp hok hrate hfits hw
  case readmitted => exact fun _ _ hr hw hpool => readmitted_no_pool hr hw hpool
  case mark => exact fun _ _ _ _ => rfl

end Sys2Proof.Proofs
end

section
/-!
The waybill's combination by linearity (R179, R183): the CRC register of a string of bytes is the exclusive or of what the start of the
register and each byte contribute, so reseed, assemble and replace give the waybill of the bytes they stand for.
-/
namespace Sys2Proof.Proofs

open Machine Laws

/-- A bit into the register: a shift, and the polynomial where the bit shifted out and the bit taken in differ (R179). -/
theorem crcBit_eq (r : Word) (b : Bool) : crcBit r b = (r >>> 1) ^^^ (if (r.getLsbD 0 ^^ b) then 0x82F63B78#32 else 0#32) := by
  have hone : (1#32 : Word) >>> 1 = 0#32 := rfl
  have hshift : (r ^^^ if b then 1#32 else 0#32) >>> 1 = r >>> 1 := by
    cases b <;> simp [BitVec.ushiftRight_xor_distrib, hone]
  have hout : (r ^^^ if b then 1#32 else 0#32).getLsbD 0 = (r.getLsbD 0 ^^ b) := by
    cases b <;> simp
  unfold crcBit
  dsimp only
  rw [hshift, hout]
  split <;> simp

/-- A bit goes into the register linearly over GF(2). -/
theorem crcBit_xor (r s : Word) (a b : Bool) : crcBit (r ^^^ s) (a ^^ b) = crcBit r a ^^^ crcBit s b := by
  have hpoly (c d : Bool) : (if (c ^^ d) then 0x82F63B78#32 else 0#32) =
      (if c then 0x82F63B78#32 else 0#32) ^^^ (if d then 0x82F63B78#32 else 0#32) := by cases c <;> cases d <;> rfl
  have hbits : ((r ^^^ s).getLsbD 0 ^^ (a ^^ b)) = ((r.getLsbD 0 ^^ a) ^^ (s.getLsbD 0 ^^ b)) := by
    rw [BitVec.getLsbD_xor, Bool.xor_assoc, Bool.xor_assoc, Bool.xor_left_comm a]
  rw [crcBit_eq, crcBit_eq, crcBit_eq, hbits, hpoly, BitVec.ushiftRight_xor_distrib]
  ac_rfl

/-- A byte goes into the register linearly. -/
theorem crcByte_xor (r s : Word) (a b : Nat) : crcByte (r ^^^ s) (a ^^^ b) = crcByte r a ^^^ crcByte s b := by
  unfold crcByte
  generalize List.range 8 = is
  induction is generalizing r s with
  | nil => rfl
  | cons i is ih => rw [List.foldl_cons, Nat.testBit_xor, crcBit_xor, ih]; rfl

/-- A byte into the register is a zero byte into it and the byte into an empty register. -/
theorem crcByte_eq (r : Word) (b : Nat) : crcByte r b = crcByte r 0 ^^^ crcByte 0 b := by
  simpa using crcByte_xor r 0 0 b

/-- Zero bytes are linear in the register. -/
theorem zeros_xor (r s : Word) (n : Nat) : zeros (r ^^^ s) n = zeros r n ^^^ zeros s n := by
  induction n generalizing r s with
  | zero => rfl
  | succ n ih =>
    have hzero : crcByte (r ^^^ s) 0 = crcByte r 0 ^^^ crcByte s 0 := crcByte_xor r s 0 0
    rw [zeros_succ, zeros_succ, zeros_succ, hzero, ih]

/-- Zero bytes leave an empty register empty. -/
@[simp] theorem zeros_zero (n : Nat) : zeros 0#32 n = 0#32 := by simpa using zeros_xor 0 0 n

/-- Bytes into a register are zero bytes into it and the bytes into an empty register. -/
theorem feed_eq (r : Word) (bs : List Nat) : feed r bs = zeros r bs.length ^^^ feed 0 bs := by
  induction bs generalizing r with
  | nil => exact (BitVec.xor_zero).symm
  | cons b bs ih =>
    have hcons (x : Word) : feed x (b :: bs) = feed (crcByte x b) bs := rfl
    rw [hcons, hcons, ih, ih (crcByte 0 b), crcByte_eq r b, zeros_xor, List.length_cons, zeros_succ, BitVec.xor_assoc]

/-- Bytes after bytes. -/
theorem feed_append (r : Word) (as bs : List Nat) : feed r (as ++ bs) = feed (feed r as) bs := List.foldl_append

@[simp] theorem lineBytes_length (d : LineData) : (lineBytes d).length = 64 := by simp [lineBytes]

/-- The waybill of a line is that of the zero line and the contribution of its bytes. -/
theorem waybill_eq_wbBase_xor (l : Nat) (d : LineData) : waybill l d = wbBase l ^^^ feed 0 (lineBytes d) := by
  rw [waybill, wbBase, feed_eq, lineBytes_length]
  ac_rfl

/-- Reseed moves a waybill to another line index (R183). -/
theorem reseed_waybill (l m : Nat) (d : LineData) : reseed (waybill l d) l m = waybill m d := by
  rw [reseed, waybill_eq_wbBase_xor, waybill_eq_wbBase_xor, zeros_xor, wbBase, wbBase]
  calc
    _ = (zeros (seed l) 64 ^^^ zeros (seed l) 64) ^^^ (zeros (seed m) 64 ^^^ 0xFFFFFFFF#32 ^^^ feed 0 (lineBytes d)) := by ac_rfl
    _ = _ := by rw [BitVec.xor_self, BitVec.zero_xor]

/-- Two segments that follow each other to the end of a line contribute what their concatenation does. -/
theorem part_xor_part (as bs : List Nat) (h : as.length + bs.length = 64) :
    part as 0 ^^^ part bs as.length = feed 0 (as ++ bs) := by
  have hrest : 64 - 0 - as.length = bs.length := by omega
  have hend : 64 - as.length - bs.length = 0 := by omega
  rw [feed_append, feed_eq (feed 0 as), part, part, hend, hrest]
  rfl

/-- Assemble of a line cut in two gives the waybill of the line (R183). -/
theorem assemble_take_drop (l n : Nat) (d : LineData) (hn : n ≤ 64) :
    assemble l [((lineBytes d).take n, 0), ((lineBytes d).drop n, n)] = waybill l d := by
  have htake : ((lineBytes d).take n).length = n := by simp [hn]
  have hparts := part_xor_part ((lineBytes d).take n) ((lineBytes d).drop n) (by simp; omega)
  rw [List.take_append_drop, htake] at hparts
  rw [waybill_eq_wbBase_xor, ← hparts, ← BitVec.xor_assoc]
  rfl

theorem lineByte_lt (d : LineData) (k : Nat) : lineByte d k < 256 := Nat.mod_lt _ (by decide)

/-- Byte k of the number that holds a list of bytes, byte 0 lowest. -/
theorem foldr_shiftRight_mod (bs : List Nat) (k : Nat) :
    ((bs.foldr (fun b a => b % 256 + 256 * a) 0) >>> (8 * k)) % 256 = bs.getD k 0 % 256 := by
  induction bs generalizing k with
  | nil => simp
  | cons b bs ih =>
    rw [List.foldr_cons]
    generalize bs.foldr (fun b a => b % 256 + 256 * a) 0 = v at ih ⊢
    cases k with
    | zero => simp
    | succ k =>
      have hbyte : (b % 256 + 256 * v) >>> 8 = v := by rw [Nat.shiftRight_eq_div_pow]; omega
      rw [Nat.mul_succ, Nat.add_comm (8 * k), Nat.shiftRight_add, hbyte, ih, List.getD_cons_succ]

/-- Byte k of a line made of bytes (R157). -/
theorem lineByte_lineOfBytes (bs : List Nat) {k : Nat} (hk : k < 64) : lineByte (lineOfBytes bs) k = bs.getD k 0 % 256 := by
  rw [← foldr_shiftRight_mod, lineByte, lineOfBytes, BitVec.toNat_ofNat]
  apply Nat.eq_of_testBit_eq
  intro i
  have h256 : 256 = 2 ^ 8 := rfl
  simp only [h256, Nat.testBit_mod_two_pow, Nat.testBit_shiftRight]
  by_cases hi : i < 8
  · have hlt : 8 * k + i < 512 := by omega
    simp [hlt]
  · simp [hi]

/-- Byte k of a merge is the new byte where its byte enable is set (R157). -/
theorem lineByte_mergeBytes (old new : LineData) (be : BitVec 64) {k : Nat} (hk : k < 64) :
    lineByte (mergeBytes old new be) k = if be.getLsbD k then lineByte new k else lineByte old k := by
  have hget : (List.range 64)[k]? = some k := List.getElem?_range hk
  rw [mergeBytes, lineByte_lineOfBytes _ hk, List.getD_eq_getElem?_getD, List.getElem?_map, hget, Option.map_some, Option.getD_some]
  split <;> exact Nat.mod_eq_of_lt (lineByte_lt ..)

/-- The two registers after one more byte of each line, at offset k, differ by what the parts of those bytes add to the difference
before. -/
theorem zeros_crcByte_xor (r s : Word) (a b : Nat) {k : Nat} (hk : k < 64) :
    zeros (crcByte r a ^^^ crcByte s b) (64 - (k + 1)) = zeros (r ^^^ s) (64 - k) ^^^ part [a] k ^^^ part [b] k := by
  have hlen : 64 - k = 64 - (k + 1) + 1 := by omega
  have hzero : crcByte r 0 ^^^ crcByte s 0 = crcByte (r ^^^ s) 0 := (crcByte_xor r s 0 0).symm
  have hpart (c : Nat) : part [c] k = zeros (crcByte 0 c) (64 - (k + 1)) := rfl
  rw [hpart, hpart, hlen, zeros_succ, ← zeros_xor, ← zeros_xor, ← hzero, crcByte_eq r a, crcByte_eq s b]
  congr 1
  ac_rfl

/-- A waybill after replace over the enabled ones of the first n bytes (R157, R183). -/
def replaceEnabled (w : Word) (old new : LineData) (be : BitVec 64) (n : Nat) : Word :=
  (List.range n).foldl (fun w k => if be.getLsbD k then replaceWb w [lineByte old k] [lineByte new k] k else w) w

/-- One more byte: replaced where it is enabled. Either way its old and its merged byte are exchanged, for a byte not enabled is the
same in both lines and its two parts cancel. -/
theorem replaceEnabled_succ (w : Word) (old new : LineData) (be : BitVec 64) {n : Nat} (hn : n < 64) :
    replaceEnabled w old new be (n + 1) =
      replaceEnabled w old new be n ^^^ part [lineByte old n] n ^^^ part [lineByte (mergeBytes old new be) n] n := by
  have hstep : replaceEnabled w old new be (n + 1) = if be.getLsbD n then
      replaceWb (replaceEnabled w old new be n) [lineByte old n] [lineByte new n] n else replaceEnabled w old new be n := by
    rw [replaceEnabled, List.range_succ, List.foldl_append]; rfl
  rw [hstep, lineByte_mergeBytes _ _ _ hn]
  split
  · rfl
  · rw [BitVec.xor_assoc, BitVec.xor_self, BitVec.xor_zero]

/-- The first bytes of a line into an empty register, one more byte. -/
theorem feed_range_succ (d : LineData) (n : Nat) : feed 0 ((List.range (n + 1)).map (lineByte d)) =
    crcByte (feed 0 ((List.range n).map (lineByte d))) (lineByte d n) := by
  rw [List.range_succ, List.map_append, feed_append]; rfl

/-- Replace over the enabled bytes of the first n changes a waybill by the contributions of the old and of the merged line's first n
bytes (R183). -/
theorem replaceEnabled_eq (w : Word) (old new : LineData) (be : BitVec 64) {n : Nat} (hn : n ≤ 64) :
    replaceEnabled w old new be n = w ^^^ zeros (feed 0 ((List.range n).map (lineByte old)) ^^^
      feed 0 ((List.range n).map (lineByte (mergeBytes old new be)))) (64 - n) := by
  induction n with
  | zero => simp [feed, replaceEnabled]
  | succ n ih =>
    rw [replaceEnabled_succ w old new be hn, ih (by omega), feed_range_succ, feed_range_succ, zeros_crcByte_xor _ _ _ _ hn]
    ac_rfl

/-- Replace over all enabled bytes turns the waybill of the old line into that of the merged line (R183). -/
theorem replaceEnabled_waybill (l : Nat) (old new : LineData) (be : BitVec 64) :
    replaceEnabled (waybill l old) old new be 64 = waybill l (mergeBytes old new be) := by
  rw [replaceEnabled_eq _ _ _ _ (Nat.le_refl 64), waybill_eq_wbBase_xor, waybill_eq_wbBase_xor]
  change wbBase l ^^^ feed 0 (lineBytes old) ^^^ (feed 0 (lineBytes old) ^^^ feed 0 (lineBytes (mergeBytes old new be))) = _
  rw [BitVec.xor_assoc, ← BitVec.xor_assoc (feed 0 _), BitVec.xor_self, BitVec.zero_xor]

/-- A merge of a line that is not poisoned. -/
theorem mergeLine_eq (x : Line) (new : LineData) (be : BitVec 64) (hp : x.poison = false) :
    mergeLine x new be = ⟨mergeBytes x.data new be, replaceEnabled x.wb x.data new be 64, false⟩ :=
  if_neg (by simp [hp])

/-- A line that is not poisoned passes its check exactly when it carries its waybill (R184). -/
theorem checks_iff_waybill (x : Line) (l : Nat) (hp : x.poison = false) : x.checks l = true ↔ waybill l x.data = x.wb := by
  simp [Line.checks, hp]

/-- A checked line that is merged is the merged data as it would enter with a waybill made over it. -/
theorem mergeLine_eq_mkLine (l : Nat) (x : Line) (new : LineData) (be : BitVec 64) (hc : x.checks l = true) (hp : x.poison = false) :
    mergeLine x new be = mkLine l (mergeBytes x.data new be) := by
  rw [mergeLine_eq x new be hp, ← (checks_iff_waybill x l hp).mp hc, replaceEnabled_waybill, mkLine]

/-- The zero line enters with the waybill made over its bytes. -/
theorem zeroLine_eq_mkLine (l : Nat) : zeroLine l = mkLine l 0 := by
  have h : waybill l 0 = wbBase l := (checks_iff_waybill (zeroLine l) l rfl).mp (zeroLine_checks l)
  rw [mkLine, h, zeroLine]

/-- Settles O52: each way of forming a waybill by the linearity of the CRC register. -/
theorem waybillsCombine : Obligations.WaybillsCombine := by
  refine ⟨reseed_waybill, assemble_take_drop, ?merge, zeroLine_eq_mkLine⟩
  intro l x new be hc hp
  rw [mergeLine_eq_mkLine l x new be hc hp]
  exact ⟨mkLine_checks .., rfl, fun k hk => lineByte_mergeBytes _ _ _ hk⟩

end Sys2Proof.Proofs
end

section
/-!
Housekeeping of the NAND media: refresh moves, garbage collection and wear levelling, erases and their suspension, the map's checkpoint and
replay, rehearsals and image erases, the endurance governor and the brown-out (R86, R206, R210, R213 to R219, R222, R224).
-/
namespace Sys2Proof.Proofs

open Machine Safety Laws

/-- NF_WL_CTL is one register for all channels: the channel that a read of WL_DELTA names does not matter (R526). -/
theorem fld_wlDelta (s : State) (i : Nat) : s.fld NF_WL_CTL_WL_DELTA i = s.fld NF_WL_CTL_WL_DELTA := by
  have hdims : RegName.dims .NF_WL_CTL = ((1, 0), (1, 0)) := rfl
  have hoff : RegName.offset .NF_WL_CTL i 0 0 = RegName.offset .NF_WL_CTL 0 0 0 := by
    simp only [RegName.offset, hdims, Nat.mul_zero]
  change Field.get _ (Sparse.get _ s.regs (RegName.offset .NF_WL_CTL i 0 0)) = _
  rw [hoff]
  rfl

section Moves

variable {s : State} {n : NfId} {die : Fin 32}

/-- Two deep reads of a good block within one hour move its codewords, while the move is not the third between erases (R213; the third
move is log entry 69). -/
theorem refreshMove_clears {b : Fin 16384} (hpow : s.nandPowered = true)
    (hdeep : 2 ≤ ((s.block n.val die.val b.val).deep.filter fun t => decide (s.timeNs ≤ t + 3600 * 10 ^ 9)).length)
    (hgood : (s.block n.val die.val b.val).status = 0) (hmoves : (s.block n.val die.val b.val).moves + 1 < 3) :
    exec (.refreshMove n die b) s = .next ((s.setBlock n.val die.val b.val { s.block n.val die.val b.val with
      deep := [], moves := (s.block n.val die.val b.val).moves + 1, state := .closed }).clearBlock n.val die.val b.val) := by
  refine congrArg Host.Outcome.next ((if_neg ?_).trans (if_neg (Nat.not_le.mpr hmoves)))
  exact not_or_intro (Nat.not_lt.mpr hdeep) (by simp [hgood, hpow])

/-- The only closed block of a die is collected when it holds a codeword that is not valid (R215; the choice is log entry 69). -/
theorem garbageCollect_single {b : Nat} {x : NandBlock} (hpow : s.nandPowered = true)
    (hclosed : ((s.listedBlocks n.val die.val).filter fun e =>
      s.blockUse n.val die.val e.1 == 0 && e.2.status == 0 && e.2.state == .closed) = [(b, x)])
    (hstale : (s.validOn n.val die.val b).length < s.blockWords) :
    exec (.garbageCollect n die) s = .next (s.clearBlock n.val die.val b) := by
  refine congrArg Host.Outcome.next ((if_neg (by simp [hpow])).trans ?_)
  rw [hclosed]
  exact if_pos hstale

/-- A spread of the counters above WL_DELTA returns the first listed block that carries the lowest counter to the pool (R218). -/
theorem wearLevelMove_first {lo hi d b : Nat} {x : NandBlock} (hsum : s.ecSum n.val = (lo, hi))
    (hspread : s.fld NF_WL_CTL_WL_DELTA n.val < hi - lo) (hpow : s.nandPowered = true)
    (hfirst : (((s.diesOf n.val).flatMap fun d => (s.listedBlocks n.val d).map fun e => (d, e.1, e.2)).find? fun e =>
      s.blockUse n.val e.1 e.2.1 == 0 && e.2.2.status == 0 && e.2.2.ec == lo && (e.2.2.state == .opened || e.2.2.state == .closed)) =
        some (d, b, x)) :
    exec (.wearLevelMove n) s = .next ((s.setBlock n.val d b { x with state := .closed }).clearBlock n.val d b) := by
  change execWearLevelMove n s = _
  simp only [execWearLevelMove, hsum]
  rw [fld_wlDelta] at hspread
  refine congrArg Host.Outcome.next ((if_neg ?_).trans ?_)
  · exact not_or_intro (Nat.not_le.mpr hspread) (by simp [hpow])
  · rw [hfirst]

end Moves

section Erases

variable {s : State} {n : NfId} {die : Fin 32} {b : Fin 16384} {e : NandErase}

/-- An erase that passes returns its block to the pool with its counter advanced; without rated cycles none is worn out (R214, R218; what a
rating of 0 means is log entry 67). -/
theorem nandEraseDone_pass {u : State} (he : s.eraseOf n.val die.val b.val = some e) (hrun : e.suspended = none) (hrated : s.peRated = 0)
    (hu : u = { s with nand := { s.nand with
      erases := s.nand.erases.filter fun (x : NandErase) => ! (x.ch == n.val && x.die == die.val && x.block == b.val) } }) :
    exec (.nandEraseDone n die b true) s = .next ((u.setBlock n.val die.val b.val { u.block n.val die.val b.val with
      ec := min ((u.block n.val die.val b.val).ec + 1) (2 ^ 24 - 1), state := .erased, used := 0, deep := [], moves := 0 }).checkPool
        n.val die.val) := by
  have hurated : u.peRated = 0 := by rw [hu]; exact hrated
  change execNandEraseDone n die b true s = _
  simp only [execNandEraseDone, he, hrun, ← hu, hurated, Option.isSome_none, Bool.false_eq_true, if_false, if_true, bne_self_eq_false,
    Bool.false_and]

/-- With no read queued for a powered die every suspended erase of it resumes (R216, R224). -/
theorem eraseResume_idle (hreads : s.dieReads n.val die.val = false) (hpow : s.nandPowered = true) :
    exec (.eraseResume n die) s = .next ((s.nand.erases.filter fun e => e.ch == n.val && e.die == die.val && e.suspended.isSome).foldl
      (fun s e => s.resumeErase e) s) :=
  congrArg Host.Outcome.next (if_neg (by simp [hreads, hpow]))

/-- An erase suspended for more than one second in total is counted and logged once (R216). -/
theorem eraseStarved_first (he : s.eraseOf n.val die.val b.val = some e) (hfirst : e.starved = false) (hlong : 10 ^ 9 < s.suspendedFor e) :
    exec (.eraseStarved n die b) s = .next (((s.setErase { e with starved := true }).bump NF_ERASE_STAT_STARVED n.val).logLim 0x2007 n.val
      .notice (srcNand n.val) (n.val + 256 * die.val, 1, s.longestMs n.val, 0)
      fun l => { l with w5 := l.w5 + 1, w6 := s.longestMs n.val }) := by
  change execEraseStarved n die b s = _
  rw [execEraseStarved, he]
  exact congrArg Host.Outcome.next (if_neg (by simpa [hfirst] using hlong))

/-- An erase whose suspended time reaches the guard resumes and is not suspended again (R217). -/
theorem eraseGuardExpiry_reached (he : s.eraseOf n.val die.val b.val = some e) (hfirst : e.guarded = false)
    (hguard : s.fld NF_ERASE_CTL_ERASE_GUARD_MS n.val ≠ 0)
    (hlong : s.fld NF_ERASE_CTL_ERASE_GUARD_MS n.val * 10 ^ 6 ≤ s.suspendedFor e) (hpow : s.nandPowered = true) :
    exec (.eraseGuardExpiry n die b) s = .next (s.resumeErase { e with guarded := true }) := by
  change execEraseGuardExpiry n die b s = _
  simp only [execEraseGuardExpiry, he]
  exact congrArg Host.Outcome.next (if_neg (by simpa [hguard, hfirst, hpow] using hlong))

end Erases

section HomeMap

variable {s : State}

/-- A due checkpoint programs the dirty map codewords and makes the twin streams' high-water marks durable (R209, R210, R237). -/
theorem mapCheckpoint_due {u : State} (hdue : 65536 ≤ s.nand.sinceCkpt) (hpow : s.nandPowered = true) (hserving : s.servingNf ≠ [])
    (hu : u = s.countPrograms 0 s.nand.mapDirty.length) :
    exec .mapCheckpoint s = .next { u with
      nand := { u.nand with sinceCkpt := 0, mapDirty := [] }
      twin := { u.twin with
        txDurable := (List.range 16).foldl (fun m st => Sparse.set (fun _ => 1) m st (u.txSeq st)) u.twin.txDurable } } := by
  subst hu
  exact congrArg Host.Outcome.next (if_neg (by simp [Nat.not_lt.mpr hdue, hpow, hserving]))

/-- A BOOT without a clean record replays the codewords since the last checkpoint (R210; when a replay runs is log entry 69). -/
theorem mapReplay_unclean {us : Nat} (hm : s.mc.mode = .boot) (hc : s.per.clean = none) :
    exec (.mapReplay us) s = .next (s.log 0x200B .info (srcNand 0) s.nand.sinceCkpt us) :=
  congrArg Host.Outcome.next (if_neg (by simp [hm, hc]))

end HomeMap

section SaveRegion

variable {s : State}

/-- A rehearsal starts on a free image outside SAVE (R86). -/
theorem saveRehearsal_starts (hidle : s.per.rehRunning = false) (hpow : s.nandPowered = true) (hm : s.mc.mode ≠ .save)
    (hfree : s.imageFree false = true) :
    exec .saveRehearsal s = .next { s with per := { s.per with rehRunning := true, rehChannels := s.servingNf.length } } :=
  congrArg Host.Outcome.next (if_neg (by simp [hidle, hpow, hm, hfree]))

/-- A rehearsal that ends in SAVE enters its measurement and leaves the images alone (R86). -/
theorem saveRehearsalDone_save {w : BitVec 24} (hrun : s.per.rehRunning = true) (hm : s.mc.mode = .save) :
    exec (.saveRehearsalDone w) s =
      .next { s.addRehearsal w.toNat with per := { (s.addRehearsal w.toNat).per with rehRunning := false } } := by
  have hsave : (s.addRehearsal w.toNat).mc.mode = .save := hm
  refine congrArg Host.Outcome.next ((if_neg (by simp [hrun])).trans ?_)
  refine congrArg (fun t : State => { t with per := { t.per with rehRunning := false } }) (if_neg ?_)
  exact fun h => h.1 hsave

/-- The erase of image A ends: the image is free and its erases are counted (R222). -/
theorem saveImageErase_erasing (hst : (s.image false).st = .erasing) (hpow : s.nandPowered = true) :
    exec (.saveImageErase false) s = .next { s.setImage false { s.image false with st := .free } with
      nand := { (s.setImage false { s.image false with st := .free }).nand with
        imageErases := (s.nand.imageErases.1 + 1, s.nand.imageErases.2) } } :=
  congrArg Host.Outcome.next (if_neg (by simp [hst, hpow]))

end SaveRegion

section Governor

variable {s : State}

/-- A bucket in debt that has not been reported yet is logged (R219). -/
theorem enduranceOver_first {u : State} (hu : u = s.takeTokens 0) (hdebt : u.debt ≠ 0) (hfirst : u.nand.overAt = none) :
    exec .enduranceOver s = .next (({ u with nand := { u.nand with overAt := some u.timeNs } }).log 0x200A .notice (srcNand 0)
      (u.debt / 2 ^ 18) u.dayHome.2) := by
  subst hu
  exact congrArg Host.Outcome.next (if_neg (by simp [hdebt, hfirst]))

end Governor

section Brownout

variable {s : State}

/-- The first rail that falls marks every SERVING channel and is logged (R224; the second rail is log entry 68). -/
theorem nandBrownout_first {r : Fin 2} {k : Nat} {u : State} (hnone : s.nand.brownout = 0)
    (hu : u = { s with nand := { s.nand with brownout := BitVec.twoPow 2 r.val } }) :
    exec (.nandBrownout r k) s =
      .next ((u.servingNf.foldl (fun s n => s.nfErr n 7) u).log 0x2008 .error (srcNand 0) (r.val + 1) k) := by
  have hpow : s.nandPowered = true := beq_iff_eq.mpr hnone
  have hrail : s.nand.brownout.getLsbD r.val = false := by simp [hnone]
  have hrails : s.nand.brownout ||| BitVec.twoPow 2 r.val = BitVec.twoPow 2 r.val := by simp [hnone]
  change execNandBrownout r k s = _
  simp only [execNandBrownout, hrail, hrails, hpow, ← hu, Bool.false_eq_true, if_false, if_true]

end Brownout

/-- Settles O23: each clause is one of the lemmas above; the end of a brown-out has no condition and is the model's own equation. -/
theorem nandHousekeeping : Obligations.NandHousekeeping := by
  refine ⟨?refresh, ?collect, ?erased, ?resume, ?starved, ?guard, ?wear, ?checkpoint, ?replay, ?rehearsal, ?rehearsed, ?imageErase, ?debt,
    ?brownout, ?brownoutEnd⟩
  case refresh =>
    intro n die b t0 t1 s hpow hdeep h0 h1 hgood hmoves
    have hrecent : 2 ≤ ((s.block n.val die.val b.val).deep.filter fun t => decide (s.timeNs ≤ t + 3600 * 10 ^ 9)).length := by
      simp only [hdeep, List.filter_cons, h0, h1, decide_true, if_true, List.length_cons, Nat.le_add_left]
    have hclears := refreshMove_clears hpow hrecent hgood (by simp [hmoves])
    rwa [hmoves] at hclears
  case collect => exact fun _ _ _ _ _ hpow hclosed hstale => garbageCollect_single hpow hclosed hstale
  case erased => exact fun _ _ _ _ _ _ he hrun hrated hu => nandEraseDone_pass he hrun hrated hu
  case resume => exact fun _ _ _ hreads hpow => eraseResume_idle hreads hpow
  case starved => exact fun _ _ _ _ _ he hfirst hlong => ⟨_, rfl, eraseStarved_first he hfirst hlong⟩
  case guard => exact fun _ _ _ _ _ he hfirst hguard hlong hpow => eraseGuardExpiry_reached he hfirst hguard hlong hpow
  case wear =>
    intro n lo hi d b x rest s hsum hspread hpow hdies hlist huse hgood hec hst
    refine wearLevelMove_first hsum hspread hpow ?_
    rw [hdies, List.flatMap_singleton, hlist, List.map_cons]
    exact List.find?_cons_of_pos (by simp [huse, hgood, hec, hst])
  case checkpoint => exact fun _ _ hdue hpow hserving hu => mapCheckpoint_due hdue hpow hserving hu
  case replay => exact fun _ _ hm hc => mapReplay_unclean hm hc
  case rehearsal => exact fun s hidle hpow hm hfree => saveRehearsal_starts hidle hpow (by simp [hm]) hfree
  case rehearsed => exact fun _ _ _ hrun hu hm => hu ▸ saveRehearsalDone_save hrun hm
  case imageErase => exact fun _ _ hst hpow hu => hu ▸ saveImageErase_erasing hst hpow
  case debt => exact fun _ _ hu hdebt hfirst => enduranceOver_first hu hdebt hfirst
  case brownout => exact fun _ _ _ _ hnone _ hu => nandBrownout_first hnone hu
  case brownoutEnd => exact fun _ _ => rfl

end Sys2Proof.Proofs
end

section
/-!
The receiving side of the twin link: packets that pass their tag on a valid path, data, responses, acknowledgements, NAK and credit
(R185, R234, R239 to R244, R251).
-/
namespace Sys2Proof.Proofs

open Machine Safety Laws

section Window

variable {s t u : State} {h : BttHdr} {st : Nat}

/-- A taken packet of a new message is handed to its meaning past the window's checks (R242). -/
theorem rxPacket_new (path : Nat) (body : State → State) (hp : bttNew s h st u) :
    (s.rxPacket h fun s => s.activity.rxWindow path st h.seq.toNat body) = body u := by
  obtain ⟨t, ht, hwin⟩ := rxWindow_new hp
  rw [rxPacket_taken _ ht, hwin]

/-- A duplicate of a message that has completed is counted and acknowledged again (R242). -/
theorem rxPacket_dup (path : Nat) (body : State → State) (ht : bttTaken s h t) (hdup : t.activity.rxDup st h.seq.toNat = true) :
    (s.rxPacket h fun s => s.activity.rxWindow path st h.seq.toNat body) = (t.activity.bump BTT_DUP_CNT_COUNT).bttAck path st :=
  (rxPacket_taken _ ht).trans (if_pos hdup)

/-- A message beyond the window is counted and dropped (R242). -/
theorem rxPacket_beyond (path : Nat) (body : State → State) (ht : bttTaken s h t) (hnew : t.activity.rxDup st h.seq.toNat = false)
    (hfar : t.activity.rxBase st + 65536 ≤ h.seq.toNat) :
    (s.rxPacket h fun s => s.activity.rxWindow path st h.seq.toNat body) = t.activity.bump BTT_WINDOW_DROP_CNT_COUNT :=
  (rxPacket_taken _ ht).trans ((if_neg (by simp [hnew])).trans (if_pos hfar))

/-- A packet whose tag fails is counted, logged and answered with a NAK whatever it carries (R236, R244). -/
theorem rxPacket_badTag (body : State → State) (hopen : s.bttOpen = true) (hpath : s.flag BTT_PATH_CFG_VALID h.path.val = true)
    (htag : h.tagOk = false) :
    s.rxPacket h body = ((s.bump BTT_TAG_FAIL_CNT_COUNT).logLim 0x3007 h.path.val .notice srcTwin (h.path.val, 1, 0, 0)).bttSend
      h.path.val 3 [h.stream.val, h.seq.toNat] :=
  (if_neg (by simp [hopen, hpath])).trans (if_pos (by simp [htag]))

end Window

section Packets

variable {s t u v : State} {p : BttPkt} {m : InMsg}

/-- The new lines of a DATA packet are stored at once as writes of the copy region; its unit of credit is returned first (R228, R239; the
moment of that return is log entry 71, the admission queue of the writes log entry 73). -/
theorem bttData_places {i : Nat} {r : Region} {new : List (Nat × Line)} (hp : bttNew s p.hdr p.stream.val u)
    (hv : v = { u with twin := { u.twin with lastData := u.timeNs } }) (hm : v.inMsg p = some m)
    (hr : v.regionOf (64 * p.line.toNat) = some (i, r)) (htotal : p.total ≠ 0) (hcopy : v.isCopy i = true)
    (hkeys : v.keysLoaded i r = true) (hitems : new = (p.items.filter fun e => ! m.mask.contains e.1 && decide (e.1 < m.total)))
    (hnew : new ≠ []) :
    exec (.bttData p) s = .next (let w := v.returnUnit p.path.val (p.stream.val / 4) 1
      let x := ({ w with twin := { w.twin with
        rxPend := w.twin.rxPend ++ [(p.stream.val, p.seq.toNat, new.length)] } } : State).takeLines p m (new.map Prod.fst)
      new.foldl (fun y e => y.storeWrite (y.newWrite (x.fld BTT_PATH_CFG_ETH_PORT p.path.val) (p.line.toNat + e.1) e.2.data
        (p.be.getD fullBe) e.2.poison (.btt p.stream.val p.seq.toNat (p.line.toNat + e.1))) i r) x) := by
  obtain ⟨n, hn⟩ := Nat.exists_eq_succ_of_ne_zero (mt (BitVec.eq_of_toNat_eq (y := 0)) htotal : p.total.toNat ≠ 0)
  refine congrArg Host.Outcome.next ((rxPacket_new _ _ hp).trans ?_)
  simp only [← hv, hm, hr, hn, hcopy, hkeys, ← hitems, hnew, Bool.not_true, Bool.false_eq_true, if_false]

/-- The first line of a READ_RESP message serves the one reader that waits for it (R167, R251). -/
theorem bttReadResp_serves {x : Line} {rd : TwinRead} (hp : bttNew s p.hdr p.stream.val u) (hm : u.inMsg p = some m)
    (hitems : p.items = [(0, x)]) (hmask : m.mask = []) (htotal : 0 < m.total)
    (hv : v = (u.returnUnit p.path.val 3 1).takeLines p m [0]) (hlate : v.twin.lateReads = [])
    (hreader : (v.twin.reads.filter fun t => t.line == p.line.toNat) = [rd]) :
    exec (.bttReadResp p) s = .next (v.twinServed rd x) := by
  have hkeep : ({ v with twin := { v.twin with lateReads := [] } } : State) = v := by rw [← hlate]
  refine congrArg Host.Outcome.next ((rxPacket_new _ _ hp).trans ?_)
  simp [hm, hitems, hmask, htotal, ← hv, hlate, hkeep, hreader]

end Packets

section Headers

variable {s t u v : State} {h : BttHdr}

/-- A READ_REQ for one line of a copy region with its keys loaded is answered in the step that takes it (R251, log entry 73). -/
theorem bttReadReq_answers {line : BitVec 42} {i : Nat} {r : Region} (hp : bttNew s h h.stream.val u)
    (hv : v = u.rxComplete h.stream.val h.seq.toNat) (hr : v.regionOf (64 * line.toNat) = some (i, r)) (hcopy : v.isCopy i = true)
    (hkeys : v.keysLoaded i r = true) :
    exec (.bttReadReq h line 1) s = .next ((v.queueMsg (streamOf 3 line.toNat) .readResp line.toNat 1 [v.latest line.toNat] none [] false
      none []).bttAck h.path.val h.stream.val) := by
  refine congrArg Host.Outcome.next ((rxPacket_new _ _ hp).trans ?_)
  simp [← hv, hr, hcopy, hkeys]

/-- A NAK brings the retransmission of the outstanding message it names forward (R244; that it waits for credit for all its packets is log
entry 72). -/
theorem bttNak_resends {m : OutMsg} (ht : bttTaken s h t) (hm : t.outMsg h.stream.val h.seq.toNat = some m) :
    exec (.bttNak h) s = .next (t.resend m) := by
  refine congrArg Host.Outcome.next ((rxPacket_taken _ ht).trans ?_)
  simp only [hm]

/-- An ACK that covers the one CTRL message on the link frees it (R243, R244). -/
theorem bttAck_frees {m : OutMsg} (ht : bttTaken s h t) (hmsgs : t.twin.msgs = [m]) (hst : m.stream = h.stream.val) (hkind : m.kind = .ctrl)
    (hseq : m.seq = h.seq.toNat) (hcopies : m.copies = []) (hrange : m.range = none) (habandoned : t.twin.abandoned = [])
    (hadvances : t.twin.advances = []) (hfences : t.per.fences = []) :
    exec (.bttAck h 0 0 0) s = .next (({ t with twin := { t.twin with msgs := [] } }).endResync.startResync) := by
  have hcovers : ackCovers h.seq.toNat 0#32 h.seq.toNat = true := by simp [ackCovers]
  have hper : { t.per with fences := [] } = t.per := by rw [← hfences]
  refine congrArg Host.Outcome.next ((rxPacket_taken _ ht).trans ?_)
  simp [hmsgs, hst, hkind, hseq, hcopies, hrange, habandoned, hadvances, hfences, hcovers, hper]

end Headers

section Credit

/-- A write of one key of a sparse map leaves every other key alone, in canonical form or not. -/
theorem get_set_of_ne {α : Type} [DecidableEq α] {d : Nat → α} (l : List (Nat × α)) {k j : Nat} (v : α) (hj : j ≠ k) :
    Sparse.get d (Sparse.set d l k v) j = Sparse.get d l j := by
  have hk : k ≠ j := hj.symm
  induction l with
  | nil =>
    unfold Sparse.set
    split
    · rfl
    · exact if_neg hk
  | cons e l ih =>
    unfold Sparse.set
    split
    · split
      · rfl
      · exact if_neg hk
    split
    · next heq =>
      subst heq
      split
      · exact (if_neg hk).symm
      · exact (if_neg hk).trans (if_neg hk).symm
    · unfold Sparse.get
      rw [ih]

/-- The send limit of a path and class set to a value (R241). -/
def withLimit (s : State) (k v : Nat) : State :=
  { s with twin := { s.twin with txLimit := Sparse.set (fun _ => 0) s.twin.txLimit k v } }

/-- The send limit of a path and class in force. -/
def limitAt (s : State) (k : Nat) : Nat := Sparse.get (fun _ => 0) s.twin.txLimit k

theorem limitAt_withLimit_of_ne (s : State) {k j : Nat} (v : Nat) (hj : j ≠ k) : limitAt (withLimit s k v) j = limitAt s j :=
  get_set_of_ne s.twin.txLimit v hj

/-- One limit of a CREDIT packet: it takes effect where it is ahead of the one in force (R241). -/
def takeLimit (path : Nat) (s : State) (e : Nat × Nat) : State :=
  let k := 4 * path + e.2
  let up := (e.1 + 2 ^ 16 - limitAt s k % 2 ^ 16) % 2 ^ 16
  if up < 2 ^ 15 then withLimit s k (limitAt s k + up) else s

/-- From 0 every limit below half the number range is ahead. -/
theorem takeLimit_of_zero {path : Nat} {s : State} {n k : Nat} (h0 : limitAt s (4 * path + k) = 0) (hn : n < 2 ^ 15) :
    takeLimit path s (n, k) = withLimit s (4 * path + k) n := by
  have hup : (n + 2 ^ 16 - 0 % 2 ^ 16) % 2 ^ 16 = n := by omega
  simp only [takeLimit, h0, hup, Nat.zero_add]
  exact if_pos hn

/-- A CREDIT packet takes its four limits in turn. -/
theorem bttCredit_taken {s t : State} {h : BttHdr} {l0 l1 l2 l3 : BitVec 16} (ht : bttTaken s h t) :
    exec (.bttCredit h l0 l1 l2 l3) s = .next (takeLimit h.path.val (takeLimit h.path.val (takeLimit h.path.val
      (takeLimit h.path.val t (l0.toNat, 0)) (l1.toNat, 1)) (l2.toNat, 2)) (l3.toNat, 3)) := by
  have hfold : exec (.bttCredit h l0 l1 l2 l3) s =
      .next (s.rxPacket h ([l0.toNat, l1.toNat, l2.toNat, l3.toNat].zipIdx.foldl (takeLimit h.path.val))) := rfl
  have hlimits : [l0.toNat, l1.toNat, l2.toNat, l3.toNat].zipIdx = [(l0.toNat, 0), (l1.toNat, 1), (l2.toNat, 2), (l3.toNat, 3)] := rfl
  rw [hfold, rxPacket_taken _ ht, hlimits, List.foldl_cons, List.foldl_cons, List.foldl_cons, List.foldl_cons, List.foldl_nil]

/-- The first CREDIT of a path, for class 0 alone, sets its limit and leaves the others 0 (R241). -/
theorem bttCredit_first {s t : State} {h : BttHdr} {n : BitVec 16} (ht : bttTaken s h t) (hn : n.toNat < 2 ^ 15)
    (hzero : ∀ k < 4, limitAt t (4 * h.path.val + k) = 0) :
    exec (.bttCredit h n 0 0 0) s = .next (withLimit (withLimit (withLimit (withLimit t (4 * h.path.val) n.toNat) (4 * h.path.val + 1) 0)
      (4 * h.path.val + 2) 0) (4 * h.path.val + 3) 0) := by
  have h0 : (0 : BitVec 16).toNat = 0 := rfl
  rw [bttCredit_taken ht, h0, takeLimit_of_zero (hzero 0 (by omega)) hn, takeLimit_of_zero (k := 1) ?class1 (by omega),
    takeLimit_of_zero (k := 2) ?class2 (by omega), takeLimit_of_zero (k := 3) ?class3 (by omega), Nat.add_zero]
  all_goals simp [limitAt_withLimit_of_ne, hzero]

end Credit

/-- Settles O38: each clause is one of the lemmas above. The clauses state the model's choice where they rest on the assumption log: when
credit returns (entry 71), what is sent again (entry 72), how data is admitted and a READ_REQ answered (entry 73). -/
theorem twinPackets : Obligations.TwinPackets := by
  refine ⟨?data, ?dup, ?beyond, ?badTag, ?keepalive, ?nak, ?credit, ?ack, ?readReq, ?readResp, ?timeout⟩
  case data =>
    rintro p _ new m i r s u v hp rfl hv hm hr htotal hcopy hkeys hitems hnew
    exact bttData_places hp hv hm hr htotal hcopy hkeys hitems hnew
  case dup =>
    intro p s t ht hdup
    exact ⟨congrArg Host.Outcome.next (rxPacket_dup _ _ ht hdup), congrArg Host.Outcome.next (rxPacket_dup _ _ ht hdup)⟩
  case beyond => exact fun _ _ _ ht hnew hfar => congrArg Host.Outcome.next (rxPacket_beyond _ _ ht hnew hfar)
  case badTag => exact fun _ _ hopen hpath htag => congrArg Host.Outcome.next (rxPacket_badTag _ hopen hpath htag)
  case keepalive => exact fun _ _ _ ht => congrArg Host.Outcome.next (rxPacket_taken _ ht)
  case nak => exact fun _ _ _ _ ht hm => bttNak_resends ht hm
  case credit =>
    rintro h n s t _ ht rfl hn hzero
    exact bttCredit_first ht hn hzero
  case ack =>
    exact fun _ _ _ _ ht hmsgs hst hkind hseq hcopies hrange habandoned hadvances hfences =>
      bttAck_frees ht hmsgs hst hkind hseq hcopies hrange habandoned hadvances hfences
  case readReq => exact fun _ _ _ _ _ _ _ hp hv hr hcopy hkeys => bttReadReq_answers hp hv hr hcopy hkeys
  case readResp =>
    exact fun _ _ _ _ _ _ _ hp hm hitems hmask htotal hv hlate hreader =>
      bttReadResp_serves hp hm hitems hmask htotal hv hlate hreader
  case timeout =>
    intro l rd s hreader
    change execTwinReadTimeout l s = _
    simp only [execTwinReadTimeout, hreader, List.foldl_cons, List.foldl_nil]

end Sys2Proof.Proofs
end

section
/-!
Control messages of the twin link: the copy commands, HELLO and the window advance, and the exchange of roles by promotion (R228, R233,
R249, R256, R540).
-/
namespace Sys2Proof.Proofs

open Machine Safety Laws

section Copies

variable {s v : State} {h : BttHdr} {i : BitVec 12}

/-- COPY_CREATE and COPY_MODIFY for an index without a copy region create it (R228). -/
theorem copyCommands_create (b z : BitVec 27) (key : BitVec 12) (hp : ctrlTaken s h v) (hnone : v.copyOf i.toNat = none) :
    exec (.copyCreate h b z key i) s = .next ((v.createCopy b.toNat z.toNat key.toNat i.toNat).bttAck h.path.val 12) ∧
    exec (.copyModify h b z key i) s = .next ((v.createCopy b.toNat z.toNat key.toNat i.toNat).bttAck h.path.val 12) := by
  constructor <;>
  · refine congrArg Host.Outcome.next ((rxCtrl_taken _ hp).trans ?_)
    simp only [hnone]

/-- COPY_CREATE and COPY_MODIFY for an index with a copy region modify it, COPY_DESTROY destroys it (R228). -/
theorem copyCommands_change (b z : BitVec 27) (key : BitVec 12) {e : Nat × Region} (hp : ctrlTaken s h v)
    (hsome : v.copyOf i.toNat = some e) :
    exec (.copyCreate h b z key i) s = .next ((v.modifyCopy e.1 e.2 z.toNat key.toNat i.toNat).bttAck h.path.val 12) ∧
    exec (.copyModify h b z key i) s = .next ((v.modifyCopy e.1 e.2 z.toNat key.toNat i.toNat).bttAck h.path.val 12) ∧
    exec (.copyDestroy h i) s = .next ((v.destroyCopy e.1 e.2).bttAck h.path.val 12) := by
  refine ⟨?_, ?_, ?_⟩ <;>
  · refine congrArg Host.Outcome.next ((rxCtrl_taken _ hp).trans ?_)
    simp only [hsome]

/-- COPY_MISSING for an address of a region is logged, and the region's copy is asked for again (R228). -/
theorem copyMissing_fails {a : BitVec 48} {e : Nat × Region} (hp : ctrlTaken s h v) (hr : v.regionOf a.toNat = some e) :
    exec (.copyMissing h a) s = .next (((v.log 0x3009 .error srcTwin e.1 (a.toNat % 2 ^ 32) (a.toNat / 2 ^ 32)).copyFails e.1).bttAck
      h.path.val 12) := by
  refine congrArg Host.Outcome.next ((rxCtrl_taken _ hp).trans ?_)
  simp only [hr]

/-- A base above the window's moves the window, drops incomplete messages below it and is acknowledged on its stream (R249). -/
theorem windowAdvance_moves {st : Fin 16} {b : BitVec 64} (hp : ctrlTaken s h v) (hb : v.rxBase st.val < b.toNat) :
    exec (.windowAdvance h st b) s = .next ((({ v with twin := { v.twin with
        rxBase := Sparse.set (fun _ => 1) v.twin.rxBase st.val b.toNat
        rxDone := v.twin.rxDone.filter fun x => x.1 != st.val || decide (b.toNat ≤ x.2)
        inMsgs := v.twin.inMsgs.filter fun m => ! (m.stream == st.val && decide (m.seq < b.toNat)) } }).bttAck h.path.val st.val).bttAck
      h.path.val 12) :=
  congrArg Host.Outcome.next ((rxCtrl_taken _ hp).trans (congrArg (State.bttAck · h.path.val 12) (if_neg (Nat.not_le.mpr hb))))

end Copies

section Hello

variable {s t u v w : State} {h : BttHdr} {m : HelloMsg}

/-- The last HELLO of a series with a matching level brings an ABSENT link UP, and the copies are reconciled with the entries (R228, R233,
R540); its number on stream 12 is taken first (log entry 71). -/
theorem hello_linkUp (ht : bttTaken s h t) (hu : u = t.takeBases m.bases)
    (hw : w = if u.rxDup 12 h.seq.toNat then u else u.rxComplete 12 h.seq.toNat)
    (hv : v = { w with twin := { w.twin with peerLevel := m.level, helloRx := [] } }) (hfirst : w.twin.helloRx = [])
    (hlevel : levelsMeet t.bttLevel m.level.toNat = true) (hlast : m.more = false) (hlink : v.twin.link = .absent) :
    exec (.hello h m) s = .next ((v.sendHello.linkUp 1).reconcile m.entries) := by
  have hwlink : w.twin.link = .absent := (congrArg (·.twin.link) hv).symm.trans hlink
  rw [hv]
  refine congrArg Host.Outcome.next ((rxPacket_taken _ ht).trans ?_)
  simp only [← hu, ← hw, hlevel, hlast, hwlink, hfirst, Bool.not_true, Bool.false_eq_true, if_false, List.nil_append]

/-- A HELLO whose level does not match refuses an ABSENT link (R233, R540). -/
theorem hello_refused (ht : bttTaken s h t) (hu : u = t.takeBases m.bases)
    (hw : w = if u.rxDup 12 h.seq.toNat then u else u.rxComplete 12 h.seq.toNat)
    (hv : v = { w with twin := { w.twin with peerLevel := m.level, helloRx := [] } })
    (hlevel : levelsMeet t.bttLevel m.level.toNat = false) (hlink : v.twin.link = .absent) :
    exec (.hello h m) s = .next ((v.setTwinState .refused 5).log 0x300A .error srcTwin t.bttLevel m.level.toNat) := by
  have hwlink : w.twin.link = .absent := (congrArg (·.twin.link) hv).symm.trans hlink
  rw [hv]
  refine congrArg Host.Outcome.next ((rxPacket_taken _ ht).trans ?_)
  simp only [← hu, ← hw, hlevel, hwlink, Bool.not_false, if_true]

end Hello

section PromoteTwin

variable {s t : State} {d : Desc} {i : Nat} {r : Region}

/-- Without the partner the one selected copy becomes an ordinary region (R256). -/
theorem promoteTwin_unplanned (hd : descRuns s d 2 t) (hplan : d.bits 3 8 8 ≠ 1) (hdown : t.twinUp = false)
    (hsel : (t.rgn.table.filter fun e => t.isCopy e.1 && (d.selector.isNone || d.selector == some e.1)) = [(i, r)])
    (hset : t.setFits (d.bits 3 7 0) r = true) (hfree : t.reserved r.base.toNat r.size.toNat = false) :
    exec (.promoteTwin d) s = .next ((t.promoteInfo i false).startRgnOp .promote i r.base.toNat r.size.toNat
      ⟨[(i, { r with ownerSet := BitVec.ofNat 8 (d.bits 3 7 0) })], [], []⟩ d.src t.sinceData) := by
  refine congrArg Host.Outcome.next ((take_run false _ hd).trans ?_)
  simp [hsel, hset, hplan, hdown, hfree]

/-- A planned promotion of the one selected copy asks its primary (R256). -/
theorem promoteTwin_planned (hd : descRuns s d 2 t) (hplan : d.bits 3 8 8 = 1) (hup : t.twinUp = true)
    (hsel : (t.rgn.table.filter fun e => t.isCopy e.1 && (d.selector.isNone || d.selector == some e.1)) = [(i, r)])
    (hset : t.setFits (d.bits 3 7 0) r = true) (hfree : t.reserved r.base.toNat r.size.toNat = false) :
    exec (.promoteTwin d) s = .next (({ t with twin := { t.twin with
      promotes := t.twin.promotes ++ [(⟨i, d.bits 3 7 0, d.src⟩ : Promote)] } }).queueCtrl [8, (t.copyInfo i).primary, i]) := by
  refine congrArg Host.Outcome.next ((take_run false _ hd).trans ?_)
  simp [hsel, hset, hplan, hup, hfree]

end PromoteTwin

section Primary

variable {s v : State} {h : BttHdr} {i : BitVec 12}

/-- The primary of a mirrored region without owners starts a mirror fence over it and notes the swap to follow (R256). -/
theorem promoteReq_accepted {r : Region} {u : State} (j : BitVec 12) (hp : ctrlTaken s h v) (hr : v.region i.toNat = r)
    (hvalid : r.valid = true) (hmirror : r.mirror ≠ .none) (howner : r.ownerSet = 0)
    (hfree : v.reserved r.base.toNat r.size.toNat = false) (hu : u = v.startMirrorFence (some i.toNat) .internal) :
    exec (.promoteReq h i j) s = .next ((let w := u.setCopyInfo i.toNat { u.copyInfo i.toNat with primary := j.toNat }
      { w with twin := { w.twin with demotes := w.twin.demotes ++ [(v.nextFence, i.toNat)] } }).bttAck h.path.val 12) := by
  refine congrArg Host.Outcome.next ((rxCtrl_taken _ hp).trans (congrArg (State.bttAck · h.path.val 12) ?_))
  simp only [hr, ← hu]
  exact if_neg (by simp [hvalid, hmirror, howner, hfree])

/-- A refused promotion ends its command with CONFLICT (R256). -/
theorem promoteAck_refused {p : Promote} (mi : Fin 3) (hp : ctrlTaken s h v)
    (hfind : (v.twin.promotes.find? fun p => (v.copyInfo p.region).primary == i.toNat) = some p) :
    exec (.promoteAck h i false mi) s = .next ((({ v with twin := { v.twin with
      promotes := v.twin.promotes.filter fun x => x.src != p.src } }).complete p.src .conflict).bttAck h.path.val 12) := by
  refine congrArg Host.Outcome.next ((rxCtrl_taken _ hp).trans ?_)
  simp only [hfind, Bool.not_false, if_true]

/-- The acceptance of the one promotion in progress swaps the roles at one commit that completes its command (R256; the list swaps is log
entry 74). -/
theorem promoteAck_accepted {p : Promote} {u : State} (mi : Fin 3) (hp : ctrlTaken s h v) (hone : v.twin.promotes = [p])
    (hprimary : (v.copyInfo p.region).primary = i.toNat)
    (hu : u = { v with twin := { v.twin with promotes := [], swaps := v.twin.swaps ++ [p.region] } }) :
    exec (.promoteAck h i true mi) s = .next (((u.promoteInfo p.region true).startRgnOp .promote p.region
      (v.region p.region).base.toNat (v.region p.region).size.toNat ⟨[(p.region, { v.region p.region with
        ownerSet := BitVec.ofNat 8 p.set, mirror := (mirrorOf mi.val).getD .none })], [], []⟩ p.src u.sinceData).bttAck h.path.val 12) := by
  refine congrArg Host.Outcome.next ((rxCtrl_taken _ hp).trans ?_)
  simp [hone, hprimary, ← hu]

end Primary

/-- Settles O40: each clause is one of the lemmas above. The clauses state the model's choice where they rest on the assumption log: the
layout of CTRL messages and the number a HELLO takes (entry 71), COPY_MISSING (entry 73), the swap of roles (entry 74). -/
theorem twinControl : Obligations.TwinControl := by
  refine ⟨?create, ?change, ?refused, ?missing, ?helloUp, ?helloRefused, ?advance, ?unplanned, ?planned, ?request, ?ackRefused,
    ?ackAccepted⟩
  case create => exact fun _ b z key _ _ _ hp hnone => copyCommands_create b z key hp hnone
  case change => exact fun _ b z key _ _ _ _ hp hsome => copyCommands_change b z key hp hsome
  case refused => exact fun _ _ _ _ _ hp => congrArg Host.Outcome.next (rxCtrl_taken _ hp)
  case missing => exact fun _ _ _ _ _ hp hr => copyMissing_fails hp hr
  case helloUp =>
    exact fun _ _ _ _ _ _ ht hu hv _ _ hfirst hlevel hlast hlink => hello_linkUp ht hu rfl hv hfirst hlevel hlast hlink
  case helloRefused => exact fun _ _ _ _ _ _ ht hu hv hlevel hlink => hello_refused ht hu rfl hv hlevel hlink
  case advance => exact fun _ _ _ _ _ hp hb => windowAdvance_moves hp hb
  case unplanned =>
    intro d i r s t u hd hplan hdown hsel hset hfree hu
    rw [hu]
    exact promoteTwin_unplanned hd hplan hdown hsel hset hfree
  case planned => exact fun _ _ _ _ _ hd hplan hup hsel hset hfree => promoteTwin_planned hd hplan hup hsel hset hfree
  case request =>
    intro h i j r s v u hp hr hvalid hmirror howner hfree hu
    exact promoteReq_accepted j hp hr hvalid hmirror howner hfree hu
  case ackRefused => exact fun _ _ mi _ _ _ hp hfind => promoteAck_refused mi hp hfind
  case ackAccepted => exact fun _ _ mi _ _ _ _ hp hone hprimary hu => promoteAck_accepted mi hp hone hprimary hu

end Sys2Proof.Proofs
end

section
/-!
Requests that only ask (R267, R273, R284, R479, R481, R484, R486, R488): what they send, and that the rest of the state stays.
-/
namespace Sys2Proof.Proofs

open Machine Safety Laws

/-- `t` differs from `s` at most in what the controller has sent and in the requests it holds back. -/
def OnlySends (s t : State) : Prop := t = { s with outs := t.outs, buffered := t.buffered }

section Queries

variable {s : State}

theorem onlySends_refl (s : State) : OnlySends s s := rfl

theorem onlySends_emit (s : State) (o : Out) : OnlySends s (s.emit o) := rfl

theorem onlySends_notReady (q : ReqFrom) : OnlySends s (s.notReady q) := by
  cases q <;> rfl

/-- A request does its work at once, is lost, is turned away or waits in a buffer (R377, R384, R480). -/
theorem onlySends_request {q : ReqFrom} {c : Instr} {k : State → State} (hk : OnlySends s (k s)) : OnlySends s (s.request q c k) := by
  unfold State.request
  split
  case isTrue => exact hk
  split
  case isTrue => exact onlySends_refl s
  split
  case isTrue => exact onlySends_notReady q
  case isFalse => rfl

theorem onlySends_mailbox {p : PortId} {ld : Fin 20} {op : Nat} {set : MboxSet} {c : Instr} {k : State → State}
    (hk : OnlySends s (k s)) : OnlySends s (s.mailbox p ld op set c k) := by
  unfold State.mailbox
  split
  case isTrue => exact onlySends_refl s
  refine onlySends_request ?_
  split
  case isTrue => exact hk
  case isFalse => exact onlySends_emit s _

theorem onlySends_dynamic {p : PortId} {ld : Fin 20} {op : Nat} {k : State → State} (hk : OnlySends s (k s)) :
    OnlySends s (s.dynamic p ld op k) := by
  unfold State.dynamic
  split
  case isTrue => exact hk
  case isFalse => exact onlySends_emit s _

/-- The command of a fabric manager gets the function that answers it. -/
theorem onlySends_fabric {p : PortId} {l : LinkId} {op : Nat} {c : Instr} {k : State → (Nat → List Nat → State → State) → State}
    (hk : OnlySends s (k s fun rc ws s => s.emit (.mailbox p.val (16 + l.val) op rc ws))) : OnlySends s (s.fabric p l op c k) := by
  unfold State.fabric
  split
  case isTrue => exact onlySends_refl s
  refine onlySends_request ?_
  dsimp only
  split
  case isTrue => exact hk
  case isFalse => exact onlySends_emit s _

theorem onlySends_island {k : State → State} (hk : OnlySends s (k s)) : OnlySends s (s.island k) := by
  unfold State.island
  split
  case isTrue => exact hk
  case isFalse => exact onlySends_refl s

theorem onlySends_managed {b : Fin 2} {ty cmd : Nat} {c : Instr} {k : State → State} (hk : OnlySends s (k s)) :
    OnlySends s (s.managed b ty cmd c k) := by
  unfold State.managed
  split
  case isTrue => exact onlySends_refl s
  case isFalse => exact onlySends_request hk

theorem onlySends_atStack {stack : Bool} {k : State → State} (hk : OnlySends s (k s)) : OnlySends s (s.atStack stack k) := by
  unfold State.atStack
  split
  case isTrue => exact onlySends_refl s
  case isFalse => exact hk

/-- A command whose next state is known to keep the rest keeps it. -/
theorem onlySends_of_exec {c : Instr} {t u : State} (hc : exec c s = .next u) (hu : OnlySends s u) (ht : exec c s = .next t) :
    OnlySends s t :=
  Host.Outcome.next.inj (hc.symm.trans ht) ▸ hu

/-- A mailbox command keeps the rest where its effect does. -/
theorem mailboxQuery_onlySends {p : PortId} {ld : Fin 20} {op : Nat} {set : MboxSet} {c : Instr} {k : State → State} {t : State}
    (hc : exec c s = .next (s.mailbox p ld op set c k)) (hk : OnlySends s (k s)) : exec c s = .next t → OnlySends s t :=
  onlySends_of_exec hc (onlySends_mailbox hk)

/-- The heads of a device are told at CXL 3.0 and later only (R267). -/
theorem getMultiHeadedInfo_onlySends {p : PortId} {l : LinkId} {t : State} :
    exec (.getMultiHeadedInfo p l) s = .next t → OnlySends s t := by
  refine onlySends_of_exec rfl (onlySends_fabric ?_)
  dsimp only
  split <;> exact onlySends_emit s _

/-- Records beyond the log are refused (R484). -/
theorem evtRead_onlySends {b : Fin 2} {k : Fin 8192} {m : Fin 8} {t : State} :
    exec (.evtRead b k m) s = .next t → OnlySends s t := by
  refine onlySends_of_exec rfl (onlySends_island ?_)
  dsimp only
  split <;> exact onlySends_emit s _

/-- A handle names a record of the repository or none (R486). -/
theorem getPdr_onlySends {b : Fin 2} {st : Bool} {h : BitVec 32} {t : State} :
    exec (.getPdr b st h) s = .next t → OnlySends s t := by
  refine onlySends_of_exec rfl (onlySends_managed (onlySends_atStack ?_))
  dsimp only
  split <;> exact onlySends_emit s _

/-- A numeric sensor has a reading, is unavailable, or does not exist (R486). -/
theorem getSensorReading_onlySends {b : Fin 2} {id : BitVec 16} {t : State} :
    exec (.getSensorReading b id) s = .next t → OnlySends s t := by
  refine onlySends_of_exec rfl (onlySends_managed ?_)
  split <;> exact onlySends_emit s _

/-- So does a state sensor (R486). -/
theorem getStateSensorReadings_onlySends {b : Fin 2} {st : Bool} {id : BitVec 16} {t : State} :
    exec (.getStateSensorReadings b st id) s = .next t → OnlySends s t := by
  refine onlySends_of_exec rfl (onlySends_managed (onlySends_atStack ?_))
  split <;> exact onlySends_emit s _

end Queries

/-- Settles O60: the path of each request (mailbox, dynamic capacity, fabric manager, island, management) keeps the rest of the state when
its effect does, and the effect of each is one answer. -/
theorem queriesChangeNothing : Obligations.QueriesChangeNothing := by
  intro p ld lk log a n b h id st k m s t
  simp only [List.forall_mem_cons, List.not_mem_nil, false_imp_iff, implies_true, and_true]
  exact ⟨mailboxQuery_onlySends rfl rfl, mailboxQuery_onlySends rfl rfl, mailboxQuery_onlySends rfl rfl, mailboxQuery_onlySends rfl rfl,
    mailboxQuery_onlySends rfl rfl, mailboxQuery_onlySends rfl rfl, mailboxQuery_onlySends rfl rfl, mailboxQuery_onlySends rfl rfl,
    mailboxQuery_onlySends rfl rfl, mailboxQuery_onlySends rfl rfl, mailboxQuery_onlySends rfl rfl, mailboxQuery_onlySends rfl rfl,
    mailboxQuery_onlySends rfl rfl, mailboxQuery_onlySends rfl rfl, mailboxQuery_onlySends rfl rfl,
    mailboxQuery_onlySends rfl (onlySends_dynamic rfl), mailboxQuery_onlySends rfl (onlySends_dynamic rfl),
    mailboxQuery_onlySends rfl (onlySends_dynamic rfl),
    onlySends_of_exec rfl (onlySends_fabric rfl), onlySends_of_exec rfl (onlySends_fabric rfl),
    onlySends_of_exec rfl (onlySends_fabric rfl), getMultiHeadedInfo_onlySends,
    onlySends_of_exec rfl (onlySends_island rfl), onlySends_of_exec rfl (onlySends_island rfl),
    onlySends_of_exec rfl (onlySends_island rfl), evtRead_onlySends, getPdr_onlySends, getSensorReading_onlySends,
    getStateSensorReadings_onlySends, onlySends_of_exec rfl (onlySends_managed rfl), onlySends_of_exec rfl (onlySends_managed rfl)⟩

end Sys2Proof.Proofs
end

section
/-!
IDE of the links (R281, R363), the Ethernet links (R39), the main rails (R500, R541) and the reference clock SYSCLK_25M (R505).
-/
namespace Sys2Proof.Proofs

open Machine Safety Laws

section IdeStreams

variable {s : State} {p : PortId} {l : LinkId}

/-- New keys of the CXL.mem stream take effect on a link of CXL 2.0 or later, over a secured session on DOE. -/
theorem ideKmKSetGo_mem (hup : (s.linkAt p.val l.val).up = true) (hver : 2 ≤ (s.linkAt p.val l.val).ver)
    (hdoe : s.sec.doeSessions ≠ 0) :
    exec (.ideKmKSetGo p l .mem) s =
      .next (s.setLink p.val l.val { s.linkAt p.val l.val with ide := 1, macFails := [], ideStopped := false }) :=
  congrArg Host.Outcome.next (if_neg (by simp [hup, hdoe]; omega))

/-- A stream at its limit is recorded first as a security event, then as one of its port. -/
theorem ideCounterLimit_mem (hup : (s.linkAt p.val l.val).up = true) :
    exec (.ideCounterLimit p l .mem) s = .next (((s.setLink p.val l.val { s.linkAt p.val l.val with
      ide := 2, macFails := [], ideStopped := true }).log 0x7031 .error srcSec 1 p.val 1).log 0x4007 .error (srcPort p.val)
        (p.val + 16 * l.val) 0) :=
  congrArg Host.Outcome.next (if_neg (by simp [hup]))

end IdeStreams

/-- An Ethernet link comes up in SERVICE while its reference clock and the SerDes rail are there (R39). -/
theorem ethLinkUp_service {s : State} {e : CwId} (hm : s.mc.mode = .service) (hc : s.clk.refLost.getLsbD (4 + e.val / 2) = false)
    (hr : s.pw.railFault.getLsbD 3 = false) :
    exec (.ethLinkUp e) s = .next { s with rdma := { s.rdma with ethUp := s.rdma.ethUp ||| BitVec.ofNat 4 (2 ^ e.val) } } :=
  congrArg Host.Outcome.next (if_neg (by rw [hm, hc, hr]; decide))

section Rails

variable {s : State} {r : Fin 6}

/-- A fault of an enabled rail other than the SerDes rail takes no link down; the VDDQ excursion is one of SAVE only (R500). -/
theorem railFault_service (hm : s.mc.mode = .service) (hen : s.pw.railEn.getLsbD r.val = true) (hf : s.pw.railFault.getLsbD r.val = false)
    (hr : r.val ≠ 3) :
    exec (.railFault r) s = .next (({ s with pw := { s.pw with
      railOk := s.pw.railOk &&& ~~~ BitVec.ofNat 6 (2 ^ r.val), railFault := s.pw.railFault ||| BitVec.ofNat 6 (2 ^ r.val) } }).log
        0x9021 .error srcPower r.val 1) := by
  have hx : (s.pw.vddqExcursion || (r.val == 4 && s.mc.mode == .save)) = s.pw.vddqExcursion := by
    rw [hm, show (Mode.service == Mode.save) = false from rfl, Bool.and_false, Bool.or_false]
  have hrun : ¬ (s.mc.mode = .off ∨ (! s.pw.railEn.getLsbD r.val) = true ∨ s.pw.railFault.getLsbD r.val = true) := by
    rw [hm, hen, hf]; decide
  change execRailFault r s = _
  simp only [execRailFault, if_neg hrun, if_neg hr, hx]

/-- The return of a rail whose fault was written is written too; outside STANDBY no power-up sequence waits for it (R541). -/
theorem railReturn_service (hm : s.mc.mode = .service) (hf : s.pw.railFault.getLsbD r.val = true) (hr : r.val ≠ 2) :
    exec (.railReturn r) s = .next (({ s with pw := { s.pw with
      railOk := s.pw.railOk ||| BitVec.ofNat 6 (2 ^ r.val), railFault := s.pw.railFault &&& ~~~ BitVec.ofNat 6 (2 ^ r.val) } }).log
        0x9021 .notice srcPower r.val 0) := by
  have hx : ∀ b c d : Bool, (s.pw.seqReady || (s.mc.mode == .standby && b && c && d)) = s.pw.seqReady := by
    simp [hm, show (Mode.service == Mode.standby) = false from rfl]
  have hon : s.mc.mode ≠ .off := by simp [hm]
  change execRailReturn r s = _
  simp only [execRailReturn, if_neg hon, if_pos hf, if_neg hr, hx]

end Rails

section Clocks

variable {s : State}

/-- Without SYSCLK_25M the clocks go into holdover (R505). -/
theorem refclkLost_sysclk (hm : s.mc.mode = .service) (hl : s.clk.refLost.getLsbD 6 = false) :
    exec (.refclkLost 6) s = .next (({ s with clk := { s.clk with
      sys25 := false, holdover := true, refLost := s.clk.refLost ||| 64#7 } }).log 0x9023 .error srcPower 6 1) :=
  congrArg Host.Outcome.next (if_neg (not_or.mpr ⟨by simp [hm], ne_true_of_eq_false hl⟩))

/-- Its return ends the holdover, and follows a record of its loss with a notice (R505). -/
theorem refclkReturn_sysclk (hm : s.mc.mode = .service) (hl : s.clk.refLost.getLsbD 6 = true) :
    exec (.refclkReturn 6) s = .next (({ s with clk := { s.clk with
      sys25 := true, holdover := false, refLost := s.clk.refLost &&& ~~~ 64#7 } }).log 0x9023 .notice srcPower 6 0) :=
  congrArg Host.Outcome.next ((if_neg (by simp [hm])).trans (if_pos hl))

end Clocks

/-- Settles O26: each clause is one of the lemmas above; ETH_LINK_DOWN has no condition and is the model's own equation. The numbers of the
streams in records, and which bits of GLB_CLK_STAT and which notice the return of a clock gives, are the model's choice (log entries 25
and 77). -/
theorem ideEthernetRailsAndClocks : Obligations.IdeEthernetRailsAndClocks := by
  refine ⟨?setGo, ?rekey, ?limit, ?ethUp, fun _ _ => rfl, ?railFault, ?railReturn, ?lost, ?returned⟩
  case setGo => exact fun _ _ _ hup hver hdoe => ideKmKSetGo_mem hup hver hdoe
  case rekey => exact fun _ _ _ _ hup => congrArg Host.Outcome.next (if_pos hup)
  case limit => exact fun _ _ _ hup => ideCounterLimit_mem hup
  case ethUp => exact fun _ _ hm hc hr => ethLinkUp_service hm hc hr
  case railFault => exact fun _ _ hm hen hf hr => railFault_service hm hen hf hr
  case railReturn => exact fun _ _ hm hf hr => railReturn_service hm hf hr
  case lost => exact fun _ hm hl => refclkLost_sysclk hm hl
  case returned => exact fun _ hm hl => refclkReturn_sysclk hm hl

end Sys2Proof.Proofs
end

section
/-!
The CXL mailbox of a logical device (R265, R284 to R287, R402, R404): events, firmware, time, logs and identity.
-/
namespace Sys2Proof.Proofs

open Machine Safety Laws

/-- A mailbox command that is executed at once answers what its effect makes of the state (R377). -/
theorem exec_mailbox {s t : State} {p : PortId} {ld : Fin 20} {set : MboxSet} {op : Nat} {c : Instr} {k : State → State}
    (hr : mailboxRuns s p ld set) (hc : exec c s = .next (s.mailbox p ld op set c k)) (hk : k s = t) : exec c s = .next t := by
  rw [hc, mailbox_runs hr, hk]

section Events

variable {s : State} {p : PortId} {ld : Fin 20}

/-- Clearing all records of a log takes those of the log and its overflow indication (R287). -/
theorem clearEventRecords_all {log : Fin 5} {hs : List Nat} (hr : mailboxRuns s p ld .events) :
    exec (.clearEventRecords p ld log true hs) s = .next ((s.updLd p ld fun x => { x with
      events := x.events.filter (fun e => ! (e.log == log.val))
      overflow := x.overflow &&& ~~~ BitVec.twoPow 5 log.val }).reply p ld 0x0101 0) :=
  exec_mailbox hr rfl (by simp)

/-- A policy whose modes are all 0 or 1 is taken (R284). -/
theorem setEventInterruptPolicy_valid {v : Vector (BitVec 8) 5} (hr : mailboxRuns s p ld .events)
    (hv : ((v.toList.map BitVec.toNat).any fun x => decide (2 ≤ x % 4)) = false) :
    exec (.setEventInterruptPolicy p ld v) s =
      .next ((s.updLd p ld fun x => { x with policy := v.toList.map BitVec.toNat }).reply p ld 0x0103 0) :=
  exec_mailbox hr rfl (if_neg (ne_true_of_eq_false hv))

end Events

section Firmware

variable {s t : State} {p : PortId} {ld : Fin 20} {slot : Fin 2} {off : BitVec 24} {bytes : List Byte}

/-- A session that is free or the host's own is not in another's hands (R401). -/
theorem not_busy_of_host {x : Session} (h : x.st = .idle ∨ x.source = 1) : ¬ (x.st ≠ .idle ∧ x.source ≠ 1) :=
  fun hb => h.elim hb.1 hb.2

/-- A part of a transfer that is not its last is written as a block, and the session stays open (R402). -/
theorem transferFw_part {action : FwAction} (ha : action = .initiate ∨ action = .continue) (hr : mailboxRuns s p ld .firmware)
    (hs : s.flash.sess.st = .idle ∨ s.flash.sess.source = 1) (hslot : slot.val ≠ s.flash.running)
    (hb : s.sourceBlock 1 off.toNat bytes = (.ok, t)) :
    exec (.transferFw p ld action slot off bytes) s = .next (t.reply p ld 0x0201 0 [0, t.flash.sess.off]) := by
  refine exec_mailbox hr rfl ((if_neg (not_busy_of_host hs)).trans ((if_neg hslot).trans ?_))
  rcases ha with rfl | rfl
  all_goals
    simp only [hb]
    rfl

/-- An offline activation of the slot that does not run is asked for (R404). -/
theorem activateFw_offline (hr : mailboxRuns s p ld .firmware) (hs : s.flash.sess.st = .idle ∨ s.flash.sess.source = 1)
    (hslot : slot.val ≠ s.flash.running) (ho : s.requestOffline = (.ok, t)) :
    exec (.activateFw p ld false slot) s = .next (t.reply p ld 0x0202 0 [0]) :=
  exec_mailbox hr rfl (by
    simp only [if_neg (not_busy_of_host hs), if_neg hslot, Bool.false_eq_true, if_false, ho]
    rfl)

end Firmware

section TimeAndLogs

variable {s : State} {p : PortId} {ld : Fin 20}

/-- The time is set while no IEEE 1588 timebase is locked (R284). -/
theorem setTimestamp_unlocked {t : BitVec 64} (hr : mailboxRuns s p ld .identify) (hl : s.clk.tbLock = false) :
    exec (.setTimestamp p ld t) s = .next (({ s with ports := { s.ports with
      timestamp := (t.toNat + 2 ^ 64 - s.timeNs % 2 ^ 64) % 2 ^ 64 } }).reply p ld 0x0301 0) :=
  exec_mailbox hr rfl (congrArg (State.reply · p ld 0x0301 0) (if_neg (ne_true_of_eq_false hl)))

/-- A word of the vendor event log is a word of a slot of the event log (R284, R414). -/
theorem getLog_vendor_word {off : BitVec 32} (hr : mailboxRuns s p ld .identify) (ha : off.toNat % 4 = 0)
    (hl : off.toNat + 4 ≤ 0x40000) :
    exec (.getLog p ld true off 4) s =
      .next (s.reply p ld 0x0401 0 [(s.slotWord (off.toNat / 4 / 8) (off.toNat / 4 % 8)).toNat]) :=
  exec_mailbox hr rfl ((if_neg (by
    rw [show (4 : BitVec 32).toNat = 4 from rfl, if_pos rfl]
    omega)).trans rfl)

/-- A running background command that can be cancelled is marked, and ends at its next boundary (R328). -/
theorem requestAbortBackgroundOp_running {o : LongOp} {b : Nat × Nat} (hr : mailboxRuns s p ld .identify)
    (hb : (s.ldAt p.val ld.val).background = some b) (ho : s.opAt b.2 = some o) (hc : o.kind.cancellable = true)
    (hst : o.st = .running) :
    exec (.requestAbortBackgroundOp p ld) s = .next ((s.setOp { o with st := .cancelling }).reply p ld 0x0005 0) :=
  exec_mailbox hr rfl (by simp [hb, ho, hc, hst])

end TimeAndLogs

/-- Settles O44: a command without a condition of its own answers at once, each other clause is one of the lemmas above. Return codes,
payloads and the event commands of the FM-owned LD are the model's choice (log entries 80 and 81). -/
theorem mailboxCommands : Obligations.MailboxCommands := by
  refine ⟨?getEvents, ?clearEvents, ?getPolicy, ?setPolicy, ?fwInfo, ?transfer, ?activate, ?identity, ?setTime, ?log, ?abort⟩
  case getEvents =>
    rintro p ld log s es hr rfl
    exact exec_mailbox hr rfl rfl
  case clearEvents => exact fun _ _ _ _ _ hr => clearEventRecords_all hr
  case getPolicy => exact fun _ _ _ hr => exec_mailbox hr rfl rfl
  case setPolicy => exact fun _ _ _ _ hr hv => setEventInterruptPolicy_valid hr hv
  case fwInfo => exact fun _ _ _ hr => exec_mailbox hr rfl rfl
  case transfer =>
    exact fun _ _ _ _ _ _ _ hr hs hslot hb => ⟨transferFw_part (.inl rfl) hr hs hslot hb, transferFw_part (.inr rfl) hr hs hslot hb⟩
  case activate => exact fun _ _ _ _ _ hr hs hslot ho => activateFw_offline hr hs hslot ho
  case identity =>
    exact fun _ _ _ hr => ⟨exec_mailbox hr rfl rfl, exec_mailbox hr rfl rfl, exec_mailbox hr rfl rfl, exec_mailbox hr rfl rfl,
      exec_mailbox hr rfl rfl, exec_mailbox hr rfl rfl, exec_mailbox hr rfl rfl⟩
  case setTime => exact fun _ _ _ _ hr hl => setTimestamp_unlocked hr hl
  case log => exact fun _ _ _ _ hr ha hl => getLog_vendor_word hr ha hl
  case abort => exact fun _ _ _ _ _ hr hb ho hc hst => requestAbortBackgroundOp_running hr hb ho hc hst

end Sys2Proof.Proofs
end

section
/-!
Health, poison, scans and erasure through the mailbox (R277, R284, R286, R287).
-/
namespace Sys2Proof.Proofs

open Machine Safety Laws

section Poison

variable {s t : State} {p : PortId} {ld : Fin 20} {a : BitVec 48} {i : Nat} {r : Region}

/-- A line that is not among the at most 16 injected ones joins them and is written poisoned (R277, R285). -/
theorem injectPoison_new (hr : mailboxRuns s p ld .full) (hm : s.mc.mode.poisons = true)
    (hp : s.poisonTarget p ld a.toNat = .ok (i, r)) (hnew : s.ports.injected.contains (a.toNat / 64) = false)
    (hroom : s.ports.injected.length < 16)
    (ht : t = { s.activity with ports := { s.activity.ports with injected := s.activity.ports.injected ++ [a.toNat / 64] } })
    (hact : s.activity.ports.injected = s.ports.injected) :
    exec (.injectPoison p ld a) s = .next ((t.storeWrite (t.newWrite (p.val / 2) (a.toNat / 64) (t.latest (a.toNat / 64)).data fullBe true
      .internal) i r).reply p ld 0x4301 0) := by
  have hin : s.activity.ports.injected.contains (a.toNat / 64) = false := by rw [hact, hnew]
  have hlimit : ¬ ((! s.ports.injected.contains (a.toNat / 64)) = true ∧ 16 ≤ s.ports.injected.length) := fun h => by omega
  refine exec_mailbox hr rfl ?_
  subst ht
  simp only [hm, hp, if_neg hlimit, hin, Bool.not_true, Bool.false_eq_true, if_false]

/-- The data supplied is written as a full line (R277). -/
theorem clearPoison_bound {x : LineData} (hr : mailboxRuns s p ld .full) (hm : s.mc.mode.poisons = true)
    (hp : s.poisonTarget p ld a.toNat = .ok (i, r)) :
    exec (.clearPoison p ld a x) s = .next ((s.activity.storeWrite
      (s.activity.newWrite (p.val / 2) (a.toNat / 64) x fullBe false .internal) i r).reply p ld 0x4302 0) :=
  exec_mailbox hr rfl (by simp only [hm, hp, Bool.not_true, Bool.false_eq_true, if_false])

end Poison

section Background

variable {s : State} {p : PortId} {ld : Fin 20} {k : Nat}

/-- An LD without a background command starts one where a handle is free (R284). -/
theorem background_starts {op : Nat} {kind : OpKind} {total : Option Nat} (hb : (s.ldAt p.val ld.val).background = none)
    (hk : s.freeOpSlot = some k) :
    s.background p ld op kind total = ((s.startOp kind (.mailbox p.val ld.val op) total).updLd p ld
      fun x => { x with background := some (op, k) }).reply p ld op 1 := by
  simp only [State.background, hb, hk]

/-- Erasure starts while no other SANITIZE runs (R324). -/
theorem mboxSanitize_starts {op : Nat} {secure : Bool} (ho : s.rings.ops = []) (hb : (s.ldAt p.val ld.val).background = none)
    (hk : s.freeOpSlot = some k) :
    s.mboxSanitize p ld op secure = ((s.startOp (.sanitize secure) (.mailbox p.val ld.val op) (some (s.nand.map.length + 1))).updLd p ld
      fun x => { x with background := some (op, k) }).reply p ld op 1 :=
  (if_neg (by simp [ho])).trans (background_starts hb hk)

/-- A range inside the DPA space has an estimate, which is a free value (R284). -/
theorem getScanMediaCapabilities_inside {a : BitVec 48} {n : Nat} (hr : mailboxRuns s p ld .scan)
    (hin : a.toNat + 64 * n ≤ 2 ^ 30 * s.rgn.limitGib.toNat) :
    exec (.getScanMediaCapabilities p ld a n) s = .next (s.fresh.2.reply p ld 0x4303 0 [s.fresh.1]) :=
  exec_mailbox hr rfl (if_neg (Nat.not_lt.mpr hin))

/-- A scan of whole lines inside the DPA space starts with an empty list of results (R284). -/
theorem scanMedia_starts {a : BitVec 48} {n : Nat} {t : State} (hr : mailboxRuns s p ld .scan) (hn : n ≠ 0) (ha : a.toNat % 64 = 0)
    (hin : a.toNat + 64 * n ≤ 2 ^ 30 * s.rgn.limitGib.toNat) (hb : (s.ldAt p.val ld.val).background = none)
    (ht : t = s.updLd p ld (fun x => { x with scanned := [] })) (htb : (t.ldAt p.val ld.val).background = none)
    (hk : t.freeOpSlot = some k) :
    exec (.scanMedia p ld a n) s = .next (((t.startOp (.scan (a.toNat / 64) n p.val ld.val) (.mailbox p.val ld.val 0x4304)
      (some ((n + 32767) / 32768))).updLd p ld fun x => { x with background := some (0x4304, k) }).reply p ld 0x4304 1) := by
  have hrange : ¬ (a.toNat % 64 ≠ 0 ∨ 2 ^ 30 * s.rgn.limitGib.toNat < a.toNat + 64 * n) := by omega
  refine exec_mailbox hr rfl ((if_neg hn).trans ((if_neg hrange).trans ((if_neg (by simp [hb])).trans ?_)))
  subst ht
  exact background_starts htb hk

end Background

/-- Settles O45: a command without a condition of its own answers at once, each other clause is one of the lemmas above. One shutdown state
for the device, return codes, health payloads and the estimate of a scan are the model's choice (log entries 45, 80 and 81). -/
theorem mailboxMedia : Obligations.MailboxMedia := by
  refine ⟨?health, ?poisonList, ?inject, ?clear, ?capabilities, ?scan, ?results, ?erase⟩
  case health =>
    exact fun _ _ _ hr => ⟨exec_mailbox hr rfl rfl, exec_mailbox hr rfl rfl, fun _ => exec_mailbox hr rfl rfl, exec_mailbox hr rfl rfl,
      fun _ => exec_mailbox hr rfl rfl⟩
  case poisonList =>
    rintro p ld a n s es hr rfl
    exact exec_mailbox hr rfl rfl
  case inject => exact fun _ _ _ _ _ _ _ hr hm hp hnew hroom ht hact => injectPoison_new hr hm hp hnew hroom ht hact
  case clear => exact fun _ _ _ _ _ _ _ hr hm hp => clearPoison_bound hr hm hp
  case capabilities => exact fun _ _ _ _ _ hr hin => getScanMediaCapabilities_inside hr hin
  case scan => exact fun _ _ _ _ _ _ _ hr hn ha hin hb ht htb hk => scanMedia_starts hr hn ha hin hb ht htb hk
  case results => exact fun _ _ _ hr => exec_mailbox hr rfl rfl
  case erase =>
    exact fun _ _ _ _ hr ho hb hk =>
      ⟨exec_mailbox hr rfl (mboxSanitize_starts ho hb hk), exec_mailbox hr rfl (mboxSanitize_starts ho hb hk)⟩

end Sys2Proof.Proofs
end

section
/-!
Dynamic capacity (R265, R273 to R275), the commands of a fabric manager (R267) and the CDAT (R282).
-/
namespace Sys2Proof.Proofs

open Machine Safety Laws

section DynamicCapacity

variable {s t : State} {p : PortId} {ld : Fin 20} {op : Nat} {c : Instr} {k : State → State}

/-- A dynamic capacity command that is executed at once on a link of CXL 3.0 or later answers what its effect makes of the state (R264). -/
theorem exec_dynamic (hr : mailboxRuns s p ld .full) (h3 : s.linkCxl3 p.val ld.val = true)
    (hc : exec c s = .next (s.mailbox p ld op .full c fun s => s.dynamic p ld op k)) (hk : k s = t) : exec c s = .next t :=
  exec_mailbox hr hc ((if_pos h3).trans hk)

/-- On an older link it is Unsupported (R264, R284). -/
theorem exec_dynamic_unsupported (hr : mailboxRuns s p ld .full) (h3 : s.linkCxl3 p.val ld.val = false)
    (hc : exec c s = .next (s.mailbox p ld op .full c fun s => s.dynamic p ld op k)) : exec c s = .next (s.reply p ld op 3) :=
  exec_mailbox hr hc (if_neg (ne_true_of_eq_false h3))

/-- The one extent accepted was offered and not accepted before: it leaves the offers and is recorded (R275). -/
theorem addDynamicCapacityResponse_one {i : Fin 4096} (hr : mailboxRuns s p ld .full) (h3 : s.linkCxl3 p.val ld.val = true)
    (hadd : ((s.ldAt p.val ld.val).adds.any fun a => a.1 == i.val) = true)
    (hacc : (s.ldAt p.val ld.val).accepted.contains i.val = false) :
    exec (.addDynamicCapacityResponse p ld [i]) s = .next ((s.updLd p ld fun x => { x with
      adds := x.adds.filter (fun a => ! [i.val].contains a.1)
      accepted := x.accepted ++ [i.val] }).reply p ld 0x4802 0) := by
  have hnew : ([i.val].filter fun i => ! (s.ldAt p.val ld.val).accepted.contains i && (s.ldAt p.val ld.val).adds.any fun a => a.1 == i) =
      [i.val] := List.filter_cons_of_pos (by rw [hacc, hadd]; rfl)
  refine exec_dynamic hr h3 rfl (congrArg (State.reply · p ld 0x4802 0) ((if_pos (List.cons_ne_nil _ _)).trans ?_))
  unfold State.updLd
  simp only [List.map_cons, List.map_nil, hnew]

/-- An offer that has waited 10 s is declined (R275). -/
theorem dcAddTimeout_late {ld : Fin 16} {i : Fin 4096} {n : Nat} (hm : (i.val, n) ∈ (s.ldAt p.val ld.val).adds)
    (hl : n + 10 ^ 10 ≤ s.timeNs) : exec (.dcAddTimeout p ld i) s = .next (s.declineAdd p.val ld.val i.val) :=
  congrArg Host.Outcome.next (if_pos (List.any_eq_true.mpr ⟨_, hm, by simpa using hl⟩))

end DynamicCapacity

section FabricManager

variable {s t : State} {p : PortId} {l : LinkId} {op : Nat} {c : Instr} {k : State → (Nat → List Nat → State → State) → State}

/-- A fabric manager's command that is executed at once answers what its effect makes of the state (R267, R377). -/
theorem exec_fabric (hbox : s.hasMailbox p.val (16 + l.val) = true) (hcc : s.ccRuns = true) (hbuf : s.buffered = [])
    (hm : s.mc.mode.permits .full = true) (hc : exec c s = .next (s.fabric p l op c k))
    (hk : (k s fun rc ws s => s.emit (.mailbox p.val (16 + l.val) op rc ws)) = t) : exec c s = .next t := by
  rw [hc]
  simp [State.fabric, State.request, hbox, hcc, hbuf, hm, hk]

end FabricManager

/-- Table Access reads the CDAT once its free value is taken (R282). -/
theorem cdatTableAccess_enabled {s : State} {p : PortId} {ld : Fin 16} (he : s.ldEnabled p.val ld.val = true) (hcc : s.ccRuns = true)
    (hbuf : s.buffered = []) :
    exec (.cdatTableAccess p ld) s = .next (let t := s.fresh.2
      let es := t.cdat p.val ld.val s.fresh.1
      t.emit (.mailbox p.val ld.val 0 0 ((t.ldAt p.val ld.val).cdatSeq.toNat ::
        ((List.range es.length).zip es).flatMap fun e => [e.1 + 1, e.2.start, e.2.bytes, e.2.nonVol.toNat, e.2.shareable.toNat, e.2.readNs,
          e.2.writeNs, e.2.readBw, e.2.writeBw]))) :=
  congrArg Host.Outcome.next ((if_neg (by simp [he])).trans (if_pos ⟨hcc, by simp [hbuf]⟩))

/-- Settles O46: a command without a condition of its own answers at once, each other clause is one of the lemmas above. Return codes and
the QoS status, a free value, are the model's choice (log entries 80 and 81). -/
theorem dynamicCapacityAndFabric : Obligations.DynamicCapacityAndFabric := by
  refine ⟨?dynamic, ?unsupported, ?response, ?timeout, ?fabric, ?cdat⟩
  case dynamic => exact fun _ _ _ hr h3 => ⟨exec_dynamic hr h3 rfl rfl, exec_dynamic hr h3 rfl rfl, exec_dynamic hr h3 rfl rfl⟩
  case unsupported => exact fun _ _ _ hr h3 => exec_dynamic_unsupported hr h3 rfl
  case response => exact fun _ _ _ _ hr h3 hadd hacc => addDynamicCapacityResponse_one hr h3 hadd hacc
  case timeout => exact fun _ _ _ _ _ hm hl => dcAddTimeout_late hm hl
  case fabric =>
    intro p l s hbox hcc hbuf hm
    refine ⟨?_, ?_, ?_, ?_, fun h3 => ?heads⟩
    case heads => exact exec_fabric hbox hcc hbuf hm rfl (if_neg (Nat.not_lt.mpr h3))
    all_goals exact exec_fabric hbox hcc hbuf hm rfl rfl
  case cdat =>
    rintro p ld s _ _ he hcc hbuf rfl rfl
    exact cdatTableAccess_enabled he hcc hbuf

end Sys2Proof.Proofs
end

section
/-!
The RDMA responder (R291, R293 to R296): what the checks of a packet and of its sequence number come to, and each request past them.
-/
namespace Sys2Proof.Proofs

open Machine Safety Laws

/-- An MTU is 1, 2 or 4 KiB (R310). -/
theorem mtu_le (x : Qp) : x.mtu ≤ 4096 :=
  Nat.mul_le_mul_left 1024 (Nat.pow_le_pow_right (by decide) (Nat.min_le_left 2 _))

section Requests

variable {s t u : State} {h : RdmaHdr} {r : RdmaReth} {q n : Nat}

/-- The number in a request's header names its queue pair (R291). -/
theorem requestRuns_qpn (hp : requestRuns s h q n u) : h.qpn.toNat - 0x400 = q := by
  obtain ⟨_, ⟨_, hqpn, _⟩, _⟩ := hp
  omega

/-- A request in sequence does its work on the state with its PSNs taken; the packets it takes may be counted on the state that the checks
leave (R296). -/
theorem rdmaPacket_request {count : Nat → State → Nat} {new dup : Nat → State → State} (hp : requestRuns s h q n u)
    (hn : count q (s.activity.congested q h.ce) = n) :
    s.rdmaPacket h (fun q s => s.rdmaOrder q h.psn.toNat (count q s) (new q) (dup q)) = new q u := by
  obtain ⟨_, ht, ho⟩ := rdmaOrder_runs hp
  refine (rdmaPacket_runs _ ht).trans ?_
  obtain ⟨_, _, _, _, _, rfl⟩ := ht
  rw [hn, ho]

/-- A message of one packet is written where its key grants that, and fails its checks where not (R293, R294). -/
theorem rdmaWrite_onePacket {bytes : List Byte} (hstall : s.rdmaStalled h = false) (hp : requestRuns s h q 1 u)
    (hopen : (u.qp q).open_ = none) (hne : bytes ≠ []) (hlen : bytes.length = r.len.toNat) (hmtu : bytes.length ≤ (u.qp q).mtu) :
    exec (.rdmaWrite h (some r) true bytes) s = .next ((u.mkeyGrants q r.rkey r.va.toNat r.len.toNat 2).elim
      (u.accessFails q h.psn.toNat r.rkey) fun g => u.rdmaWriteBytes q h.psn.toNat g.2.2 bytes true) := by
  have hlimit : r.len.toNat ≤ 2 ^ 30 := by have := mtu_le (u.qp q); omega
  have hfits : r.len.toNat ≤ (u.qp q).mtu := hlen ▸ hmtu
  have hpos : r.len ≠ 0 := fun h0 => hne (List.length_eq_zero_iff.mp (by rw [hlen, h0]; rfl))
  refine congrArg Host.Outcome.next ((if_neg (ne_true_of_eq_false hstall)).trans ((rdmaPacket_request hp rfl).trans ?_))
  simp only [hopen]
  rw [if_neg (by simp [hlen, hfits]; omega), if_neg hpos]
  cases u.mkeyGrants q r.rkey r.va.toNat r.len.toNat 2 <;> rfl

/-- A READ with no write ahead of it reads its lines (R294, R295). -/
theorem rdmaRead_granted {errs : List (Nat × List (Fin 40))} {wb : List Nat} {g g' : Nat × Region} {dpa dpa' : Nat}
    (hgrant : s.mkeyGrants (h.qpn.toNat - 0x400) r.rkey r.va.toNat r.len.toNat 1 = some (g'.1, g'.2, dpa'))
    (hahead : s.writesAhead (h.qpn.toNat - 0x400) (dpa' / 64) (r.len.toNat / 64 + 2) = false)
    (hp : requestRuns s h q ((s.qp q).packets r.len.toNat) u) (hlimit : r.len.toNat ≤ 2 ^ 30) (hout : (u.qp q).outstanding < 64)
    (hpackets : ((s.activity.congested q h.ce).qp q).packets r.len.toNat = (s.qp q).packets r.len.toNat)
    (hgrant' : u.mkeyGrants q r.rkey r.va.toNat r.len.toNat 1 = some (g.1, g.2, dpa)) :
    exec (.rdmaRead h r errs wb) s =
      .next (u.rdmaReadLines q h.psn.toNat dpa r.len.toNat (errs.map fun e => (e.1, e.2.map Fin.val)) wb) := by
  have hq := requestRuns_qpn hp
  change execRdmaRead h r errs wb s = _
  simp only [execRdmaRead, hgrant, hahead, Bool.false_eq_true, if_false]
  refine congrArg Host.Outcome.next ((rdmaPacket_request (count := fun q s => (s.qp q).packets r.len.toNat) hp hpackets).trans ?_)
  rw [hq, if_neg (by omega)]
  simp only [hgrant']

/-- An atomic that is taken is the read-merge-write of its eight bytes (R294, R295). -/
theorem atomicPacket_taken {rkey : Word} {va : BitVec 64} {right l : Nat} {cache : Bool} {f : BitVec 64 → Option (BitVec 64)}
    (hstall : s.rdmaStalled h = false) (hl : l = ((s.mkeyGrants q rkey va.toNat 8 right).map fun g => g.2.2 / 64).getD 0)
    (hahead : s.writesAhead q l 1 = false) (hp : requestRuns s h q 1 u)
    (ht : t = u.rdmaAtomic q h.psn.toNat rkey va.toNat right cache f)
    (hlands : ((t.tier.wayWrites ++ t.per.adm).any fun w => w.req == .rdma q h.psn.toNat l) = false) :
    s.atomicPacket h rkey va right cache f = t := by
  have hq := requestRuns_qpn hp
  unfold State.atomicPacket
  simp only [hq, ← hl]
  rw [rdmaPacket_request (count := fun _ _ => 1) (new := fun q s => s.rdmaAtomic q h.psn.toNat rkey va.toNat right cache f) hp rfl,
    ← ht, if_neg (by simp only [hstall, hahead, hlands, Bool.false_eq_true, or_self, not_false_eq_true])]

/-- A FLUSH whose key grants it flushes the whole queue pair (R294). -/
theorem rdmaFlush_granted {persist : Bool} {g : Nat × Region × Nat} (hp : requestRuns s h q 1 u) (hlimit : r.len.toNat ≤ 2 ^ 30)
    (hout : (u.qp q).outstanding < 64) (hgrant : u.mkeyGrants q r.rkey r.va.toNat r.len.toNat 4 = some g) :
    exec (.rdmaFlush h r persist) s = .next (u.rdmaFlush q h.psn.toNat persist) := by
  refine congrArg Host.Outcome.next ((rdmaPacket_request hp rfl).trans ((if_neg (by omega)).trans ?_))
  simp only [hgrant]

end Requests

/-- Settles O33: each clause is one of the lemmas above; the three atomics differ in their right, their result cache and what they write. -/
theorem rdmaRequests : Obligations.RdmaRequests := by
  refine ⟨?write, ?read, ?compareSwap, ?fetchAdd, ?atomicWrite, ?flush, ?refused⟩
  case write =>
    intro h r bytes q dpa g s u hstall hp hopen hne hlen hmtu hgrant
    rw [rdmaWrite_onePacket hstall hp hopen hne hlen hmtu, hgrant]
    rfl
  case read =>
    exact fun _ _ _ _ _ _ _ _ _ _ _ hgrant hahead hp hlimit hout hpackets hgrant' =>
      rdmaRead_granted hgrant hahead hp hlimit hout hpackets hgrant'
  case flush => exact fun _ _ _ _ _ _ _ hp hlimit hout hgrant => rdmaFlush_granted hp hlimit hout hgrant
  case refused =>
    intro h r bytes q s u hstall hp hopen hne hlen hmtu hgrant
    rw [rdmaWrite_onePacket hstall hp hopen hne hlen hmtu, hgrant]
    rfl
  case compareSwap =>
    exact fun _ _ _ _ _ _ _ _ _ _ hstall hl hahead hp ht hlands =>
      congrArg Host.Outcome.next (atomicPacket_taken hstall hl hahead hp ht hlands)
  all_goals
    exact fun _ _ _ _ _ _ _ _ _ hstall hl hahead hp ht hlands =>
      congrArg Host.Outcome.next (atomicPacket_taken hstall hl hahead hp ht hlands)

end Sys2Proof.Proofs
end

section
/-!
The RDMA requester: responses, refusals and timeouts (R300, R302), gates (R303, R304), congestion and pause (R307, R308).
-/
namespace Sys2Proof.Proofs

open Machine Safety Laws

section Answers

variable {s t u : State} {h : RdmaHdr}

/-- A NAK acknowledges the items before its PSN and completes them; the first item then open ends with the status of the error, and the
queue pair enters ERROR (R302). -/
theorem rdmaNakReceived_error {q i : Nat} (hp : packetRuns s h q t)
    (hu : u = State.retireItems q (t.qp q).items.length
      (t.setQp q { t.qp q with items := ackItems ((h.psn.toNat + 2 ^ 24 - 1) % 2 ^ 24) (t.qp q).items }))
    (hopen : ((u.qp q).items.findIdx? fun it => it.started && it.left != 0) = some i) :
    exec (.rdmaNakReceived h .access) s = .next (u.qpError q 2 h.psn.toNat (some (i, .notPermitted))) ∧
    exec (.rdmaNakReceived h .operational) s = .next (u.qpError q 3 h.psn.toNat (some (i, .dataError))) := by
  constructor
  all_goals
    refine congrArg Host.Outcome.next ((rdmaPacket_runs _ hp).trans ?_)
    simp only [← hu, hopen]

/-- Without retries left the first open item of a queue fails with TIMEOUT (R302). -/
theorem ackTimeout_fails {q : Fin 8192} {i : Nat} {it : QpItem} (hst : (s.qp q).st = .rts) (hmode : s.mc.mode.serving = true)
    (hopen : ((s.qp q).items.findIdx? fun it => it.started && it.left != 0) = some i) (hit : (s.qp q).items[i]? = some it)
    (hretry : (s.qp q).retry ≤ (s.qp q).retries) :
    exec (.ackTimeout q) s = .next (s.qpError q 1 ((s.qp q).firstPsn it) (some (i, .timeout))) := by
  refine congrArg Host.Outcome.next ((if_neg (by simp [hst, hmode])).trans ?_)
  simp only [hopen, if_neg (Nat.not_lt.mpr hretry), List.getD_eq_getElem?_getD, hit, Option.getD_some]

/-- Where nothing is open a timeout changes nothing (R302). -/
theorem ackTimeout_idle {q : Fin 8192} (hopen : ((s.qp q).items.findIdx? fun it => it.started && it.left != 0) = none) :
    exec (.ackTimeout q) s = .next s := by
  refine congrArg Host.Outcome.next ?_
  simp only [hopen, ite_self]

end Answers

section Gates

variable {s t : State}

/-- A gate is posted where the queue it watches is another one, in use, and holds no gate that watches back (R303). -/
theorem gateSet_posts {d : Desc} {q w : Nat} (hd : descRuns s d 1 t) (hq : q = d.bits 2 12 0) (hw : w = d.bits 3 12 0) (hne : w ≠ q)
    (hwreq : (t.qp w).isReq = true) (hqreq : (t.qp q).isReq = true) (hwst : (t.qp w).st ≠ .reset) (hqst : (t.qp q).st = .rts)
    (hloop : ((t.qp w).items.any fun it => it.kind == .gate && it.watch == q) = false) (hroom : t.itemsFull q = false) :
    exec (.gateSet d) s = .next (t.postItem q ⟨.gate, 0, 0, 0, 0, 0, false, w, d.word 4, none, false, 0, 0, d.src⟩) := by
  refine congrArg Host.Outcome.next ((take_run false _ hd).trans ?_)
  simp only [← hq, ← hw]
  rw [if_neg (by simp [hne, hwreq, hqreq, hwst, hqst]), if_neg (ne_true_of_eq_false hloop), if_neg (ne_true_of_eq_false hroom),
    if_neg (not_not_intro hqst)]

/-- A gate that is not satisfied expires with every item behind it where none of these is a gate (R304). -/
theorem gateExpired_last {q : Fin 8192} {it : QpItem} {rest : List QpItem} (hitems : (s.qp q).items = it :: rest) (hkind : it.kind = .gate)
    (hmet : s.gateMet it = false) (hhead : it.headAt.isSome = true) (hrest : ∀ y ∈ rest, y.kind ≠ .gate) :
    exec (.gateExpired q) s = .next ((((rest.foldl (fun s y => s.endItem y .cancelled)
      ((s.setQp q { s.qp q with items := [] }).endItem it .gateExpired)).log 0x4042 .notice srcRdma q it.watch it.target.toNat
        rest.length).pumpQueue q)) := by
  have hgone : (rest.takeWhile fun y => y.kind != .gate) = rest := by
    have h := List.takeWhile_append_of_pos (p := fun y : QpItem => y.kind != .gate) (l₂ := []) fun y hy => bne_iff_ne.mpr (hrest y hy)
    rwa [List.takeWhile_nil, List.append_nil] at h
  change execGateExpired q s = _
  simp only [execGateExpired, hitems, hgone, List.drop_length]
  rw [if_neg (by simp [hkind, hmet, Option.isNone_eq_false_iff.mpr hhead])]

end Gates

section Congestion

variable {s : State} {q : Fin 8192}

/-- A step of the rate timer; every fifth raises the target (R307). -/
theorem rateTimer_paced (hpaced : (s.qp q).paced = true) :
    exec (.rateTimer q) s = .next (s.setQp q { s.qp q with
      alpha := 255 * (s.qp q).alpha / 256, current := ((s.qp q).target + (s.qp q).current) / 2, steps := (s.qp q).steps + 1,
      target := if ((s.qp q).steps + 1) % 5 = 0 then min ethRate ((s.qp q).target + s.fld RDMA_CC_RATE_AI * 10)
        else (s.qp q).target }) :=
  congrArg Host.Outcome.next (if_neg (by simp [hpaced]))

/-- A pause of the priority in use holds the port (R308). -/
theorem pfcPauseReceived_holds {e : CwId} {p : Fin 8} (hen : (s.fld RDMA_CTL_PFC_EN).testBit e.val = true)
    (hprio : s.fld RDMA_CTL_PFC_PRIO = p.val) :
    exec (.pfcPauseReceived e p true) s =
      .next { s with rdma := { s.rdma with paused := s.rdma.paused ||| BitVec.ofNat 4 (2 ^ e.val) } } :=
  congrArg Host.Outcome.next (if_neg (by simp [hen, hprio]))

end Congestion

/-- Settles O34: each clause is one of the lemmas above; an acknowledgement and a CNP act as soon as their packet is taken. The first value
of α, the rate of a port and the one record of a GATE_SET are the model's choice (log entries 10, 78 and 79). -/
theorem rdmaRequester : Obligations.RdmaRequester := by
  refine ⟨?ack, ?nak, ?timeout, ?gateSet, ?gateExpired, ?cnp, ?timer, ?timerFifth, ?pause, ?timeoutIdle⟩
  case ack => exact fun _ _ _ _ hp => congrArg Host.Outcome.next (rdmaPacket_runs _ hp)
  case nak => exact fun _ _ _ _ _ _ hp hu hopen => rdmaNakReceived_error hp hu hopen
  case timeout => exact fun _ _ _ _ hst hmode hopen hit hretry => ackTimeout_fails hst hmode hopen hit hretry
  case gateSet =>
    exact fun _ _ _ _ _ hd hq hw hne hwreq hqreq hwst hqst hloop hroom =>
      gateSet_posts hd hq hw hne hwreq hqreq hwst hqst hloop hroom
  case gateExpired =>
    rintro q it rest s _ hitems hkind hmet hhead hrest rfl
    exact gateExpired_last hitems hkind hmet hhead hrest
  case cnp =>
    rintro h q s t _ hp rfl
    exact congrArg Host.Outcome.next (rdmaPacket_runs _ hp)
  case timer =>
    intro q s hpaced hstep
    rw [rateTimer_paced hpaced, if_neg hstep]
  case timerFifth =>
    intro q s hpaced hstep
    rw [rateTimer_paced hpaced, if_pos hstep]
  case pause => exact fun _ _ _ hen hprio => pfcPauseReceived_holds hen hprio
  case timeoutIdle => exact fun _ _ hopen => ackTimeout_idle hopen

end Sys2Proof.Proofs
end

section
/-!
The states of a queue pair (R292): one equation for each state in which STATE is written.
-/
namespace Sys2Proof.Proofs

open Machine Safety Laws

section QueuePairs

variable {s : State} {q : Fin 8192} (who : Writer)

/-- RESET goes to RTS when the context is valid, and the write is refused otherwise (R292). -/
theorem qpStateRts_of_reset (hst : (s.qp q).st = .reset) :
    exec (.qpStateRts q who) s =
      .next (if s.qpReady q = true then s.setQp q { s.qp q with st := .rts } else s.reject qpCtxOff 1 4 who q) := by
  change execQpStateRts q who s = _
  simp only [execQpStateRts, hst]

theorem qpStateError_of_rts (hst : (s.qp q).st = .rts) :
    exec (.qpStateError q who) s = .next (s.qpError q 6 (s.qp q).sqPsn none) := by
  change execQpStateError q who s = _
  simp only [execQpStateError, hst]

/-- RTS and ERROR can be reset (R292, R305). -/
theorem qpStateReset_stops (hst : (s.qp q).st = .rts ∨ (s.qp q).st = .error) :
    exec (.qpStateReset q who) s = .next (s.stopQp q .resetting none) := by
  change execQpStateReset q who s = _
  rcases hst with hst | hst
  all_goals simp only [execQpStateReset, hst]

/-- A RESETTING queue pair refuses every write of STATE (R292). -/
theorem qpState_of_resetting (hst : (s.qp q).st = .resetting) :
    exec (.qpStateRts q who) s = .next (s.reject qpCtxOff 1 6 who q) ∧
    exec (.qpStateError q who) s = .next (s.reject qpCtxOff 2 6 who q) ∧
    exec (.qpStateReset q who) s = .next (s.reject qpCtxOff 0 6 who q) := by
  change execQpStateRts q who s = _ ∧ execQpStateError q who s = _ ∧ execQpStateReset q who s = _
  simp only [execQpStateRts, execQpStateError, execQpStateReset, hst, and_self]

/-- The reset of a queue pair ends when nothing of it is in progress; its context and COMP_CNT stay (R292, R301). -/
theorem qpResetDone_idle (hst : (s.qp q).st = .resetting) (hidle : s.qpBusy q = false) :
    exec (.qpResetDone q) s = .next (s.setQp q { Qp.reset with ctx := (s.qp q).ctx, compCnt := (s.qp q).compCnt }) :=
  congrArg Host.Outcome.next (if_pos ⟨hst, by simp [hidle]⟩)

end QueuePairs

/-- Settles O35: each clause is one of the lemmas above; VALID of a memory key has no condition and is the model's own equation. The reasons
4 and 6 of a refused write are the model's choice (log entry 79). -/
theorem queuePairStates : Obligations.QueuePairStates := by
  refine ⟨?ready, ?notReady, ?rts, ?error, ?resetting, ?done, ?key⟩
  case ready =>
    intro q who s hst hready
    rw [qpStateRts_of_reset who hst, if_pos hready]
  case notReady =>
    intro q who s hst hready
    rw [qpStateRts_of_reset who hst, if_neg (ne_true_of_eq_false hready)]
  case rts => exact fun _ who _ hst => ⟨qpStateError_of_rts who hst, qpStateReset_stops who (.inl hst)⟩
  case error => exact fun _ who _ hst => qpStateReset_stops who (.inr hst)
  case resetting => exact fun _ who _ hst => qpState_of_resetting who hst
  case done => exact fun _ _ hst hidle => qpResetDone_idle hst hidle
  case key =>
    rintro k s _ rfl
    exact ⟨rfl, rfl⟩

end Sys2Proof.Proofs
end

section
/-!
The doorbells and the push window of a ring (R312, R314, R315, R318): what each accepted write does to its ring.
-/
namespace Sys2Proof.Proofs

open Machine

section Doorbells

variable {s : State} {r : Fin 256}

/-- Activity matters in QUIESCENT alone (R41). -/
theorem activity_of_ne_quiescent (hm : s.mc.mode ≠ .quiescent) : s.activity = s := if_neg hm

/-- An SQ doorbell inside the circular range moves the tail (R312). -/
theorem ringSqDb_accepts {v : BitVec 16} (hm : s.mc.mode ≠ .quiescent)
    (hv : circOk (s.sqSize r.val) (s.ringAt r.val).sqTail (s.ringAt r.val).head v.toNat = true) :
    exec (.ringSqDb r v) s = .next (s.setRing r.val { s.ringAt r.val with sqTail := v.toNat }) := by
  change execRingSqDb r v s = _
  simp only [execRingSqDb, activity_of_ne_quiescent hm, hv, if_true]

/-- A CQ doorbell up to the CQ tail moves the CQ head (R314). -/
theorem ringCqDb_accepts {v : BitVec 16} (hv : v.toNat < s.cqSize r.val)
    (hrange : (v.toNat + s.cqSize r.val - (s.ringAt r.val).cqHead) % s.cqSize r.val ≤
      ((s.ringAt r.val).cqTail + s.cqSize r.val - (s.ringAt r.val).cqHead) % s.cqSize r.val) :
    exec (.ringCqDb r v) s = .next (s.setRing r.val { s.ringAt r.val with cqHead := v.toNat }) :=
  congrArg Host.Outcome.next (if_pos ⟨hv, hrange⟩)

/-- Once the timer runs out, the records counted since the last interrupt send the vector (R315). -/
theorem coalTimer_fires (hcoal : s.fld RING_COAL_COAL_CNT r.val ≠ 0) (hsince : (s.ringAt r.val).sinceIrq ≠ 0) :
    exec (.coalTimer r) s = .next (s.ringIrq r.val) :=
  congrArg Host.Outcome.next (if_pos (by simp [hcoal, hsince]))

end Doorbells

section PushWindow

/-- With no item open nothing is torn (R334). -/
theorem tearOpen_of_none {s : State} {r : Nat} (hopen : (s.ringAt r).openItem = none) : s.tearOpen r = s := by
  simp only [State.tearOpen, hopen]

variable {s : State} {r : Fin 256} {w : Word} (hen : s.flag RING_CTL_PUSH_EN r.val = true)
include hen

/-- Push word 0 opens an item (R318). -/
theorem ringPush_opens (hopen : (s.ringAt r.val).openItem = none) :
    exec (.ringPush r w) s = .next (s.setRing r.val { s.ringAt r.val with openItem := some [w], torn := false }) := by
  change execRingPush r w s = _
  simp only [execRingPush, hen, tearOpen_of_none hopen, if_true]

/-- A further word, up to word 14, adds to the open item (R318). -/
theorem ringPushContinue_adds {ws : List Word} (hopen : (s.ringAt r.val).openItem = some ws) (hlen : ws.length < 15) :
    exec (.ringPushContinue r w) s = .next (s.setRing r.val { s.ringAt r.val with openItem := some (ws ++ [w]) }) := by
  change execRingPushContinue r w s = _
  simp only [execRingPushContinue, hopen, hen, hlen, and_self, if_true]

/-- Below the spill limit, an item that stays on chip is committed to the command queue whatever the pool holds (R318, R331). -/
theorem ringPushCommit_queues {ws : List Word} (hopen : (s.ringAt r.val).openItem = some ws) (hpushed : (s.ringAt r.val).pushedCnt < 4096)
    (hqueue : (s.ringAt r.val).queue.length < 64) :
    exec (.ringPushCommit r w) s = .next ((s.setRing r.val { s.ringAt r.val with
      openItem := none
      queue := (s.ringAt r.val).queue ++ [⟨descOf r (ws ++ [w]), true⟩]
      pushedCnt := (s.ringAt r.val).pushedCnt + 1 }).spillPushed (0x10000 + r.val)) := by
  change execRingPushCommit r w s = _
  simp only [execRingPushCommit, hopen, hen, hpushed, hqueue, true_or, and_self, if_true]

end PushWindow

/-- Settles O2: each clause is one of the lemmas above. The peak of the spill pool that a pushed item leaves is the model's choice (log
entry 82). -/
theorem ringDoorbellsAndPushes : Obligations.RingDoorbellsAndPushes := by
  refine ⟨?sqDoorbell, ?cqDoorbell, ?push, ?extend, ?commit, ?timer⟩
  case sqDoorbell => exact fun _ _ _ hm hv => ringSqDb_accepts hm hv
  case cqDoorbell => exact fun _ _ _ hv hrange => ringCqDb_accepts hv hrange
  case push => exact fun _ _ _ hen hopen => ringPush_opens hen hopen
  case extend => exact fun _ _ _ _ hen hopen hlen => ringPushContinue_adds hen hopen hlen
  case commit => exact fun _ _ _ _ hen hopen hpushed hqueue => ringPushCommit_queues hen hopen hpushed hqueue
  case timer => exact fun _ _ hcoal hsince => coalTimer_fires hcoal hsince

end Sys2Proof.Proofs
end

section
/-!
NOP and the commands on long operations (R324, R327), the step that ends a FILL (R326) and the rebuild of a spill queue (R335).
-/
namespace Sys2Proof.Proofs

open Machine Safety Laws

section OperationCommands

variable {s t : State} {d : Desc} {o : LongOp}

/-- A RUNNING operation notes who suspends it, until its next step boundary (R327). -/
theorem opSuspend_running (h : descRuns s d 0 t) (ho : t.opOf (d.word 2).toNat = some o) (hst : o.st = .running)
    (hkind : o.kind.suspendable = true) (hstarted : t.opStarted o = false) :
    exec (.opSuspend d) s = .next (t.setOp { o with suspendBy := o.suspendBy ++ [d.src] }) := by
  refine congrArg Host.Outcome.next ((take_run false _ h).trans ?_)
  simp only [ho, hst, hkind, hstarted, Bool.not_false, Bool.and_self, if_true]

/-- A SUSPENDED operation runs again (R327). -/
theorem opResume_suspended (h : descRuns s d 0 t) (ho : t.opOf (d.word 2).toNat = some o) (hst : o.st = .suspended) :
    exec (.opResume d) s = .next ((t.setOp { o with st := .running }).complete d.src .ok) := by
  refine congrArg Host.Outcome.next ((take_run false _ h).trans ?_)
  simp only [ho, hst]

/-- With PIN = 0 a query answers STATE and PCT (R327). -/
theorem opQuery_state (h : descRuns s d 0 t) (ho : t.opOf (d.word 2).toNat = some o) (hpin : d.bits 3 0 0 = 0) :
    exec (.opQuery d) s = .next (t.complete d.src .ok (o.st.code + o.pct * 8)) := by
  refine congrArg Host.Outcome.next ((take_run false _ h).trans ?_)
  simp only [ho, hpin, if_true]

/-- A RUNNING operation that has steps is CANCELLING until its next boundary (R327, R328). -/
theorem opCancel_running (h : descRuns s d 0 t) (ho : t.opOf (d.word 2).toNat = some o) (hst : o.st = .running)
    (hkind : o.kind.cancellable = true) (hstarted : t.opStarted o = false) (hmirror : ∀ id, o.kind ≠ .fenceMirror id)
    (htier : ∀ id, o.kind ≠ .fenceTier id) (hpack : ∀ p, o.kind ≠ .packRelease p) :
    exec (.opCancel d) s = .next (t.setOp { o with st := .cancelling, cancelBy := o.cancelBy ++ [d.src] }) := by
  refine congrArg Host.Outcome.next ((take_run false _ h).trans ?_)
  simp only [ho, hst, hkind, hstarted]
  cases hk : o.kind with
  | fenceMirror id => exact absurd hk (hmirror id)
  | fenceTier id => exact absurd hk (htier id)
  | packRelease p => exact absurd hk (hpack p)
  | _ => simp

end OperationCommands

section Steps

variable {s : State} {o : LongOp}

/-- No line is left to issue (R328). -/
theorem issueLines_done {n : Nat} {dst : Nat → Nat} {src : Nat → State → Option Line × State} (hp : n ≤ o.param) :
    s.issueLines o n dst src = s := by
  simp [State.issueLines, Nat.sub_eq_zero_of_le hp]

/-- An operation whose lines are all complete ends with OK (R324). -/
theorem endLines_done {slot n : Nat} (ho : s.opAt slot = some o) (hn : n ≤ o.done) : s.endLines slot n = s.endOp o .ok n := by
  simp only [State.endLines, ho, hn, if_true]

/-- The step of a running operation that nobody suspends (R326). -/
theorem longOpStep_running {slot : Fin 1024} {errs : List (Nat × List (Fin 40))} {bad : List Nat} (ho : s.opAt slot.val = some o)
    (hst : o.st = .running) (hsus : o.suspendBy = []) (hrun : s.opsRun o.kind = true) :
    exec (.longOpStep slot errs bad) s = .next (s.stepOp o errs bad) := by
  change execLongOpStep slot errs bad s = _
  simp only [execLongOpStep, ho, hst, hsus, hrun, Bool.not_true, Bool.false_eq_true, if_false, if_true]

/-- The step of a FILL whose lines have all been issued and written ends it (R324, R326). -/
theorem stepOp_fill_last {a n : Nat} {w : Word} {errs : List (Nat × List (Fin 40))} {bad : List Nat} (ho : s.opAt o.slot = some o)
    (hkind : o.kind = .fill a n w) (hparam : o.param = n) (hdone : o.done = n) : s.stepOp o errs bad = s.endOp o .ok n := by
  simp only [State.stepOp, hkind, issueLines_done hparam.ge, endLines_done ho hdone.ge]

end Steps

/-- Settles O4: each clause is one of the lemmas above; NOP has no check of its own, and kind 6 of a spill queue is of class REBUILD, where
nothing is lost (R335). That a FILL ends when all lines it issued are complete is the model's choice (log entry 83). -/
theorem longOperationCommands : Obligations.LongOperationCommands := by
  refine ⟨?nop, ?suspend, ?resume, ?query, ?cancel, ?step, ?mismatch⟩
  case nop => exact fun _ _ _ h => congrArg Host.Outcome.next (take_run false _ h)
  case suspend => exact fun _ _ _ _ h ho hst hkind hstarted => opSuspend_running h ho hst hkind hstarted
  case resume => exact fun _ _ _ _ h ho hst => opResume_suspended h ho hst
  case query => exact fun _ _ _ _ h ho hpin => opQuery_state h ho hpin
  case cancel =>
    exact fun _ _ _ _ h ho hst hkind hstarted hmirror htier hpack => opCancel_running h ho hst hkind hstarted hmirror htier hpack
  case step =>
    intro slot a n w errs bad o s ho hkind hslot hst hsus hparam hdone hrun
    rw [longOpStep_running ho hst hsus hrun, stepOp_fill_last (hslot ▸ ho) hkind hparam hdone]
  case mismatch => exact fun _ => rfl

end Sys2Proof.Proofs
end

section
/-!
The long operations that the engines run (R300, R324): past the checks of its descriptor each starts with a handle.
-/
namespace Sys2Proof.Proofs

open Machine Safety Laws

section Ranges

variable {s t : State} {d : Desc} {r : Region} {i : Nat}

/-- A range within one region whose key is loaded passes (R324). -/
theorem onRange_loaded {a n : Nat} {act : State → State} (hrgn : t.regionOfRange a n = some (i, r)) (hkey : t.keysLoaded i r = true) :
    t.onRange d a n act = act t := by
  simp only [State.onRange, hrgn, hkey, if_true]

/-- COPY between two aligned ranges that do not overlap (R324). -/
theorem copyLocal_starts {j : Nat} {q : Region} (h : longRuns s d 1 t) (hlen : lengthOk (d.word 3).toNat = true)
    (hsrc : d.dpa 4 % 64 = 0) (hdst : d.dpa 6 % 64 = 0)
    (hover : overlap (d.dpa 4) (d.word 3).toNat (d.dpa 6) (d.word 3).toNat = false)
    (hrgn : t.regionOfRange (d.dpa 4) (d.word 3).toNat = some (i, r)) (hkey : t.keysLoaded i r = true)
    (hrgn' : t.regionOfRange (d.dpa 6) (d.word 3).toNat = some (j, q)) (hkey' : t.keysLoaded j q = true) :
    exec (.copyLocal d) s = .next (t.startOp (.copyLocal (d.dpa 4 / 64) (d.dpa 6 / 64) ((d.word 3).toNat / 64)) d.src
      (some ((d.word 3).toNat / 64))) := by
  refine congrArg Host.Outcome.next ((take_long false true _ h).trans ?_)
  refine (if_neg (by simp [hlen, hsrc, hdst, hover])).trans ?_
  rw [onRange_loaded hrgn hkey, onRange_loaded hrgn' hkey']

/-- FILL of an aligned range (R324). -/
theorem fill_starts (h : longRuns s d 1 t) (hlen : lengthOk (d.word 4).toNat = true) (hdst : d.dpa 2 % 64 = 0)
    (hrgn : t.regionOfRange (d.dpa 2) (d.word 4).toNat = some (i, r)) (hkey : t.keysLoaded i r = true) :
    exec (.fill d) s = .next (t.startOp (.fill (d.dpa 2 / 64) ((d.word 4).toNat / 64) (d.word 5)) d.src
      (some ((d.word 4).toNat / 64))) := by
  refine congrArg Host.Outcome.next ((take_long false true _ h).trans ?_)
  refine (if_neg (by simp [hlen, hdst])).trans ?_
  rw [onRange_loaded hrgn hkey]

end Ranges

section RemoteCopies

/-- The requester queue a remote COPY names (R324). -/
def copyQueue (d : Desc) : Nat := d.bits 2 28 16

/-- The item that a remote COPY posts, of which `left` packets are to be answered (R300). -/
def copyItem (t : State) (d : Desc) (kind : ItemKind) (left : Nat) : QpItem :=
  ⟨kind, t.nextOpSlot, d.dpa 4, (d.word 3).toNat, (d.word 6).toNat + (d.word 7).toNat * 2 ^ 32, (d.word 8).toNat, d.bits 2 2 2 == 1,
    0, 0, none, false, 0, left, d.src⟩

/-- A remote COPY that is posted: its operation starts and its item joins the queue (R300). -/
def postedCopy (t : State) (d : Desc) (kind : ItemKind) (left : Nat) : State :=
  (t.startOp (.copyRemote (copyQueue d) t.nextOpSlot) d.src (some ((d.word 3).toNat / 64))).postItem (copyQueue d)
    (copyItem t d kind left)

variable {t : State} {d : Desc} {r : Region} {i : Nat} (hlen : lengthOk (d.word 3).toNat = true)
  (hreq : (t.qp (copyQueue d)).isReq = true) (hst : (t.qp (copyQueue d)).st = .rts) (hroom : t.itemsFull (copyQueue d) = false)
include hlen hreq hst hroom

/-- A FLUSH names no local range, so that a queue in RTS with room for an item is all it needs (R300). -/
theorem postCopy_flush : t.postCopy d .flush = postedCopy t d .flush 1 := by
  rw [copyQueue] at hreq hst hroom
  simp [State.postCopy, postedCopy, copyItem, copyQueue, hlen, hreq, hst, hroom]

/-- A WRITE or READ needs besides an aligned local range in one region with its key (R300; log entry 84). -/
theorem postCopy_local {kind : ItemKind} (hkind : kind ≠ .flush) (hsrc : d.dpa 4 % 64 = 0)
    (hrgn : t.regionOfRange (d.dpa 4) (d.word 3).toNat = some (i, r)) (hkey : t.keysLoaded i r = true) :
    t.postCopy d kind = postedCopy t d kind (if kind = .read then (d.word 3).toNat / 64 else 1) := by
  rw [copyQueue] at hreq hst hroom
  simp [State.postCopy, postedCopy, copyItem, copyQueue, hlen, hreq, hst, hroom, hkind, hsrc, onRange_loaded hrgn hkey]

end RemoteCopies

section RegionOperations

variable {s t : State} {d : Desc}

/-- A CACHED region that no plan holds migrates to the frames found in a RESIDENT pool (R324). -/
theorem migrate_resident {f : Nat} {r : Region} (h : longRuns s d 2 t) (hr : regionFree t d r) (hbits : d.bits 3 1 0 = 0)
    (hcls : r.cls = .cached) (hplace : t.placeValid .resident (d.bits 3 7 4) = true) (hplan : t.planHolds d.rgnIdx = false)
    (hrun : t.lowestRun (d.bits 3 7 4) (r.size.toNat * 512) = some f) :
    exec (.migrate d) s = .next (t.startOp (.migrate d.rgnIdx .resident (d.bits 3 7 4) f) d.src (some (r.bytes / 64))) := by
  refine congrArg Host.Outcome.next ((take_long false true _ h).trans ((onRegion_of_regionFree hr).trans ?_))
  simp [rgnClassOf, hbits, hcls, hplace, hplan, hrun]

/-- SANITIZE starts in MAINTENANCE where no operation runs (R34, R324). -/
theorem sanitize_maintenance (htakes : s.ringTakes d.ring.val = true) (hfree : (d.ordered && s.ringBusy d.ring.val) = false)
    (hop : opcodes.contains d.opcode.toNat = true) (ht : t = (s.dequeue d).activity)
    (hgroup : Nat.testBit (t.fld RING_GROUPS_GROUPS d.ring.val) 5 = true) (hmode : s.mc.mode = .maintenance)
    (hslot : t.freeOpSlot.isSome = true) (hops : t.rings.ops = []) :
    exec (.sanitize d) s = .next (t.startOp (.sanitize (d.bits 2 0 0 == 1)) d.src (some (t.nand.map.length + 1))) := by
  refine congrArg Host.Outcome.next ((take_maint _ _ htakes hfree hop ht hgroup hslot).trans ?_)
  simp [hmode, hops]

/-- SCRUB_REGION of one valid region counts its units of 2 MiB (R324). -/
theorem scrubRegion_single {i : Nat} (h : longRuns s d 5 t) (hsel : d.selector = some i) (hvalid : (t.region i).valid = true) :
    exec (.scrubRegion d) s = .next (t.startOp (.scrub i false (d.bits 3 0 0 == 1)) d.src (some (t.region i).size.toNat)) := by
  refine congrArg Host.Outcome.next ((take_long true true _ h).trans ?_)
  simp [State.selects, hsel, hvalid]

end RegionOperations

/-- Settles O5: each clause is one of the lemmas above; the three remote COPYs post the same item but for its kind and the packets that
answer it. What range a remote WRITE or READ may name is the model's choice (log entry 84). -/
theorem copyFillAndMigrate : Obligations.CopyFillAndMigrate := by
  refine ⟨?copy, ?fill, ?remote, ?flush, ?migrate, ?sanitize, ?scrub⟩
  case copy =>
    exact fun _ _ _ _ _ _ _ h hlen hsrc hdst hover hrgn hkey hrgn' hkey' =>
      copyLocal_starts h hlen hsrc hdst hover hrgn hkey hrgn' hkey'
  case fill => exact fun _ _ _ _ _ h hlen hdst hrgn hkey => fill_starts h hlen hdst hrgn hkey
  case remote =>
    intro d i r s t h hlen hreq hst hroom hsrc hrgn hkey
    exact ⟨congrArg Host.Outcome.next ((take_long false true _ h).trans (postCopy_local hlen hreq hst hroom nofun hsrc hrgn hkey)),
      congrArg Host.Outcome.next ((take_long false true _ h).trans (postCopy_local hlen hreq hst hroom nofun hsrc hrgn hkey))⟩
  case flush =>
    exact fun _ _ _ h hlen hreq hst hroom =>
      congrArg Host.Outcome.next ((take_long false true _ h).trans (postCopy_flush hlen hreq hst hroom))
  case migrate =>
    exact fun _ _ _ _ _ h hr hvalid hres hbits hcls hplace hplan hrun =>
      migrate_resident h ⟨hr, hvalid, hres⟩ hbits hcls hplace hplan hrun
  case sanitize =>
    exact fun _ _ _ htakes hfree hop ht hgroup hmode _ hslot hops =>
      sanitize_maintenance htakes hfree hop ht hgroup hmode hslot hops
  case scrub => exact fun _ _ _ _ h hsel hvalid => scrubRegion_single h hsel hvalid

end Sys2Proof.Proofs
end

section
/-!
What a step keeps of the event log and of tier 1 (R414), and the idle step (R377).
-/
namespace Sys2Proof.Proofs

open Machine Safety Laws

/-- All that the idle step can do (log entry 26): 1 ns passes, or the oldest request that a gap has held back is served. -/
theorem idle_cases {s t : State} (h : s.idle = .next t) : t = { s with timeNs := s.timeNs + 1 } ∨
    ∃ q c rest u, s.buffered = (q, c) :: rest ∧ exec c { s with buffered := [] } = .next u ∧
      t = { u with buffered := rest ++ u.buffered } := by
  unfold State.idle at h
  split at h
  case h_1 q c rest hb =>
    split at h
    case isTrue =>
      cases hu : exec c { s with buffered := [] } with
      | next u =>
        rw [hu] at h
        exact .inr ⟨q, c, rest, u, hb, hu, (Host.Outcome.next.inj h).symm⟩
      | fault f => rw [hu] at h; cases h
      | refused f => rw [hu] at h; cases h
    case isFalse => exact .inl (Host.Outcome.next.inj h).symm
  case h_2 => exact .inl (Host.Outcome.next.inj h).symm

theorem idle_keeps {s t : State} (h : s.idle = .next t) : Keeps s t := by
  obtain rfl | ⟨q, c, rest, u, -, hu, rfl⟩ := idle_cases h
  · exact Keeps.refl s
  · have hs : Keeps s { s with buffered := [] } := Keeps.refl s
    exact exec_keeps hs c u hu

/-- A step keeps the slots of the log and the form of tier 1: it runs a command or idles. -/
theorem step_keeps {s t : State} (h : step s = .next t) :
    (recsOk s.evt.recs → recsOk t.evt.recs) ∧ (Sparse.wf zeroLine s.tier.dram = true → Sparse.wf zeroLine t.tier.dram = true) := by
  unfold step at h
  split at h
  case h_1 c rest _ => exact (exec_keeps (Keeps.refl _) c t h).2
  case h_2 => exact (idle_keeps h).2

/-- Settles O50: `step_keeps`, with `logOk` read as `recsOk`. -/
theorem logAndMemoryKeepTheirForm : Obligations.LogAndMemoryKeepTheirForm := by
  refine ⟨fun s t hok h => ?_, fun s t hwf h => (step_keeps h).2 hwf⟩
  rw [logOk_iff] at hok ⊢
  exact (step_keeps h).1 hok

theorem step_of_pending_nil {s : State} (h : s.pending = []) : step s = s.idle := by
  simp only [step, h]

/-- Settles O47: the empty queue leads to the idle step, whose case the buffer and the complex decide (log entry 26). -/
theorem idleStep : Obligations.IdleStep := by
  refine ⟨?empty, ?gap, ?served⟩
  case empty =>
    intro s hq hb
    simp only [step_of_pending_nil hq, State.idle, hb]
  case gap =>
    intro s hq hr
    rw [step_of_pending_nil hq, State.idle]
    split
    · exact if_neg (ne_true_of_eq_false hr)
    · rfl
  case served =>
    intro s t q c rest hq hr hb hc
    simp only [step_of_pending_nil hq, State.idle, hb, hr, if_true, hc]

end Sys2Proof.Proofs
end

section
/-!
Where the event log places a record, what it overwrites and what it drops (R418).
-/
namespace Sys2Proof.Proofs

open Machine Safety Laws

section Copies

variable {s : State}

/-- The event log and the registers, which the copies of a record for the flash, the hosts and the BMC leave alone. -/
def logAndRegs (s : State) : EvtLog × List (Nat × Word) := (s.evt, s.regs)

theorem pushCxl_logAndRegs (p ld log kind : Nat) (x : Option LogRec) (base size : Nat) :
    logAndRegs (s.pushCxl p ld log kind x base size) = logAndRegs s := by
  unfold State.pushCxl
  dsimp only
  split <;> split <;> rfl

theorem mirrorCxl_logAndRegs (r : LogRec) : logAndRegs (s.mirrorCxl r) = logAndRegs s := by
  have hfold (l : List (Nat × Nat)) (kind base : Nat) (s : State) :
      logAndRegs (l.foldl (fun s x => s.pushCxl x.1 x.2 r.sev.code kind (some r) base 0) s) = logAndRegs s :=
    List.foldlRecOn (motive := fun t => logAndRegs t = logAndRegs s) l _ rfl fun _ ht _ _ => (pushCxl_logAndRegs ..).trans ht
  unfold State.mirrorCxl
  dsimp only
  split
  · split
    · exact hfold ..
    · rw [hfold, hfold]
  · exact hfold ..

theorem platformEvent_logAndRegs (e : PlatformEvent) : logAndRegs (s.platformEvent e) = logAndRegs s := by
  unfold State.platformEvent
  split <;> rfl

/-- The copies of a record leave the log and the registers alone (R287, R423, R487). -/
theorem copies_logAndRegs (r : LogRec) : logAndRegs ((s.copyCritical r).mirrorEvent r) = logAndRegs s := by
  have hflash : logAndRegs (s.copyCritical r) = logAndRegs s := by
    unfold State.copyCritical
    split <;> rfl
  unfold State.mirrorEvent
  dsimp only
  split
  · rw [platformEvent_logAndRegs, mirrorCxl_logAndRegs, hflash]
  · rw [mirrorCxl_logAndRegs, hflash]

theorem copies_evt (r : LogRec) : ((s.copyCritical r).mirrorEvent r).evt = s.evt := congrArg Prod.fst (copies_logAndRegs r)

theorem copies_regs (r : LogRec) : ((s.copyCritical r).mirrorEvent r).regs = s.regs := congrArg Prod.snd (copies_logAndRegs r)

end Copies

section Victims

variable {l : EvtLog} {sev : Sev} {v : LogRec}

/-- The test of the model for a record that may be overwritten is the rule of R418. -/
theorem overwritable_iff (x : LogRec) : x.overwritable sev = true ↔ replaceable x sev := by
  unfold LogRec.overwritable replaceable
  cases hx : x.sev <;> cases sev <;> simp [Sev.code]

/-- One turn of the search for the oldest record. -/
def older (o : Option LogRec) (r : LogRec) : Option LogRec :=
  match o with
  | none => some r
  | some b => if serialGe r.seq b.seq then some b else some r

theorem victim_eq_foldl : l.victim sev = (l.recs.filter fun r => r.overwritable sev).foldl older none := rfl

theorem older_eq_or (o : Option LogRec) (r : LogRec) : older o r = o ∨ older o r = some r := by
  cases o with
  | none => exact .inr rfl
  | some b => exact (ite_eq_or_eq (P := serialGe r.seq b.seq = true) (some b) (some r))

/-- The record that is overwritten is one of the log's that may be. -/
theorem victim_replaceable (h : l.victim sev = some v) : v ∈ l.recs ∧ replaceable v sev := by
  have hmem : ∀ x, l.victim sev = some x → x ∈ l.recs.filter fun r => r.overwritable sev := by
    rw [victim_eq_foldl]
    refine List.foldlRecOn (motive := fun o : Option LogRec => ∀ x, o = some x → x ∈ l.recs.filter fun r => r.overwritable sev)
      _ _ ?_ fun o ho r hr x hx => ?_
    · exact nofun
    · rcases older_eq_or o r with e | e
      · exact ho x (e ▸ hx)
      · exact Option.some.inj (e.symm.trans hx) ▸ hr
  obtain ⟨hv, hsev⟩ := List.mem_filter.mp (hmem v h)
  exact ⟨hv, (overwritable_iff v).mp hsev⟩

theorem victim_eq_none (h : ∀ x ∈ l.recs, ¬ replaceable x sev) : l.victim sev = none := by
  have hnil : (l.recs.filter fun r => r.overwritable sev) = [] :=
    List.filter_eq_nil_iff.mpr fun x hx hsev => h x hx ((overwritable_iff x).mp hsev)
  rw [EvtLog.victim, hnil, List.foldl_nil]

/-- Within half the number range from a base, serial order is the order of the distances from the base (R414). -/
theorem serialGe_iff {a b base : BitVec 32} (ha : (a - base).toNat < 2 ^ 31) (hb : (b - base).toNat < 2 ^ 31) :
    serialGe a b = true ↔ (b - base).toNat ≤ (a - base).toNat := by
  have hab : a - b = (a - base) - (b - base) := by bv_omega
  rw [serialGe, decide_eq_true_iff, hab, BitVec.toNat_sub]
  omega

/-- While all sequence numbers are within half the range of a base, the oldest record is the one at the least distance from it. -/
theorem foldl_older_eq {base : BitVec 32} (m : List LogRec) (o : Option LogRec) (hm : ∀ x ∈ m, (x.seq - base).toNat < 2 ^ 31)
    (ho : ∀ x, o = some x → (x.seq - base).toNat < 2 ^ 31) :
    m.foldl older o = m.foldl (List.argAux fun b c => (b.seq - base).toNat < (c.seq - base).toNat) o := by
  induction m generalizing o with
  | nil => rfl
  | cons a m ih =>
    have ha := hm a (List.mem_cons_self ..)
    have hstep : older o a = List.argAux (fun b c => (b.seq - base).toNat < (c.seq - base).toNat) o a := by
      cases o with
      | none => rfl
      | some b =>
        simp only [older, List.argAux, serialGe_iff ha (ho b rfl), ← Nat.not_lt, ite_not]
    rw [List.foldl_cons, List.foldl_cons, ← hstep]
    refine ih _ (fun x hx => hm x (List.mem_cons_of_mem _ hx)) fun x hx => ?_
    rcases older_eq_or o a with e | e
    · exact ho x (e ▸ hx)
    · exact Option.some.inj (e.symm.trans hx) ▸ ha

theorem victim_eq_argmin {base : BitVec 32} (h : ∀ x ∈ l.recs, (x.seq - base).toNat < 2 ^ 31) :
    l.victim sev = (l.recs.filter fun r => r.overwritable sev).argmin fun x => (x.seq - base).toNat :=
  foldl_older_eq _ none (fun x hx => h x (List.mem_filter.mp hx).1) nofun

/-- A log with records that may be overwritten gives up the oldest of them (R418). -/
theorem victim_oldest {s : State} (hord : seqsOrdered s) (h : ∃ x ∈ s.evt.recs, replaceable x sev) :
    ∃ v, s.evt.victim sev = some v ∧ ∀ x ∈ s.evt.recs, replaceable x sev → serialGe x.seq v.seq = true := by
  obtain ⟨base, hbase⟩ := hord
  obtain ⟨y, hy, hysev⟩ := h
  have harg := victim_eq_argmin (sev := sev) hbase
  cases hv : s.evt.victim sev with
  | none =>
    have hnil := List.argmin_eq_none.mp (harg.symm.trans hv)
    exact absurd hysev fun hr => List.filter_eq_nil_iff.mp hnil y hy ((overwritable_iff y).mpr hr)
  | some v =>
    refine ⟨v, rfl, fun x hx hsev => ?_⟩
    have hx' : x ∈ s.evt.recs.filter fun r => r.overwritable sev := List.mem_filter.mpr ⟨hx, (overwritable_iff x).mpr hsev⟩
    have hle := List.le_of_mem_argmin (f := fun x : LogRec => (x.seq - base).toNat) hx' (harg.symm.trans hv)
    exact (serialGe_iff (hbase x hx) (hbase v (victim_replaceable hv).1)).mpr hle

end Victims

section Placement

variable {s : State} {r : LogRec}

/-- A record leaves the state beside the log as it was (R417, R418). -/
theorem place_besideLog : besideLog (s.place r) = besideLog s := by
  unfold State.place
  split
  · rw [mirrorEvent_besideLog, copyCritical_besideLog]; rfl
  · split
    · rw [mirrorEvent_besideLog, copyCritical_besideLog]; rfl
    · rfl

/-- While the log is not full, a record takes an empty slot. -/
theorem place_recs_of_room (h : s.evt.recs.length < 8192) : ∃ k, k < 8192 ∧ (∀ x ∈ s.evt.recs, x.slot ≠ k) ∧
    (s.place r).evt.recs = s.evt.recs ++ [{ r with seq := s.evt.nextSeq, slot := k }] := by
  obtain ⟨hlt, hfree⟩ := emptySlots_spec h s.fresh.1
  refine ⟨_, hlt, hfree, ?_⟩
  unfold State.place
  rw [if_pos h]
  exact congrArg EvtLog.recs (copies_evt _)

variable (hfull : s.evt.recs.length = 8192)
include hfull

/-- A full log overwrites the record that gives way, and counts it. -/
theorem place_of_victim {v : LogRec} (hv : s.evt.victim r.sev = some v) :
    (s.place r).evt.recs =
      (s.evt.recs.filter fun x => x.slot != v.slot) ++ [{ r with seq := s.evt.nextSeq, slot := v.slot }] ∧
    (s.place r).regs = (s.bump (ovwField v.sev)).regs := by
  unfold State.place
  rw [if_neg (by omega), hv]
  exact ⟨congrArg EvtLog.recs (copies_evt _), copies_regs _⟩

/-- A full log whose records all stay drops the record, and counts it. -/
theorem place_of_no_victim (hv : s.evt.victim r.sev = none) : s.place r = s.noteDrop r.sev := by
  unfold State.place
  rw [if_neg (by omega), hv]

end Placement

/-- The slots of a log without repeats tell its records apart. -/
theorem eq_of_slot_eq {l : List LogRec} (h : recsOk l) {x y : LogRec} (hx : x ∈ l) (hy : y ∈ l) (e : x.slot = y.slot) : x = y :=
  List.inj_on_of_nodup_map h.2.2 hx hy e

/-- To empty the slot of a record is to take out the record. -/
theorem filter_slot_eq_erase {l : List LogRec} (h : recsOk l) {v : LogRec} (hv : v ∈ l) :
    (l.filter fun x => x.slot != v.slot) = l.erase v := by
  rw [(List.Nodup.of_map _ h.2.2).erase_eq_filter]
  refine List.filter_congr fun x hx => ?_
  rw [Bool.eq_iff_iff, bne_iff_ne, bne_iff_ne]
  exact not_congr ⟨eq_of_slot_eq h hx hv, congrArg _⟩

/-- A CRITICAL record that is not acknowledged stays when a record is placed (R418). -/
theorem critical_mem_place {s : State} {r x : LogRec} (hok : recsOk s.evt.recs) (hx : x ∈ s.evt.recs) (hc : x.sev = .critical)
    (ha : x.acked = false) : x ∈ (s.place r).evt.recs := by
  by_cases hroom : s.evt.recs.length < 8192
  · obtain ⟨k, -, -, hrecs⟩ := place_recs_of_room (r := r) hroom
    exact hrecs ▸ List.mem_append_left _ hx
  have hfull : s.evt.recs.length = 8192 := Nat.le_antisymm hok.1 (Nat.not_lt.mp hroom)
  cases hv : s.evt.victim r.sev with
  | none => rw [place_of_no_victim hfull hv]; exact hx
  | some v =>
    obtain ⟨hvmem, -, hvack⟩ := victim_replaceable hv
    have hne : x.slot ≠ v.slot := fun e => by
      obtain rfl := eq_of_slot_eq hok hx hvmem e
      rw [hvack hc] at ha
      cases ha
    rw [(place_of_victim hfull hv).1]
    exact List.mem_append_left _ (List.mem_filter.mpr ⟨hx, bne_iff_ne.mpr hne⟩)

/-- Settles O51: the three cases of `place` are an empty slot, the oldest record that may go, and a drop. -/
theorem logPlacement : Obligations.LogPlacement := by
  refine ⟨?room, ?overwrite, ?drop, ?critical, ?beside⟩
  case room =>
    intro s r _ hroom
    obtain ⟨k, hlt, hfree, hrecs⟩ := place_recs_of_room (r := r) hroom
    exact ⟨_, hrecs, rfl, hlt, hfree⟩
  case overwrite =>
    intro s r hok hord hfull hex
    obtain ⟨v, hv, hold⟩ := victim_oldest hord hex
    obtain ⟨hvmem, hvsev⟩ := victim_replaceable hv
    obtain ⟨hrecs, hregs⟩ := place_of_victim hfull hv
    rw [filter_slot_eq_erase ((logOk_iff s).mp hok) hvmem] at hrecs
    exact ⟨v, hvmem, hvsev, hold, hrecs, hregs⟩
  case drop =>
    intro s r hfull hnone
    rw [place_of_no_victim hfull (victim_eq_none hnone)]
    exact ⟨rfl, rfl⟩
  case critical => exact fun s r x hok hx hc ha => critical_mem_place ((logOk_iff s).mp hok) hx hc ha
  case beside =>
    intro s r
    have h := place_besideLog (s := s) (r := r)
    exact ⟨(congrArg State.mc h :), (congrArg State.per h :), (congrArg State.pw h :)⟩


end Sys2Proof.Proofs
end

section
/-!
Counters of the event log in the register file, a slot that fails its check (R425), and the acknowledgement of CRITICAL records (R419).
-/
namespace Sys2Proof.Proofs

open Machine Safety Laws

section Defaults

variable {α : Type} {d e : Nat → α}

/-- What a key reads as depends on the default of that key alone. -/
theorem get_congr {j : Nat} (h : d j = e j) (m : List (Nat × α)) : Sparse.get d m j = Sparse.get e m j := by
  induction m with
  | nil => exact h
  | cons x t ih => simp only [Sparse.get, ih]

variable [DecidableEq α]

/-- What a write makes of a list depends on the default of its key alone. -/
theorem set_congr {k : Nat} (h : d k = e k) (m : List (Nat × α)) (v : α) : Sparse.set d m k v = Sparse.set e m k v := by
  induction m with
  | nil => simp only [Sparse.set, h]
  | cons x t ih => simp only [Sparse.set, h, ih]

/-- A write of one register leaves every other alone, whatever each resets to. -/
theorem get_set_other_default {k j : Nat} (hj : j ≠ k) (m : List (Nat × α)) (v : α) :
    Sparse.get e (Sparse.set d m k v) j = Sparse.get e m j := by
  have hk : d k = Function.update e k (d k) k := (Function.update_self k (d k) e).symm
  have he : e j = Function.update e k (d k) j := (Function.update_of_ne hj (d k) e).symm
  rw [set_congr hk, get_congr he, get_set_of_ne m v hj, get_congr he]

/-- A value that an unlisted key does not read as is read back, from a list in canonical form or not. -/
theorem get_set_of_listed (m : List (Nat × α)) {k : Nat} {v : α} (hv : v ≠ d k) : Sparse.get d (Sparse.set d m k v) k = v := by
  induction m with
  | nil =>
    rw [Sparse.set, if_neg hv]
    exact if_pos rfl
  | cons x t ih =>
    simp only [Sparse.set, if_neg hv]
    split
    · exact if_pos rfl
    split
    · exact if_pos rfl
    case isFalse hk => exact (if_neg (Ne.symm hk)).trans ih

end Defaults

section Counters

variable {s : State} {f g : Field} {i j i' j' : Nat}

/-- A bit of a field that is set. -/
theorem fieldPut_getLsbD (hf : f.lo + f.width ≤ 32) (w : Word) (v : Nat) {k : Nat} (hk : k < f.width) :
    (f.put w v).getLsbD (f.lo + k) = v.testBit k := by
  have h32 : f.lo + k < 32 := by omega
  have hlo : k < 32 := by omega
  simp only [Field.put, Field.mask, BitVec.getLsbD_or, BitVec.getLsbD_and, BitVec.getLsbD_not, BitVec.getLsbD_shiftLeft,
    BitVec.getLsbD_ofNat]
  simp [hk, h32, hlo]

/-- A field that is set is read back modulo its width. -/
theorem fieldGet_put (hf : f.lo + f.width ≤ 32) (w : Word) (v : Nat) : f.get (f.put w v) = v % 2 ^ f.width := by
  refine Nat.eq_of_testBit_eq fun k => ?_
  by_cases hk : k < f.width
  · simpa [Field.get, hk, BitVec.testBit_toNat] using fieldPut_getLsbD hf w v hk
  · simp [Field.get, hk]

/-- A counter whose register resets to 0 counts one and saturates. -/
theorem fld_bump_same (hf : f.lo + f.width ≤ 32) (hw : 0 < f.width) (hreset : f.reg.resetWord i j f.word = 0) :
    (s.bump f i j).fld f i j = min (2 ^ f.width - 1) (s.fld f i j + 1) := by
  have hpow : 1 < 2 ^ f.width := Nat.one_lt_two_pow (Nat.pos_iff_ne_zero.mp hw)
  have hget := fieldGet_put hf (s.regAt f.reg i j f.word) (min (2 ^ f.width - 1) (s.fld f i j + 1))
  rw [Nat.mod_eq_of_lt (by omega)] at hget
  have hlisted : f.put (s.regAt f.reg i j f.word) (min (2 ^ f.width - 1) (s.fld f i j + 1)) ≠ f.reg.resetWord i j f.word := by
    intro h0
    rw [h0, hreset] at hget
    have hzero : f.get 0 = 0 := by simp [Field.get]
    omega
  have hread := get_set_of_listed (d := fun _ => f.reg.resetWord i j f.word) s.regs (k := f.reg.offset i j f.word) hlisted
  exact (congrArg f.get hread).trans hget

/-- A field that is set leaves the fields of every other register alone. -/
theorem fld_setFld_of_ne (v : Nat) (hoff : g.reg.offset i' j' g.word ≠ f.reg.offset i j f.word) :
    (s.setFld f v i j).fld g i' j' = s.fld g i' j' :=
  congrArg g.get (get_set_other_default hoff s.regs _)

/-- So does a counter that counts. -/
theorem fld_bump_of_ne (hoff : g.reg.offset i' j' g.word ≠ f.reg.offset i j f.word) : (s.bump f i j).fld g i' j' = s.fld g i' j' :=
  fld_setFld_of_ne _ hoff

end Counters

/-- Settles O56: the slot is emptied, and the counter of failed slots has a register of its own. -/
theorem logSlotCheckFails : Obligations.LogSlotCheckFails := by
  refine fun k s => ⟨_, rfl, fun x => ?emptied, ?counted, fun v => ?others⟩
  case emptied =>
    change x ∈ s.evt.recs.filter (fun r => r.slot != k.val) ↔ _
    rw [List.mem_filter, bne_iff_ne]
  case counted => exact fld_bump_same (by decide) (by decide) rfl
  case others =>
    cases v <;> exact ⟨fld_bump_of_ne (by decide), fld_bump_of_ne (by decide)⟩

section Acknowledgement

/-- A record as an acknowledgement up to a sequence number leaves it (R419). -/
def acknowledged (q : BitVec 32) (r : LogRec) : LogRec :=
  if r.sev = .critical ∧ serialGe q r.seq then { r with acked := true } else r

theorem acknowledged_of_acked {q : BitVec 32} {r : LogRec} (h : r.acked = true) : acknowledged q r = r := by
  unfold acknowledged
  split
  · rw [← h]
  · rfl

/-- An acknowledgement goes over the records of the log. -/
theorem evtAck_next (q : BitVec 32) (s : State) :
    exec (.evtAck q) s = .next { s with evt := { s.evt with recs := s.evt.recs.map (acknowledged q) } } := rfl

end Acknowledgement

/-- Settles O57: an acknowledgement maps the records in place, and maps no acknowledged record to another. -/
theorem criticalAcknowledge : Obligations.CriticalAcknowledge := by
  refine fun q s => ⟨_, evtAck_next q s, rfl, fun i => List.getElem?_map .., fun q' => ⟨_, evtAck_next q' _, fun i r hr ha => ?_⟩⟩
  change (List.map (acknowledged q') _)[i]? = some r
  rw [List.getElem?_map, hr, Option.map_some, acknowledged_of_acked ha]

end Sys2Proof.Proofs
end

section
/-!
A firmware request is served at once, waits in a gap of the control complex, or is lost (R377, R384, R480, R481).
-/
namespace Sys2Proof.Proofs

open Machine Safety Laws

section Gaps

variable {s : State} {q : ReqFrom} {c : Instr} {k : State → State}

/-- While the complex runs and no earlier request waits, a request has its effect. -/
theorem request_runs (hr : s.ccRuns = true) (hb : s.buffered = []) : s.request q c k = k s :=
  if_pos ⟨hr, by rw [hb]; rfl⟩

/-- In a gap a request waits behind the earlier ones, where its endpoint has room for it. -/
theorem request_waits (hr : s.ccRuns = false) (hoff : s.mc.mode ≠ .off) (hstandby : s.mc.mode ≠ .standby) (hhalted : s.cc.gap ≠ .halted)
    (hdead : s.cc.gap ≠ .dead) (hroom : q.managed = true → s.buffered.countP (fun h => h.1.managed) < 8) :
    s.request q c k = { s with buffered := s.buffered ++ [(q, c)] } := by
  refine (if_neg fun h => ?_).trans ((if_neg ?_).trans (if_neg fun h => ?_))
  · exact ne_true_of_eq_false hr h.1
  · simp [hoff, hstandby, hhalted, hdead]
  · exact Nat.not_le.mpr (hroom h.1) h.2

/-- A halted complex answers no request. -/
theorem request_lost (hr : s.ccRuns = false) (hgap : s.cc.gap = .halted) : s.request q c k = s :=
  (if_neg fun h => ne_true_of_eq_false hr h.1).trans (if_pos (.inr (.inr (.inl hgap))))

/-- A management message reaches the firmware where its bus reaches the controller (R481). -/
theorem managed_eq_request (h : s.bmcBar = true) (b : Fin 2) (ty cmd : Nat) : s.managed b ty cmd c k = s.request (.mgmt b.val ty cmd) c k :=
  if_neg (by simp [h])

/-- The island answers where the bus reaches the controller (R481). -/
theorem island_runs (h : s.bmcBar = true) : s.island k = k s := if_pos h

end Gaps

/-- Settles O43: a request of the BMC in a gap and on a halted complex, a mailbox command in a gap, and one that its mode does not permit.
That a gap buffers requests is the model's choice (log entry 90), the return code 7 the CXL specification's (log entry 80). -/
theorem requestsInGap : Obligations.RequestsInGap := by
  refine ⟨?waits, ?lost, ?mailboxWaits, ?refused⟩
  case waits =>
    intro b s hbar hr hoff hstandby hhalted hdead hroom
    exact congrArg Host.Outcome.next ((managed_eq_request hbar ..).trans
      (request_waits hr hoff hstandby hhalted hdead fun _ => hroom))
  case lost =>
    intro b s hbar hr hgap
    exact congrArg Host.Outcome.next ((managed_eq_request hbar ..).trans (request_lost hr hgap))
  case mailboxWaits =>
    intro p ld s hm hr hoff hstandby hhalted hdead
    exact congrArg Host.Outcome.next ((if_neg (by simp [hm])).trans (request_waits hr hoff hstandby hhalted hdead nofun))
  case refused =>
    intro p ld s hm hr hb hperm
    refine congrArg Host.Outcome.next ((if_neg (by simp [hm])).trans ((request_runs hr hb).trans ?_))
    exact if_neg (ne_true_of_eq_false hperm)

end Sys2Proof.Proofs
end

section
/-!
Alarms, entropy and attestation (R364 to R366, R369).
-/
namespace Sys2Proof.Proofs

open Machine Safety Laws

section Alarms

variable {s : State}

/-- An alarm source trips and is counted (R365). -/
def tripped (s : State) (src : Fin 4) : State :=
  { s with sec := { s.sec with
    latched := s.sec.latched ||| BitVec.twoPow 4 src.val, active := s.sec.active ||| BitVec.twoPow 4 src.val
    alarms := if s.sec.alarms = 0xFFFF#16 then s.sec.alarms else s.sec.alarms + 1 } }

/-- The line of a write in a pipe is stored poisoned and its region marked DAMAGED (R365). -/
def poisonWrite (s : State) (l : Nat) : State :=
  match s.regionOf (64 * l) with
  | some (i, _) => (s.setLine l poisonLine 2).markDamaged i
  | none => s

/-- The state of an alarm before its record. -/
def alarmed (s : State) (src : Fin 4) (ws : List Nat) : State := ws.foldl poisonWrite ((tripped s src).zeroise .hold)

/-- An alarm trips but for the mesh while it is not armed (R365). -/
theorem alarmZeroise_trips {src : Fin 4} {ws : List Nat} {n : Nat} (hmesh : src.val = 3 → s.flag SEC_CTL_MESH_EN = true) :
    exec (.alarmZeroise src ws n) s = .next ((alarmed s src ws).log 0x7010 .critical srcSec (alarmed s src ws).sec.latched.toNat
      (s.sec.slots.countP fun e => e.2.st == .loaded) (ws.length + n)) :=
  congrArg Host.Outcome.next (if_neg fun h => by simp [hmesh h.1] at h)

/-- An alarm of a sensor other than the mesh, whose count has not run out, with no write in the pipes (R365). -/
theorem alarmZeroise_noWrites {k : Fin 4} {n : Nat} {u : State} (hk : k.val ≠ 3) (hcount : s.sec.alarms ≠ 0xFFFF#16)
    (hu : u = ({ s with sec := { s.sec with
      latched := s.sec.latched ||| BitVec.twoPow 4 k.val, active := s.sec.active ||| BitVec.twoPow 4 k.val
      alarms := s.sec.alarms + 1 } } : State).zeroise .hold) :
    exec (.alarmZeroise k [] n) s = .next (u.log 0x7010 .critical srcSec u.sec.latched.toNat
      (s.sec.slots.countP fun e => e.2.st == .loaded) n) := by
  have halarmed : alarmed s k [] = u := by rw [hu, alarmed, List.foldl_nil, tripped, if_neg hcount]
  rw [alarmZeroise_trips fun h => absurd h hk, halarmed, List.length_nil, Nat.zero_add]

/-- With every latched bit cleared the store leaves HOLD; without an HKEK it is UNPROVISIONED (R366; log entry 62). -/
theorem alarmClear_unprovisioned (hlatched : s.sec.latched ≠ 0) (hold : s.sec.store = .hold) (hcheck : s.sec.check = none) :
    exec (.alarmClear s.sec.latched 15) s = .next (({ s with sec := { s.sec with
      latched := 0, active := 0, reseeds := s.sec.reseeds + 1 } }).setStore .unprovisioned) := by
  have hcleared : s.sec.latched &&& ~~~(s.sec.latched &&& 15) = 0 := by
    rw [show (15 : BitVec 4) = BitVec.allOnes 4 from rfl, BitVec.and_allOnes, BitVec.and_not_self]
  have hactive : s.sec.active &&& ~~~15 = 0 := BitVec.and_zero
  change execAlarmClear s.sec.latched 15 s = _
  simp only [execAlarmClear, hcleared, hactive, if_pos hlatched.symm, hold, hcheck, and_self, if_true, Option.isSome_none,
    Bool.false_eq_true, if_false]

end Alarms

section Sources

variable {s : State}

theorem entropyFail_healthy {k : Fin 3} (h : s.sec.entropyOk = true) :
    exec (.entropyFail k) s = .next (({ s with sec := { s.sec with entropyOk := false } }).log 0x7020 .critical srcSec k.val) :=
  congrArg Host.Outcome.next (if_pos h)

theorem maskDegraded_first {n : Nat} (hfail : s.sec.entropyOk = false) (hfirst : s.sec.maskDegraded = false) :
    exec (.maskDegraded n) s = .next (({ s with sec := { s.sec with maskDegraded := true } }).log 0x7021 .error srcSec n) :=
  congrArg Host.Outcome.next (if_neg (by simp [hfail, hfirst]))

theorem drbgReseed_healthy (h : s.sec.entropyOk = true) :
    exec .drbgReseed s = .next { s with sec := { s.sec with reseeds := s.sec.reseeds + 1 } } :=
  congrArg Host.Outcome.next (if_pos h)

end Sources

section Attestation

variable {s : State} (hr : s.ccRuns = true) (hb : s.buffered = [])
include hr hb

/-- An authenticated requester gets the measurement it asks for (R369; its content is log entry 63). -/
theorem spdmGetMeasurements_auth {c : SpdmTransport} {i : Fin 9} :
    exec (.spdmGetMeasurements c i true) s = .next (s.emit (.spdm c.code 1 true (s.measurement i.val))) :=
  congrArg Host.Outcome.next (request_runs hr hb)

/-- A session on DOE opens while its share has room and the entropy source is healthy (R364, R369). -/
theorem spdmKeyExchange_doe {b : Bool} (hok : s.sec.entropyOk = true) (hroom : s.sec.doeSessions < 4) :
    exec (.spdmKeyExchange .doe true b) s = .next (({ s with sec := { s.sec with
      doeSessions := s.sec.doeSessions + 1, keyManager := s.sec.keyManager || b } }).emit (.spdm 1 2 true [])) :=
  congrArg Host.Outcome.next ((request_runs hr hb).trans (if_neg (by simp [hok, hroom])))

end Attestation

/-- Settles O29: each clause is one of the lemmas above; the recovery of the source has no condition and is the model's own equation. -/
theorem alarmsAndAttestation : Obligations.AlarmsAndAttestation := by
  refine ⟨?alarm, ?clear, ?fail, ?mask, fun _ => rfl, ?reseed, ?measure, ?exchange⟩
  case alarm => exact fun _ _ _ _ hk hcount hu => alarmZeroise_noWrites hk hcount hu
  case clear =>
    rintro _ s rfl hlatched hold hcheck
    exact alarmClear_unprovisioned hlatched hold hcheck
  case fail => exact fun _ _ h => entropyFail_healthy h
  case mask => exact fun _ _ hfail hfirst => maskDegraded_first hfail hfirst
  case reseed => exact fun _ h => drbgReseed_healthy h
  case measure => exact fun _ _ _ hr hb => spdmGetMeasurements_auth hr hb
  case exchange => exact fun _ _ hr hb hok hroom => spdmKeyExchange_doe hr hb hok hroom

end Sys2Proof.Proofs
end

section
/-!
What leaves the security unit and the test unit alone: records, mode changes, completions, the twin link leaving UP, and commits of the
region table.
-/
namespace Sys2Proof.Proofs

open Machine Safety Laws

/-- The security unit and the test unit. -/
def secTests (s : State) : Security × Tests := (s.sec, s.tests)

section Frames

variable {s : State}

/-- A loop whose every turn leaves both units alone does so too. -/
theorem foldl_secTests {α : Type} {f : State → α → State} (hf : ∀ s a, secTests (f s a) = secTests s) (l : List α) (s : State) :
    secTests (l.foldl f s) = secTests s :=
  List.foldlRecOn (motive := fun t => secTests t = secTests s) l f rfl fun t ht a _ => (hf t a).trans ht

@[simp] theorem platformEvent_secTests (e : PlatformEvent) : secTests (s.platformEvent e) = secTests s := by
  unfold State.platformEvent
  split <;> rfl

@[simp] theorem sensorChange_secTests (id v : Nat) : secTests (s.sensorChange id v) = secTests s := platformEvent_secTests _

@[simp] theorem stackSensor_secTests (base v : Nat) : secTests (s.stackSensor base v) = secTests s := by
  unfold State.stackSensor
  split
  · rfl
  · exact sensorChange_secTests _ _

@[simp] theorem log_secTests (code : Nat) (sev : Sev) (src w4 w5 w6 w7 : Nat) :
    secTests (s.log code sev src w4 w5 w6 w7) = secTests s :=
  (congrArg secTests (log_besideLog (s := s) code sev src w4 w5 w6 w7) :)

@[simp] theorem setMode_secTests (m : Mode) (t : Trigger) : secTests (s.setMode m t) = secTests s := by
  unfold State.setMode
  dsimp only
  rw [log_secTests, stackSensor_secTests, sensorChange_secTests]
  rfl

@[simp] theorem setCauses_secTests (c : BitVec 5) : secTests { s with mc := { s.mc with causes := c } } = secTests s := rfl

@[simp] theorem reeval_secTests (t : Trigger) : secTests (s.reeval t) = secTests s := by
  unfold State.reeval
  dsimp only
  repeat' split
  all_goals simp

@[simp] theorem setDirties_secTests (ks : List Nat) : secTests (s.setDirties ks) = secTests s := by
  unfold State.setDirties State.absorbCopies State.restartRange
  dsimp only
  rw [reeval_secTests]
  repeat' split
  all_goals rfl

@[simp] theorem record_secTests (src : CmdSrc) (st : Status) (param : Nat) (long final : Bool) :
    secTests (s.record src st param long final) = secTests s := by
  unfold State.record
  dsimp only
  repeat' split
  all_goals rfl

@[simp] theorem finishWrite_secTests (req : Requester) : secTests (s.finishWrite req) = secTests s := by
  unfold State.finishWrite
  cases req with
  | internal => rfl
  | op k n => rfl
  | host p ld tag =>
    dsimp only
    split <;> rfl
  | btt st m n =>
    dsimp only [State.bttFlushed]
    split <;> rfl
  | rdma q psn n =>
    dsimp only [State.answerPend]
    refine (foldl_secTests (fun s e => ?_) _ _).trans rfl
    repeat' split
    all_goals rfl

@[simp] theorem finishLocal_secTests (req : Requester) : secTests (s.finishLocal req) = secTests s := by
  unfold State.finishLocal
  split
  · rfl
  · exact finishWrite_secTests req

@[simp] theorem dropCopies_secTests (cs : List TwinCopy) : secTests (s.dropCopies cs) = secTests s := by
  unfold State.dropCopies
  refine (foldl_secTests (fun s c => ?_) _ _).trans (setDirties_secTests _)
  split
  · rfl
  · exact finishLocal_secTests _

@[simp] theorem endMirrorFences_secTests : secTests s.endMirrorFences = secTests s := by
  unfold State.endMirrorFences
  refine (foldl_secTests (fun s f => record_secTests ..) _ _).trans ((foldl_secTests (fun s p => record_secTests ..) _ _).trans
    ((foldl_secTests (fun s o => ?_) _ _).trans rfl))
  exact (foldl_secTests (fun s c => record_secTests ..) _ _).trans (record_secTests ..)

@[simp] theorem setTwinState_secTests (st : TwinState) (cause : Nat) : secTests (s.setTwinState st cause) = secTests s := by
  unfold State.setTwinState
  dsimp only
  split
  · rfl
  · rw [reeval_secTests, log_secTests, sensorChange_secTests]
    rfl

/-- The twin link that leaves UP (R247) touches neither unit. -/
@[simp] theorem leaveUp_secTests (st : TwinState) (cause : Nat) : secTests (s.leaveUp st cause) = secTests s := by
  unfold State.leaveUp
  split
  · rw [endMirrorFences_secTests]
    refine (foldl_secTests (fun s w => finishLocal_secTests _) _ _).trans ?_
    rw [dropCopies_secTests, setTwinState_secTests]
    rfl
  · exact setTwinState_secTests st cause

end Frames

section Commits

variable {s : State}

@[simp] theorem setLine_secTests (l src : Nat) (x : Line) : secTests (s.setLine l x src) = secTests s := by
  unfold State.setLine State.listPoison
  dsimp only
  repeat' split
  all_goals rfl

@[simp] theorem pushCxl_secTests (p ld log kind : Nat) (x : Option LogRec) (base size : Nat) :
    secTests (s.pushCxl p ld log kind x base size) = secTests s :=
  (congrArg secTests (pushCxl_besideLog (s := s) p ld log kind x base size) :)

@[simp] theorem capacityEvent_secTests (p ld kind i base size : Nat) : secTests (s.capacityEvent p ld kind i base size) = secTests s := by
  unfold State.capacityEvent
  dsimp only
  repeat' split
  · rfl
  all_goals exact pushCxl_secTests ..

@[simp] theorem extentsChanged_secTests (i : Nat) (old new : Region) (oldSet newSet : BitVec 128) :
    secTests (s.extentsChanged i old oldSet new newSet) = secTests s := by
  unfold State.extentsChanged
  dsimp only
  repeat' split
  all_goals simp [foldl_secTests]

@[simp] theorem mirrorChanged_secTests (i : Nat) (old new : Region) : secTests (s.mirrorChanged i old new) = secTests s := by
  have hctrl (s : State) (ws : List Nat) : secTests (s.queueCtrl ws) = secTests s := rfl
  have htwin (s : State) (x : Twin) : secTests { s with twin := x } = secTests s := rfl
  unfold State.mirrorChanged
  dsimp only
  repeat' split
  all_goals simp [foldl_secTests, hctrl, htwin]

/-- What follows a changed entry of the region table (R59 to R62, R228, R275). -/
@[simp] theorem afterEntry_secTests (i : Nat) (old new : Region) (oldSet : BitVec 128) :
    secTests (s.afterEntry i old oldSet new) = secTests s := by
  have htrim (s : State) (lo n : Nat) : secTests (s.trimPages lo n) = secTests s := rfl
  have hrelease (s : State) (lo n : Nat) : secTests (s.releaseRange lo n) = secTests s := rfl
  have hinval (s : State) (lo n : Nat) : secTests (s.invalidatePages lo n) = secTests s := rfl
  have hcount (s : State) (r : Region) (b : Bool) : secTests (s.countRegion r b) = secTests s := rfl
  have hbinds (s : State) (i : Nat) (old new : Region) (a b : BitVec 128) : secTests (s.noteBinds i old a new b) = secTests s := rfl
  have hkeys (s : State) (i : Nat) : secTests (s.dropRdmaKeys i) = secTests s := rfl
  unfold State.afterEntry
  simp only [apply_ite secTests, htrim, hrelease, hinval, hcount, hbinds, hkeys, extentsChanged_secTests, mirrorChanged_secTests, ite_self]

@[simp] theorem bumpCdat_secTests (p ld : Nat) : secTests (s.bumpCdat p ld) = secTests s := by
  unfold State.bumpCdat
  dsimp only
  rw [log_secTests]
  rfl

/-- A commit of the region table touches neither unit (R63). -/
@[simp] theorem commit_secTests (c : Commit) : secTests (s.commit c) = secTests s := by
  have hcdats (s : State) (b : BitVec 128) : secTests (s.bumpCdats b) = secTests s :=
    foldl_secTests (fun _ _ => bumpCdat_secTests ..) _ _
  unfold State.commit State.commitEdge
  split
  · rfl
  · dsimp only
    rw [reeval_secTests, hcdats]
    refine (foldl_secTests (fun s o => afterEntry_secTests ..) _ _).trans ?_
    rw [log_secTests]
    refine (foldl_secTests (fun _ _ => ?_) _ _).trans rfl
    rfl

@[simp] theorem markDamaged_secTests (i : Nat) : secTests (s.markDamaged i) = secTests s := by
  unfold State.markDamaged
  dsimp only
  split
  · exact commit_secTests _
  · rfl

end Commits

section Zeroise

variable {s t : State}

/-- A key slot without its working key: SEALED where a stored copy is left, else EMPTY (R361). -/
def sealedSlot (x : KeySlot) : KeySlot :=
  let st : KeyState := if x.stored.isSome then .sealed else .empty
  { x with st := st, gen := if st = x.st then x.gen else x.gen + 1, key1 := 0, key2 := 0 }

/-- The security unit once its keys are overwritten, with the store in a state (R365, R461). -/
def zeroised (x : Security) (st : StoreState) : Security :=
  { x with swk := none, slots := x.slots.map fun e => (e.1, sealedSlot e.2), store := st
           doeSessions := 0, mctpSessions := 0, twinSessions := 0, keyManager := false }

theorem lockStore_secTests (st : StoreState) : secTests (s.lockStore st) =
    ({ s.sec with swk := none, slots := s.sec.slots.map fun e => (e.1, sealedSlot e.2), store := st }, s.tests) := by
  unfold State.lockStore State.setStore
  exact sensorChange_secTests _ _

/-- Every link and session key is overwritten but those of IDE (R365). -/
def sessionsEnded (s : State) : State :=
  { s with sec := { s.sec with doeSessions := 0, mctpSessions := 0, twinSessions := 0, keyManager := false }
           twin := { s.twin with session := false, rekeying := false } }

/-- A link loses its IDE keys (R365). -/
def ideEnded (s : State) (k : Nat) : State :=
  let x := s.linkAt (k / 4) (k % 4)
  if x.ide = 1 then (s.setLink (k / 4) (k % 4) { x with ide := 2 }).log 0x4007 .error (srcPort (k / 4)) (k / 4 + 16 * (k % 4)) 0 else s

theorem ideEnded_secTests (s : State) (k : Nat) : secTests (ideEnded s k) = secTests s := by
  unfold ideEnded
  dsimp only
  split
  · exact log_secTests ..
  · rfl

/-- The twin link goes down for want of its session key (R365; its cause is log entry 62). -/
def twinEnded (s : State) : State :=
  if s.twin.link = .up ∨ s.twin.link = .stopped then s.fresh.2.leaveUp .absent (s.fresh.1 % 2 ^ 32) else s

theorem zeroise_eq (st : StoreState) : s.zeroise st = twinEnded ((List.range 32).foldl ideEnded (sessionsEnded (s.lockStore st))) := by
  unfold State.zeroise
  generalize List.range 32 = l
  rfl

/-- Overwriting the keys changes the security unit to its zeroised form and leaves the tests alone. -/
theorem zeroise_secTests (st : StoreState) : secTests (s.zeroise st) = (zeroised s.sec st, s.tests) := by
  have htwin (s : State) : secTests (twinEnded s) = secTests s := by
    unfold twinEnded
    split
    · exact leaveUp_secTests _ _
    · rfl
  obtain ⟨hsec, htests⟩ := Prod.mk.inj (lockStore_secTests (s := s) st)
  rw [zeroise_eq, htwin, foldl_secTests ideEnded_secTests]
  simp only [secTests, sessionsEnded, hsec, htests, zeroised]

/-- The fields of a state whose security unit and tests are known. -/
theorem secTests_eq_iff {x : Security} {y : Tests} : secTests t = (x, y) ↔ t.sec = x ∧ t.tests = y := Prod.mk.injEq .. ▸ Iff.rfl

theorem zeroise_sec_tests (st : StoreState) : (s.zeroise st).sec = zeroised s.sec st ∧ (s.zeroise st).tests = s.tests :=
  secTests_eq_iff.mp (zeroise_secTests st)

/-- No slot of a store that was zeroised holds a working key. -/
theorem zeroised_slot_ne_loaded (l : List (Nat × KeySlot)) (k : Nat) :
    (Sparse.get (fun _ => KeySlot.empty) (l.map fun e => (e.1, sealedSlot e.2)) k).st ≠ .loaded := by
  induction l with
  | nil => exact nofun
  | cons e l ih =>
    rw [List.map_cons, Sparse.get]
    split
    · unfold sealedSlot
      dsimp only
      split <;> decide
    · exact ih

theorem keyLoaded_zeroised {x : Security} {st : StoreState} (h : t.sec = zeroised x st) (k : Nat) : t.keyLoaded k = false := by
  rw [State.keyLoaded, State.keySlot, h]
  exact beq_eq_false_iff_ne.mpr (zeroised_slot_ne_loaded _ _)

end Zeroise

end Sys2Proof.Proofs
end

section
/-!
The zeroisation alarm and the lines of writes in the pipes (R365).
-/
namespace Sys2Proof.Proofs

open Machine Safety Laws

section Keys

variable {s : State}

theorem poisonWrite_secTests (s : State) (l : Nat) : secTests (poisonWrite s l) = secTests s := by
  unfold poisonWrite
  split
  · rw [markDamaged_secTests, setLine_secTests]
  · rfl

/-- After an alarm that trips no key is loaded, the wrapping key is gone and the store is in HOLD, whatever the pipes hold (R365): what O58
says of the keys. -/
theorem alarm_leaves_no_key {src : Fin 4} {ws : List Nat} {n : Nat} (hmesh : src.val = 3 → s.flag SEC_CTL_MESH_EN = true) :
    ∃ t, exec (.alarmZeroise src ws n) s = .next t ∧ (∀ k, t.keyLoaded k = false) ∧ t.sec.swk = none ∧ t.sec.store = .hold := by
  refine ⟨_, alarmZeroise_trips hmesh, ?_⟩
  generalize ht : State.log _ _ _ _ _ _ _ _ = t
  have hunits : secTests t = (zeroised (tripped s src).sec .hold, s.tests) := by
    rw [← ht, log_secTests, alarmed, foldl_secTests poisonWrite_secTests, zeroise_secTests]
    rfl
  have hsec : t.sec = zeroised (tripped s src).sec .hold := congrArg Prod.fst hunits
  exact ⟨keyLoaded_zeroised hsec, by rw [hsec]; rfl, by rw [hsec]; rfl⟩

end Keys

/-- A SCRATCH region of 2 MiB whose frames a release has made INVALID and that no write has reached since (R52). -/
def releasedRegion : Region := { Region.empty with valid := true, released := true, cls := .scratch, size := 1, ownerSet := 1 }

/-- A controller in SERVICE whose one region is released, with its key loaded; all its sparse maps are canonical. -/
def releasedScratch : State :=
  { State.reset with
    mc := { State.reset.mc with mode := .service }
    rgn := { State.reset.rgn with table := [(0, releasedRegion)], sets := [(1, 1)] }
    sec := { State.reset.sec with slots := [(0, { KeySlot.empty with st := .loaded })] } }

/-- The voltage alarm trips with a write to line 0 in a pipe. The poisoned line marks its region DAMAGED, and the commit of that entry,
which is still RELEASED, marks the frames INVALID again (R52, R63) and so drops the line that was just stored. -/
theorem alarm_drops_poisoned_line : ∃ t, exec (.alarmZeroise 0 [0] 0) releasedScratch = .next t ∧ (t.line 0).poison = false :=
  ⟨_, rfl, by decide +kernel⟩

/-- Refutes O58: the poisoned line of a write into a released SCRATCH region is dropped with the frames of the region. What the statement
says of the keys holds (`alarm_leaves_no_key`). -/
theorem not_alarmLeavesNoKey : ¬ Obligations.AlarmLeavesNoKey := by
  intro h
  obtain ⟨t, ht, -, -, -, hpoison⟩ := h 0 [0] 0 releasedScratch (by decide)
  obtain ⟨u, hu, hdropped⟩ := alarm_drops_poisoned_line
  obtain rfl : t = u := Host.Outcome.next.inj (ht.symm.trans hu)
  have hstored := hpoison 0 (List.mem_singleton_self 0) (by decide +kernel)
  rw [hdropped] at hstored
  cases hstored

end Sys2Proof.Proofs
end

section
/-!
The code flash: requests, pulses, suspension, the brown-out, the record port and the erase of a session's slot (R389 to R395, R401).
-/
namespace Sys2Proof.Proofs

open Machine Safety Laws

section FlashRequests

variable {s : State} {off : Nat}

/-- A program of erased words outside the golden image, the configuration and the execution bank is taken (R387 to R390). -/
theorem flashProgram_taken {ws : List (BitVec 256)} (hn : ws ≠ []) (halign : off % 32 = 0) (hend : off + 32 * ws.length ≤ flashBytes)
    (hgold : inGolden off = false) (hgold' : inGolden (off + 32 * ws.length - 1) = false)
    (hspan : ¬ (off < 0x40000 ∧ 0x440000 ≤ off + 32 * ws.length - 1)) (hconf : inConfig off = false)
    (hconf' : inConfig (off + 32 * ws.length - 1) = false) (hbank : flashBank off ≠ s.flash.execBank)
    (hbank' : flashBank (off + 32 * ws.length - 1) ≠ s.flash.execBank) (hfree : s.writtenWord off ws.length = none) :
    exec (.flashProgram off ws) s = .next ((s.flashAnswer .ok).beginFlash ⟨flashBank off, false, off, ws, 0, none, 0, false⟩) := by
  have hvalid : ¬ (ws.length = 0 ∨ off % 32 ≠ 0 ∨ flashBytes < off + 32 * ws.length ∨ inGolden off = true ∨
      inGolden (off + 32 * ws.length - 1) = true ∨ (off < 0x40000 ∧ 0x440000 ≤ off + 32 * ws.length - 1)) := by
    simp only [not_or]
    exact ⟨mt List.length_eq_zero_iff.mp hn, not_not_intro halign, Nat.not_lt.mpr hend, ne_true_of_eq_false hgold,
      ne_true_of_eq_false hgold', hspan⟩
  have hplain : ¬ (inConfig off = true ∨ inConfig (off + 32 * ws.length - 1) = true) := by simp [hconf, hconf']
  change execFlashProgram off ws s = _
  simp only [execFlashProgram, if_neg hvalid, hplain, false_and, if_false, hbank, hbank', or_self, hfree]

/-- An erase of sectors outside the golden image, the configuration and the execution bank, which the mode allows, is taken (R387 to
R390, R394). -/
theorem flashErase_taken {n : Nat} (hn : n ≠ 0) (halign : off % sectorBytes off = 0) (hend : off + sectorsBytes off n ≤ flashBytes)
    (hgold : (sectorsOf off n).any inGolden = false) (hconf : (sectorsOf off n).any inConfig = false)
    (hbank : ((sectorsOf off n).any fun x => flashBank x == s.flash.execBank) = false)
    (hmay : (sectorsOf off n).all s.mayErase = true) :
    exec (.flashErase off n) s = .next ((s.flashAnswer .ok).beginFlash ⟨flashBank off, true, off, [], n, none, 0, false⟩) := by
  have hvalid : ¬ (n = 0 ∨ off % sectorBytes off ≠ 0 ∨ flashBytes < off + sectorsBytes off n ∨
      (sectorsOf off n).any inGolden = true) := by
    simp only [not_or]
    exact ⟨hn, not_not_intro halign, Nat.not_lt.mpr hend, ne_true_of_eq_false hgold⟩
  change execFlashErase off n s = _
  simp only [execFlashErase, if_neg hvalid, hconf, hbank, hmay, Bool.false_eq_true, false_and, if_false, Bool.not_true]

end FlashRequests

section Pulses

variable {s : State} {bank : Fin 2} {o : FlashOp}

/-- A pulse that passes leaves the rest of its operation, and waiting requests start, while no watchdog expiry waits (R382, R389). -/
theorem flashPulseDone_pass (hop : (s.flash.ops.find? fun o => o.bank == bank.val && o.suspended.isNone) = some o)
    (hdef : (s.pulse o).1.cc.deferred = none) :
    exec (.flashPulseDone bank .pass) s = .next ((s.pulse o).1.setFlashOp o (s.pulse o).2).startFlash := by
  have hdef' : ((s.pulse o).1.setFlashOp o (s.pulse o).2).cc.deferred = none := hdef
  change execFlashPulseDone bank .pass s = _
  simp only [execFlashPulseDone, hop, hdef']

/-- A suspended operation resumes, with the time of its suspension counted (R391). -/
theorem flashOpResume_suspended {t : Nat} (hop : (s.flash.ops.find? fun o => o.bank == bank.val) = some o) (hsus : o.suspended = some t)
    (hpow : s.flashLow = false) (hdef : s.cc.deferred = none) :
    exec (.flashOpResume bank) s = .next (s.setFlashOp o (some { o with suspended := none, total := o.total + (s.timeNs - t) })) := by
  change execFlashOpResume bank s = _
  simp [execFlashOpResume, hop, hsus, hpow, hdef]

/-- An erase that starves while it runs is logged once, with the time it has spent suspended (R391). -/
theorem flsEraseStarved_running (hop : (s.flash.ops.find? fun o => o.bank == bank.val && o.erase && ! o.starved) = some o)
    (hrun : o.suspended = none) :
    exec (.flsEraseStarved bank) s =
      .next ((s.setFlashOp o (some { o with starved := true })).log 0x803C .notice srcFlash bank.val (o.total / 10 ^ 6)) := by
  change execFlsEraseStarved bank s = _
  simp only [execFlsEraseStarved, hop, hrun, Option.map_none, Option.getD_none, Nat.add_zero]

theorem flsBrownout_first (h : s.flash.brownout = false) :
    exec .flsBrownout s =
      .next (({ s with flash := { s.flash with brownout := true } }).log 0x803D .error srcFlash s.flash.waiting.length) :=
  congrArg Host.Outcome.next (if_neg (ne_true_of_eq_false h))

end Pulses

section RecordPort

variable {s : State}

/-- The copy of an event that the port writes marks the records of its number as copied (R395, R423). -/
theorem recordPortWrite_evt {r : LogRec} {rest : List PortItem} {u : State} (hq : s.portQueue = .evt r :: rest)
    (hpow : s.flashLow = false)
    (hw : ({ s with portQueue := rest } : State).portWrite false (codeWord (r.words.map BitVec.toNat)) = (true, u)) :
    exec .recordPortWrite s = .next { u with evt := { u.evt with
      recs := u.evt.recs.map fun y => if y.seq = r.seq then { y with copied := true } else y } } := by
  change execRecordPortWrite s = _
  simp only [execRecordPortWrite, hq, hpow, hw, Bool.false_eq_true, if_false, if_true]

/-- The erase of a session's slot ends with no operation of the flash left and no sector marked: the session opens (R401). -/
theorem sessionEraseDone_erasing (hst : s.flash.sess.st = .erasing) (hops : s.flash.ops = []) (hmarked : s.flash.marked = []) :
    exec .sessionEraseDone s = .next (s.eraseRange (slotBase s.flash.sess.target) slotBytes).openSession.askData.startFlash := by
  refine congrArg Host.Outcome.next ((if_neg (not_not_intro hst)).trans ?_)
  have hsame : ({ s with flash := { s.flash with ops := [], marked := [] } } : State) = s := by rw [← hops, ← hmarked]
  simp only [hops, hmarked, List.filter_nil, hsame]

end RecordPort

/-- Settles O17: each clause is one of the lemmas above. How a pulse ends is an operand of its row (log entry 58). -/
theorem codeFlash : Obligations.CodeFlash := by
  refine ⟨?program, ?erase, ?pulse, ?resume, ?starved, ?brownout, ?port, ?session⟩
  case program =>
    intro off ws s hn halign hend hgold hgold' hspan hconf hconf' hbank hbank' hfree
    exact flashProgram_taken hn halign hend hgold hgold' hspan hconf hconf' hbank hbank' hfree
  case erase => exact fun _ _ _ hn halign hend hgold hconf hbank hmay => flashErase_taken hn halign hend hgold hconf hbank hmay
  case pulse => exact fun _ _ _ hop _ hdef => flashPulseDone_pass hop hdef
  case resume => exact fun _ _ _ _ hop hsus hpow hdef => flashOpResume_suspended hop hsus hpow hdef
  case starved => exact fun _ _ _ hop hrun => flsEraseStarved_running hop hrun
  case brownout => exact fun _ h => flsBrownout_first h
  case port => exact fun _ _ _ _ hq hpow hw => recordPortWrite_evt hq hpow hw
  case session => exact fun _ hst hops hmarked => sessionEraseDone_erasing hst hops hmarked

end Sys2Proof.Proofs
end

section
/-!
A firmware session: verification, its ends, and the blocks and reports of group members (R399 to R403).
-/
namespace Sys2Proof.Proofs

open Machine Safety Laws

section Verification

variable {s : State} {ecdsa mldsa : Bool} {bad : Option Nat} (hst : s.flash.sess.st = .verifying) (hsource : s.flash.sess.source = 1)
include hst hsource

/-- A bundle of the host that fails a check opens its session again and is logged; the BMC hears nothing of it (R399). -/
theorem verifyDone_fails {check comp : Nat} (hv : s.verify s.flash.sess.target ecdsa mldsa bad = some (check, comp)) :
    exec (.verifyDone ecdsa mldsa bad) s =
      .next (((s.setSess { s.flash.sess with st := .opened, blockAt := s.timeNs }).sigFail s.flash.sess.target
        (some check)).log 0x8032 .error srcFlash s.flash.sess.id.toNat check comp) := by
  refine congrArg Host.Outcome.next ((if_neg (not_not_intro hst)).trans ?_)
  rw [hv]
  exact if_neg (by simp [hsource])

/-- A bundle of the host that passes is VERIFIED; without PUSH_TWIN it is not offered to the twin (R399, R403). -/
theorem verifyDone_passes (hv : s.verify s.flash.sess.target ecdsa mldsa bad = none) (hpush : s.flag FLS_UPD_CTL_PUSH_TWIN = false) :
    exec (.verifyDone ecdsa mldsa bad) s =
      .next (((s.setSlot s.flash.sess.target ⟨2, 0, s.mfSvn s.flash.sess.target, s.mfLevel s.flash.sess.target,
        s.mfVer s.flash.sess.target⟩).setSess { s.flash.sess with st := .verified, twinTakes := 0, twinOff := 0 }).sessRecord 2 0 0) := by
  have hbmc : ¬ s.flash.sess.source = 2 := by simp [hsource]
  refine congrArg Host.Outcome.next ((if_neg (not_not_intro hst)).trans ?_)
  rw [hv]
  simp only [hpush, hbmc, Bool.false_and, Bool.false_eq_true, if_false]

end Verification

section SessionEnds

variable {s : State}

/-- The owner of a VERIFIED session aborts it (R401, R413). -/
theorem abort_verified {who : Writer} (hown : s.notOwner who = false) (hst : s.flash.sess.st = .verified) :
    exec (.abort who) s = .next (s.abortSession 2) :=
  congrArg Host.Outcome.next ((if_neg (ne_true_of_eq_false hown)).trans (if_pos (.inr hst)))

theorem sessionIdleTimeout_opened (hst : s.flash.sess.st = .opened) : exec .sessionIdleTimeout s = .next (s.abortSession 3) :=
  congrArg Host.Outcome.next (if_pos hst)

end SessionEnds

section Members

variable {s : State}

/-- A block of a group member that does not complete the bundle is answered with the session's status (R402, R403; a member's blocks
have SOURCE 3 by log entry 59). -/
theorem updBlock_part {m : Fin 6} {off : BitVec 32} {bytes : List Byte} {u : State} (hsome : bytes ≠ []) (hlen : bytes.length ≤ 32768)
    (hb : s.sourceBlock 3 off.toNat bytes = (.ok, u)) (hpart : u.flash.sess.off < u.flash.sess.len) :
    exec (.updBlock m off bytes) s = .next (u.tellMembers [m.val] (u.updStatus .ok)) := by
  refine congrArg Host.Outcome.next ((if_neg (not_or.mpr ⟨hsome, Nat.not_lt.mpr hlen⟩)).trans ?_)
  simp only [hb, Nat.not_le.mpr hpart, and_false, if_false]

/-- A twin that is busy is offered the bundle again later (R403; the report's layout is log entry 71). -/
theorem updStatus_busy {st off : Nat} (hst : s.flash.sess.st = .verified) (htakes : s.flash.sess.twinTakes ≠ 0) :
    exec (.updStatus st off true) s = .next (s.setSess { s.flash.sess with twinTakes := 1 }) :=
  congrArg Host.Outcome.next (if_neg (not_or.mpr ⟨not_not_intro hst, htakes⟩))

theorem twinOfferRetry_busy (hst : s.flash.sess.st = .verified) (htakes : s.flash.sess.twinTakes = 1) :
    exec .twinOfferRetry s = .next s.offerBlock :=
  congrArg Host.Outcome.next (if_pos ⟨by simp [hst], htakes⟩)

end Members

/-- Settles O18: each clause is one of the lemmas above. -/
theorem firmwareSession : Obligations.FirmwareSession := by
  refine ⟨?fails, ?passes, ?abort, ?idle, ?block, ?status, ?retry⟩
  case fails => exact fun _ _ _ _ _ _ hst hsource hv => verifyDone_fails hst hsource hv
  case passes => exact fun _ _ _ _ hst hsource hv hpush => verifyDone_passes hst hsource hv hpush
  case abort => exact fun _ _ hown hst => abort_verified hown hst
  case idle => exact fun _ hst => sessionIdleTimeout_opened hst
  case block => exact fun _ _ _ _ _ hsome hlen hb _ hpart => updBlock_part hsome hlen hb hpart
  case status => exact fun _ _ _ hst htakes => updStatus_busy hst htakes
  case retry => exact fun _ hst htakes => twinOfferRetry_busy hst htakes

end Sys2Proof.Proofs
end

section
/-!
Activation of an update: proposals, votes, the swaps, the trial and its outcomes (R405 to R409).
-/
namespace Sys2Proof.Proofs

open Machine Safety Laws

section Proposals

variable {s : State} {m : Fin 6}

/-- A proposal of the twin that this controller votes YES on makes the twin the one other member (R405). -/
theorem actPropose_twin {t : Nat} {ver floor : Word} {lvl : Fin 16} (hm : m.val = 1)
    (hyes : s.voteOn ver.toNat lvl.val floor.toNat = 0) :
    exec (.actPropose m t ver lvl floor) s = .next (((s.setSess { s.flash.sess with
      actTime := t, members := [1], yes := [1], proposer := false }).tellMembers [1] [0x0D, 1, 0]).schedule) := by
  change execActPropose m t ver lvl floor s = _
  simp [execActPropose, hyes, hm]

/-- A NO vote goes back to the proposer with its reason (R405). -/
theorem actPropose_no {t : Nat} {ver floor : Word} {lvl : Fin 16} (hno : s.voteOn ver.toNat lvl.val floor.toNat ≠ 0) :
    exec (.actPropose m t ver lvl floor) s = .next (s.tellMembers [m.val] [0x0D, 0, s.voteOn ver.toNat lvl.val floor.toNat]) :=
  congrArg Host.Outcome.next (if_pos hno)

/-- A vote of a member counts while the session is VERIFIED (R405). -/
theorem actVote_verified {yes : Bool} {why : Nat} (hmem : s.flash.sess.members.contains m.val = true)
    (hst : s.flash.sess.st = .verified) :
    exec (.actVote m yes why) s = .next (if yes
      then (s.setSess { s.flash.sess with
        yes := if s.flash.sess.yes.contains m.val then s.flash.sess.yes else s.flash.sess.yes ++ [m.val] }).schedule
      else s.groupRefuses m.val why) :=
  congrArg Host.Outcome.next (if_neg (by rw [hmem, hst]; decide))

/-- The first member that has not voted at the deadline makes the group refuse (R405). -/
theorem actVoteDeadline_missing {k : Nat} {ms : List Nat} (hst : s.flash.sess.st = .verified)
    (hmissing : (s.flash.sess.members.filter fun m => ! s.flash.sess.yes.contains m) = k :: ms) :
    exec .actVoteDeadline s = .next (s.groupRefuses k 7) := by
  refine congrArg Host.Outcome.next ((if_neg (not_not_intro hst)).trans ?_)
  rw [hmissing]

end Proposals

section Swaps

variable {s : State}

theorem activationTime_scheduled (hst : s.flash.sess.st = .scheduled) (hwait : s.flash.sess.waitTime = false) :
    exec .activationTime s =
      .next ((s.setSess { s.flash.sess with st := .activating, actAt := s.timeNs, swapped := 0 }).sessRecord 4 0 0) :=
  congrArg Host.Outcome.next (if_pos ⟨hst, by simp [hwait]⟩)

/-- The first swap of an activation changes the component of TYPE 5 and starts no trial (R406). -/
theorem updComponentSwap_first {stop : Nat} {ok : Bool} (hst : s.flash.sess.st = .activating) (hfirst : s.flash.sess.swapped = 0)
    (hm : s.mc.mode ≠ .save) :
    exec (.updComponentSwap stop ok) s = .next ((s.setSess { s.flash.sess with swapped := 1 }).log 0x8035 .info srcFlash 5 stop) := by
  have hruns : ¬ ((s.flash.sess.st ≠ .activating ∧ s.flash.sess.st ≠ .reverting) ∨ 51 ≤ s.flash.sess.swapped ∨ s.mc.mode = .save) := by
    simp [hst, hfirst, hm]
  have horder : swapOrder 0 = (5, 0) := rfl
  change execUpdComponentSwap stop ok s = _
  rw [execUpdComponentSwap, if_neg hruns, hfirst, horder]
  rfl

end Swaps

section Trial

variable {s : State}

theorem confirm_trial {who : Writer} (hown : s.notOwner who = false) (hst : s.flash.sess.st = .trial) :
    exec (.confirm who) s = .next s.confirm :=
  congrArg Host.Outcome.next ((if_neg (ne_true_of_eq_false hown)).trans (if_pos hst))

/-- A trial that has run its time reports health to the group once (R408). -/
theorem trialSElapsed_first (hst : s.flash.sess.st = .trial) (hfirst : s.flash.sess.sentHealthy = false) :
    exec .trialSElapsed s = .next ((s.setSess { s.flash.sess with sentHealthy := true }).tellMembers s.flash.sess.members
      [0x0E, s.flash.sess.id.toNat, 1]).autoConfirm :=
  congrArg Host.Outcome.next (if_neg (by simp [hst, hfirst]))

/-- A member that reverts its trial takes this controller with it (R409). -/
theorem actOutcome_reverted {m : Fin 6} (hmem : s.flash.sess.members.contains m.val = true) (hst : s.flash.sess.st = .trial) :
    exec (.actOutcome m .reverted) s = .next (s.revert 5) :=
  congrArg Host.Outcome.next ((if_neg (by rw [hmem]; decide)).trans (if_pos (.inl hst)))

theorem revert_trial {who : Writer} (hown : s.notOwner who = false) (hst : s.flash.sess.st = .trial) :
    exec (.revert who) s = .next (s.revert 1) :=
  congrArg Host.Outcome.next ((if_neg (ne_true_of_eq_false hown)).trans (if_pos (.inl hst)))

theorem confirmSExpiry_trial (hst : s.flash.sess.st = .trial) : exec .confirmSExpiry s = .next (s.revert 2) :=
  congrArg Host.Outcome.next (if_pos (.inl hst))

theorem revertDone_reverting (hst : s.flash.sess.st = .reverting) : exec .revertDone s = .next (s.endSession 4) :=
  congrArg Host.Outcome.next (if_pos hst)

end Trial

/-- Settles O19: each clause is one of the lemmas above. That a NO vote goes to the whole group, and the words of the messages, are the
model's choice (log entries 59 and 71). -/
theorem updateActivation : Obligations.UpdateActivation := by
  refine ⟨?propose, ?no, ?yes, ?veto, ?deadline, ?activate, ?swap, ?confirm, ?healthy, ?outcome, ?revert, ?expiry, ?done⟩
  case propose => exact fun _ _ _ _ _ _ hm hyes => actPropose_twin hm hyes
  case no => exact fun _ _ _ _ _ _ hno => actPropose_no hno
  case yes =>
    intro m s hmem hst hnew
    refine (actVote_verified hmem hst).trans (congrArg Host.Outcome.next ((if_pos rfl).trans ?_))
    rw [if_neg (ne_true_of_eq_false hnew)]
  case veto => exact fun _ _ _ hmem hst => actVote_verified hmem hst
  case deadline => exact fun _ _ _ hst hmissing => actVoteDeadline_missing hst hmissing
  case activate => exact fun _ hst hwait => activationTime_scheduled hst hwait
  case swap => exact fun _ _ _ hst hfirst hm => updComponentSwap_first hst hfirst hm
  case confirm => exact fun _ _ hown hst => confirm_trial hown hst
  case healthy => exact fun _ hst hfirst => trialSElapsed_first hst hfirst
  case outcome => exact fun _ _ hmem hst => actOutcome_reverted hmem hst
  case revert => exact fun _ _ hown hst => revert_trial hown hst
  case expiry => exact fun _ hst => confirmSExpiry_trial hst
  case done => exact fun _ hst => revertDone_reverting hst

end Sys2Proof.Proofs
end

section
/-!
The intervals of the event log, the junction links, the tier engines and the slot tables (R344, R420, R421, R429, R431).
-/
namespace Sys2Proof.Proofs

open Machine Safety Laws

section Intervals

variable {s : State}

/-- The end of an open interval writes its one record (R420). -/
theorem eventLimitIntervalEnd_open {code : BitVec 16} {key : Nat} {l : Limiter}
    (h : (s.evt.limiters.find? fun l => l.code == code.toNat && l.key == key) = some l) :
    exec (.eventLimitIntervalEnd code key) s = .next (let u : State := { s with evt := { s.evt with
        limiters := s.evt.limiters.filter fun x => ! (x.code == code.toNat && x.key == key) } }
      u.place (u.mkRec l.code l.sev l.source l.start true l.w4 l.w5 l.w6 l.w7)) := by
  change execEventLimitIntervalEnd code key s = _
  simp only [execEventLimitIntervalEnd, h]

/-- A window that folded rejections writes one record of them (R421). -/
theorem cfgRejectWindowEnd_folded {n t off val w6 d : Nat} (h : s.evt.rejects = some ⟨n, some (t, off, val, w6, d)⟩) :
    exec .cfgRejectWindowEnd s = .next (let u : State := { s with evt := { s.evt with rejects := none } }
      u.place (u.mkRec 0x8043 .notice srcReg t true off val w6 (d + 2 ^ 16 * min 0xFFFF (n - 100)))) := by
  change execCfgRejectWindowEnd s = _
  simp only [execCfgRejectWindowEnd, h]

end Intervals

section Junctions

variable {s : State} {k : Fin 8} (hk : 4 ≤ k.val)
include hk

/-- The first error of a junction link other than a carriageway's is noted in the link alone (R429; log entry 60). -/
theorem junctionError_first (htrain : (s.jctLink k.val).training = false) (herrs : (s.jctLink k.val).errs = []) :
    exec (.junctionError k) s = .next (s.setJct k.val { s.jctLink k.val with errs := [s.timeNs] }) := by
  have hcw : ¬ k.val < 4 := Nat.not_lt.mpr hk
  change execJunctionError k s = _
  simp [execJunctionError, htrain, herrs, hcw]

/-- A retraining of such a link that ends without an error leaves its spares in use, and no record (R429; log entry 60). -/
theorem jctRetrainDone_clean {a b : Fin 3} (htrain : (s.jctLink k.val).training = true) :
    exec (.jctRetrainDone k false a b) s =
      .next (s.setJct k.val { s.jctLink k.val with training := false, spares0 := a.val, spares1 := b.val }) :=
  congrArg Host.Outcome.next ((if_neg (by rw [htrain]; decide)).trans ((if_neg (fun h => nomatch h.1)).trans (if_pos hk)))

end Junctions

/-- The first fault of a tier engine that holds no operation is counted and noted in its carriageway (R431, R435). -/
theorem tierEngineFault_first {s : State} {c : CwId} (hfills : s.tier.fills = []) (hrestarts : s.tier.restarts = []) :
    exec (.tierEngineFault c) s =
      .next (({ s with tier := { s.tier with fills := [], restarts := [(c.val, s.timeNs)] } }).cwErr c.val 5) := by
  change execTierEngineFault c s = _
  simp [execTierEngineFault, hfills, hrestarts]

section SlotTables

variable {s : State} {c : CwId} {who : Writer}

/-- The slot table in the shadow of a carriageway (R341). -/
def shadowTable (s : State) (c : Nat) : List Word := (List.range 8).map fun w => s.regAt .ARB_SHADOW c 0 w

/-- A shadow table that names a reserved owner is refused (R342, R344). -/
theorem arbCommit_reserved (hbusy : s.arbBusy c.val = false) (hres : (tableOwners (shadowTable s c.val)).contains 0xF = true) :
    exec (.arbCommit c who) s =
      .next ((s.setFld ARB_CTL_REFUSED 1 c.val).reject (RegName.offset .ARB_CTL c.val 0 0) 1 5 who) :=
  congrArg Host.Outcome.next ((if_neg (ne_true_of_eq_false hbusy)).trans (if_pos (.inl hres)))

/-- The tables in force of a carriageway are kept for its channels until they swap (R344). -/
def keepTables (s : State) (c : Nat) : State :=
  { s with arb := { s.arb with oldTable := (s.arb.oldTable.filter fun e => e.1 / 4 != c) ++
    ((List.range 4).map (4 * c + ·)).map fun n => (n, s.slotTable n) } }

/-- A table becomes the active one of a carriageway (R344). -/
def activateTable (s : State) (c : Nat) (sh : List Word) : State :=
  ((List.range 8).zip sh).foldl (fun s e => s.setRegAt .ARB_ACTIVE c 0 e.1 e.2) s

/-- A commit that is taken clears REFUSED and counts in SEQ (R344). -/
def countCommit (s : State) (c : Nat) : State :=
  (s.setFld ARB_CTL_REFUSED 0 c).setFld ARB_STAT_SEQ (((s.setFld ARB_CTL_REFUSED 0 c).fld ARB_STAT_SEQ c + 1) % 2 ^ 16) c

/-- ARB_CTL and ARB_STAT of a carriageway are two registers: clearing REFUSED leaves SEQ as it is. -/
theorem fld_seq_clearRefused (s : State) (c : CwId) : (s.setFld ARB_CTL_REFUSED 0 c.val).fld ARB_STAT_SEQ c.val = s.fld ARB_STAT_SEQ c.val :=
  fld_setFld_of_ne 0 (by revert c; decide)

/-- A shadow table with listed owners and eight shared slots or more is taken (R342, R344). -/
theorem arbCommit_taken {w : State} (hbusy : s.arbBusy c.val = false)
    (hres : (tableOwners (shadowTable s c.val)).contains 0xF = false)
    (hshares : 8 ≤ (tableOwners (shadowTable s c.val)).countP (· == 0xB))
    (hw : w = countCommit (activateTable (keepTables s c.val) c.val (shadowTable s c.val)) c.val) :
    exec (.arbCommit c who) s = .next (w.log 0x1020 .info (srcTier c.val) c.val (w.fld ARB_STAT_SEQ c.val)
      ((tableOwners (shadowTable s c.val)).countP (· == 0xB))) := by
  have hgood : ¬ ((tableOwners (shadowTable s c.val)).contains 0xF = true ∨ (tableOwners (shadowTable s c.val)).countP (· == 0xB) < 8) :=
    not_or.mpr ⟨ne_true_of_eq_false hres, Nat.not_lt.mpr hshares⟩
  rw [countCommit, fld_seq_clearRefused] at hw
  subst hw
  exact congrArg Host.Outcome.next ((if_neg (ne_true_of_eq_false hbusy)).trans (if_neg hgood))

theorem slotTableSwap_active {ch : ChId} (hst : (s.ch ch.val).st = .active) :
    exec (.slotTableSwap ch) s = .next { s with arb := { s.arb with oldTable := s.arb.oldTable.filter fun e => e.1 != ch.val } } := by
  change execSlotTableSwap ch s = _
  simp only [execSlotTableSwap, hst]

end SlotTables

/-- Settles O20: each clause is one of the lemmas above; EVT_ACK, a failed slot, ERR_CLEAR and the tag cache have no condition and are the
model's own equations. -/
theorem eventLogAndJunctions : Obligations.EventLogAndJunctions := by
  refine ⟨evtAck_next, ?limit, ?rejects, fun _ _ => rfl, fun _ _ => rfl, ?error, ?retrained, fun _ _ => rfl, ?fault, ?refused, ?taken, ?swap⟩
  case limit => exact fun _ _ _ _ h => eventLimitIntervalEnd_open h
  case rejects => exact fun _ _ _ _ _ _ _ h => cfgRejectWindowEnd_folded h
  case error => exact fun _ _ hk htrain herrs => junctionError_first hk htrain herrs
  case retrained => exact fun _ _ hk htrain => jctRetrainDone_clean hk htrain
  case fault => exact fun _ _ hfills hrestarts => tierEngineFault_first hfills hrestarts
  case refused => exact fun _ _ _ hbusy hres => arbCommit_reserved hbusy hres
  case taken =>
    rintro c who _ s _ _ hbusy rfl hres hshares rfl rfl
    exact ⟨_, rfl, arbCommit_taken hbusy hres hshares rfl⟩
  case swap => exact fun _ _ hst => slotTableSwap_active hst

end Sys2Proof.Proofs
end

section
/-!
The background tests: patrol, lay-by march, disturb patrol and eye scans (R452 to R458).
-/
namespace Sys2Proof.Proofs

open Machine Safety Laws

section PatrolScrub

variable {s : State} {ch : ChId}

/-- The entry of a patrol after one line more (R452). -/
def patrolNext (x : Patrol) (fixed : Bool) : Patrol := { x with cursor := x.cursor + 1, fixed := x.fixed + fixed.toNat }

/-- A patrol read that ends neither the pass nor falls further behind moves the cursor on (R452, R453). -/
theorem patrolRead_inPass {errs : List (Fin 40)} {fixed : Bool} {u : State} (hrun : s.testsRun = true)
    (hen : s.flag GLB_IST_CTL_PATROL_EN = true) (hst : (s.ch ch.val).st = .active)
    (hmore : (s.patrol ch.val).cursor + 1 < s.chLines ch.val)
    (hrank : (s.ch ch.val).released.getLsbD (s.dram ⟨ch.val, 64 * (s.patrol ch.val).cursor⟩).rank = false)
    (hdec : s.patrolDecode ch.val (64 * (s.patrol ch.val).cursor) (errs.map Fin.val) = (fixed, u))
    (hlines : u.chLines ch.val = s.chLines ch.val)
    (hlag : u.patrolLag ch.val (patrolNext (s.patrol ch.val) fixed) ≤ (s.patrol ch.val).behind) :
    exec (.patrolRead ch errs) s = .next (u.setPatrol ch.val { patrolNext (s.patrol ch.val) fixed with
      behind := u.patrolLag ch.val (patrolNext (s.patrol ch.val) fixed) }) := by
  have hruns : ¬ ((! s.testsRun) = true ∨ (! s.flag GLB_IST_CTL_PATROL_EN) = true ∨ (s.ch ch.val).st ≠ .active ∨
      s.chLines ch.val = 0) := by
    simp [hrun, hen, hst, Nat.ne_zero_of_lt hmore]
  have hpass : ¬ u.chLines ch.val ≤ (patrolNext (s.patrol ch.val) fixed).cursor := by
    rw [hlines]
    exact Nat.not_le.mpr hmore
  refine congrArg Host.Outcome.next ((if_neg hruns).trans ?_)
  simp only [hrank, Bool.false_eq_true, if_false, hdec]
  exact (if_neg hpass).trans (if_neg (Nat.not_lt.mpr hlag))

/-- The patrol wakes a sleeping channel as a request does (R37, R454). -/
theorem patrolWake_enabled (hrun : s.testsRun = true) (hen : s.flag GLB_IST_CTL_PATROL_EN = true) :
    exec (.patrolWake ch) s = exec (.channelWake ch) s :=
  if_pos ⟨hrun, hen⟩

end PatrolScrub

section March

variable {s : State} {ch : ChId}

/-- The lay-by slot under test (R455). -/
def marchSlot (s : State) (n : Nat) : Nat := Sparse.get (fun _ => 0) s.tests.march n

/-- The march goes on to the next slot (R455). -/
def marched (s : State) (n : Nat) : State :=
  { s with tests := { s.tests with march := Sparse.set (fun _ => 0) s.tests.march n ((marchSlot s n + 1) % 1024) } }

/-- The test of a slot ends; a slot that fails is retired (R455, R456). -/
theorem laybyMarchSlot_unlent {pass : Bool} (hrun : s.testsRun = true) (hen : s.flag GLB_IST_CTL_MARCH_EN = true)
    (hlent : (s.tier.lent.any fun e => e.1 == ch.val) = false) :
    exec (.laybyMarchSlot ch pass) s =
      .next (if pass then marched s ch.val else (marched s ch.val).retireSlot ch.val (marchSlot s ch.val)) :=
  congrArg Host.Outcome.next (if_neg (by rw [hrun, hen, hlent]; decide))

end March

section Disturb

variable {s : State} {nf : NfId} {die block : Nat} {step : Fin 13} {best : Fin 11}

/-- A codeword that passes at a hard step: the step is kept, old deep reads are dropped, and the block owes no second read (R213, R457). -/
theorem disturbPatrolRead_hardStep {u : State} {b : NandBlock} (hrun : s.testsRun = true) (hen : s.flag GLB_IST_CTL_DISTURB_EN = true)
    (hst : (s.nf nf.val).st = .serving) (hb : b = s.block nf.val die block) (herased : b.state ≠ .erased) (herasing : b.state ≠ .erasing)
    (hlo : 1 ≤ step.val) (hhi : step.val < 8)
    (hu : u = s.addFld NF_RETRY_CNT_COUNT ((ladder b.step).findIdx (· == step.val)) nf.val) :
    exec (.disturbPatrolRead nf die block step best) s = .next (let v := u.setBlock nf.val die block { b with
        step := step.val, deep := b.deep.filter fun t => decide (u.timeNs < t + 3600 * 10 ^ 9) }
      { v with tests := { v.tests with suspect := v.tests.suspect.filter fun k => k != blockKey nf.val die block } }) := by
  have hruns : ¬ ((! s.testsRun) = true ∨ (! s.flag GLB_IST_CTL_DISTURB_EN) = true ∨
      ((s.nf nf.val).st ≠ .serving ∧ (s.nf nf.val).st ≠ .evacuating) ∨ b.state = .erased ∨ b.state = .erasing) := by
    simp [hrun, hen, hst, herased, herasing]
  have hpassed : ¬ step.val = 0 := by omega
  have hhard : ¬ step.val = 12 := by omega
  have hshallow : ¬ 8 ≤ step.val := by omega
  subst hb hu
  change execDisturbPatrolRead nf die block step best s = _
  simp only [execDisturbPatrolRead, if_neg hruns, hpassed, hhard, hshallow, or_self, if_false, Nat.add_sub_cancel, decide_false,
    Bool.false_and, Bool.false_eq_true, false_and, List.append_nil]

end Disturb

section EyeScans

variable {s : State} {lane : Fin 160}

theorem eyeScanStart_idle (hrun : s.testsRun = true) (hen : s.flag GLB_IST_CTL_EYE_EN = true) (hup : s.laneUp lane.val = true)
    (hnew : s.tests.scans.contains lane.val = false) :
    exec (.eyeScanStart lane) s = .next { s with tests := { s.tests with scans := s.tests.scans ++ [lane.val] } } :=
  congrArg Host.Outcome.next (if_pos ⟨hrun, hen, hup, by rw [hnew]; rfl⟩)

/-- The result of a scan of a lane is kept in place of the one before (R458). -/
def scanned (s : State) (lane h w : Nat) : State :=
  { s with tests := { s.tests with
    scans := s.tests.scans.filter (fun x => x != lane)
    eyes := (s.tests.eyes.filter fun e => e.1 != lane) ++ [(lane, (⟨h, w, s.timeNs⟩ : Eye))] } }

/-- A scan that ran to its end keeps its result, and an eye below a minimum is logged (R458). -/
theorem eyeScanDone_kept {h w : Nat} (hscan : s.tests.scans.contains lane.val = true) (hrun : s.testsRun = true)
    (hup : s.laneUp lane.val = true) (hh : h ≤ 0x3FF) (hw : w ≤ 0x3FF) :
    exec (.eyeScanDone lane h w true) s = .next (
      if h < s.fld GLB_EYE_MIN_HEIGHT_MV ∨ w < s.fld GLB_EYE_MIN_WIDTH_MUI then (scanned s lane.val h w).log 0x4050 .notice
        (if lane.val < 128 then srcPort (lane.val / 16) else srcEth ((lane.val - 128) / 8)) lane.val h w
      else scanned s lane.val h w) := by
  change execEyeScanDone lane h w true s = _
  simp only [execEyeScanDone, hscan, hrun, hup, Nat.min_eq_right hh, Nat.min_eq_right hw, Bool.not_true, Bool.false_eq_true, if_false,
    Bool.and_self]
  rfl

end EyeScans

/-- Settles O36: each clause is one of the lemmas above. -/
theorem backgroundTests : Obligations.BackgroundTests := by
  refine ⟨?patrol, ?wake, ?march, ?disturb, ?start, ?done⟩
  case patrol =>
    rintro ch errs _ s u fixed rfl hrun hen hst hmore hrank hdec hlines hlag
    exact patrolRead_inPass hrun hen hst hmore hrank hdec hlines hlag
  case wake => exact fun _ _ hrun hen => patrolWake_enabled hrun hen
  case march =>
    rintro ch s _ hrun hen hlent rfl
    exact ⟨laybyMarchSlot_unlent hrun hen hlent, laybyMarchSlot_unlent hrun hen hlent⟩
  case disturb =>
    intro nf die block step best s u b hrun hen hst hb herased herasing hlo hhi hu
    exact disturbPatrolRead_hardStep hrun hen hst hb herased herasing hlo hhi hu
  case start => exact fun _ _ hrun hen hup hnew => eyeScanStart_idle hrun hen hup hnew
  case done =>
    rintro lane h w s _ hscan hrun hup hh hw rfl
    have hdone := eyeScanDone_kept hscan hrun hup hh hw
    exact ⟨fun hheight hwidth => hdone.trans (congrArg Host.Outcome.next (if_neg (by omega))),
      fun hheight => hdone.trans (congrArg Host.Outcome.next (if_pos (.inl hheight)))⟩

end Sys2Proof.Proofs
end

section
/-!
The test access port and memory BIST (R459 to R461).
-/
namespace Sys2Proof.Proofs

open Machine Safety Laws

section Instructions

variable {s : State} {op : Nat} {k : State → State}

/-- The instruction register holds an instruction (R459). -/
def tapped (s : State) (op : Nat) : State := { s with tests := { s.tests with tap := op } }

/-- An instruction of every mode is loaded. -/
theorem tapLoad_free : s.tapLoad op false k = k (tapped s op) := if_neg fun h => nomatch h.1

/-- An instruction of MAINTENANCE is loaded there. -/
theorem tapLoad_maintenance (hm : s.mc.mode = .maintenance) : s.tapLoad op true k = k (tapped s op) := if_neg fun h => h.2 hm

/-- In any other mode it becomes BYPASS and is recorded (R459; the SOURCE of the record is log entry 66). -/
theorem tapLoad_refused (hm : s.mc.mode ≠ .maintenance) :
    s.tapLoad op true k = (tapped s 0xFF).log 0x8050 .notice srcCc op s.mc.mode.code :=
  if_pos ⟨rfl, hm⟩

/-- SCAN leaves the logic at its reset values (R461; which they are is log entry 65). -/
def scanReset (s : State) : State :=
  { s with tier := Tier.reset, rings := { ring := [], ops := [], opGens := [], poolPeak := 0, sqTorn := [] }
           twin := { Twin.reset with
             link := s.twin.link, epoch := s.twin.epoch, txSeq := s.twin.txSeq, txDurable := s.twin.txDurable, copies := s.twin.copies
             bitmap := s.twin.bitmap }
           rdma := { qps := [], keys := [], ethUp := s.rdma.ethUp, paused := 0 }, cc := { Cc.reset with gap := .dead }, jct := []
           arb := { oldTable := [], parked := [] }, per := { s.per with adm := [], wts := [], fences := [], gpf := [] } }

/-- SCAN zeroises the key store, which becomes LOCKED, and resets the logic (R461). -/
theorem scan_maintenance (hm : s.mc.mode = .maintenance) : exec .scan s = .next (scanReset ((tapped s 0x11).zeroise .locked)) :=
  congrArg Host.Outcome.next (tapLoad_maintenance hm)

theorem scanReset_fields (s : State) : (scanReset s).tests = s.tests ∧ (scanReset s).sec = s.sec ∧ (scanReset s).tier = Tier.reset ∧
    (scanReset s).rings.ring = [] ∧ (scanReset s).rdma.qps = [] := ⟨rfl, rfl, rfl, rfl, rfl⟩

theorem scan_outcome (hm : s.mc.mode = .maintenance) :
    ∃ t, exec .scan s = .next t ∧ t.tests.tap = 0x11 ∧ t.sec.store = .locked ∧ t.tier = Tier.reset ∧ t.rings.ring = [] ∧ t.rdma.qps = [] := by
  obtain ⟨hsec, htests⟩ := zeroise_sec_tests (s := tapped s 0x11) .locked
  obtain ⟨htests', hsec', htier, hring, hqps⟩ := scanReset_fields ((tapped s 0x11).zeroise .locked)
  refine ⟨_, scan_maintenance hm, ?_, ?_, htier, hring, hqps⟩
  · rw [htests', htests, tapped]
  · rw [hsec', hsec, zeroised]

end Instructions

section Bist

variable {s : State}

theorem bistStart_maintenance {who : Writer} (hm : s.mc.mode = .maintenance) :
    exec (.bistStart who) s = .next (({ s with tests := { s.tests with bist := true } }).setFld GLB_BIST_CTL_START 1) :=
  congrArg Host.Outcome.next (if_neg (not_not_intro hm))

/-- GLB_BIST_CTL.START is refused outside MAINTENANCE (R421, R463). -/
theorem bistStart_refused {who : Writer} (hm : s.mc.mode ≠ .maintenance) :
    exec (.bistStart who) s = .next (s.reject (RegName.offset .GLB_BIST_CTL 0 0 0) 1 6 who) :=
  congrArg Host.Outcome.next (if_pos hm)

/-- BIST ends with the lay-bys that failed, as a mask, and the other failures in GLB_BIST_STAT (R460). -/
def bistEnded (s : State) (layby : Nat) (tagq : BitVec 4) (a b c : Bool) : State :=
  (({ s with tests := { s.tests with bist := false } }).setFld GLB_BIST_CTL_START 0).setRegAt .GLB_BIST_STAT 0 0 0
    (BitVec.ofNat 32 (layby + 2 ^ 16 * tagq.toNat + 2 ^ 20 * a.toNat + 2 ^ 21 * b.toNat + 2 ^ 22 * c.toNat))

variable {tagq : BitVec 4} {a b c : Bool} (hrun : s.tests.bist = true)
include hrun

theorem bistDone_noSlots : exec (.bistDone [] tagq a b c) s = .next (bistEnded s 0 tagq a b c) :=
  congrArg Host.Outcome.next (if_neg (by simp [hrun]))

/-- A lay-by slot that fails BIST is retired (R456). -/
theorem bistDone_oneSlot {ch : ChId} {k : Fin 1024} :
    exec (.bistDone [(ch, k)] tagq a b c) s = .next ((bistEnded s (2 ^ ch.val) tagq a b c).retireSlot ch.val k.val) := by
  have hmask : (if Nat.testBit 0 ch.val then 0 else 0 + 2 ^ ch.val) = 2 ^ ch.val := by simp
  refine congrArg Host.Outcome.next ((if_neg (by simp [hrun])).trans ?_)
  simp only [List.foldl_cons, List.foldl_nil, hmask, bistEnded]

end Bist

/-- Settles O37: what an instruction loads is `tapLoad`; the other clauses are the lemmas above. -/
theorem testAccessPort : Obligations.TestAccessPort := by
  refine ⟨?refused, ?idcode, ?sample, ?driven, ?mbist, ?scan, ?bypass, ?start, ?startRefused, ?noSlots, ?oneSlot⟩
  case refused =>
    intro s op hm
    have hrefused {n : Nat} {k : State → State} :
        (.next (s.tapLoad n true k) : Res) = .next ((tapped s 0xFF).log 0x8050 .notice srcCc n s.mc.mode.code) :=
      congrArg _ (tapLoad_refused hm)
    simp only [List.forall_mem_cons, List.not_mem_nil, false_imp_iff, implies_true, and_true]
    exact ⟨hrefused, hrefused, hrefused, hrefused, hrefused, hrefused, hrefused⟩
  case idcode => exact fun _ => congrArg Host.Outcome.next tapLoad_free
  case sample => exact fun _ _ => congrArg Host.Outcome.next tapLoad_free
  case driven =>
    exact fun s _ hm => ⟨congrArg Host.Outcome.next (tapLoad_maintenance hm), congrArg Host.Outcome.next (tapLoad_maintenance hm),
      congrArg Host.Outcome.next (tapLoad_maintenance hm), congrArg Host.Outcome.next (tapLoad_maintenance hm),
      congrArg Host.Outcome.next (tapLoad_maintenance hm)⟩
  case mbist => exact fun _ hm => congrArg Host.Outcome.next (tapLoad_maintenance hm)
  case scan => exact fun _ hm => scan_outcome hm
  case bypass => exact fun _ => congrArg Host.Outcome.next tapLoad_free
  case start => exact fun _ _ hm => bistStart_maintenance hm
  case startRefused => exact fun _ _ hm => bistStart_refused hm
  case noSlots =>
    intro tagq a b c s hrun
    rw [bistDone_noSlots hrun, bistEnded, Nat.zero_add]
  case oneSlot => exact fun _ _ _ _ _ _ _ hrun => bistDone_oneSlot hrun

end Sys2Proof.Proofs
end

section
/-!
Stacks: heartbeats, elections, the hand-back and the range check (R468 to R470).
-/
namespace Sys2Proof.Proofs

open Machine Safety Laws

section Mastership

variable {s : State}

/-- The members whose answers a heartbeat gets (R468). -/
def answering (reports : List MemberReport) : BitVec 4 :=
  reports.foldl (fun (b : BitVec 4) (r : MemberReport) => b ||| BitVec.twoPow 4 r.member.val) 0

/-- The heartbeats that each other member has left unanswered, counted to three (R468). -/
def missedBy (s : State) (answers : BitVec 4) : List (Nat × Nat) :=
  ((List.range (s.fld GLB_STACK_CFG_SIZE_M1 + 1)).filter fun k => k != s.stackPos).map fun k =>
    (k, if answers.getLsbD k then 0 else min 3 (Sparse.get (fun _ => 0) s.stk.missed k + 1))

/-- LIVE after a heartbeat: who answers joins, who leaves three unanswered is dropped (R468). -/
def liveAfter (s : State) (answers : BitVec 4) : BitVec 4 :=
  (List.range 4).foldl (fun (b : BitVec 4) k =>
    let on := if k = s.stackPos then true
      else if ! ((List.range (s.fld GLB_STACK_CFG_SIZE_M1 + 1)).filter fun k => k != s.stackPos).contains k then false
      else if answers.getLsbD k then true
      else s.stk.live.getLsbD k && ! (missedBy s answers).contains (k, 3)
    if on then b ||| BitVec.twoPow 4 k else b) 0

/-- The master keeps what a heartbeat told it of the members (R468, R486). -/
def heardFrom (s : State) (missed : List (Nat × Nat)) (live : BitVec 4) : State :=
  let v := ({ s with stk := { s.stk with missed := missed, lastHb := s.timeNs } } : State).setLive live
  { v with stk := { v.stk with reports := v.stk.reports.filter fun e => live.getLsbD e.1 } }

/-- A heartbeat of a master that has its seat goes to every member, and their answers are taken (R467, R468). -/
theorem heartbeatSend_seated {reports : List MemberReport} (hr : s.stackRuns = true) (hmaster : s.isMaster = true)
    (hseated : s.stk.seated = true) : exec (.heartbeatSend reports) s = .next (
      (reports.filter fun r => r.member.val != s.stackPos && decide (r.member.val ≤ s.fld GLB_STACK_CFG_SIZE_M1)).foldl
        (fun (s : State) (r : MemberReport) => s.takeReport r)
        (heardFrom (s.emit (.stack 0 [s.stackPos])) ((missedBy s (answering reports)).filter fun e => e.2 != 0)
          (liveAfter s (answering reports)))) := by
  have hruns : ¬ ((! s.stackRuns) = true ∨ (! s.isMaster) = true) := by simp [hr, hmaster]
  refine congrArg Host.Outcome.next ((if_neg hruns).trans ?_)
  simp -zeta only [hseated, if_true]
  rfl

/-- In a stack of two a member that leaves its first heartbeat unanswered stays live (R468). -/
theorem heartbeatSend_unanswered (hr : s.stackRuns = true) (hmaster : s.isMaster = true) (hseated : s.stk.seated = true)
    (hsize : s.fld GLB_STACK_CFG_SIZE_M1 = 1) (hpos : s.stackPos = 0) (hmissed : s.stk.missed = []) (hlive : s.stk.live = 3#4) :
    exec (.heartbeatSend []) s = .next (heardFrom (s.emit (.stack 0 [0])) [(1, 1)] 3#4) := by
  have hmissedBy : missedBy s (answering []) = [(1, 1)] := by
    simp only [missedBy, hsize, hpos, hmissed]
    rfl
  have hliveAfter : liveAfter s (answering []) = 3#4 := by
    simp only [liveAfter, hsize, hpos, hlive, hmissedBy]
    rfl
  rw [heartbeatSend_seated hr hmaster hseated, hmissedBy, hliveAfter, hpos]
  rfl

/-- A member answers a heartbeat of its master, with its mode and guard, and takes the commands that waited (R468, R469). -/
theorem heartbeatReceive_ofMaster {m : Fin 4} {live : BitVec 4} {u : State} (hr : s.stackRuns = true) (hother : m.val ≠ s.stackPos)
    (hseated : s.stk.seated = true) (hmaster : s.stk.master = m.val)
    (hu : u = ({ s with stk := { s.stk with lastHb := s.timeNs } } : State).setLive
      (live ||| BitVec.twoPow 4 m.val ||| BitVec.twoPow 4 s.stackPos)) :
    exec (.heartbeatReceive m live false) s = .next (u.emit (.stack 1 [s.stackPos, u.mc.mode.code, u.per.guard.code])).resumeRegionCmds := by
  subst hu
  refine congrArg Host.Outcome.next ((if_neg (by simp [hr, hother])).trans ?_)
  simp only [hseated, hmaster, Bool.not_true, Bool.false_eq_true, if_false, ne_eq, not_true_eq_false]

/-- A member that has waited long enough becomes master with the region lists of the others (R468, R469). -/
theorem stackElection_due {rs : List StackRegion} {u : State} (hr : s.stackRuns = true) (hmember : s.isMaster = false)
    (hdue : s.stk.lastHb + (s.fld GLB_STACK_CFG_ELECT_MS + 20 * s.stackPos) * 1000000 ≤ s.timeNs)
    (hu : u = (s.setMaster s.stackPos 2).setLive ((s.setMaster s.stackPos 2).stk.live ||| BitVec.twoPow 4 s.stackPos)) :
    exec (.stackElection rs) s = .next ((({ u with stk := { u.stk with ranges := rs.filter fun r => r.member != s.stackPos } }).emit
      (.stack 0 [s.stackPos])).resumeRegionCmds) := by
  subst hu
  exact congrArg Host.Outcome.next (if_neg (by simp [hr, hmember, hdue]))

/-- The master hands back to position 0 where that is live (R468). -/
theorem handback_first {who : Writer} (hr : s.stackRuns = true) (hmaster : s.isMaster = true) (hlive : s.stk.live.getLsbD 0 = true)
    (hpos : 0 < s.stackPos) : exec (.handback who false) s = .next ((s.setMaster 0 3).emit (.stack 3 [0])) := by
  have hfind : (List.range 4).find? (fun k => s.stk.live.getLsbD k) = some 0 := List.find?_cons_of_pos hlive
  change execHandback who false s = _
  simp only [execHandback, hfind, hr, hmaster, hpos, and_self, Bool.false_eq_true, if_false, if_true]

end Mastership

section Ranges

variable {s : State} {x : StackRegion} {i : Fin 4096}

/-- The ranges that the master compares a new one with: its own and those of the live members (R470). -/
def liveRanges (s : State) : List StackRegion := s.ownRanges ++ s.stk.ranges.filter fun r => s.stk.live.getLsbD r.member

variable (hr : s.stackRuns = true) (hother : x.member ≠ s.stackPos) (hmaster : s.isMaster = true)
include hr hother hmaster

theorem stackRangeCheck_accepted (hfree : stackClash (liveRanges s) x = none) : exec (.stackRangeCheck x i) s =
    .next (({ s with stk := { s.stk with ranges := s.stk.ranges ++ [x] } }).emit (.stack 4 [x.member, i.val, 1])) := by
  refine congrArg Host.Outcome.next ((if_neg (by simp [hr, hother])).trans ((if_neg (by simp [hmaster])).trans ?_))
  rw [liveRanges] at hfree
  rw [hfree]

theorem stackRangeCheck_refused {m f : Nat} (hclash : stackClash (liveRanges s) x = some (m, f)) : exec (.stackRangeCheck x i) s =
    .next ((s.log 0x8063 .notice srcStack i.val m f).emit (.stack 4 [x.member, i.val, 0])) := by
  refine congrArg Host.Outcome.next ((if_neg (by simp [hr, hother])).trans ((if_neg (by simp [hmaster])).trans ?_))
  rw [liveRanges] at hclash
  rw [hclash]

end Ranges

/-- Without a master for 1 s the commands that wait end with BUSY (R469). -/
theorem electionCommandTimeout_due {s : State} (hwait : s.stk.waiting ≠ []) (helect : s.electing = true)
    (hdue : s.stk.waitFrom + 10 ^ 9 ≤ s.timeNs) : exec .electionCommandTimeout s =
      .next (s.stk.waiting.foldl (fun s d => s.complete d.src .busy) { s with stk := { s.stk with waiting := [] } }) :=
  congrArg Host.Outcome.next (if_neg (not_or.mpr ⟨hwait, not_or.mpr ⟨by simp [helect], Nat.not_lt.mpr hdue⟩⟩))

/-- Settles O30: the lemmas above, by the message or timer. What a heartbeat carries and what an election does with the ranges are the
model's choices (log entry 86). -/
theorem stackService : Obligations.StackService := by
  refine ⟨?send, ?receive, ?election, ?handback, ?accepted, ?refused, ?timeout⟩
  case send =>
    rintro s _ hr hmaster hseated hsize hpos hmissed hlive rfl
    exact heartbeatSend_unanswered hr hmaster hseated hsize hpos hmissed hlive
  case receive => exact fun _ _ _ _ hr hother hseated hmaster hu => heartbeatReceive_ofMaster hr hother hseated hmaster hu
  case election => exact fun _ _ _ hr hmember hdue hu => stackElection_due hr hmember hdue hu
  case handback => exact fun _ _ hr hmaster hlive hpos => handback_first hr hmaster hlive hpos
  case accepted => exact fun _ _ _ hr hother hmaster hfree => stackRangeCheck_accepted hr hother hmaster hfree
  case refused => exact fun _ _ _ _ _ hr hother hmaster hclash => stackRangeCheck_refused hr hother hmaster hclash
  case timeout => exact fun _ hwait helect hdue => electionCommandTimeout_due hwait helect hdue

end Sys2Proof.Proofs
end

section
/-!
The management endpoint on the BMC buses: MCTP control, the buses and the vendor commands (R478 to R484, R487).
-/
namespace Sys2Proof.Proofs

open Machine Safety Laws

section Management

variable {s : State} {b : Fin 2}

/-- A new endpoint ID is kept, recorded and confirmed (R479, R490). -/
theorem setEndpointId_new {e : BitVec 8} (hbar : s.bmcBar = true) (h0 : e ≠ 0) (hff : e ≠ 0xFF) (hnew : s.mgmt.eid ≠ e) :
    exec (.setEndpointId b e) s =
      .next ((({ s with mgmt := { s.mgmt with eid := e } }).log 0x8071 .info srcMgmt e.toNat b.val).answer b 0x00 0x01 0 [e.toNat]) := by
  refine congrArg Host.Outcome.next ((island_runs hbar).trans ((if_neg (not_or.mpr ⟨h0, hff⟩)).trans ?_))
  simp only [hnew, ne_eq, not_false_eq_true, if_true]

/-- A bus that is not on the side asked for switches, and the switch is recorded with its cause (R478, R490). -/
theorem setBus_switches {i3c : Bool} (hbar : s.bmcBar = true) (hside : s.mgmt.i3c.getLsbD b.val ≠ i3c) (cause : Nat) :
    s.setBus b i3c cause =
      ({ s with mgmt := { s.mgmt with i3c := s.mgmt.i3c ^^^ BitVec.twoPow 2 b.val } }).log 0x8070 .notice srcMgmt b.val i3c.toNat cause :=
  if_neg (by simp [hbar, hside])

/-- A single word is read with its effect on read, by the island or by the control complex (R481, R482). -/
theorem regRead_word {off : BitVec 26} (h : managed s) (hoff : off.toNat % 4 = 0) :
    exec (.regRead b off 1) s = .next ((s.readWord true off.toNat).2.answer b 0x7F 0x01 0 [(s.readWord true off.toNat).1.toNat]) := by
  have hcount : ¬ ((1 : Fin 16).val = 0 ∨ 14 < (1 : Fin 16).val ∨ off.toNat % 4 ≠ 0) := by simp [hoff]
  refine congrArg Host.Outcome.next ?_
  dsimp only
  split
  case isTrue => exact island_runs h.1
  case isFalse => exact managed_runs h ..

theorem regWrite_open {off : BitVec 26} {v mask : Word} {env : RegEnv} (h : managed s) (hoff : off.toNat % 4 = 0)
    (hen : s.flag MGT_CTL_BMC_WRITE_EN = true) (hopen : bmcBarred off.toNat = false) :
    exec (.regWrite b off v mask env) s = .next ((s.writeWord .bmc off.toNat v mask env).answer b 0x7F 0x02 0) :=
  congrArg Host.Outcome.next ((managed_runs h ..).trans ((if_neg (not_not_intro hoff)).trans (if_neg (by simp [hen, hopen]))))

/-- A write that BMC_WRITE_EN or the register's place bars is not permitted (R483). -/
theorem regWrite_barred {off : BitVec 26} {v mask : Word} {env : RegEnv} (h : managed s) (hoff : off.toNat % 4 = 0)
    (hbar : s.flag MGT_CTL_BMC_WRITE_EN = false ∨ bmcBarred off.toNat = true) :
    exec (.regWrite b off v mask env) s = .next (s.answer b 0x7F 0x02 Status.notPermitted.code) :=
  congrArg Host.Outcome.next ((managed_runs h ..).trans ((if_neg (not_not_intro hoff)).trans (if_pos (by simpa using hbar))))

/-- One record is read as the eight words of its slot (R484). -/
theorem evtRead_slot {first : Fin 8192} (hbar : s.bmcBar = true) :
    exec (.evtRead b first 1) s = .next (s.answer b 0x7F 0x03 0 ((List.range 8).map fun k => (s.slotWord first.val k).toNat)) := by
  have hin : ¬ ((1 : Fin 8).val = 0 ∨ 8192 < first.val + (1 : Fin 8).val) := by simp
  refine congrArg Host.Outcome.next ((island_runs hbar).trans ((if_neg hin).trans ?_))
  exact congrArg _ (List.append_nil _)

end Management

/-- Settles O41: `island_runs` and `managed_runs` give who answers, the lemmas above what a request does. The codes of the DMTF
specifications in the answers are the model's (log entry 80). -/
theorem managementRequests : Obligations.ManagementRequests := by
  refine ⟨?setEid, ?queries, ?toI3c, ?toSmbus, ?read, ?write, ?barred, ?events, ?receiver⟩
  case setEid => exact fun _ _ _ hbar h0 hff hnew => setEndpointId_new hbar h0 hff hnew
  case queries =>
    exact fun _ _ hbar => ⟨congrArg Host.Outcome.next (island_runs hbar), congrArg Host.Outcome.next (island_runs hbar),
      congrArg Host.Outcome.next (island_runs hbar), congrArg Host.Outcome.next (if_pos hbar)⟩
  case toI3c =>
    rintro b s _ hbar hside rfl
    exact congrArg Host.Outcome.next (setBus_switches hbar (by simp [hside]) 1)
  case toSmbus =>
    rintro b s _ hbar hside rfl
    exact ⟨congrArg Host.Outcome.next (setBus_switches hbar (by simp [hside]) 2),
      congrArg Host.Outcome.next (setBus_switches hbar (by simp [hside]) 3)⟩
  case read => exact fun _ _ _ h hoff => regRead_word h hoff
  case write => exact fun _ _ _ _ _ _ h hoff hen hopen => regWrite_open h hoff hen hopen
  case barred => exact fun _ _ _ _ _ _ h hoff hbar => regWrite_barred h hoff hbar
  case events => exact fun _ _ _ hbar => evtRead_slot hbar
  case receiver => exact fun _ _ _ h => congrArg Host.Outcome.next (managed_runs h ..)

end Sys2Proof.Proofs
end

section
/-!
PLDM monitoring, control and firmware update on the BMC buses (R485, R486, R488).
-/
namespace Sys2Proof.Proofs

open Machine Safety Laws

section Monitoring

variable {s : State} {b : Fin 2}

theorem getPdr_listed {h : BitVec 32} {p : Pdr} (hm : managed s) (hp : (pdrs false)[h.toNat - 1]? = some p) :
    exec (.getPdr b false h) s = .next (s.answer b 0x01 0x251 0
      ((if h.toNat - 1 + 1 < (pdrs false).length then h.toNat - 1 + 2 else 0) :: p.words)) := by
  refine congrArg Host.Outcome.next ((managed_runs hm ..).trans ((if_neg nofun).trans ?_))
  simp only [hp]

theorem getSensorReading_available {id : BitVec 16} {v : Nat} (hm : managed s) (hv : s.numeric id.toNat = some (some v)) :
    exec (.getSensorReading b id) s = .next (s.answer b 0x01 0x211 0 [0, v]) := by
  refine congrArg Host.Outcome.next ((managed_runs hm ..).trans ?_)
  simp only [hv]

theorem getStateSensorReadings_available {id : BitVec 16} {v : Nat} (hm : managed s) (hv : s.stateSensor false id.toNat = some (some v)) :
    exec (.getStateSensorReadings b false id) s = .next (s.answer b 0x01 0x221 0 [0, v + 1]) := by
  refine congrArg Host.Outcome.next ((managed_runs hm ..).trans ((if_neg nofun).trans ?_))
  simp only [hv]

/-- The mode effecter asks for a mode at once where the I/O rail holds and the complex runs (R485; the four values are R486's). -/
theorem setModeEffecter {v : Fin 16} (hm : managed s) (hstandby : s.mc.mode ≠ .standby) (hv : v.val ∈ [0x2, 0x4, 0x7, 0xB]) :
    exec (.setStateEffecterStates b 0x200 v) s = .next (s.askMode v.val (.effecter b)) := by
  obtain ⟨hbar, hr, hbuf⟩ := hm
  have hio : s.pw.ioOk = true := (Bool.and_eq_true_iff.mp hbar).2
  have hgap : s.cc.gap = .none := eq_of_beq (Bool.and_eq_true_iff.mp hr).2
  have hv' : v.val = 0x2 ∨ v.val = 0x4 ∨ v.val = 0x7 ∨ v.val = 0xB := by simpa using hv
  refine congrArg Host.Outcome.next ((if_pos ⟨rfl, hv'⟩).trans ?_)
  exact (if_neg (by simp [hgap])).trans ((if_neg (by simp [hio, hstandby])).trans (request_runs hr hbuf))

/-- The bifurcation effecter of a port writes PRT_BIFUR.NEXT, and answers success where the field took the value (R261, R486). -/
theorem setBifurcationEffecter {p : Fin 8} {v : Fin 16} {t : State} (hm : managed s) (hv : v.val < 3)
    (ht : t = (s.writeFields .bmc .PRT_BIFUR p.val 0 0 (PRT_BIFUR_NEXT.put 0 v.val) PRT_BIFUR_NEXT.mask).2)
    (htaken : PRT_BIFUR_NEXT.get (t.view true .PRT_BIFUR p.val 0 0) = v.val) :
    exec (.setStateEffecterStates b (BitVec.ofNat 16 (0x210 + p.val)) v) s = .next (t.answer b 0x01 0x239 0) := by
  have hid : (BitVec.ofNat 16 (0x210 + p.val)).toNat = 0x210 + p.val := by simp; omega
  have hmode : ¬ (0x210 + p.val = 0x200 ∧ (v.val = 0x2 ∨ v.val = 0x4 ∨ v.val = 0x7 ∨ v.val = 0xB)) := by omega
  have hport : 0x210 ≤ 0x210 + p.val ∧ 0x210 + p.val < 0x218 := by omega
  subst ht
  change execSetStateEffecterStates _ _ _ _ = _
  simp only [execSetStateEffecterStates, hid, if_neg hmode, managed_runs hm, if_pos hport, Nat.add_sub_cancel_left, htaken, hv,
    decide_true, beq_self_eq_true, Bool.and_self, if_true]

end Monitoring

section Update

variable {s t : State} {b : Fin 2}

/-- A request for an update opens the BMC's session and asks for the first block (R400, R488). -/
theorem requestUpdate_opens {len : BitVec 24} {u : State} (hm : managed s) (hidle : s.flash.sess.st = .idle)
    (ht : t = { s with mgmt := { s.mgmt with fwBus := b.val } }) (hask : t.askSession 2 len.toNat = (.ok, u)) :
    exec (.requestUpdate b len) s = .next ((u.answer b 0x01 0x510 0).askData) := by
  subst ht
  refine congrArg Host.Outcome.next ((managed_runs hm ..).trans ((if_neg (not_not_intro hidle)).trans ?_))
  simp only [hask]

/-- A block that is taken is followed by the next request for data (R402, R488). -/
theorem requestFirmwareData_taken {off : BitVec 24} {bytes : List Byte} (hm : managed s) (hsource : s.flash.sess.source = 2)
    (hopened : s.flash.sess.st = .opened) (hlen : bytes.length ≤ 4096) (htake : s.takeBlock off.toNat bytes = (.ok, t)) :
    exec (.requestFirmwareData off bytes) s = .next t.askData := by
  obtain ⟨hbar, hr, hbuf⟩ := hm
  have hfits : ¬ (s.flash.sess.source ≠ 2 ∨ s.flash.sess.st ≠ .opened ∨ 4096 < bytes.length) := by simp [hsource, hopened, hlen]
  refine congrArg Host.Outcome.next ((if_neg (by simp [hbar])).trans ((request_runs hr hbuf).trans ((if_neg hfits).trans ?_)))
  simp only [htake]

theorem activateFirmware_online {time : BitVec 64} (hm : managed s) (hsess : s.bmcSession = true) (htime : time ≠ 0)
    (hask : s.requestActivation time.toNat = (.ok, t)) :
    exec (.activateFirmware b true time) s = .next (t.answer b 0x01 0x51A 0) := by
  refine congrArg Host.Outcome.next ((managed_runs hm ..).trans ((if_neg (by simp [hsess])).trans ?_))
  simp only [if_true, if_neg htime, hask]

theorem activateFirmware_offline {time : BitVec 64} (hm : managed s) (hsess : s.bmcSession = true) (hask : s.requestOffline = (.ok, t)) :
    exec (.activateFirmware b false time) s = .next (t.answer b 0x01 0x51A 0) := by
  refine congrArg Host.Outcome.next ((managed_runs hm ..).trans ((if_neg (by simp [hsess])).trans ?_))
  simp only [Bool.false_eq_true, if_false, if_true, hask]

theorem cancelUpdate_opened (hm : managed s) (hsess : s.bmcSession = true) (hopened : s.flash.sess.st = .opened) :
    exec (.cancelUpdate b) s = .next ((s.abortSession 2).answer b 0x01 0x51D 0) :=
  congrArg Host.Outcome.next ((managed_runs hm ..).trans ((if_neg (by simp [hsess])).trans (if_pos (.inl hopened))))

end Update

/-- Settles O42: `managed_runs` gives that the complex answers, the lemmas above what it answers. The codes of the DMTF specifications
are the model's (log entries 80, 91 and 92). -/
theorem pldmRequests : Obligations.PldmRequests := by
  refine ⟨?pdr, ?numeric, ?stateSensor, ?mode, ?bifurcation, ?update, ?data, ?online, ?offline, ?cancel, ?queries⟩
  case pdr => exact fun _ _ _ _ hm hp => getPdr_listed hm hp
  case numeric => exact fun _ _ _ _ hm hv => getSensorReading_available hm hv
  case stateSensor => exact fun _ _ _ _ hm hv => getStateSensorReadings_available hm hv
  case mode => exact fun _ _ _ hm hstandby hv => setModeEffecter hm hstandby hv
  case bifurcation => exact fun _ _ _ _ _ hm hv ht htaken => setBifurcationEffecter hm hv ht htaken
  case update => exact fun _ _ _ _ _ hm hidle ht hask => requestUpdate_opens hm hidle ht hask
  case data => exact fun _ _ _ _ hm hsource hopened hlen htake => requestFirmwareData_taken hm hsource hopened hlen htake
  case online => exact fun _ _ _ _ hm hsess htime hask => activateFirmware_online hm hsess htime hask
  case offline => exact fun _ _ _ _ hm hsess hask => activateFirmware_offline hm hsess hask
  case cancel => exact fun _ _ hm hsess hopened => cancelUpdate_opened hm hsess hopened
  case queries => exact fun _ _ hm => ⟨congrArg Host.Outcome.next (managed_runs hm ..), congrArg Host.Outcome.next (managed_runs hm ..)⟩

end Sys2Proof.Proofs
end

section
/-!
The power sequences: wakes, the power-up sequence, its failure and the supplies of the island (R31, R496 to R498, R502).
-/
namespace Sys2Proof.Proofs

open Machine Safety Laws

section Wakes

variable {s : State}

theorem vddAonLost_unsaved (hm : s.mc.mode ≠ .save) : exec .vddAonLost s = .next { s with
    mc := { s.mc with mode := .off }
    pw := { s.pw with aonOk := false, railEn := 0, railOk := 0, seqRail := none, seqRaised := 0, seqReady := false, pendingWake := none } } := by
  change execVddAonLost s = _
  simp only [execVddAonLost, hm, false_and, if_false]

/-- A wake starts the sequence where both board signals are high, and waits otherwise (R497). -/
theorem wake_standby (hm : s.mc.mode = .standby) (hseq : s.sequencing = false) (w : PendingWake) :
    s.wake w = if s.pw.brdPg && s.pw.pwrFailN then s.startSequence else { s with pw := { s.pw with pendingWake := some w } } :=
  if_neg (by simp [hm, hseq])

/-- With no wake pending the sequence starts at its first enable (R497). -/
theorem startSequence_eq (hw : s.pw.pendingWake = none) :
    s.startSequence = ({ s with pw := { s.pw with seqRaised := 0, seqReady := false } }).raiseRail 0 := by
  have hpw : { s.pw with pendingWake := none, seqRaised := 0, seqReady := false } = { s.pw with seqRaised := 0, seqReady := false } := by
    rw [← hw]
  rw [State.startSequence, hw]
  exact congrArg (fun pw => ({ s with pw := pw } : State).raiseRail 0) hpw

theorem wakeSource_boardRise (hm : s.mc.mode = .standby) (hseq : s.sequencing = false) (hfail : s.pw.pwrFailN = true)
    (hw : s.pw.pendingWake = none) :
    exec (.wakeSource .boardRise) s =
      .next (({ s with pw := { s.pw with brdPg := true, seqRaised := 0, seqReady := false } }).raiseRail 0) :=
  congrArg Host.Outcome.next ((wake_standby (s := { s with pw := { s.pw with brdPg := true } }) hm hseq _).trans
    ((if_pos hfail).trans (startSequence_eq (s := { s with pw := { s.pw with brdPg := true } }) hw)))

theorem wakeSource_mgmt_waits (hm : s.mc.mode = .standby) (hseq : s.sequencing = false) (hpg : s.pw.brdPg = false) :
    exec (.wakeSource .mgmt) s = .next { s with pw := { s.pw with pendingWake := some (.mgmt .itself) } } :=
  congrArg Host.Outcome.next ((wake_standby hm hseq _).trans (if_neg (by simp [hpg])))

theorem pendingWakeTimeout_refused (hw : s.pw.pendingWake = some (.mgmt .itself)) :
    exec .pendingWakeTimeout s = .next ((({ s with pw := { s.pw with pendingWake := none } }).refuseMode 0x2 .bmc .notPermitted).answerMode
      .itself .notPermitted) := by
  change execPendingWakeTimeout s = _
  rw [execPendingWakeTimeout, hw]

/-- No wake that is pending starts a sequence outside STANDBY, or where none is pending (R497). -/
theorem tryPending_idle (h : s.mc.mode ≠ .standby ∨ s.pw.pendingWake = none) : s.tryPending = s := by
  refine if_neg fun ⟨hm, hw, _⟩ => ?_
  rcases h with h | h
  · exact h hm
  · simp [h] at hw

end Wakes

section Rails

variable {s : State} {r : Fin 6}

theorem railInRange_next (hr : s.pw.seqRail = some r) :
    exec .railInRange s =
      .next (({ s with pw := { s.pw with railOk := s.pw.railOk ||| BitVec.ofNat 6 (2 ^ r.val) } }).raiseRail (r.val + 1)) := by
  change execRailInRange s = _
  rw [execRailInRange, hr]

/-- A rail that stays out of range lowers the enables that the sequence raised, and is recorded (R498). -/
theorem pwrSeqFail_abandons {us : Nat} (hr : s.pw.seqRail = some r) : exec (.pwrSeqFail us) s = .next (({ s with pw := { s.pw with
    railEn := s.pw.railEn &&& ~~~ s.pw.seqRaised, railOk := s.pw.railOk &&& (s.pw.railEn &&& ~~~ s.pw.seqRaised), seqRail := none
    seqRaised := 0, seqReady := false, failRail := BitVec.ofNat 3 r.val } }).log 0x9020 .error srcPower r.val us) := by
  have hseq : s.sequencing = true := by simp [State.sequencing, hr]
  change execPwrSeqFail us s = _
  simp only [execPwrSeqFail, hr, State.abandonSequence, hseq, if_true]

theorem brdPgFall_idle (hseq : s.sequencing = false) : exec .brdPgFall s = .next { s with pw := { s.pw with
    brdPg := false, mainBack := false, pendingWake := if s.pw.pendingWake = some .board then none else s.pw.pendingWake } } := by
  have habandon : s.abandonSequence = s := if_neg (ne_true_of_eq_false hseq)
  change execBrdPgFall s = _
  simp only [execBrdPgFall, habandon]

/-- The first failure to confirm a voltage is retried (R496). -/
theorem avsConfirmTimeout_retries {mv sensed : Nat} (hreq : s.pw.avsReq = none) :
    exec (.avsConfirmTimeout mv sensed) s = .next { s with pw := { s.pw with avsReq := some mv, avsRetried := true } } := by
  change execAvsConfirmTimeout mv sensed s = _
  rw [execAvsConfirmTimeout, hreq]

/-- The second is a fault, with the voltage asked for and the one sensed (R496). -/
theorem avsConfirmTimeout_faults {mv sensed v : Nat} (hreq : s.pw.avsReq = some v) :
    exec (.avsConfirmTimeout mv sensed) s =
      .next (({ s with pw := { s.pw with avsReq := none, avsRetried := false } }).log 0x9022 .error srcPower v sensed) := by
  change execAvsConfirmTimeout mv sensed s = _
  rw [execAvsConfirmTimeout, hreq]

end Rails

/-- Settles O10: `wake_standby` and `startSequence_eq` give what a wake does, the lemmas of the rails the rest of the sequence. -/
theorem powerSequence : Obligations.PowerSequence := by
  refine ⟨?on, ?lost, ?boardRise, ?mgmt, ?timeout, ?inRange, ?release, ?fails, ?fall, ?rise, ?back, ?crystal, ?ioLost, ?ioReturn, ?retry,
    ?fault⟩
  case on => exact fun _ _ hm => congrArg Host.Outcome.next (if_pos hm)
  case lost => exact fun _ hm => vddAonLost_unsaved hm
  case boardRise => exact fun _ hm hseq hfail hw => wakeSource_boardRise hm hseq hfail hw
  case mgmt => exact fun _ hm hseq hpg => wakeSource_mgmt_waits hm hseq hpg
  case timeout => exact fun _ hw => pendingWakeTimeout_refused hw
  case inRange => exact fun _ _ hr => railInRange_next hr
  case release => exact fun _ _ hm hready => congrArg Host.Outcome.next (if_pos ⟨hm, hready⟩)
  case fails => exact fun _ _ _ hr => pwrSeqFail_abandons hr
  case fall => exact fun _ hseq => brdPgFall_idle hseq
  case rise => exact fun _ hw => congrArg Host.Outcome.next (tryPending_idle (.inr hw))
  case back => exact fun _ hm => congrArg Host.Outcome.next (tryPending_idle (.inl hm))
  case crystal => exact fun _ => rfl
  case ioLost => exact fun _ => rfl
  case ioReturn => exact fun _ => rfl
  case retry => exact fun _ _ _ hreq => avsConfirmTimeout_retries hreq
  case fault => exact fun _ _ _ _ hreq => avsConfirmTimeout_faults hreq

end Sys2Proof.Proofs
end

section
/-!
Power loss, resets and the lock of the timebase (R31, R500, R506 to R508).
-/
namespace Sys2Proof.Proofs

open Machine Safety Laws

section PowerLoss

variable {s : State} {straps : Straps}

/-- A power failure saves what a serving mode holds (R500). -/
theorem mainPowerFails_service (hm : s.mc.mode = .service) (t : Trigger) : s.mainPowerFails t straps = s.startSave t := by
  rw [State.mainPowerFails, hm]

/-- It powers MAINTENANCE down (R500). -/
theorem mainPowerFails_maintenance (hm : s.mc.mode = .maintenance) (t : Trigger) : s.mainPowerFails t straps = s.enterStandby t straps := by
  rw [State.mainPowerFails, hm]

theorem powerFail_service (hm : s.mc.mode = .service) :
    exec (.powerFail straps) s = .next (({ s with pw := { s.pw with pwrFailN := false, mainBack := false } }).startSave .pwrFail) :=
  congrArg Host.Outcome.next (mainPowerFails_service (s := { s with pw := { s.pw with pwrFailN := false, mainBack := false } }) hm _)

theorem powerFail_maintenance (hm : s.mc.mode = .maintenance) : exec (.powerFail straps) s =
    .next (({ s with pw := { s.pw with pwrFailN := false, mainBack := false } }).enterStandby .pwrFail straps) :=
  congrArg Host.Outcome.next (mainPowerFails_maintenance (s := { s with pw := { s.pw with pwrFailN := false, mainBack := false } }) hm _)

theorem railMonitorTrip_service (hm : s.mc.mode = .service) (hen : s.pw.railEn.getLsbD 0 = true) :
    exec (.railMonitorTrip 0 false straps) s = .next (s.startSave .railTrip) :=
  congrArg Host.Outcome.next ((if_neg (by simp [hen, savesOn])).trans ((if_neg nofun).trans (mainPowerFails_service hm _)))

end PowerLoss

section Resets

variable {s : State} {straps : Straps}

/-- SYS_RST_N in a mode that does not take it is held, and recorded once (R508). -/
theorem sysRstN_service (hm : s.mc.mode = .service) (hheld : s.pw.rstHeld = false) :
    exec (.sysRstN straps) s = .next (({ s with pw := { s.pw with rstLow := true, rstHeld := true } }).log 0x8080 .notice srcPower 4) := by
  change execSysRstN straps s = _
  simp only [execSysRstN, hm, hheld, Mode.takesReset, Mode.code, Bool.false_eq_true, if_false, reduceCtorEq]

/-- A reset that is honoured in MAINTENANCE goes through BOOT (R508). -/
theorem honourReset_maintenance (hm : s.mc.mode = .maintenance) : s.honourReset straps = s.enterBoot .reset straps 2 := by
  rw [State.honourReset, hm]

theorem sysRstN_maintenance (hm : s.mc.mode = .maintenance) :
    exec (.sysRstN straps) s = .next (({ s with pw := { s.pw with rstLow := true } }).enterBoot .reset straps 2) := by
  refine congrArg Host.Outcome.next ((if_neg (by simp [hm])).trans ((if_pos (by simp [hm, Mode.takesReset])).trans ?_))
  exact honourReset_maintenance hm

theorem heldResetApply_maintenance (hm : s.mc.mode = .maintenance) (hheld : s.pw.rstHeld = true) :
    exec (.heldResetApply straps) s = .next (({ s with pw := { s.pw with rstHeld := false } }).enterBoot .reset straps 2) :=
  congrArg Host.Outcome.next ((if_pos ⟨hheld, by simp [hm, Mode.takesReset]⟩).trans (honourReset_maintenance hm))

theorem soft_maintenance {who : Writer} (hm : s.mc.mode = .maintenance) : exec (.soft who straps) s = .next (s.enterBoot .reset straps 3) := by
  change execSoft who straps s = _
  rw [execSoft, hm]

theorem soft_service {who : Writer} (hm : s.mc.mode = .service) :
    exec (.soft who straps) s = .next (s.reject (RegName.GLB_RST_CTL.offset 0 0 0) 1 6 who) := by
  change execSoft who straps s = _
  rw [execSoft, hm]

end Resets

section Timebase

variable {s : State}

theorem log_flash (code : Nat) (sev : Sev) (src w4 w5 w6 w7 : Nat) : (s.log code sev src w4 w5 w6 w7).flash = s.flash :=
  (congrArg State.flash (log_besideLog (s := s) code sev src w4 w5 w6 w7) :)

/-- The lock of the timebase changes and is recorded (R506). -/
theorem setTimebase_changes {on : Bool} (h : s.clk.tbLock ≠ on) (off : Int) : s.setTimebase on off =
    ({ s with clk := { s.clk with tbLock := on, timeKnown := s.clk.timeKnown || on, tbOffset := BitVec.ofInt 32 off } }).log
      0x9024 .notice srcPower (if on then 1 else 0) (BitVec.ofInt 32 off).toNat :=
  if_neg h

/-- With the lock the device time is the timebase, and no idle session goes on (R411, R506). -/
theorem timebaseLock_idle {off : Int} {time : Nat} (hlock : s.clk.tbLock = false) (hidle : s.flash.sess.st = .idle) :
    exec (.timebaseLock off time) s = .next (({ s with
      timeNs := time, clk := { s.clk with tbLock := true, timeKnown := true, tbOffset := BitVec.ofInt 32 off } }).log
        0x9024 .notice srcPower 1 (BitVec.ofInt 32 off).toNat) := by
  have hset := setTimebase_changes (s := { s with timeNs := time }) (on := true) (ne_true_of_eq_false hlock) off
  simp only [Bool.or_true, if_true] at hset
  change execTimebaseLock off time s = _
  simp only [execTimebaseLock, hset, log_flash, hidle, reduceCtorEq, false_and, if_false]

theorem timebaseUnlock_locked {off : Int} (hlock : s.clk.tbLock = true) :
    exec (.timebaseUnlock off) s = .next (({ s with clk := { s.clk with tbLock := false, tbOffset := BitVec.ofInt 32 off } }).log
      0x9024 .notice srcPower 0 (BitVec.ofInt 32 off).toNat) := by
  have hset := setTimebase_changes (s := s) (on := false) (by simp [hlock]) off
  simp only [Bool.or_false, Bool.false_eq_true, if_false] at hset
  exact congrArg Host.Outcome.next hset

end Timebase

/-- Settles O11: the lemmas above, by what fails, resets or locks. -/
theorem powerLossAndResets : Obligations.PowerLossAndResets := by
  refine ⟨?failService, ?failMaintenance, ?trip, ?held, ?reset, ?release, ?apply, ?soft, ?softRefused, ?trst, ?exit, ?recovery, ?lock,
    ?unlock⟩
  case failService => exact fun _ _ hm => powerFail_service hm
  case failMaintenance => exact fun _ _ hm => powerFail_maintenance hm
  case trip => exact fun _ _ hm hen => railMonitorTrip_service hm hen
  case held => exact fun _ _ hm hheld => sysRstN_service hm hheld
  case reset => exact fun _ _ hm => sysRstN_maintenance hm
  case release => exact fun _ => rfl
  case apply => exact fun _ _ hm hheld => heldResetApply_maintenance hm hheld
  case soft => exact fun _ _ _ hm => soft_maintenance hm
  case softRefused => exact fun _ _ _ hm => soft_service hm
  case trst => exact fun _ => rfl
  case exit => exact fun _ _ hm hbist => congrArg Host.Outcome.next (if_pos ⟨hm, hbist⟩)
  case recovery => exact fun _ _ hm => congrArg Host.Outcome.next (if_pos hm)
  case lock => exact fun _ _ _ hlock hidle => timebaseLock_idle hlock hidle
  case unlock => exact fun _ _ hlock => timebaseUnlock_locked hlock

end Sys2Proof.Proofs
end

section
/-!
Register reads and writes, accesses to unlisted offsets, and the set-up lock (R526 to R530, R534).
-/
namespace Sys2Proof.Proofs

open Machine Safety Laws

section Reads

variable {s : State} {off : Nat} {bmc : Bool}

/-- An aligned read of 32 bits is a read of the word (R527). -/
theorem readBar_word (hoff : off % 4 = 0) :
    s.readBar bmc off 4 = ([(s.readWord bmc off).1.toNat % 2 ^ 32], (s.readWord bmc off).2) := by
  have halign : off / 4 * 4 = off := by omega
  refine (if_neg (by simp)).trans ((if_pos (by omega)).trans ?_)
  simp only [hoff, halign, Nat.mul_zero, Nat.pow_zero, Nat.div_one]

variable {r : RegName} {i j w : Nat} (hloc : locateReg off = some (r, i, j, w)) (hlayby : r ≠ .TIER_LAYBY_STAT) (hmap : r ≠ .NF_MAP)
include hloc hlayby hmap

/-- The host reads the view of a word, and clears its read-to-clear fields (R526, R527). -/
theorem readWord_host : s.readWord false off = (s.view false r i j w,
    if (r.fields.filter fun f => f.acc == .rc && f.word == w) = [] then s
    else ((r.fields.filter fun f => f.acc == .rc && f.word == w).foldl (fun s f => s.setFld f 0 i j) s).clearKept r i
      (s.view false r i j w)) := by
  rw [State.readWord, hloc]
  simp only [Bool.false_and, Bool.or_false, List.isEmpty_iff]
  split <;> rfl

end Reads

section Accesses

variable {s : State} {off : BitVec 26}

/-- An aligned 32-bit read of the host returns the word (R527). -/
theorem hostRead_word (hbar : s.hostBar = true) (hoff : off.toNat % 4 = 0) : exec (.counterReadClear false off 4) s =
    .next ((s.readWord false off.toNat).2.emit (.regData false off.toNat [(s.readWord false off.toNat).1.toNat % 2 ^ 32])) := by
  refine congrArg Host.Outcome.next ((if_neg (by simp [hbar])).trans ?_)
  exact congrArg (fun x : List Nat × State => x.2.emit (.regData false off.toNat x.1)) (readBar_word hoff)

/-- Where every path to the registers is open, a write reaches them whoever makes it (R481, R530; log entry 89). -/
theorem registerWrite_reaches {who : Writer} {n : Fin 9} {v : BitVec 64} {env : RegEnv} (hhost : s.hostBar = true) (hbmc : s.bmcBar = true)
    (hr : s.ccRuns = true) : exec (.registerWrite who off n v env) s = .next (s.writeBar who off.toNat n.val v env) := by
  refine congrArg Host.Outcome.next ?_
  cases who
  case host => exact if_neg (by simp [hhost])
  case bmc => exact if_neg (by simp [hbmc])
  case firmware => exact if_neg (by simp [hr])

/-- A read or write of an offset that no register lists counts in UNMAPPED; a read returns 0 (R526). -/
theorem unlistedAccess_word (hbar : s.hostBar = true) (hnone : locateReg (off.toNat / 4 * 4) = none) (write : Bool) :
    exec (.unlistedAccess false write off false) s =
      .next (if write then s.addFld GLB_ACC_ERR_UNMAPPED 1
        else (s.addFld GLB_ACC_ERR_UNMAPPED 1).emit (.regData false (off.toNat / 4 * 4) [0])) :=
  congrArg Host.Outcome.next (if_neg (by simp [hbar, hnone]))

/-- The lock is set once, with its setter (R534). -/
theorem setLock_open (hopen : s.flag GLB_LOCK_LOCK = false) (setter : Nat) :
    s.setLock setter = (s.setFld GLB_LOCK_LOCK 1).setFld GLB_LOCK_SETTER setter :=
  if_neg (ne_true_of_eq_false hopen)

/-- The lock sets itself once its time in service has passed (R534). -/
theorem autoLock_due {t : Nat} (ht : s.regu.serviceAt = some t) (hmin : s.fld GLB_LOCK_AUTO_LOCK_MIN ≠ 0)
    (hdue : t + s.fld GLB_LOCK_AUTO_LOCK_MIN * 60 * 10 ^ 9 ≤ s.timeNs) (hopen : s.flag GLB_LOCK_LOCK = false) :
    exec .autoLock s = .next ((s.setFld GLB_LOCK_LOCK 1).setFld GLB_LOCK_SETTER 3) := by
  have hnot : ¬ (s.fld GLB_LOCK_AUTO_LOCK_MIN = 0 ∨ s.timeNs < t + s.fld GLB_LOCK_AUTO_LOCK_MIN * 60 * 10 ^ 9) :=
    not_or.mpr ⟨hmin, Nat.not_lt.mpr hdue⟩
  change execAutoLock s = _
  simp only [execAutoLock, ht, if_neg hnot, setLock_open hopen]

end Accesses

/-- Settles O27: `readWord_host` gives what a read does, `registerWrite_reaches` that a write arrives, and the lemmas above the rest. Who
reaches the registers in which mode, and what a write meets there, are the model's choices (log entries 89 and 88). -/
theorem registerAccess : Obligations.RegisterAccess := by
  refine ⟨?read, ?clear, ?write, ?partialWrite, ?unlisted, ?lock, ?auto⟩
  case read =>
    rintro off _ r i j w s hbar hoff hloc hrc hlayby hmap rfl
    rw [hostRead_word hbar hoff, readWord_host hloc hlayby hmap, if_pos hrc]
  case clear =>
    intro off r i j w s hbar hoff hloc hrc hlayby hmap
    rw [hostRead_word hbar hoff, readWord_host hloc hlayby hmap, if_neg hrc]
  case write =>
    intro who off v env s hhost hbmc hr hoff
    exact (registerWrite_reaches hhost hbmc hr).trans (congrArg Host.Outcome.next (if_pos ⟨hoff, rfl⟩))
  case partialWrite =>
    intro who off v env s hhost hbmc hr hoff
    exact (registerWrite_reaches hhost hbmc hr).trans
      (congrArg Host.Outcome.next ((if_neg fun h => hoff h.1).trans (if_neg fun h => hoff h.1)))
  case unlisted => exact fun _ _ hbar hnone => ⟨unlistedAccess_word hbar hnone true, unlistedAccess_word hbar hnone false⟩
  case lock => exact fun _ hbar hopen => congrArg Host.Outcome.next ((if_neg (by simp [hbar])).trans (setLock_open hopen 1))
  case auto => exact fun _ _ ht hmin hdue hopen => autoLock_due ht hmin hdue hopen

end Sys2Proof.Proofs
end
